-- ==== Sys2Proof/Word.lean ====
section
/-! DEFINITION. The word types of the module and the plainest descriptions built on them: a 32-bit register word
(R9), a byte, the access codes of Table 0.3 (R10), and a reference to a bit field of a word. -/
namespace Sys2Proof

/-- A register or table word (R9). -/
abbrev Word := BitVec 32
/-- A byte of a memory. -/
abbrev Byte := BitVec 8

/-- The access codes of Table 0.3 (R10), RSV apart: RSV is a bit no field covers. -/
inductive Acc where
  | ro | rw | rwl | w1c | w1s | rc | wo
deriving DecidableEq, Repr

/-- One field of a register's description: where it stands, how it is accessed, what it resets to. -/
structure FieldDesc where
  lsb : Nat
  width : Nat
  acc : Acc
  reset : Nat
deriving DecidableEq, Repr

/-- A reference to a bit field of a word of the word store. -/
structure Fld where
  key : Nat
  lsb : Nat
  width : Nat
deriving DecidableEq, Repr

/-- The key of a table-memory word: block index and table address (R503). -/
abbrev tabKey (b a : Nat) : Nat := (b + 1) * 0x10000000000 + a

end Sys2Proof
end

