-- ==== Sys2Proof/Syntax.lean ====
section
/-! DEFINITION. The commands the module takes, one constructor per row of spec/opcode_table.json, and the plain data
their operands carry. Every command carries `dt`, the clocks of the 250 MHz time base that have passed since the command
before it (0: the same clock); see log entry 1. What comes from outside the module (frames, samples, levels, verdicts of
the cryptography, results of the numeric solvers) is an operand; see log entry 6. -/
namespace Sys2Proof

/-- The three variants (R1, R2, Table 0.1). -/
inductive Variant where
  | zkv4280 | zkv4260 | zkv4240
deriving DecidableEq, Repr

/-- A requester of the register space (R505): a real-time complex or a KMP session. -/
inductive Rq where
  | cxA
  | cxB
  | kmp (session : Nat)
deriving DecidableEq, Repr

/-- SYS_REQ.REQ's code of a requester (Table 21.3). -/
def Rq.num : Rq → Nat
  | .cxA => 0
  | .cxB => 1
  | .kmp n => 4 + n

/-- Which of the two station ports or fabric ports a frame arrived on, and its addressing as SIO compares it (R93). -/
structure SspHeader where
  port : Nat
  /-- source address, port and STATION all match the same enabled entry (R93); decided from the received UDP/IP header -/
  addrOk : Bool
  /-- UDP checksum good, or an IPv4 frame with checksum 0 (R93) -/
  sumOk : Bool
  version : Nat
  type : Nat
  flags : BitVec 8
  station : Nat
  session : Nat
  dir : Bool
  counter : Nat
  len : Nat
  /-- length of the UDP payload less header and tag (R95) -/
  udpLen : Nat
  /-- the AES-256-GMAC tag verifies under the key the frame type names (R94) -/
  tagOk : Bool
  /-- MAC receive time-stamp, module seconds and nanoseconds (R101) -/
  rxSec : Nat
  rxNs : Nat
deriving DecidableEq, Repr

/-- A REQUEST or RESPONSE body (Table 4.3). -/
structure SspBody where
  origin : Nat
  seq : Nat
  cls : Nat
  op : Nat
  index : Nat
  status : Nat
  data : List Byte
deriving DecidableEq, Repr

/-- An upstream island frame as received (Table 2.2). `crcOk` is the verdict on its CRC-32C; `shifted` are the three voltages after the
127-tap Hilbert filter (Q24 fractions of full scale), whose taps the spec does not state, and `step` the fundamental angle steps of
the voltage channels in 0.1°, whose computation it does not state: both enter as data (log entry 6). -/
structure IslandFrame where
  isl : Nat
  seq : Nat
  status : Nat
  ftype : Nat
  samples : List Int
  crcOk : Bool
  shifted : List Int
  step : List Int
deriving DecidableEq, Repr

/-- What the numeric estimation of one network layer answers (R233 to R235, R240): converged within its tolerance, iterations; thermal
layers: junction pressures by node and flows by branch; layer 2: bus magnitude [V, line to neutral] and angle [°], branch P and Q at
FROM [kW, kvar], bus injections P and Q; binary32, by index in the layer. -/
structure NsvLayer where
  conv : Bool
  iters : Nat
  node : List (Nat × Word × Word)
  branch : List (Nat × Word × Word)
  inj : List (Nat × Word × Word)
deriving DecidableEq, Repr

/-- What the numeric solution of an interior-point solve answers (R264, R265): converged; a certificate of infeasibility; all three measures
within DOP_ACC_TOL; iterations; objective; x_t (0 to N) and u_t (0 to N − 1); the duals μ of the fixed intertie variables by neighbour
entry, variable after variable, N values each (R273). -/
structure DopSol where
  conv : Bool
  infeas : Bool
  acc : Bool
  iters : Nat
  obj : Word
  x : List (List Word)
  u : List (List Word)
  mu : List (Nat × List Word)
deriving DecidableEq, Repr

/-- A coupling fragment (Table 10.5). -/
structure CouplingFragment where
  itie : Nat
  epoch : Nat
  iter : Nat
  conv : Bool
  done : Bool
  price : Bool
  k : Nat
  nv : Nat
  n : Nat
  stepMin : Nat
  rho : Word
  values : List Word
deriving DecidableEq, Repr

/-- A Pellizan frame (Table 12.2): KIND, CLASS, REP, PATH_B, ACKREQ, DST, SRC, HC, HLIM, SEQ, ROUTE, LCTR, SVC, payload. -/
structure FabFrame where
  kind : Nat
  cls : Nat
  rep : Bool
  pathB : Bool
  ackreq : Bool
  dst : Nat
  src : Nat
  hc : Nat
  hlim : Nat
  seq : Nat
  route : Nat
  lctr : Nat
  svc : Nat
  payload : List Byte
deriving DecidableEq, Repr

/-- What goes with a received frame: the port; whether its EtherType is FAB_CFG.ETYPE; its version; whether LEN agrees with the frame and no
reserved bit is set; whether its tag verifies; the egress ports that send nothing at the moment (R322); the local firmware's part:
whether it runs the service, is busy, and its answer's data (R323). -/
structure FabRx where
  port : Nat
  ours : Bool
  version : Nat
  lenOk : Bool
  rsvOk : Bool
  tagOk : Bool
  idle : List Nat
  runs : Bool
  busy : Bool
  data : List Byte
deriving DecidableEq, Repr

/-- What every PTP message carries (R338): the port it came on (0 to 3 fabric, 4 and 5 station ports 0 and 1), whether the profile
supports it, its domainNumber and sequenceId. -/
structure PtpHead where
  port : Nat
  supported : Bool
  domain : Nat
  seq : Nat
deriving DecidableEq, Repr

/-- An Announce's data set (IEEE 1588-2019; R339). -/
structure PtpAnnounce where
  prio1 : Nat
  cls : Nat
  accuracy : Nat
  variance : Nat
  prio2 : Nat
  identity : Nat
  steps : Nat
  sender : Nat
deriving DecidableEq, Repr

/-- A trajectory fragment (Table 10.6). -/
structure TrajFragment where
  plan : Nat
  aSec : Nat
  aNs : Nat
  b0Sec : Nat
  stepMin : Nat
  n : Nat
  rch : Nat
  cnt : Nat
  values : List Word
deriving DecidableEq, Repr

/-- A record of an image's section (R395): a register, a table run, a fill, an area run, or one that is malformed (KIND outside 1 to 4,
a bit that must be 0, a count outside its range, or a length past the section). -/
inductive CfgRec where
  | reg (addr : Nat) (v : Word)
  | tab (blk addr : Nat) (ws : List Word)
  | fill (blk addr n : Nat) (w : Word)
  | area (area ofs : Nat) (ws : List Word)
  | bad
deriving DecidableEq, Repr

/-- A section of an image (Tables 16.2, 16.3): its TYPE and SECT_ID, flags, whether it could be read, its SHA-384 and (for an encrypted
one) its GCM tag matched, its records; for DRAM_MAP the entries (AREA, SIZE, BASE), whether their reserved bits are 0. -/
structure CfgSection where
  type : Nat
  sectId : Nat
  optional : Bool
  enc : Bool
  readOk : Bool
  hashOk : Bool
  tagOk : Bool
  recs : List CfgRec
  map : List (Nat × Nat × Nat)
  mapOk : Bool
deriving DecidableEq, Repr

/-- An image's header as read (R391): read error, format checks, DEVID, IMG_GEN, IMG_ID, IMG_LEN, SHA-384 of CKEY,
whether CAP_SIG verifies. -/
structure CfgHeader where
  readOk : Bool
  formatOk : Bool
  devid : Nat
  gen : Nat
  id : Nat
  len : Nat
  keyHash : List Byte
  capSigOk : Bool
deriving DecidableEq, Repr

/-- An image (R390 to R395): its header, whether IMG_SIG verifies and the directory obeys R392, its sections in directory order, the cap
section first; whether its symbolic structure matches its network tables (R224) and the factor entries of layers 0 and 1 (R247). -/
structure CfgImage where
  hdr : CfgHeader
  sigOk : Bool
  dirOk : Bool
  sections : List CfgSection
  symOk : Bool
  factors : List Nat
deriving DecidableEq, Repr

/-- Who asks KEY for a key (R450): SIO for a station's K_st, FAB for K_fab, KMP for its TLS identity. -/
inductive KeyUser where
  | sio (stn : Nat)
  | fab (port : Nat)
  | kmp
deriving DecidableEq, Repr

/-- What KEY's cryptography finds in a key update message (R455 to R457): SHA-384 of SIGNER, whether SIG verifies, the transport payload
decrypted (none where the GCM tag fails), whether a MITTEN_SET mitten unwraps. -/
structure KeyVerdict where
  signer : List Byte
  sigOk : Bool
  plain : Option (List Byte)
  unwrapOk : Bool
deriving DecidableEq, Repr

/-- What UPD's cryptography and storage find (R467, R470, R475): SHA-384 of SIGNER, whether SIG verifies, SHA-384 of the chunk, whether
the NAND held it, the image header of a complete configuration payload as read. -/
structure UpdVerdict where
  signer : List Byte
  sigOk : Bool
  sha : List Byte
  nandOk : Bool
  image : CfgHeader
deriving DecidableEq, Repr

/-- An operation of a KMP request (Table 21.4): OP as received, COUNT, ADDR, the data words that follow. -/
structure KmpOp where
  op : Nat
  count : Nat
  addr : Nat
  data : List Word
deriving DecidableEq, Repr

/-- The commands of spec/opcode_table.json. -/
inductive Instr where
  /-- REG_WRITE (R536): A requester writes a register word that has no row of its own; each field acts by its own access code. -/
  | regWrite (dt : Nat) (rq : Rq) (size : Nat) (addr : Nat) (v : Word)
  /-- READ_CLEAR (R12): A performed read of an RC register returns its value and clears it. -/
  | readClear (dt : Nat) (rq : Rq) (addr : Nat)
  /-- TAB_DATA_READ (R506): A read of a TAB_DATA or window data register returns the word at the requester's address and advances it by 4. -/
  | tabDataRead (dt : Nat) (rq : Rq) (addr : Nat)
  /-- CYC_HOST_WRITE (R138): A host write through CYC_TAB_DATA changes the global variable area only inside the host-writable window and otherwise sets CYC_ERR.RANGE. -/
  | cycHostWrite (dt : Nat) (rq : Rq) (v : Word)
  /-- LPE_TAB_DATA_WRITE (R180): A write through LPE_TAB_DATA to a coefficient or gain word is accepted only while the slot is open or safe with no request held, else COEF_REJ. -/
  | lpeTabDataWrite (dt : Nat) (rq : Rq) (v : Word)
  /-- MPG_TAB_DATA_WRITE (R222): A write through MPG_TAB_DATA writes the remote-axis table word at ADDR by field access and advances ADDR. -/
  | mpgTabDataWrite (dt : Nat) (rq : Rq) (v : Word)
  /-- TIM_NS_READ (R334): Reading TIM_NS latches the seconds into the requester's shadow. -/
  | timNsRead (dt : Nat) (rq : Rq)
  /-- RTC_FRAC_READ (R357): Reading RTC_FRAC latches the RTC seconds into the requester's shadow. -/
  | rtcFracRead (dt : Nat) (rq : Rq)
  /-- SYS_UP_LO_READ (R509): Reading SYS_UP_LO latches SYS_UP_HI for that requester. -/
  | sysUpLoRead (dt : Nat) (rq : Rq)
  /-- ENERGY_LO_READ (R60): Reading the LO word of a live MTR energy register copies its HI word into the requester's shadow. -/
  | energyLoRead (dt : Nat) (rq : Rq) (pt : Nat) (e : Nat)
  /-- HQC_LO_READ (R79): Reading the LO word of an HQC 64-bit register copies its HI word into the requester's shadow. -/
  | hqcLoRead (dt : Nat) (rq : Rq) (e : Nat)
  /-- AX_POS_FRAC_READ (R210): Reading AXn_POS_FRAC copies AXn_POS into the requester's shadow. -/
  | axPosFracRead (dt : Nat) (rq : Rq) (ax : Nat)
  /-- LATCH_SEQ_READ (R63): A read of PTn_LATCH_SEQ freezes or releases that point's latch set for the requester. -/
  | latchSeqRead (dt : Nat) (rq : Rq) (pt : Nat)
  /-- LATCH_FREEZE_EXPIRY (R63): 1 ms after a freezing read the MTR latch-set freeze ends and a held latch becomes visible. -/
  | latchFreezeExpiry (dt : Nat) (rq : Rq) (pt : Nat)
  /-- W_LATCH_SEQ_READ (R84): A read of W_LATCH_SEQ freezes or releases the selected HQC point's latch set for the requester. -/
  | wLatchSeqRead (dt : Nat) (rq : Rq)
  /-- W_FREEZE_EXPIRY (R84): 1 ms after a freezing read the HQC latch-set freeze ends. -/
  | wFreezeExpiry (dt : Nat) (rq : Rq) (pt : Nat)
  /-- HQC_WIN_SEL_WRITE (R84): A write of HQC_WIN_SEL selects the window point and ends the requester's HQC freeze. -/
  | hqcWinSelWrite (dt : Nat) (rq : Rq) (v : Word)
  /-- LPN_STAT_READ (R201): A read of LPn_STAT freezes or releases the window values of the selected slot for the requester. -/
  | lpnStatRead (dt : Nat) (rq : Rq)
  /-- LP_FREEZE_EXPIRY (R201): 1 ms after a freezing read the LPE window freeze ends. -/
  | lpFreezeExpiry (dt : Nat) (rq : Rq) (slot : Nat)
  /-- LPE_WIN_SEL_WRITE (R201): A write of LPE_WIN_SEL selects the window slot and ends the requester's LPE freeze. -/
  | lpeWinSelWrite (dt : Nat) (rq : Rq) (v : Word)
  /-- NSV_SEQ_READ (R244): A read of NSV_SEQ alternately freezes the current image buffer for the requester and releases it. -/
  | nsvSeqRead (dt : Nat) (rq : Rq)
  /-- MTR_HWIN_SEL_WRITE (R52): Writing MTR_HWIN_SEL copies the last complete harmonic window of the selected channel into MTR_HWINn in one clock. -/
  | mtrHwinSelWrite (dt : Nat) (rq : Rq) (v : Word)
  /-- POWER_ON (R373): Supply is applied or a reset is released; AON comes up and the start sequence begins. -/
  | powerOn (dt : Nat) (batLow : Bool)
  /-- NRESET_ASSERT (R382): nRESET held low for at least 10 µs causes a full reset. -/
  | nresetAssert (dt : Nat)
  /-- SYS_RESET_WRITE (R384): A write of 0x5AFE_0001 to SYS_RESET starts the saves that precede a full reset; any other value sets BADKEY. -/
  | sysResetWrite (dt : Nat) (rq : Rq) (v : Word)
  /-- SYS_RESET_SAVE_DONE (R384): When both FRAM copies are committed, or 12 ms after the write, the software reset takes place. -/
  | sysResetSaveDone (dt : Nat)
  /-- PWR_GAP_EXPIRY (R370): PWR_GAP after a domain's power-good, the sequencer starts the next domain of the set. -/
  | pwrGapExpiry (dt : Nat)
  /-- DOMAIN_POWER_GOOD (R370): A waking domain reports power-good and is released from reset. -/
  | domainPowerGood (dt : Nat) (dom : Nat)
  /-- DOMAIN_FAIL (R372): A domain without power-good 1 ms after its wake request is switched off, flagged and raises a SAF fault. -/
  | domainFail (dt : Nat) (dom : Nat)
  /-- RTA_FAIL_RETRY (R372): 1 s after an RTA domain failure the module repeats the start as a power-on reset. -/
  | rtaFailRetry (dt : Nat)
  /-- HU_MIN_REACHED (R368): The hold-up capacitors reach the energy for the saves and PWR_STAT.HU_MIN is set. -/
  | huMinReached (dt : Nat)
  /-- HU_CHARGE_COMPLETE (R368): Hold-up charging completes, HU_RDY is set and PWR_HU is measured. -/
  | huChargeComplete (dt : Nat) (mj : Nat)
  /-- SLOT_SELECT (R401): The ROM finishes verifying both slot headers and takes the slot in use by the selection order. -/
  | slotSelect (dt : Nat) (i0 : CfgImage) (i1 : CfgImage) (ddr : Bool) (mhz : Nat)
  /-- CAP_COMMIT (R402): The cap stage completes: cap records applied and checked, cap-owned RWL fields locked and CAP_OK set. -/
  | capCommit (dt : Nat)
  /-- CAP_STAGE_FAIL (R402): A cap section that fails a rule puts the module in bare Cap mode with that rule's code. -/
  | capStageFail (dt : Nat)
  /-- DRAM_TRAINED (R373): DRAM training completes in phase 2 and the full stage of the load begins. -/
  | dramTrained (dt : Nat) (fw : Option Nat) (ow : Bool)
  /-- FULL_COMMIT (R403): The full stage completes and commits every remaining RWL field in one clock. -/
  | fullCommit (dt : Nat)
  /-- FULL_LOAD_FAIL (R404): The first full-stage failure writes CFG_ERR, rejects the slot and holds Cap mode. -/
  | fullLoadFail (dt : Nat)
  /-- FULL_SERVICE_BEGIN (R378): PGR_STAT.RUN is set and full service begins with the ordered takeover of the units. -/
  | fullServiceBegin (dt : Nat)
  /-- LOOP_SERVICE_START (R198): At the first tick boundary H after full service the slots start and cap loops are taken over. -/
  | loopServiceStart (dt : Nat)
  /-- PFW_BEGIN (R379): The input stays below 16.0 V for 100 µs and a power-fail warning begins. -/
  | pfwBegin (dt : Nat)
  /-- PFW_END (R379): The input stays at or above 17.0 V for 10 ms and the warning ends. -/
  | pfwEnd (dt : Nat)
  /-- HOLDUP_END (R381): Stored energy can no longer hold the rails and the sequencer asserts a power-on reset. -/
  | holdupEnd (dt : Nat)
  /-- STROBE_ISSUE (R36): Every 31.25 µs the logic side sends a strobe frame down each island link. -/
  | strobeIssue (dt : Nat)
  /-- ISLAND_FRAME_RECEIVED (R39): MTR receives an upstream island frame and checks its CRC and sequence. -/
  | islandFrameReceived (dt : Nat) (f : IslandFrame)
  /-- FRAME_DEADLINE_MISS (R39): A frame not received in full by its deadline is missing and its samples are held. -/
  | frameDeadlineMiss (dt : Nat) (isl : Nat)
  /-- ISLAND_DOWN (R40): After 3 consecutive discarded frames the island is down and its points stop accumulating. -/
  | islandDown (dt : Nat) (isl : Nat)
  /-- ISLAND_UP (R40): After 32 consecutive good frames the island is up again. -/
  | islandUp (dt : Nat) (isl : Nat)
  /-- PSEUDO_CYCLE (R49): With no phase present MTR forms a pseudo-cycle of 1/f_nom. -/
  | pseudoCycle (dt : Nat) (isl : Nat)
  /-- PT_LATCH (R61): Every PTn_LATCH_N cycles MTR copies the live totals into the point's latch set. -/
  | ptLatch (dt : Nat) (pt : Nat)
  /-- AGG_WINDOW_CLOSE (R51): A 10- or 12-cycle aggregation window completes and all window registers change in one clock. -/
  | aggWindowClose (dt : Nat) (isl : Nat) (freq10 : Nat) (harm : List (Nat × List Word))
  /-- MTR_PERIODIC_SAVE (R65): Every MTR_FRAM_PER seconds MTR starts a FRAM save. -/
  | mtrPeriodicSave (dt : Nat)
  /-- MTR_SAVE (R65): A write of 1 to MTR_CTRL.SAVE requests a FRAM save. -/
  | mtrSave (dt : Nat) (rq : Rq)
  /-- MTR_SAVE_COMMIT (R65): The FRAM copy commits and the previous residual bank is cleared; a queued save starts. -/
  | mtrSaveCommit (dt : Nat)
  /-- HQC_SAVE_COMMIT (R85): The older HQC FRAM copy is committed. -/
  | hqcSaveCommit (dt : Nat)
  /-- HQC_SAVE_LATE (R85): A save not committed within 10 ms sets HQC_ERR.SAVE_LATE. -/
  | hqcSaveLate (dt : Nat)
  /-- HQC_LOCAL_STEP (R72): Every 100 ms a local point runs an integration step. -/
  | hqcLocalStep (dt : Nat) (pulses : List (Nat × Nat))
  /-- HQC_BILL_TIMEOUT (R82): P_max + 2 s after a boundary it falls due regardless. -/
  | hqcBillTimeout (dt : Nat)
  /-- HELLO_RECEIVED (R96): SIO takes a HELLO frame and starts or queues session set-up. -/
  | helloReceived (dt : Nat) (h : SspHeader) (nonce : Nat)
  /-- SESSION_SETUP_DONE (R96): Set-up completes: K_sess is derived and stored and the station enters SETUP. -/
  | sessionSetupDone (dt : Nat) (stn : Nat)
  /-- INPUT_RECEIVED (R101): SIO checks an INPUT frame and writes it to the unlatched buffer and to HQC. -/
  | inputReceived (dt : Nat) (h : SspHeader) (img : List Byte)
  /-- WATCHDOG_CHECK (R103): At each check instant C_k SIO updates the station's miss count. -/
  | watchdogCheck (dt : Nat) (stn : Nat)
  /-- WATCHDOG_EXPIRY (R103): The miss count reaches the watchdog count and the station enters DOWN with cause WATCHDOG. -/
  | watchdogExpiry (dt : Nat) (stn : Nat)
  /-- CLOSE_RECEIVED (R90): A CLOSE from a station ends its session and puts it in DOWN. -/
  | closeReceived (dt : Nat) (h : SspHeader) (reason : Nat)
  /-- SSP_REQUEST_RECEIVED (R109): A REQUEST from a station is carried out at most once and answered. -/
  | sspRequestReceived (dt : Nat) (h : SspHeader) (body : SspBody) (status : Nat) (data : List Byte)
  /-- SSP_RESPONSE_RECEIVED (R109): A RESPONSE from a station is delivered to the issuing firmware. -/
  | sspResponseReceived (dt : Nat) (h : SspHeader) (body : SspBody)
  /-- SSP_REQUEST_ISSUE (R110): Firmware issues a REQUEST to a station, including a checked set-timing request. -/
  | sspRequestIssue (dt : Nat) (stn : Nat) (body : SspBody)
  /-- SET_TIMING_APPLY (R110): At the agreed instant SIO applies the new P, IN_PHASE and OUT_PHASE and clears the miss count. -/
  | setTimingApply (dt : Nat) (stn : Nat)
  /-- SIO_CLOSE_WRITE (R113): A write of a station number to SIO_CLOSE ends its session with CLOSE reason 2. -/
  | sioCloseWrite (dt : Nat) (rq : Rq) (v : Word)
  /-- OTHER_TRAFFIC_RECEIVED (R92): A non-SSP frame on a station port is answered if ARP, ND or echo, else discarded and counted. -/
  | otherTrafficReceived (dt : Nat) (port : Nat) (kind : Nat)
  /-- LAUNCH_FETCH (R352): 2 µs before a slot TIM fetches the payload from the committed image and SIO sets REPEAT and LSEQ. -/
  | launchFetch (dt : Nat) (stn : Nat)
  /-- FRAME_LAUNCH (R352): TIM launches a queued OUTPUT frame so its time-stamp point crosses the reference plane at the slot. -/
  | frameLaunch (dt : Nat) (stn : Nat) (skew : Nat)
  /-- PREFETCH_ISSUE (R121): PGR starts loading a page named ahead in a visit ring when a load slot is free. -/
  | prefetchIssue (dt : Nat)
  /-- PAGE_LOAD_DONE (R123): A page load completes, pending writes apply and stalled engines resume. -/
  | pageLoadDone (dt : Nat) (stn : Nat)
  /-- WRITE_BACK_DONE (R123): A dirty page write-back completes and writes that waited apply to DRAM. -/
  | writeBackDone (dt : Nat) (stn : Nat)
  /-- TIMED_TASK_RELEASE (R129): At PHASE + k·PERIOD a timed task is released. -/
  | timedTaskRelease (dt : Nat) (task : Nat)
  /-- TASK_SKIP_LIMIT (R129): CYC_OVR_LIM consecutive skipped releases raise one SAF fault TASK_SKIP. -/
  | taskSkipLimit (dt : Nat) (task : Nat)
  /-- PGR_TRIG_WRITE (R130): A write to PGR_TRIG releases an enabled event task with SRC 0. -/
  | pgrTrigWrite (dt : Nat) (rq : Rq) (v : Word)
  /-- TASK_DISPATCH (R126): A released task runs at a block boundary when it is the highest-priority ready task. -/
  | taskDispatch (dt : Nat) (reached : Option Nat) (stall : Nat)
  /-- REGION_REQUEST (R133): NSV or REC requests a DRAM region, which PGR grants or refuses. -/
  | regionRequest (dt : Nat) (owner : Nat) (gran : Nat) (tag : Nat)
  /-- REGION_RELEASE (R133): An owner releases a DRAM region and its granules are freed. -/
  | regionRelease (dt : Nat) (idx : Nat)
  /-- REGION_VIOLATION (R134): A non-owner access to a region is blocked, sets REGION_VIOL and is reported to SAF. -/
  | regionViolation (dt : Nat) (idx : Nat) (rq : Rq) (write : Bool)
  /-- CYCLE_SNAPSHOT (R127): At a main-task boundary after CYC_REST the engine takes the input snapshot and starts the cycle. -/
  | cycleSnapshot (dt : Nat)
  /-- CYC_TMAX_EXPIRY (R151): The cycle time reaches CYC_TMAX and the main task is abandoned without commit. -/
  | cycTmaxExpiry (dt : Nat) (reached : Nat)
  /-- CYC_OVR_LIMIT (R152): OVR_RUN reaches CYC_OVR_LIM, setting OVR_LIM and raising one SAF fault. -/
  | cycOvrLimit (dt : Nat)
  /-- EXCH_ARM (R157): A write of 1 to CYC_CTRL.EXCH_ARM arms a READY program. -/
  | exchArm (dt : Nat) (rq : Rq)
  /-- EXCH_ABORT (R157): A write of 1 to EXCH_ABORT withdraws a READY or ARMED program. -/
  | exchAbort (dt : Nat) (rq : Rq)
  /-- EXCH_STAGING_DONE (R156): Staging completes, checking and building the migration list, and EXCH becomes READY or FAILED. -/
  | exchStagingDone (dt : Nat) (img : CfgImage)
  /-- EXCHANGE_PAUSE (R158): At the boundary of an armed exchange the engine copies the new program and migrates state. -/
  | exchangePause (dt : Nat) (ok : Bool) (us : Nat)
  /-- LPE_TICK (R165): At each 250 µs tick boundary LPE evaluates the due slots in order. -/
  | lpeTick (dt : Nat) (incomplete : List Nat) (stall : Nat) (busy : Nat)
  /-- PLAUS_ACTION (R190): PL_RUN reaches PL_N and LPE flags, faults or puts the slot in SAFE. -/
  | plausAction (dt : Nat) (slot : Nat)
  /-- GROUP_TRIP (R183): A trip condition holds for TRIP_N evaluations and the group trips to SAFE_OUT. -/
  | groupTrip (dt : Nat) (grp : Nat) (own : Bool)
  /-- LPE_DEADLINE (R194): At the end of its tick an incomplete evaluation is late and commits nothing. -/
  | lpeDeadline (dt : Nat)
  /-- LPE_THIRD_LATE (R195): LATE_RUN reaches 3 and the slot enters SAFE and raises a SAF fault. -/
  | lpeThirdLate (dt : Nat) (slot : Nat)
  /-- LPN_MODE_WRITE (R177): A write to LPn_MODE requests a mode, held until the next evaluation. -/
  | lpnModeWrite (dt : Nat) (rq : Rq) (v : Word)
  /-- LPN_SP_WRITE (R169): A host write of LPn_SP sets the setpoint, clamped to its limits. -/
  | lpnSpWrite (dt : Nat) (rq : Rq) (v : Word)
  /-- LPN_MAN_WRITE (R169): A host write of LPn_MAN sets the manual output. -/
  | lpnManWrite (dt : Nat) (rq : Rq) (v : Word)
  /-- LPE_GRP_RESET_WRITE (R183): A write of a group number clears its trip unless a member's condition still holds. -/
  | lpeGrpResetWrite (dt : Nat) (rq : Rq) (v : Word)
  /-- LPN_FLT_CLEAR (R196): Writing 1 clears LPn_FLT.LATE or PLAUS, re-aligning a local model on PLAUS. -/
  | lpnFltClear (dt : Nat) (rq : Rq) (v : Word)
  /-- CAP_LOOP_RUN (R197): At 10 Hz the real-time complex runs each cap loop's PI step. -/
  | capLoopRun (dt : Nat)
  /-- LOOP_TABLE_SWITCH (R199): At the first tick at or after the exchange pause the new loop table takes effect with migration. -/
  | loopTableSwitch (dt : Nat)
  /-- PROFILE_TICK (R205): Every 10 µs the planner advances each enabled local axis. -/
  | profileTick (dt : Nat) (samples : List (Nat × List (Bool × Bool × Bool)))
  /-- AX_TARGET_WRITE (R203): A write of AXn_TARGET from the configured writer sets the target. -/
  | axTargetWrite (dt : Nat) (rq : Rq) (ax : Nat) (v : Word)
  /-- RA_TARGET_WRITE (R203): A write of RA_TARGET from the configured writer sets the remote target. -/
  | raTargetWrite (dt : Nat) (rq : Rq) (v : Word)
  /-- AX_LIMIT_WRITE (R207): A write of VMAX, ACC, DEC or JERK re-plans at the next profile tick. -/
  | axLimitWrite (dt : Nat) (rq : Rq) (ax : Nat) (which : Nat) (v : Word)
  /-- AX_ENABLE (R204): ENABLE asserts EN and sets the target to the present position. -/
  | axEnable (dt : Nat) (rq : Rq) (ax : Nat)
  /-- AX_DISABLE (R204): DISABLE decelerates to rest and releases EN. -/
  | axDisable (dt : Nat) (rq : Rq) (ax : Nat)
  /-- AX_STOP (R215): STOP brakes at DEC to HOLD. -/
  | axStop (dt : Nat) (rq : Rq) (ax : Nat)
  /-- AX_ESTOP (R215): ESTOP brakes at DEC_EMG to HOLD. -/
  | axEstop (dt : Nat) (rq : Rq) (ax : Nat)
  /-- AX_HOME (R216): HOME clears HOMED and runs the homing sequence. -/
  | axHome (dt : Nat) (rq : Rq) (ax : Nat)
  /-- AX_CLR_LIM (R214): CLR_LIM clears latched limits whose inputs are inactive. -/
  | axClrLim (dt : Nat) (rq : Rq) (ax : Nat)
  /-- AX_CLR_FLT (R212): CLR_FLT clears the soft-limit FAULT. -/
  | axClrFlt (dt : Nat) (rq : Rq) (ax : Nat)
  /-- RA_STOP (R215): STOP on a remote axis brakes its plan at DEC to HOLD. -/
  | raStop (dt : Nat) (rq : Rq)
  /-- RA_ESTOP (R215): ESTOP on a remote axis brakes its plan at DEC_EMG to HOLD. -/
  | raEstop (dt : Nat) (rq : Rq)
  /-- RA_RESYNC (R219): RESYNC sets the plan to the reported position and brings it to rest. -/
  | raResync (dt : Nat) (rq : Rq)
  /-- RA_CLR_FLT (R212): CLR_FLT clears a remote axis's soft-limit fault. -/
  | raClrFlt (dt : Nat) (rq : Rq)
  /-- LIMIT_TRIP (R214): A limit debounce counter reaches DEB; the limit latches and the axis stops. -/
  | limitTrip (dt : Nat) (ax : Nat) (plus : Bool)
  /-- HOME_SIGNAL_CHANGE (R216): The home signal changes and the homing sequence advances its phase or captures HOME_POS. -/
  | homeSignalChange (dt : Nat) (ax : Nat) (level : Bool)
  /-- REMOTE_AXIS_TICK (R218): On the 250 µs grid MPG advances each remote-axis plan. -/
  | remoteAxisTick (dt : Nat)
  /-- NSV_WAKE_REQUEST (R232): 500 µs before S_k NSV requests its domain wake under the stagger. -/
  | nsvWakeRequest (dt : Nat)
  /-- NSV_SOLVE_START (R232): At S_k NSV latches the measurement snapshot and starts a solve. -/
  | nsvSolveStart (dt : Nat)
  /-- NSV_SOLVE_COMPLETE (R233): A solve completes its estimation, transport and predictions and writes the image. -/
  | nsvSolveComplete (dt : Nat) (late : List Nat) (l0 : NsvLayer) (l1 : NsvLayer) (l2 : NsvLayer)
  /-- IMAGE_CURRENT (R21): At the next tick boundary the completed image becomes current. -/
  | imageCurrent (dt : Nat)
  /-- NSV_DEADLINE (R245): A solve not complete by S_(k+1) is abandoned and counted. -/
  | nsvDeadline (dt : Nat)
  /-- MODEL_STALE (R243): The image age exceeds 5 × PERIOD and the model becomes stale. -/
  | modelStale (dt : Nat)
  /-- NSV_CLR_BAD (R236): A write of 1 to NSV_CTRL.CLR_BAD clears every bad flag at the next solve start. -/
  | nsvClrBad (dt : Nat) (rq : Rq)
  /-- NSV_TH_REINIT (R239): A write of 1 to TH_REINIT cold-starts the active thermal layers at the next transport. -/
  | nsvThReinit (dt : Nat) (rq : Rq)
  /-- DOP_WAKE_REQUEST (R253): 500 µs before S_k DOP requests its domain wake. -/
  | dopWakeRequest (dt : Nat)
  /-- DOP_SOLVE_START (R253): At S_k DOP latches the model, forecast and variables and starts a solve. -/
  | dopSolveStart (dt : Nat)
  /-- DOP_SOLVE_PHASE_DONE (R254): The interior-point solve phase ends and coupling or the final solve follows. -/
  | dopSolvePhaseDone (dt : Nat) (sol : DopSol)
  /-- COUPLING_ROUND_SEND (R270): A round's warm local solve completes and its e and price fragments are sent. -/
  | couplingRoundSend (dt : Nat) (e : List (Nat × List (List Word)))
  /-- COUPLING_FRAGMENT_RECEIVED (R269): A coupling fragment is checked, held or taken for its round. -/
  | couplingFragmentReceived (dt : Nat) (src : Nat) (fr : CouplingFragment)
  /-- ROUND_WAIT_EXPIRY (R270): ROUND_MS after sending, missing neighbours count a missed round. -/
  | roundWaitExpiry (dt : Nat)
  /-- FINAL_SOLVE_DONE (R265): The final solve ends and its result is classified. -/
  | finalSolveDone (dt : Nat) (sol : DopSol)
  /-- DOP_LATE (R255): At A_k an unaccepted solve is abandoned and DOP_LATE is logged. -/
  | dopLate (dt : Nat)
  /-- DOP_HOLD_WRITE (R256): Writing DOP_CTRL.HOLD stops or allows new solves. -/
  | dopHoldWrite (dt : Nat) (rq : Rq) (v : Word)
  /-- FC_COMMIT (R262): A write of 1 to DOP_CTRL.FC_COMMIT starts copying the forecast staging buffer. -/
  | fcCommit (dt : Nat) (rq : Rq)
  /-- FC_COMMIT_DONE (R262): The forecast copy completes, becomes current and DOP_FC_SEQ increments. -/
  | fcCommitDone (dt : Nat)
  /-- FC_DATA_WRITE (R262): A write of DOP_FC_DATA stores a staging word, or is ignored with FC_BUSY during a copy. -/
  | fcDataWrite (dt : Nat) (rq : Rq) (v : Word)
  /-- TRAJ_FRAGMENT_RECEIVED (R279): A follower checks a trajectory fragment from its leader. -/
  | trajFragmentReceived (dt : Nat) (src : Nat) (fr : TrajFragment) (wellFormed : Bool)
  /-- TRAJ_PLAN_INCOMPLETE (R279): A plan still incomplete at B0 + STEP is discarded and INCOMPLETE set. -/
  | trajPlanIncomplete (dt : Nat)
  /-- LEADER_TIMEOUT (R279): No plan completes for TRJ_FOL_TMO seconds and LEADER_LOST is set. -/
  | leaderTimeout (dt : Nat)
  /-- SOURCE_QUALIFIED (R287): Q_T without an active criterion and the source becomes HEALTHY. -/
  | sourceQualified (dt : Nat) (src0 : Bool) (src1 : Bool)
  /-- FI_INPUT_CHANGE (R289): A fast feedback input changes, confirming a switch, an alternate source or a recall acknowledgement. -/
  | fiInputChange (dt : Nat) (fi : Nat) (level : Bool)
  /-- SWITCH_CONFIRM_TIME (R289): With FB_EN = 0 a command is confirmed BRK_T after it. -/
  | switchConfirmTime (dt : Nat) (alt : Bool)
  /-- DEAD_TIME_EXPIRY (R289): DEAD_T after an open command the other switch may be commanded on. -/
  | deadTimeExpiry (dt : Nat) (alt : Bool)
  /-- SWITCH_CONFIRM_TIMEOUT (R289): A command unconfirmed within FB_T puts the machine in BLOCKED and raises a SAF fault. -/
  | switchConfirmTimeout (dt : Nat) (alt : Bool)
  /-- RECALL_TIMEOUT (R294): RECALL_T passes without acknowledgement; the group is shed and RECALL_TMO set. -/
  | recallTimeout (dt : Nat) (grp : Nat)
  /-- RETURN_TIMER_EXPIRY (R290): Source 0 healthy for RET_T starts the return to normal. -/
  | returnTimerExpiry (dt : Nat)
  /-- SYNC_WAIT_EXPIRY (R290): SYNC_WAIT elapses in SYNC and the return opens or waits again. -/
  | syncWaitExpiry (dt : Nat)
  /-- OVERLAP_TIMEOUT (R290): The alternate open is not confirmed within OVL_MAX and the machine blocks. -/
  | overlapTimeout (dt : Nat)
  /-- RESTORE_GAP_EXPIRY (R296): Each RESTORE_GAP one shed group is switched back on. -/
  | restoreGapExpiry (dt : Nat)
  /-- CSB_RETURN (R297): CSB_CMD RETURN starts the return if source 0 is HEALTHY. -/
  | csbReturn (dt : Nat) (rq : Rq)
  /-- CSB_CLR_FLT (R297): CSB_CMD CLR_FLT clears latched faults and leaves BLOCKED. -/
  | csbClrFlt (dt : Nat) (rq : Rq)
  /-- CSB_SHED (R297): CSB_CMD SHED sheds a class 3 group and holds it off. -/
  | csbShed (dt : Nat) (rq : Rq) (grp : Nat)
  /-- CSB_RELEASE (R297): CSB_CMD RELEASE switches a held group back on or returns it to restoration. -/
  | csbRelease (dt : Nat) (rq : Rq) (grp : Nat)
  /-- FO_READBACK_CHECK (R299): Every 2 ms CSB compares each channel's sensed state with its command. -/
  | foReadbackCheck (dt : Nat) (sensed : Nat)
  /-- FO_PULSE_TEST (R299): Each second CSB pulses one channel of each tested output for 200 µs. -/
  | foPulseTest (dt : Nat) (fo : Nat) (ch : Nat)
  /-- FO_PULSE_END (R299): The 200 µs test pulse ends and the channel returns. -/
  | foPulseEnd (dt : Nat) (fo : Nat)
  /-- FO_PULSE_SENSE_TIMEOUT (R299): Sense not following within 100 µs of a test edge sets FO_PT and raises a fault. -/
  | foPulseSenseTimeout (dt : Nat) (fo : Nat)
  /-- FO_FEEDBACK_TIMEOUT (R300): Feedback disagreeing with the command for FB_T sets CSB_ERR.FB and raises a fault. -/
  | foFeedbackTimeout (dt : Nat) (fo : Nat)
  /-- CAP_DETECTOR_EVAL (R301): In Cap mode the ROM detector evaluates every 2 ms. -/
  | capDetectorEval (dt : Nat)
  /-- FAB_FRAME_RECEIVED (R308): A fabric port receives a frame and checks format, tag and link counter. -/
  | fabFrameReceived (dt : Nat) (rx : FabRx) (f : FabFrame)
  /-- HATBAND_RECEIVED (R311): A port takes a hatband and adopts, re-adopts or marks FOREIGN. -/
  | hatbandReceived (dt : Nat) (rx : FabRx) (f : FabFrame)
  /-- HATBAND_INSTANT (R310): Every 100 ms a port sends a hatband and counts a miss if none was accepted. -/
  | hatbandInstant (dt : Nat) (port : Nat)
  /-- NEIGHBOUR_LOST (R312): At the third consecutive miss the neighbour is lost and the port's key and queues cleared. -/
  | neighbourLost (dt : Nat) (port : Nat)
  /-- LINK_SIGNAL_LOSS (R312): Loss of link signal loses the neighbour within 1 ms. -/
  | linkSignalLoss (dt : Nat) (port : Nat)
  /-- LINK_SIGNAL_UP (R305): Link signal appears and the port enters PROBE with a new nonce. -/
  | linkSignalUp (dt : Nat) (port : Nat)
  /-- LSA_RECEIVED (R315): A newer LSA is stored and flooded, an old one discarded. -/
  | lsaReceived (dt : Nat) (rx : FabRx) (f : FabFrame)
  /-- LSA_REFRESH_TIMER (R315): Every 10 s the node originates an LSA. -/
  | lsaRefreshTimer (dt : Nat)
  /-- LSA_HOLDOFF_EXPIRY (R315): 20 ms after an LSA a change made meanwhile is carried by the next LSA. -/
  | lsaHoldoffExpiry (dt : Nat)
  /-- LSA_AGE_OUT (R315): An entry not refreshed within 40 s leaves the database. -/
  | lsaAgeOut (dt : Nat) (devid : Nat)
  /-- ROUTE_TABLE_LOAD (R316): Shortest paths are recomputed and the forwarding table changes in one clock. -/
  | routeTableLoad (dt : Nat)
  /-- ADDRESS_CLAIM (R313): 300 ms of TENT without conflict makes the address CLAIMED. -/
  | addressClaim (dt : Nat)
  /-- FAB_DATA_SEND (R323): A unit sends a DATA or REQUEST frame, numbered and queued. -/
  | fabDataSend (dt : Nat) (kind : Nat) (dst : Nat) (cls : Nat) (svc : Nat) (ackreq : Bool) (payload : List Byte)
  /-- FAB_RETRY_EXPIRY (R323): RETRY_MS without answer repeats the frame or, after RETRY_N, reports failure. -/
  | fabRetryExpiry (dt : Nat) (dst : Nat) (cls : Nat) (seq : Nat)
  /-- FAB_DATA_RECEIVED (R325): A DATA frame is delivered through the duplicate window and acknowledged. -/
  | fabDataReceived (dt : Nat) (rx : FabRx) (f : FabFrame)
  /-- FAB_ACK_RECEIVED (R323): An ACK ends the originator's retries. -/
  | fabAckReceived (dt : Nat) (rx : FabRx) (f : FabFrame)
  /-- FAB_REQUEST_RECEIVED (R326): A REQUEST is carried out at most once and its RESPONSE cached. -/
  | fabRequestReceived (dt : Nat) (rx : FabRx) (f : FabFrame)
  /-- FAB_RESPONSE_RECEIVED (R323): A RESPONSE ends the originator's retries and is delivered. -/
  | fabResponseReceived (dt : Nat) (rx : FabRx) (f : FabFrame)
  /-- EGRESS_DEQUEUE (R321): A queued frame leaves its egress port once its bucket holds enough tokens. -/
  | egressDequeue (dt : Nat) (port : Nat)
  /-- RESPONSE_CACHE_EXPIRY (R326): WIN_HOLD after a response its cache slot is freed. -/
  | responseCacheExpiry (dt : Nat)
  /-- TIM_ADDEND_WRITE (R332): A write of TIM_ADDEND sets the clock rate, within ±200 ppm. -/
  | timAddendWrite (dt : Nat) (rq : Rq) (v : Word)
  /-- TIM_SLEW_WRITE (R335): A write of TIM_SLEW starts slewing by the amount at 100 ppm. -/
  | timSlewWrite (dt : Nat) (rq : Rq) (v : Word)
  /-- SLEW_COMPLETE (R335): The whole slew amount has been applied and SLEWING clears. -/
  | slewComplete (dt : Nat)
  /-- TIM_STEP_WRITE (R336): A write of TIM_STEP steps module time in its clock. -/
  | timStepWrite (dt : Nat) (rq : Rq) (v : Word)
  /-- TIM_SET_COMMIT (R335): A write of TIM_SET_SEC_LO commits the set time. -/
  | timSetCommit (dt : Nat) (rq : Rq) (v : Word)
  /-- PTP_SYNC_RECEIVED (R339): A Sync is time-stamped on the slave port. -/
  | ptpSyncReceived (dt : Nat) (h : PtpHead) (rx : Nat)
  /-- PTP_FOLLOW_UP_RECEIVED (R341): A Follow_Up completes an offset measurement for the servo. -/
  | ptpFollowUpReceived (dt : Nat) (h : PtpHead) (origin : Nat) (corr : Int) (egress : List (Nat × Nat))
  /-- PTP_PDELAY_REQ_RECEIVED (R343): A Pdelay_Req is answered with Pdelay_Resp. -/
  | ptpPdelayReqReceived (dt : Nat) (h : PtpHead) (rx : Nat) (tx : Nat)
  /-- PTP_PDELAY_RESP_RECEIVED (R343): A Pdelay response completes the mean link delay. -/
  | ptpPdelayRespReceived (dt : Nat) (h : PtpHead) (t2 : Nat) (t3 : Nat) (rx : Nat)
  /-- PTP_ANNOUNCE_RECEIVED (R339): An Announce feeds the BMCA, or on a station port is ignored with ANN_STN. -/
  | ptpAnnounceReceived (dt : Nat) (h : PtpHead) (a : PtpAnnounce)
  /-- PTP_DELAY_REQ_RECEIVED (R340): A station's Delay_Req is answered with Delay_Resp. -/
  | ptpDelayReqReceived (dt : Nat) (h : PtpHead) (rx : Nat)
  /-- PTP_SYNC_SEND (R338): A master port sends Sync and Follow_Up at the sync interval. -/
  | ptpSyncSend (dt : Nat) (port : Nat) (tx : Nat)
  /-- PTP_ANNOUNCE_SEND (R338): A master port sends Announce at the announce interval. -/
  | ptpAnnounceSend (dt : Nat) (port : Nat)
  /-- PTP_PDELAY_SEND (R338): Every 1 s a fabric port sends Pdelay_Req. -/
  | ptpPdelaySend (dt : Nat) (port : Nat) (tx : Nat)
  /-- ANNOUNCE_TIMEOUT (R341): The parent is lost by announce timeout and SYNC goes to HOLDOVER. -/
  | announceTimeout (dt : Nat) (port : Nat)
  /-- FOLLOW_UP_TIMEOUT (R345): A Sync without Follow_Up for 100 ms is not followed up on egress. -/
  | followUpTimeout (dt : Nat) (port : Nat)
  /-- ACTION_SUBMIT (R350): A write of TIM_ACT_SUBMIT.GO queues or rejects a host action. -/
  | actionSubmit (dt : Nat) (rq : Rq) (v : Word)
  /-- ACTION_WITHDRAW (R351): A handle written to TIM_ACT_WDRAW withdraws a pending host action. -/
  | actionWithdraw (dt : Nat) (rq : Rq) (v : Word)
  /-- ACTION_EXECUTE (R349): At its time a scheduled action writes its target and releases its task. -/
  | actionExecute (dt : Nat)
  /-- RTC_SET_WRITE (R358): A write of RTC_SET_SEC_LO commits the RTC set, pending synchronisation. -/
  | rtcSetWrite (dt : Nat) (rq : Rq) (v : Word)
  /-- RTC_SET_TAKE_EFFECT (R358): At the next crystal edge the RTC count takes the committed value. -/
  | rtcSetTakeEffect (dt : Nat)
  /-- RTC_SECOND_CARRY (R355): The RTC fraction carries into the seconds. -/
  | rtcSecondCarry (dt : Nat)
  /-- RTC_TRACK_COMPARE (R359): At each whole second with TRACK the RTC compares and commits module time. -/
  | rtcTrackCompare (dt : Nat)
  /-- RTC_CAL_WRITE (R360): A write of RTC_CAL sets the trim for the next window. -/
  | rtcCalWrite (dt : Nat) (rq : Rq) (v : Word)
  /-- RTC_CAL_WINDOW (R360): At each 2^20-cycle window boundary a new CAL takes effect. -/
  | rtcCalWindow (dt : Nat)
  /-- RTC_OSC_STOP (R361): No crystal edge for 2 ms sets OSF. -/
  | rtcOscStop (dt : Nat)
  /-- RTC_OSF_CLEAR (R362): Writing 1 to OSF clears it, clears VALID and re-arms the switch-over time-stamp. -/
  | rtcOsfClear (dt : Nat) (rq : Rq) (v : Word)
  /-- CELL_SWITCHOVER (R362): The battery domain switches to the cell, counting and time-stamping it. -/
  | cellSwitchover (dt : Nat)
  /-- MAIN_SUPPLY_RETURN (R362): The battery domain switches back to the main supply. -/
  | mainSupplyReturn (dt : Nat)
  /-- ALARM_WRITE (R363): A write of an alarm register configures it and clears SPENT. -/
  | alarmWrite (dt : Nat) (rq : Rq) (n : Nat) (which : Nat) (v : Word)
  /-- CLR_REJ_WRITE (R400): A write of 1 to CFG_CTRL.CLR_REJ clears both REJ marks. -/
  | clrRejWrite (dt : Nat) (rq : Rq)
  /-- GAUNTLET_OSC_CHECK (R414): At AON-up and every 10 min the Gauntlet checks its oscillator against the reference. -/
  | gauntletOscCheck (dt : Nat) (ok : Bool)
  /-- LOCKSTEP_MISMATCH (R416): A lockstep mismatch or TCM ECC error makes the complex FAILED. -/
  | lockstepMismatch (dt : Nat) (cx : Nat) (tcm : Bool)
  /-- HEARTBEAT_CHALLENGE (R417): Every 5 ms the Gauntlet judges the last interval and places a new challenge. -/
  | heartbeatChallenge (dt : Nat)
  /-- HB_RESP_WRITE (R417): A complex writes its heartbeat answer. -/
  | hbRespWrite (dt : Nat) (rq : Rq) (cx : Nat) (v : Word)
  /-- GAUNTLET_WATCHDOG_EXPIRY (R419): WD_DELAY expires and a full reset follows unless CSB defers it. -/
  | gauntletWatchdogExpiry (dt : Nat)
  /-- WATCHDOG_DEFER_LIMIT (R419): 5 s after WD_DELAY the deferred reset takes place. -/
  | watchdogDeferLimit (dt : Nat)
  /-- SRAM_SCRUB (R421): The scrubber reads and corrects SRAM words and counts passes. -/
  | sramScrub (dt : Nat) (ce : Nat) (ue : List (Nat × Nat)) (pass : Bool)
  /-- DRAM_SCRUB (R422): The DRAM scrubber corrects words and counts passes. -/
  | dramScrub (dt : Nat) (ce : Nat) (ue : List Nat) (pass : Bool)
  /-- REG_CRC_CHECK (R423): Every 50 ms SAF recomputes the register CRCs and raises REG_CRC on difference. -/
  | regCrcCheck (dt : Nat) (diff : List Nat)
  /-- MONITOR_TRIP (R420): A clock, voltage or temperature monitor finds a fault. -/
  | monitorTrip (dt : Nat) (src : Nat) (idx : Nat) (temp : Int)
  /-- TRIP_STALE (R424): No trip-member evaluation for 3 × T + 1 ms raises TRIP_STALE and trips the group. -/
  | tripStale (dt : Nat) (slot : Nat)
  /-- SAFE_STATE_RELEASE (R429): A REL write in SAF_CTRL ends a safe state when no selecting fault is latched. -/
  | safeStateRelease (dt : Nat) (rq : Rq) (v : Word)
  /-- KEY_GO (R454): A write of KEY_CMD.GO starts processing the message in the buffer. -/
  | keyGo (dt : Nat) (rq : Rq)
  /-- KEY_MSG_DONE (R457): Message checks end and the message is applied or fails with a code. -/
  | keyMsgDone (dt : Nat) (v : KeyVerdict)
  /-- DEBUG_UNLOCK_EXPIRY (R444): The unlock duration passes and the debug port closes. -/
  | debugUnlockExpiry (dt : Nat)
  /-- GEN_DTK (R456): A write of KEY_CMD.GEN_DTK in BLANK generates the device transport key. -/
  | genDtk (dt : Nat) (rq : Rq)
  /-- KEY_REQUEST (R450): A unit requests a key by KEY_ID and USAGE; a hit serves it, a miss starts an unwrap. -/
  | keyRequest (dt : Nat) (user : KeyUser) (id : Nat) (usage : Nat)
  /-- KEY_UNWRAP_DONE (R450): An unwrap completes into a cache slot or fails with KEY_ERR.UNWRAP. -/
  | keyUnwrapDone (dt : Nat) (id : Nat) (usage : Nat) (ok : Bool) (ovlOk : Bool)
  /-- TAMPER (R460): A tamper source becomes active in an armed state, zeroing roots and clearing keys. -/
  | tamper (dt : Nat) (act : Nat)
  /-- TAMPER_FUSE_DONE (R460): KEY completes programming the TAMPERED fuse. -/
  | tamperFuseDone (dt : Nat)
  /-- TAMPER_LOG_ENTRY (R463): A source becoming active after the tamper adds a tamper-log entry. -/
  | tamperLogEntry (dt : Nat) (act : Nat)
  /-- ENTROPY_FAIL (R458): An entropy health test fails, clearing ENT_OK. -/
  | entropyFail (dt : Nat)
  /-- ENTROPY_RETEST (R458): Every 1 s KEY repeats its start-up entropy test and restores ENT_OK on pass. -/
  | entropyRetest (dt : Nat) (ok : Bool)
  /-- UPD_OPEN (R468): UPD_CMD OPEN presents the buffered header to open or replace a package. -/
  | updOpen (dt : Nat) (rq : Rq)
  /-- UPD_PUT (R470): UPD_CMD PUT checks and stores the buffered chunk. -/
  | updPut (dt : Nat) (rq : Rq)
  /-- UPD_ABORT (R468): UPD_CMD ABORT discards the open package. -/
  | updAbort (dt : Nat) (rq : Rq)
  /-- UPD_INSTALL (R475): UPD_CMD INSTALL starts writing a configuration payload into the unused slot. -/
  | updInstall (dt : Nat) (rq : Rq)
  /-- INSTALL_DONE (R475): The install completes, header last, and PSTATE becomes INSTALLED. -/
  | installDone (dt : Nat) (ok : Bool)
  /-- UPD_ACTIVATE (R476): UPD_CMD ACTIVATE sets PREF and the pending floor. -/
  | updActivate (dt : Nat) (rq : Rq)
  /-- UPD_STAGE (R476): UPD_CMD STAGE requests CYC staging from the installed slot. -/
  | updStage (dt : Nat) (rq : Rq)
  /-- UPD_LOAD_SB (R478): UPD_CMD LOAD_SB loads the firmware into the standby complex. -/
  | updLoadSb (dt : Nat) (rq : Rq)
  /-- STANDBY_READY (R478): The standby reports ready and HSTATE becomes SHADOW. -/
  | standbyReady (dt : Nat) (cx : Nat)
  /-- SHADOW_ARMED (R479): UPD_SHD_CNT reaches UPD_SHADOW_N and HSTATE becomes ARMED. -/
  | shadowArmed (dt : Nat)
  /-- UPD_HANDOVER (R480): UPD_CMD HANDOVER requests the handover at the next main-task boundary. -/
  | updHandover (dt : Nat) (rq : Rq)
  /-- HANDOVER_BOUNDARY (R481): At the boundary the Gauntlet swaps the complexes and the outgoing one seals the mailbox. -/
  | handoverBoundary (dt : Nat)
  /-- HANDOVER_TIMEOUT (R480): With no boundary within 1 s the handover takes place at the next tick boundary. -/
  | handoverTimeout (dt : Nat)
  /-- MAILBOX_SEALED (R481): The incoming complex reads the seal, serves pending interrupts and probation begins. -/
  | mailboxSealed (dt : Nat)
  /-- UPD_REVERT (R482): UPD_CMD REVERT ends the package and hands back at the next boundary. -/
  | updRevert (dt : Nat) (rq : Rq)
  /-- UPD_COMMIT (R482): UPD_CMD COMMIT ends probation early and starts COMMITTING. -/
  | updCommit (dt : Nat) (rq : Rq)
  /-- PROBATION_EXPIRY (R482): UPD_PROB_S passes without fault and HSTATE becomes COMMITTING. -/
  | probationExpiry (dt : Nat)
  /-- OVERWRITE_DONE (R483): The firmware overwrite is verified, the floor raised and the standby reloaded. -/
  | overwriteDone (dt : Nat) (ok : Bool)
  /-- UPD_COLD (R484): UPD_CMD COLD overwrites the stored firmware and starts a full reset. -/
  | updCold (dt : Nat) (rq : Rq)
  /-- UART_HEADER_FRAME (R468): A radio UART header frame presents a package header. -/
  | uartHeaderFrame (dt : Nat) (frame : List Byte) (v : UpdVerdict)
  /-- UART_CHUNK_FRAME (R470): A radio UART chunk frame is checked and stored. -/
  | uartChunkFrame (dt : Nat) (frame : List Byte) (v : UpdVerdict)
  /-- REC_CHANNEL_SAMPLE (R490): At each PERIOD a channel is sampled into its accumulator. -/
  | recChannelSample (dt : Nat) (ch : Nat)
  /-- REC_INTERVAL_CLOSE (R492): At an interval boundary REC queues an interval record per due channel. -/
  | recIntervalClose (dt : Nat)
  /-- REC_FLUSH_TIMER (R497): FLUSH_PER seconds after the last flush a flush starts. -/
  | recFlushTimer (dt : Nat)
  /-- REC_FLUSH_WRITE (R497): A write of 1 to REC_CTRL.FLUSH starts a flush. -/
  | recFlushWrite (dt : Nat) (rq : Rq) (v : Word)
  /-- REC_FLUSH_DONE (R497): A flush ends with its blocks written; a waiting trigger starts another. -/
  | recFlushDone (dt : Nat) (fails : List Nat)
  /-- REC_CURSOR_WRITE (R500): A write of REC_CUR_SEQ starts loading that block into the cursor window. -/
  | recCursorWrite (dt : Nat) (rq : Rq) (v : Word)
  /-- REC_CURSOR_LOAD_DONE (R500): The cursor load ends READY, BADCRC or GONE. -/
  | recCursorLoadDone (dt : Nat) (bad : Option (List Byte))
  /-- REC_CLEAR_WRITE (R501): A KMP write of the key to REC_CLEAR starts erasing the archive. -/
  | recClearWrite (dt : Nat) (rq : Rq) (v : Word)
  /-- REC_CLEAR_DONE (R501): The erase ends and a CLEARED event is queued. -/
  | recClearDone (dt : Nat)
  /-- REC_ARCHIVE_START (R498): REC finds the archive head and queues the START event. -/
  | recArchiveStart (dt : Nat)
  /-- REC_REGION_RETRY (R493): Every 10 s a refused REC region request is repeated. -/
  | recRegionRetry (dt : Nat)
  /-- KMP_HANDSHAKE (R511): A TLS 1.3 handshake opens a KMP session or is refused. -/
  | kmpHandshake (dt : Nat) (console : Bool) (tls : Bool) (keyHash : List Byte) (unwrap : Bool)
  /-- KMP_REQUEST (R512): A KMP request is checked and its operations carried out in order. -/
  | kmpRequest (dt : Nat) (session : Nat) (tag : Nat) (nops : Nat) (zeros : Bool) (ops : List KmpOp)
  /-- KMP_IDLE_TIMEOUT (R511): A session idle for 300 s is closed. -/
  | kmpIdleTimeout (dt : Nat) (session : Nat)
  /-- DI_LEVEL_CHANGE (R525): A digital input holds a new level for the filter time and its filtered level changes. -/
  | diLevelChange (dt : Nat) (line : Nat) (high : Bool)
  /-- AI_CONVERSION (R521): Every 1 ms each auxiliary input is converted and AIn_VAL updated. -/
  | aiConversion (dt : Nat) (conv : List Int)
  /-- AI_SELF_CHECK (R522): Every second each converter measures its reference and a failure invalidates all inputs. -/
  | aiSelfCheck (dt : Nat) (ok : Bool)
  /-- CRYSTAL_RESTART (R361): When the stopped RTC crystal starts again, the count resumes from its held value while OSF stays set. -/
  | crystalRestart (dt : Nat)
  /-- TAMPER_SOURCE_CHANGE (R463): A tamper source becomes active or inactive at a sample: after a tamper an entry is added to the log, and in BLANK LAT latches and TAMPER_OUT follows the active sources. -/
  | tamperSourceChange (dt : Nat) (act : Nat)
  /-- SELECTION_RECORD_COMMITTED (R400): The FRAM selection record write commits and CFG_CTRL.CLR_REJ reads 0 again. -/
  | selectionRecordCommitted (dt : Nat)
  /-- UPD_COMMAND_DONE (R472): An OPEN or PUT that took time completes, UPD_RES takes the result and UPD_STAT.BUSY clears. -/
  | updCommandDone (dt : Nat) (v : UpdVerdict)
  /-- MGT_PORT_TRAFFIC (R510): The management port answers an ARP, neighbour discovery or echo request. -/
  | mgtPortTraffic (dt : Nat) (kind : Nat) (v6 : Bool) (addr : Nat)
  /-- STATION_PORT_LINK_CHANGE (R115): A station port's link comes up or goes down, and SIO_PORTn_STAT.LINK follows it. -/
  | stationPortLinkChange (dt : Nat) (port : Nat) (up : Bool)
  /-- MGT_LINK_CHANGE (R509): The management link comes up or goes down, and SYS_MGT_STAT.LINK follows it. -/
  | mgtLinkChange (dt : Nat) (up : Bool)
  /-- UART_BAD_FRAME (R472): Radio UART bytes with a bad sync or an unknown TYPE are discarded and counted in UPD_UART_ERR. -/
  | uartBadFrame (dt : Nat)
deriving DecidableEq, Repr

end Sys2Proof
end

