-- ==== Sys2Proof/Config.lean ====
section
/-! DEFINITION. What the spec leaves open: free values, which no proof can see (log entry 2). -/
namespace Sys2Proof.Config

/-- The n-th value the spec does not state: nothing constrains it (log entry 2). -/
opaque freeValue : Nat → BitVec 64

end Sys2Proof.Config
end

