-- ==== Sys2Proof/Machine/Float.lean ====
section
/-! DEFINITION. IEEE 754 binary32 and binary64 arithmetic, exact and then rounded to nearest, ties to even (R141, R142, R75):
a finite value is held as a sign and an exact fraction, so every operation is exact until `encode`. -/
namespace Sys2Proof.Machine

/-- A decoded floating-point value: |x| = num / den for a finite one. -/
inductive FVal where
  | nan
  | inf (neg : Bool)
  | fin (neg : Bool) (num : Nat) (den : Nat)
deriving DecidableEq, Repr

/-- A format: significand bits with the hidden one, exponent bits. -/
structure FFmt where
  p : Nat
  ew : Nat
deriving DecidableEq, Repr

abbrev f32 : FFmt := ⟨24, 8⟩
abbrev f64 : FFmt := ⟨53, 11⟩

/-- The exponent bias of a format. -/
def FFmt.bias (f : FFmt) : Nat := 2 ^ (f.ew - 1) - 1
/-- The bits of +infinity. -/
def FFmt.infBits (f : FFmt) : Nat := (2 ^ f.ew - 1) * 2 ^ (f.p - 1)
/-- The sign bit's weight. -/
def FFmt.signBit (f : FFmt) : Nat := 2 ^ (f.p - 1 + f.ew)
/-- The quiet NaN every operation answers (R142). -/
def FFmt.nanBits (f : FFmt) : Nat := f.infBits + 2 ^ (f.p - 2)

/-- The value of a bit pattern. -/
def fdecode (f : FFmt) (b : Nat) : FVal :=
  let neg := b / f.signBit % 2 == 1
  let e := b / 2 ^ (f.p - 1) % 2 ^ f.ew
  let m := b % 2 ^ (f.p - 1)
  if e = 2 ^ f.ew - 1 then (if m = 0 then .inf neg else .nan)
  else
    let sig := if e = 0 then m else m + 2 ^ (f.p - 1)
    let ex := (if e = 0 then 1 else e)
    -- value = sig * 2 ^ (ex - bias - (p - 1))
    let off := f.bias + (f.p - 1)
    if ex ≥ off then .fin neg (sig * 2 ^ (ex - off)) 1
    else .fin neg sig (2 ^ (off - ex))

/-- Floor of log2 (num / den) for num, den > 0. -/
def ilog2 (num den : Nat) : Int :=
  let e : Int := (Nat.log2 num : Int) - (Nat.log2 den : Int)
  let ge := if e ≥ 0 then den * 2 ^ e.toNat ≤ num else den ≤ num * 2 ^ (-e).toNat
  if ge then e else e - 1

/-- Round num / den to the nearest integer, ties to even. -/
def rneDiv (num den : Nat) : Nat :=
  let q := num / den
  let r := num % den
  if 2 * r > den then q + 1 else if 2 * r = den then q + q % 2 else q

/-- The bits of a value, rounded to nearest, ties to even; overflow gives infinity. -/
def fencode (f : FFmt) (v : FVal) : Nat :=
  match v with
  | .nan => f.nanBits
  | .inf neg => f.infBits + (if neg then f.signBit else 0)
  | .fin neg num den =>
    let sg := if neg then f.signBit else 0
    if num = 0 then sg
    else
      let emin : Int := 1 - (f.bias : Int)
      let e := max (ilog2 num den) emin
      let sh : Int := (f.p : Int) - 1 - e
      let q := if sh ≥ 0 then rneDiv (num * 2 ^ sh.toNat) den else rneDiv num (den * 2 ^ (-sh).toNat)
      let b := (e - emin).toNat * 2 ^ (f.p - 1) + q
      sg + min b f.infBits

/-- The sign of a value. -/
def FVal.neg : FVal → Bool
  | .nan => false
  | .inf n => n
  | .fin n _ _ => n

/-- Negation. -/
def FVal.negate : FVal → FVal
  | .nan => .nan
  | .inf n => .inf (!n)
  | .fin n a b => .fin (!n) a b

/-- Absolute value. -/
def FVal.abs : FVal → FVal
  | .nan => .nan
  | .inf _ => .inf false
  | .fin _ a b => .fin false a b

/-- Exact sum. -/
def FVal.add (x y : FVal) : FVal :=
  match x, y with
  | .nan, _ => .nan
  | _, .nan => .nan
  | .inf a, .inf b => if a = b then .inf a else .nan
  | .inf a, _ => .inf a
  | _, .inf b => .inf b
  | .fin n1 a b, .fin n2 c d =>
    let l : Int := (if n1 then -1 else 1) * (a * d : Nat)
    let r : Int := (if n2 then -1 else 1) * (c * b : Nat)
    let t := l + r
    if t = 0 then .fin (n1 && n2) 0 1 else .fin (t < 0) t.natAbs (b * d)

/-- Exact difference. -/
def FVal.sub (x y : FVal) : FVal := x.add y.negate

/-- Exact product. -/
def FVal.mul (x y : FVal) : FVal :=
  match x, y with
  | .nan, _ => .nan
  | _, .nan => .nan
  | .inf a, .inf b => .inf (xor a b)
  | .inf a, .fin n c _ => if c = 0 then .nan else .inf (xor a n)
  | .fin n c _, .inf a => if c = 0 then .nan else .inf (xor a n)
  | .fin n1 a b, .fin n2 c d => .fin (xor n1 n2) (a * c) (b * d)

/-- Exact quotient; a finite number over zero is infinite, zero over zero NaN. -/
def FVal.div (x y : FVal) : FVal :=
  match x, y with
  | .nan, _ => .nan
  | _, .nan => .nan
  | .inf _, .inf _ => .nan
  | .inf a, .fin n _ _ => .inf (xor a n)
  | .fin n _ _, .inf a => .fin (xor a n) 0 1
  | .fin n1 a b, .fin n2 c d =>
    if c = 0 then (if a = 0 then .nan else .inf (xor n1 n2)) else .fin (xor n1 n2) (a * d) (b * c)

/-- x < y; false on NaN. -/
def FVal.lt (x y : FVal) : Bool :=
  match x, y with
  | .nan, _ => false
  | _, .nan => false
  | .inf a, .inf b => a && !b
  | .inf a, _ => a
  | _, .inf b => !b
  | .fin n1 a b, .fin n2 c d =>
    let l : Int := (if n1 then -1 else 1) * (a * d : Nat)
    let r : Int := (if n2 then -1 else 1) * (c * b : Nat)
    decide (l < r)

/-- x ≤ y; false on NaN. -/
def FVal.le (x y : FVal) : Bool :=
  match x, y with
  | .nan, _ => false
  | _, .nan => false
  | _, _ => !(y.lt x)

/-- x = y by value; false on NaN. -/
def FVal.eqv (x y : FVal) : Bool := x.le y && y.le x

/-- NaN or infinite. -/
def FVal.notFinite : FVal → Bool
  | .fin _ _ _ => false
  | _ => true

/-- The NaN test. -/
def FVal.isNan : FVal → Bool
  | .nan => true
  | _ => false

/-- The zero test. -/
def FVal.isZero : FVal → Bool
  | .fin _ a _ => a == 0
  | _ => false

/-- A value from a natural fraction. -/
abbrev FVal.ofFrac (neg : Bool) (num den : Nat) : FVal := .fin neg num den
/-- A value from an integer. -/
def FVal.ofInt (i : Int) : FVal := .fin (i < 0) i.natAbs 1
/-- A value from an integer over a natural. -/
def FVal.ofQ (i : Int) (d : Nat) : FVal := .fin (i < 0) i.natAbs d

/-- Truncation toward zero to an integer (finite values). -/
def FVal.trunc : FVal → Int
  | .fin n a b => (if n then -1 else 1) * ((a / b : Nat) : Int)
  | _ => 0

/-- Floor to an integer (finite values). -/
def FVal.floor : FVal → Int
  | .fin n a b => ((if n then -1 else 1) * (a : Int)) / (b : Int)
  | _ => 0

/-- Round to nearest integer, ties to even (finite values). -/
def FVal.rne : FVal → Int
  | .fin n a b => (if n then -1 else 1) * ((rneDiv a b : Nat) : Int)
  | _ => 0

/-- Square root rounded to a format; a negative value gives NaN, and the root of a zero is that zero. -/
def fsqrt (f : FFmt) (x : FVal) : Nat :=
  match x with
  | .nan => f.nanBits
  | .inf true => f.nanBits
  | .inf false => f.infBits
  | .fin neg a b =>
    if a = 0 then fencode f (.fin neg 0 1)
    else if neg then f.nanBits
    else
      -- sqrt (a/b) = isqrt (a*b*4^k) / (b*2^k), with a sticky bit below the last kept one
      let k := 2 * f.p + 8 + 2 * (Nat.log2 b - Nat.log2 a)
      let t := a * b * 4 ^ k
      let r := Nat.sqrt t
      let num := 2 * r + (if r * r = t then 0 else 1)
      fencode f (.fin false num (2 * b * 2 ^ k))

/-- binary32 operations on words, each rounded once (R142). -/
def f32val (w : Word) : FVal := fdecode f32 w.toNat
def f32bits (v : FVal) : Word := BitVec.ofNat 32 (fencode f32 v)
def f32add (a b : Word) : Word := f32bits ((f32val a).add (f32val b))
def f32sub (a b : Word) : Word := f32bits ((f32val a).sub (f32val b))
def f32mul (a b : Word) : Word := f32bits ((f32val a).mul (f32val b))
def f32div (a b : Word) : Word := f32bits ((f32val a).div (f32val b))
def f32sqrt (a : Word) : Word := BitVec.ofNat 32 (fsqrt f32 (f32val a))
/-- binary64 operations. -/
def f64val (w : BitVec 64) : FVal := fdecode f64 w.toNat
def f64bits (v : FVal) : BitVec 64 := BitVec.ofNat 64 (fencode f64 v)
def f64add (a b : BitVec 64) : BitVec 64 := f64bits ((f64val a).add (f64val b))
def f64sub (a b : BitVec 64) : BitVec 64 := f64bits ((f64val a).sub (f64val b))
def f64mul (a b : BitVec 64) : BitVec 64 := f64bits ((f64val a).mul (f64val b))
def f64div (a b : BitVec 64) : BitVec 64 := f64bits ((f64val a).div (f64val b))

/-- a·x + b in binary32, rounded once (R168, R170). -/
def f32lin (a x b : Word) : Word := f32bits (((f32val a).mul (f32val x)).add (f32val b))

/-- e^(−x) for a rational x ≥ 0, as a multiple of 2⁻³⁰⁰, by the series on x / 256 and eight squarings. -/
def expNeg (num den : Nat) : Nat :=
  let k := 2 ^ 300
  if den = 0 then 0
  else if num ≥ 120 * den then 0
  else
    let y := num * k / (den * 256)
    let r := (List.range 80).foldl (fun (acc : Nat × Nat × Nat) j =>
      -- (even terms' sum, odd terms' sum, current term)
      let t := acc.2.2
      let next := t * y / ((j + 1) * k)
      if j % 2 = 0 then (acc.1 + t, acc.2.1, next) else (acc.1, acc.2.1 + t, next)) (0, 0, k)
    let z := r.1 - r.2.1
    (List.range 8).foldl (fun z _ => z * z / k) z

end Sys2Proof.Machine
end

