-- ==== Sys2Proof/Machine/Regs.lean ====
section
/-! DEFINITION. The register and table-memory names of the module, from the register tables of the
chapters of spec/ (Tables 0.2, 2.9 to 2.15, ... 22.13). `R.<NAME>` is a register's key in the word store, `F.<NAME>.<FIELD>` a
field of it, `T.<TABLE>.<FIELD>` a field of a table-memory word. A key is the 24-bit register address; for a
register that exists once per window instance, or once per requester (R506), the instance number stands above bit 24;
a table word's key stands above bit 40. -/
namespace Sys2Proof.Machine

/- SYS block (R4, R386, R509). -/
abbrev R.SYS_PART : Nat := 0x000000
abbrev F.SYS_PART.PART : Fld := ⟨R.SYS_PART, 0, 16⟩
abbrev R.SYS_STEP : Nat := 0x000004
abbrev F.SYS_STEP.STEP : Fld := ⟨R.SYS_STEP, 0, 8⟩
abbrev R.SYS_DEVID_LO : Nat := 0x000008
abbrev F.SYS_DEVID_LO.DEVID : Fld := ⟨R.SYS_DEVID_LO, 0, 32⟩
abbrev R.SYS_DEVID_HI : Nat := 0x00000C
abbrev F.SYS_DEVID_HI.DEVID : Fld := ⟨R.SYS_DEVID_HI, 0, 32⟩
abbrev R.SYS_CAPS0 : Nat := 0x000010
abbrev F.SYS_CAPS0.DRAM_HI : Fld := ⟨R.SYS_CAPS0, 6, 1⟩
abbrev F.SYS_CAPS0.LOOP_HI : Fld := ⟨R.SYS_CAPS0, 5, 1⟩
abbrev F.SYS_CAPS0.STN_HI : Fld := ⟨R.SYS_CAPS0, 4, 1⟩
abbrev F.SYS_CAPS0.AX_HI : Fld := ⟨R.SYS_CAPS0, 3, 1⟩
abbrev F.SYS_CAPS0.FAB_HI : Fld := ⟨R.SYS_CAPS0, 2, 1⟩
abbrev F.SYS_CAPS0.ISL1 : Fld := ⟨R.SYS_CAPS0, 1, 1⟩
abbrev F.SYS_CAPS0.DOP : Fld := ⟨R.SYS_CAPS0, 0, 1⟩
abbrev R.SYS_ERR : Nat := 0x000014
abbrev F.SYS_ERR.ABSENT_WR : Fld := ⟨R.SYS_ERR, 0, 1⟩
abbrev F.SYS_ERR.ALIGN : Fld := ⟨R.SYS_ERR, 1, 1⟩
abbrev F.SYS_ERR.LOCKED_WR : Fld := ⟨R.SYS_ERR, 2, 1⟩
abbrev F.SYS_ERR.UNMAPPED : Fld := ⟨R.SYS_ERR, 3, 1⟩
abbrev F.SYS_ERR.STBY_WR : Fld := ⟨R.SYS_ERR, 4, 1⟩
abbrev F.SYS_ERR.KMP_AUTH : Fld := ⟨R.SYS_ERR, 5, 1⟩
abbrev R.SYS_UP_LO : Nat := 0x000018
abbrev F.SYS_UP_LO.UP : Fld := ⟨R.SYS_UP_LO, 0, 32⟩
abbrev R.SYS_UP_HI : Nat := 0x00001C
abbrev F.SYS_UP_HI.UP : Fld := ⟨R.SYS_UP_HI, 0, 32⟩
abbrev R.SYS_REQ : Nat := 0x000020
abbrev F.SYS_REQ.REQ : Fld := ⟨R.SYS_REQ, 0, 3⟩
abbrev F.SYS_REQ.ACTIVE : Fld := ⟨R.SYS_REQ, 3, 1⟩
abbrev R.SYS_MGT_CFG : Nat := 0x000040
abbrev F.SYS_MGT_CFG.TCP_PORT : Fld := ⟨R.SYS_MGT_CFG, 0, 16⟩
abbrev F.SYS_MGT_CFG.IP4_EN : Fld := ⟨R.SYS_MGT_CFG, 16, 1⟩
abbrev F.SYS_MGT_CFG.IP6_EN : Fld := ⟨R.SYS_MGT_CFG, 17, 1⟩
abbrev R.SYS_MGT_IP4 : Nat := 0x000044
abbrev F.SYS_MGT_IP4.ADDR : Fld := ⟨R.SYS_MGT_IP4, 0, 32⟩
abbrev R.SYS_MGT_IP6_0 : Nat := 0x000048
abbrev F.SYS_MGT_IP6_0.ADDR : Fld := ⟨R.SYS_MGT_IP6_0, 0, 32⟩
abbrev R.SYS_MGT_IP6_1 : Nat := 0x00004C
abbrev F.SYS_MGT_IP6_1.ADDR : Fld := ⟨R.SYS_MGT_IP6_1, 0, 32⟩
abbrev R.SYS_MGT_IP6_2 : Nat := 0x000050
abbrev F.SYS_MGT_IP6_2.ADDR : Fld := ⟨R.SYS_MGT_IP6_2, 0, 32⟩
abbrev R.SYS_MGT_IP6_3 : Nat := 0x000054
abbrev F.SYS_MGT_IP6_3.ADDR : Fld := ⟨R.SYS_MGT_IP6_3, 0, 32⟩
abbrev R.SYS_MGT_STAT : Nat := 0x000058
abbrev F.SYS_MGT_STAT.LINK : Fld := ⟨R.SYS_MGT_STAT, 0, 1⟩
abbrev F.SYS_MGT_STAT.SESS : Fld := ⟨R.SYS_MGT_STAT, 1, 3⟩
abbrev F.SYS_MGT_STAT.IDENT : Fld := ⟨R.SYS_MGT_STAT, 4, 2⟩
abbrev R.SYS_KMP_CNT : Nat := 0x00005C
abbrev F.SYS_KMP_CNT.COUNT : Fld := ⟨R.SYS_KMP_CNT, 0, 32⟩
abbrev R.SYS_RESET : Nat := 0x000100
abbrev F.SYS_RESET.KEY : Fld := ⟨R.SYS_RESET, 0, 32⟩
abbrev R.SYS_RST_CAUSE : Nat := 0x000104
abbrev F.SYS_RST_CAUSE.POR : Fld := ⟨R.SYS_RST_CAUSE, 0, 1⟩
abbrev F.SYS_RST_CAUSE.NRESET : Fld := ⟨R.SYS_RST_CAUSE, 1, 1⟩
abbrev F.SYS_RST_CAUSE.WDOG : Fld := ⟨R.SYS_RST_CAUSE, 2, 1⟩
abbrev F.SYS_RST_CAUSE.SWRST : Fld := ⟨R.SYS_RST_CAUSE, 3, 1⟩
abbrev F.SYS_RST_CAUSE.PFW : Fld := ⟨R.SYS_RST_CAUSE, 4, 1⟩
abbrev F.SYS_RST_CAUSE.HU_END : Fld := ⟨R.SYS_RST_CAUSE, 5, 1⟩
abbrev F.SYS_RST_CAUSE.BADKEY : Fld := ⟨R.SYS_RST_CAUSE, 16, 1⟩
abbrev R.SYS_RST_CNT : Nat := 0x000108
abbrev F.SYS_RST_CNT.COUNT : Fld := ⟨R.SYS_RST_CNT, 0, 32⟩
abbrev R.SYS_SVC : Nat := 0x00010C
abbrev F.SYS_SVC.STATE : Fld := ⟨R.SYS_SVC, 0, 3⟩
abbrev F.SYS_SVC.TSTART : Fld := ⟨R.SYS_SVC, 3, 1⟩
abbrev F.SYS_SVC.CAPLOOP : Fld := ⟨R.SYS_SVC, 4, 1⟩
abbrev R.SYS_T_CAP : Nat := 0x000110
abbrev F.SYS_T_CAP.MS : Fld := ⟨R.SYS_T_CAP, 0, 32⟩
abbrev R.SYS_T_FULL : Nat := 0x000114
abbrev F.SYS_T_FULL.MS : Fld := ⟨R.SYS_T_FULL, 0, 32⟩
/- PWR block (R387). -/
abbrev R.PWR_STAT : Nat := 0x010000
abbrev F.PWR_STAT.PFW : Fld := ⟨R.PWR_STAT, 0, 1⟩
abbrev F.PWR_STAT.HU_RDY : Fld := ⟨R.PWR_STAT, 1, 1⟩
abbrev F.PWR_STAT.HU_MIN : Fld := ⟨R.PWR_STAT, 2, 1⟩
abbrev F.PWR_STAT.SEQ : Fld := ⟨R.PWR_STAT, 3, 1⟩
abbrev R.PWR_ERR : Nat := 0x010004
abbrev F.PWR_ERR.PFW : Fld := ⟨R.PWR_ERR, 0, 1⟩
abbrev F.PWR_ERR.DOM_FAIL : Fld := ⟨R.PWR_ERR, 1, 1⟩
abbrev F.PWR_ERR.HU_LOW : Fld := ⟨R.PWR_ERR, 2, 1⟩
abbrev R.PWR_GAP : Nat := 0x010008
abbrev F.PWR_GAP.GAP : Fld := ⟨R.PWR_GAP, 0, 10⟩
abbrev R.PWR_DOM_STAT : Nat := 0x01000C
abbrev F.PWR_DOM_STAT.ON : Fld := ⟨R.PWR_DOM_STAT, 0, 16⟩
abbrev R.PWR_DOM_FAIL : Nat := 0x010010
abbrev F.PWR_DOM_FAIL.FAIL : Fld := ⟨R.PWR_DOM_FAIL, 0, 16⟩
abbrev R.PWR_VIN : Nat := 0x010014
abbrev F.PWR_VIN.VIN : Fld := ⟨R.PWR_VIN, 0, 16⟩
abbrev R.PWR_VIN_MIN : Nat := 0x010018
abbrev F.PWR_VIN_MIN.VIN : Fld := ⟨R.PWR_VIN_MIN, 0, 16⟩
abbrev R.PWR_HU : Nat := 0x01001C
abbrev F.PWR_HU.MJ : Fld := ⟨R.PWR_HU, 0, 16⟩
abbrev R.PWR_PFW_CNT : Nat := 0x010020
abbrev F.PWR_PFW_CNT.COUNT : Fld := ⟨R.PWR_PFW_CNT, 0, 32⟩
abbrev R.PWR_PFW_LAST : Nat := 0x010024
abbrev F.PWR_PFW_LAST.US : Fld := ⟨R.PWR_PFW_LAST, 0, 32⟩
/- CFG block (R408). -/
abbrev R.CFG_CTRL : Nat := 0x020000
abbrev F.CFG_CTRL.CLR_REJ : Fld := ⟨R.CFG_CTRL, 0, 1⟩
abbrev R.CFG_STAT : Nat := 0x020004
abbrev F.CFG_STAT.SLOT : Fld := ⟨R.CFG_STAT, 0, 1⟩
abbrev F.CFG_STAT.CAP_OK : Fld := ⟨R.CFG_STAT, 1, 1⟩
abbrev F.CFG_STAT.FULL_OK : Fld := ⟨R.CFG_STAT, 2, 1⟩
abbrev F.CFG_STAT.HELD : Fld := ⟨R.CFG_STAT, 3, 1⟩
abbrev F.CFG_STAT.REJ_USED : Fld := ⟨R.CFG_STAT, 4, 1⟩
abbrev F.CFG_STAT.ENC : Fld := ⟨R.CFG_STAT, 5, 1⟩
abbrev F.CFG_STAT.SELINIT : Fld := ⟨R.CFG_STAT, 6, 1⟩
abbrev F.CFG_STAT.SECTS : Fld := ⟨R.CFG_STAT, 8, 8⟩
abbrev F.CFG_STAT.WARN : Fld := ⟨R.CFG_STAT, 16, 8⟩
abbrev R.CFG_ERR : Nat := 0x020008
abbrev F.CFG_ERR.CODE : Fld := ⟨R.CFG_ERR, 0, 8⟩
abbrev F.CFG_ERR.SECT : Fld := ⟨R.CFG_ERR, 8, 8⟩
abbrev F.CFG_ERR.SLOT : Fld := ⟨R.CFG_ERR, 16, 1⟩
abbrev R.CFG_ERR_ADDR : Nat := 0x02000C
abbrev F.CFG_ERR_ADDR.ADDR : Fld := ⟨R.CFG_ERR_ADDR, 0, 24⟩
abbrev F.CFG_ERR_ADDR.KIND : Fld := ⟨R.CFG_ERR_ADDR, 24, 4⟩
abbrev R.CFG_ID : Nat := 0x020010
abbrev F.CFG_ID.VALUE : Fld := ⟨R.CFG_ID, 0, 32⟩
abbrev R.CFG_GEN : Nat := 0x020014
abbrev F.CFG_GEN.VALUE : Fld := ⟨R.CFG_GEN, 0, 32⟩
abbrev R.CFG_SEL : Nat := 0x020018
abbrev F.CFG_SEL.PREF : Fld := ⟨R.CFG_SEL, 0, 1⟩
abbrev F.CFG_SEL.REJ0 : Fld := ⟨R.CFG_SEL, 1, 1⟩
abbrev F.CFG_SEL.REJ1 : Fld := ⟨R.CFG_SEL, 2, 1⟩
abbrev R.CFG_FLOOR : Nat := 0x02001C
abbrev F.CFG_FLOOR.GEN : Fld := ⟨R.CFG_FLOOR, 0, 32⟩
abbrev R.CFG_SLOTn_ID (n : Nat) : Nat := 0x020020 + 0x8 * n
abbrev F.CFG_SLOTn_ID.VALUE (n : Nat) : Fld := ⟨R.CFG_SLOTn_ID n, 0, 32⟩
abbrev R.CFG_SLOTn_GEN (n : Nat) : Nat := 0x020024 + 0x8 * n
abbrev F.CFG_SLOTn_GEN.VALUE (n : Nat) : Fld := ⟨R.CFG_SLOTn_GEN n, 0, 32⟩
abbrev R.CFG_LOAD_MS : Nat := 0x020030
abbrev F.CFG_LOAD_MS.MS : Fld := ⟨R.CFG_LOAD_MS, 0, 32⟩
abbrev R.CFG_XSPI : Nat := 0x020034
abbrev F.CFG_XSPI.DDR : Fld := ⟨R.CFG_XSPI, 0, 1⟩
abbrev F.CFG_XSPI.MHZ : Fld := ⟨R.CFG_XSPI, 8, 8⟩
abbrev R.CFG_TAB_ADDR (q : Nat) : Nat := 0x020038 + 0x1000000 * q
abbrev F.CFG_TAB_ADDR.ADDR (q : Nat) : Fld := ⟨R.CFG_TAB_ADDR q, 0, 13⟩
abbrev R.CFG_TAB_DATA : Nat := 0x02003C
abbrev F.CFG_TAB_DATA.DATA : Fld := ⟨R.CFG_TAB_DATA, 0, 32⟩
/- CYC block (R162). -/
abbrev R.CYC_CTRL : Nat := 0x030000
abbrev F.CYC_CTRL.EXCH_ARM : Fld := ⟨R.CYC_CTRL, 0, 1⟩
abbrev F.CYC_CTRL.EXCH_ABORT : Fld := ⟨R.CYC_CTRL, 1, 1⟩
abbrev R.CYC_STAT : Nat := 0x030004
abbrev F.CYC_STAT.STATE : Fld := ⟨R.CYC_STAT, 0, 3⟩
abbrev F.CYC_STAT.STALL : Fld := ⟨R.CYC_STAT, 3, 1⟩
abbrev F.CYC_STAT.OVR_RUN : Fld := ⟨R.CYC_STAT, 8, 8⟩
abbrev F.CYC_STAT.EXCH : Fld := ⟨R.CYC_STAT, 16, 3⟩
abbrev R.CYC_ERR : Nat := 0x030008
abbrev F.CYC_ERR.OVR : Fld := ⟨R.CYC_ERR, 0, 1⟩
abbrev F.CYC_ERR.OVR_LIM : Fld := ⟨R.CYC_ERR, 1, 1⟩
abbrev F.CYC_ERR.ARITH : Fld := ⟨R.CYC_ERR, 2, 1⟩
abbrev F.CYC_ERR.INCONS : Fld := ⟨R.CYC_ERR, 3, 1⟩
abbrev F.CYC_ERR.EXCH_FAIL : Fld := ⟨R.CYC_ERR, 4, 1⟩
abbrev F.CYC_ERR.EXCH_SEQ : Fld := ⟨R.CYC_ERR, 5, 1⟩
abbrev F.CYC_ERR.RANGE : Fld := ⟨R.CYC_ERR, 6, 1⟩
abbrev F.CYC_ERR.HALT : Fld := ⟨R.CYC_ERR, 7, 1⟩
abbrev R.CYC_TMAX : Nat := 0x03000C
abbrev F.CYC_TMAX.TMAX : Fld := ⟨R.CYC_TMAX, 0, 24⟩
abbrev R.CYC_REST : Nat := 0x030010
abbrev F.CYC_REST.REST : Fld := ⟨R.CYC_REST, 0, 20⟩
abbrev R.CYC_OVR_LIM : Nat := 0x030014
abbrev F.CYC_OVR_LIM.LIM : Fld := ⟨R.CYC_OVR_LIM, 0, 8⟩
abbrev R.CYC_SEQ : Nat := 0x030018
abbrev F.CYC_SEQ.SEQ : Fld := ⟨R.CYC_SEQ, 0, 32⟩
abbrev R.CYC_LAST : Nat := 0x03001C
abbrev F.CYC_LAST.DUR : Fld := ⟨R.CYC_LAST, 0, 32⟩
abbrev R.CYC_MAX : Nat := 0x030020
abbrev F.CYC_MAX.DUR : Fld := ⟨R.CYC_MAX, 0, 32⟩
abbrev R.CYC_MIN : Nat := 0x030024
abbrev F.CYC_MIN.DUR : Fld := ⟨R.CYC_MIN, 0, 32⟩
abbrev R.CYC_OVR_CNT : Nat := 0x030028
abbrev F.CYC_OVR_CNT.COUNT : Fld := ⟨R.CYC_OVR_CNT, 0, 32⟩
abbrev R.CYC_ARITH_CNT : Nat := 0x03002C
abbrev F.CYC_ARITH_CNT.COUNT : Fld := ⟨R.CYC_ARITH_CNT, 0, 32⟩
abbrev R.CYC_INCONS_CNT : Nat := 0x030030
abbrev F.CYC_INCONS_CNT.COUNT : Fld := ⟨R.CYC_INCONS_CNT, 0, 32⟩
abbrev R.CYC_BLK_CNT : Nat := 0x030034
abbrev F.CYC_BLK_CNT.COUNT : Fld := ⟨R.CYC_BLK_CNT, 0, 17⟩
abbrev R.CYC_PROG_ID : Nat := 0x030038
abbrev F.CYC_PROG_ID.ID : Fld := ⟨R.CYC_PROG_ID, 0, 32⟩
abbrev R.CYC_EXCH_ID : Nat := 0x03003C
abbrev F.CYC_EXCH_ID.ID : Fld := ⟨R.CYC_EXCH_ID, 0, 32⟩
abbrev R.CYC_EXCH_US : Nat := 0x030040
abbrev F.CYC_EXCH_US.US : Fld := ⟨R.CYC_EXCH_US, 0, 20⟩
abbrev R.CYC_EXCH_KEPT : Nat := 0x030044
abbrev F.CYC_EXCH_KEPT.COUNT : Fld := ⟨R.CYC_EXCH_KEPT, 0, 17⟩
abbrev R.CYC_EXCH_ERR : Nat := 0x030048
abbrev F.CYC_EXCH_ERR.CODE : Fld := ⟨R.CYC_EXCH_ERR, 0, 8⟩
abbrev R.CYC_HOSTW_BASE : Nat := 0x03004C
abbrev F.CYC_HOSTW_BASE.BASE : Fld := ⟨R.CYC_HOSTW_BASE, 0, 19⟩
abbrev R.CYC_HOSTW_SIZE : Nat := 0x030050
abbrev F.CYC_HOSTW_SIZE.SIZE : Fld := ⟨R.CYC_HOSTW_SIZE, 0, 20⟩
abbrev R.CYC_TAB_ADDR (q : Nat) : Nat := 0x030054 + 0x1000000 * q
abbrev F.CYC_TAB_ADDR.ADDR (q : Nat) : Fld := ⟨R.CYC_TAB_ADDR q, 0, 23⟩
abbrev R.CYC_TAB_DATA : Nat := 0x030058
abbrev F.CYC_TAB_DATA.DATA : Fld := ⟨R.CYC_TAB_DATA, 0, 32⟩
/- PGR block (R135). -/
abbrev R.PGR_CFG : Nat := 0x040000
abbrev F.PGR_CFG.PF_DEPTH : Fld := ⟨R.PGR_CFG, 0, 8⟩
abbrev F.PGR_CFG.LRU_ONLY : Fld := ⟨R.PGR_CFG, 8, 1⟩
abbrev R.PGR_STAT : Nat := 0x040004
abbrev F.PGR_STAT.RUN : Fld := ⟨R.PGR_STAT, 0, 1⟩
abbrev F.PGR_STAT.SCHED : Fld := ⟨R.PGR_STAT, 1, 1⟩
abbrev F.PGR_STAT.FULL_RES : Fld := ⟨R.PGR_STAT, 2, 1⟩
abbrev F.PGR_STAT.RESIDENT : Fld := ⟨R.PGR_STAT, 16, 11⟩
abbrev R.PGR_ERR : Nat := 0x040008
abbrev F.PGR_ERR.VLIST_BAD : Fld := ⟨R.PGR_ERR, 0, 1⟩
abbrev F.PGR_ERR.EFIFO_OVF : Fld := ⟨R.PGR_ERR, 1, 1⟩
abbrev F.PGR_ERR.ALLOC_FULL : Fld := ⟨R.PGR_ERR, 2, 1⟩
abbrev F.PGR_ERR.ALLOC_QUOTA : Fld := ⟨R.PGR_ERR, 3, 1⟩
abbrev F.PGR_ERR.REGION_VIOL : Fld := ⟨R.PGR_ERR, 4, 1⟩
abbrev F.PGR_ERR.TASK_SKIP : Fld := ⟨R.PGR_ERR, 5, 1⟩
abbrev F.PGR_ERR.TASK_LOST : Fld := ⟨R.PGR_ERR, 6, 1⟩
abbrev F.PGR_ERR.RANGE : Fld := ⟨R.PGR_ERR, 7, 1⟩
abbrev R.PGR_TRIG : Nat := 0x04000C
abbrev F.PGR_TRIG.TASK : Fld := ⟨R.PGR_TRIG, 0, 6⟩
abbrev R.PGR_HIT_CYC : Nat := 0x040010
abbrev F.PGR_HIT_CYC.COUNT : Fld := ⟨R.PGR_HIT_CYC, 0, 32⟩
abbrev R.PGR_MISS_CYC : Nat := 0x040014
abbrev F.PGR_MISS_CYC.COUNT : Fld := ⟨R.PGR_MISS_CYC, 0, 32⟩
abbrev R.PGR_HIT_LPE : Nat := 0x040018
abbrev F.PGR_HIT_LPE.COUNT : Fld := ⟨R.PGR_HIT_LPE, 0, 32⟩
abbrev R.PGR_MISS_LPE : Nat := 0x04001C
abbrev F.PGR_MISS_LPE.COUNT : Fld := ⟨R.PGR_MISS_LPE, 0, 32⟩
abbrev R.PGR_PF_CNT : Nat := 0x040020
abbrev F.PGR_PF_CNT.COUNT : Fld := ⟨R.PGR_PF_CNT, 0, 32⟩
abbrev R.PGR_EVICT_CNT : Nat := 0x040024
abbrev F.PGR_EVICT_CNT.COUNT : Fld := ⟨R.PGR_EVICT_CNT, 0, 32⟩
abbrev R.PGR_STALL_CYC : Nat := 0x040028
abbrev F.PGR_STALL_CYC.US : Fld := ⟨R.PGR_STALL_CYC, 0, 32⟩
abbrev R.PGR_STALL_LPE : Nat := 0x04002C
abbrev F.PGR_STALL_LPE.US : Fld := ⟨R.PGR_STALL_LPE, 0, 32⟩
abbrev R.PGR_STALL_MAX : Nat := 0x040030
abbrev F.PGR_STALL_MAX.MAX : Fld := ⟨R.PGR_STALL_MAX, 0, 16⟩
abbrev F.PGR_STALL_MAX.ENG : Fld := ⟨R.PGR_STALL_MAX, 16, 1⟩
abbrev R.PGR_TASK_SEL (q : Nat) : Nat := 0x040034 + 0x1000000 * q
abbrev F.PGR_TASK_SEL.TASK (q : Nat) : Fld := ⟨R.PGR_TASK_SEL q, 0, 6⟩
abbrev R.PGR_TAB_ADDR (q : Nat) : Nat := 0x040038 + 0x1000000 * q
abbrev F.PGR_TAB_ADDR.ADDR (q : Nat) : Fld := ⟨R.PGR_TAB_ADDR q, 0, 13⟩
abbrev R.PGR_TAB_DATA : Nat := 0x04003C
abbrev F.PGR_TAB_DATA.DATA : Fld := ⟨R.PGR_TAB_DATA, 0, 32⟩
abbrev R.PGR_POOL_BASE : Nat := 0x040040
abbrev F.PGR_POOL_BASE.BASE : Fld := ⟨R.PGR_POOL_BASE, 0, 17⟩
abbrev R.PGR_POOL_SIZE : Nat := 0x040044
abbrev F.PGR_POOL_SIZE.SIZE : Fld := ⟨R.PGR_POOL_SIZE, 0, 16⟩
abbrev R.PGR_POOL_FREE : Nat := 0x040048
abbrev F.PGR_POOL_FREE.GRAN : Fld := ⟨R.PGR_POOL_FREE, 0, 16⟩
abbrev R.PGR_POOL_LARGEST : Nat := 0x04004C
abbrev F.PGR_POOL_LARGEST.GRAN : Fld := ⟨R.PGR_POOL_LARGEST, 0, 16⟩
abbrev R.PGR_QUOTAn (n : Nat) : Nat := 0x040050 + 0x4 * n
abbrev F.PGR_QUOTAn.QUOTA (n : Nat) : Fld := ⟨R.PGR_QUOTAn n, 0, 16⟩
abbrev R.PGR_USEDn (n : Nat) : Nat := 0x040058 + 0x4 * n
abbrev F.PGR_USEDn.USED (n : Nat) : Fld := ⟨R.PGR_USEDn n, 0, 16⟩
abbrev R.PGR_EFIFO_LVL : Nat := 0x040060
abbrev F.PGR_EFIFO_LVL.LEVEL : Fld := ⟨R.PGR_EFIFO_LVL, 0, 10⟩
abbrev R.PGR_READYn (n : Nat) : Nat := 0x040080 + 0x4 * n
abbrev F.PGR_READYn.READY (n : Nat) : Fld := ⟨R.PGR_READYn n, 0, 32⟩
abbrev R.T_STAT (i : Nat) : Nat := 0x040100 + 0x1000000 * i
abbrev F.T_STAT.STATE (i : Nat) : Fld := ⟨R.T_STAT i, 0, 2⟩
abbrev F.T_STAT.PEND (i : Nat) : Fld := ⟨R.T_STAT i, 2, 1⟩
abbrev R.T_RUNS (i : Nat) : Nat := 0x040104 + 0x1000000 * i
abbrev F.T_RUNS.COUNT (i : Nat) : Fld := ⟨R.T_RUNS i, 0, 32⟩
abbrev R.T_SKIP (i : Nat) : Nat := 0x040108 + 0x1000000 * i
abbrev F.T_SKIP.COUNT (i : Nat) : Fld := ⟨R.T_SKIP i, 0, 32⟩
abbrev R.T_LOST (i : Nat) : Nat := 0x04010C + 0x1000000 * i
abbrev F.T_LOST.COUNT (i : Nat) : Fld := ⟨R.T_LOST i, 0, 32⟩
abbrev R.T_LAST (i : Nat) : Nat := 0x040110 + 0x1000000 * i
abbrev F.T_LAST.DUR (i : Nat) : Fld := ⟨R.T_LAST i, 0, 32⟩
abbrev R.PGR_RESn (n : Nat) : Nat := 0x040400 + 0x4 * n
abbrev F.PGR_RESn.RES (n : Nat) : Fld := ⟨R.PGR_RESn n, 0, 32⟩
/- SIO block (R115). -/
abbrev R.SIO_CFG : Nat := 0x050000
abbrev F.SIO_CFG.UDP_PORT : Fld := ⟨R.SIO_CFG, 0, 16⟩
abbrev R.SIO_WD_MISS : Nat := 0x050004
abbrev F.SIO_WD_MISS.MISS : Fld := ⟨R.SIO_WD_MISS, 0, 4⟩
abbrev R.SIO_STAT : Nat := 0x050008
abbrev F.SIO_STAT.CAP : Fld := ⟨R.SIO_STAT, 0, 1⟩
abbrev F.SIO_STAT.FULL : Fld := ⟨R.SIO_STAT, 1, 1⟩
abbrev F.SIO_STAT.KEYLOSS : Fld := ⟨R.SIO_STAT, 2, 1⟩
abbrev F.SIO_STAT.UP_CNT : Fld := ⟨R.SIO_STAT, 16, 13⟩
abbrev R.SIO_ERR : Nat := 0x05000C
abbrev F.SIO_ERR.AUTH : Fld := ⟨R.SIO_ERR, 0, 1⟩
abbrev F.SIO_ERR.REPLAY : Fld := ⟨R.SIO_ERR, 1, 1⟩
abbrev F.SIO_ERR.FMT : Fld := ⟨R.SIO_ERR, 2, 1⟩
abbrev F.SIO_ERR.KEY : Fld := ⟨R.SIO_ERR, 3, 1⟩
abbrev F.SIO_ERR.SETUP_Q : Fld := ⟨R.SIO_ERR, 4, 1⟩
abbrev F.SIO_ERR.RANGE : Fld := ⟨R.SIO_ERR, 5, 1⟩
abbrev R.SIO_UNDELIV : Nat := 0x050010
abbrev F.SIO_UNDELIV.COUNT : Fld := ⟨R.SIO_UNDELIV, 0, 32⟩
abbrev R.SIO_CLOSE : Nat := 0x050014
abbrev F.SIO_CLOSE.STN : Fld := ⟨R.SIO_CLOSE, 0, 12⟩
abbrev R.SIO_WIN_SEL (q : Nat) : Nat := 0x050018 + 0x1000000 * q
abbrev F.SIO_WIN_SEL.STN (q : Nat) : Fld := ⟨R.SIO_WIN_SEL q, 0, 12⟩
abbrev R.SIO_TAB_ADDR (q : Nat) : Nat := 0x05001C + 0x1000000 * q
abbrev F.SIO_TAB_ADDR.ADDR (q : Nat) : Fld := ⟨R.SIO_TAB_ADDR q, 0, 19⟩
abbrev R.SIO_TAB_DATA : Nat := 0x050020
abbrev F.SIO_TAB_DATA.DATA : Fld := ⟨R.SIO_TAB_DATA, 0, 32⟩
abbrev R.SIO_AUTH_CNT : Nat := 0x050024
abbrev F.SIO_AUTH_CNT.COUNT : Fld := ⟨R.SIO_AUTH_CNT, 0, 32⟩
abbrev R.SIO_REPLAY_CNT : Nat := 0x050028
abbrev F.SIO_REPLAY_CNT.COUNT : Fld := ⟨R.SIO_REPLAY_CNT, 0, 32⟩
abbrev R.SIO_FMT_CNT : Nat := 0x05002C
abbrev F.SIO_FMT_CNT.COUNT : Fld := ⟨R.SIO_FMT_CNT, 0, 32⟩
abbrev R.SIO_UNKNOWN_CNT : Nat := 0x050030
abbrev F.SIO_UNKNOWN_CNT.COUNT : Fld := ⟨R.SIO_UNKNOWN_CNT, 0, 32⟩
abbrev R.SIO_PORTn_CFG (n : Nat) : Nat := 0x050040 + 0x20 * n
abbrev F.SIO_PORTn_CFG.EN (n : Nat) : Fld := ⟨R.SIO_PORTn_CFG n, 0, 1⟩
abbrev F.SIO_PORTn_CFG.VLAN (n : Nat) : Fld := ⟨R.SIO_PORTn_CFG n, 1, 1⟩
abbrev F.SIO_PORTn_CFG.PCP (n : Nat) : Fld := ⟨R.SIO_PORTn_CFG n, 2, 3⟩
abbrev F.SIO_PORTn_CFG.VID (n : Nat) : Fld := ⟨R.SIO_PORTn_CFG n, 16, 12⟩
abbrev R.SIO_PORTn_IP4 (n : Nat) : Nat := 0x050044 + 0x20 * n
abbrev F.SIO_PORTn_IP4.ADDR (n : Nat) : Fld := ⟨R.SIO_PORTn_IP4 n, 0, 32⟩
abbrev R.SIO_PORTn_IP6_0 (n : Nat) : Nat := 0x050048 + 0x20 * n
abbrev F.SIO_PORTn_IP6_0.ADDR (n : Nat) : Fld := ⟨R.SIO_PORTn_IP6_0 n, 0, 32⟩
abbrev R.SIO_PORTn_IP6_1 (n : Nat) : Nat := 0x05004C + 0x20 * n
abbrev F.SIO_PORTn_IP6_1.ADDR (n : Nat) : Fld := ⟨R.SIO_PORTn_IP6_1 n, 0, 32⟩
abbrev R.SIO_PORTn_IP6_2 (n : Nat) : Nat := 0x050050 + 0x20 * n
abbrev F.SIO_PORTn_IP6_2.ADDR (n : Nat) : Fld := ⟨R.SIO_PORTn_IP6_2 n, 0, 32⟩
abbrev R.SIO_PORTn_IP6_3 (n : Nat) : Nat := 0x050054 + 0x20 * n
abbrev F.SIO_PORTn_IP6_3.ADDR (n : Nat) : Fld := ⟨R.SIO_PORTn_IP6_3 n, 0, 32⟩
abbrev R.SIO_PORTn_STAT (n : Nat) : Nat := 0x050058 + 0x20 * n
abbrev F.SIO_PORTn_STAT.LINK (n : Nat) : Fld := ⟨R.SIO_PORTn_STAT n, 0, 1⟩
abbrev R.SW_STAT (i : Nat) : Nat := 0x050100 + 0x1000000 * i
abbrev F.SW_STAT.STATE (i : Nat) : Fld := ⟨R.SW_STAT i, 0, 2⟩
abbrev F.SW_STAT.SUB (i : Nat) : Fld := ⟨R.SW_STAT i, 2, 1⟩
abbrev F.SW_STAT.SUBFB (i : Nat) : Fld := ⟨R.SW_STAT i, 3, 1⟩
abbrev F.SW_STAT.MISS (i : Nat) : Fld := ⟨R.SW_STAT i, 4, 4⟩
abbrev F.SW_STAT.CAUSE (i : Nat) : Fld := ⟨R.SW_STAT i, 8, 3⟩
abbrev R.SW_SESSION (i : Nat) : Nat := 0x050104 + 0x1000000 * i
abbrev F.SW_SESSION.SESSION (i : Nat) : Fld := ⟨R.SW_SESSION i, 0, 32⟩
abbrev R.SW_RX_CNT (i : Nat) : Nat := 0x050108 + 0x1000000 * i
abbrev F.SW_RX_CNT.COUNT (i : Nat) : Fld := ⟨R.SW_RX_CNT i, 0, 32⟩
abbrev R.SW_RX_SEC (i : Nat) : Nat := 0x05010C + 0x1000000 * i
abbrev F.SW_RX_SEC.SEC (i : Nat) : Fld := ⟨R.SW_RX_SEC i, 0, 32⟩
abbrev R.SW_RX_NS (i : Nat) : Nat := 0x050110 + 0x1000000 * i
abbrev F.SW_RX_NS.NS (i : Nat) : Fld := ⟨R.SW_RX_NS i, 0, 30⟩
abbrev R.SW_DOWN_SEC (i : Nat) : Nat := 0x050114 + 0x1000000 * i
abbrev F.SW_DOWN_SEC.SEC (i : Nat) : Fld := ⟨R.SW_DOWN_SEC i, 0, 32⟩
abbrev R.SW_DOWN_NS (i : Nat) : Nat := 0x050118 + 0x1000000 * i
abbrev F.SW_DOWN_NS.NS (i : Nat) : Fld := ⟨R.SW_DOWN_NS i, 0, 30⟩
abbrev R.SW_UNDELIV (i : Nat) : Nat := 0x05011C + 0x1000000 * i
abbrev F.SW_UNDELIV.COUNT (i : Nat) : Fld := ⟨R.SW_UNDELIV i, 0, 32⟩
abbrev R.SW_WITHHELD (i : Nat) : Nat := 0x050120 + 0x1000000 * i
abbrev F.SW_WITHHELD.COUNT (i : Nat) : Fld := ⟨R.SW_WITHHELD i, 0, 32⟩
abbrev R.SW_DUP (i : Nat) : Nat := 0x050124 + 0x1000000 * i
abbrev F.SW_DUP.COUNT (i : Nat) : Fld := ⟨R.SW_DUP i, 0, 32⟩
abbrev R.SIO_DOWNn (n : Nat) : Nat := 0x050400 + 0x4 * n
abbrev F.SIO_DOWNn.DOWN (n : Nat) : Fld := ⟨R.SIO_DOWNn n, 0, 32⟩
/- LPE block (R201). -/
abbrev R.LPE_STAT : Nat := 0x060000
abbrev F.LPE_STAT.RUN : Fld := ⟨R.LPE_STAT, 0, 1⟩
abbrev F.LPE_STAT.CAP : Fld := ⟨R.LPE_STAT, 1, 1⟩
abbrev F.LPE_STAT.MODEL : Fld := ⟨R.LPE_STAT, 2, 1⟩
abbrev F.LPE_STAT.CLOSED : Fld := ⟨R.LPE_STAT, 16, 13⟩
abbrev R.LPE_ERR : Nat := 0x060004
abbrev F.LPE_ERR.COEF_REJ : Fld := ⟨R.LPE_ERR, 0, 1⟩
abbrev F.LPE_ERR.MODE_REJ : Fld := ⟨R.LPE_ERR, 1, 1⟩
abbrev F.LPE_ERR.WRITER : Fld := ⟨R.LPE_ERR, 2, 1⟩
abbrev F.LPE_ERR.RANGE : Fld := ⟨R.LPE_ERR, 3, 1⟩
abbrev F.LPE_ERR.LATE : Fld := ⟨R.LPE_ERR, 4, 1⟩
abbrev F.LPE_ERR.FAULT : Fld := ⟨R.LPE_ERR, 5, 1⟩
abbrev F.LPE_ERR.PL_SUSP : Fld := ⟨R.LPE_ERR, 6, 1⟩
abbrev F.LPE_ERR.STEP : Fld := ⟨R.LPE_ERR, 7, 1⟩
abbrev F.LPE_ERR.CAP_MISMATCH : Fld := ⟨R.LPE_ERR, 8, 1⟩
abbrev F.LPE_ERR.RESET_REJ : Fld := ⟨R.LPE_ERR, 9, 1⟩
abbrev F.LPE_ERR.SAT : Fld := ⟨R.LPE_ERR, 10, 1⟩
abbrev R.LPE_TICK : Nat := 0x060008
abbrev F.LPE_TICK.TICK : Fld := ⟨R.LPE_TICK, 0, 32⟩
abbrev R.LPE_LOAD : Nat := 0x06000C
abbrev F.LPE_LOAD.LAST : Fld := ⟨R.LPE_LOAD, 0, 12⟩
abbrev F.LPE_LOAD.PEAK : Fld := ⟨R.LPE_LOAD, 16, 12⟩
abbrev R.LPE_BUSY_MAX : Nat := 0x060010
abbrev F.LPE_BUSY_MAX.DUR : Fld := ⟨R.LPE_BUSY_MAX, 0, 32⟩
abbrev R.LPE_LATE_CNT : Nat := 0x060014
abbrev F.LPE_LATE_CNT.COUNT : Fld := ⟨R.LPE_LATE_CNT, 0, 32⟩
abbrev R.LPE_FLT_CNT : Nat := 0x060018
abbrev F.LPE_FLT_CNT.COUNT : Fld := ⟨R.LPE_FLT_CNT, 0, 32⟩
abbrev R.LPE_SAT_CNT : Nat := 0x06001C
abbrev F.LPE_SAT_CNT.COUNT : Fld := ⟨R.LPE_SAT_CNT, 0, 32⟩
abbrev R.LPE_WIN_SEL (q : Nat) : Nat := 0x060020 + 0x1000000 * q
abbrev F.LPE_WIN_SEL.SLOT (q : Nat) : Fld := ⟨R.LPE_WIN_SEL q, 0, 12⟩
abbrev R.LPE_TAB_ADDR (q : Nat) : Nat := 0x060024 + 0x1000000 * q
abbrev F.LPE_TAB_ADDR.ADDR (q : Nat) : Fld := ⟨R.LPE_TAB_ADDR q, 0, 20⟩
abbrev R.LPE_TAB_DATA : Nat := 0x060028
abbrev F.LPE_TAB_DATA.DATA : Fld := ⟨R.LPE_TAB_DATA, 0, 32⟩
abbrev R.LPE_GRP_RESET : Nat := 0x06002C
abbrev F.LPE_GRP_RESET.GRP : Fld := ⟨R.LPE_GRP_RESET, 0, 8⟩
abbrev R.LPE_TRIPn (n : Nat) : Nat := 0x060040 + 0x4 * n
abbrev F.LPE_TRIPn.TRIP (n : Nat) : Fld := ⟨R.LPE_TRIPn n, 0, 32⟩
abbrev R.LPn_MODE (i : Nat) : Nat := 0x060100 + 0x1000000 * i
abbrev F.LPn_MODE.MODE (i : Nat) : Fld := ⟨R.LPn_MODE i, 0, 3⟩
abbrev R.LPn_STAT (i : Nat) : Nat := 0x060104 + 0x1000000 * i
abbrev F.LPn_STAT.MODE (i : Nat) : Fld := ⟨R.LPn_STAT i, 0, 3⟩
abbrev F.LPn_STAT.TRK (i : Nat) : Fld := ⟨R.LPn_STAT i, 3, 1⟩
abbrev F.LPn_STAT.WIN (i : Nat) : Fld := ⟨R.LPn_STAT i, 4, 1⟩
abbrev F.LPn_STAT.LIM_HI (i : Nat) : Fld := ⟨R.LPn_STAT i, 5, 1⟩
abbrev F.LPn_STAT.LIM_LO (i : Nat) : Fld := ⟨R.LPn_STAT i, 6, 1⟩
abbrev F.LPn_STAT.ROCLIM (i : Nat) : Fld := ⟨R.LPn_STAT i, 7, 1⟩
abbrev F.LPn_STAT.LATE (i : Nat) : Fld := ⟨R.LPn_STAT i, 8, 1⟩
abbrev F.LPn_STAT.DROP (i : Nat) : Fld := ⟨R.LPn_STAT i, 9, 1⟩
abbrev F.LPn_STAT.PL_SUSP (i : Nat) : Fld := ⟨R.LPn_STAT i, 10, 1⟩
abbrev F.LPn_STAT.PL_DEV (i : Nat) : Fld := ⟨R.LPn_STAT i, 11, 1⟩
abbrev F.LPn_STAT.FAULT (i : Nat) : Fld := ⟨R.LPn_STAT i, 12, 1⟩
abbrev F.LPn_STAT.TRIP (i : Nat) : Fld := ⟨R.LPn_STAT i, 13, 1⟩
abbrev F.LPn_STAT.SAT (i : Nat) : Fld := ⟨R.LPn_STAT i, 14, 1⟩
abbrev F.LPn_STAT.SPCLMP (i : Nat) : Fld := ⟨R.LPn_STAT i, 15, 1⟩
abbrev F.LPn_STAT.LATE_RUN (i : Nat) : Fld := ⟨R.LPn_STAT i, 16, 2⟩
abbrev F.LPn_STAT.PL_RUN (i : Nat) : Fld := ⟨R.LPn_STAT i, 18, 4⟩
abbrev F.LPn_STAT.PEND (i : Nat) : Fld := ⟨R.LPn_STAT i, 22, 1⟩
abbrev R.LPn_FLT (i : Nat) : Nat := 0x060108 + 0x1000000 * i
abbrev F.LPn_FLT.LATE (i : Nat) : Fld := ⟨R.LPn_FLT i, 0, 1⟩
abbrev F.LPn_FLT.PLAUS (i : Nat) : Fld := ⟨R.LPn_FLT i, 1, 1⟩
abbrev F.LPn_FLT.TRIP (i : Nat) : Fld := ⟨R.LPn_FLT i, 2, 1⟩
abbrev R.LPn_SP (i : Nat) : Nat := 0x06010C + 0x1000000 * i
abbrev F.LPn_SP.VALUE (i : Nat) : Fld := ⟨R.LPn_SP i, 0, 32⟩
abbrev R.LPn_MAN (i : Nat) : Nat := 0x060110 + 0x1000000 * i
abbrev F.LPn_MAN.VALUE (i : Nat) : Fld := ⟨R.LPn_MAN i, 0, 32⟩
abbrev R.LPn_PV (i : Nat) : Nat := 0x060114 + 0x1000000 * i
abbrev F.LPn_PV.VALUE (i : Nat) : Fld := ⟨R.LPn_PV i, 0, 32⟩
abbrev R.LPn_OUT (i : Nat) : Nat := 0x060118 + 0x1000000 * i
abbrev F.LPn_OUT.VALUE (i : Nat) : Fld := ⟨R.LPn_OUT i, 0, 32⟩
abbrev R.LPn_PRED (i : Nat) : Nat := 0x06011C + 0x1000000 * i
abbrev F.LPn_PRED.VALUE (i : Nat) : Fld := ⟨R.LPn_PRED i, 0, 32⟩
abbrev R.LPn_INT (i : Nat) : Nat := 0x060120 + 0x1000000 * i
abbrev F.LPn_INT.VALUE (i : Nat) : Fld := ⟨R.LPn_INT i, 0, 32⟩
abbrev R.LPn_LATE_CNT (i : Nat) : Nat := 0x060124 + 0x1000000 * i
abbrev F.LPn_LATE_CNT.COUNT (i : Nat) : Fld := ⟨R.LPn_LATE_CNT i, 0, 32⟩
abbrev R.LPn_PL_CNT (i : Nat) : Nat := 0x060128 + 0x1000000 * i
abbrev F.LPn_PL_CNT.COUNT (i : Nat) : Fld := ⟨R.LPn_PL_CNT i, 0, 32⟩
abbrev R.LPn_EVAL_SEC (i : Nat) : Nat := 0x06012C + 0x1000000 * i
abbrev F.LPn_EVAL_SEC.SEC (i : Nat) : Fld := ⟨R.LPn_EVAL_SEC i, 0, 32⟩
abbrev R.LPn_EVAL_NS (i : Nat) : Nat := 0x060130 + 0x1000000 * i
abbrev F.LPn_EVAL_NS.NS (i : Nat) : Fld := ⟨R.LPn_EVAL_NS i, 0, 30⟩
abbrev R.LPE_FLTn (n : Nat) : Nat := 0x060400 + 0x4 * n
abbrev F.LPE_FLTn.FLT (n : Nat) : Fld := ⟨R.LPE_FLTn n, 0, 32⟩
/- MPG block (R222). -/
abbrev R.MPG_STAT : Nat := 0x070000
abbrev F.MPG_STAT.RUN : Fld := ⟨R.MPG_STAT, 0, 1⟩
abbrev R.MPG_ERR : Nat := 0x070004
abbrev F.MPG_ERR.WRITER : Fld := ⟨R.MPG_ERR, 0, 1⟩
abbrev F.MPG_ERR.RANGE : Fld := ⟨R.MPG_ERR, 1, 1⟩
abbrev F.MPG_ERR.CMD_REJ : Fld := ⟨R.MPG_ERR, 2, 1⟩
abbrev F.MPG_ERR.LIMIT : Fld := ⟨R.MPG_ERR, 3, 1⟩
abbrev F.MPG_ERR.CLR_REJ : Fld := ⟨R.MPG_ERR, 4, 1⟩
abbrev F.MPG_ERR.SOFT_VIOL : Fld := ⟨R.MPG_ERR, 5, 1⟩
abbrev F.MPG_ERR.HOME_LIMIT : Fld := ⟨R.MPG_ERR, 6, 1⟩
abbrev R.MPG_LIM : Nat := 0x070008
abbrev F.MPG_LIM.LIMP : Fld := ⟨R.MPG_LIM, 0, 16⟩
abbrev F.MPG_LIM.LIMN : Fld := ⟨R.MPG_LIM, 16, 16⟩
abbrev R.MPG_WIN_SEL (q : Nat) : Nat := 0x07000C + 0x1000000 * q
abbrev F.MPG_WIN_SEL.RA (q : Nat) : Fld := ⟨R.MPG_WIN_SEL q, 0, 8⟩
abbrev R.MPG_TAB_ADDR (q : Nat) : Nat := 0x070010 + 0x1000000 * q
abbrev F.MPG_TAB_ADDR.ADDR (q : Nat) : Fld := ⟨R.MPG_TAB_ADDR q, 0, 14⟩
abbrev R.MPG_TAB_DATA : Nat := 0x070014
abbrev F.MPG_TAB_DATA.DATA : Fld := ⟨R.MPG_TAB_DATA, 0, 32⟩
abbrev R.RA_CMD (i : Nat) : Nat := 0x070100 + 0x1000000 * i
abbrev F.RA_CMD.CMD (i : Nat) : Fld := ⟨R.RA_CMD i, 0, 3⟩
abbrev R.RA_STAT (i : Nat) : Nat := 0x070104 + 0x1000000 * i
abbrev F.RA_STAT.V (i : Nat) : Fld := ⟨R.RA_STAT i, 0, 32⟩
abbrev R.RA_TARGET (i : Nat) : Nat := 0x070108 + 0x1000000 * i
abbrev F.RA_TARGET.TARGET (i : Nat) : Fld := ⟨R.RA_TARGET i, 0, 32⟩
abbrev R.RA_POS (i : Nat) : Nat := 0x07010C + 0x1000000 * i
abbrev F.RA_POS.POS (i : Nat) : Fld := ⟨R.RA_POS i, 0, 32⟩
abbrev R.RA_SET (i : Nat) : Nat := 0x070110 + 0x1000000 * i
abbrev F.RA_SET.POS (i : Nat) : Fld := ⟨R.RA_SET i, 0, 32⟩
abbrev R.RA_VEL (i : Nat) : Nat := 0x070114 + 0x1000000 * i
abbrev F.RA_VEL.VEL (i : Nat) : Fld := ⟨R.RA_VEL i, 0, 32⟩
abbrev R.AXn_CFG (n : Nat) : Nat := 0x070400 + 0x80 * n
abbrev F.AXn_CFG.EN (n : Nat) : Fld := ⟨R.AXn_CFG n, 0, 1⟩
abbrev F.AXn_CFG.TGT_SRC (n : Nat) : Fld := ⟨R.AXn_CFG n, 1, 2⟩
abbrev F.AXn_CFG.VMAX_SRC (n : Nat) : Fld := ⟨R.AXn_CFG n, 3, 1⟩
abbrev F.AXn_CFG.DIR_INV (n : Nat) : Fld := ⟨R.AXn_CFG n, 4, 1⟩
abbrev F.AXn_CFG.EN_POL (n : Nat) : Fld := ⟨R.AXn_CFG n, 5, 1⟩
abbrev F.AXn_CFG.SOFT_EN (n : Nat) : Fld := ⟨R.AXn_CFG n, 6, 1⟩
abbrev F.AXn_CFG.AUTO_EN (n : Nat) : Fld := ⟨R.AXn_CFG n, 7, 1⟩
abbrev R.AXn_CMD (n : Nat) : Nat := 0x070404 + 0x80 * n
abbrev F.AXn_CMD.CMD (n : Nat) : Fld := ⟨R.AXn_CMD n, 0, 3⟩
abbrev R.AXn_STAT (n : Nat) : Nat := 0x070408 + 0x80 * n
abbrev F.AXn_STAT.PSTATE (n : Nat) : Fld := ⟨R.AXn_STAT n, 0, 4⟩
abbrev F.AXn_STAT.EN_OUT (n : Nat) : Fld := ⟨R.AXn_STAT n, 4, 1⟩
abbrev F.AXn_STAT.HOMED (n : Nat) : Fld := ⟨R.AXn_STAT n, 5, 1⟩
abbrev F.AXn_STAT.AT_TGT (n : Nat) : Fld := ⟨R.AXn_STAT n, 6, 1⟩
abbrev F.AXn_STAT.OVS (n : Nat) : Fld := ⟨R.AXn_STAT n, 7, 1⟩
abbrev F.AXn_STAT.EMG (n : Nat) : Fld := ⟨R.AXn_STAT n, 8, 1⟩
abbrev F.AXn_STAT.LIMP (n : Nat) : Fld := ⟨R.AXn_STAT n, 9, 1⟩
abbrev F.AXn_STAT.LIMN (n : Nat) : Fld := ⟨R.AXn_STAT n, 10, 1⟩
abbrev F.AXn_STAT.SOFT (n : Nat) : Fld := ⟨R.AXn_STAT n, 11, 1⟩
abbrev F.AXn_STAT.TGT_REJ (n : Nat) : Fld := ⟨R.AXn_STAT n, 12, 1⟩
abbrev F.AXn_STAT.HOME_LIMIT (n : Nat) : Fld := ⟨R.AXn_STAT n, 13, 1⟩
abbrev F.AXn_STAT.FAULT (n : Nat) : Fld := ⟨R.AXn_STAT n, 14, 1⟩
abbrev F.AXn_STAT.REM_DOWN (n : Nat) : Fld := ⟨R.AXn_STAT n, 15, 1⟩
abbrev F.AXn_STAT.HPH (n : Nat) : Fld := ⟨R.AXn_STAT n, 16, 3⟩
abbrev R.AXn_TARGET (n : Nat) : Nat := 0x07040C + 0x80 * n
abbrev F.AXn_TARGET.TARGET (n : Nat) : Fld := ⟨R.AXn_TARGET n, 0, 32⟩
abbrev R.AXn_POS (n : Nat) : Nat := 0x070410 + 0x80 * n
abbrev F.AXn_POS.POS (n : Nat) : Fld := ⟨R.AXn_POS n, 0, 32⟩
abbrev R.AXn_POS_FRAC (n : Nat) : Nat := 0x070414 + 0x80 * n
abbrev F.AXn_POS_FRAC.FRAC (n : Nat) : Fld := ⟨R.AXn_POS_FRAC n, 0, 16⟩
abbrev R.AXn_VEL (n : Nat) : Nat := 0x070418 + 0x80 * n
abbrev F.AXn_VEL.VEL (n : Nat) : Fld := ⟨R.AXn_VEL n, 0, 32⟩
abbrev R.AXn_INC_LO (n : Nat) : Nat := 0x07041C + 0x80 * n
abbrev F.AXn_INC_LO.INC (n : Nat) : Fld := ⟨R.AXn_INC_LO n, 0, 32⟩
abbrev R.AXn_INC_HI (n : Nat) : Nat := 0x070420 + 0x80 * n
abbrev F.AXn_INC_HI.INC (n : Nat) : Fld := ⟨R.AXn_INC_HI n, 0, 16⟩
abbrev R.AXn_VMAX (n : Nat) : Nat := 0x070424 + 0x80 * n
abbrev F.AXn_VMAX.VALUE (n : Nat) : Fld := ⟨R.AXn_VMAX n, 0, 32⟩
abbrev R.AXn_ACC (n : Nat) : Nat := 0x070428 + 0x80 * n
abbrev F.AXn_ACC.VALUE (n : Nat) : Fld := ⟨R.AXn_ACC n, 0, 32⟩
abbrev R.AXn_DEC (n : Nat) : Nat := 0x07042C + 0x80 * n
abbrev F.AXn_DEC.VALUE (n : Nat) : Fld := ⟨R.AXn_DEC n, 0, 32⟩
abbrev R.AXn_JERK (n : Nat) : Nat := 0x070430 + 0x80 * n
abbrev F.AXn_JERK.VALUE (n : Nat) : Fld := ⟨R.AXn_JERK n, 0, 32⟩
abbrev R.AXn_DEC_EMG (n : Nat) : Nat := 0x070434 + 0x80 * n
abbrev F.AXn_DEC_EMG.VALUE (n : Nat) : Fld := ⟨R.AXn_DEC_EMG n, 0, 32⟩
abbrev R.AXn_SOFT_LO (n : Nat) : Nat := 0x070438 + 0x80 * n
abbrev F.AXn_SOFT_LO.POS (n : Nat) : Fld := ⟨R.AXn_SOFT_LO n, 0, 32⟩
abbrev R.AXn_SOFT_HI (n : Nat) : Nat := 0x07043C + 0x80 * n
abbrev F.AXn_SOFT_HI.POS (n : Nat) : Fld := ⟨R.AXn_SOFT_HI n, 0, 32⟩
abbrev R.AXn_LIM_CFG (n : Nat) : Nat := 0x070440 + 0x80 * n
abbrev F.AXn_LIM_CFG.DEB (n : Nat) : Fld := ⟨R.AXn_LIM_CFG n, 0, 14⟩
abbrev F.AXn_LIM_CFG.LIM_MODE (n : Nat) : Fld := ⟨R.AXn_LIM_CFG n, 14, 1⟩
abbrev F.AXn_LIM_CFG.LIMP_EN (n : Nat) : Fld := ⟨R.AXn_LIM_CFG n, 15, 1⟩
abbrev F.AXn_LIM_CFG.LIMN_EN (n : Nat) : Fld := ⟨R.AXn_LIM_CFG n, 16, 1⟩
abbrev F.AXn_LIM_CFG.LIM_POL (n : Nat) : Fld := ⟨R.AXn_LIM_CFG n, 17, 1⟩
abbrev F.AXn_LIM_CFG.HOME_POL (n : Nat) : Fld := ⟨R.AXn_LIM_CFG n, 18, 1⟩
abbrev R.AXn_HOME_CFG (n : Nat) : Nat := 0x070444 + 0x80 * n
abbrev F.AXn_HOME_CFG.HMODE (n : Nat) : Fld := ⟨R.AXn_HOME_CFG n, 0, 2⟩
abbrev F.AXn_HOME_CFG.HDIR (n : Nat) : Fld := ⟨R.AXn_HOME_CFG n, 2, 1⟩
abbrev R.AXn_HOME_V1 (n : Nat) : Nat := 0x070448 + 0x80 * n
abbrev F.AXn_HOME_V1.VALUE (n : Nat) : Fld := ⟨R.AXn_HOME_V1 n, 0, 32⟩
abbrev R.AXn_HOME_V2 (n : Nat) : Nat := 0x07044C + 0x80 * n
abbrev F.AXn_HOME_V2.VALUE (n : Nat) : Fld := ⟨R.AXn_HOME_V2 n, 0, 32⟩
abbrev R.AXn_HOME_OFS (n : Nat) : Nat := 0x070450 + 0x80 * n
abbrev F.AXn_HOME_OFS.POS (n : Nat) : Fld := ⟨R.AXn_HOME_OFS n, 0, 32⟩
abbrev R.AXn_HOME_POS (n : Nat) : Nat := 0x070454 + 0x80 * n
abbrev F.AXn_HOME_POS.POS (n : Nat) : Fld := ⟨R.AXn_HOME_POS n, 0, 32⟩
abbrev R.AXn_PULSE (n : Nat) : Nat := 0x070458 + 0x80 * n
abbrev F.AXn_PULSE.STEP_W (n : Nat) : Fld := ⟨R.AXn_PULSE n, 0, 10⟩
abbrev F.AXn_PULSE.DIR_SU (n : Nat) : Fld := ⟨R.AXn_PULSE n, 10, 10⟩
/- NSV block (R250). -/
abbrev R.NSV_CTRL : Nat := 0x080000
abbrev F.NSV_CTRL.CLR_BAD : Fld := ⟨R.NSV_CTRL, 0, 1⟩
abbrev F.NSV_CTRL.TH_REINIT : Fld := ⟨R.NSV_CTRL, 1, 1⟩
abbrev R.NSV_STAT : Nat := 0x080004
abbrev F.NSV_STAT.RUN : Fld := ⟨R.NSV_STAT, 0, 1⟩
abbrev F.NSV_STAT.AWAKE : Fld := ⟨R.NSV_STAT, 1, 1⟩
abbrev F.NSV_STAT.SOLVING : Fld := ⟨R.NSV_STAT, 2, 1⟩
abbrev F.NSV_STAT.IMG : Fld := ⟨R.NSV_STAT, 3, 1⟩
abbrev F.NSV_STAT.STALE : Fld := ⟨R.NSV_STAT, 4, 1⟩
abbrev F.NSV_STAT.SHED : Fld := ⟨R.NSV_STAT, 5, 1⟩
abbrev R.NSV_ERR : Nat := 0x080008
abbrev F.NSV_ERR.STALE : Fld := ⟨R.NSV_ERR, 0, 1⟩
abbrev F.NSV_ERR.OVR : Fld := ⟨R.NSV_ERR, 1, 1⟩
abbrev F.NSV_ERR.NCONV : Fld := ⟨R.NSV_ERR, 2, 1⟩
abbrev F.NSV_ERR.ALLOC : Fld := ⟨R.NSV_ERR, 3, 1⟩
abbrev F.NSV_ERR.RANGE : Fld := ⟨R.NSV_ERR, 4, 1⟩
abbrev F.NSV_ERR.FREEZE_LOST : Fld := ⟨R.NSV_ERR, 5, 1⟩
abbrev F.NSV_ERR.TH_REINIT : Fld := ⟨R.NSV_ERR, 6, 1⟩
abbrev F.NSV_ERR.BAD : Fld := ⟨R.NSV_ERR, 7, 1⟩
abbrev R.NSV_PERIOD : Nat := 0x08000C
abbrev F.NSV_PERIOD.PERIOD : Fld := ⟨R.NSV_PERIOD, 0, 16⟩
abbrev F.NSV_PERIOD.PHASE : Fld := ⟨R.NSV_PERIOD, 16, 16⟩
abbrev R.NSV_ITER : Nat := 0x080010
abbrev F.NSV_ITER.MAX_IT : Fld := ⟨R.NSV_ITER, 0, 4⟩
abbrev F.NSV_ITER.BAD_CLR : Fld := ⟨R.NSV_ITER, 4, 4⟩
abbrev F.NSV_ITER.BAD_EN : Fld := ⟨R.NSV_ITER, 8, 1⟩
abbrev F.NSV_ITER.WARM : Fld := ⟨R.NSV_ITER, 16, 8⟩
abbrev R.NSV_DP_TOL : Nat := 0x080014
abbrev F.NSV_DP_TOL.VALUE : Fld := ⟨R.NSV_DP_TOL, 0, 32⟩
abbrev R.NSV_E_TOL : Nat := 0x080018
abbrev F.NSV_E_TOL.VALUE : Fld := ⟨R.NSV_E_TOL, 0, 32⟩
abbrev R.NSV_BAD_LIM : Nat := 0x08001C
abbrev F.NSV_BAD_LIM.VALUE : Fld := ⟨R.NSV_BAD_LIM, 0, 32⟩
abbrev R.NSV_BAL_SIG : Nat := 0x080020
abbrev F.NSV_BAL_SIG.VALUE : Fld := ⟨R.NSV_BAL_SIG, 0, 32⟩
abbrev R.NSV_PSEUDO : Nat := 0x080024
abbrev F.NSV_PSEUDO.VALUE : Fld := ⟨R.NSV_PSEUDO, 0, 32⟩
abbrev R.NSV_SBASE : Nat := 0x080028
abbrev F.NSV_SBASE.VALUE : Fld := ⟨R.NSV_SBASE, 0, 32⟩
abbrev R.NSV_TGND0 : Nat := 0x08002C
abbrev F.NSV_TGND0.VALUE : Fld := ⟨R.NSV_TGND0, 0, 32⟩
abbrev R.NSV_TGND1 : Nat := 0x080030
abbrev F.NSV_TGND1.VALUE : Fld := ⟨R.NSV_TGND1, 0, 32⟩
abbrev R.NSV_SEQ : Nat := 0x080034
abbrev F.NSV_SEQ.SEQ : Fld := ⟨R.NSV_SEQ, 0, 32⟩
abbrev R.NSV_SNAP_SEC : Nat := 0x080038
abbrev F.NSV_SNAP_SEC.SEC : Fld := ⟨R.NSV_SNAP_SEC, 0, 32⟩
abbrev R.NSV_SNAP_NS : Nat := 0x08003C
abbrev F.NSV_SNAP_NS.NS : Fld := ⟨R.NSV_SNAP_NS, 0, 30⟩
abbrev R.NSV_LAST_US : Nat := 0x080040
abbrev F.NSV_LAST_US.US : Fld := ⟨R.NSV_LAST_US, 0, 32⟩
abbrev R.NSV_MAX_US : Nat := 0x080044
abbrev F.NSV_MAX_US.US : Fld := ⟨R.NSV_MAX_US, 0, 32⟩
abbrev R.NSV_STALE : Nat := 0x080048
abbrev F.NSV_STALE.COUNT : Fld := ⟨R.NSV_STALE, 0, 32⟩
abbrev R.NSV_NCONV : Nat := 0x08004C
abbrev F.NSV_NCONV.COUNT : Fld := ⟨R.NSV_NCONV, 0, 32⟩
abbrev R.NSV_SHED : Nat := 0x080050
abbrev F.NSV_SHED.COUNT : Fld := ⟨R.NSV_SHED, 0, 32⟩
abbrev R.NSV_LATE_RD : Nat := 0x080054
abbrev F.NSV_LATE_RD.COUNT : Fld := ⟨R.NSV_LATE_RD, 0, 32⟩
abbrev R.NSV_NETn_STAT (n : Nat) : Nat := 0x080060 + 0x4 * n
abbrev F.NSV_NETn_STAT.ITER (n : Nat) : Fld := ⟨R.NSV_NETn_STAT n, 0, 4⟩
abbrev F.NSV_NETn_STAT.ACTIVE (n : Nat) : Fld := ⟨R.NSV_NETn_STAT n, 4, 1⟩
abbrev F.NSV_NETn_STAT.CONV (n : Nat) : Fld := ⟨R.NSV_NETn_STAT n, 5, 1⟩
abbrev F.NSV_NETn_STAT.VALID (n : Nat) : Fld := ⟨R.NSV_NETn_STAT n, 6, 1⟩
abbrev F.NSV_NETn_STAT.NCONV_RUN (n : Nat) : Fld := ⟨R.NSV_NETn_STAT n, 7, 3⟩
abbrev F.NSV_NETn_STAT.REGION (n : Nat) : Fld := ⟨R.NSV_NETn_STAT n, 10, 1⟩
abbrev F.NSV_NETn_STAT.THERM (n : Nat) : Fld := ⟨R.NSV_NETn_STAT n, 11, 1⟩
abbrev F.NSV_NETn_STAT.BAD (n : Nat) : Fld := ⟨R.NSV_NETn_STAT n, 16, 8⟩
abbrev R.NSV_TAB_ADDR (q : Nat) : Nat := 0x080080 + 0x1000000 * q
abbrev F.NSV_TAB_ADDR.ADDR (q : Nat) : Fld := ⟨R.NSV_TAB_ADDR q, 0, 21⟩
abbrev R.NSV_TAB_DATA : Nat := 0x080084
abbrev F.NSV_TAB_DATA.DATA : Fld := ⟨R.NSV_TAB_DATA, 0, 32⟩
abbrev R.NSV_IMG_ADDR (q : Nat) : Nat := 0x080088 + 0x1000000 * q
abbrev F.NSV_IMG_ADDR.ADDR (q : Nat) : Fld := ⟨R.NSV_IMG_ADDR q, 0, 18⟩
abbrev R.NSV_IMG_DATA : Nat := 0x08008C
abbrev F.NSV_IMG_DATA.DATA : Fld := ⟨R.NSV_IMG_DATA, 0, 32⟩
/- DOP block (R280). -/
abbrev R.DOP_CTRL : Nat := 0x090000
abbrev F.DOP_CTRL.FC_COMMIT : Fld := ⟨R.DOP_CTRL, 0, 1⟩
abbrev F.DOP_CTRL.HOLD : Fld := ⟨R.DOP_CTRL, 1, 1⟩
abbrev R.DOP_STAT : Nat := 0x090004
abbrev F.DOP_STAT.RUN : Fld := ⟨R.DOP_STAT, 0, 1⟩
abbrev F.DOP_STAT.AWAKE : Fld := ⟨R.DOP_STAT, 1, 1⟩
abbrev F.DOP_STAT.SOLVING : Fld := ⟨R.DOP_STAT, 2, 1⟩
abbrev F.DOP_STAT.PHASE : Fld := ⟨R.DOP_STAT, 3, 3⟩
abbrev F.DOP_STAT.HOLD : Fld := ⟨R.DOP_STAT, 6, 1⟩
abbrev F.DOP_STAT.SHED : Fld := ⟨R.DOP_STAT, 7, 1⟩
abbrev F.DOP_STAT.PLAN : Fld := ⟨R.DOP_STAT, 8, 1⟩
abbrev F.DOP_STAT.FC : Fld := ⟨R.DOP_STAT, 9, 1⟩
abbrev R.DOP_ERR : Nat := 0x090008
abbrev F.DOP_ERR.LATE : Fld := ⟨R.DOP_ERR, 0, 1⟩
abbrev F.DOP_ERR.NOSOL : Fld := ⟨R.DOP_ERR, 1, 1⟩
abbrev F.DOP_ERR.INFEAS : Fld := ⟨R.DOP_ERR, 2, 1⟩
abbrev F.DOP_ERR.SUBOPT : Fld := ⟨R.DOP_ERR, 3, 1⟩
abbrev F.DOP_ERR.BIND : Fld := ⟨R.DOP_ERR, 4, 1⟩
abbrev F.DOP_ERR.FC_SHORT : Fld := ⟨R.DOP_ERR, 5, 1⟩
abbrev F.DOP_ERR.FC_OLD : Fld := ⟨R.DOP_ERR, 6, 1⟩
abbrev F.DOP_ERR.COUPLE : Fld := ⟨R.DOP_ERR, 7, 1⟩
abbrev F.DOP_ERR.NB_LOST : Fld := ⟨R.DOP_ERR, 8, 1⟩
abbrev F.DOP_ERR.NB_CFG : Fld := ⟨R.DOP_ERR, 9, 1⟩
abbrev F.DOP_ERR.RANGE : Fld := ⟨R.DOP_ERR, 10, 1⟩
abbrev F.DOP_ERR.FC_BUSY : Fld := ⟨R.DOP_ERR, 11, 1⟩
abbrev R.DOP_PERIOD : Nat := 0x09000C
abbrev F.DOP_PERIOD.PERIOD : Fld := ⟨R.DOP_PERIOD, 0, 16⟩
abbrev F.DOP_PERIOD.PHASE : Fld := ⟨R.DOP_PERIOD, 16, 16⟩
abbrev R.DOP_STEP : Nat := 0x090010
abbrev F.DOP_STEP.STEP_MIN : Fld := ⟨R.DOP_STEP, 0, 6⟩
abbrev F.DOP_STEP.N : Fld := ⟨R.DOP_STEP, 8, 8⟩
abbrev R.DOP_DIM0 : Nat := 0x090014
abbrev F.DOP_DIM0.NX : Fld := ⟨R.DOP_DIM0, 0, 9⟩
abbrev F.DOP_DIM0.NU : Fld := ⟨R.DOP_DIM0, 16, 10⟩
abbrev R.DOP_DIM1 : Nat := 0x090018
abbrev F.DOP_DIM1.NI : Fld := ⟨R.DOP_DIM1, 0, 12⟩
abbrev R.DOP_DEADLINE : Nat := 0x09001C
abbrev F.DOP_DEADLINE.DEADLINE : Fld := ⟨R.DOP_DEADLINE, 0, 16⟩
abbrev F.DOP_DEADLINE.FIN_RES : Fld := ⟨R.DOP_DEADLINE, 16, 8⟩
abbrev R.DOP_IP_CFG : Nat := 0x090020
abbrev F.DOP_IP_CFG.IP_MAXIT : Fld := ⟨R.DOP_IP_CFG, 0, 8⟩
abbrev F.DOP_IP_CFG.WARM_MAXIT : Fld := ⟨R.DOP_IP_CFG, 8, 8⟩
abbrev R.DOP_IP_TOL : Nat := 0x090024
abbrev F.DOP_IP_TOL.VALUE : Fld := ⟨R.DOP_IP_TOL, 0, 32⟩
abbrev R.DOP_ACC_TOL : Nat := 0x090028
abbrev F.DOP_ACC_TOL.VALUE : Fld := ⟨R.DOP_ACC_TOL, 0, 32⟩
abbrev R.DOP_ADMM_CFG : Nat := 0x09002C
abbrev F.DOP_ADMM_CFG.MAXIT : Fld := ⟨R.DOP_ADMM_CFG, 0, 7⟩
abbrev F.DOP_ADMM_CFG.ROUND_MS : Fld := ⟨R.DOP_ADMM_CFG, 8, 12⟩
abbrev F.DOP_ADMM_CFG.LOST_N : Fld := ⟨R.DOP_ADMM_CFG, 20, 4⟩
abbrev R.DOP_EPS_P : Nat := 0x090030
abbrev F.DOP_EPS_P.VALUE : Fld := ⟨R.DOP_EPS_P, 0, 32⟩
abbrev R.DOP_EPS_D : Nat := 0x090034
abbrev F.DOP_EPS_D.VALUE : Fld := ⟨R.DOP_EPS_D, 0, 32⟩
abbrev R.DOP_AREA_BASE : Nat := 0x090038
abbrev F.DOP_AREA_BASE.BASE : Fld := ⟨R.DOP_AREA_BASE, 0, 17⟩
abbrev R.DOP_SEQ : Nat := 0x09003C
abbrev F.DOP_SEQ.SEQ : Fld := ⟨R.DOP_SEQ, 0, 32⟩
abbrev R.DOP_S_SEC : Nat := 0x090040
abbrev F.DOP_S_SEC.SEC : Fld := ⟨R.DOP_S_SEC, 0, 32⟩
abbrev R.DOP_RESULT : Nat := 0x090044
abbrev F.DOP_RESULT.CLASS : Fld := ⟨R.DOP_RESULT, 0, 3⟩
abbrev F.DOP_RESULT.IP_IT : Fld := ⟨R.DOP_RESULT, 8, 8⟩
abbrev F.DOP_RESULT.ROUNDS : Fld := ⟨R.DOP_RESULT, 16, 7⟩
abbrev R.DOP_OBJ : Nat := 0x090048
abbrev F.DOP_OBJ.VALUE : Fld := ⟨R.DOP_OBJ, 0, 32⟩
abbrev R.DOP_LAST_MS : Nat := 0x09004C
abbrev F.DOP_LAST_MS.MS : Fld := ⟨R.DOP_LAST_MS, 0, 32⟩
abbrev R.DOP_MAX_MS : Nat := 0x090050
abbrev F.DOP_MAX_MS.MS : Fld := ⟨R.DOP_MAX_MS, 0, 32⟩
abbrev R.DOP_LATE_CNT : Nat := 0x090054
abbrev F.DOP_LATE_CNT.COUNT : Fld := ⟨R.DOP_LATE_CNT, 0, 32⟩
abbrev R.DOP_NOSOL_CNT : Nat := 0x090058
abbrev F.DOP_NOSOL_CNT.COUNT : Fld := ⟨R.DOP_NOSOL_CNT, 0, 32⟩
abbrev R.DOP_SHED_CNT : Nat := 0x09005C
abbrev F.DOP_SHED_CNT.COUNT : Fld := ⟨R.DOP_SHED_CNT, 0, 32⟩
abbrev R.DOP_BIND_CNT : Nat := 0x090060
abbrev F.DOP_BIND_CNT.COUNT : Fld := ⟨R.DOP_BIND_CNT, 0, 32⟩
abbrev R.DOP_FC_ADDR : Nat := 0x090064
abbrev F.DOP_FC_ADDR.ADDR : Fld := ⟨R.DOP_FC_ADDR, 0, 16⟩
abbrev R.DOP_FC_DATA : Nat := 0x090068
abbrev F.DOP_FC_DATA.DATA : Fld := ⟨R.DOP_FC_DATA, 0, 32⟩
abbrev R.DOP_FC_SEQ : Nat := 0x09006C
abbrev F.DOP_FC_SEQ.SEQ : Fld := ⟨R.DOP_FC_SEQ, 0, 32⟩
abbrev R.DOP_FC_SEC : Nat := 0x090070
abbrev F.DOP_FC_SEC.SEC : Fld := ⟨R.DOP_FC_SEC, 0, 32⟩
abbrev R.DOP_TAB_ADDR (q : Nat) : Nat := 0x090074 + 0x1000000 * q
abbrev F.DOP_TAB_ADDR.ADDR (q : Nat) : Fld := ⟨R.DOP_TAB_ADDR q, 0, 20⟩
abbrev R.DOP_TAB_DATA : Nat := 0x090078
abbrev F.DOP_TAB_DATA.DATA : Fld := ⟨R.DOP_TAB_DATA, 0, 32⟩
abbrev R.DOP_AREA_ADDR (q : Nat) : Nat := 0x09007C + 0x1000000 * q
abbrev F.DOP_AREA_ADDR.ADDR (q : Nat) : Fld := ⟨R.DOP_AREA_ADDR q, 0, 29⟩
abbrev R.DOP_AREA_DATA : Nat := 0x090080
abbrev F.DOP_AREA_DATA.DATA : Fld := ⟨R.DOP_AREA_DATA, 0, 32⟩
abbrev R.DOP_NB_SEL (q : Nat) : Nat := 0x090084 + 0x1000000 * q
abbrev F.DOP_NB_SEL.NB (q : Nat) : Fld := ⟨R.DOP_NB_SEL q, 0, 4⟩
abbrev R.NB_STAT (i : Nat) : Nat := 0x090100 + 0x1000000 * i
abbrev F.NB_STAT.STATE (i : Nat) : Fld := ⟨R.NB_STAT i, 0, 2⟩
abbrev F.NB_STAT.CONV (i : Nat) : Fld := ⟨R.NB_STAT i, 2, 1⟩
abbrev F.NB_STAT.KEEPER (i : Nat) : Fld := ⟨R.NB_STAT i, 3, 1⟩
abbrev F.NB_STAT.DECAY (i : Nat) : Fld := ⟨R.NB_STAT i, 4, 1⟩
abbrev F.NB_STAT.AGREED (i : Nat) : Fld := ⟨R.NB_STAT i, 5, 1⟩
abbrev F.NB_STAT.MISS (i : Nat) : Fld := ⟨R.NB_STAT i, 8, 4⟩
abbrev F.NB_STAT.ROUNDS (i : Nat) : Fld := ⟨R.NB_STAT i, 16, 7⟩
abbrev R.NB_RES (i : Nat) : Nat := 0x090104 + 0x1000000 * i
abbrev F.NB_RES.VALUE (i : Nat) : Fld := ⟨R.NB_RES i, 0, 32⟩
abbrev R.NB_PRICE (i : Nat) : Nat := 0x090108 + 0x1000000 * i
abbrev F.NB_PRICE.VALUE (i : Nat) : Fld := ⟨R.NB_PRICE i, 0, 32⟩
abbrev R.NB_FLOW (i : Nat) : Nat := 0x09010C + 0x1000000 * i
abbrev F.NB_FLOW.VALUE (i : Nat) : Fld := ⟨R.NB_FLOW i, 0, 32⟩
abbrev R.NB_AGREE_SEC (i : Nat) : Nat := 0x090110 + 0x1000000 * i
abbrev F.NB_AGREE_SEC.SEC (i : Nat) : Fld := ⟨R.NB_AGREE_SEC i, 0, 32⟩
abbrev R.NB_MISS_CNT (i : Nat) : Nat := 0x090114 + 0x1000000 * i
abbrev F.NB_MISS_CNT.COUNT (i : Nat) : Fld := ⟨R.NB_MISS_CNT i, 0, 32⟩
/- MTR block (R69). -/
abbrev R.MTR_CTRL : Nat := 0x0A0000
abbrev F.MTR_CTRL.SAVE : Fld := ⟨R.MTR_CTRL, 0, 1⟩
abbrev R.MTR_STAT : Nat := 0x0A0004
abbrev F.MTR_STAT.SAVE_BUSY : Fld := ⟨R.MTR_STAT, 0, 1⟩
abbrev F.MTR_STAT.PF_HOLD : Fld := ⟨R.MTR_STAT, 1, 1⟩
abbrev F.MTR_STAT.MERGED : Fld := ⟨R.MTR_STAT, 2, 1⟩
abbrev F.MTR_STAT.COPY : Fld := ⟨R.MTR_STAT, 3, 1⟩
abbrev R.MTR_ERR : Nat := 0x0A0008
abbrev F.MTR_ERR.LINK0 : Fld := ⟨R.MTR_ERR, 0, 1⟩
abbrev F.MTR_ERR.LINK1 : Fld := ⟨R.MTR_ERR, 1, 1⟩
abbrev F.MTR_ERR.FCAL0 : Fld := ⟨R.MTR_ERR, 2, 1⟩
abbrev F.MTR_ERR.FCAL1 : Fld := ⟨R.MTR_ERR, 3, 1⟩
abbrev F.MTR_ERR.FRAM : Fld := ⟨R.MTR_ERR, 4, 1⟩
abbrev F.MTR_ERR.RESID : Fld := ⟨R.MTR_ERR, 5, 1⟩
abbrev F.MTR_ERR.RANGE : Fld := ⟨R.MTR_ERR, 6, 1⟩
abbrev R.MTR_FRAM_PER : Nat := 0x0A000C
abbrev F.MTR_FRAM_PER.PER : Fld := ⟨R.MTR_FRAM_PER, 0, 12⟩
abbrev R.MTR_FRAM_GEN : Nat := 0x0A0010
abbrev F.MTR_FRAM_GEN.GEN : Fld := ⟨R.MTR_FRAM_GEN, 0, 32⟩
abbrev R.MTR_HWIN_SEL (q : Nat) : Nat := 0x0A0014 + 0x1000000 * q
abbrev F.MTR_HWIN_SEL.PT (q : Nat) : Fld := ⟨R.MTR_HWIN_SEL q, 0, 3⟩
abbrev F.MTR_HWIN_SEL.CH (q : Nat) : Fld := ⟨R.MTR_HWIN_SEL q, 4, 3⟩
abbrev R.ISLn_CFG (n : Nat) : Nat := 0x0A0100 + 0x40 * n
abbrev F.ISLn_CFG.WIRE (n : Nat) : Fld := ⟨R.ISLn_CFG n, 0, 2⟩
abbrev F.ISLn_CFG.FNOM (n : Nat) : Fld := ⟨R.ISLn_CFG n, 2, 1⟩
abbrev F.ISLn_CFG.VNOM (n : Nat) : Fld := ⟨R.ISLn_CFG n, 16, 16⟩
abbrev R.ISLn_STAT (n : Nat) : Nat := 0x0A0104 + 0x40 * n
abbrev F.ISLn_STAT.LINK (n : Nat) : Fld := ⟨R.ISLn_STAT n, 0, 1⟩
abbrev F.ISLn_STAT.FOUT (n : Nat) : Fld := ⟨R.ISLn_STAT n, 1, 1⟩
abbrev F.ISLn_STAT.FCAL (n : Nat) : Fld := ⟨R.ISLn_STAT n, 2, 1⟩
abbrev F.ISLn_STAT.CLIP (n : Nat) : Fld := ⟨R.ISLn_STAT n, 3, 1⟩
abbrev F.ISLn_STAT.REFPH (n : Nat) : Fld := ⟨R.ISLn_STAT n, 4, 2⟩
abbrev F.ISLn_STAT.SEQ (n : Nat) : Fld := ⟨R.ISLn_STAT n, 8, 8⟩
abbrev R.ISLn_CRC_CNT (n : Nat) : Nat := 0x0A0108 + 0x40 * n
abbrev F.ISLn_CRC_CNT.COUNT (n : Nat) : Fld := ⟨R.ISLn_CRC_CNT n, 0, 32⟩
abbrev R.ISLn_MISS_CNT (n : Nat) : Nat := 0x0A010C + 0x40 * n
abbrev F.ISLn_MISS_CNT.COUNT (n : Nat) : Fld := ⟨R.ISLn_MISS_CNT n, 0, 32⟩
abbrev R.ISLn_FREQ (n : Nat) : Nat := 0x0A0110 + 0x40 * n
abbrev F.ISLn_FREQ.FREQ (n : Nat) : Fld := ⟨R.ISLn_FREQ n, 0, 32⟩
abbrev R.MTR_HWINn (n : Nat) : Nat := 0x0A0200 + 0x4 * n
abbrev F.MTR_HWINn.DATA (n : Nat) : Fld := ⟨R.MTR_HWINn n, 0, 32⟩
abbrev R.CHn_CFG (n : Nat) : Nat := 0x0A0400 + 0x20 * n
abbrev F.CHn_CFG.TYPE (n : Nat) : Fld := ⟨R.CHn_CFG n, 0, 2⟩
abbrev F.CHn_CFG.INV (n : Nat) : Fld := ⟨R.CHn_CFG n, 2, 1⟩
abbrev F.CHn_CFG.LEAK (n : Nat) : Fld := ⟨R.CHn_CFG n, 8, 5⟩
abbrev R.CHn_FS (n : Nat) : Nat := 0x0A0404 + 0x20 * n
abbrev F.CHn_FS.FS (n : Nat) : Fld := ⟨R.CHn_FS n, 0, 32⟩
abbrev R.CHn_GAIN (n : Nat) : Nat := 0x0A0408 + 0x20 * n
abbrev F.CHn_GAIN.GAIN (n : Nat) : Fld := ⟨R.CHn_GAIN n, 0, 24⟩
abbrev R.CHn_PHASE (n : Nat) : Nat := 0x0A040C + 0x20 * n
abbrev F.CHn_PHASE.PHASE (n : Nat) : Fld := ⟨R.CHn_PHASE n, 0, 16⟩
abbrev R.PTn_CFG (n : Nat) : Nat := 0x0A1000 + 0x100 * n
abbrev F.PTn_CFG.EN (n : Nat) : Fld := ⟨R.PTn_CFG n, 0, 1⟩
abbrev F.PTn_CFG.REVMODE (n : Nat) : Fld := ⟨R.PTn_CFG n, 1, 1⟩
abbrev F.PTn_CFG.VSEL (n : Nat) : Fld := ⟨R.PTn_CFG n, 2, 2⟩
abbrev F.PTn_CFG.CREEP (n : Nat) : Fld := ⟨R.PTn_CFG n, 16, 10⟩
abbrev R.PTn_INOM (n : Nat) : Nat := 0x0A1004 + 0x100 * n
abbrev F.PTn_INOM.INOM (n : Nat) : Fld := ⟨R.PTn_INOM n, 0, 32⟩
abbrev R.PTn_LATCH_N (n : Nat) : Nat := 0x0A1008 + 0x100 * n
abbrev F.PTn_LATCH_N.N (n : Nat) : Fld := ⟨R.PTn_LATCH_N n, 0, 13⟩
abbrev R.PTn_STAT (n : Nat) : Nat := 0x0A100C + 0x100 * n
abbrev F.PTn_STAT.AGG_OK (n : Nat) : Fld := ⟨R.PTn_STAT n, 0, 1⟩
abbrev F.PTn_STAT.INV (n : Nat) : Fld := ⟨R.PTn_STAT n, 1, 1⟩
abbrev F.PTn_STAT.CREEP (n : Nat) : Fld := ⟨R.PTn_STAT n, 2, 1⟩
abbrev F.PTn_STAT.QUAD (n : Nat) : Fld := ⟨R.PTn_STAT n, 3, 2⟩
abbrev F.PTn_STAT.PSEUDO (n : Nat) : Fld := ⟨R.PTn_STAT n, 5, 1⟩
abbrev R.PTn_V1 (n : Nat) : Nat := 0x0A1010 + 0x100 * n
abbrev F.PTn_V1.V (n : Nat) : Fld := ⟨R.PTn_V1 n, 0, 32⟩
abbrev R.PTn_V2 (n : Nat) : Nat := 0x0A1014 + 0x100 * n
abbrev F.PTn_V2.V (n : Nat) : Fld := ⟨R.PTn_V2 n, 0, 32⟩
abbrev R.PTn_V3 (n : Nat) : Nat := 0x0A1018 + 0x100 * n
abbrev F.PTn_V3.V (n : Nat) : Fld := ⟨R.PTn_V3 n, 0, 32⟩
abbrev R.PTn_I1 (n : Nat) : Nat := 0x0A101C + 0x100 * n
abbrev F.PTn_I1.I (n : Nat) : Fld := ⟨R.PTn_I1 n, 0, 32⟩
abbrev R.PTn_I2 (n : Nat) : Nat := 0x0A1020 + 0x100 * n
abbrev F.PTn_I2.I (n : Nat) : Fld := ⟨R.PTn_I2 n, 0, 32⟩
abbrev R.PTn_I3 (n : Nat) : Nat := 0x0A1024 + 0x100 * n
abbrev F.PTn_I3.I (n : Nat) : Fld := ⟨R.PTn_I3 n, 0, 32⟩
abbrev R.PTn_INEU (n : Nat) : Nat := 0x0A1028 + 0x100 * n
abbrev F.PTn_INEU.I (n : Nat) : Fld := ⟨R.PTn_INEU n, 0, 32⟩
abbrev R.PTn_P (n : Nat) : Nat := 0x0A102C + 0x100 * n
abbrev F.PTn_P.P (n : Nat) : Fld := ⟨R.PTn_P n, 0, 32⟩
abbrev R.PTn_P1 (n : Nat) : Nat := 0x0A1030 + 0x100 * n
abbrev F.PTn_P1.P (n : Nat) : Fld := ⟨R.PTn_P1 n, 0, 32⟩
abbrev R.PTn_P2 (n : Nat) : Nat := 0x0A1034 + 0x100 * n
abbrev F.PTn_P2.P (n : Nat) : Fld := ⟨R.PTn_P2 n, 0, 32⟩
abbrev R.PTn_P3 (n : Nat) : Nat := 0x0A1038 + 0x100 * n
abbrev F.PTn_P3.P (n : Nat) : Fld := ⟨R.PTn_P3 n, 0, 32⟩
abbrev R.PTn_Q (n : Nat) : Nat := 0x0A103C + 0x100 * n
abbrev F.PTn_Q.Q (n : Nat) : Fld := ⟨R.PTn_Q n, 0, 32⟩
abbrev R.PTn_S (n : Nat) : Nat := 0x0A1040 + 0x100 * n
abbrev F.PTn_S.S (n : Nat) : Fld := ⟨R.PTn_S n, 0, 32⟩
abbrev R.PTn_PF (n : Nat) : Nat := 0x0A1044 + 0x100 * n
abbrev F.PTn_PF.PF (n : Nat) : Fld := ⟨R.PTn_PF n, 0, 32⟩
abbrev R.PTn_FREQ (n : Nat) : Nat := 0x0A1048 + 0x100 * n
abbrev F.PTn_FREQ.FREQ (n : Nat) : Fld := ⟨R.PTn_FREQ n, 0, 32⟩
abbrev R.PTn_AGG_SEQ (n : Nat) : Nat := 0x0A104C + 0x100 * n
abbrev F.PTn_AGG_SEQ.SEQ (n : Nat) : Fld := ⟨R.PTn_AGG_SEQ n, 0, 32⟩
abbrev R.PTn_LATCH_SEQ (n : Nat) : Nat := 0x0A1050 + 0x100 * n
abbrev F.PTn_LATCH_SEQ.SEQ (n : Nat) : Fld := ⟨R.PTn_LATCH_SEQ n, 0, 32⟩
abbrev R.PTn_LATCH_STAT (n : Nat) : Nat := 0x0A1054 + 0x100 * n
abbrev F.PTn_LATCH_STAT.VALID (n : Nat) : Fld := ⟨R.PTn_LATCH_STAT n, 0, 1⟩
abbrev F.PTn_LATCH_STAT.REV (n : Nat) : Fld := ⟨R.PTn_LATCH_STAT n, 1, 1⟩
abbrev F.PTn_LATCH_STAT.PFR (n : Nat) : Fld := ⟨R.PTn_LATCH_STAT n, 2, 1⟩
abbrev F.PTn_LATCH_STAT.DEG (n : Nat) : Fld := ⟨R.PTn_LATCH_STAT n, 3, 1⟩
abbrev F.PTn_LATCH_STAT.GAP (n : Nat) : Fld := ⟨R.PTn_LATCH_STAT n, 4, 1⟩
abbrev F.PTn_LATCH_STAT.PSEUDO (n : Nat) : Fld := ⟨R.PTn_LATCH_STAT n, 5, 1⟩
abbrev F.PTn_LATCH_STAT.REV_CNT (n : Nat) : Fld := ⟨R.PTn_LATCH_STAT n, 8, 8⟩
abbrev F.PTn_LATCH_STAT.GAP_CYC (n : Nat) : Fld := ⟨R.PTn_LATCH_STAT n, 16, 16⟩
abbrev R.PTn_LATCH_SEC (n : Nat) : Nat := 0x0A1058 + 0x100 * n
abbrev F.PTn_LATCH_SEC.SEC (n : Nat) : Fld := ⟨R.PTn_LATCH_SEC n, 0, 32⟩
abbrev R.PTn_LATCH_NS (n : Nat) : Nat := 0x0A105C + 0x100 * n
abbrev F.PTn_LATCH_NS.NS (n : Nat) : Fld := ⟨R.PTn_LATCH_NS n, 0, 30⟩
abbrev R.PTn_LIVE_LO (n e : Nat) : Nat := 0x0A1080 + 0x100 * n + 8 * e
abbrev F.PTn_LIVE_LO.E (n e : Nat) : Fld := ⟨R.PTn_LIVE_LO n e, 0, 32⟩
abbrev R.PTn_LIVE_HI (n e : Nat) : Nat := 0x0A1084 + 0x100 * n + 8 * e
abbrev F.PTn_LIVE_HI.E (n e : Nat) : Fld := ⟨R.PTn_LIVE_HI n e, 0, 32⟩
abbrev R.PTn_LATD_LO (n e : Nat) : Nat := 0x0A10C0 + 0x100 * n + 8 * e
abbrev F.PTn_LATD_LO.E (n e : Nat) : Fld := ⟨R.PTn_LATD_LO n e, 0, 32⟩
abbrev R.PTn_LATD_HI (n e : Nat) : Nat := 0x0A10C4 + 0x100 * n + 8 * e
abbrev F.PTn_LATD_HI.E (n e : Nat) : Fld := ⟨R.PTn_LATD_HI n e, 0, 32⟩
/- HQC block (R88). -/
abbrev R.HQC_CFG : Nat := 0x0B0000
abbrev F.HQC_CFG.BILL_MIN : Fld := ⟨R.HQC_CFG, 0, 6⟩
abbrev F.HQC_CFG.UTC_ALIGN : Fld := ⟨R.HQC_CFG, 6, 1⟩
abbrev R.HQC_STAT : Nat := 0x0B0004
abbrev F.HQC_STAT.RUN : Fld := ⟨R.HQC_STAT, 0, 1⟩
abbrev F.HQC_STAT.MERGED : Fld := ⟨R.HQC_STAT, 1, 1⟩
abbrev F.HQC_STAT.SAVE_BUSY : Fld := ⟨R.HQC_STAT, 2, 1⟩
abbrev F.HQC_STAT.COPY : Fld := ⟨R.HQC_STAT, 3, 1⟩
abbrev R.HQC_ERR : Nat := 0x0B0008
abbrev F.HQC_ERR.FRAM : Fld := ⟨R.HQC_ERR, 0, 1⟩
abbrev F.HQC_ERR.SAVE_LATE : Fld := ⟨R.HQC_ERR, 1, 1⟩
abbrev F.HQC_ERR.RANGE : Fld := ⟨R.HQC_ERR, 2, 1⟩
abbrev R.HQC_BILL_SEQ : Nat := 0x0B000C
abbrev F.HQC_BILL_SEQ.SEQ : Fld := ⟨R.HQC_BILL_SEQ, 0, 32⟩
abbrev R.HQC_BILL_SEC : Nat := 0x0B0010
abbrev F.HQC_BILL_SEC.SEC : Fld := ⟨R.HQC_BILL_SEC, 0, 32⟩
abbrev R.HQC_WIN_SEL (q : Nat) : Nat := 0x0B0014 + 0x1000000 * q
abbrev F.HQC_WIN_SEL.PT (q : Nat) : Fld := ⟨R.HQC_WIN_SEL q, 0, 13⟩
abbrev R.HQC_TAB_ADDR (q : Nat) : Nat := 0x0B0018 + 0x1000000 * q
abbrev F.HQC_TAB_ADDR.ADDR (q : Nat) : Fld := ⟨R.HQC_TAB_ADDR q, 0, 18⟩
abbrev R.HQC_TAB_DATA : Nat := 0x0B001C
abbrev F.HQC_TAB_DATA.DATA : Fld := ⟨R.HQC_TAB_DATA, 0, 32⟩
abbrev R.HQC_FRAM_GEN : Nat := 0x0B0020
abbrev F.HQC_FRAM_GEN.GEN : Fld := ⟨R.HQC_FRAM_GEN, 0, 32⟩
abbrev R.W_STAT (i : Nat) : Nat := 0x0B0100 + 0x1000000 * i
abbrev F.W_STAT.EN (i : Nat) : Fld := ⟨R.W_STAT i, 0, 1⟩
abbrev F.W_STAT.DOWN (i : Nat) : Fld := ⟨R.W_STAT i, 1, 1⟩
abbrev F.W_STAT.LOWQ (i : Nat) : Fld := ⟨R.W_STAT i, 2, 1⟩
abbrev F.W_STAT.LOWDT (i : Nat) : Fld := ⟨R.W_STAT i, 3, 1⟩
abbrev F.W_STAT.DIR (i : Nat) : Fld := ⟨R.W_STAT i, 4, 1⟩
abbrev F.W_STAT.RANGE (i : Nat) : Fld := ⟨R.W_STAT i, 5, 1⟩
abbrev F.W_STAT.FLT (i : Nat) : Fld := ⟨R.W_STAT i, 6, 1⟩
abbrev R.W_TF (i : Nat) : Nat := 0x0B0104 + 0x1000000 * i
abbrev F.W_TF.T (i : Nat) : Fld := ⟨R.W_TF i, 0, 16⟩
abbrev R.W_TR (i : Nat) : Nat := 0x0B0108 + 0x1000000 * i
abbrev F.W_TR.T (i : Nat) : Fld := ⟨R.W_TR i, 0, 16⟩
abbrev R.W_FLOW (i : Nat) : Nat := 0x0B010C + 0x1000000 * i
abbrev F.W_FLOW.Q (i : Nat) : Fld := ⟨R.W_FLOW i, 0, 32⟩
abbrev R.W_POWER (i : Nat) : Nat := 0x0B0110 + 0x1000000 * i
abbrev F.W_POWER.P (i : Nat) : Fld := ⟨R.W_POWER i, 0, 32⟩
abbrev R.W_LATCH_SEQ (i : Nat) : Nat := 0x0B0114 + 0x1000000 * i
abbrev F.W_LATCH_SEQ.SEQ (i : Nat) : Fld := ⟨R.W_LATCH_SEQ i, 0, 32⟩
abbrev R.W_LATCH_STAT (i : Nat) : Nat := 0x0B0118 + 0x1000000 * i
abbrev F.W_LATCH_STAT.VALID (i : Nat) : Fld := ⟨R.W_LATCH_STAT i, 0, 1⟩
abbrev F.W_LATCH_STAT.REV (i : Nat) : Fld := ⟨R.W_LATCH_STAT i, 1, 1⟩
abbrev F.W_LATCH_STAT.PFR (i : Nat) : Fld := ⟨R.W_LATCH_STAT i, 2, 1⟩
abbrev F.W_LATCH_STAT.DEG (i : Nat) : Fld := ⟨R.W_LATCH_STAT i, 3, 1⟩
abbrev F.W_LATCH_STAT.GAP (i : Nat) : Fld := ⟨R.W_LATCH_STAT i, 4, 1⟩
abbrev F.W_LATCH_STAT.REV_CNT (i : Nat) : Fld := ⟨R.W_LATCH_STAT i, 8, 8⟩
abbrev R.W_LIVE_LO (i e : Nat) : Nat := 0x0B0120 + 8 * e + 0x1000000 * i
abbrev F.W_LIVE_LO.E (i e : Nat) : Fld := ⟨R.W_LIVE_LO i e, 0, 32⟩
abbrev R.W_LIVE_HI (i e : Nat) : Nat := 0x0B0124 + 8 * e + 0x1000000 * i
abbrev F.W_LIVE_HI.E (i e : Nat) : Fld := ⟨R.W_LIVE_HI i e, 0, 32⟩
abbrev R.W_LATD_LO (i e : Nat) : Nat := 0x0B0160 + 8 * e + 0x1000000 * i
abbrev F.W_LATD_LO.E (i e : Nat) : Fld := ⟨R.W_LATD_LO i e, 0, 32⟩
abbrev R.W_LATD_HI (i e : Nat) : Nat := 0x0B0164 + 8 * e + 0x1000000 * i
abbrev F.W_LATD_HI.E (i e : Nat) : Fld := ⟨R.W_LATD_HI i e, 0, 32⟩
/- CSB block (R303). -/
abbrev R.CSB_CTRL : Nat := 0x0C0000
abbrev F.CSB_CTRL.RET_INH : Fld := ⟨R.CSB_CTRL, 0, 1⟩
abbrev R.CSB_STAT : Nat := 0x0C0004
abbrev F.CSB_STAT.STATE : Fld := ⟨R.CSB_STAT, 0, 4⟩
abbrev F.CSB_STAT.SRC0 : Fld := ⟨R.CSB_STAT, 4, 2⟩
abbrev F.CSB_STAT.SRC1 : Fld := ⟨R.CSB_STAT, 6, 2⟩
abbrev F.CSB_STAT.ROMDET : Fld := ⟨R.CSB_STAT, 8, 1⟩
abbrev F.CSB_STAT.RUN : Fld := ⟨R.CSB_STAT, 9, 1⟩
abbrev F.CSB_STAT.SYNC_OK : Fld := ⟨R.CSB_STAT, 10, 1⟩
abbrev F.CSB_STAT.ALT_START : Fld := ⟨R.CSB_STAT, 11, 1⟩
abbrev F.CSB_STAT.RESTORING : Fld := ⟨R.CSB_STAT, 12, 1⟩
abbrev R.CSB_ERR : Nat := 0x0C0008
abbrev F.CSB_ERR.LOSS0 : Fld := ⟨R.CSB_ERR, 0, 1⟩
abbrev F.CSB_ERR.LOSS1 : Fld := ⟨R.CSB_ERR, 1, 1⟩
abbrev F.CSB_ERR.BLOCKED : Fld := ⟨R.CSB_ERR, 2, 1⟩
abbrev F.CSB_ERR.FO_RB : Fld := ⟨R.CSB_ERR, 3, 1⟩
abbrev F.CSB_ERR.FO_PT : Fld := ⟨R.CSB_ERR, 4, 1⟩
abbrev F.CSB_ERR.FB : Fld := ⟨R.CSB_ERR, 5, 1⟩
abbrev F.CSB_ERR.RECALL_TMO : Fld := ⟨R.CSB_ERR, 6, 1⟩
abbrev F.CSB_ERR.SYNC_TMO : Fld := ⟨R.CSB_ERR, 7, 1⟩
abbrev F.CSB_ERR.ALT_LOST : Fld := ⟨R.CSB_ERR, 8, 1⟩
abbrev F.CSB_ERR.OVL : Fld := ⟨R.CSB_ERR, 9, 1⟩
abbrev F.CSB_ERR.CMD_REJ : Fld := ⟨R.CSB_ERR, 10, 1⟩
abbrev F.CSB_ERR.RANGE : Fld := ⟨R.CSB_ERR, 11, 1⟩
abbrev R.CSB_CMD : Nat := 0x0C000C
abbrev F.CSB_CMD.CMD : Fld := ⟨R.CSB_CMD, 0, 3⟩
abbrev F.CSB_CMD.GRP : Fld := ⟨R.CSB_CMD, 8, 6⟩
abbrev R.CSB_CFG : Nat := 0x0C0010
abbrev F.CSB_CFG.RMS_MODE : Fld := ⟨R.CSB_CFG, 0, 1⟩
abbrev F.CSB_CFG.PH0 : Fld := ⟨R.CSB_CFG, 1, 3⟩
abbrev F.CSB_CFG.PH1 : Fld := ⟨R.CSB_CFG, 4, 3⟩
abbrev F.CSB_CFG.LINK_ACT : Fld := ⟨R.CSB_CFG, 7, 1⟩
abbrev F.CSB_CFG.SYNC_EN : Fld := ⟨R.CSB_CFG, 8, 1⟩
abbrev F.CSB_CFG.RET_OPEN : Fld := ⟨R.CSB_CFG, 9, 1⟩
abbrev F.CSB_CFG.ALT_MODE : Fld := ⟨R.CSB_CFG, 10, 1⟩
abbrev F.CSB_CFG.ALT_FI : Fld := ⟨R.CSB_CFG, 11, 3⟩
abbrev F.CSB_CFG.ALT_FI_POL : Fld := ⟨R.CSB_CFG, 14, 1⟩
abbrev R.CSB_RMS : Nat := 0x0C0014
abbrev F.CSB_RMS.UV : Fld := ⟨R.CSB_RMS, 0, 10⟩
abbrev F.CSB_RMS.HYST : Fld := ⟨R.CSB_RMS, 10, 6⟩
abbrev F.CSB_RMS.OV : Fld := ⟨R.CSB_RMS, 16, 11⟩
abbrev R.CSB_FREQ : Nat := 0x0C0018
abbrev F.CSB_FREQ.F_LO : Fld := ⟨R.CSB_FREQ, 0, 8⟩
abbrev F.CSB_FREQ.F_HI : Fld := ⟨R.CSB_FREQ, 8, 8⟩
abbrev F.CSB_FREQ.F_N : Fld := ⟨R.CSB_FREQ, 16, 4⟩
abbrev F.CSB_FREQ.DF_N : Fld := ⟨R.CSB_FREQ, 20, 4⟩
abbrev R.CSB_VSR : Nat := 0x0C001C
abbrev F.CSB_VSR.VS : Fld := ⟨R.CSB_VSR, 0, 10⟩
abbrev F.CSB_VSR.ROCOF : Fld := ⟨R.CSB_VSR, 16, 16⟩
abbrev R.CSB_TIME0 : Nat := 0x0C0020
abbrev F.CSB_TIME0.DEAD_T : Fld := ⟨R.CSB_TIME0, 0, 16⟩
abbrev F.CSB_TIME0.FB_T : Fld := ⟨R.CSB_TIME0, 16, 16⟩
abbrev R.CSB_TIME1 : Nat := 0x0C0024
abbrev F.CSB_TIME1.BRK_T : Fld := ⟨R.CSB_TIME1, 0, 16⟩
abbrev F.CSB_TIME1.OVL_MAX : Fld := ⟨R.CSB_TIME1, 16, 16⟩
abbrev R.CSB_TIME2 : Nat := 0x0C0028
abbrev F.CSB_TIME2.Q_T : Fld := ⟨R.CSB_TIME2, 0, 8⟩
abbrev F.CSB_TIME2.RET_T : Fld := ⟨R.CSB_TIME2, 8, 16⟩
abbrev F.CSB_TIME2.SYNC_WAIT : Fld := ⟨R.CSB_TIME2, 24, 8⟩
abbrev R.CSB_TIME3 : Nat := 0x0C002C
abbrev F.CSB_TIME3.RESTORE_GAP : Fld := ⟨R.CSB_TIME3, 0, 16⟩
abbrev F.CSB_TIME3.RECALL_T : Fld := ⟨R.CSB_TIME3, 16, 16⟩
abbrev R.CSB_SYNC : Nat := 0x0C0030
abbrev F.CSB_SYNC.SYNC_DV : Fld := ⟨R.CSB_SYNC, 0, 8⟩
abbrev F.CSB_SYNC.SYNC_DF : Fld := ⟨R.CSB_SYNC, 8, 8⟩
abbrev F.CSB_SYNC.SYNC_DPH : Fld := ⟨R.CSB_SYNC, 16, 8⟩
abbrev R.CSB_ALTP : Nat := 0x0C0034
abbrev F.CSB_ALTP.ALT_PLIM : Fld := ⟨R.CSB_ALTP, 0, 24⟩
abbrev F.CSB_ALTP.ALT_PT : Fld := ⟨R.CSB_ALTP, 24, 2⟩
abbrev F.CSB_ALTP.OVL_N : Fld := ⟨R.CSB_ALTP, 28, 4⟩
abbrev R.CSB_FOn_CFG (n : Nat) : Nat := 0x0C0040 + 0x4 * n
abbrev F.CSB_FOn_CFG.ROLE (n : Nat) : Fld := ⟨R.CSB_FOn_CFG n, 0, 3⟩
abbrev F.CSB_FOn_CFG.HOLD (n : Nat) : Fld := ⟨R.CSB_FOn_CFG n, 3, 1⟩
abbrev F.CSB_FOn_CFG.INV (n : Nat) : Fld := ⟨R.CSB_FOn_CFG n, 4, 1⟩
abbrev F.CSB_FOn_CFG.FB_EN (n : Nat) : Fld := ⟨R.CSB_FOn_CFG n, 5, 1⟩
abbrev F.CSB_FOn_CFG.FB_POL (n : Nat) : Fld := ⟨R.CSB_FOn_CFG n, 6, 1⟩
abbrev F.CSB_FOn_CFG.FB_IDX (n : Nat) : Fld := ⟨R.CSB_FOn_CFG n, 7, 3⟩
abbrev F.CSB_FOn_CFG.TST_DIS (n : Nat) : Fld := ⟨R.CSB_FOn_CFG n, 10, 1⟩
abbrev R.CSB_FO_STAT : Nat := 0x0C0060
abbrev F.CSB_FO_STAT.CMD : Fld := ⟨R.CSB_FO_STAT, 0, 8⟩
abbrev F.CSB_FO_STAT.FI : Fld := ⟨R.CSB_FO_STAT, 8, 8⟩
abbrev F.CSB_FO_STAT.FLT : Fld := ⟨R.CSB_FO_STAT, 16, 8⟩
abbrev R.CSB_SYNC_STAT : Nat := 0x0C0064
abbrev F.CSB_SYNC_STAT.DPH : Fld := ⟨R.CSB_SYNC_STAT, 0, 16⟩
abbrev F.CSB_SYNC_STAT.DF : Fld := ⟨R.CSB_SYNC_STAT, 16, 16⟩
abbrev R.CSB_LOSS : Nat := 0x0C0068
abbrev F.CSB_LOSS.CAUSE : Fld := ⟨R.CSB_LOSS, 0, 7⟩
abbrev R.CSB_LOSS_SEC : Nat := 0x0C006C
abbrev F.CSB_LOSS_SEC.SEC : Fld := ⟨R.CSB_LOSS_SEC, 0, 32⟩
abbrev R.CSB_LOSS_NS : Nat := 0x0C0070
abbrev F.CSB_LOSS_NS.NS : Fld := ⟨R.CSB_LOSS_NS, 0, 30⟩
abbrev R.CSB_TRF_CNT : Nat := 0x0C0074
abbrev F.CSB_TRF_CNT.COUNT : Fld := ⟨R.CSB_TRF_CNT, 0, 32⟩
abbrev R.CSB_TAB_ADDR (q : Nat) : Nat := 0x0C0078 + 0x1000000 * q
abbrev F.CSB_TAB_ADDR.ADDR (q : Nat) : Fld := ⟨R.CSB_TAB_ADDR q, 0, 10⟩
abbrev R.CSB_TAB_DATA : Nat := 0x0C007C
abbrev F.CSB_TAB_DATA.DATA : Fld := ⟨R.CSB_TAB_DATA, 0, 32⟩
abbrev R.CSB_GRP_ONn (n : Nat) : Nat := 0x0C0080 + 0x4 * n
abbrev F.CSB_GRP_ONn.GRP (n : Nat) : Fld := ⟨R.CSB_GRP_ONn n, 0, 32⟩
abbrev R.CSB_GRP_SHEDn (n : Nat) : Nat := 0x0C0088 + 0x4 * n
abbrev F.CSB_GRP_SHEDn.GRP (n : Nat) : Fld := ⟨R.CSB_GRP_SHEDn n, 0, 32⟩
/- LIO block (R535). -/
abbrev R.LIO_STAT : Nat := 0x0C1000
abbrev F.LIO_STAT.RUN : Fld := ⟨R.LIO_STAT, 0, 1⟩
abbrev R.LIO_ERR : Nat := 0x0C1004
abbrev F.LIO_ERR.AI_INV : Fld := ⟨R.LIO_ERR, 0, 1⟩
abbrev F.LIO_ERR.CAL_FAIL : Fld := ⟨R.LIO_ERR, 1, 1⟩
abbrev R.LIO_DI : Nat := 0x0C1008
abbrev F.LIO_DI.DI : Fld := ⟨R.LIO_DI, 0, 32⟩
abbrev R.LIO_DI_CFG : Nat := 0x0C100C
abbrev F.LIO_DI_CFG.FLT : Fld := ⟨R.LIO_DI_CFG, 0, 4⟩
abbrev R.LIO_AI_INV : Nat := 0x0C1010
abbrev F.LIO_AI_INV.INV : Fld := ⟨R.LIO_AI_INV, 0, 16⟩
abbrev R.LIO_PCNTn (n : Nat) : Nat := 0x0C1080 + 0x4 * n
abbrev F.LIO_PCNTn.COUNT (n : Nat) : Fld := ⟨R.LIO_PCNTn n, 0, 32⟩
abbrev R.AIn_CFG (n : Nat) : Nat := 0x0C1100 + 0x20 * n
abbrev F.AIn_CFG.MODE (n : Nat) : Fld := ⟨R.AIn_CFG n, 0, 2⟩
abbrev F.AIn_CFG.FILT (n : Nat) : Fld := ⟨R.AIn_CFG n, 2, 1⟩
abbrev R.AIn_GAIN (n : Nat) : Nat := 0x0C1104 + 0x20 * n
abbrev F.AIn_GAIN.GAIN (n : Nat) : Fld := ⟨R.AIn_GAIN n, 0, 32⟩
abbrev R.AIn_OFS (n : Nat) : Nat := 0x0C1108 + 0x20 * n
abbrev F.AIn_OFS.OFS (n : Nat) : Fld := ⟨R.AIn_OFS n, 0, 32⟩
abbrev R.AIn_RAW (n : Nat) : Nat := 0x0C110C + 0x20 * n
abbrev F.AIn_RAW.RAW (n : Nat) : Fld := ⟨R.AIn_RAW n, 0, 32⟩
abbrev R.AIn_VAL (n : Nat) : Nat := 0x0C1110 + 0x20 * n
abbrev F.AIn_VAL.VAL (n : Nat) : Fld := ⟨R.AIn_VAL n, 0, 32⟩
/- FAB block (R331). -/
abbrev R.FAB_CFG : Nat := 0x0D0000
abbrev F.FAB_CFG.ETYPE : Fld := ⟨R.FAB_CFG, 0, 16⟩
abbrev F.FAB_CFG.HLIM : Fld := ⟨R.FAB_CFG, 16, 5⟩
abbrev R.FAB_ID : Nat := 0x0D0004
abbrev F.FAB_ID.ID : Fld := ⟨R.FAB_ID, 0, 32⟩
abbrev R.FAB_ADDR : Nat := 0x0D0008
abbrev F.FAB_ADDR.CFG_ADDR : Fld := ⟨R.FAB_ADDR, 0, 12⟩
abbrev F.FAB_ADDR.ADDR : Fld := ⟨R.FAB_ADDR, 16, 12⟩
abbrev R.FAB_STAT : Nat := 0x0D000C
abbrev F.FAB_STAT.ADDR_STATE : Fld := ⟨R.FAB_STAT, 0, 2⟩
abbrev F.FAB_STAT.RUN : Fld := ⟨R.FAB_STAT, 2, 1⟩
abbrev F.FAB_STAT.SVC : Fld := ⟨R.FAB_STAT, 3, 1⟩
abbrev F.FAB_STAT.NODES : Fld := ⟨R.FAB_STAT, 16, 13⟩
abbrev R.FAB_ERR : Nat := 0x0D0010
abbrev F.FAB_ERR.ADDR_MOVE : Fld := ⟨R.FAB_ERR, 0, 1⟩
abbrev F.FAB_ERR.ADDR_CONF : Fld := ⟨R.FAB_ERR, 1, 1⟩
abbrev F.FAB_ERR.WIN_FULL : Fld := ⟨R.FAB_ERR, 2, 1⟩
abbrev F.FAB_ERR.NODELIV : Fld := ⟨R.FAB_ERR, 3, 1⟩
abbrev F.FAB_ERR.KEY : Fld := ⟨R.FAB_ERR, 4, 1⟩
abbrev F.FAB_ERR.RANGE : Fld := ⟨R.FAB_ERR, 5, 1⟩
abbrev R.FAB_RETRY : Nat := 0x0D0014
abbrev F.FAB_RETRY.RETRY_MS : Fld := ⟨R.FAB_RETRY, 0, 10⟩
abbrev F.FAB_RETRY.RETRY_N : Fld := ⟨R.FAB_RETRY, 10, 4⟩
abbrev F.FAB_RETRY.WIN_HOLD : Fld := ⟨R.FAB_RETRY, 16, 8⟩
abbrev R.FAB_RES : Nat := 0x0D0018
abbrev F.FAB_RES.RES5 : Fld := ⟨R.FAB_RES, 0, 8⟩
abbrev F.FAB_RES.RES6 : Fld := ⟨R.FAB_RES, 8, 8⟩
abbrev F.FAB_RES.RES7 : Fld := ⟨R.FAB_RES, 16, 8⟩
abbrev R.FAB_WRR : Nat := 0x0D001C
abbrev F.FAB_WRR.WRR0WRR4 : Fld := ⟨R.FAB_WRR, 0, 6⟩
abbrev F.FAB_WRR.WRR0WRR4_6 : Fld := ⟨R.FAB_WRR, 6, 6⟩
abbrev F.FAB_WRR.WRR0WRR4_12 : Fld := ⟨R.FAB_WRR, 12, 6⟩
abbrev F.FAB_WRR.WRR0WRR4_18 : Fld := ⟨R.FAB_WRR, 18, 6⟩
abbrev F.FAB_WRR.WRR0WRR4_24 : Fld := ⟨R.FAB_WRR, 24, 6⟩
abbrev R.FAB_FOREIGN_CNT : Nat := 0x0D0020
abbrev F.FAB_FOREIGN_CNT.COUNT : Fld := ⟨R.FAB_FOREIGN_CNT, 0, 32⟩
abbrev R.FAB_FMT_CNT : Nat := 0x0D0024
abbrev F.FAB_FMT_CNT.COUNT : Fld := ⟨R.FAB_FMT_CNT, 0, 32⟩
abbrev R.FAB_TTL_CNT : Nat := 0x0D0028
abbrev F.FAB_TTL_CNT.COUNT : Fld := ⟨R.FAB_TTL_CNT, 0, 32⟩
abbrev R.FAB_NOROUTE_CNT : Nat := 0x0D002C
abbrev F.FAB_NOROUTE_CNT.COUNT : Fld := ⟨R.FAB_NOROUTE_CNT, 0, 32⟩
abbrev R.FAB_DUP_CNT : Nat := 0x0D0030
abbrev F.FAB_DUP_CNT.COUNT : Fld := ⟨R.FAB_DUP_CNT, 0, 32⟩
abbrev R.FAB_STALE_CNT : Nat := 0x0D0034
abbrev F.FAB_STALE_CNT.COUNT : Fld := ⟨R.FAB_STALE_CNT, 0, 32⟩
abbrev R.FAB_NODELIV_CNT : Nat := 0x0D0038
abbrev F.FAB_NODELIV_CNT.COUNT : Fld := ⟨R.FAB_NODELIV_CNT, 0, 32⟩
abbrev R.FAB_WINFULL_CNT : Nat := 0x0D003C
abbrev F.FAB_WINFULL_CNT.COUNT : Fld := ⟨R.FAB_WINFULL_CNT, 0, 32⟩
abbrev R.FAB_NODISJ_CNT : Nat := 0x0D0040
abbrev F.FAB_NODISJ_CNT.COUNT : Fld := ⟨R.FAB_NODISJ_CNT, 0, 32⟩
abbrev R.FAB_LSA_SEQ : Nat := 0x0D0044
abbrev F.FAB_LSA_SEQ.SEQ : Fld := ⟨R.FAB_LSA_SEQ, 0, 32⟩
abbrev R.FAB_CONV_US : Nat := 0x0D0048
abbrev F.FAB_CONV_US.US : Fld := ⟨R.FAB_CONV_US, 0, 32⟩
abbrev R.FAB_RT_SEL (q : Nat) : Nat := 0x0D0080 + 0x1000000 * q
abbrev F.FAB_RT_SEL.DST (q : Nat) : Fld := ⟨R.FAB_RT_SEL q, 0, 12⟩
abbrev R.FAB_RT_ENTRY (i : Nat) : Nat := 0x0D0084 + 0x1000000 * i
abbrev F.FAB_RT_ENTRY.PORT (i : Nat) : Fld := ⟨R.FAB_RT_ENTRY i, 0, 2⟩
abbrev F.FAB_RT_ENTRY.VALID (i : Nat) : Fld := ⟨R.FAB_RT_ENTRY i, 2, 1⟩
abbrev F.FAB_RT_ENTRY.DISJ (i : Nat) : Fld := ⟨R.FAB_RT_ENTRY i, 3, 1⟩
abbrev F.FAB_RT_ENTRY.NODE_DISJ (i : Nat) : Fld := ⟨R.FAB_RT_ENTRY i, 4, 1⟩
abbrev F.FAB_RT_ENTRY.HOPS (i : Nat) : Fld := ⟨R.FAB_RT_ENTRY i, 8, 5⟩
abbrev F.FAB_RT_ENTRY.COST (i : Nat) : Fld := ⟨R.FAB_RT_ENTRY i, 16, 16⟩
abbrev R.FAB_RT_ROUTE_LO (i : Nat) : Nat := 0x0D0088 + 0x1000000 * i
abbrev F.FAB_RT_ROUTE_LO.ROUTE (i : Nat) : Fld := ⟨R.FAB_RT_ROUTE_LO i, 0, 32⟩
abbrev R.FAB_RT_ROUTE_HI (i : Nat) : Nat := 0x0D008C + 0x1000000 * i
abbrev F.FAB_RT_ROUTE_HI.ROUTE (i : Nat) : Fld := ⟨R.FAB_RT_ROUTE_HI i, 0, 32⟩
abbrev R.PORTn_CFG (n : Nat) : Nat := 0x0D0100 + 0x40 * n
abbrev F.PORTn_CFG.EN (n : Nat) : Fld := ⟨R.PORTn_CFG n, 0, 1⟩
abbrev F.PORTn_CFG.COST (n : Nat) : Fld := ⟨R.PORTn_CFG n, 16, 16⟩
abbrev R.PORTn_STAT (n : Nat) : Nat := 0x0D0104 + 0x40 * n
abbrev F.PORTn_STAT.STATE (n : Nat) : Fld := ⟨R.PORTn_STAT n, 0, 3⟩
abbrev F.PORTn_STAT.MISS (n : Nat) : Fld := ⟨R.PORTn_STAT n, 3, 2⟩
abbrev F.PORTn_STAT.CAP (n : Nat) : Fld := ⟨R.PORTn_STAT n, 5, 1⟩
abbrev F.PORTn_STAT.NB_ADDR (n : Nat) : Fld := ⟨R.PORTn_STAT n, 16, 12⟩
abbrev F.PORTn_STAT.NB_PORT (n : Nat) : Fld := ⟨R.PORTn_STAT n, 28, 2⟩
abbrev R.PORTn_NB_LO (n : Nat) : Nat := 0x0D0108 + 0x40 * n
abbrev F.PORTn_NB_LO.DEVID (n : Nat) : Fld := ⟨R.PORTn_NB_LO n, 0, 32⟩
abbrev R.PORTn_NB_HI (n : Nat) : Nat := 0x0D010C + 0x40 * n
abbrev F.PORTn_NB_HI.DEVID (n : Nat) : Fld := ⟨R.PORTn_NB_HI n, 0, 32⟩
abbrev R.PORTn_RX_CNT (n : Nat) : Nat := 0x0D0110 + 0x40 * n
abbrev F.PORTn_RX_CNT.COUNT (n : Nat) : Fld := ⟨R.PORTn_RX_CNT n, 0, 32⟩
abbrev R.PORTn_TX_CNT (n : Nat) : Nat := 0x0D0114 + 0x40 * n
abbrev F.PORTn_TX_CNT.COUNT (n : Nat) : Fld := ⟨R.PORTn_TX_CNT n, 0, 32⟩
abbrev R.PORTn_AUTH_CNT (n : Nat) : Nat := 0x0D0118 + 0x40 * n
abbrev F.PORTn_AUTH_CNT.COUNT (n : Nat) : Fld := ⟨R.PORTn_AUTH_CNT n, 0, 32⟩
abbrev R.PORTn_DROP_CNT (n : Nat) : Nat := 0x0D011C + 0x40 * n
abbrev F.PORTn_DROP_CNT.COUNT (n : Nat) : Fld := ⟨R.PORTn_DROP_CNT n, 0, 32⟩
abbrev R.PORTn_MISS_CNT (n : Nat) : Nat := 0x0D0120 + 0x40 * n
abbrev F.PORTn_MISS_CNT.COUNT (n : Nat) : Fld := ⟨R.PORTn_MISS_CNT n, 0, 32⟩
abbrev R.PORTn_ADOPT_CNT (n : Nat) : Nat := 0x0D0124 + 0x40 * n
abbrev F.PORTn_ADOPT_CNT.COUNT (n : Nat) : Fld := ⟨R.PORTn_ADOPT_CNT n, 0, 32⟩
/- TIM block (R281, R354). -/
abbrev R.TIM_CFG : Nat := 0x0E0000
abbrev F.TIM_CFG.FAB_MODE : Fld := ⟨R.TIM_CFG, 0, 1⟩
abbrev F.TIM_CFG.GM_EN : Fld := ⟨R.TIM_CFG, 1, 1⟩
abbrev F.TIM_CFG.STN_MASTER : Fld := ⟨R.TIM_CFG, 2, 1⟩
abbrev R.TIM_STAT : Nat := 0x0E0004
abbrev F.TIM_STAT.SYNC : Fld := ⟨R.TIM_STAT, 0, 3⟩
abbrev F.TIM_STAT.UNSET : Fld := ⟨R.TIM_STAT, 3, 1⟩
abbrev F.TIM_STAT.SLEWING : Fld := ⟨R.TIM_STAT, 4, 1⟩
abbrev F.TIM_STAT.SLAVE_PORT : Fld := ⟨R.TIM_STAT, 5, 3⟩
abbrev R.TIM_ERR : Nat := 0x0E0008
abbrev F.TIM_ERR.STEP : Fld := ⟨R.TIM_ERR, 0, 1⟩
abbrev F.TIM_ERR.SET_REJ : Fld := ⟨R.TIM_ERR, 1, 1⟩
abbrev F.TIM_ERR.PARENT_LOST : Fld := ⟨R.TIM_ERR, 2, 1⟩
abbrev F.TIM_ERR.ANN_STN : Fld := ⟨R.TIM_ERR, 3, 1⟩
abbrev F.TIM_ERR.RANGE : Fld := ⟨R.TIM_ERR, 4, 1⟩
abbrev F.TIM_ERR.WDRAW : Fld := ⟨R.TIM_ERR, 5, 1⟩
abbrev F.TIM_ERR.LQ_LATE : Fld := ⟨R.TIM_ERR, 6, 1⟩
abbrev R.TIM_NS : Nat := 0x0E000C
abbrev F.TIM_NS.NS : Fld := ⟨R.TIM_NS, 0, 30⟩
abbrev R.TIM_SEC_LO : Nat := 0x0E0010
abbrev F.TIM_SEC_LO.SEC : Fld := ⟨R.TIM_SEC_LO, 0, 32⟩
abbrev R.TIM_SEC_HI : Nat := 0x0E0014
abbrev F.TIM_SEC_HI.SEC : Fld := ⟨R.TIM_SEC_HI, 0, 16⟩
abbrev R.TIM_ADDEND : Nat := 0x0E0018
abbrev F.TIM_ADDEND.ADDEND : Fld := ⟨R.TIM_ADDEND, 0, 32⟩
abbrev R.TIM_SET_NS : Nat := 0x0E001C
abbrev F.TIM_SET_NS.NS : Fld := ⟨R.TIM_SET_NS, 0, 30⟩
abbrev R.TIM_SET_SEC_LO : Nat := 0x0E0020
abbrev F.TIM_SET_SEC_LO.SEC : Fld := ⟨R.TIM_SET_SEC_LO, 0, 32⟩
abbrev R.TIM_SET_SEC_HI : Nat := 0x0E0024
abbrev F.TIM_SET_SEC_HI.SEC : Fld := ⟨R.TIM_SET_SEC_HI, 0, 16⟩
abbrev R.TIM_STEP : Nat := 0x0E0028
abbrev F.TIM_STEP.NS : Fld := ⟨R.TIM_STEP, 0, 32⟩
abbrev R.TIM_SLEW : Nat := 0x0E002C
abbrev F.TIM_SLEW.NS : Fld := ⟨R.TIM_SLEW, 0, 32⟩
abbrev R.TIM_UTC_OFS : Nat := 0x0E0030
abbrev F.TIM_UTC_OFS.OFS : Fld := ⟨R.TIM_UTC_OFS, 0, 16⟩
abbrev F.TIM_UTC_OFS.VALID : Fld := ⟨R.TIM_UTC_OFS, 16, 1⟩
abbrev R.TIM_PTP : Nat := 0x0E0034
abbrev F.TIM_PTP.DOMAIN : Fld := ⟨R.TIM_PTP, 0, 8⟩
abbrev F.TIM_PTP.PRIO1 : Fld := ⟨R.TIM_PTP, 8, 8⟩
abbrev F.TIM_PTP.PRIO2 : Fld := ⟨R.TIM_PTP, 16, 8⟩
abbrev F.TIM_PTP.CLASS : Fld := ⟨R.TIM_PTP, 24, 8⟩
abbrev R.TIM_PTP2 : Nat := 0x0E0038
abbrev F.TIM_PTP2.LOG_SYNC : Fld := ⟨R.TIM_PTP2, 0, 4⟩
abbrev F.TIM_PTP2.ANN_TMO : Fld := ⟨R.TIM_PTP2, 4, 4⟩
abbrev R.TIM_SERVO : Nat := 0x0E003C
abbrev F.TIM_SERVO.STEP_TH : Fld := ⟨R.TIM_SERVO, 0, 16⟩
abbrev F.TIM_SERVO.LOCK_TH : Fld := ⟨R.TIM_SERVO, 16, 8⟩
abbrev R.TIM_OFFSET : Nat := 0x0E0040
abbrev F.TIM_OFFSET.NS : Fld := ⟨R.TIM_OFFSET, 0, 32⟩
abbrev R.TIM_PATH : Nat := 0x0E0044
abbrev F.TIM_PATH.NS : Fld := ⟨R.TIM_PATH, 0, 32⟩
abbrev R.TIM_GM_LO : Nat := 0x0E0048
abbrev F.TIM_GM_LO.ID : Fld := ⟨R.TIM_GM_LO, 0, 32⟩
abbrev R.TIM_GM_HI : Nat := 0x0E004C
abbrev F.TIM_GM_HI.ID : Fld := ⟨R.TIM_GM_HI, 0, 32⟩
abbrev R.TIM_STEP_CNT : Nat := 0x0E0050
abbrev F.TIM_STEP_CNT.COUNT : Fld := ⟨R.TIM_STEP_CNT, 0, 32⟩
abbrev R.TIM_PTP_IGN_CNT : Nat := 0x0E0054
abbrev F.TIM_PTP_IGN_CNT.COUNT : Fld := ⟨R.TIM_PTP_IGN_CNT, 0, 32⟩
abbrev R.TIM_PORTn_CFG (n : Nat) : Nat := 0x0E0080 + 0x20 * n
abbrev F.TIM_PORTn_CFG.PTP_EN (n : Nat) : Fld := ⟨R.TIM_PORTn_CFG n, 0, 1⟩
abbrev F.TIM_PORTn_CFG.TYPE (n : Nat) : Fld := ⟨R.TIM_PORTn_CFG n, 1, 1⟩
abbrev R.TIM_PORTn_ASYM (n : Nat) : Nat := 0x0E0084 + 0x20 * n
abbrev F.TIM_PORTn_ASYM.ASYM (n : Nat) : Fld := ⟨R.TIM_PORTn_ASYM n, 0, 24⟩
abbrev R.TIM_PORTn_LAT (n : Nat) : Nat := 0x0E0088 + 0x20 * n
abbrev F.TIM_PORTn_LAT.EGR (n : Nat) : Fld := ⟨R.TIM_PORTn_LAT n, 0, 10⟩
abbrev F.TIM_PORTn_LAT.ING (n : Nat) : Fld := ⟨R.TIM_PORTn_LAT n, 16, 10⟩
abbrev R.TIM_PORTn_STAT (n : Nat) : Nat := 0x0E008C + 0x20 * n
abbrev F.TIM_PORTn_STAT.PSTATE (n : Nat) : Fld := ⟨R.TIM_PORTn_STAT n, 0, 3⟩
abbrev R.TIM_PORTn_DELAY (n : Nat) : Nat := 0x0E0090 + 0x20 * n
abbrev F.TIM_PORTn_DELAY.NS (n : Nat) : Fld := ⟨R.TIM_PORTn_DELAY n, 0, 32⟩
abbrev R.TIM_ACT_NS : Nat := 0x0E0140
abbrev F.TIM_ACT_NS.TIME : Fld := ⟨R.TIM_ACT_NS, 0, 30⟩
abbrev R.TIM_ACT_SEC_LO : Nat := 0x0E0144
abbrev F.TIM_ACT_SEC_LO.TIME : Fld := ⟨R.TIM_ACT_SEC_LO, 0, 32⟩
abbrev R.TIM_ACT_SEC_HI : Nat := 0x0E0148
abbrev F.TIM_ACT_SEC_HI.TIME : Fld := ⟨R.TIM_ACT_SEC_HI, 0, 16⟩
abbrev R.TIM_ACT_TGT : Nat := 0x0E014C
abbrev F.TIM_ACT_TGT.ADDR : Fld := ⟨R.TIM_ACT_TGT, 0, 24⟩
abbrev F.TIM_ACT_TGT.KIND : Fld := ⟨R.TIM_ACT_TGT, 24, 3⟩
abbrev F.TIM_ACT_TGT.DTYPE : Fld := ⟨R.TIM_ACT_TGT, 27, 4⟩
abbrev F.TIM_ACT_TGT.TASK : Fld := ⟨R.TIM_ACT_TGT, 31, 1⟩
abbrev R.TIM_ACT_TAG : Nat := 0x0E0150
abbrev F.TIM_ACT_TAG.ACT_TAG : Fld := ⟨R.TIM_ACT_TAG, 0, 16⟩
abbrev F.TIM_ACT_TAG.STALE : Fld := ⟨R.TIM_ACT_TAG, 16, 16⟩
abbrev R.TIM_ACT_VAL : Nat := 0x0E0154
abbrev F.TIM_ACT_VAL.VALUE : Fld := ⟨R.TIM_ACT_VAL, 0, 32⟩
abbrev R.TIM_ACT_SUBMIT : Nat := 0x0E0158
abbrev F.TIM_ACT_SUBMIT.GO : Fld := ⟨R.TIM_ACT_SUBMIT, 0, 1⟩
abbrev R.TIM_ACT_RES : Nat := 0x0E015C
abbrev F.TIM_ACT_RES.HANDLE : Fld := ⟨R.TIM_ACT_RES, 0, 11⟩
abbrev F.TIM_ACT_RES.LATE : Fld := ⟨R.TIM_ACT_RES, 11, 1⟩
abbrev F.TIM_ACT_RES.CODE : Fld := ⟨R.TIM_ACT_RES, 16, 4⟩
abbrev R.TIM_ACT_WDRAW : Nat := 0x0E0160
abbrev F.TIM_ACT_WDRAW.HANDLE : Fld := ⟨R.TIM_ACT_WDRAW, 0, 11⟩
abbrev R.TIM_ACT_LVL : Nat := 0x0E0164
abbrev F.TIM_ACT_LVL.HOST : Fld := ⟨R.TIM_ACT_LVL, 0, 12⟩
abbrev F.TIM_ACT_LVL.TRJ : Fld := ⟨R.TIM_ACT_LVL, 16, 12⟩
abbrev R.TIM_ACT_EXEC_CNT : Nat := 0x0E0168
abbrev F.TIM_ACT_EXEC_CNT.COUNT : Fld := ⟨R.TIM_ACT_EXEC_CNT, 0, 32⟩
abbrev R.TIM_ACT_LATE_CNT : Nat := 0x0E016C
abbrev F.TIM_ACT_LATE_CNT.COUNT : Fld := ⟨R.TIM_ACT_LATE_CNT, 0, 32⟩
abbrev R.TIM_ACT_PAST_CNT : Nat := 0x0E0170
abbrev F.TIM_ACT_PAST_CNT.COUNT : Fld := ⟨R.TIM_ACT_PAST_CNT, 0, 32⟩
abbrev R.TIM_LQn_CFG (n : Nat) : Nat := 0x0E0200 + 0x20 * n
abbrev F.TIM_LQn_CFG.LATE_POLICY (n : Nat) : Fld := ⟨R.TIM_LQn_CFG n, 0, 1⟩
abbrev R.TIM_LQn_LVL (n : Nat) : Nat := 0x0E0204 + 0x20 * n
abbrev F.TIM_LQn_LVL.LEVEL (n : Nat) : Fld := ⟨R.TIM_LQn_LVL n, 0, 7⟩
abbrev R.TIM_LQn_SENT (n : Nat) : Nat := 0x0E0208 + 0x20 * n
abbrev F.TIM_LQn_SENT.COUNT (n : Nat) : Fld := ⟨R.TIM_LQn_SENT n, 0, 32⟩
abbrev R.TIM_LQn_LATE (n : Nat) : Nat := 0x0E020C + 0x20 * n
abbrev F.TIM_LQn_LATE.COUNT (n : Nat) : Fld := ⟨R.TIM_LQn_LATE n, 0, 32⟩
abbrev R.TIM_LQn_DROP (n : Nat) : Nat := 0x0E0210 + 0x20 * n
abbrev F.TIM_LQn_DROP.COUNT (n : Nat) : Fld := ⟨R.TIM_LQn_DROP n, 0, 32⟩
abbrev R.TIM_LQn_SKEW_MAX (n : Nat) : Nat := 0x0E0214 + 0x20 * n
abbrev F.TIM_LQn_SKEW_MAX.NS (n : Nat) : Fld := ⟨R.TIM_LQn_SKEW_MAX n, 0, 8⟩
abbrev R.TRJ_CFG : Nat := 0x0E8000
abbrev F.TRJ_CFG.SRC : Fld := ⟨R.TRJ_CFG, 0, 2⟩
abbrev F.TRJ_CFG.LEADER : Fld := ⟨R.TRJ_CFG, 16, 12⟩
abbrev R.TRJ_STAT : Nat := 0x0E8004
abbrev F.TRJ_STAT.RUN : Fld := ⟨R.TRJ_STAT, 0, 1⟩
abbrev F.TRJ_STAT.PLAN : Fld := ⟨R.TRJ_STAT, 1, 1⟩
abbrev F.TRJ_STAT.ENDED : Fld := ⟨R.TRJ_STAT, 2, 1⟩
abbrev F.TRJ_STAT.LEADER_LOST : Fld := ⟨R.TRJ_STAT, 3, 1⟩
abbrev R.TRJ_ERR : Nat := 0x0E8008
abbrev F.TRJ_ERR.PAST : Fld := ⟨R.TRJ_ERR, 0, 1⟩
abbrev F.TRJ_ERR.LATE : Fld := ⟨R.TRJ_ERR, 1, 1⟩
abbrev F.TRJ_ERR.QUEUE : Fld := ⟨R.TRJ_ERR, 2, 1⟩
abbrev F.TRJ_ERR.INCOMPLETE : Fld := ⟨R.TRJ_ERR, 3, 1⟩
abbrev F.TRJ_ERR.NOLEADER : Fld := ⟨R.TRJ_ERR, 4, 1⟩
abbrev F.TRJ_ERR.FMT : Fld := ⟨R.TRJ_ERR, 5, 1⟩
abbrev F.TRJ_ERR.RANGE : Fld := ⟨R.TRJ_ERR, 6, 1⟩
abbrev R.TRJ_SEQ : Nat := 0x0E800C
abbrev F.TRJ_SEQ.PLAN : Fld := ⟨R.TRJ_SEQ, 0, 32⟩
abbrev R.TRJ_A_SEC : Nat := 0x0E8010
abbrev F.TRJ_A_SEC.SEC : Fld := ⟨R.TRJ_A_SEC, 0, 32⟩
abbrev R.TRJ_A_NS : Nat := 0x0E8014
abbrev F.TRJ_A_NS.NS : Fld := ⟨R.TRJ_A_NS, 0, 30⟩
abbrev R.TRJ_B0_SEC : Nat := 0x0E8018
abbrev F.TRJ_B0_SEC.SEC : Fld := ⟨R.TRJ_B0_SEC, 0, 32⟩
abbrev R.TRJ_STEP : Nat := 0x0E801C
abbrev F.TRJ_STEP.STEP : Fld := ⟨R.TRJ_STEP, 0, 8⟩
abbrev F.TRJ_STEP.N : Fld := ⟨R.TRJ_STEP, 8, 8⟩
abbrev F.TRJ_STEP.STEP_MIN : Fld := ⟨R.TRJ_STEP, 16, 6⟩
abbrev R.TRJ_RX_CNT : Nat := 0x0E8020
abbrev F.TRJ_RX_CNT.COUNT : Fld := ⟨R.TRJ_RX_CNT, 0, 32⟩
abbrev R.TRJ_TX_CNT : Nat := 0x0E8024
abbrev F.TRJ_TX_CNT.COUNT : Fld := ⟨R.TRJ_TX_CNT, 0, 32⟩
abbrev R.TRJ_LATE_CNT : Nat := 0x0E8028
abbrev F.TRJ_LATE_CNT.COUNT : Fld := ⟨R.TRJ_LATE_CNT, 0, 32⟩
abbrev R.TRJ_PAST_CNT : Nat := 0x0E802C
abbrev F.TRJ_PAST_CNT.COUNT : Fld := ⟨R.TRJ_PAST_CNT, 0, 32⟩
abbrev R.TRJ_TAB_ADDR (q : Nat) : Nat := 0x0E8030 + 0x1000000 * q
abbrev F.TRJ_TAB_ADDR.ADDR (q : Nat) : Fld := ⟨R.TRJ_TAB_ADDR q, 0, 14⟩
abbrev R.TRJ_TAB_DATA : Nat := 0x0E8034
abbrev F.TRJ_TAB_DATA.DATA : Fld := ⟨R.TRJ_TAB_DATA, 0, 32⟩
abbrev R.TRJ_AREA_BASE : Nat := 0x0E8038
abbrev F.TRJ_AREA_BASE.BASE : Fld := ⟨R.TRJ_AREA_BASE, 0, 17⟩
abbrev R.TRJ_FOL_TMO : Nat := 0x0E803C
abbrev F.TRJ_FOL_TMO.SEC : Fld := ⟨R.TRJ_FOL_TMO, 0, 16⟩
abbrev R.TRJ_CH_SEL (q : Nat) : Nat := 0x0E8040 + 0x1000000 * q
abbrev F.TRJ_CH_SEL.CH (q : Nat) : Fld := ⟨R.TRJ_CH_SEL q, 0, 9⟩
abbrev R.TRJ_CH_STAT (i : Nat) : Nat := 0x0E8044 + 0x1000000 * i
abbrev F.TRJ_CH_STAT.PEND (i : Nat) : Fld := ⟨R.TRJ_CH_STAT i, 0, 1⟩
abbrev F.TRJ_CH_STAT.LATE (i : Nat) : Fld := ⟨R.TRJ_CH_STAT i, 1, 1⟩
abbrev F.TRJ_CH_STAT.PAST (i : Nat) : Fld := ⟨R.TRJ_CH_STAT i, 2, 1⟩
abbrev R.TRJ_CH_LAST (i : Nat) : Nat := 0x0E8048 + 0x1000000 * i
abbrev F.TRJ_CH_LAST.VALUE (i : Nat) : Fld := ⟨R.TRJ_CH_LAST i, 0, 32⟩
abbrev R.TRJ_CH_NEXT (i : Nat) : Nat := 0x0E804C + 0x1000000 * i
abbrev F.TRJ_CH_NEXT.VALUE (i : Nat) : Fld := ⟨R.TRJ_CH_NEXT i, 0, 32⟩
/- RTC block (R365). -/
abbrev R.RTC_CFG : Nat := 0x0F0000
abbrev F.RTC_CFG.TRACK : Fld := ⟨R.RTC_CFG, 0, 1⟩
abbrev R.RTC_STAT : Nat := 0x0F0004
abbrev F.RTC_STAT.OSF : Fld := ⟨R.RTC_STAT, 0, 1⟩
abbrev F.RTC_STAT.BUSY : Fld := ⟨R.RTC_STAT, 1, 1⟩
abbrev F.RTC_STAT.BATLOW : Fld := ⟨R.RTC_STAT, 2, 1⟩
abbrev R.RTC_ERR : Nat := 0x0F0008
abbrev F.RTC_ERR.BUSY : Fld := ⟨R.RTC_ERR, 0, 1⟩
abbrev F.RTC_ERR.RANGE : Fld := ⟨R.RTC_ERR, 1, 1⟩
abbrev R.RTC_FRAC : Nat := 0x0F000C
abbrev F.RTC_FRAC.FRAC : Fld := ⟨R.RTC_FRAC, 0, 15⟩
abbrev R.RTC_SEC_LO : Nat := 0x0F0010
abbrev F.RTC_SEC_LO.SEC : Fld := ⟨R.RTC_SEC_LO, 0, 32⟩
abbrev R.RTC_SEC_HI : Nat := 0x0F0014
abbrev F.RTC_SEC_HI.SEC : Fld := ⟨R.RTC_SEC_HI, 0, 8⟩
abbrev R.RTC_SET_FRAC : Nat := 0x0F0018
abbrev F.RTC_SET_FRAC.FRAC : Fld := ⟨R.RTC_SET_FRAC, 0, 15⟩
abbrev R.RTC_SET_SEC_HI : Nat := 0x0F001C
abbrev F.RTC_SET_SEC_HI.SEC : Fld := ⟨R.RTC_SET_SEC_HI, 0, 8⟩
abbrev R.RTC_SET_SEC_LO : Nat := 0x0F0020
abbrev F.RTC_SET_SEC_LO.SEC : Fld := ⟨R.RTC_SET_SEC_LO, 0, 32⟩
abbrev R.RTC_CAL : Nat := 0x0F0024
abbrev F.RTC_CAL.CAL : Fld := ⟨R.RTC_CAL, 0, 9⟩
abbrev R.RTC_TRK_CNT : Nat := 0x0F0028
abbrev F.RTC_TRK_CNT.COUNT : Fld := ⟨R.RTC_TRK_CNT, 0, 32⟩
abbrev R.RTC_BKTS_SEC : Nat := 0x0F002C
abbrev F.RTC_BKTS_SEC.SEC : Fld := ⟨R.RTC_BKTS_SEC, 0, 32⟩
abbrev R.RTC_BKTS_HI : Nat := 0x0F0030
abbrev F.RTC_BKTS_HI.SEC : Fld := ⟨R.RTC_BKTS_HI, 0, 8⟩
abbrev F.RTC_BKTS_HI.FRAC : Fld := ⟨R.RTC_BKTS_HI, 8, 15⟩
abbrev F.RTC_BKTS_HI.VALID : Fld := ⟨R.RTC_BKTS_HI, 31, 1⟩
abbrev R.RTC_BKCNT : Nat := 0x0F0034
abbrev F.RTC_BKCNT.COUNT : Fld := ⟨R.RTC_BKCNT, 0, 32⟩
abbrev R.ALMn_CTRL (n : Nat) : Nat := 0x0F0040 + 0x20 * n
abbrev F.ALMn_CTRL.EN (n : Nat) : Fld := ⟨R.ALMn_CTRL n, 0, 1⟩
abbrev F.ALMn_CTRL.CATCHUP (n : Nat) : Fld := ⟨R.ALMn_CTRL n, 1, 1⟩
abbrev F.ALMn_CTRL.ONESHOT (n : Nat) : Fld := ⟨R.ALMn_CTRL n, 2, 1⟩
abbrev R.ALMn_STAT (n : Nat) : Nat := 0x0F0044 + 0x20 * n
abbrev F.ALMn_STAT.FIRED (n : Nat) : Fld := ⟨R.ALMn_STAT n, 0, 1⟩
abbrev F.ALMn_STAT.SKIP (n : Nat) : Fld := ⟨R.ALMn_STAT n, 1, 1⟩
abbrev F.ALMn_STAT.SPENT (n : Nat) : Fld := ⟨R.ALMn_STAT n, 2, 1⟩
abbrev R.ALMn_SEC_LO (n : Nat) : Nat := 0x0F0048 + 0x20 * n
abbrev F.ALMn_SEC_LO.SEC (n : Nat) : Fld := ⟨R.ALMn_SEC_LO n, 0, 32⟩
abbrev R.ALMn_SEC_HI (n : Nat) : Nat := 0x0F004C + 0x20 * n
abbrev F.ALMn_SEC_HI.SEC (n : Nat) : Fld := ⟨R.ALMn_SEC_HI n, 0, 8⟩
abbrev R.ALMn_MASK_LO (n : Nat) : Nat := 0x0F0050 + 0x20 * n
abbrev F.ALMn_MASK_LO.MASK (n : Nat) : Fld := ⟨R.ALMn_MASK_LO n, 0, 32⟩
abbrev R.ALMn_MASK_HI (n : Nat) : Nat := 0x0F0054 + 0x20 * n
abbrev F.ALMn_MASK_HI.MASK (n : Nat) : Fld := ⟨R.ALMn_MASK_HI n, 0, 8⟩
/- SAF block (R438). -/
abbrev R.SAF_CTRL : Nat := 0x100000
abbrev F.SAF_CTRL.REL_SF1 : Fld := ⟨R.SAF_CTRL, 0, 1⟩
abbrev F.SAF_CTRL.REL_SF2 : Fld := ⟨R.SAF_CTRL, 1, 1⟩
abbrev F.SAF_CTRL.REL_SF3 : Fld := ⟨R.SAF_CTRL, 2, 1⟩
abbrev F.SAF_CTRL.REL_SF4 : Fld := ⟨R.SAF_CTRL, 3, 1⟩
abbrev R.SAF_STAT : Nat := 0x100004
abbrev F.SAF_STAT.SF_AVAIL : Fld := ⟨R.SAF_STAT, 0, 4⟩
abbrev F.SAF_STAT.SF_SAFE : Fld := ⟨R.SAF_STAT, 4, 4⟩
abbrev F.SAF_STAT.GAUNTLET_OK : Fld := ⟨R.SAF_STAT, 8, 1⟩
abbrev F.SAF_STAT.WDOG : Fld := ⟨R.SAF_STAT, 9, 1⟩
abbrev F.SAF_STAT.ALARM : Fld := ⟨R.SAF_STAT, 10, 1⟩
abbrev R.SAF_ERR : Nat := 0x100008
abbrev F.SAF_ERR.RANGE : Fld := ⟨R.SAF_ERR, 0, 1⟩
abbrev F.SAF_ERR.HB_WR : Fld := ⟨R.SAF_ERR, 1, 1⟩
abbrev F.SAF_ERR.REL_REJ : Fld := ⟨R.SAF_ERR, 2, 1⟩
abbrev R.SAF_CFG : Nat := 0x10000C
abbrev F.SAF_CFG.SF1_SAFE : Fld := ⟨R.SAF_CFG, 0, 1⟩
abbrev F.SAF_CFG.START_ALM : Fld := ⟨R.SAF_CFG, 1, 1⟩
abbrev F.SAF_CFG.WD_DELAY : Fld := ⟨R.SAF_CFG, 16, 16⟩
abbrev R.SAF_CX_STAT : Nat := 0x100010
abbrev F.SAF_CX_STAT.CXA : Fld := ⟨R.SAF_CX_STAT, 0, 2⟩
abbrev F.SAF_CX_STAT.CXB : Fld := ⟨R.SAF_CX_STAT, 4, 2⟩
abbrev F.SAF_CX_STAT.RDYA : Fld := ⟨R.SAF_CX_STAT, 2, 1⟩
abbrev F.SAF_CX_STAT.RDYB : Fld := ⟨R.SAF_CX_STAT, 6, 1⟩
abbrev F.SAF_CX_STAT.NOACT : Fld := ⟨R.SAF_CX_STAT, 8, 1⟩
abbrev R.SAF_HBn_CHAL (n : Nat) : Nat := 0x100014 + 0x8 * n
abbrev F.SAF_HBn_CHAL.C (n : Nat) : Fld := ⟨R.SAF_HBn_CHAL n, 0, 16⟩
abbrev R.SAF_HBn_RESP (n : Nat) : Nat := 0x100018 + 0x8 * n
abbrev F.SAF_HBn_RESP.RESP (n : Nat) : Fld := ⟨R.SAF_HBn_RESP n, 0, 32⟩
abbrev R.SAF_FLT_LAT : Nat := 0x100024
abbrev F.SAF_FLT_LAT.LAT : Fld := ⟨R.SAF_FLT_LAT, 0, 32⟩
abbrev R.SAF_ALARM : Nat := 0x100028
abbrev F.SAF_ALARM.FAULT : Fld := ⟨R.SAF_ALARM, 0, 1⟩
abbrev F.SAF_ALARM.START : Fld := ⟨R.SAF_ALARM, 1, 1⟩
abbrev F.SAF_ALARM.CFG : Fld := ⟨R.SAF_ALARM, 2, 1⟩
abbrev F.SAF_ALARM.TAMPER : Fld := ⟨R.SAF_ALARM, 3, 1⟩
abbrev F.SAF_ALARM.NOACT : Fld := ⟨R.SAF_ALARM, 4, 1⟩
abbrev F.SAF_ALARM.GAUNTLET : Fld := ⟨R.SAF_ALARM, 5, 1⟩
abbrev R.SAF_LOG_SEQ : Nat := 0x10002C
abbrev F.SAF_LOG_SEQ.SEQ : Fld := ⟨R.SAF_LOG_SEQ, 0, 32⟩
abbrev R.SAF_ECC_CE : Nat := 0x100030
abbrev F.SAF_ECC_CE.COUNT : Fld := ⟨R.SAF_ECC_CE, 0, 32⟩
abbrev R.SAF_ECC_UE : Nat := 0x100034
abbrev F.SAF_ECC_UE.COUNT : Fld := ⟨R.SAF_ECC_UE, 0, 32⟩
abbrev R.SAF_SCRUB_S : Nat := 0x100038
abbrev F.SAF_SCRUB_S.COUNT : Fld := ⟨R.SAF_SCRUB_S, 0, 32⟩
abbrev R.SAF_SCRUB_D : Nat := 0x10003C
abbrev F.SAF_SCRUB_D.COUNT : Fld := ⟨R.SAF_SCRUB_D, 0, 32⟩
abbrev R.SAF_CRC_CAP : Nat := 0x100040
abbrev F.SAF_CRC_CAP.CRC : Fld := ⟨R.SAF_CRC_CAP, 0, 32⟩
abbrev R.SAF_CRC_FULL : Nat := 0x100044
abbrev F.SAF_CRC_FULL.CRC : Fld := ⟨R.SAF_CRC_FULL, 0, 32⟩
abbrev R.SAF_TEMP : Nat := 0x100048
abbrev F.SAF_TEMP.T : Fld := ⟨R.SAF_TEMP, 0, 16⟩
abbrev R.SAF_TAB_ADDR (q : Nat) : Nat := 0x10004C + 0x1000000 * q
abbrev F.SAF_TAB_ADDR.ADDR (q : Nat) : Fld := ⟨R.SAF_TAB_ADDR q, 0, 10⟩
abbrev R.SAF_TAB_DATA : Nat := 0x100050
abbrev F.SAF_TAB_DATA.DATA : Fld := ⟨R.SAF_TAB_DATA, 0, 32⟩
abbrev R.SAFn_CFG (n : Nat) : Nat := 0x100080 + 0x4 * n
abbrev F.SAFn_CFG.ALARM (n : Nat) : Fld := ⟨R.SAFn_CFG n, 0, 1⟩
abbrev F.SAFn_CFG.SAFE (n : Nat) : Fld := ⟨R.SAFn_CFG n, 1, 4⟩
abbrev R.SAF_SF4n (n : Nat) : Nat := 0x100100 + 0x4 * n
abbrev F.SAF_SF4n.SF4 (n : Nat) : Fld := ⟨R.SAF_SF4n n, 0, 32⟩
/- KEY block (R464). -/
abbrev R.KEY_STAT : Nat := 0x110000
abbrev F.KEY_STAT.LC : Fld := ⟨R.KEY_STAT, 0, 3⟩
abbrev F.KEY_STAT.ROOT : Fld := ⟨R.KEY_STAT, 3, 1⟩
abbrev F.KEY_STAT.DTK : Fld := ⟨R.KEY_STAT, 4, 1⟩
abbrev F.KEY_STAT.BUSY : Fld := ⟨R.KEY_STAT, 5, 1⟩
abbrev F.KEY_STAT.DEBUG : Fld := ⟨R.KEY_STAT, 6, 1⟩
abbrev F.KEY_STAT.ARMED : Fld := ⟨R.KEY_STAT, 7, 1⟩
abbrev F.KEY_STAT.PREC : Fld := ⟨R.KEY_STAT, 8, 2⟩
abbrev F.KEY_STAT.PREC_VALID : Fld := ⟨R.KEY_STAT, 10, 1⟩
abbrev F.KEY_STAT.ENT_OK : Fld := ⟨R.KEY_STAT, 11, 1⟩
abbrev F.KEY_STAT.OVL_USED : Fld := ⟨R.KEY_STAT, 16, 9⟩
abbrev R.KEY_ERR : Nat := 0x110004
abbrev F.KEY_ERR.ENTROPY : Fld := ⟨R.KEY_ERR, 0, 1⟩
abbrev F.KEY_ERR.UNWRAP : Fld := ⟨R.KEY_ERR, 1, 1⟩
abbrev F.KEY_ERR.OVL : Fld := ⟨R.KEY_ERR, 2, 1⟩
abbrev F.KEY_ERR.MSG : Fld := ⟨R.KEY_ERR, 3, 1⟩
abbrev F.KEY_ERR.RANGE : Fld := ⟨R.KEY_ERR, 4, 1⟩
abbrev F.KEY_ERR.BUSY : Fld := ⟨R.KEY_ERR, 5, 1⟩
abbrev F.KEY_ERR.CMD_REJ : Fld := ⟨R.KEY_ERR, 6, 1⟩
abbrev R.KEY_CMD : Nat := 0x110008
abbrev F.KEY_CMD.GO : Fld := ⟨R.KEY_CMD, 0, 1⟩
abbrev F.KEY_CMD.GEN_DTK : Fld := ⟨R.KEY_CMD, 1, 1⟩
abbrev R.KEY_RES : Nat := 0x11000C
abbrev F.KEY_RES.CODE : Fld := ⟨R.KEY_RES, 0, 8⟩
abbrev F.KEY_RES.DONE : Fld := ⟨R.KEY_RES, 8, 1⟩
abbrev F.KEY_RES.OP : Fld := ⟨R.KEY_RES, 16, 8⟩
abbrev R.KEY_CTR : Nat := 0x110010
abbrev F.KEY_CTR.CTR : Fld := ⟨R.KEY_CTR, 0, 32⟩
abbrev R.KEY_MSG_ADDR : Nat := 0x110014
abbrev F.KEY_MSG_ADDR.ADDR : Fld := ⟨R.KEY_MSG_ADDR, 0, 12⟩
abbrev R.KEY_MSG_DATA : Nat := 0x110018
abbrev F.KEY_MSG_DATA.DATA : Fld := ⟨R.KEY_MSG_DATA, 0, 32⟩
abbrev R.KEY_TAMP : Nat := 0x11001C
abbrev F.KEY_TAMP.ACT : Fld := ⟨R.KEY_TAMP, 0, 5⟩
abbrev F.KEY_TAMP.LAT : Fld := ⟨R.KEY_TAMP, 8, 5⟩
abbrev R.KEY_TLOG_SEQ : Nat := 0x110020
abbrev F.KEY_TLOG_SEQ.SEQ : Fld := ⟨R.KEY_TLOG_SEQ, 0, 32⟩
abbrev R.KEY_HIT_CNT : Nat := 0x110024
abbrev F.KEY_HIT_CNT.COUNT : Fld := ⟨R.KEY_HIT_CNT, 0, 32⟩
abbrev R.KEY_MISS_CNT : Nat := 0x110028
abbrev F.KEY_MISS_CNT.COUNT : Fld := ⟨R.KEY_MISS_CNT, 0, 32⟩
abbrev R.KEY_UNWRAP_ERR : Nat := 0x11002C
abbrev F.KEY_UNWRAP_ERR.COUNT : Fld := ⟨R.KEY_UNWRAP_ERR, 0, 32⟩
abbrev R.KEY_TAB_ADDR (q : Nat) : Nat := 0x110030 + 0x1000000 * q
abbrev F.KEY_TAB_ADDR.ADDR (q : Nat) : Fld := ⟨R.KEY_TAB_ADDR q, 0, 19⟩
abbrev R.KEY_TAB_DATA : Nat := 0x110034
abbrev F.KEY_TAB_DATA.DATA : Fld := ⟨R.KEY_TAB_DATA, 0, 32⟩
abbrev R.KEY_SLOTn (n : Nat) : Nat := 0x110040 + 0x4 * n
abbrev F.KEY_SLOTn.KEY_ID (n : Nat) : Fld := ⟨R.KEY_SLOTn n, 0, 16⟩
abbrev F.KEY_SLOTn.VALID (n : Nat) : Fld := ⟨R.KEY_SLOTn n, 16, 1⟩
abbrev F.KEY_SLOTn.PIN (n : Nat) : Fld := ⟨R.KEY_SLOTn n, 17, 1⟩
abbrev F.KEY_SLOTn.BUSY (n : Nat) : Fld := ⟨R.KEY_SLOTn n, 18, 1⟩
abbrev F.KEY_SLOTn.USAGE (n : Nat) : Fld := ⟨R.KEY_SLOTn n, 19, 2⟩
/- UPD block (R486). -/
abbrev R.UPD_CMD : Nat := 0x120000
abbrev F.UPD_CMD.CMD : Fld := ⟨R.UPD_CMD, 0, 4⟩
abbrev R.UPD_STAT : Nat := 0x120004
abbrev F.UPD_STAT.PSTATE : Fld := ⟨R.UPD_STAT, 0, 3⟩
abbrev F.UPD_STAT.TYPE : Fld := ⟨R.UPD_STAT, 3, 1⟩
abbrev F.UPD_STAT.BUSY : Fld := ⟨R.UPD_STAT, 4, 1⟩
abbrev F.UPD_STAT.HSTATE : Fld := ⟨R.UPD_STAT, 5, 3⟩
abbrev F.UPD_STAT.PFW_HOLD : Fld := ⟨R.UPD_STAT, 8, 1⟩
abbrev F.UPD_STAT.NOFW : Fld := ⟨R.UPD_STAT, 9, 1⟩
abbrev R.UPD_ERR : Nat := 0x120008
abbrev F.UPD_ERR.HDR : Fld := ⟨R.UPD_ERR, 0, 1⟩
abbrev F.UPD_ERR.CHUNK : Fld := ⟨R.UPD_ERR, 1, 1⟩
abbrev F.UPD_ERR.NAND : Fld := ⟨R.UPD_ERR, 2, 1⟩
abbrev F.UPD_ERR.FLASH : Fld := ⟨R.UPD_ERR, 3, 1⟩
abbrev F.UPD_ERR.PROB_FAIL : Fld := ⟨R.UPD_ERR, 4, 1⟩
abbrev F.UPD_ERR.PROB_RESET : Fld := ⟨R.UPD_ERR, 5, 1⟩
abbrev F.UPD_ERR.NOFW : Fld := ⟨R.UPD_ERR, 6, 1⟩
abbrev F.UPD_ERR.RANGE : Fld := ⟨R.UPD_ERR, 7, 1⟩
abbrev R.UPD_RES : Nat := 0x12000C
abbrev F.UPD_RES.CODE : Fld := ⟨R.UPD_RES, 0, 8⟩
abbrev F.UPD_RES.DONE : Fld := ⟨R.UPD_RES, 8, 1⟩
abbrev F.UPD_RES.CMD : Fld := ⟨R.UPD_RES, 12, 4⟩
abbrev R.UPD_CFG : Nat := 0x120010
abbrev F.UPD_CFG.AUTO_HO : Fld := ⟨R.UPD_CFG, 0, 1⟩
abbrev F.UPD_CFG.UART_EN : Fld := ⟨R.UPD_CFG, 1, 1⟩
abbrev F.UPD_CFG.BAUD : Fld := ⟨R.UPD_CFG, 2, 3⟩
abbrev R.UPD_SHADOW_N : Nat := 0x120014
abbrev F.UPD_SHADOW_N.N : Fld := ⟨R.UPD_SHADOW_N, 0, 16⟩
abbrev R.UPD_PROB_S : Nat := 0x120018
abbrev F.UPD_PROB_S.S : Fld := ⟨R.UPD_PROB_S, 0, 20⟩
abbrev R.UPD_PROB_MASK : Nat := 0x12001C
abbrev F.UPD_PROB_MASK.MASK : Fld := ⟨R.UPD_PROB_MASK, 0, 32⟩
abbrev R.UPD_PKG_ID : Nat := 0x120020
abbrev F.UPD_PKG_ID.VALUE : Fld := ⟨R.UPD_PKG_ID, 0, 32⟩
abbrev R.UPD_PKG_GEN : Nat := 0x120024
abbrev F.UPD_PKG_GEN.VALUE : Fld := ⟨R.UPD_PKG_GEN, 0, 32⟩
abbrev R.UPD_CHUNKS : Nat := 0x120028
abbrev F.UPD_CHUNKS.COUNT : Fld := ⟨R.UPD_CHUNKS, 0, 17⟩
abbrev R.UPD_RECVD : Nat := 0x12002C
abbrev F.UPD_RECVD.COUNT : Fld := ⟨R.UPD_RECVD, 0, 17⟩
abbrev R.UPD_NEED : Nat := 0x120030
abbrev F.UPD_NEED.COUNT : Fld := ⟨R.UPD_NEED, 0, 17⟩
abbrev R.UPD_CHK_IDX : Nat := 0x120034
abbrev F.UPD_CHK_IDX.IDX : Fld := ⟨R.UPD_CHK_IDX, 0, 17⟩
abbrev R.UPD_BUF_ADDR : Nat := 0x120038
abbrev F.UPD_BUF_ADDR.ADDR : Fld := ⟨R.UPD_BUF_ADDR, 0, 10⟩
abbrev R.UPD_BUF_DATA : Nat := 0x12003C
abbrev F.UPD_BUF_DATA.DATA : Fld := ⟨R.UPD_BUF_DATA, 0, 32⟩
abbrev R.UPD_FW_GEN : Nat := 0x120040
abbrev F.UPD_FW_GEN.GEN : Fld := ⟨R.UPD_FW_GEN, 0, 32⟩
abbrev R.UPD_SB_GEN : Nat := 0x120044
abbrev F.UPD_SB_GEN.GEN : Fld := ⟨R.UPD_SB_GEN, 0, 32⟩
abbrev R.UPD_FW_FLOOR : Nat := 0x120048
abbrev F.UPD_FW_FLOOR.FLOOR : Fld := ⟨R.UPD_FW_FLOOR, 0, 6⟩
abbrev R.UPD_SHD_CNT : Nat := 0x12004C
abbrev F.UPD_SHD_CNT.COUNT : Fld := ⟨R.UPD_SHD_CNT, 0, 32⟩
abbrev R.UPD_SHD_WR : Nat := 0x120050
abbrev F.UPD_SHD_WR.COUNT : Fld := ⟨R.UPD_SHD_WR, 0, 32⟩
abbrev R.UPD_PROB_LEFT : Nat := 0x120054
abbrev F.UPD_PROB_LEFT.S : Fld := ⟨R.UPD_PROB_LEFT, 0, 20⟩
abbrev R.UPD_HO_CNT : Nat := 0x120058
abbrev F.UPD_HO_CNT.COUNT : Fld := ⟨R.UPD_HO_CNT, 0, 32⟩
abbrev R.UPD_HO_US : Nat := 0x12005C
abbrev F.UPD_HO_US.US : Fld := ⟨R.UPD_HO_US, 0, 16⟩
abbrev R.UPD_DUP_CNT : Nat := 0x120060
abbrev F.UPD_DUP_CNT.COUNT : Fld := ⟨R.UPD_DUP_CNT, 0, 32⟩
abbrev R.UPD_HASH_CNT : Nat := 0x120064
abbrev F.UPD_HASH_CNT.COUNT : Fld := ⟨R.UPD_HASH_CNT, 0, 32⟩
abbrev R.UPD_UART_CNT : Nat := 0x120068
abbrev F.UPD_UART_CNT.COUNT : Fld := ⟨R.UPD_UART_CNT, 0, 32⟩
abbrev R.UPD_UART_ERR : Nat := 0x12006C
abbrev F.UPD_UART_ERR.COUNT : Fld := ⟨R.UPD_UART_ERR, 0, 32⟩
abbrev R.UPD_TAB_ADDR (q : Nat) : Nat := 0x120070 + 0x1000000 * q
abbrev F.UPD_TAB_ADDR.ADDR (q : Nat) : Fld := ⟨R.UPD_TAB_ADDR q, 0, 15⟩
abbrev R.UPD_TAB_DATA : Nat := 0x120074
abbrev F.UPD_TAB_DATA.DATA : Fld := ⟨R.UPD_TAB_DATA, 0, 32⟩
/- REC block (R502). -/
abbrev R.REC_CTRL : Nat := 0x130000
abbrev F.REC_CTRL.FLUSH : Fld := ⟨R.REC_CTRL, 0, 1⟩
abbrev R.REC_STAT : Nat := 0x130004
abbrev F.REC_STAT.RUN : Fld := ⟨R.REC_STAT, 0, 1⟩
abbrev F.REC_STAT.CHAN : Fld := ⟨R.REC_STAT, 1, 1⟩
abbrev F.REC_STAT.FLUSHING : Fld := ⟨R.REC_STAT, 2, 1⟩
abbrev F.REC_STAT.CLEARING : Fld := ⟨R.REC_STAT, 3, 1⟩
abbrev F.REC_STAT.FILL : Fld := ⟨R.REC_STAT, 16, 10⟩
abbrev R.REC_ERR : Nat := 0x130008
abbrev F.REC_ERR.ALLOC : Fld := ⟨R.REC_ERR, 0, 1⟩
abbrev F.REC_ERR.DROP : Fld := ⟨R.REC_ERR, 1, 1⟩
abbrev F.REC_ERR.NAND : Fld := ⟨R.REC_ERR, 2, 1⟩
abbrev F.REC_ERR.CLR_REJ : Fld := ⟨R.REC_ERR, 3, 1⟩
abbrev F.REC_ERR.RANGE : Fld := ⟨R.REC_ERR, 4, 1⟩
abbrev F.REC_ERR.OVERWRITE_HI : Fld := ⟨R.REC_ERR, 5, 1⟩
abbrev R.REC_CFG : Nat := 0x13000C
abbrev F.REC_CFG.FLUSH_SEV : Fld := ⟨R.REC_CFG, 0, 3⟩
abbrev F.REC_CFG.KEEP_SEV : Fld := ⟨R.REC_CFG, 3, 3⟩
abbrev F.REC_CFG.PROT_PCT : Fld := ⟨R.REC_CFG, 8, 8⟩
abbrev F.REC_CFG.COAL_MS : Fld := ⟨R.REC_CFG, 16, 16⟩
abbrev R.REC_FLUSH : Nat := 0x130010
abbrev F.REC_FLUSH.WMARK : Fld := ⟨R.REC_FLUSH, 0, 10⟩
abbrev F.REC_FLUSH.FLUSH_PER : Fld := ⟨R.REC_FLUSH, 16, 16⟩
abbrev R.REC_REG : Nat := 0x130014
abbrev F.REC_REG.GRAN : Fld := ⟨R.REC_REG, 0, 13⟩
abbrev R.REC_CLEAR : Nat := 0x130018
abbrev F.REC_CLEAR.KEY : Fld := ⟨R.REC_CLEAR, 0, 32⟩
abbrev R.REC_RSEQ : Nat := 0x13001C
abbrev F.REC_RSEQ.SEQ : Fld := ⟨R.REC_RSEQ, 0, 32⟩
abbrev R.REC_BSEQ_FIRST : Nat := 0x130020
abbrev F.REC_BSEQ_FIRST.SEQ : Fld := ⟨R.REC_BSEQ_FIRST, 0, 32⟩
abbrev R.REC_BSEQ_LAST : Nat := 0x130024
abbrev F.REC_BSEQ_LAST.SEQ : Fld := ⟨R.REC_BSEQ_LAST, 0, 32⟩
abbrev R.REC_CUR_SEQ : Nat := 0x130028
abbrev F.REC_CUR_SEQ.SEQ : Fld := ⟨R.REC_CUR_SEQ, 0, 32⟩
abbrev R.REC_CUR_STAT : Nat := 0x13002C
abbrev F.REC_CUR_STAT.READY : Fld := ⟨R.REC_CUR_STAT, 0, 1⟩
abbrev F.REC_CUR_STAT.GONE : Fld := ⟨R.REC_CUR_STAT, 1, 1⟩
abbrev F.REC_CUR_STAT.BUSY : Fld := ⟨R.REC_CUR_STAT, 2, 1⟩
abbrev F.REC_CUR_STAT.BADCRC : Fld := ⟨R.REC_CUR_STAT, 3, 1⟩
abbrev R.REC_CUR_ADDR : Nat := 0x130030
abbrev F.REC_CUR_ADDR.ADDR : Fld := ⟨R.REC_CUR_ADDR, 0, 12⟩
abbrev R.REC_CUR_DATA : Nat := 0x130034
abbrev F.REC_CUR_DATA.DATA : Fld := ⟨R.REC_CUR_DATA, 0, 32⟩
abbrev R.REC_TAB_ADDR (q : Nat) : Nat := 0x130038 + 0x1000000 * q
abbrev F.REC_TAB_ADDR.ADDR (q : Nat) : Fld := ⟨R.REC_TAB_ADDR q, 0, 16⟩
abbrev R.REC_TAB_DATA : Nat := 0x13003C
abbrev F.REC_TAB_DATA.DATA : Fld := ⟨R.REC_TAB_DATA, 0, 32⟩
abbrev R.REC_EVT_CNT : Nat := 0x130040
abbrev F.REC_EVT_CNT.COUNT : Fld := ⟨R.REC_EVT_CNT, 0, 32⟩
abbrev R.REC_INT_CNT : Nat := 0x130044
abbrev F.REC_INT_CNT.COUNT : Fld := ⟨R.REC_INT_CNT, 0, 32⟩
abbrev R.REC_DROP_CNT : Nat := 0x130048
abbrev F.REC_DROP_CNT.COUNT : Fld := ⟨R.REC_DROP_CNT, 0, 32⟩
abbrev R.REC_COAL_CNT : Nat := 0x13004C
abbrev F.REC_COAL_CNT.COUNT : Fld := ⟨R.REC_COAL_CNT, 0, 32⟩
abbrev R.REC_BLK_CNT : Nat := 0x130050
abbrev F.REC_BLK_CNT.COUNT : Fld := ⟨R.REC_BLK_CNT, 0, 32⟩
abbrev R.REC_RECLAIM_CNT : Nat := 0x130054
abbrev F.REC_RECLAIM_CNT.COUNT : Fld := ⟨R.REC_RECLAIM_CNT, 0, 32⟩
abbrev R.REC_NAND_ERR : Nat := 0x130058
abbrev F.REC_NAND_ERR.COUNT : Fld := ⟨R.REC_NAND_ERR, 0, 32⟩
/- Table memory HQC_PT (Table 3.5, R88): 4128 entries of 32 bytes at 0x0. -/
abbrev T.HQC_PT.EN (i : Nat) : Fld := ⟨tabKey 11 (0x0 + 32 * i), 0, 1⟩
abbrev T.HQC_PT.MODE (i : Nat) : Fld := ⟨tabKey 11 (0x0 + 32 * i), 1, 1⟩
abbrev T.HQC_PT.FSRC (i : Nat) : Fld := ⟨tabKey 11 (0x0 + 32 * i), 2, 2⟩
abbrev T.HQC_PT.METER_LOC (i : Nat) : Fld := ⟨tabKey 11 (0x0 + 32 * i), 4, 1⟩
abbrev T.HQC_PT.MEDIUM (i : Nat) : Fld := ⟨tabKey 11 (0x0 + 32 * i), 5, 3⟩
abbrev T.HQC_PT.PSRC (i : Nat) : Fld := ⟨tabKey 11 (0x0 + 32 * i), 8, 1⟩
abbrev T.HQC_PT.OFS_V (i : Nat) : Fld := ⟨tabKey 11 (0x4 + 32 * i), 0, 8⟩
abbrev T.HQC_PT.OFS_TF (i : Nat) : Fld := ⟨tabKey 11 (0x4 + 32 * i), 8, 8⟩
abbrev T.HQC_PT.OFS_TR (i : Nat) : Fld := ⟨tabKey 11 (0x4 + 32 * i), 16, 8⟩
abbrev T.HQC_PT.OFS_P (i : Nat) : Fld := ⟨tabKey 11 (0x4 + 32 * i), 24, 8⟩
abbrev T.HQC_PT.VOL_LSB (i : Nat) : Fld := ⟨tabKey 11 (0x8 + 32 * i), 0, 32⟩
abbrev T.HQC_PT.START_FLOW (i : Nat) : Fld := ⟨tabKey 11 (0xC + 32 * i), 0, 32⟩
abbrev T.HQC_PT.DT_MIN (i : Nat) : Fld := ⟨tabKey 11 (0x10 + 32 * i), 0, 16⟩
abbrev T.HQC_PT.P_FIX (i : Nat) : Fld := ⟨tabKey 11 (0x10 + 32 * i), 16, 16⟩
abbrev T.HQC_PT.MAX_FLOW (i : Nat) : Fld := ⟨tabKey 11 (0x14 + 32 * i), 0, 32⟩
abbrev T.HQC_PT.DI (i : Nat) : Fld := ⟨tabKey 11 (0x18 + 32 * i), 0, 5⟩
abbrev T.HQC_PT.AP (i : Nat) : Fld := ⟨tabKey 11 (0x18 + 32 * i), 5, 3⟩
/- Table memory SIO_STN (Table 4.9, R115): 4096 entries of 64 bytes at 0x0. -/
abbrev T.SIO_STN.EN (i : Nat) : Fld := ⟨tabKey 5 (0x0 + 64 * i), 0, 1⟩
abbrev T.SIO_STN.PORT (i : Nat) : Fld := ⟨tabKey 5 (0x0 + 64 * i), 1, 1⟩
abbrev T.SIO_STN.IPV6 (i : Nat) : Fld := ⟨tabKey 5 (0x0 + 64 * i), 2, 1⟩
abbrev T.SIO_STN.CAP (i : Nat) : Fld := ⟨tabKey 5 (0x0 + 64 * i), 3, 1⟩
abbrev T.SIO_STN.WD_OVR (i : Nat) : Fld := ⟨tabKey 5 (0x0 + 64 * i), 4, 4⟩
abbrev T.SIO_STN.FS_MISS (i : Nat) : Fld := ⟨tabKey 5 (0x0 + 64 * i), 8, 4⟩
abbrev T.SIO_STN.ERR_EN (i : Nat) : Fld := ⟨tabKey 5 (0x0 + 64 * i), 12, 1⟩
abbrev T.SIO_STN.ERR_TASK (i : Nat) : Fld := ⟨tabKey 5 (0x0 + 64 * i), 13, 6⟩
abbrev T.SIO_STN.PERIOD (i : Nat) : Fld := ⟨tabKey 5 (0x4 + 64 * i), 0, 16⟩
abbrev T.SIO_STN.IN_LEN (i : Nat) : Fld := ⟨tabKey 5 (0x4 + 64 * i), 16, 9⟩
abbrev T.SIO_STN.OUT_LEN (i : Nat) : Fld := ⟨tabKey 5 (0x8 + 64 * i), 0, 9⟩
abbrev T.SIO_STN.IN_PHASE (i : Nat) : Fld := ⟨tabKey 5 (0xC + 64 * i), 0, 24⟩
abbrev T.SIO_STN.OUT_PHASE (i : Nat) : Fld := ⟨tabKey 5 (0x10 + 64 * i), 0, 24⟩
abbrev T.SIO_STN.KEY_ID (i : Nat) : Fld := ⟨tabKey 5 (0x14 + 64 * i), 0, 16⟩
abbrev T.SIO_STN.SUB_FIRST (i : Nat) : Fld := ⟨tabKey 5 (0x18 + 64 * i), 0, 14⟩
abbrev T.SIO_STN.SUB_CNT (i : Nat) : Fld := ⟨tabKey 5 (0x18 + 64 * i), 14, 6⟩
abbrev T.SIO_STN.STN (i : Nat) : Fld := ⟨tabKey 5 (0x1C + 64 * i), 0, 12⟩
abbrev T.SIO_STN.ADDR (i : Nat) : Fld := ⟨tabKey 5 (0x20 + 64 * i), 0, 32⟩
abbrev T.SIO_STN.ADDR_9 (i : Nat) : Fld := ⟨tabKey 5 (0x24 + 64 * i), 0, 32⟩
abbrev T.SIO_STN.ADDR_10 (i : Nat) : Fld := ⟨tabKey 5 (0x28 + 64 * i), 0, 32⟩
abbrev T.SIO_STN.ADDR_11 (i : Nat) : Fld := ⟨tabKey 5 (0x2C + 64 * i), 0, 32⟩
/- Table memory SIO_SUB (Table 4.9, R115): 16384 entries of 8 bytes at 0x40000. -/
abbrev T.SIO_SUB.OFS (i : Nat) : Fld := ⟨tabKey 5 (0x40000 + 8 * i), 0, 8⟩
abbrev T.SIO_SUB.SIZE (i : Nat) : Fld := ⟨tabKey 5 (0x40000 + 8 * i), 8, 2⟩
abbrev T.SIO_SUB.POLICY (i : Nat) : Fld := ⟨tabKey 5 (0x40000 + 8 * i), 10, 2⟩
abbrev T.SIO_SUB.SENS (i : Nat) : Fld := ⟨tabKey 5 (0x40000 + 8 * i), 16, 14⟩
abbrev T.SIO_SUB.VALUE (i : Nat) : Fld := ⟨tabKey 5 (0x40004 + 8 * i), 0, 32⟩
/- Table memory PGR_TASK (Table 5.5, R135): 64 entries of 16 bytes at 0x0. -/
abbrev T.PGR_TASK.TYPE (i : Nat) : Fld := ⟨tabKey 4 (0x0 + 16 * i), 0, 2⟩
abbrev T.PGR_TASK.EN (i : Nat) : Fld := ⟨tabKey 4 (0x0 + 16 * i), 2, 1⟩
abbrev T.PGR_TASK.PRIO (i : Nat) : Fld := ⟨tabKey 4 (0x0 + 16 * i), 3, 3⟩
abbrev T.PGR_TASK.SRC (i : Nat) : Fld := ⟨tabKey 4 (0x0 + 16 * i), 6, 4⟩
abbrev T.PGR_TASK.FIRST (i : Nat) : Fld := ⟨tabKey 4 (0x4 + 16 * i), 0, 16⟩
abbrev T.PGR_TASK.LAST (i : Nat) : Fld := ⟨tabKey 4 (0x4 + 16 * i), 16, 16⟩
abbrev T.PGR_TASK.PERIOD (i : Nat) : Fld := ⟨tabKey 4 (0x8 + 16 * i), 0, 16⟩
abbrev T.PGR_TASK.PHASE (i : Nat) : Fld := ⟨tabKey 4 (0x8 + 16 * i), 16, 16⟩
abbrev T.PGR_TASK.SRC_IDX (i : Nat) : Fld := ⟨tabKey 4 (0xC + 16 * i), 0, 16⟩
/- Table memory PGR_REG (Table 5.5, R135): 256 entries of 8 bytes at 0x1000. -/
abbrev T.PGR_REG.BASE (i : Nat) : Fld := ⟨tabKey 4 (0x1000 + 8 * i), 0, 17⟩
abbrev T.PGR_REG.VALID (i : Nat) : Fld := ⟨tabKey 4 (0x1000 + 8 * i), 17, 1⟩
abbrev T.PGR_REG.OWNER (i : Nat) : Fld := ⟨tabKey 4 (0x1000 + 8 * i), 18, 2⟩
abbrev T.PGR_REG.SIZE (i : Nat) : Fld := ⟨tabKey 4 (0x1004 + 8 * i), 0, 13⟩
/- Table memory CYC_BLK (Table 6.2, R139): 65536 entries of 32 bytes at 0x0. -/
abbrev T.CYC_BLK.TYPE (i : Nat) : Fld := ⟨tabKey 3 (0x0 + 32 * i), 0, 6⟩
abbrev T.CYC_BLK.EN (i : Nat) : Fld := ⟨tabKey 3 (0x0 + 32 * i), 6, 1⟩
abbrev T.CYC_BLK.IMM (i : Nat) : Fld := ⟨tabKey 3 (0x0 + 32 * i), 16, 16⟩
abbrev T.CYC_BLK.TAG (i : Nat) : Fld := ⟨tabKey 3 (0x4 + 32 * i), 0, 32⟩
abbrev T.CYC_BLK.IN0 (i : Nat) : Fld := ⟨tabKey 3 (0x8 + 32 * i), 0, 32⟩
abbrev T.CYC_BLK.IN1 (i : Nat) : Fld := ⟨tabKey 3 (0xC + 32 * i), 0, 32⟩
abbrev T.CYC_BLK.IN2 (i : Nat) : Fld := ⟨tabKey 3 (0x10 + 32 * i), 0, 32⟩
abbrev T.CYC_BLK.IN3 (i : Nat) : Fld := ⟨tabKey 3 (0x14 + 32 * i), 0, 32⟩
abbrev T.CYC_BLK.OUT (i : Nat) : Fld := ⟨tabKey 3 (0x18 + 32 * i), 0, 32⟩
abbrev T.CYC_BLK.PAR (i : Nat) : Fld := ⟨tabKey 3 (0x1C + 32 * i), 0, 19⟩
/- Table memory CYC_REC (Table 6.15, R153): 256 entries of 32 bytes at 0x400000. -/
abbrev T.CYC_REC.SEQ (i : Nat) : Fld := ⟨tabKey 3 (0x400000 + 32 * i), 0, 32⟩
abbrev T.CYC_REC.START_SEC (i : Nat) : Fld := ⟨tabKey 3 (0x400004 + 32 * i), 0, 32⟩
abbrev T.CYC_REC.START_NS (i : Nat) : Fld := ⟨tabKey 3 (0x400008 + 32 * i), 0, 30⟩
abbrev T.CYC_REC.DUR (i : Nat) : Fld := ⟨tabKey 3 (0x40000C + 32 * i), 0, 32⟩
abbrev T.CYC_REC.OVR (i : Nat) : Fld := ⟨tabKey 3 (0x400010 + 32 * i), 0, 1⟩
abbrev T.CYC_REC.STATION_INCONS (i : Nat) : Fld := ⟨tabKey 3 (0x400010 + 32 * i), 1, 1⟩
abbrev T.CYC_REC.EXCH (i : Nat) : Fld := ⟨tabKey 3 (0x400010 + 32 * i), 2, 1⟩
abbrev T.CYC_REC.MODEL_UNUSABLE (i : Nat) : Fld := ⟨tabKey 3 (0x400010 + 32 * i), 3, 1⟩
abbrev T.CYC_REC.ERRT (i : Nat) : Fld := ⟨tabKey 3 (0x400010 + 32 * i), 4, 1⟩
abbrev T.CYC_REC.ARITH (i : Nat) : Fld := ⟨tabKey 3 (0x400010 + 32 * i), 5, 1⟩
abbrev T.CYC_REC.FIRST (i : Nat) : Fld := ⟨tabKey 3 (0x400010 + 32 * i), 6, 1⟩
abbrev T.CYC_REC.UNDELIV (i : Nat) : Fld := ⟨tabKey 3 (0x400010 + 32 * i), 16, 16⟩
abbrev T.CYC_REC.STALL (i : Nat) : Fld := ⟨tabKey 3 (0x400014 + 32 * i), 0, 32⟩
abbrev T.CYC_REC.OTHER (i : Nat) : Fld := ⟨tabKey 3 (0x400018 + 32 * i), 0, 32⟩
abbrev T.CYC_REC.MODEL_SEQ (i : Nat) : Fld := ⟨tabKey 3 (0x40001C + 32 * i), 0, 32⟩
/- Table memory LPE_SLOT (Table 7.8, R201): 4096 entries of 128 bytes at 0x0. -/
abbrev T.LPE_SLOT.EN (i : Nat) : Fld := ⟨tabKey 6 (0x0 + 128 * i), 0, 1⟩
abbrev T.LPE_SLOT.ACT (i : Nat) : Fld := ⟨tabKey 6 (0x0 + 128 * i), 1, 1⟩
abbrev T.LPE_SLOT.DROP (i : Nat) : Fld := ⟨tabKey 6 (0x0 + 128 * i), 2, 2⟩
abbrev T.LPE_SLOT.AUTORET (i : Nat) : Fld := ⟨tabKey 6 (0x0 + 128 * i), 4, 1⟩
abbrev T.LPE_SLOT.GS_EN (i : Nat) : Fld := ⟨tabKey 6 (0x0 + 128 * i), 5, 1⟩
abbrev T.LPE_SLOT.GS_ASYM (i : Nat) : Fld := ⟨tabKey 6 (0x0 + 128 * i), 6, 1⟩
abbrev T.LPE_SLOT.GS_P (i : Nat) : Fld := ⟨tabKey 6 (0x0 + 128 * i), 7, 1⟩
abbrev T.LPE_SLOT.GS_I (i : Nat) : Fld := ⟨tabKey 6 (0x0 + 128 * i), 8, 1⟩
abbrev T.LPE_SLOT.INIT_MODE (i : Nat) : Fld := ⟨tabKey 6 (0x0 + 128 * i), 9, 2⟩
abbrev T.LPE_SLOT.SP_TRK (i : Nat) : Fld := ⟨tabKey 6 (0x0 + 128 * i), 11, 1⟩
abbrev T.LPE_SLOT.SP_SRC (i : Nat) : Fld := ⟨tabKey 6 (0x0 + 128 * i), 12, 2⟩
abbrev T.LPE_SLOT.MAN_SRC (i : Nat) : Fld := ⟨tabKey 6 (0x0 + 128 * i), 14, 1⟩
abbrev T.LPE_SLOT.LOOP_TAG (i : Nat) : Fld := ⟨tabKey 6 (0x4 + 128 * i), 0, 32⟩
abbrev T.LPE_SLOT.PERIOD (i : Nat) : Fld := ⟨tabKey 6 (0x8 + 128 * i), 0, 22⟩
abbrev T.LPE_SLOT.PHASE (i : Nat) : Fld := ⟨tabKey 6 (0xC + 128 * i), 0, 22⟩
abbrev T.LPE_SLOT.PV_SRC (i : Nat) : Fld := ⟨tabKey 6 (0x10 + 128 * i), 0, 4⟩
abbrev T.LPE_SLOT.PV_DTYPE (i : Nat) : Fld := ⟨tabKey 6 (0x10 + 128 * i), 4, 4⟩
abbrev T.LPE_SLOT.DEST (i : Nat) : Fld := ⟨tabKey 6 (0x10 + 128 * i), 8, 4⟩
abbrev T.LPE_SLOT.DEST_DTYPE (i : Nat) : Fld := ⟨tabKey 6 (0x10 + 128 * i), 12, 4⟩
abbrev T.LPE_SLOT.PL_SRC (i : Nat) : Fld := ⟨tabKey 6 (0x10 + 128 * i), 16, 2⟩
abbrev T.LPE_SLOT.PL_ACT (i : Nat) : Fld := ⟨tabKey 6 (0x10 + 128 * i), 18, 2⟩
abbrev T.LPE_SLOT.PL_N (i : Nat) : Fld := ⟨tabKey 6 (0x10 + 128 * i), 20, 4⟩
abbrev T.LPE_SLOT.LM (i : Nat) : Fld := ⟨tabKey 6 (0x10 + 128 * i), 24, 5⟩
abbrev T.LPE_SLOT.PV_ADDR (i : Nat) : Fld := ⟨tabKey 6 (0x14 + 128 * i), 0, 24⟩
abbrev T.LPE_SLOT.DEST_ADDR (i : Nat) : Fld := ⟨tabKey 6 (0x18 + 128 * i), 0, 24⟩
abbrev T.LPE_SLOT.PV_A (i : Nat) : Fld := ⟨tabKey 6 (0x1C + 128 * i), 0, 32⟩
abbrev T.LPE_SLOT.PV_B (i : Nat) : Fld := ⟨tabKey 6 (0x20 + 128 * i), 0, 32⟩
abbrev T.LPE_SLOT.OUT_C (i : Nat) : Fld := ⟨tabKey 6 (0x24 + 128 * i), 0, 32⟩
abbrev T.LPE_SLOT.OUT_D (i : Nat) : Fld := ⟨tabKey 6 (0x28 + 128 * i), 0, 32⟩
abbrev T.LPE_SLOT.KP (i : Nat) : Fld := ⟨tabKey 6 (0x2C + 128 * i), 0, 32⟩
abbrev T.LPE_SLOT.KI (i : Nat) : Fld := ⟨tabKey 6 (0x30 + 128 * i), 0, 32⟩
abbrev T.LPE_SLOT.KD (i : Nat) : Fld := ⟨tabKey 6 (0x34 + 128 * i), 0, 32⟩
abbrev T.LPE_SLOT.TF (i : Nat) : Fld := ⟨tabKey 6 (0x38 + 128 * i), 0, 32⟩
abbrev T.LPE_SLOT.DB (i : Nat) : Fld := ⟨tabKey 6 (0x3C + 128 * i), 0, 32⟩
abbrev T.LPE_SLOT.OUT_LO (i : Nat) : Fld := ⟨tabKey 6 (0x40 + 128 * i), 0, 32⟩
abbrev T.LPE_SLOT.OUT_HI (i : Nat) : Fld := ⟨tabKey 6 (0x44 + 128 * i), 0, 32⟩
abbrev T.LPE_SLOT.ROC (i : Nat) : Fld := ⟨tabKey 6 (0x48 + 128 * i), 0, 32⟩
abbrev T.LPE_SLOT.SP_LO (i : Nat) : Fld := ⟨tabKey 6 (0x4C + 128 * i), 0, 32⟩
abbrev T.LPE_SLOT.SP_HI (i : Nat) : Fld := ⟨tabKey 6 (0x50 + 128 * i), 0, 32⟩
abbrev T.LPE_SLOT.SP_INIT (i : Nat) : Fld := ⟨tabKey 6 (0x54 + 128 * i), 0, 32⟩
abbrev T.LPE_SLOT.SAFE_OUT (i : Nat) : Fld := ⟨tabKey 6 (0x58 + 128 * i), 0, 32⟩
abbrev T.LPE_SLOT.PL_TOL (i : Nat) : Fld := ⟨tabKey 6 (0x5C + 128 * i), 0, 32⟩
abbrev T.LPE_SLOT.KM (i : Nat) : Fld := ⟨tabKey 6 (0x60 + 128 * i), 0, 32⟩
abbrev T.LPE_SLOT.TM (i : Nat) : Fld := ⟨tabKey 6 (0x64 + 128 * i), 0, 32⟩
abbrev T.LPE_SLOT.TRIP (i : Nat) : Fld := ⟨tabKey 6 (0x68 + 128 * i), 0, 32⟩
abbrev T.LPE_SLOT.EXP_E (i : Nat) : Fld := ⟨tabKey 6 (0x6C + 128 * i), 0, 8⟩
abbrev T.LPE_SLOT.EXP_P (i : Nat) : Fld := ⟨tabKey 6 (0x6C + 128 * i), 8, 8⟩
abbrev T.LPE_SLOT.EXP_I (i : Nat) : Fld := ⟨tabKey 6 (0x6C + 128 * i), 16, 8⟩
abbrev T.LPE_SLOT.EXP_D (i : Nat) : Fld := ⟨tabKey 6 (0x6C + 128 * i), 24, 8⟩
abbrev T.LPE_SLOT.EXP_O (i : Nat) : Fld := ⟨tabKey 6 (0x70 + 128 * i), 0, 8⟩
abbrev T.LPE_SLOT.SPAN_SH (i : Nat) : Fld := ⟨tabKey 6 (0x70 + 128 * i), 8, 5⟩
abbrev T.LPE_SLOT.GS_TAB (i : Nat) : Fld := ⟨tabKey 6 (0x70 + 128 * i), 16, 8⟩
abbrev T.LPE_SLOT.CAS_SLOT (i : Nat) : Fld := ⟨tabKey 6 (0x74 + 128 * i), 0, 12⟩
abbrev T.LPE_SLOT.CAS_EN (i : Nat) : Fld := ⟨tabKey 6 (0x74 + 128 * i), 12, 1⟩
abbrev T.LPE_SLOT.GRP (i : Nat) : Fld := ⟨tabKey 6 (0x74 + 128 * i), 13, 8⟩
abbrev T.LPE_SLOT.GRP_EN (i : Nat) : Fld := ⟨tabKey 6 (0x74 + 128 * i), 21, 1⟩
abbrev T.LPE_SLOT.TRIP_EN (i : Nat) : Fld := ⟨tabKey 6 (0x74 + 128 * i), 22, 1⟩
abbrev T.LPE_SLOT.TRIP_DIR (i : Nat) : Fld := ⟨tabKey 6 (0x74 + 128 * i), 23, 1⟩
abbrev T.LPE_SLOT.TRIP_N (i : Nat) : Fld := ⟨tabKey 6 (0x74 + 128 * i), 24, 4⟩
abbrev T.LPE_SLOT.SAFETY (i : Nat) : Fld := ⟨tabKey 6 (0x74 + 128 * i), 28, 2⟩
abbrev T.LPE_SLOT.PL_SENS (i : Nat) : Fld := ⟨tabKey 6 (0x78 + 128 * i), 0, 14⟩
/- Table memory LPE_GAIN (Table 7.8, R201): 256 entries of 256 bytes at 0x80000. -/
abbrev T.LPE_GAIN.G (i j : Nat) : Fld := ⟨tabKey 6 (0x80000 + 256 * i + 4 * j), 0, 24⟩
/- Table memory CFG_CLOOP (Table 7.4, R197): 64 entries of 48 bytes at 0x800. -/
abbrev T.CFG_CLOOP.SLOT (i : Nat) : Fld := ⟨tabKey 2 (0x800 + 48 * i), 0, 12⟩
abbrev T.CFG_CLOOP.EN (i : Nat) : Fld := ⟨tabKey 2 (0x800 + 48 * i), 12, 1⟩
abbrev T.CFG_CLOOP.ACT (i : Nat) : Fld := ⟨tabKey 2 (0x800 + 48 * i), 13, 1⟩
abbrev T.CFG_CLOOP.PV_KIND (i : Nat) : Fld := ⟨tabKey 2 (0x800 + 48 * i), 14, 2⟩
abbrev T.CFG_CLOOP.PV_ADDR (i : Nat) : Fld := ⟨tabKey 2 (0x804 + 48 * i), 0, 24⟩
abbrev T.CFG_CLOOP.DEST_ADDR (i : Nat) : Fld := ⟨tabKey 2 (0x808 + 48 * i), 0, 24⟩
abbrev T.CFG_CLOOP.DEST_DTYPE (i : Nat) : Fld := ⟨tabKey 2 (0x808 + 48 * i), 24, 4⟩
abbrev T.CFG_CLOOP.PV_SCALE (i : Nat) : Fld := ⟨tabKey 2 (0x80C + 48 * i), 0, 32⟩
abbrev T.CFG_CLOOP.SP (i : Nat) : Fld := ⟨tabKey 2 (0x810 + 48 * i), 0, 32⟩
abbrev T.CFG_CLOOP.KP (i : Nat) : Fld := ⟨tabKey 2 (0x814 + 48 * i), 0, 32⟩
abbrev T.CFG_CLOOP.KIT (i : Nat) : Fld := ⟨tabKey 2 (0x818 + 48 * i), 0, 32⟩
abbrev T.CFG_CLOOP.OUT_LO (i : Nat) : Fld := ⟨tabKey 2 (0x81C + 48 * i), 0, 32⟩
abbrev T.CFG_CLOOP.OUT_HI (i : Nat) : Fld := ⟨tabKey 2 (0x820 + 48 * i), 0, 32⟩
abbrev T.CFG_CLOOP.OUT_INIT (i : Nat) : Fld := ⟨tabKey 2 (0x824 + 48 * i), 0, 32⟩
abbrev T.CFG_CLOOP.OUT_SCALE (i : Nat) : Fld := ⟨tabKey 2 (0x828 + 48 * i), 0, 32⟩
/- Table memory MPG_RA (Table 8.6, R222): 256 entries of 48 bytes at 0x0. -/
abbrev T.MPG_RA.EN (i : Nat) : Fld := ⟨tabKey 7 (0x0 + 48 * i), 0, 1⟩
abbrev T.MPG_RA.TGT_SRC (i : Nat) : Fld := ⟨tabKey 7 (0x0 + 48 * i), 1, 2⟩
abbrev T.MPG_RA.VMAX_SRC (i : Nat) : Fld := ⟨tabKey 7 (0x0 + 48 * i), 3, 1⟩
abbrev T.MPG_RA.FB_EN (i : Nat) : Fld := ⟨tabKey 7 (0x0 + 48 * i), 4, 1⟩
abbrev T.MPG_RA.FRAC_EN (i : Nat) : Fld := ⟨tabKey 7 (0x0 + 48 * i), 5, 1⟩
abbrev T.MPG_RA.SOFT_EN (i : Nat) : Fld := ⟨tabKey 7 (0x0 + 48 * i), 6, 1⟩
abbrev T.MPG_RA.STATION (i : Nat) : Fld := ⟨tabKey 7 (0x0 + 48 * i), 7, 12⟩
abbrev T.MPG_RA.OUT_OFS (i : Nat) : Fld := ⟨tabKey 7 (0x4 + 48 * i), 0, 8⟩
abbrev T.MPG_RA.FB_OFS (i : Nat) : Fld := ⟨tabKey 7 (0x4 + 48 * i), 8, 8⟩
abbrev T.MPG_RA.LEAD (i : Nat) : Fld := ⟨tabKey 7 (0x4 + 48 * i), 16, 16⟩
abbrev T.MPG_RA.VMAX (i : Nat) : Fld := ⟨tabKey 7 (0x8 + 48 * i), 0, 32⟩
abbrev T.MPG_RA.ACC (i : Nat) : Fld := ⟨tabKey 7 (0xC + 48 * i), 0, 32⟩
abbrev T.MPG_RA.DEC (i : Nat) : Fld := ⟨tabKey 7 (0x10 + 48 * i), 0, 32⟩
abbrev T.MPG_RA.JERK (i : Nat) : Fld := ⟨tabKey 7 (0x14 + 48 * i), 0, 32⟩
abbrev T.MPG_RA.DEC_EMG (i : Nat) : Fld := ⟨tabKey 7 (0x18 + 48 * i), 0, 32⟩
abbrev T.MPG_RA.SOFT_LO (i : Nat) : Fld := ⟨tabKey 7 (0x1C + 48 * i), 0, 32⟩
abbrev T.MPG_RA.SOFT_HI (i : Nat) : Fld := ⟨tabKey 7 (0x20 + 48 * i), 0, 32⟩
/- Table memory NSV_SENS (Table 9.10, R250): 16384 entries of 32 bytes at 0x0. -/
abbrev T.NSV_SENS.KIND (i : Nat) : Fld := ⟨tabKey 8 (0x0 + 32 * i), 0, 5⟩
abbrev T.NSV_SENS.LAYER (i : Nat) : Fld := ⟨tabKey 8 (0x0 + 32 * i), 5, 2⟩
abbrev T.NSV_SENS.SE_EN (i : Nat) : Fld := ⟨tabKey 8 (0x0 + 32 * i), 7, 1⟩
abbrev T.NSV_SENS.SRC (i : Nat) : Fld := ⟨tabKey 8 (0x0 + 32 * i), 8, 3⟩
abbrev T.NSV_SENS.DTYPE (i : Nat) : Fld := ⟨tabKey 8 (0x0 + 32 * i), 11, 4⟩
abbrev T.NSV_SENS.INV_EN (i : Nat) : Fld := ⟨tabKey 8 (0x0 + 32 * i), 15, 1⟩
abbrev T.NSV_SENS.ELEM (i : Nat) : Fld := ⟨tabKey 8 (0x0 + 32 * i), 16, 13⟩
abbrev T.NSV_SENS.ADDR (i : Nat) : Fld := ⟨tabKey 8 (0x4 + 32 * i), 0, 24⟩
abbrev T.NSV_SENS.A (i : Nat) : Fld := ⟨tabKey 8 (0x8 + 32 * i), 0, 32⟩
abbrev T.NSV_SENS.B (i : Nat) : Fld := ⟨tabKey 8 (0xC + 32 * i), 0, 32⟩
abbrev T.NSV_SENS.SIGMA (i : Nat) : Fld := ⟨tabKey 8 (0x10 + 32 * i), 0, 32⟩
abbrev T.NSV_SENS.K_T (i : Nat) : Fld := ⟨tabKey 8 (0x14 + 32 * i), 0, 32⟩
/- Table memory NSV_NODE (Table 9.10, R250): 8192 entries of 16 bytes at 0x80000. -/
abbrev T.NSV_NODE.TYPE (i : Nat) : Fld := ⟨tabKey 8 (0x80000 + 16 * i), 0, 2⟩
abbrev T.NSV_NODE.REF_SRC (i : Nat) : Fld := ⟨tabKey 8 (0x80000 + 16 * i), 2, 1⟩
abbrev T.NSV_NODE.INIT_T (i : Nat) : Fld := ⟨tabKey 8 (0x80000 + 16 * i), 16, 16⟩
abbrev T.NSV_NODE.Z (i : Nat) : Fld := ⟨tabKey 8 (0x80004 + 16 * i), 0, 32⟩
abbrev T.NSV_NODE.P (i : Nat) : Fld := ⟨tabKey 8 (0x80008 + 16 * i), 0, 32⟩
abbrev T.NSV_NODE.REF_SENS (i : Nat) : Fld := ⟨tabKey 8 (0x8000C + 16 * i), 0, 14⟩
/- Table memory NSV_BUS (Table 9.10, R250): 256 entries of 16 bytes at 0x100000. -/
abbrev T.NSV_BUS.TYPE (i : Nat) : Fld := ⟨tabKey 8 (0x100000 + 16 * i), 0, 2⟩
abbrev T.NSV_BUS.ZI (i : Nat) : Fld := ⟨tabKey 8 (0x100000 + 16 * i), 2, 1⟩
abbrev T.NSV_BUS.BASE_KV (i : Nat) : Fld := ⟨tabKey 8 (0x100004 + 16 * i), 0, 32⟩
abbrev T.NSV_BUS.INIT_V (i : Nat) : Fld := ⟨tabKey 8 (0x100008 + 16 * i), 0, 32⟩
/- Table memory NSV_MED (Table 9.10, R250): 64 entries of 16 bytes at 0x10C000. -/
abbrev T.NSV_MED.THETA (i : Nat) : Fld := ⟨tabKey 8 (0x10C000 + 16 * i), 0, 16⟩
abbrev T.NSV_MED.RHO (i : Nat) : Fld := ⟨tabKey 8 (0x10C004 + 16 * i), 0, 32⟩
abbrev T.NSV_MED.MU (i : Nat) : Fld := ⟨tabKey 8 (0x10C008 + 16 * i), 0, 32⟩
abbrev T.NSV_MED.CP (i : Nat) : Fld := ⟨tabKey 8 (0x10C00C + 16 * i), 0, 32⟩
/- Table memory NSV_BR (Table 9.11, R250): 12288 entries of 32 bytes at 0xA0000. -/
abbrev T.NSV_BR.TYPE (i : Nat) : Fld := ⟨tabKey 8 (0xA0000 + 32 * i), 0, 4⟩
abbrev T.NSV_BR.SET_SRC (i : Nat) : Fld := ⟨tabKey 8 (0xA0000 + 32 * i), 4, 1⟩
abbrev T.NSV_BR.CHAR (i : Nat) : Fld := ⟨tabKey 8 (0xA0000 + 32 * i), 5, 2⟩
abbrev T.NSV_BR.THM (i : Nat) : Fld := ⟨tabKey 8 (0xA0000 + 32 * i), 7, 1⟩
abbrev T.NSV_BR.SENS (i : Nat) : Fld := ⟨tabKey 8 (0xA0000 + 32 * i), 8, 14⟩
abbrev T.NSV_BR.CURVE (i : Nat) : Fld := ⟨tabKey 8 (0xA0000 + 32 * i), 22, 8⟩
abbrev T.NSV_BR.FROM (i : Nat) : Fld := ⟨tabKey 8 (0xA0004 + 32 * i), 0, 12⟩
abbrev T.NSV_BR.TO (i : Nat) : Fld := ⟨tabKey 8 (0xA0004 + 32 * i), 16, 12⟩
abbrev T.NSV_BR.P0 (i : Nat) : Fld := ⟨tabKey 8 (0xA0008 + 32 * i), 0, 32⟩
abbrev T.NSV_BR.P1 (i : Nat) : Fld := ⟨tabKey 8 (0xA000C + 32 * i), 0, 32⟩
abbrev T.NSV_BR.P2 (i : Nat) : Fld := ⟨tabKey 8 (0xA0010 + 32 * i), 0, 32⟩
abbrev T.NSV_BR.P3 (i : Nat) : Fld := ⟨tabKey 8 (0xA0014 + 32 * i), 0, 32⟩
abbrev T.NSV_BR.P4 (i : Nat) : Fld := ⟨tabKey 8 (0xA0018 + 32 * i), 0, 32⟩
abbrev T.NSV_BR.PLUG_N (i : Nat) : Fld := ⟨tabKey 8 (0xA001C + 32 * i), 0, 18⟩
/- Table memory NSV_EBR (Table 9.11, R250): 384 entries of 32 bytes at 0x101000. -/
abbrev T.NSV_EBR.EN (i : Nat) : Fld := ⟨tabKey 8 (0x101000 + 32 * i), 0, 1⟩
abbrev T.NSV_EBR.FROM (i : Nat) : Fld := ⟨tabKey 8 (0x101004 + 32 * i), 0, 8⟩
abbrev T.NSV_EBR.TO (i : Nat) : Fld := ⟨tabKey 8 (0x101004 + 32 * i), 8, 8⟩
abbrev T.NSV_EBR.R (i : Nat) : Fld := ⟨tabKey 8 (0x101008 + 32 * i), 0, 32⟩
abbrev T.NSV_EBR.X (i : Nat) : Fld := ⟨tabKey 8 (0x10100C + 32 * i), 0, 32⟩
abbrev T.NSV_EBR.B (i : Nat) : Fld := ⟨tabKey 8 (0x101010 + 32 * i), 0, 32⟩
abbrev T.NSV_EBR.TAP (i : Nat) : Fld := ⟨tabKey 8 (0x101014 + 32 * i), 0, 32⟩
/- Table memory DOP_BIND (Table 10.9, R280): 16384 entries of 32 bytes at 0x0. -/
abbrev T.DOP_BIND.DEST (i : Nat) : Fld := ⟨tabKey 9 (0x0 + 32 * i), 0, 2⟩
abbrev T.DOP_BIND.MAT (i : Nat) : Fld := ⟨tabKey 9 (0x0 + 32 * i), 2, 4⟩
abbrev T.DOP_BIND.SRC (i : Nat) : Fld := ⟨tabKey 9 (0x0 + 32 * i), 6, 2⟩
abbrev T.DOP_BIND.SYM (i : Nat) : Fld := ⟨tabKey 9 (0x0 + 32 * i), 8, 1⟩
abbrev T.DOP_BIND.ROW (i : Nat) : Fld := ⟨tabKey 9 (0x4 + 32 * i), 0, 12⟩
abbrev T.DOP_BIND.COL (i : Nat) : Fld := ⟨tabKey 9 (0x4 + 32 * i), 16, 10⟩
abbrev T.DOP_BIND.SRC_IDX (i : Nat) : Fld := ⟨tabKey 9 (0x8 + 32 * i), 0, 19⟩
abbrev T.DOP_BIND.C0 (i : Nat) : Fld := ⟨tabKey 9 (0xC + 32 * i), 0, 32⟩
abbrev T.DOP_BIND.C1 (i : Nat) : Fld := ⟨tabKey 9 (0x10 + 32 * i), 0, 32⟩
/- Table memory DOP_NB (Table 10.9, R280): 8 entries of 64 bytes at 0x80000. -/
abbrev T.DOP_NB.EN (i : Nat) : Fld := ⟨tabKey 9 (0x80000 + 64 * i), 0, 1⟩
abbrev T.DOP_NB.NV (i : Nat) : Fld := ⟨tabKey 9 (0x80000 + 64 * i), 1, 4⟩
abbrev T.DOP_NB.NODE (i : Nat) : Fld := ⟨tabKey 9 (0x80000 + 64 * i), 16, 12⟩
abbrev T.DOP_NB.ITIE_ID (i : Nat) : Fld := ⟨tabKey 9 (0x80004 + 64 * i), 0, 32⟩
abbrev T.DOP_NB.RHO (i : Nat) : Fld := ⟨tabKey 9 (0x80008 + 64 * i), 0, 32⟩
abbrev T.DOP_NB.PI_INIT (i : Nat) : Fld := ⟨tabKey 9 (0x8000C + 64 * i), 0, 32⟩
abbrev T.DOP_NB.VAR0 (i : Nat) : Fld := ⟨tabKey 9 (0x80010 + 64 * i), 0, 16⟩
abbrev T.DOP_NB.VAR1 (i : Nat) : Fld := ⟨tabKey 9 (0x80010 + 64 * i), 16, 16⟩
abbrev T.DOP_NB.VAR2 (i : Nat) : Fld := ⟨tabKey 9 (0x80014 + 64 * i), 0, 16⟩
abbrev T.DOP_NB.VAR3 (i : Nat) : Fld := ⟨tabKey 9 (0x80014 + 64 * i), 16, 16⟩
abbrev T.DOP_NB.VAR4 (i : Nat) : Fld := ⟨tabKey 9 (0x80018 + 64 * i), 0, 16⟩
abbrev T.DOP_NB.VAR5 (i : Nat) : Fld := ⟨tabKey 9 (0x80018 + 64 * i), 16, 16⟩
abbrev T.DOP_NB.VAR6 (i : Nat) : Fld := ⟨tabKey 9 (0x8001C + 64 * i), 0, 16⟩
abbrev T.DOP_NB.VAR7 (i : Nat) : Fld := ⟨tabKey 9 (0x8001C + 64 * i), 16, 16⟩
/- Table memory TRJ_CH (Table 10.11, R281): 512 entries of 32 bytes at 0x0. -/
abbrev T.TRJ_CH.EN (i : Nat) : Fld := ⟨tabKey 14 (0x0 + 32 * i), 0, 1⟩
abbrev T.TRJ_CH.KIND (i : Nat) : Fld := ⟨tabKey 14 (0x0 + 32 * i), 1, 2⟩
abbrev T.TRJ_CH.DTYPE (i : Nat) : Fld := ⟨tabKey 14 (0x0 + 32 * i), 3, 4⟩
abbrev T.TRJ_CH.TASK (i : Nat) : Fld := ⟨tabKey 14 (0x0 + 32 * i), 7, 1⟩
abbrev T.TRJ_CH.ADDR (i : Nat) : Fld := ⟨tabKey 14 (0x4 + 32 * i), 0, 25⟩
abbrev T.TRJ_CH.VAR (i : Nat) : Fld := ⟨tabKey 14 (0x8 + 32 * i), 0, 9⟩
abbrev T.TRJ_CH.SCALE (i : Nat) : Fld := ⟨tabKey 14 (0xC + 32 * i), 0, 32⟩
abbrev T.TRJ_CH.OFFSET (i : Nat) : Fld := ⟨tabKey 14 (0x10 + 32 * i), 0, 32⟩
abbrev T.TRJ_CH.ACT_TAG (i : Nat) : Fld := ⟨tabKey 14 (0x14 + 32 * i), 0, 16⟩
abbrev T.TRJ_CH.STALE (i : Nat) : Fld := ⟨tabKey 14 (0x14 + 32 * i), 16, 16⟩
abbrev T.TRJ_CH.CH_TAG (i : Nat) : Fld := ⟨tabKey 14 (0x18 + 32 * i), 0, 32⟩
/- Table memory CSB_GRP (Table 11.7, R303): 64 entries of 16 bytes at 0x0. -/
abbrev T.CSB_GRP.EN (i : Nat) : Fld := ⟨tabKey 12 (0x0 + 16 * i), 0, 1⟩
abbrev T.CSB_GRP.CLASS (i : Nat) : Fld := ⟨tabKey 12 (0x0 + 16 * i), 1, 2⟩
abbrev T.CSB_GRP.OUT_KIND (i : Nat) : Fld := ⟨tabKey 12 (0x0 + 16 * i), 3, 2⟩
abbrev T.CSB_GRP.ON_ALT (i : Nat) : Fld := ⟨tabKey 12 (0x0 + 16 * i), 5, 2⟩
abbrev T.CSB_GRP.RCL_KIND (i : Nat) : Fld := ⟨tabKey 12 (0x0 + 16 * i), 7, 2⟩
abbrev T.CSB_GRP.ACK_KIND (i : Nat) : Fld := ⟨tabKey 12 (0x0 + 16 * i), 9, 2⟩
abbrev T.CSB_GRP.OUT_ADDR (i : Nat) : Fld := ⟨tabKey 12 (0x4 + 16 * i), 0, 24⟩
abbrev T.CSB_GRP.RCL_ADDR (i : Nat) : Fld := ⟨tabKey 12 (0x8 + 16 * i), 0, 24⟩
abbrev T.CSB_GRP.ACK_ADDR (i : Nat) : Fld := ⟨tabKey 12 (0xC + 16 * i), 0, 24⟩
/- Table memory SAF_LOG (Table 17.7, R438): 64 entries of 16 bytes at 0x0. -/
abbrev T.SAF_LOG.SEQ (i : Nat) : Fld := ⟨tabKey 16 (0x0 + 16 * i), 0, 32⟩
abbrev T.SAF_LOG.SEC (i : Nat) : Fld := ⟨tabKey 16 (0x4 + 16 * i), 0, 32⟩
abbrev T.SAF_LOG.NS (i : Nat) : Fld := ⟨tabKey 16 (0x8 + 16 * i), 0, 30⟩
abbrev T.SAF_LOG.SRC (i : Nat) : Fld := ⟨tabKey 16 (0xC + 16 * i), 0, 8⟩
abbrev T.SAF_LOG.INDEX (i : Nat) : Fld := ⟨tabKey 16 (0xC + 16 * i), 8, 12⟩
abbrev T.SAF_LOG.SAFE (i : Nat) : Fld := ⟨tabKey 16 (0xC + 16 * i), 20, 4⟩
abbrev T.SAF_LOG.ALARM (i : Nat) : Fld := ⟨tabKey 16 (0xC + 16 * i), 24, 1⟩
abbrev T.SAF_LOG.TAKEOVER (i : Nat) : Fld := ⟨tabKey 16 (0xC + 16 * i), 25, 1⟩
abbrev T.SAF_LOG.WDOG (i : Nat) : Fld := ⟨tabKey 16 (0xC + 16 * i), 26, 1⟩
abbrev T.SAF_LOG.DEMAND (i : Nat) : Fld := ⟨tabKey 16 (0xC + 16 * i), 27, 1⟩
/- Table memory KEY_TLOG (Table 18.12, R464): 64 entries of 16 bytes at 0x60000. -/
abbrev T.KEY_TLOG.SEC (i : Nat) : Fld := ⟨tabKey 17 (0x60000 + 16 * i), 0, 32⟩
abbrev T.KEY_TLOG.SEC_HI (i : Nat) : Fld := ⟨tabKey 17 (0x60004 + 16 * i), 0, 8⟩
abbrev T.KEY_TLOG.FRAC (i : Nat) : Fld := ⟨tabKey 17 (0x60004 + 16 * i), 8, 15⟩
abbrev T.KEY_TLOG.SRC (i : Nat) : Fld := ⟨tabKey 17 (0x60008 + 16 * i), 0, 5⟩
abbrev T.KEY_TLOG.LC (i : Nat) : Fld := ⟨tabKey 17 (0x60008 + 16 * i), 5, 3⟩
abbrev T.KEY_TLOG.ON_BAT (i : Nat) : Fld := ⟨tabKey 17 (0x60008 + 16 * i), 8, 1⟩
abbrev T.KEY_TLOG.FIRST (i : Nat) : Fld := ⟨tabKey 17 (0x60008 + 16 * i), 9, 1⟩
abbrev T.KEY_TLOG.SEQ (i : Nat) : Fld := ⟨tabKey 17 (0x6000C + 16 * i), 0, 32⟩
/- Table memory REC_CH (Table 20.6, R502): 2048 entries of 32 bytes at 0x0. -/
abbrev T.REC_CH.EN (i : Nat) : Fld := ⟨tabKey 19 (0x0 + 32 * i), 0, 1⟩
abbrev T.REC_CH.SRC (i : Nat) : Fld := ⟨tabKey 19 (0x0 + 32 * i), 1, 3⟩
abbrev T.REC_CH.SEV (i : Nat) : Fld := ⟨tabKey 19 (0x0 + 32 * i), 4, 3⟩
abbrev T.REC_CH.SEV_OOR (i : Nat) : Fld := ⟨tabKey 19 (0x0 + 32 * i), 7, 3⟩
abbrev T.REC_CH.DTYPE (i : Nat) : Fld := ⟨tabKey 19 (0x0 + 32 * i), 10, 4⟩
abbrev T.REC_CH.ADDR (i : Nat) : Fld := ⟨tabKey 19 (0x4 + 32 * i), 0, 24⟩
abbrev T.REC_CH.PERIOD (i : Nat) : Fld := ⟨tabKey 19 (0x8 + 32 * i), 0, 16⟩
abbrev T.REC_CH.INTERVAL (i : Nat) : Fld := ⟨tabKey 19 (0xC + 32 * i), 0, 17⟩
abbrev T.REC_CH.LO (i : Nat) : Fld := ⟨tabKey 19 (0x10 + 32 * i), 0, 32⟩
abbrev T.REC_CH.HI (i : Nat) : Fld := ⟨tabKey 19 (0x14 + 32 * i), 0, 32⟩
abbrev T.REC_CH.A (i : Nat) : Fld := ⟨tabKey 19 (0x18 + 32 * i), 0, 32⟩
abbrev T.REC_CH.B (i : Nat) : Fld := ⟨tabKey 19 (0x1C + 32 * i), 0, 32⟩

end Sys2Proof.Machine
end

