-- ==== Sys2Proof/Machine/RegTable.lean ====
section
/-! DEFINITION. Every register word's fields with their access codes (R10, Table 0.3) and reset values, block by block, and the
same for the table memories, from the register tables of spec/. An offset no row lists is RSV (R504). -/
namespace Sys2Proof.Machine

/-- One row of a block's register summary: `cnt` registers at `stride` bytes from offset `off`. -/
structure RegRow where
  off : Nat
  cnt : Nat
  stride : Nat
  fields : List FieldDesc
deriving DecidableEq, Repr

/-- One field of a table row. -/
abbrev fd (lsb width : Nat) (acc : Acc) (reset : Nat) : FieldDesc := ⟨lsb, width, acc, reset⟩

def sysRows0 : List RegRow := [
  ⟨0x0, 1, 0, [fd 0 16 .ro 0x4280]⟩,
  ⟨0x4, 1, 0, [fd 0 8 .ro 1]⟩,
  ⟨0x8, 1, 0, [fd 0 32 .ro 0]⟩,
  ⟨0xC, 1, 0, [fd 0 32 .ro 0]⟩,
  ⟨0x10, 1, 0, [fd 6 1 .ro 1, fd 5 1 .ro 1, fd 4 1 .ro 1, fd 3 1 .ro 1, fd 2 1 .ro 1, fd 1 1 .ro 1, fd 0 1 .ro 1]⟩,
  ⟨0x14, 1, 0, [fd 0 1 .w1c 0, fd 1 1 .w1c 0, fd 2 1 .w1c 0, fd 3 1 .w1c 0, fd 4 1 .w1c 0, fd 5 1 .w1c 0]⟩,
  ⟨0x18, 1, 0, [fd 0 32 .ro 0]⟩,
  ⟨0x1C, 1, 0, [fd 0 32 .ro 0]⟩,
  ⟨0x20, 1, 0, [fd 0 3 .ro 0, fd 3 1 .ro 0]⟩,
  ⟨0x40, 1, 0, [fd 0 16 .rw 0xC008, fd 16 1 .rw 0, fd 17 1 .rw 0]⟩,
  ⟨0x44, 1, 0, [fd 0 32 .rw 0]⟩,
  ⟨0x48, 1, 0, [fd 0 32 .rw 0]⟩,
  ⟨0x4C, 1, 0, [fd 0 32 .rw 0]⟩,
  ⟨0x50, 1, 0, [fd 0 32 .rw 0]⟩,
  ⟨0x54, 1, 0, [fd 0 32 .rw 0]⟩,
  ⟨0x58, 1, 0, [fd 0 1 .ro 0, fd 1 3 .ro 0, fd 4 2 .ro 0]⟩,
  ⟨0x5C, 1, 0, [fd 0 32 .ro 0]⟩,
  ⟨0x100, 1, 0, [fd 0 32 .wo 0]⟩,
  ⟨0x104, 1, 0, [fd 0 1 .ro 0, fd 1 1 .ro 0, fd 2 1 .ro 0, fd 3 1 .ro 0, fd 4 1 .ro 0, fd 5 1 .ro 0, fd 16 1 .w1c 0]⟩,
  ⟨0x108, 1, 0, [fd 0 32 .ro 0]⟩,
  ⟨0x10C, 1, 0, [fd 0 3 .ro 0, fd 3 1 .ro 0, fd 4 1 .ro 0]⟩,
  ⟨0x110, 1, 0, [fd 0 32 .ro 0]⟩,
  ⟨0x114, 1, 0, [fd 0 32 .ro 0]⟩]

def pwrRows0 : List RegRow := [
  ⟨0x0, 1, 0, [fd 0 1 .ro 0, fd 1 1 .ro 0, fd 2 1 .ro 0, fd 3 1 .ro 0]⟩,
  ⟨0x4, 1, 0, [fd 0 1 .w1c 0, fd 1 1 .w1c 0, fd 2 1 .w1c 0]⟩,
  ⟨0x8, 1, 0, [fd 0 10 .rwl 0xFA]⟩,
  ⟨0xC, 1, 0, [fd 0 16 .ro 0]⟩,
  ⟨0x10, 1, 0, [fd 0 16 .ro 0]⟩,
  ⟨0x14, 1, 0, [fd 0 16 .ro 0]⟩,
  ⟨0x18, 1, 0, [fd 0 16 .rc 0xFFFF]⟩,
  ⟨0x1C, 1, 0, [fd 0 16 .ro 0]⟩,
  ⟨0x20, 1, 0, [fd 0 32 .ro 0]⟩,
  ⟨0x24, 1, 0, [fd 0 32 .ro 0]⟩]

def cfgRows0 : List RegRow := [
  ⟨0x0, 1, 0, [fd 0 1 .w1s 0]⟩,
  ⟨0x4, 1, 0, [fd 0 1 .ro 0, fd 1 1 .ro 0, fd 2 1 .ro 0, fd 3 1 .ro 0, fd 4 1 .ro 0, fd 5 1 .ro 0, fd 6 1 .ro 0, fd 8 8 .ro 0, fd 16 8 .ro 0]⟩,
  ⟨0x8, 1, 0, [fd 0 8 .ro 0, fd 8 8 .ro 0, fd 16 1 .ro 0]⟩,
  ⟨0xC, 1, 0, [fd 0 24 .ro 0, fd 24 4 .ro 0]⟩,
  ⟨0x10, 1, 0, [fd 0 32 .ro 0]⟩,
  ⟨0x14, 1, 0, [fd 0 32 .ro 0]⟩,
  ⟨0x18, 1, 0, [fd 0 1 .ro 0, fd 1 1 .ro 0, fd 2 1 .ro 0]⟩,
  ⟨0x1C, 1, 0, [fd 0 32 .ro 0]⟩,
  ⟨0x20, 2, 8, [fd 0 32 .ro 0]⟩,
  ⟨0x24, 2, 8, [fd 0 32 .ro 0]⟩,
  ⟨0x30, 1, 0, [fd 0 32 .ro 0]⟩,
  ⟨0x34, 1, 0, [fd 0 1 .ro 0, fd 8 8 .ro 0]⟩,
  ⟨0x38, 1, 0, [fd 0 13 .rw 0]⟩,
  ⟨0x3C, 1, 0, [fd 0 32 .ro 0]⟩]

def cycRows0 : List RegRow := [
  ⟨0x0, 1, 0, [fd 0 1 .w1s 0, fd 1 1 .w1s 0]⟩,
  ⟨0x4, 1, 0, [fd 0 3 .ro 0, fd 3 1 .ro 0, fd 8 8 .ro 0, fd 16 3 .ro 0]⟩,
  ⟨0x8, 1, 0, [fd 0 1 .w1c 0, fd 1 1 .w1c 0, fd 2 1 .w1c 0, fd 3 1 .w1c 0, fd 4 1 .w1c 0, fd 5 1 .w1c 0, fd 6 1 .w1c 0, fd 7 1 .w1c 0]⟩,
  ⟨0xC, 1, 0, [fd 0 24 .rwl 0x4E20]⟩,
  ⟨0x10, 1, 0, [fd 0 20 .rwl 0]⟩,
  ⟨0x14, 1, 0, [fd 0 8 .rwl 8]⟩,
  ⟨0x18, 1, 0, [fd 0 32 .ro 0]⟩,
  ⟨0x1C, 1, 0, [fd 0 32 .ro 0]⟩,
  ⟨0x20, 1, 0, [fd 0 32 .rc 0]⟩,
  ⟨0x24, 1, 0, [fd 0 32 .rc 0xFFFFFFFF]⟩,
  ⟨0x28, 1, 0, [fd 0 32 .ro 0]⟩,
  ⟨0x2C, 1, 0, [fd 0 32 .ro 0]⟩,
  ⟨0x30, 1, 0, [fd 0 32 .ro 0]⟩,
  ⟨0x34, 1, 0, [fd 0 17 .ro 0]⟩,
  ⟨0x38, 1, 0, [fd 0 32 .ro 0]⟩,
  ⟨0x3C, 1, 0, [fd 0 32 .ro 0]⟩,
  ⟨0x40, 1, 0, [fd 0 20 .ro 0]⟩,
  ⟨0x44, 1, 0, [fd 0 17 .ro 0]⟩,
  ⟨0x48, 1, 0, [fd 0 8 .ro 0]⟩,
  ⟨0x4C, 1, 0, [fd 0 19 .rwl 0]⟩,
  ⟨0x50, 1, 0, [fd 0 20 .rwl 0]⟩,
  ⟨0x54, 1, 0, [fd 0 23 .rw 0]⟩,
  ⟨0x58, 1, 0, [fd 0 32 .rw 0]⟩]

def pgrRows0 : List RegRow := [
  ⟨0x0, 1, 0, [fd 0 8 .rwl 0x40, fd 8 1 .rwl 0]⟩,
  ⟨0x4, 1, 0, [fd 0 1 .ro 0, fd 1 1 .ro 0, fd 2 1 .ro 0, fd 16 11 .ro 0]⟩,
  ⟨0x8, 1, 0, [fd 0 1 .w1c 0, fd 1 1 .w1c 0, fd 2 1 .w1c 0, fd 3 1 .w1c 0, fd 4 1 .w1c 0, fd 5 1 .w1c 0, fd 6 1 .w1c 0, fd 7 1 .w1c 0]⟩,
  ⟨0xC, 1, 0, [fd 0 6 .wo 0]⟩,
  ⟨0x10, 1, 0, [fd 0 32 .ro 0]⟩,
  ⟨0x14, 1, 0, [fd 0 32 .ro 0]⟩,
  ⟨0x18, 1, 0, [fd 0 32 .ro 0]⟩,
  ⟨0x1C, 1, 0, [fd 0 32 .ro 0]⟩,
  ⟨0x20, 1, 0, [fd 0 32 .ro 0]⟩,
  ⟨0x24, 1, 0, [fd 0 32 .ro 0]⟩,
  ⟨0x28, 1, 0, [fd 0 32 .ro 0]⟩,
  ⟨0x2C, 1, 0, [fd 0 32 .ro 0]⟩,
  ⟨0x30, 1, 0, [fd 0 16 .rc 0, fd 16 1 .rc 0]⟩,
  ⟨0x34, 1, 0, [fd 0 6 .rw 0]⟩,
  ⟨0x38, 1, 0, [fd 0 13 .rw 0]⟩,
  ⟨0x3C, 1, 0, [fd 0 32 .ro 0]⟩,
  ⟨0x40, 1, 0, [fd 0 17 .rwl 0]⟩,
  ⟨0x44, 1, 0, [fd 0 16 .rwl 0]⟩,
  ⟨0x48, 1, 0, [fd 0 16 .ro 0]⟩,
  ⟨0x4C, 1, 0, [fd 0 16 .ro 0]⟩,
  ⟨0x50, 2, 4, [fd 0 16 .rwl 0]⟩,
  ⟨0x58, 2, 4, [fd 0 16 .ro 0]⟩,
  ⟨0x60, 1, 0, [fd 0 10 .ro 0]⟩,
  ⟨0x80, 2, 4, [fd 0 32 .ro 0]⟩]

def pgrRows1 : List RegRow := [
  ⟨0x100, 1, 0, [fd 0 2 .ro 0, fd 2 1 .ro 0]⟩,
  ⟨0x104, 1, 0, [fd 0 32 .ro 0]⟩,
  ⟨0x108, 1, 0, [fd 0 32 .ro 0]⟩,
  ⟨0x10C, 1, 0, [fd 0 32 .ro 0]⟩,
  ⟨0x110, 1, 0, [fd 0 32 .ro 0]⟩,
  ⟨0x400, 128, 4, [fd 0 32 .ro 0]⟩]

def sioRows0 : List RegRow := [
  ⟨0x0, 1, 0, [fd 0 16 .rwl 0xBC8F]⟩,
  ⟨0x4, 1, 0, [fd 0 4 .rwl 3]⟩,
  ⟨0x8, 1, 0, [fd 0 1 .ro 0, fd 1 1 .ro 0, fd 2 1 .ro 0, fd 16 13 .ro 0]⟩,
  ⟨0xC, 1, 0, [fd 0 1 .w1c 0, fd 1 1 .w1c 0, fd 2 1 .w1c 0, fd 3 1 .w1c 0, fd 4 1 .w1c 0, fd 5 1 .w1c 0]⟩,
  ⟨0x10, 1, 0, [fd 0 32 .ro 0]⟩,
  ⟨0x14, 1, 0, [fd 0 12 .wo 0]⟩,
  ⟨0x18, 1, 0, [fd 0 12 .rw 0]⟩,
  ⟨0x1C, 1, 0, [fd 0 19 .rw 0]⟩,
  ⟨0x20, 1, 0, [fd 0 32 .ro 0]⟩,
  ⟨0x24, 1, 0, [fd 0 32 .ro 0]⟩,
  ⟨0x28, 1, 0, [fd 0 32 .ro 0]⟩,
  ⟨0x2C, 1, 0, [fd 0 32 .ro 0]⟩,
  ⟨0x30, 1, 0, [fd 0 32 .ro 0]⟩,
  ⟨0x40, 2, 32, [fd 0 1 .rwl 0, fd 1 1 .rwl 0, fd 2 3 .rwl 5, fd 16 12 .rwl 0]⟩,
  ⟨0x44, 2, 32, [fd 0 32 .rwl 0]⟩,
  ⟨0x48, 2, 32, [fd 0 32 .rwl 0]⟩,
  ⟨0x4C, 2, 32, [fd 0 32 .rwl 0]⟩,
  ⟨0x50, 2, 32, [fd 0 32 .rwl 0]⟩,
  ⟨0x54, 2, 32, [fd 0 32 .rwl 0]⟩,
  ⟨0x58, 2, 32, [fd 0 1 .ro 0]⟩,
  ⟨0x100, 1, 0, [fd 0 2 .ro 0, fd 2 1 .ro 0, fd 3 1 .ro 0, fd 4 4 .ro 0, fd 8 3 .ro 0]⟩,
  ⟨0x104, 1, 0, [fd 0 32 .ro 0]⟩,
  ⟨0x108, 1, 0, [fd 0 32 .ro 0]⟩,
  ⟨0x10C, 1, 0, [fd 0 32 .ro 0]⟩]

def sioRows1 : List RegRow := [
  ⟨0x110, 1, 0, [fd 0 30 .ro 0]⟩,
  ⟨0x114, 1, 0, [fd 0 32 .ro 0]⟩,
  ⟨0x118, 1, 0, [fd 0 30 .ro 0]⟩,
  ⟨0x11C, 1, 0, [fd 0 32 .ro 0]⟩,
  ⟨0x120, 1, 0, [fd 0 32 .ro 0]⟩,
  ⟨0x124, 1, 0, [fd 0 32 .ro 0]⟩,
  ⟨0x400, 128, 4, [fd 0 32 .ro 0]⟩]

def lpeRows0 : List RegRow := [
  ⟨0x0, 1, 0, [fd 0 1 .ro 0, fd 1 1 .ro 0, fd 2 1 .ro 0, fd 16 13 .ro 0]⟩,
  ⟨0x4, 1, 0, [fd 0 1 .w1c 0, fd 1 1 .w1c 0, fd 2 1 .w1c 0, fd 3 1 .w1c 0, fd 4 1 .w1c 0, fd 5 1 .w1c 0, fd 6 1 .w1c 0, fd 7 1 .w1c 0, fd 8 1 .w1c 0, fd 9 1 .w1c 0, fd 10 1 .w1c 0]⟩,
  ⟨0x8, 1, 0, [fd 0 32 .ro 0]⟩,
  ⟨0xC, 1, 0, [fd 0 12 .ro 0, fd 16 12 .ro 0]⟩,
  ⟨0x10, 1, 0, [fd 0 32 .rc 0]⟩,
  ⟨0x14, 1, 0, [fd 0 32 .ro 0]⟩,
  ⟨0x18, 1, 0, [fd 0 32 .ro 0]⟩,
  ⟨0x1C, 1, 0, [fd 0 32 .ro 0]⟩,
  ⟨0x20, 1, 0, [fd 0 12 .rw 0]⟩,
  ⟨0x24, 1, 0, [fd 0 20 .rw 0]⟩,
  ⟨0x28, 1, 0, [fd 0 32 .rw 0]⟩,
  ⟨0x2C, 1, 0, [fd 0 8 .wo 0]⟩,
  ⟨0x40, 8, 4, [fd 0 32 .ro 0]⟩,
  ⟨0x100, 1, 0, [fd 0 3 .rw 0]⟩,
  ⟨0x104, 1, 0, [fd 0 3 .ro 0, fd 3 1 .ro 0, fd 4 1 .ro 0, fd 5 1 .ro 0, fd 6 1 .ro 0, fd 7 1 .ro 0, fd 8 1 .ro 0, fd 9 1 .ro 0, fd 10 1 .ro 0, fd 11 1 .ro 0, fd 12 1 .ro 0, fd 13 1 .ro 0, fd 14 1 .ro 0, fd 15 1 .ro 0, fd 16 2 .ro 0, fd 18 4 .ro 0, fd 22 1 .ro 0]⟩,
  ⟨0x108, 1, 0, [fd 0 1 .w1c 0, fd 1 1 .w1c 0, fd 2 1 .ro 0]⟩,
  ⟨0x10C, 1, 0, [fd 0 32 .rw 0]⟩,
  ⟨0x110, 1, 0, [fd 0 32 .rw 0]⟩,
  ⟨0x114, 1, 0, [fd 0 32 .ro 0]⟩,
  ⟨0x118, 1, 0, [fd 0 32 .ro 0]⟩,
  ⟨0x11C, 1, 0, [fd 0 32 .ro 0]⟩,
  ⟨0x120, 1, 0, [fd 0 32 .ro 0]⟩,
  ⟨0x124, 1, 0, [fd 0 32 .ro 0]⟩,
  ⟨0x128, 1, 0, [fd 0 32 .ro 0]⟩]

def lpeRows1 : List RegRow := [
  ⟨0x12C, 1, 0, [fd 0 32 .ro 0]⟩,
  ⟨0x130, 1, 0, [fd 0 30 .ro 0]⟩,
  ⟨0x400, 128, 4, [fd 0 32 .ro 0]⟩]

def mpgRows0 : List RegRow := [
  ⟨0x0, 1, 0, [fd 0 1 .ro 0]⟩,
  ⟨0x4, 1, 0, [fd 0 1 .w1c 0, fd 1 1 .w1c 0, fd 2 1 .w1c 0, fd 3 1 .w1c 0, fd 4 1 .w1c 0, fd 5 1 .w1c 0, fd 6 1 .w1c 0]⟩,
  ⟨0x8, 1, 0, [fd 0 16 .ro 0, fd 16 16 .ro 0]⟩,
  ⟨0xC, 1, 0, [fd 0 8 .rw 0]⟩,
  ⟨0x10, 1, 0, [fd 0 14 .rw 0]⟩,
  ⟨0x14, 1, 0, [fd 0 32 .rw 0]⟩,
  ⟨0x100, 1, 0, [fd 0 3 .wo 0]⟩,
  ⟨0x104, 1, 0, [fd 0 32 .ro 0]⟩,
  ⟨0x108, 1, 0, [fd 0 32 .rw 0]⟩,
  ⟨0x10C, 1, 0, [fd 0 32 .ro 0]⟩,
  ⟨0x110, 1, 0, [fd 0 32 .ro 0]⟩,
  ⟨0x114, 1, 0, [fd 0 32 .ro 0]⟩,
  ⟨0x400, 16, 128, [fd 0 1 .rwl 0, fd 1 2 .rwl 0, fd 3 1 .rwl 0, fd 4 1 .rwl 0, fd 5 1 .rwl 0, fd 6 1 .rwl 0, fd 7 1 .rwl 0]⟩,
  ⟨0x404, 16, 128, [fd 0 3 .wo 0]⟩,
  ⟨0x408, 16, 128, [fd 0 4 .ro 0, fd 4 1 .ro 0, fd 5 1 .ro 0, fd 6 1 .ro 0, fd 7 1 .ro 0, fd 8 1 .ro 0, fd 9 1 .ro 0, fd 10 1 .ro 0, fd 11 1 .ro 0, fd 12 1 .ro 0, fd 13 1 .ro 0, fd 14 1 .ro 0, fd 15 1 .ro 0, fd 16 3 .ro 0]⟩,
  ⟨0x40C, 16, 128, [fd 0 32 .rw 0]⟩,
  ⟨0x410, 16, 128, [fd 0 32 .ro 0]⟩,
  ⟨0x414, 16, 128, [fd 0 16 .ro 0]⟩,
  ⟨0x418, 16, 128, [fd 0 32 .ro 0]⟩,
  ⟨0x41C, 16, 128, [fd 0 32 .ro 0]⟩,
  ⟨0x420, 16, 128, [fd 0 16 .ro 0]⟩,
  ⟨0x424, 16, 128, [fd 0 32 .rw 0]⟩,
  ⟨0x428, 16, 128, [fd 0 32 .rw 0]⟩,
  ⟨0x42C, 16, 128, [fd 0 32 .rw 0]⟩]

def mpgRows1 : List RegRow := [
  ⟨0x430, 16, 128, [fd 0 32 .rw 0]⟩,
  ⟨0x434, 16, 128, [fd 0 32 .rw 0]⟩,
  ⟨0x438, 16, 128, [fd 0 32 .rwl 0]⟩,
  ⟨0x43C, 16, 128, [fd 0 32 .rwl 0]⟩,
  ⟨0x440, 16, 128, [fd 0 14 .rwl 0, fd 14 1 .rwl 0, fd 15 1 .rwl 0, fd 16 1 .rwl 0, fd 17 1 .rwl 0, fd 18 1 .rwl 0]⟩,
  ⟨0x444, 16, 128, [fd 0 2 .rwl 0, fd 2 1 .rwl 0]⟩,
  ⟨0x448, 16, 128, [fd 0 32 .rw 0]⟩,
  ⟨0x44C, 16, 128, [fd 0 32 .rw 0]⟩,
  ⟨0x450, 16, 128, [fd 0 32 .rwl 0]⟩,
  ⟨0x454, 16, 128, [fd 0 32 .ro 0]⟩,
  ⟨0x458, 16, 128, [fd 0 10 .rwl 0x14, fd 10 10 .rwl 0x14]⟩]

def nsvRows0 : List RegRow := [
  ⟨0x0, 1, 0, [fd 0 1 .w1s 0, fd 1 1 .w1s 0]⟩,
  ⟨0x4, 1, 0, [fd 0 1 .ro 0, fd 1 1 .ro 0, fd 2 1 .ro 0, fd 3 1 .ro 0, fd 4 1 .ro 0, fd 5 1 .ro 0]⟩,
  ⟨0x8, 1, 0, [fd 0 1 .w1c 0, fd 1 1 .w1c 0, fd 2 1 .w1c 0, fd 3 1 .w1c 0, fd 4 1 .w1c 0, fd 5 1 .w1c 0, fd 6 1 .w1c 0, fd 7 1 .w1c 0]⟩,
  ⟨0xC, 1, 0, [fd 0 16 .rwl 0x3E8, fd 16 16 .rwl 0]⟩,
  ⟨0x10, 1, 0, [fd 0 4 .rwl 0xC, fd 4 4 .rwl 3, fd 8 1 .rwl 1, fd 16 8 .rwl 0x3C]⟩,
  ⟨0x14, 1, 0, [fd 0 32 .rwl 0x3C23D70A]⟩,
  ⟨0x18, 1, 0, [fd 0 32 .rwl 0x358637BD]⟩,
  ⟨0x1C, 1, 0, [fd 0 32 .rwl 0x40800000]⟩,
  ⟨0x20, 1, 0, [fd 0 32 .rwl 0x3A83126F]⟩,
  ⟨0x24, 1, 0, [fd 0 32 .rwl 0x447A0000]⟩,
  ⟨0x28, 1, 0, [fd 0 32 .rwl 0x41200000]⟩,
  ⟨0x2C, 1, 0, [fd 0 32 .rwl 0x41000000]⟩,
  ⟨0x30, 1, 0, [fd 0 32 .rwl 0x41000000]⟩,
  ⟨0x34, 1, 0, [fd 0 32 .ro 0]⟩,
  ⟨0x38, 1, 0, [fd 0 32 .ro 0]⟩,
  ⟨0x3C, 1, 0, [fd 0 30 .ro 0]⟩,
  ⟨0x40, 1, 0, [fd 0 32 .ro 0]⟩,
  ⟨0x44, 1, 0, [fd 0 32 .rc 0]⟩,
  ⟨0x48, 1, 0, [fd 0 32 .ro 0]⟩,
  ⟨0x4C, 1, 0, [fd 0 32 .ro 0]⟩,
  ⟨0x50, 1, 0, [fd 0 32 .ro 0]⟩,
  ⟨0x54, 1, 0, [fd 0 32 .ro 0]⟩,
  ⟨0x60, 3, 4, [fd 0 4 .ro 0, fd 4 1 .ro 0, fd 5 1 .ro 0, fd 6 1 .ro 0, fd 7 3 .ro 0, fd 10 1 .ro 0, fd 11 1 .ro 0, fd 16 8 .ro 0]⟩,
  ⟨0x80, 1, 0, [fd 0 21 .rw 0]⟩]

def nsvRows1 : List RegRow := [
  ⟨0x84, 1, 0, [fd 0 32 .ro 0]⟩,
  ⟨0x88, 1, 0, [fd 0 18 .rw 0]⟩,
  ⟨0x8C, 1, 0, [fd 0 32 .ro 0]⟩]

def dopRows0 : List RegRow := [
  ⟨0x0, 1, 0, [fd 0 1 .w1s 0, fd 1 1 .rw 0]⟩,
  ⟨0x4, 1, 0, [fd 0 1 .ro 0, fd 1 1 .ro 0, fd 2 1 .ro 0, fd 3 3 .ro 0, fd 6 1 .ro 0, fd 7 1 .ro 0, fd 8 1 .ro 0, fd 9 1 .ro 0]⟩,
  ⟨0x8, 1, 0, [fd 0 1 .w1c 0, fd 1 1 .w1c 0, fd 2 1 .w1c 0, fd 3 1 .w1c 0, fd 4 1 .w1c 0, fd 5 1 .w1c 0, fd 6 1 .w1c 0, fd 7 1 .w1c 0, fd 8 1 .w1c 0, fd 9 1 .w1c 0, fd 10 1 .w1c 0, fd 11 1 .w1c 0]⟩,
  ⟨0xC, 1, 0, [fd 0 16 .rwl 0x12C, fd 16 16 .rwl 0]⟩,
  ⟨0x10, 1, 0, [fd 0 6 .rwl 0xF, fd 8 8 .rwl 0xC0]⟩,
  ⟨0x14, 1, 0, [fd 0 9 .rwl 0, fd 16 10 .rwl 0]⟩,
  ⟨0x18, 1, 0, [fd 0 12 .rwl 0]⟩,
  ⟨0x1C, 1, 0, [fd 0 16 .rwl 0x3C, fd 16 8 .rwl 5]⟩,
  ⟨0x20, 1, 0, [fd 0 8 .rwl 0x28, fd 8 8 .rwl 8]⟩,
  ⟨0x24, 1, 0, [fd 0 32 .rwl 0x358637BD]⟩,
  ⟨0x28, 1, 0, [fd 0 32 .rwl 0x38D1B717]⟩,
  ⟨0x2C, 1, 0, [fd 0 7 .rwl 0x40, fd 8 12 .rwl 0xC8, fd 20 4 .rwl 3]⟩,
  ⟨0x30, 1, 0, [fd 0 32 .rwl 0x3C23D70A]⟩,
  ⟨0x34, 1, 0, [fd 0 32 .rwl 0x3C23D70A]⟩,
  ⟨0x38, 1, 0, [fd 0 17 .rwl 0]⟩,
  ⟨0x3C, 1, 0, [fd 0 32 .ro 0]⟩,
  ⟨0x40, 1, 0, [fd 0 32 .ro 0]⟩,
  ⟨0x44, 1, 0, [fd 0 3 .ro 0, fd 8 8 .ro 0, fd 16 7 .ro 0]⟩,
  ⟨0x48, 1, 0, [fd 0 32 .ro 0]⟩,
  ⟨0x4C, 1, 0, [fd 0 32 .ro 0]⟩,
  ⟨0x50, 1, 0, [fd 0 32 .rc 0]⟩,
  ⟨0x54, 1, 0, [fd 0 32 .ro 0]⟩,
  ⟨0x58, 1, 0, [fd 0 32 .ro 0]⟩,
  ⟨0x5C, 1, 0, [fd 0 32 .ro 0]⟩]

def dopRows1 : List RegRow := [
  ⟨0x60, 1, 0, [fd 0 32 .ro 0]⟩,
  ⟨0x64, 1, 0, [fd 0 16 .rw 0]⟩,
  ⟨0x68, 1, 0, [fd 0 32 .rw 0]⟩,
  ⟨0x6C, 1, 0, [fd 0 32 .ro 0]⟩,
  ⟨0x70, 1, 0, [fd 0 32 .ro 0]⟩,
  ⟨0x74, 1, 0, [fd 0 20 .rw 0]⟩,
  ⟨0x78, 1, 0, [fd 0 32 .ro 0]⟩,
  ⟨0x7C, 1, 0, [fd 0 29 .rw 0]⟩,
  ⟨0x80, 1, 0, [fd 0 32 .ro 0]⟩,
  ⟨0x84, 1, 0, [fd 0 4 .rw 0]⟩,
  ⟨0x100, 1, 0, [fd 0 2 .ro 0, fd 2 1 .ro 0, fd 3 1 .ro 0, fd 4 1 .ro 0, fd 5 1 .ro 0, fd 8 4 .ro 0, fd 16 7 .ro 0]⟩,
  ⟨0x104, 1, 0, [fd 0 32 .ro 0]⟩,
  ⟨0x108, 1, 0, [fd 0 32 .ro 0]⟩,
  ⟨0x10C, 1, 0, [fd 0 32 .ro 0]⟩,
  ⟨0x110, 1, 0, [fd 0 32 .ro 0]⟩,
  ⟨0x114, 1, 0, [fd 0 32 .ro 0]⟩]

def mtrRows0 : List RegRow := [
  ⟨0x0, 1, 0, [fd 0 1 .w1s 0]⟩,
  ⟨0x4, 1, 0, [fd 0 1 .ro 0, fd 1 1 .ro 0, fd 2 1 .ro 0, fd 3 1 .ro 0]⟩,
  ⟨0x8, 1, 0, [fd 0 1 .w1c 0, fd 1 1 .w1c 0, fd 2 1 .w1c 0, fd 3 1 .w1c 0, fd 4 1 .w1c 0, fd 5 1 .w1c 0, fd 6 1 .w1c 0]⟩,
  ⟨0xC, 1, 0, [fd 0 12 .rwl 0xA]⟩,
  ⟨0x10, 1, 0, [fd 0 32 .ro 0]⟩,
  ⟨0x14, 1, 0, [fd 0 3 .rw 0, fd 4 3 .rw 0]⟩,
  ⟨0x100, 2, 64, [fd 0 2 .rwl 0, fd 2 1 .rwl 0, fd 16 16 .rwl 0x8FC]⟩,
  ⟨0x104, 2, 64, [fd 0 1 .ro 0, fd 1 1 .ro 0, fd 2 1 .ro 0, fd 3 1 .ro 0, fd 4 2 .ro 3, fd 8 8 .ro 0]⟩,
  ⟨0x108, 2, 64, [fd 0 32 .ro 0]⟩,
  ⟨0x10C, 2, 64, [fd 0 32 .ro 0]⟩,
  ⟨0x110, 2, 64, [fd 0 32 .ro 0]⟩,
  ⟨0x200, 66, 4, [fd 0 32 .ro 0]⟩,
  ⟨0x400, 16, 32, [fd 0 2 .rwl 0, fd 2 1 .rwl 0, fd 8 5 .rwl 0x10]⟩,
  ⟨0x404, 16, 32, [fd 0 32 .rwl 0]⟩,
  ⟨0x408, 16, 32, [fd 0 24 .rwl 0x400000]⟩,
  ⟨0x40C, 16, 32, [fd 0 16 .rwl 0]⟩,
  ⟨0x1000, 8, 256, [fd 0 1 .rwl 0, fd 1 1 .rwl 0, fd 2 2 .rwl 0, fd 16 10 .rwl 0x320]⟩,
  ⟨0x1004, 8, 256, [fd 0 32 .rwl 0]⟩,
  ⟨0x1008, 8, 256, [fd 0 13 .rwl 0x32]⟩,
  ⟨0x100C, 8, 256, [fd 0 1 .ro 0, fd 1 1 .ro 0, fd 2 1 .ro 0, fd 3 2 .ro 0, fd 5 1 .ro 0]⟩,
  ⟨0x1010, 8, 256, [fd 0 32 .ro 0]⟩,
  ⟨0x1014, 8, 256, [fd 0 32 .ro 0]⟩,
  ⟨0x1018, 8, 256, [fd 0 32 .ro 0]⟩,
  ⟨0x101C, 8, 256, [fd 0 32 .ro 0]⟩]

def mtrRows1 : List RegRow := [
  ⟨0x1020, 8, 256, [fd 0 32 .ro 0]⟩,
  ⟨0x1024, 8, 256, [fd 0 32 .ro 0]⟩,
  ⟨0x1028, 8, 256, [fd 0 32 .ro 0]⟩,
  ⟨0x102C, 8, 256, [fd 0 32 .ro 0]⟩,
  ⟨0x1030, 8, 256, [fd 0 32 .ro 0]⟩,
  ⟨0x1034, 8, 256, [fd 0 32 .ro 0]⟩,
  ⟨0x1038, 8, 256, [fd 0 32 .ro 0]⟩,
  ⟨0x103C, 8, 256, [fd 0 32 .ro 0]⟩,
  ⟨0x1040, 8, 256, [fd 0 32 .ro 0]⟩,
  ⟨0x1044, 8, 256, [fd 0 32 .ro 0]⟩,
  ⟨0x1048, 8, 256, [fd 0 32 .ro 0]⟩,
  ⟨0x104C, 8, 256, [fd 0 32 .ro 0]⟩,
  ⟨0x1050, 8, 256, [fd 0 32 .ro 0]⟩,
  ⟨0x1054, 8, 256, [fd 0 1 .ro 0, fd 1 1 .ro 0, fd 2 1 .ro 0, fd 3 1 .ro 0, fd 4 1 .ro 0, fd 5 1 .ro 0, fd 8 8 .ro 0, fd 16 16 .ro 0]⟩,
  ⟨0x1058, 8, 256, [fd 0 32 .ro 0]⟩,
  ⟨0x105C, 8, 256, [fd 0 30 .ro 0]⟩,
  ⟨0x1080, 8, 8, [fd 0 32 .ro 0]⟩,
  ⟨0x1180, 8, 8, [fd 0 32 .ro 0]⟩,
  ⟨0x1280, 8, 8, [fd 0 32 .ro 0]⟩,
  ⟨0x1380, 8, 8, [fd 0 32 .ro 0]⟩,
  ⟨0x1480, 8, 8, [fd 0 32 .ro 0]⟩,
  ⟨0x1580, 8, 8, [fd 0 32 .ro 0]⟩,
  ⟨0x1680, 8, 8, [fd 0 32 .ro 0]⟩,
  ⟨0x1780, 8, 8, [fd 0 32 .ro 0]⟩]

def mtrRows2 : List RegRow := [
  ⟨0x1084, 8, 8, [fd 0 32 .ro 0]⟩,
  ⟨0x1184, 8, 8, [fd 0 32 .ro 0]⟩,
  ⟨0x1284, 8, 8, [fd 0 32 .ro 0]⟩,
  ⟨0x1384, 8, 8, [fd 0 32 .ro 0]⟩,
  ⟨0x1484, 8, 8, [fd 0 32 .ro 0]⟩,
  ⟨0x1584, 8, 8, [fd 0 32 .ro 0]⟩,
  ⟨0x1684, 8, 8, [fd 0 32 .ro 0]⟩,
  ⟨0x1784, 8, 8, [fd 0 32 .ro 0]⟩,
  ⟨0x10C0, 8, 8, [fd 0 32 .ro 0]⟩,
  ⟨0x11C0, 8, 8, [fd 0 32 .ro 0]⟩,
  ⟨0x12C0, 8, 8, [fd 0 32 .ro 0]⟩,
  ⟨0x13C0, 8, 8, [fd 0 32 .ro 0]⟩,
  ⟨0x14C0, 8, 8, [fd 0 32 .ro 0]⟩,
  ⟨0x15C0, 8, 8, [fd 0 32 .ro 0]⟩,
  ⟨0x16C0, 8, 8, [fd 0 32 .ro 0]⟩,
  ⟨0x17C0, 8, 8, [fd 0 32 .ro 0]⟩,
  ⟨0x10C4, 8, 8, [fd 0 32 .ro 0]⟩,
  ⟨0x11C4, 8, 8, [fd 0 32 .ro 0]⟩,
  ⟨0x12C4, 8, 8, [fd 0 32 .ro 0]⟩,
  ⟨0x13C4, 8, 8, [fd 0 32 .ro 0]⟩,
  ⟨0x14C4, 8, 8, [fd 0 32 .ro 0]⟩,
  ⟨0x15C4, 8, 8, [fd 0 32 .ro 0]⟩,
  ⟨0x16C4, 8, 8, [fd 0 32 .ro 0]⟩,
  ⟨0x17C4, 8, 8, [fd 0 32 .ro 0]⟩]

def hqcRows0 : List RegRow := [
  ⟨0x0, 1, 0, [fd 0 6 .rwl 0xF, fd 6 1 .rwl 1]⟩,
  ⟨0x4, 1, 0, [fd 0 1 .ro 0, fd 1 1 .ro 0, fd 2 1 .ro 0, fd 3 1 .ro 0]⟩,
  ⟨0x8, 1, 0, [fd 0 1 .w1c 0, fd 1 1 .w1c 0, fd 2 1 .w1c 0]⟩,
  ⟨0xC, 1, 0, [fd 0 32 .ro 0]⟩,
  ⟨0x10, 1, 0, [fd 0 32 .ro 0]⟩,
  ⟨0x14, 1, 0, [fd 0 13 .rw 0]⟩,
  ⟨0x18, 1, 0, [fd 0 18 .rw 0]⟩,
  ⟨0x1C, 1, 0, [fd 0 32 .ro 0]⟩,
  ⟨0x20, 1, 0, [fd 0 32 .ro 0]⟩,
  ⟨0x100, 1, 0, [fd 0 1 .ro 0, fd 1 1 .ro 0, fd 2 1 .ro 0, fd 3 1 .ro 0, fd 4 1 .ro 0, fd 5 1 .ro 0, fd 6 1 .ro 0]⟩,
  ⟨0x104, 1, 0, [fd 0 16 .ro 0x8000]⟩,
  ⟨0x108, 1, 0, [fd 0 16 .ro 0x8000]⟩,
  ⟨0x10C, 1, 0, [fd 0 32 .ro 0]⟩,
  ⟨0x110, 1, 0, [fd 0 32 .ro 0]⟩,
  ⟨0x114, 1, 0, [fd 0 32 .ro 0]⟩,
  ⟨0x118, 1, 0, [fd 0 1 .ro 0, fd 1 1 .ro 0, fd 2 1 .ro 0, fd 3 1 .ro 0, fd 4 1 .ro 0, fd 8 8 .ro 0]⟩,
  ⟨0x120, 5, 8, [fd 0 32 .ro 0]⟩,
  ⟨0x124, 5, 8, [fd 0 32 .ro 0]⟩,
  ⟨0x160, 5, 8, [fd 0 32 .ro 0]⟩,
  ⟨0x164, 5, 8, [fd 0 32 .ro 0]⟩]

def csbRows0 : List RegRow := [
  ⟨0x0, 1, 0, [fd 0 1 .rw 0]⟩,
  ⟨0x4, 1, 0, [fd 0 4 .ro 0, fd 4 2 .ro 0, fd 6 2 .ro 0, fd 8 1 .ro 0, fd 9 1 .ro 0, fd 10 1 .ro 0, fd 11 1 .ro 0, fd 12 1 .ro 0]⟩,
  ⟨0x8, 1, 0, [fd 0 1 .w1c 0, fd 1 1 .w1c 0, fd 2 1 .w1c 0, fd 3 1 .w1c 0, fd 4 1 .w1c 0, fd 5 1 .w1c 0, fd 6 1 .w1c 0, fd 7 1 .w1c 0, fd 8 1 .w1c 0, fd 9 1 .w1c 0, fd 10 1 .w1c 0, fd 11 1 .w1c 0]⟩,
  ⟨0xC, 1, 0, [fd 0 3 .wo 0, fd 8 6 .wo 0]⟩,
  ⟨0x10, 1, 0, [fd 0 1 .rwl 0, fd 1 3 .rwl 0, fd 4 3 .rwl 0, fd 7 1 .rwl 0, fd 8 1 .rwl 0, fd 9 1 .rwl 0, fd 10 1 .rwl 0, fd 11 3 .rwl 0, fd 14 1 .rwl 0]⟩,
  ⟨0x14, 1, 0, [fd 0 10 .rwl 0x2BC, fd 10 6 .rwl 0x32, fd 16 11 .rwl 0x47E]⟩,
  ⟨0x18, 1, 0, [fd 0 8 .rwl 0xFA, fd 8 8 .rwl 0x96, fd 16 4 .rwl 5, fd 20 4 .rwl 3]⟩,
  ⟨0x1C, 1, 0, [fd 0 10 .rwl 0x64, fd 16 16 .rwl 0xC8]⟩,
  ⟨0x20, 1, 0, [fd 0 16 .rwl 5, fd 16 16 .rwl 0x64]⟩,
  ⟨0x24, 1, 0, [fd 0 16 .rwl 0x32, fd 16 16 .rwl 0x64]⟩,
  ⟨0x28, 1, 0, [fd 0 8 .rwl 0x14, fd 8 16 .rwl 0x12C, fd 24 8 .rwl 0x3C]⟩,
  ⟨0x2C, 1, 0, [fd 0 16 .rwl 0x14, fd 16 16 .rwl 0x3C]⟩,
  ⟨0x30, 1, 0, [fd 0 8 .rwl 0x32, fd 8 8 .rwl 0xA, fd 16 8 .rwl 0xA]⟩,
  ⟨0x34, 1, 0, [fd 0 24 .rwl 0, fd 24 2 .rwl 0, fd 28 4 .rwl 5]⟩,
  ⟨0x40, 8, 4, [fd 0 3 .rwl 0, fd 3 1 .rwl 0, fd 4 1 .rwl 0, fd 5 1 .rwl 0, fd 6 1 .rwl 0, fd 7 3 .rwl 0, fd 10 1 .rwl 0]⟩,
  ⟨0x60, 1, 0, [fd 0 8 .ro 0, fd 8 8 .ro 0, fd 16 8 .ro 0]⟩,
  ⟨0x64, 1, 0, [fd 0 16 .ro 0, fd 16 16 .ro 0]⟩,
  ⟨0x68, 1, 0, [fd 0 7 .ro 0]⟩,
  ⟨0x6C, 1, 0, [fd 0 32 .ro 0]⟩,
  ⟨0x70, 1, 0, [fd 0 30 .ro 0]⟩,
  ⟨0x74, 1, 0, [fd 0 32 .ro 0]⟩,
  ⟨0x78, 1, 0, [fd 0 10 .rw 0]⟩,
  ⟨0x7C, 1, 0, [fd 0 32 .ro 0]⟩,
  ⟨0x80, 2, 4, [fd 0 32 .ro 0]⟩]

def csbRows1 : List RegRow := [
  ⟨0x88, 2, 4, [fd 0 32 .ro 0]⟩,
  ⟨0x1000, 1, 0, [fd 0 1 .ro 0]⟩,
  ⟨0x1004, 1, 0, [fd 0 1 .w1c 0, fd 1 1 .w1c 0]⟩,
  ⟨0x1008, 1, 0, [fd 0 32 .ro 0]⟩,
  ⟨0x100C, 1, 0, [fd 0 4 .rwl 2]⟩,
  ⟨0x1010, 1, 0, [fd 0 16 .ro 0xFFFF]⟩,
  ⟨0x1080, 32, 4, [fd 0 32 .ro 0]⟩,
  ⟨0x1100, 16, 32, [fd 0 2 .rwl 0, fd 2 1 .rwl 0]⟩,
  ⟨0x1104, 16, 32, [fd 0 32 .rwl 0x3F800000]⟩,
  ⟨0x1108, 16, 32, [fd 0 32 .rwl 0]⟩,
  ⟨0x110C, 16, 32, [fd 0 32 .ro 0]⟩,
  ⟨0x1110, 16, 32, [fd 0 32 .ro 0]⟩]

def fabRows0 : List RegRow := [
  ⟨0x0, 1, 0, [fd 0 16 .rwl 0x88B5, fd 16 5 .rwl 0x1F]⟩,
  ⟨0x4, 1, 0, [fd 0 32 .rwl 0]⟩,
  ⟨0x8, 1, 0, [fd 0 12 .rwl 0, fd 16 12 .ro 0]⟩,
  ⟨0xC, 1, 0, [fd 0 2 .ro 0, fd 2 1 .ro 0, fd 3 1 .ro 0, fd 16 13 .ro 0]⟩,
  ⟨0x10, 1, 0, [fd 0 1 .w1c 0, fd 1 1 .w1c 0, fd 2 1 .w1c 0, fd 3 1 .w1c 0, fd 4 1 .w1c 0, fd 5 1 .w1c 0]⟩,
  ⟨0x14, 1, 0, [fd 0 10 .rwl 0x14, fd 10 4 .rwl 4, fd 16 8 .rwl 0xA]⟩,
  ⟨0x18, 1, 0, [fd 0 8 .rwl 0x1E, fd 8 8 .rwl 0xA, fd 16 8 .rwl 5]⟩,
  ⟨0x1C, 1, 0, [fd 0 6 .rwl 1, fd 6 6 .rwl 2, fd 12 6 .rwl 4, fd 18 6 .rwl 8, fd 24 6 .rwl 0x10]⟩,
  ⟨0x20, 1, 0, [fd 0 32 .ro 0]⟩,
  ⟨0x24, 1, 0, [fd 0 32 .ro 0]⟩,
  ⟨0x28, 1, 0, [fd 0 32 .ro 0]⟩,
  ⟨0x2C, 1, 0, [fd 0 32 .ro 0]⟩,
  ⟨0x30, 1, 0, [fd 0 32 .ro 0]⟩,
  ⟨0x34, 1, 0, [fd 0 32 .ro 0]⟩,
  ⟨0x38, 1, 0, [fd 0 32 .ro 0]⟩,
  ⟨0x3C, 1, 0, [fd 0 32 .ro 0]⟩,
  ⟨0x40, 1, 0, [fd 0 32 .ro 0]⟩,
  ⟨0x44, 1, 0, [fd 0 32 .ro 0]⟩,
  ⟨0x48, 1, 0, [fd 0 32 .ro 0]⟩,
  ⟨0x80, 1, 0, [fd 0 12 .rw 0]⟩,
  ⟨0x84, 1, 0, [fd 0 2 .ro 0, fd 2 1 .ro 0, fd 3 1 .ro 0, fd 4 1 .ro 0, fd 8 5 .ro 0, fd 16 16 .ro 0]⟩,
  ⟨0x88, 1, 0, [fd 0 32 .ro 0]⟩,
  ⟨0x8C, 1, 0, [fd 0 32 .ro 0]⟩,
  ⟨0x100, 4, 64, [fd 0 1 .rwl 0, fd 16 16 .rwl 0xA]⟩]

def fabRows1 : List RegRow := [
  ⟨0x104, 4, 64, [fd 0 3 .ro 0, fd 3 2 .ro 0, fd 5 1 .ro 0, fd 16 12 .ro 0, fd 28 2 .ro 0]⟩,
  ⟨0x108, 4, 64, [fd 0 32 .ro 0]⟩,
  ⟨0x10C, 4, 64, [fd 0 32 .ro 0]⟩,
  ⟨0x110, 4, 64, [fd 0 32 .ro 0]⟩,
  ⟨0x114, 4, 64, [fd 0 32 .ro 0]⟩,
  ⟨0x118, 4, 64, [fd 0 32 .ro 0]⟩,
  ⟨0x11C, 4, 64, [fd 0 32 .ro 0]⟩,
  ⟨0x120, 4, 64, [fd 0 32 .ro 0]⟩,
  ⟨0x124, 4, 64, [fd 0 32 .ro 0]⟩]

def timRows0 : List RegRow := [
  ⟨0x0, 1, 0, [fd 0 1 .rwl 0, fd 1 1 .rwl 0, fd 2 1 .rwl 1]⟩,
  ⟨0x4, 1, 0, [fd 0 3 .ro 0, fd 3 1 .ro 0, fd 4 1 .ro 0, fd 5 3 .ro 7]⟩,
  ⟨0x8, 1, 0, [fd 0 1 .w1c 0, fd 1 1 .w1c 0, fd 2 1 .w1c 0, fd 3 1 .w1c 0, fd 4 1 .w1c 0, fd 5 1 .w1c 0, fd 6 1 .w1c 0]⟩,
  ⟨0xC, 1, 0, [fd 0 30 .ro 0]⟩,
  ⟨0x10, 1, 0, [fd 0 32 .ro 0]⟩,
  ⟨0x14, 1, 0, [fd 0 16 .ro 0]⟩,
  ⟨0x18, 1, 0, [fd 0 32 .rw 0]⟩,
  ⟨0x1C, 1, 0, [fd 0 30 .wo 0]⟩,
  ⟨0x20, 1, 0, [fd 0 32 .wo 0]⟩,
  ⟨0x24, 1, 0, [fd 0 16 .wo 0]⟩,
  ⟨0x28, 1, 0, [fd 0 32 .wo 0]⟩,
  ⟨0x2C, 1, 0, [fd 0 32 .wo 0]⟩,
  ⟨0x30, 1, 0, [fd 0 16 .rw 0, fd 16 1 .rw 0]⟩,
  ⟨0x34, 1, 0, [fd 0 8 .rwl 0, fd 8 8 .rwl 0x80, fd 16 8 .rwl 0x80, fd 24 8 .rwl 0xF8]⟩,
  ⟨0x38, 1, 0, [fd 0 4 .rwl 0xD, fd 4 4 .rwl 3]⟩,
  ⟨0x3C, 1, 0, [fd 0 16 .rwl 0x3E8, fd 16 8 .rwl 0xA]⟩,
  ⟨0x40, 1, 0, [fd 0 32 .ro 0]⟩,
  ⟨0x44, 1, 0, [fd 0 32 .ro 0]⟩,
  ⟨0x48, 1, 0, [fd 0 32 .ro 0]⟩,
  ⟨0x4C, 1, 0, [fd 0 32 .ro 0]⟩,
  ⟨0x50, 1, 0, [fd 0 32 .ro 0]⟩,
  ⟨0x54, 1, 0, [fd 0 32 .ro 0]⟩,
  ⟨0x80, 6, 32, [fd 0 1 .rwl 0, fd 1 1 .rwl 0]⟩,
  ⟨0x84, 6, 32, [fd 0 24 .rwl 0]⟩]

def timRows1 : List RegRow := [
  ⟨0x88, 6, 32, [fd 0 10 .rwl 0, fd 16 10 .rwl 0]⟩,
  ⟨0x8C, 6, 32, [fd 0 3 .ro 0]⟩,
  ⟨0x90, 6, 32, [fd 0 32 .ro 0]⟩,
  ⟨0x140, 1, 0, [fd 0 30 .rw 0]⟩,
  ⟨0x144, 1, 0, [fd 0 32 .rw 0]⟩,
  ⟨0x148, 1, 0, [fd 0 16 .rw 0]⟩,
  ⟨0x14C, 1, 0, [fd 0 24 .rw 0, fd 24 3 .rw 0, fd 27 4 .rw 0, fd 31 1 .rw 0]⟩,
  ⟨0x150, 1, 0, [fd 0 16 .rw 0, fd 16 16 .rw 0]⟩,
  ⟨0x154, 1, 0, [fd 0 32 .rw 0]⟩,
  ⟨0x158, 1, 0, [fd 0 1 .wo 0]⟩,
  ⟨0x15C, 1, 0, [fd 0 11 .ro 0, fd 11 1 .ro 0, fd 16 4 .ro 0]⟩,
  ⟨0x160, 1, 0, [fd 0 11 .wo 0]⟩,
  ⟨0x164, 1, 0, [fd 0 12 .ro 0, fd 16 12 .ro 0]⟩,
  ⟨0x168, 1, 0, [fd 0 32 .ro 0]⟩,
  ⟨0x16C, 1, 0, [fd 0 32 .ro 0]⟩,
  ⟨0x170, 1, 0, [fd 0 32 .ro 0]⟩,
  ⟨0x200, 2, 32, [fd 0 1 .rwl 0]⟩,
  ⟨0x204, 2, 32, [fd 0 7 .ro 0]⟩,
  ⟨0x208, 2, 32, [fd 0 32 .ro 0]⟩,
  ⟨0x20C, 2, 32, [fd 0 32 .ro 0]⟩,
  ⟨0x210, 2, 32, [fd 0 32 .ro 0]⟩,
  ⟨0x214, 2, 32, [fd 0 8 .rc 0]⟩,
  ⟨0x8000, 1, 0, [fd 0 2 .rwl 0, fd 16 12 .rwl 0]⟩,
  ⟨0x8004, 1, 0, [fd 0 1 .ro 0, fd 1 1 .ro 0, fd 2 1 .ro 0, fd 3 1 .ro 0]⟩]

def timRows2 : List RegRow := [
  ⟨0x8008, 1, 0, [fd 0 1 .w1c 0, fd 1 1 .w1c 0, fd 2 1 .w1c 0, fd 3 1 .w1c 0, fd 4 1 .w1c 0, fd 5 1 .w1c 0, fd 6 1 .w1c 0]⟩,
  ⟨0x800C, 1, 0, [fd 0 32 .ro 0]⟩,
  ⟨0x8010, 1, 0, [fd 0 32 .ro 0]⟩,
  ⟨0x8014, 1, 0, [fd 0 30 .ro 0]⟩,
  ⟨0x8018, 1, 0, [fd 0 32 .ro 0]⟩,
  ⟨0x801C, 1, 0, [fd 0 8 .ro 0, fd 8 8 .ro 0, fd 16 6 .ro 0]⟩,
  ⟨0x8020, 1, 0, [fd 0 32 .ro 0]⟩,
  ⟨0x8024, 1, 0, [fd 0 32 .ro 0]⟩,
  ⟨0x8028, 1, 0, [fd 0 32 .ro 0]⟩,
  ⟨0x802C, 1, 0, [fd 0 32 .ro 0]⟩,
  ⟨0x8030, 1, 0, [fd 0 14 .rw 0]⟩,
  ⟨0x8034, 1, 0, [fd 0 32 .ro 0]⟩,
  ⟨0x8038, 1, 0, [fd 0 17 .rwl 0]⟩,
  ⟨0x803C, 1, 0, [fd 0 16 .rwl 0x384]⟩,
  ⟨0x8040, 1, 0, [fd 0 9 .rw 0]⟩,
  ⟨0x8044, 1, 0, [fd 0 1 .ro 0, fd 1 1 .ro 0, fd 2 1 .ro 0]⟩,
  ⟨0x8048, 1, 0, [fd 0 32 .ro 0]⟩,
  ⟨0x804C, 1, 0, [fd 0 32 .ro 0]⟩]

def rtcRows0 : List RegRow := [
  ⟨0x0, 1, 0, [fd 0 1 .rw 0]⟩,
  ⟨0x4, 1, 0, [fd 0 1 .w1c 1, fd 1 1 .ro 0, fd 2 1 .ro 0]⟩,
  ⟨0x8, 1, 0, [fd 0 1 .w1c 0, fd 1 1 .w1c 0]⟩,
  ⟨0xC, 1, 0, [fd 0 15 .ro 0]⟩,
  ⟨0x10, 1, 0, [fd 0 32 .ro 0]⟩,
  ⟨0x14, 1, 0, [fd 0 8 .ro 0]⟩,
  ⟨0x18, 1, 0, [fd 0 15 .wo 0]⟩,
  ⟨0x1C, 1, 0, [fd 0 8 .wo 0]⟩,
  ⟨0x20, 1, 0, [fd 0 32 .wo 0]⟩,
  ⟨0x24, 1, 0, [fd 0 9 .rw 0]⟩,
  ⟨0x28, 1, 0, [fd 0 32 .ro 0]⟩,
  ⟨0x2C, 1, 0, [fd 0 32 .ro 0]⟩,
  ⟨0x30, 1, 0, [fd 0 8 .ro 0, fd 8 15 .ro 0, fd 31 1 .ro 0]⟩,
  ⟨0x34, 1, 0, [fd 0 32 .ro 0]⟩,
  ⟨0x40, 2, 32, [fd 0 1 .rw 0, fd 1 1 .rw 0, fd 2 1 .rw 0]⟩,
  ⟨0x44, 2, 32, [fd 0 1 .w1c 0, fd 1 1 .w1c 0, fd 2 1 .ro 0]⟩,
  ⟨0x48, 2, 32, [fd 0 32 .rw 0]⟩,
  ⟨0x4C, 2, 32, [fd 0 8 .rw 0]⟩,
  ⟨0x50, 2, 32, [fd 0 32 .rw 0]⟩,
  ⟨0x54, 2, 32, [fd 0 8 .rw 0]⟩]

def safRows0 : List RegRow := [
  ⟨0x0, 1, 0, [fd 0 1 .w1s 0, fd 1 1 .w1s 0, fd 2 1 .w1s 0, fd 3 1 .w1s 0]⟩,
  ⟨0x4, 1, 0, [fd 0 4 .ro 0, fd 4 4 .ro 0, fd 8 1 .ro 0, fd 9 1 .ro 0, fd 10 1 .ro 0]⟩,
  ⟨0x8, 1, 0, [fd 0 1 .w1c 0, fd 1 1 .w1c 0, fd 2 1 .w1c 0]⟩,
  ⟨0xC, 1, 0, [fd 0 1 .rwl 0, fd 1 1 .rwl 1, fd 16 16 .rwl 0x7D0]⟩,
  ⟨0x10, 1, 0, [fd 0 2 .ro 0, fd 4 2 .ro 0, fd 2 1 .ro 0, fd 6 1 .ro 0, fd 8 1 .ro 0]⟩,
  ⟨0x14, 2, 8, [fd 0 16 .ro 0]⟩,
  ⟨0x18, 2, 8, [fd 0 32 .wo 0]⟩,
  ⟨0x24, 1, 0, [fd 0 32 .w1c 0]⟩,
  ⟨0x28, 1, 0, [fd 0 1 .ro 0, fd 1 1 .ro 1, fd 2 1 .ro 0, fd 3 1 .ro 0, fd 4 1 .ro 0, fd 5 1 .ro 0]⟩,
  ⟨0x2C, 1, 0, [fd 0 32 .ro 0]⟩,
  ⟨0x30, 1, 0, [fd 0 32 .ro 0]⟩,
  ⟨0x34, 1, 0, [fd 0 32 .ro 0]⟩,
  ⟨0x38, 1, 0, [fd 0 32 .ro 0]⟩,
  ⟨0x3C, 1, 0, [fd 0 32 .ro 0]⟩,
  ⟨0x40, 1, 0, [fd 0 32 .ro 0]⟩,
  ⟨0x44, 1, 0, [fd 0 32 .ro 0]⟩,
  ⟨0x48, 1, 0, [fd 0 16 .ro 0]⟩,
  ⟨0x4C, 1, 0, [fd 0 10 .rw 0]⟩,
  ⟨0x50, 1, 0, [fd 0 32 .ro 0]⟩,
  ⟨0x80, 1, 0, [fd 0 1 .rwl 0, fd 1 4 .rwl 0]⟩,
  ⟨0x84, 1, 0, [fd 0 1 .rwl 1, fd 1 4 .rwl 0]⟩,
  ⟨0x88, 1, 0, [fd 0 1 .rwl 1, fd 1 4 .rwl 0]⟩,
  ⟨0x8C, 1, 0, [fd 0 1 .rwl 1, fd 1 4 .rwl 6]⟩,
  ⟨0x90, 1, 0, [fd 0 1 .rwl 1, fd 1 4 .rwl 0]⟩]

def safRows1 : List RegRow := [
  ⟨0x94, 1, 0, [fd 0 1 .rwl 1, fd 1 4 .rwl 0xF]⟩,
  ⟨0x98, 1, 0, [fd 0 1 .rwl 1, fd 1 4 .rwl 0xF]⟩,
  ⟨0x9C, 1, 0, [fd 0 1 .rwl 1, fd 1 4 .rwl 0xF]⟩,
  ⟨0xA0, 1, 0, [fd 0 1 .rwl 1, fd 1 4 .rwl 0]⟩,
  ⟨0xA4, 1, 0, [fd 0 1 .rwl 1, fd 1 4 .rwl 0]⟩,
  ⟨0xA8, 1, 0, [fd 0 1 .rwl 1, fd 1 4 .rwl 1]⟩,
  ⟨0xAC, 1, 0, [fd 0 1 .rwl 1, fd 1 4 .rwl 1]⟩,
  ⟨0xB0, 1, 0, [fd 0 1 .rwl 1, fd 1 4 .rwl 1]⟩,
  ⟨0xB4, 1, 0, [fd 0 1 .rwl 1, fd 1 4 .rwl 1]⟩,
  ⟨0xB8, 1, 0, [fd 0 1 .rwl 1, fd 1 4 .rwl 0]⟩,
  ⟨0xBC, 1, 0, [fd 0 1 .rwl 0, fd 1 4 .rwl 0]⟩,
  ⟨0xC0, 1, 0, [fd 0 1 .rwl 0, fd 1 4 .rwl 0]⟩,
  ⟨0xC4, 1, 0, [fd 0 1 .rwl 1, fd 1 4 .rwl 0]⟩,
  ⟨0xC8, 1, 0, [fd 0 1 .rwl 1, fd 1 4 .rwl 0]⟩,
  ⟨0xCC, 1, 0, [fd 0 1 .rwl 1, fd 1 4 .rwl 0]⟩,
  ⟨0xD0, 1, 0, [fd 0 1 .rwl 1, fd 1 4 .rwl 0]⟩,
  ⟨0xD4, 1, 0, [fd 0 1 .rwl 0, fd 1 4 .rwl 0]⟩,
  ⟨0xD8, 1, 0, [fd 0 1 .rwl 1, fd 1 4 .rwl 0xF]⟩,
  ⟨0xDC, 1, 0, [fd 0 1 .rwl 1, fd 1 4 .rwl 0]⟩,
  ⟨0xE0, 1, 0, [fd 0 1 .rwl 1, fd 1 4 .rwl 0]⟩,
  ⟨0xE4, 1, 0, [fd 0 1 .rwl 0, fd 1 4 .rwl 0]⟩,
  ⟨0xE8, 1, 0, [fd 0 1 .rwl 0, fd 1 4 .rwl 0]⟩,
  ⟨0xEC, 1, 0, [fd 0 1 .rwl 0, fd 1 4 .rwl 0]⟩,
  ⟨0xF0, 1, 0, [fd 0 1 .rwl 0, fd 1 4 .rwl 0]⟩]

def safRows2 : List RegRow := [
  ⟨0xF4, 1, 0, [fd 0 1 .rwl 0, fd 1 4 .rwl 0]⟩,
  ⟨0xF8, 1, 0, [fd 0 1 .rwl 0, fd 1 4 .rwl 0]⟩,
  ⟨0xFC, 1, 0, [fd 0 1 .rwl 0, fd 1 4 .rwl 0]⟩,
  ⟨0x100, 128, 4, [fd 0 32 .rwl 0]⟩]

def keyRows0 : List RegRow := [
  ⟨0x0, 1, 0, [fd 0 3 .ro 0, fd 3 1 .ro 0, fd 4 1 .ro 0, fd 5 1 .ro 0, fd 6 1 .ro 0, fd 7 1 .ro 0, fd 8 2 .ro 0, fd 10 1 .ro 0, fd 11 1 .ro 0, fd 16 9 .ro 0]⟩,
  ⟨0x4, 1, 0, [fd 0 1 .w1c 0, fd 1 1 .w1c 0, fd 2 1 .w1c 0, fd 3 1 .w1c 0, fd 4 1 .w1c 0, fd 5 1 .w1c 0, fd 6 1 .w1c 0]⟩,
  ⟨0x8, 1, 0, [fd 0 1 .wo 0, fd 1 1 .wo 0]⟩,
  ⟨0xC, 1, 0, [fd 0 8 .ro 0, fd 8 1 .ro 0, fd 16 8 .ro 0]⟩,
  ⟨0x10, 1, 0, [fd 0 32 .ro 0]⟩,
  ⟨0x14, 1, 0, [fd 0 12 .rw 0]⟩,
  ⟨0x18, 1, 0, [fd 0 32 .rw 0]⟩,
  ⟨0x1C, 1, 0, [fd 0 5 .ro 0, fd 8 5 .w1c 0]⟩,
  ⟨0x20, 1, 0, [fd 0 32 .ro 0]⟩,
  ⟨0x24, 1, 0, [fd 0 32 .ro 0]⟩,
  ⟨0x28, 1, 0, [fd 0 32 .ro 0]⟩,
  ⟨0x2C, 1, 0, [fd 0 32 .ro 0]⟩,
  ⟨0x30, 1, 0, [fd 0 19 .rw 0]⟩,
  ⟨0x34, 1, 0, [fd 0 32 .ro 0]⟩,
  ⟨0x40, 32, 4, [fd 0 16 .ro 0, fd 16 1 .ro 0, fd 17 1 .ro 0, fd 18 1 .ro 0, fd 19 2 .ro 0]⟩]

def updRows0 : List RegRow := [
  ⟨0x0, 1, 0, [fd 0 4 .wo 0]⟩,
  ⟨0x4, 1, 0, [fd 0 3 .ro 0, fd 3 1 .ro 0, fd 4 1 .ro 0, fd 5 3 .ro 0, fd 8 1 .ro 0, fd 9 1 .ro 0]⟩,
  ⟨0x8, 1, 0, [fd 0 1 .w1c 0, fd 1 1 .w1c 0, fd 2 1 .w1c 0, fd 3 1 .w1c 0, fd 4 1 .w1c 0, fd 5 1 .w1c 0, fd 6 1 .w1c 0, fd 7 1 .w1c 0]⟩,
  ⟨0xC, 1, 0, [fd 0 8 .ro 0, fd 8 1 .ro 0, fd 12 4 .ro 0]⟩,
  ⟨0x10, 1, 0, [fd 0 1 .rw 0, fd 1 1 .rw 1, fd 2 3 .rw 0]⟩,
  ⟨0x14, 1, 0, [fd 0 16 .rw 0x3E8]⟩,
  ⟨0x18, 1, 0, [fd 0 20 .rw 0xE10]⟩,
  ⟨0x1C, 1, 0, [fd 0 32 .rw 0xE]⟩,
  ⟨0x20, 1, 0, [fd 0 32 .ro 0]⟩,
  ⟨0x24, 1, 0, [fd 0 32 .ro 0]⟩,
  ⟨0x28, 1, 0, [fd 0 17 .ro 0]⟩,
  ⟨0x2C, 1, 0, [fd 0 17 .ro 0]⟩,
  ⟨0x30, 1, 0, [fd 0 17 .ro 0]⟩,
  ⟨0x34, 1, 0, [fd 0 17 .rw 0]⟩,
  ⟨0x38, 1, 0, [fd 0 10 .rw 0]⟩,
  ⟨0x3C, 1, 0, [fd 0 32 .rw 0]⟩,
  ⟨0x40, 1, 0, [fd 0 32 .ro 0]⟩,
  ⟨0x44, 1, 0, [fd 0 32 .ro 0]⟩,
  ⟨0x48, 1, 0, [fd 0 6 .ro 0]⟩,
  ⟨0x4C, 1, 0, [fd 0 32 .ro 0]⟩,
  ⟨0x50, 1, 0, [fd 0 32 .ro 0]⟩,
  ⟨0x54, 1, 0, [fd 0 20 .ro 0]⟩,
  ⟨0x58, 1, 0, [fd 0 32 .ro 0]⟩,
  ⟨0x5C, 1, 0, [fd 0 16 .ro 0]⟩]

def updRows1 : List RegRow := [
  ⟨0x60, 1, 0, [fd 0 32 .ro 0]⟩,
  ⟨0x64, 1, 0, [fd 0 32 .ro 0]⟩,
  ⟨0x68, 1, 0, [fd 0 32 .ro 0]⟩,
  ⟨0x6C, 1, 0, [fd 0 32 .ro 0]⟩,
  ⟨0x70, 1, 0, [fd 0 15 .rw 0]⟩,
  ⟨0x74, 1, 0, [fd 0 32 .ro 0]⟩]

def recRows0 : List RegRow := [
  ⟨0x0, 1, 0, [fd 0 1 .w1s 0]⟩,
  ⟨0x4, 1, 0, [fd 0 1 .ro 0, fd 1 1 .ro 0, fd 2 1 .ro 0, fd 3 1 .ro 0, fd 16 10 .ro 0]⟩,
  ⟨0x8, 1, 0, [fd 0 1 .w1c 0, fd 1 1 .w1c 0, fd 2 1 .w1c 0, fd 3 1 .w1c 0, fd 4 1 .w1c 0, fd 5 1 .w1c 0]⟩,
  ⟨0xC, 1, 0, [fd 0 3 .rwl 5, fd 3 3 .rwl 5, fd 8 8 .rwl 0x32, fd 16 16 .rwl 0x3E8]⟩,
  ⟨0x10, 1, 0, [fd 0 10 .rwl 0x80, fd 16 16 .rwl 0x3C]⟩,
  ⟨0x14, 1, 0, [fd 0 13 .rwl 8]⟩,
  ⟨0x18, 1, 0, [fd 0 32 .wo 0]⟩,
  ⟨0x1C, 1, 0, [fd 0 32 .ro 0]⟩,
  ⟨0x20, 1, 0, [fd 0 32 .ro 0]⟩,
  ⟨0x24, 1, 0, [fd 0 32 .ro 0]⟩,
  ⟨0x28, 1, 0, [fd 0 32 .rw 0]⟩,
  ⟨0x2C, 1, 0, [fd 0 1 .ro 0, fd 1 1 .ro 0, fd 2 1 .ro 0, fd 3 1 .ro 0]⟩,
  ⟨0x30, 1, 0, [fd 0 12 .rw 0]⟩,
  ⟨0x34, 1, 0, [fd 0 32 .ro 0]⟩,
  ⟨0x38, 1, 0, [fd 0 16 .rw 0]⟩,
  ⟨0x3C, 1, 0, [fd 0 32 .ro 0]⟩,
  ⟨0x40, 1, 0, [fd 0 32 .ro 0]⟩,
  ⟨0x44, 1, 0, [fd 0 32 .ro 0]⟩,
  ⟨0x48, 1, 0, [fd 0 32 .ro 0]⟩,
  ⟨0x4C, 1, 0, [fd 0 32 .ro 0]⟩,
  ⟨0x50, 1, 0, [fd 0 32 .ro 0]⟩,
  ⟨0x54, 1, 0, [fd 0 32 .ro 0]⟩,
  ⟨0x58, 1, 0, [fd 0 32 .ro 0]⟩]

/-- The register summary of a block index (Table 21.1). -/
def blockRows (b : Nat) : List RegRow :=
  match b with
  | 0 => sysRows0
  | 1 => pwrRows0
  | 2 => cfgRows0
  | 3 => cycRows0
  | 4 => pgrRows0 ++ pgrRows1
  | 5 => sioRows0 ++ sioRows1
  | 6 => lpeRows0 ++ lpeRows1
  | 7 => mpgRows0 ++ mpgRows1
  | 8 => nsvRows0 ++ nsvRows1
  | 9 => dopRows0 ++ dopRows1
  | 10 => mtrRows0 ++ mtrRows1 ++ mtrRows2
  | 11 => hqcRows0
  | 12 => csbRows0 ++ csbRows1
  | 13 => fabRows0 ++ fabRows1
  | 14 => timRows0 ++ timRows1 ++ timRows2
  | 15 => rtcRows0
  | 16 => safRows0 ++ safRows1 ++ safRows2
  | 17 => keyRows0
  | 18 => updRows0 ++ updRows1
  | 19 => recRows0
  | _ => []

/-- A row covers an offset of its block. -/
def RegRow.covers (r : RegRow) (o : Nat) : Bool :=
  if r.cnt ≤ 1 then o == r.off
  else r.off ≤ o && (o - r.off) % r.stride == 0 && (o - r.off) / r.stride < r.cnt

/-- The fields of the register at a 24-bit address; none for an RSV offset (R504). -/
def regFields (a : Nat) : List FieldDesc :=
  match (blockRows (a / 0x10000)).find? (fun r => r.covers (a % 0x10000)) with
  | some r => r.fields
  | none => []

/-- One table of a table memory: `cnt` entries of `stride` bytes from `base`, with the fields of each entry's words. -/
structure TabRow where
  base : Nat
  cnt : Nat
  stride : Nat
  words : List (Nat × List FieldDesc)
deriving DecidableEq, Repr

/-- Fields of table HQC_PT. -/
def tabRow_HQC_PT : TabRow := ⟨0x0, 4128, 32, [
  (0, [fd 0 1 .rwl 0, fd 1 1 .rwl 0, fd 2 2 .rwl 0, fd 4 1 .rwl 0, fd 5 3 .rwl 0, fd 8 1 .rwl 0]),
  (1, [fd 0 8 .rwl 0, fd 8 8 .rwl 0, fd 16 8 .rwl 0, fd 24 8 .rwl 0]),
  (2, [fd 0 32 .rwl 0]),
  (3, [fd 0 32 .rwl 0]),
  (4, [fd 0 16 .rwl 0x14, fd 16 16 .rwl 0x640]),
  (5, [fd 0 32 .rwl 0]),
  (6, [fd 0 5 .rwl 0, fd 5 3 .rwl 0])]⟩

/-- Fields of table SIO_STN. -/
def tabRow_SIO_STN : TabRow := ⟨0x0, 4096, 64, [
  (0, [fd 0 1 .rwl 0, fd 1 1 .rwl 0, fd 2 1 .rwl 0, fd 3 1 .rwl 0, fd 4 4 .rwl 0, fd 8 4 .rwl 0, fd 12 1 .rwl 0, fd 13 6 .rwl 0]),
  (1, [fd 0 16 .rwl 0, fd 16 9 .rwl 0]),
  (2, [fd 0 9 .rwl 0]),
  (3, [fd 0 24 .rwl 0]),
  (4, [fd 0 24 .rwl 0]),
  (5, [fd 0 16 .rwl 0]),
  (6, [fd 0 14 .rwl 0, fd 14 6 .rwl 0]),
  (8, [fd 0 32 .rwl 0]),
  (9, [fd 0 32 .rwl 0]),
  (10, [fd 0 32 .rwl 0]),
  (11, [fd 0 32 .rwl 0])]⟩

/-- Fields of the cap station table, which has the layout of the station table (R399). -/
def tabRow_CFG_CSTN : TabRow := ⟨0x0, 32, 64, (7, [fd 0 12 .rwl 0]) :: tabRow_SIO_STN.words⟩

/-- Fields of table SIO_SUB. -/
def tabRow_SIO_SUB : TabRow := ⟨0x40000, 16384, 8, [
  (0, [fd 0 8 .rwl 0, fd 8 2 .rwl 0, fd 10 2 .rwl 0, fd 16 14 .rwl 0]),
  (1, [fd 0 32 .rwl 0])]⟩

/-- Fields of table PGR_TASK. -/
def tabRow_PGR_TASK : TabRow := ⟨0x0, 64, 16, [
  (0, [fd 0 2 .rwl 0, fd 2 1 .rwl 0, fd 3 3 .rwl 0, fd 6 4 .rwl 0]),
  (1, [fd 0 16 .rwl 0, fd 16 16 .rwl 0]),
  (2, [fd 0 16 .rwl 0, fd 16 16 .rwl 0]),
  (3, [fd 0 16 .rwl 0])]⟩

/-- Fields of table PGR_REG. -/
def tabRow_PGR_REG : TabRow := ⟨0x1000, 256, 8, [
  (0, [fd 0 17 .ro 0, fd 17 1 .ro 0, fd 18 2 .ro 0]),
  (1, [fd 0 13 .ro 0])]⟩

/-- Fields of table CYC_BLK. -/
def tabRow_CYC_BLK : TabRow := ⟨0x0, 65536, 32, [
  (0, [fd 0 6 .rwl 0, fd 6 1 .rwl 0, fd 16 16 .rwl 0]),
  (1, [fd 0 32 .rwl 0]),
  (2, [fd 0 32 .rwl 0]),
  (3, [fd 0 32 .rwl 0]),
  (4, [fd 0 32 .rwl 0]),
  (5, [fd 0 32 .rwl 0]),
  (6, [fd 0 32 .rwl 0]),
  (7, [fd 0 19 .rwl 0])]⟩

/-- Fields of table CYC_REC. -/
def tabRow_CYC_REC : TabRow := ⟨0x400000, 256, 32, [
  (0, [fd 0 32 .ro 0]),
  (1, [fd 0 32 .ro 0]),
  (2, [fd 0 30 .ro 0]),
  (3, [fd 0 32 .ro 0]),
  (4, [fd 0 1 .ro 0, fd 1 1 .ro 0, fd 2 1 .ro 0, fd 3 1 .ro 0, fd 4 1 .ro 0, fd 5 1 .ro 0, fd 6 1 .ro 0, fd 16 16 .ro 0]),
  (5, [fd 0 32 .ro 0]),
  (6, [fd 0 32 .ro 0]),
  (7, [fd 0 32 .ro 0])]⟩

/-- Fields of table LPE_SLOT. -/
def tabRow_LPE_SLOT : TabRow := ⟨0x0, 4096, 128, [
  (0, [fd 0 1 .rwl 0, fd 1 1 .rwl 0, fd 2 2 .rwl 0, fd 4 1 .rwl 0, fd 5 1 .rwl 0, fd 6 1 .rwl 0, fd 7 1 .rwl 0, fd 8 1 .rwl 0, fd 9 2 .rwl 0, fd 11 1 .rwl 0, fd 12 2 .rwl 0, fd 14 1 .rwl 0]),
  (1, [fd 0 32 .rwl 0]),
  (2, [fd 0 22 .rwl 0]),
  (3, [fd 0 22 .rwl 0]),
  (4, [fd 0 4 .rwl 0, fd 4 4 .rwl 0, fd 8 4 .rwl 0, fd 12 4 .rwl 0, fd 16 2 .rwl 0, fd 18 2 .rwl 0, fd 20 4 .rwl 0, fd 24 5 .rw 0]),
  (5, [fd 0 24 .rwl 0]),
  (6, [fd 0 24 .rwl 0]),
  (7, [fd 0 32 .rwl 0]),
  (8, [fd 0 32 .rwl 0]),
  (9, [fd 0 32 .rwl 0]),
  (10, [fd 0 32 .rwl 0]),
  (11, [fd 0 32 .rw 0]),
  (12, [fd 0 32 .rw 0]),
  (13, [fd 0 32 .rw 0]),
  (14, [fd 0 32 .rw 0]),
  (15, [fd 0 32 .rw 0]),
  (16, [fd 0 32 .rw 0]),
  (17, [fd 0 32 .rw 0]),
  (18, [fd 0 32 .rw 0]),
  (19, [fd 0 32 .rw 0]),
  (20, [fd 0 32 .rw 0]),
  (21, [fd 0 32 .rwl 0]),
  (22, [fd 0 32 .rwl 0]),
  (23, [fd 0 32 .rw 0]),
  (24, [fd 0 32 .rw 0]),
  (25, [fd 0 32 .rw 0]),
  (26, [fd 0 32 .rwl 0]),
  (27, [fd 0 8 .rwl 0, fd 8 8 .rwl 0, fd 16 8 .rwl 0, fd 24 8 .rwl 0]),
  (28, [fd 0 8 .rwl 0, fd 8 5 .rwl 0, fd 16 8 .rwl 0]),
  (29, [fd 0 12 .rwl 0, fd 12 1 .rwl 0, fd 13 8 .rwl 0, fd 21 1 .rwl 0, fd 22 1 .rwl 0, fd 23 1 .rwl 0, fd 24 4 .rwl 0, fd 28 2 .rwl 0]),
  (30, [fd 0 14 .rwl 0])]⟩

/-- Fields of table LPE_GAIN. -/
def tabRow_LPE_GAIN : TabRow := ⟨0x80000, 256, 256, [
  (0, [fd 0 24 .rw 0x100000]),
  (1, [fd 0 24 .rw 0x100000]),
  (2, [fd 0 24 .rw 0x100000]),
  (3, [fd 0 24 .rw 0x100000]),
  (4, [fd 0 24 .rw 0x100000]),
  (5, [fd 0 24 .rw 0x100000]),
  (6, [fd 0 24 .rw 0x100000]),
  (7, [fd 0 24 .rw 0x100000]),
  (8, [fd 0 24 .rw 0x100000]),
  (9, [fd 0 24 .rw 0x100000]),
  (10, [fd 0 24 .rw 0x100000]),
  (11, [fd 0 24 .rw 0x100000]),
  (12, [fd 0 24 .rw 0x100000]),
  (13, [fd 0 24 .rw 0x100000]),
  (14, [fd 0 24 .rw 0x100000]),
  (15, [fd 0 24 .rw 0x100000]),
  (16, [fd 0 24 .rw 0x100000]),
  (17, [fd 0 24 .rw 0x100000]),
  (18, [fd 0 24 .rw 0x100000]),
  (19, [fd 0 24 .rw 0x100000]),
  (20, [fd 0 24 .rw 0x100000]),
  (21, [fd 0 24 .rw 0x100000]),
  (22, [fd 0 24 .rw 0x100000]),
  (23, [fd 0 24 .rw 0x100000]),
  (24, [fd 0 24 .rw 0x100000]),
  (25, [fd 0 24 .rw 0x100000]),
  (26, [fd 0 24 .rw 0x100000]),
  (27, [fd 0 24 .rw 0x100000]),
  (28, [fd 0 24 .rw 0x100000]),
  (29, [fd 0 24 .rw 0x100000]),
  (30, [fd 0 24 .rw 0x100000]),
  (31, [fd 0 24 .rw 0x100000]),
  (32, [fd 0 24 .rw 0x100000])]⟩

/-- Fields of table CFG_CLOOP. -/
def tabRow_CFG_CLOOP : TabRow := ⟨0x800, 64, 48, [
  (0, [fd 0 12 .rwl 0, fd 12 1 .rwl 0, fd 13 1 .rwl 0, fd 14 2 .rwl 0]),
  (1, [fd 0 24 .rwl 0]),
  (2, [fd 0 24 .rwl 0, fd 24 4 .rwl 0]),
  (3, [fd 0 32 .rwl 0]),
  (4, [fd 0 32 .rwl 0]),
  (5, [fd 0 32 .rwl 0]),
  (6, [fd 0 32 .rwl 0]),
  (7, [fd 0 32 .rwl 0]),
  (8, [fd 0 32 .rwl 0]),
  (9, [fd 0 32 .rwl 0]),
  (10, [fd 0 32 .rwl 0])]⟩

/-- Fields of table MPG_RA. -/
def tabRow_MPG_RA : TabRow := ⟨0x0, 256, 48, [
  (0, [fd 0 1 .rwl 0, fd 1 2 .rwl 0, fd 3 1 .rwl 0, fd 4 1 .rwl 0, fd 5 1 .rwl 0, fd 6 1 .rwl 0, fd 7 12 .rwl 0]),
  (1, [fd 0 8 .rwl 0, fd 8 8 .rwl 0, fd 16 16 .rwl 0]),
  (2, [fd 0 32 .rw 0]),
  (3, [fd 0 32 .rw 0]),
  (4, [fd 0 32 .rw 0]),
  (5, [fd 0 32 .rw 0]),
  (6, [fd 0 32 .rw 0]),
  (7, [fd 0 32 .rwl 0]),
  (8, [fd 0 32 .rwl 0])]⟩

/-- Fields of table NSV_SENS. -/
def tabRow_NSV_SENS : TabRow := ⟨0x0, 16384, 32, [
  (0, [fd 0 5 .rwl 0, fd 5 2 .rwl 0, fd 7 1 .rwl 0, fd 8 3 .rwl 0, fd 11 4 .rwl 0, fd 15 1 .rwl 0, fd 16 13 .rwl 0]),
  (1, [fd 0 24 .rwl 0]),
  (2, [fd 0 32 .rwl 0]),
  (3, [fd 0 32 .rwl 0]),
  (4, [fd 0 32 .rwl 0]),
  (5, [fd 0 32 .rwl 0])]⟩

/-- Fields of table NSV_NODE. -/
def tabRow_NSV_NODE : TabRow := ⟨0x80000, 8192, 16, [
  (0, [fd 0 2 .rwl 0, fd 2 1 .rwl 0, fd 16 16 .rwl 0]),
  (1, [fd 0 32 .rwl 0]),
  (2, [fd 0 32 .rwl 0]),
  (3, [fd 0 14 .rwl 0])]⟩

/-- Fields of table NSV_BUS. -/
def tabRow_NSV_BUS : TabRow := ⟨0x100000, 256, 16, [
  (0, [fd 0 2 .rwl 0, fd 2 1 .rwl 0]),
  (1, [fd 0 32 .rwl 0]),
  (2, [fd 0 32 .rwl 0])]⟩

/-- Fields of table NSV_MED. -/
def tabRow_NSV_MED : TabRow := ⟨0x10C000, 64, 16, [
  (0, [fd 0 16 .rwl 0]),
  (1, [fd 0 32 .rwl 0]),
  (2, [fd 0 32 .rwl 0]),
  (3, [fd 0 32 .rwl 0])]⟩

/-- Fields of table NSV_BR. -/
def tabRow_NSV_BR : TabRow := ⟨0xA0000, 12288, 32, [
  (0, [fd 0 4 .rwl 0, fd 4 1 .rwl 0, fd 5 2 .rwl 0, fd 7 1 .rwl 0, fd 8 14 .rwl 0, fd 22 8 .rwl 0]),
  (1, [fd 0 12 .rwl 0, fd 16 12 .rwl 0]),
  (2, [fd 0 32 .rwl 0]),
  (3, [fd 0 32 .rwl 0]),
  (4, [fd 0 32 .rwl 0]),
  (5, [fd 0 32 .rwl 0]),
  (6, [fd 0 32 .rwl 0]),
  (7, [fd 0 18 .rwl 0])]⟩

/-- Fields of table NSV_EBR. -/
def tabRow_NSV_EBR : TabRow := ⟨0x101000, 384, 32, [
  (0, [fd 0 1 .rwl 0]),
  (1, [fd 0 8 .rwl 0, fd 8 8 .rwl 0]),
  (2, [fd 0 32 .rwl 0]),
  (3, [fd 0 32 .rwl 0]),
  (4, [fd 0 32 .rwl 0]),
  (5, [fd 0 32 .rwl 0])]⟩

/-- Fields of table DOP_BIND. -/
def tabRow_DOP_BIND : TabRow := ⟨0x0, 16384, 32, [
  (0, [fd 0 2 .rwl 0, fd 2 4 .rwl 0, fd 6 2 .rwl 0, fd 8 1 .rwl 0]),
  (1, [fd 0 12 .rwl 0, fd 16 10 .rwl 0]),
  (2, [fd 0 19 .rwl 0]),
  (3, [fd 0 32 .rwl 0]),
  (4, [fd 0 32 .rwl 0])]⟩

/-- Fields of table DOP_NB. -/
def tabRow_DOP_NB : TabRow := ⟨0x80000, 8, 64, [
  (0, [fd 0 1 .rwl 0, fd 1 4 .rwl 0, fd 16 12 .rwl 0]),
  (1, [fd 0 32 .rwl 0]),
  (2, [fd 0 32 .rwl 0]),
  (3, [fd 0 32 .rwl 0]),
  (4, [fd 0 16 .rwl 0, fd 16 16 .rwl 0]),
  (5, [fd 0 16 .rwl 0, fd 16 16 .rwl 0]),
  (6, [fd 0 16 .rwl 0, fd 16 16 .rwl 0]),
  (7, [fd 0 16 .rwl 0, fd 16 16 .rwl 0])]⟩

/-- Fields of table TRJ_CH. -/
def tabRow_TRJ_CH : TabRow := ⟨0x0, 512, 32, [
  (0, [fd 0 1 .rwl 0, fd 1 2 .rwl 0, fd 3 4 .rwl 0, fd 7 1 .rwl 0]),
  (1, [fd 0 25 .rwl 0]),
  (2, [fd 0 9 .rwl 0]),
  (3, [fd 0 32 .rwl 0]),
  (4, [fd 0 32 .rwl 0]),
  (5, [fd 0 16 .rwl 0, fd 16 16 .rwl 0]),
  (6, [fd 0 32 .rwl 0])]⟩

/-- Fields of table CSB_GRP. -/
def tabRow_CSB_GRP : TabRow := ⟨0x0, 64, 16, [
  (0, [fd 0 1 .rwl 0, fd 1 2 .rwl 0, fd 3 2 .rwl 0, fd 5 2 .rwl 0, fd 7 2 .rwl 0, fd 9 2 .rwl 0]),
  (1, [fd 0 24 .rwl 0]),
  (2, [fd 0 24 .rwl 0]),
  (3, [fd 0 24 .rwl 0])]⟩

/-- Fields of table SAF_LOG. -/
def tabRow_SAF_LOG : TabRow := ⟨0x0, 64, 16, [
  (0, [fd 0 32 .ro 0]),
  (1, [fd 0 32 .ro 0]),
  (2, [fd 0 30 .ro 0]),
  (3, [fd 0 8 .ro 0, fd 8 12 .ro 0, fd 20 4 .ro 0, fd 24 1 .ro 0, fd 25 1 .ro 0, fd 26 1 .ro 0, fd 27 1 .ro 0])]⟩

/-- Fields of table KEY_TLOG. -/
def tabRow_KEY_TLOG : TabRow := ⟨0x60000, 64, 16, [
  (0, [fd 0 32 .ro 0]),
  (1, [fd 0 8 .ro 0, fd 8 15 .ro 0]),
  (2, [fd 0 5 .ro 0, fd 5 3 .ro 0, fd 8 1 .ro 0, fd 9 1 .ro 0]),
  (3, [fd 0 32 .ro 0])]⟩

/-- Fields of table REC_CH. -/
def tabRow_REC_CH : TabRow := ⟨0x0, 2048, 32, [
  (0, [fd 0 1 .rwl 0, fd 1 3 .rwl 0, fd 4 3 .rwl 1, fd 7 3 .rwl 1, fd 10 4 .rwl 0]),
  (1, [fd 0 24 .rwl 0]),
  (2, [fd 0 16 .rwl 0]),
  (3, [fd 0 17 .rwl 0]),
  (4, [fd 0 32 .rwl 0]),
  (5, [fd 0 32 .rwl 0]),
  (6, [fd 0 32 .rwl 0]),
  (7, [fd 0 32 .rwl 0])]⟩

/-- The tables of a block's table memory. -/
def blockTabs (b : Nat) : List TabRow :=
  match b with
  | 2 => [tabRow_CFG_CSTN, tabRow_CFG_CLOOP]
  | 3 => [tabRow_CYC_BLK, tabRow_CYC_REC, ⟨0x200000, 262144, 4, [(0, [fd 0 32 .ro 0])]⟩, ⟨0x300000, 131072, 4, [(0, [fd 0 32 .rw 0])]⟩, ⟨0x380000, 131072, 4, [(0, [fd 0 32 .rwl 0])]⟩]
  | 4 => [tabRow_PGR_TASK, tabRow_PGR_REG]
  | 5 => [tabRow_SIO_STN, tabRow_SIO_SUB]
  | 6 => [tabRow_LPE_SLOT, tabRow_LPE_GAIN]
  | 7 => [tabRow_MPG_RA]
  | 8 => [tabRow_NSV_SENS, tabRow_NSV_NODE, tabRow_NSV_BUS, tabRow_NSV_MED, tabRow_NSV_BR, tabRow_NSV_EBR, ⟨0x104000, 8192, 4, [(0, [fd 0 32 .rwl 0])]⟩]
  | 9 => [tabRow_DOP_BIND, tabRow_DOP_NB]
  | 11 => [tabRow_HQC_PT, ⟨0x20400, 224, 8, [(0, [fd 0 16 .rwl 0]), (1, [fd 0 32 .rwl 0])]⟩]
  | 12 => [tabRow_CSB_GRP]
  | 14 => [tabRow_TRJ_CH]
  | 16 => [tabRow_SAF_LOG]
  | 17 => [tabRow_KEY_TLOG, ⟨0x0, 66560, 4, [(0, [fd 0 32 .rwl 0])]⟩, ⟨0x50000, 6144, 4, [(0, [fd 0 32 .ro 0])]⟩, ⟨0x60400, 256, 4, [(0, [fd 0 32 .ro 0])]⟩]
  | 18 => [⟨0x0, 2185, 4, [(0, [fd 0 32 .ro 0])]⟩, ⟨0x4000, 256, 4, [(0, [fd 0 32 .ro 0])]⟩]
  | 19 => [tabRow_REC_CH]
  | _ => []

/-- The fields of the table word at a table address of a block. -/
def tabFields (b a : Nat) : List FieldDesc :=
  match (blockTabs b).find? (fun r => r.base ≤ a && (a - r.base) / r.stride < r.cnt) with
  | some r => ((r.words.lookup ((a - r.base) % r.stride / 4)).getD [])
  | none => []

/-- The fields of a word of the store, by its key. -/
def keyFields (k : Nat) : List FieldDesc :=
  if k < 0x10000000000 then regFields (k % 0x1000000)
  else tabFields (k / 0x10000000000 - 1) (k % 0x10000000000)

/-- The reset value of a word from its fields (RSV bits are 0). -/
def resetOf (fs : List FieldDesc) : Word :=
  fs.foldl (fun acc f => acc ||| (BitVec.ofNat 32 (f.reset % 2 ^ f.width) <<< f.lsb)) 0

/-- What a word of the store that is not listed reads as: its reset value. -/
def resetWord (k : Nat) : Word := resetOf (keyFields k)

end Sys2Proof.Machine
end

