-- ==== Sys2Proof/Machine/State.lean ====
section
/-! DEFINITION. The state of the module: everything the spec gives it, as plain data, and its value right after reset. -/
namespace Sys2Proof.Machine

/-- What the module drives outwards in a command: data answered to a reader, frames sent, lines moved. The model's own
record of the command's visible effect; it is emptied when the next command starts. -/
inductive Emit where
  /-- a register or window read's data (R9) -/
  | readData (rq addr : Nat) (v : Word)
  /-- an SSP frame to a station (Table 4.3): type, station, flags, session, counter, payload -/
  | ssp (type stn flags session counter : Nat) (payload : List Byte)
  /-- an answer to ARP, neighbour discovery or echo (R92, R510): 0-1 station port, 2 management port -/
  | netAnswer (port kind : Nat)
  /-- a Pellizan frame on a fabric port (R306); `ended` with an inverted FCS (R309) -/
  | fab (port : Nat) (f : FabFrame) (ended : Bool)
  /-- a hatband on a fabric port (Table 12.4): LCTR, its ADDR field, FLAGS, NONCE, LSA_SEQ, COST -/
  | hatband (port lctr addr flags nonce lsaSeq cost : Nat)
  /-- a fabric message handed to the local firmware (R323) -/
  | fabUp (f : FabFrame)
  /-- FAB reports a failed delivery to the sending unit (R323): destination, class, SEQ -/
  | fabFail (dst cls seq : Nat)
  /-- an Announce (R338): port, sequence, data set, currentUtcOffset, its validity -/
  | announce (port seq : Nat) (a : PtpAnnounce) (utc : Nat) (utcOk : Bool)
  /-- a PTP message on a port (R338): message type, sequence, correction field, time seconds and nanoseconds -/
  | ptp (port mtype seq : Nat) (corr : Int) (sec ns : Nat)
  /-- a KMP response (Table 21.4) -/
  | kmp (session tag status done : Nat) (data : List Word)
  /-- an output line: see Table 22.1's signals by number of the model's pin list -/
  | pin (line : Nat) (level : Bool)
  /-- a strobe frame down an island link (R36) -/
  | strobe (island seq : Nat)
  /-- step pulses of a local axis, signed by the planned direction (R210) -/
  | steps (axis : Nat) (n : Int)
  /-- an interrupt to the active complex, by unit -/
  | irq (unit code : Nat)
deriving DecidableEq, Repr

/-- A window freeze of one requester (R63, R84, R201, R244): the unit's block index, the instance and the held words. -/
structure Freeze where
  rq : Nat
  blk : Nat
  inst : Nat
  vals : List (Nat × Word)
deriving DecidableEq, Repr

/-- Module time (R332): 48-bit seconds, nanoseconds below 10^9, a 32-bit fraction of a nanosecond, and the slew in progress
(R335): clocks still to run at 100 ppm, clocks run, direction. `up` is the uptime in clocks of 4 ns (R154). -/
structure Clock where
  sec : Nat
  ns : Nat
  frac : Nat
  slewLeft : Nat
  slewRun : Nat
  slewNeg : Bool
  up : Nat
deriving DecidableEq, Repr

/-- What a channel of an island carries from sample to sample (R43, R44): the high-pass mean, the integrator, its last input, the last
processed samples newest first; fractions of full scale in 2⁻⁵⁴. -/
structure ChanSt where
  mean : Int
  y : Int
  x1 : Int
  hist : List Int
deriving DecidableEq, Repr

/-- An island's link and cycle state (R36 to R51): outstanding strobes (sequence, seconds, nanoseconds), consecutive discards and good
frames, accumulation suspended, uptime when it went down, what this cycle carries (clip, held samples), the channels, the last
calibrated values (2⁻¹⁶ V or A: L1, L2, L3 against N, I0 to I3), reference selection (absent cycles of the reference, present cycles
per phase), the crossing detector, instants of the last crossing, cycle sums: samples, V², I², V·I per phase (and per single-phase
point), shifted V·I, and the window sums over cycles. -/
structure IslSt where
  strobes : List (Nat × Nat × Nat)
  bad : Nat
  good : Nat
  suspended : Bool
  downAt : Nat
  clip : Bool
  held : Bool
  chans : List ChanSt
  cal : List Int
  absent : Nat
  presentRun : List Nat
  armed : List Bool
  crossed : List Bool
  lastCross : Option Int
  lastFreq : Option Int
  n : Nat
  sumV : List Nat
  sumI : List Nat
  sumP : List Int
  sumQ : List Int
  winN : Nat
  winCycles : Nat
  winV : List Nat
  winI : List Nat
  winP : List Int
  winQ : List Int
  phAbsent : Nat
deriving DecidableEq, Repr

/-- A metering point's totals (energy registers of Table 2.6 in 2⁻¹⁶ LSB), cycles since the last latch, the status of the latch
interval in progress (R61), the sign of the last cycle that added energy (per phase with REVMODE = 1), whether the next latch is
the first; the sequence the next latch continues from. -/
structure PtSt where
  tot : List Nat
  cyc : Nat
  rev : Nat
  deg : Bool
  gap : Bool
  gapCyc : Nat
  pseudo : Bool
  lastNeg : List (Option Bool)
  first : Bool
  seq : Nat
deriving DecidableEq, Repr

/-- A FRAM copy of the metering record (R65): generation, per point totals and last latch sequence, whether its CRC matches. -/
structure MtrCopy where
  gen : Nat
  pts : List (List Nat × Nat)
  ok : Bool
deriving DecidableEq, Repr

/-- A residual bank in BB-SRAM: generation, per point residual totals and newest latch sequence; all zeros; header CRC good. -/
structure MtrBank where
  gen : Nat
  pts : List (List Nat × Nat)
  empty : Bool
  ok : Bool
deriving DecidableEq, Repr

/-- MTR state beyond its registers (chapter 2). `cap` is the capture of a save in progress, `queued` a save waits. -/
structure MtrSt where
  isl : List (Nat × IslSt)
  pts : List (Nat × PtSt)
  strobeSeq : Nat
  copyA : Option MtrCopy
  copyB : Option MtrCopy
  bank0 : MtrBank
  bank1 : MtrBank
  cur : Nat
  cap : Option (Nat × List (List Nat × Nat))
  queued : Bool
  /-- last complete harmonic window of (point, channel): 66 words -/
  harm : List (Nat × List Word)
deriving DecidableEq, Repr

/-- A channel at rest. -/
def chan0 : ChanSt := ⟨0, 0, 0, []⟩
/-- An island before its first frame. -/
def isl0 : IslSt :=
  ⟨[], 0, 0, true, 0, false, false, List.replicate 8 chan0, List.replicate 7 0, 0, [0, 0, 0], [false, false, false],
   [false, false, false], none, none, 0, [0, 0, 0], [0, 0, 0, 0], [0, 0, 0, 0], [0, 0, 0, 0], 0, 0, [0, 0, 0], [0, 0, 0, 0],
   [0, 0, 0, 0], [0, 0, 0, 0], 0⟩
/-- A point before its first cycle. -/
def pt0 : PtSt := ⟨List.replicate 8 0, 0, 0, false, false, 0, false, [none, none, none], true, 0⟩
/-- An empty residual bank. -/
def bankEmpty : MtrBank := ⟨0, [], true, true⟩

/-- A meter point's state (R73 to R83): whether it has a last sample, that sample's uptime (clocks) and module time (ns), its counter
and flow count; whether the next sample closes an outage; the five totals (EIMP, EEXP, VIMP, VEXP, GAPVOL, in 2⁻¹⁶ LSB); the status of the
interval; the sign of the last energy step; first latch; sequence; the totals and status of the closing interval where a step has
already passed the boundary that is not latched yet (totals, reversals, DEG, GAP); module time was stepped since its last sample (R337). -/
structure HqcPt where
  has : Bool
  up : Nat
  time : Nat
  counter : Nat
  flow : Int
  outage : Bool
  tot : List Nat
  rev : Nat
  deg : Bool
  gap : Bool
  lastNeg : Option Bool
  first : Bool
  seq : Nat
  snap : Option (List Nat × Nat × Bool × Bool)
  stepped : Bool
deriving DecidableEq, Repr

/-- A FRAM copy of the heat record (R85): per point number the totals, the last W_LATCH_SEQ, the last counter value if any. -/
structure HqcCopy where
  gen : Nat
  pts : List (Nat × List Nat × Nat × Option Nat)
  ok : Bool
deriving DecidableEq, Repr

/-- HQC state beyond its registers (chapter 3). `nextB` is the boundary to be latched next and `lastB` the last one latched, in ns of
module time. -/
structure HqcSt where
  pts : List (Nat × HqcPt)
  copyA : Option HqcCopy
  copyB : Option HqcCopy
  cap : Option HqcCopy
  nextB : Nat
  lastB : Nat
deriving DecidableEq, Repr

/-- A meter point before its first sample. -/
def hqc0 : HqcPt := ⟨false, 0, 0, 0, 0, false, [0, 0, 0, 0, 0], 0, false, false, none, true, 0, none, false⟩

/-- A session set-up under way or queued (R96, R97): the station, the HELLO's counter and nonce, the verdict on its tag under K_st,
the KEY_ID, whether it waits for KEY to unwrap K_st. -/
structure Setup where
  stn : Nat
  counter : Nat
  nonce : Nat
  tagOk : Bool
  keyId : Nat
  needKey : Bool
deriving DecidableEq, Repr

/-- An input frame as SIO holds it: image, FLAGS, module seconds and nanoseconds of its receive time-stamp, uptime clocks of its arrival. -/
structure RxImage where
  img : List Byte
  flags : Nat
  sec : Nat
  ns : Nat
  up : Nat
deriving DecidableEq, Repr

/-- A station's session state (R89 to R114). `sess` is what K_sess is derived from: KEY_ID, N_S, N_M (the key itself is never visible, R96);
`rxCtr`, `txCtr` the frame counters; `rx` the receive instants (ns) of the session's valid INPUTs of this and the previous check interval;
`withheld` launches withheld since a down transition (R104); `last` the last real image written; `newest` the newest valid INPUT not yet
written while DOWN (R107); `period`, `inPh`, `outPh` the timing in force (µs); `newTiming` an agreed change and its instant;
`answered` the responses of R109 by ORIGIN, CLASS, SEQ; `newestSeq` the newest SEQ by (ORIGIN, CLASS); `closeHint` uptime of the
last unauthenticated CLOSE; `downUp` uptime of the last down transition (R105). -/
structure Stn where
  session : Nat
  sess : Option (Nat × Nat × Nat)
  rxCtr : Nat
  txCtr : Nat
  rx : List Nat
  withheld : Bool
  last : Option (List Byte)
  newest : Option RxImage
  period : Nat
  inPh : Nat
  outPh : Nat
  newTiming : Option (Nat × Nat × Nat × Nat)
  answered : List (Nat × Nat × Nat × Nat × List Byte)
  newestSeq : List (Nat × Nat × Nat)
  closeHint : Option Nat
  downUp : Option Nat
deriving DecidableEq, Repr

/-- SIO state beyond its registers (chapter 4): the stations, the set-ups under way and queued, the responses handed to the issuing
firmware (R109, R110). -/
structure SioSt where
  stns : List (Nat × Stn)
  setups : List Setup
  queue : List Setup
  handed : List SspBody
  /-- echo requests answered: port, uptime clocks (R92) -/
  echoes : List (Nat × Nat)
deriving DecidableEq, Repr

/-- A resident page or one on its way (R119 to R123): station, dirty, last access order, loading, writing back, the writes that
wait for the load or the write-back. -/
structure Page where
  stn : Nat
  dirty : Bool
  stamp : Nat
  loading : Bool
  writing : Bool
  waits : List (Nat × Byte)
deriving DecidableEq, Repr

/-- A task on the cycle engine's stack (R126): its number, the next instance, the uptime (clocks) and module time of its now (R154), the
stations of its error entries (R128). -/
structure RunFrame where
  task : Nat
  next : Nat
  since : Nat
  sec : Nat
  ns : Nat
  errs : List Nat
deriving DecidableEq, Repr

/-- PGR state beyond its registers (chapter 5). -/
structure PgrSt where
  pages : List Page
  stamp : Nat
  ringC : List Nat
  ringL : List Nat
  saved : List (Nat × List Nat)
  efifo : List (Nat × Nat)
  flagged : List Nat
  /-- ready tasks in order of release -/
  ready : List Nat
  stack : List RunFrame
  skips : List (Nat × Nat)
  skipRaised : List Nat
  stepReleased : List Nat
  /-- granted regions: index, owner, base, size -/
  regions : List (Nat × Nat × Nat × Nat)
deriving DecidableEq, Repr

/-- The program sections staged for an online exchange (R156, R406): identity, table words by key (descriptors, constants, task table,
loop tables, trajectory channels), the variable initialisation list by key, the instances, the host-writable window, the migration
list (new instance, old instance). -/
structure Staged where
  id : Nat
  words : List (Nat × Word)
  vars : List (Nat × Word)
  count : Nat
  hostwBase : Nat
  hostwSize : Nat
  mig : List (Nat × Nat)
deriving DecidableEq, Repr

/-- Cycle engine state beyond its registers and tables (chapter 6): whether a cycle has started; the model image latched by R22 (its words,
buffer, sequence, whether it was usable); the snapshot's uptime (clocks) and module time; stations still to be copied (R146); item writes
that wait for their task's commit (task, space, slot or axis, item, value); instances that are new since an exchange (R159); what the
cycle's record gathers: first cycle after start, first of an exchanged program, error tasks ran, arithmetic replacement, commits
discarded, stall and other time (clocks); CYC_TMAX has passed while a preempting task ran (R151); the OVR_LIM fault stands (R152); the
staged program; the next snapshot belongs to an exchange. -/
structure CycSt where
  img : List (Nat × Word)
  cur : Nat
  seq : Nat
  usable : Bool
  snapUp : Nat
  sec : Nat
  ns : Nat
  toCopy : List Nat
  items : List (Nat × Nat × Nat × Nat × Word)
  fresh : List Nat
  firstRun : Bool
  exch : Bool
  errt : Bool
  arith : Bool
  undeliv : Nat
  incons : Bool
  stall : Nat
  other : Nat
  lastUs : Nat
  abandon : Bool
  ovrRaised : Bool
  running : Bool
  staged : Option Staged
deriving DecidableEq, Repr

/-- A cycle engine that has not run. -/
def cyc0 : CycSt := ⟨[], 0, 0, false, 0, 0, 0, [], [], [], false, false, false, false, 0, false, 0, 0, 0, false, false, false, none⟩

/-- A slot's working coefficients, formed at its last close (R172): binary32 values exact as mantissa and exponent. -/
structure Coefs where
  kp : Word
  kit : Word
  cd : Word
  kdd : Word
  am : Word
deriving DecidableEq, Repr

/-- A slot's evaluation state (R169 to R195): setpoint, effective setpoint, manual output and feedforward as binary32; OUT
and pv_prev as stage mantissas; I on the extended grid; D; p and u of the last evaluation; the feedback-loss and trip bookkeeping; the
local model (R188). -/
structure Slot where
  mode : Nat
  req : Option Nat
  sp : Word
  spEff : Word
  man : Word
  ff : Word
  out : Int
  u : Int
  i : Int
  d : Int
  p : Int
  pvPrev : Int
  pv : Word
  started : Bool
  drop : Nat
  beforeDrop : Nat
  plActed : Bool
  plSusp : Bool
  tripCnt : Nat
  tripCond : Bool
  mx : Word
  my0 : Word
  mu0 : Word
  ring : List Word
  coefs : Coefs
deriving DecidableEq, Repr

/-- A cap loop's state (R197): integrator, held output, whether it has run. -/
structure CapLoop where
  i : Int
  out : Int
  ran : Bool
deriving DecidableEq, Repr

/-- LPE state beyond its registers (chapter 7). `late` are the slots of this tick whose evaluation is not complete. -/
structure LpeSt where
  slots : List (Nat × Slot)
  caps : List (Nat × CapLoop)
  tick : Nat
  late : List Nat
  serving : Bool
  /-- the staged loop table of a new image, taken at LOOP_TABLE_SWITCH (R199): table words by address -/
  staged : Option (List (Nat × Word))
deriving DecidableEq, Repr

/-- A planner's state (R205 to R219). `pos` is a remote plan's whole position (a local one stands in AXn_POS), `acc` the fraction of
the position as the 48-bit phase accumulator, `v` the velocity in 2⁻³² steps/s, `a` its change per tick, `inc` the increment; `fresh` a
target waits to be taken, `held` one held by homing, `replan` new limits wait; the debounced inputs and their counters; `brake` what
ends a braking: 0 none, 1 overshoot, 2 emergency then on, 3 STOP, 4 ESTOP or limit ramp, 5 disable, 6 soft-limit fault, 8 disable at
DEC_EMG, 9 homing; `down` a remote axis's station was not UP. -/
structure Ax where
  pos : Int
  acc : Nat
  v : Int
  a : Int
  inc : Nat
  fresh : Bool
  want : Int
  held : Option Int
  replan : Bool
  limP : Bool
  limN : Bool
  home : Bool
  cP : Nat
  cN : Nat
  cH : Nat
  brake : Nat
  down : Bool
deriving DecidableEq, Repr

/-- MPG state beyond its registers (chapter 8): the local axes and the remote plans by number. -/
structure MpgSt where
  axes : List (Nat × Ax)
  ras : List (Nat × Ax)
deriving DecidableEq, Repr

/-- A planner at rest. -/
def ax0 : Ax := ⟨0, 0, 0, 0, 0, false, 0, none, false, false, false, false, 0, 0, 0, 0, false⟩

/-- NSV beyond its registers (chapter 9): the buffer consumers read, both buffers' words (buffer 1 above 0x100000); a completed image waits
for its tick boundary, with its layers' VALID bits; uptime (clocks) of the current image's snapshot, and uptime and module time of the
snapshot in work; requesters that hold a freeze, with the buffer (2: lost); the input buffers latched at the snapshot (station, buffer,
WSEQ); the valid measurements of the solve by sensor, each sensor's last valid value; CLR_BAD and TH_REINIT wait, no image has been
published since the start; sensors flagged bad, solves below half the limit; the regions held (2·layer + 0 factor, 1 plug); uptime of the
last transport and transports since the cold start by layer; plug segments (volume m³, temperature °C) from FROM to TO by branch (layer 1
from 6144), node temperatures (layer 1 from 4096), outlet and inlet temperatures by branch, binary64. -/
structure NsvSt where
  cur : Nat
  img : List (Nat × Word)
  ready : Bool
  readyValid : Nat
  snapUp : Nat
  startUp : Nat
  snapSec : Nat
  snapNs : Nat
  frozen : List (Nat × Nat)
  latched : List (Nat × Nat × Nat)
  meas : List (Nat × Word)
  lastZ : List (Nat × Word)
  clrBad : Bool
  thReinit : Bool
  published : Bool
  bad : List Nat
  badRun : List (Nat × Nat)
  granted : List Nat
  lastTr : List (Nat × Nat)
  warm : List (Nat × Nat)
  plugs : List (Nat × List (BitVec 64 × BitVec 64))
  nodeT : List (Nat × BitVec 64)
  outT : List (Nat × BitVec 64)
  inT : List (Nat × BitVec 64)
deriving DecidableEq, Repr

/-- NSV before its first solve. -/
def nsv0 : NsvSt :=
  ⟨0, [], false, 0, 0, 0, 0, 0, [], [], [], [], false, false, false, [], [], [], [], [], [], [], [], []⟩

/-- A neighbour's coupling (R267 to R273): the agreement (T_agree in module seconds, B0 of its grid in ns), B0 of the grid of a decayed price,
the fragments taken, consecutive missed rounds, rounds, coupling ended under R271, by CONV, DONE received for a round, the criterion of the
CONV flag after its last round. -/
structure DopNb where
  agreed : Option (Nat × Nat)
  decayed : Option Nat
  frags : List CouplingFragment
  miss : Nat
  rounds : Nat
  ended : Bool
  conv : Bool
  doneAt : Option Nat
  ok : Bool
deriving DecidableEq, Repr

/-- DOP state beyond its registers and area (chapter 10): the solve in progress (S in module seconds, its start as uptime, A_k and B0 in ns, local);
no solve has started yet; S of the first solve; last usable binding values by binding; the round in progress, its own fragments sent, and
whether with CONV; the neighbours; module seconds of the last forecast commit; B0 of the plan in force, if one was accepted. -/
structure DopSt where
  s : Nat
  startUp : Nat
  a : Nat
  b0 : Nat
  isLocal : Bool
  firstOne : Bool
  firstS : Nat
  bind : List (Nat × Word)
  round : Nat
  sent : Bool
  sentConv : Bool
  nbs : List (Nat × DopNb)
  fcSec : Option Nat
  planB0 : Option Nat
deriving DecidableEq, Repr

/-- A neighbour not heard of. -/
def dopNb0 : DopNb := ⟨none, none, [], 0, 0, false, false, none, false⟩

/-- A monitored source (R284 to R287): the squares of the last samples of its phases, newest first (2⁻³² V²), the criteria active (bit 0 UV,
1 OV, 2 VS, 3 FREQ, 4 ROCOF, 5 LINK, 6 ALT_OK), the cycle counts, the last cycle's frequency (mHz) and crossing instant (ns). -/
structure CsbSrc where
  hist : List (Nat × Nat × Nat)
  crit : Nat
  fRun : Nat
  dfRun : Nat
  freq : Int
  crossNs : Int
  fresh : Bool
deriving DecidableEq, Repr

/-- CSB state beyond its registers (chapter 11): the sources; whether each switch's BRK_T and DEAD_T have run out; RET_T run out,
SYNC_WAIT run out, consecutive cycles of a met check, a RETURN command waiting, OPENING_A follows OVERLAP; recalling, held and waiting groups; a shed
since NORMAL; the overload count; channels mismatched at the last comparison (2n + ch); pulse tests in progress (output, channel);
handoff of R428; channels enabled (R298). -/
structure CsbSt where
  src0 : CsbSrc
  src1 : CsbSrc
  brk1 : Bool
  brk2 : Bool
  dead1 : Bool
  dead2 : Bool
  retDone : Bool
  syncTmo : Bool
  syncRun : Nat
  returnCmd : Bool
  after7 : Bool
  recalling : List Nat
  held : List Nat
  waiting : List Nat
  shedSince : Bool
  ovl : Nat
  mismatch : List Nat
  test : List (Nat × Nat)
  sf1Off : Bool
  chanOn : Bool
deriving DecidableEq, Repr

/-- A fabric port beyond its registers (R305 to R312, R320, R321): link signal, its nonce, the neighbour (DEVID, nonce), a hatband that waits
for K_fab (as its fields), K_link installed, the link counters sent and last accepted, the beacon counts sent and last accepted, a valid hatband
since the last instant, the eight class queues, the tokens of classes 5 to 7 in 1/200 byte with the uptime they stand for, the round-robin
credits of classes 0 to 4. -/
structure FabPort where
  link : Bool
  nonce : Nat
  nb : Option (Nat × Nat)
  cand : Option (Nat × Nat × Nat × Nat × Bool)
  key : Bool
  tx : Nat
  rx : Nat
  hbTx : Nat
  hbRx : Nat
  heard : Bool
  queues : List (List FabFrame)
  tokens : List Nat
  tokUp : Nat
  credit : List Nat
deriving DecidableEq, Repr

/-- An entry of the link-state database (R315): sequence, ADDR field, links (neighbour address, local port, COST), uptime of its last refresh. -/
structure LsaEntry where
  seq : Nat
  addr : Nat
  links : List (Nat × Nat × Nat)
  up : Nat
deriving DecidableEq, Repr

/-- A window of the window table (R325, R327): origin, class, broadcast, newest SEQ, those received among the 64 before it, last use. -/
structure FabWin where
  src : Nat
  cls : Nat
  bcast : Bool
  newest : Nat
  seen : List Nat
  up : Nat
deriving DecidableEq, Repr

/-- A cached RESPONSE (R326): origin, class and SEQ of its request, status, data, uptime. -/
structure FabResp where
  src : Nat
  cls : Nat
  seq : Nat
  status : Nat
  data : List Byte
  up : Nat
deriving DecidableEq, Repr

/-- A frame whose answer is awaited (R323), with the repeats left. -/
structure FabPend where
  frame : FabFrame
  left : Nat
deriving DecidableEq, Repr

/-- FAB state beyond its registers (chapter 12): the ports; K_hb present; the link-state database by DEVID; uptime of the last LSA sent, a change
waits for the hold-off; uptime of the first database change not yet in the table; windows, response cache, pending retries; the next SEQ
by (destination, class); the address last CLAIMED (FRAM, R313). -/
structure FabSt where
  ports : List (Nat × FabPort)
  khb : Bool
  lsdb : List (Nat × LsaEntry)
  lastLsa : Option Nat
  lsaDue : Bool
  changeUp : Option Nat
  wins : List FabWin
  cache : List FabResp
  pend : List FabPend
  seqs : List (Nat × Nat)
  claimed : Nat
deriving DecidableEq, Repr

/-- A port with no signal yet. -/
def fabPort0 : FabPort := ⟨false, 0, none, none, false, 0, 0, 0, 0, false, [[], [], [], [], [], [], [], []], [0, 0, 0], 0, [0, 0, 0, 0, 0]⟩

/-- A scheduled action (R347). `origin` is none for a host action, the trajectory channel and step otherwise (R275). -/
structure Action where
  handle : Nat
  sec : Nat
  ns : Nat
  kind : Nat
  addr : Nat
  dtype : Nat
  task : Bool
  value : Word
  tag : Nat
  stale : Nat
  late : Bool
  origin : Option (Nat × Nat)
deriving DecidableEq, Repr

/-- A queued OUTPUT frame (R352): its station and slot; `fetched` once TIM has taken FLAGS and payload, with the LSEQ before the fetch. -/
structure Launch where
  stn : Nat
  sec : Nat
  ns : Nat
  fetched : Option (Nat × List Byte × Nat)
deriving DecidableEq, Repr

/-- Per-port PTP exchanges under way: the Sync held for its Follow_Up (sequence, corrected ingress time in ns), the last Pdelay_Req sent
(sequence, corrected t1), the sequences of Sync, Announce and Pdelay_Req sent next, a foreign master heard once (its identity, uptime). -/
structure PtpPort where
  sync : Option (Nat × Int)
  pd : Option (Nat × Int)
  txSync : Nat
  txAnn : Nat
  txPd : Nat
  once : Option (Nat × Nat)
deriving DecidableEq, Repr

/-- TIM state beyond its registers (chapter 13): the action queue, the launch queues, the foreign masters by port (R339), the ports'
exchanges, consecutive offsets within LOCK_TH, consecutive offsets above STEP_TH, whether the next offset is the first since ACQUIRING
was entered (R341). -/
structure TimSt where
  actions : List Action
  lq0 : List Launch
  lq1 : List Launch
  masters : List (Nat × PtpAnnounce)
  ports : List (Nat × PtpPort)
  inLock : Nat
  overStep : Nat
  firstOffset : Bool
deriving DecidableEq, Repr

/-- The RTC's count (R355 to R364): seconds; the fraction it had at position `base` of the calibration window, the window's position now (in
clocks of 4 ns, of which a crystal cycle is 250·10⁶/32 768), the trim in force (R360), a crystal that stands still, the domain on the
cell, the commit that waits for a crystal edge (seconds, fraction). -/
structure RtcSt where
  sec : Nat
  frac : Nat
  base : Nat
  win : Nat
  cal : Int
  stopped : Bool
  onCell : Bool
  pend : Option (Nat × Nat)
deriving DecidableEq, Repr

/-- A plan as trajectory application takes it (R275, R279): PLAN (or DOP_SEQ), A_k and B0 in ns of module time, STEP_MIN, N, and each
source's values (planner: a decision variable's; follower: an RCH's). -/
structure TrjPlan where
  seq : Nat
  a : Nat
  b0 : Nat
  stepMin : Nat
  n : Nat
  vals : List (Nat × List Word)
deriving DecidableEq, Repr

/-- Trajectory application beyond its registers (R274 to R279): the active buffer of the store, the channels whose trajectory is in force
(R277), a plan being received with its FRAG_CNT, the last plan applied, uptime (clocks) at which a plan last completed. -/
structure TrjSt where
  buf : Nat
  chans : List Nat
  rx : Option (TrjPlan × Nat)
  lastPlan : Nat
  lastUp : Nat
deriving DecidableEq, Repr

/-- The power sequencer beyond its registers (chapter 15): the domain that wakes, with the uptime of its wake request; a gap runs; the domains
still to start, in order; the start phase (0 none, 1 cap set, 2 full set, 3 later); uptime of the warning's begin; the uptime of the
SYS_RESET write that waits for its saves; RTA has failed; AON-up as an uptime is 0. -/
structure PwrSt where
  waking : Option (Nat × Nat)
  gap : Bool
  queue : List Nat
  phase : Nat
  pfwUp : Nat
  swReset : Bool
  rtaFailed : Bool
deriving DecidableEq, Repr

/-- A copy of the selection record in FRAM (R400, R476): generation, PREF, REJ0, REJ1, rollback floor, pending floor (slot, floor). -/
structure SelRec where
  gen : Nat
  pref : Nat
  rej0 : Bool
  rej1 : Bool
  floor : Nat
  pend : Option (Nat × Nat)
deriving DecidableEq, Repr

/-- CFG beyond its registers (chapter 16). FRAM: the two copies of the selection record (none: no good CRC). The record in work, whose PREF, REJ
and floor the registers show: its generation, its pending floor, which copy is the newer, whether a write waits to be committed. The image
of the slot in use as the ROM read it; DRAM is trained. -/
structure CfgSt where
  selA : Option SelRec
  selB : Option SelRec
  gen : Nat
  pend : Option (Nat × Nat)
  newB : Bool
  dirty : Bool
  image : Option CfgImage
  trained : Bool
deriving DecidableEq, Repr

/-- One heartbeat supervision (R417): the complex's LFSR, whether an answer and a wrong answer came in this interval, the
consecutive misses, whether a challenge stands in the interval in progress. -/
structure Heart where
  lfsr : BitVec 16
  answered : Bool
  wrong : Bool
  miss : Nat
  placed : Bool
deriving DecidableEq, Repr

/-- The Gauntlet's copy of one trip member's settings and its own count (R424). -/
structure TripCopy where
  slot : Nat
  grp : Nat
  trip : Word
  dir : Nat
  n : Nat
  count : Nat
deriving DecidableEq, Repr

/-- SAF and Gauntlet state (chapter 17). `logged` holds the (source, INDEX) pairs recorded since their bit was last clear
(R426); `wdArmed` the watchdog armed, `wdDeferred` its reset deferred (R419); `gFailed` an oscillator
check has failed since the reset (R414); `capAlarm` the cap commit has released ALARM_OUT (R430). -/
structure SafSt where
  hbA : Heart
  hbB : Heart
  logged : List (Nat × Nat)
  trips : List TripCopy
  wdArmed : Bool
  wdDeferred : Bool
  gFailed : Bool
  capAlarm : Bool
deriving DecidableEq, Repr

/-- An unwrap in progress (R450): the KEY_ID, the users it serves, the mitten's USAGE. -/
structure Unwrap where
  id : Nat
  usage : Nat
  users : List KeyUser
deriving DecidableEq, Repr

/-- The pending record of a life-cycle transition in BB-SRAM (R442): target state, its root, the message's CTR. -/
structure KeyPending where
  target : Nat
  root : Option (List Byte)
  ctr : Nat
deriving DecidableEq, Repr

/-- KEY state beyond its registers and tables (chapter 18). BB-SRAM: `root` the root slot, `chkOk` its check value matches (R445),
`pendRec`, `dtk` the private DTK, `mark` the TAMPERED mark, `lastPrec` the record in force at the last completed transition
(record + 1, 0 none). Fuses: `fuseLc`, `fuseTamper`. Main supply: `stamps` the last use of the cache slots, the unwraps, whether a TAMPERED
fuse programming is under way, the uptime (clocks) at which the debug port closes, the latched GO in work. -/
structure KeySt where
  root : Option (List Byte)
  chkOk : Bool
  pendRec : Option KeyPending
  dtk : Option Nat
  mark : Bool
  lastPrec : Nat
  fuseLc : Nat
  fuseTamper : Bool
  stamp : Nat
  stamps : List (Nat × Nat)
  unwraps : List Unwrap
  fusing : Bool
  debugEnd : Option Nat
deriving DecidableEq, Repr

/-- KEY before any provisioning. -/
def key0 : KeySt := ⟨none, true, none, none, false, 0, 0, false, 0, [], [], false, none⟩

/-- UPD beyond its registers (chapter 19). NAND: the open package's header, its PSTATE, the chunks held by index, the overwrite record. SEC: the
command in work, the slot installed into, failed verifications of an overwrite, a COLD under way, a HANDOVER waits, the handover whose
mailbox is not sealed (uptime of its boundary), uptime at which probation ends; a reset fell in a handover phase (R485). -/
structure UpdSt where
  pkg : Option (List Byte)
  pst : Nat
  chunks : List (Nat × List Byte)
  overwrite : Bool
  work : Option Nat
  slot : Nat
  fails : Nat
  cold : Bool
  hoReq : Bool
  sealing : Option Nat
  probEnd : Option Nat
  probReset : Bool
deriving DecidableEq, Repr

/-- UPD with no package. -/
def upd0 : UpdSt := ⟨none, 0, [], false, none, 0, 0, false, false, none, none, false⟩

/-- A record of the recorder (Tables 20.2, 20.3). -/
inductive RecRecord where
  | event (sev rseq sec ns src code index data rep lastMs : Nat)
  | interval (sev rseq startSec channel flags count invalid : Nat) (sum : BitVec 64)
      (min minSec minNs max maxSec maxNs : Nat) (bins : List Nat)
deriving DecidableEq, Repr

/-- An archive block (R495): its sequence and its records. -/
structure ArchBlock where
  bseq : Nat
  recs : List RecRecord
deriving DecidableEq, Repr

/-- A channel's accumulator (R491): `step` a step of module time falls in its interval, `fwd` a forward step closes it at its next sample,
`partialIv` its interval is partial, `start` the interval's start in module seconds. -/
structure RecAcc where
  count : Nat
  invalid : Nat
  sum : BitVec 64
  min : Option (Word × Nat × Nat)
  max : Option (Word × Nat × Nat)
  bins : List Nat
  step : Bool
  fwd : Bool
  partialIv : Bool
  start : Nat
deriving DecidableEq, Repr

/-- Recorder state (chapter 20): the pending records in RSEQ order, those of the flush in progress, whether a further flush waits and whether a
write of REC_CTRL.FLUSH waits for it, the archive's segments in NAND (oldest first; a position whose program failed is none), uptime of
the last flush, the accumulators by channel, whether the region was asked for and granted (R493), the cursor window, the last BSEQ
and RSEQ. -/
structure RecSt where
  pending : List RecRecord
  flushing : Option (List RecRecord)
  again : Bool
  waitWrite : Bool
  segs : List (List (Option ArchBlock))
  lastFlush : Nat
  acc : List (Nat × RecAcc)
  asked : Bool
  granted : Bool
  cursor : List Byte
  bseq : Nat
  rseq : Nat
deriving DecidableEq, Repr

/-- A KMP session (R511, R514): its number, whether it runs on the service console, the highest TAG used, the responses to the last 8
requests carried out (TAG, STATUS, DONE, data), uptime clocks of its last traffic. -/
structure KmpSession where
  num : Nat
  console : Bool
  maxTag : Option Nat
  cache : List (Nat × Nat × Nat × List Word)
  last : Nat
deriving DecidableEq, Repr

/-- The management path beyond its registers: the addresses in effect, as SYS_MGT_CFG, _IP4 and _IP6_0 to _3 stood at AON-up (R509), and
the requesters whose key update message and whose UPD command are in progress (R513). -/
structure MgtSt where
  addr : List Word
  keyBy : Nat
  updBy : Nat
deriving DecidableEq, Repr

/-- The local inputs beyond their registers (R521, R522): the 1 ms means of the last 100 conversions, newest first, and a self-check
that has failed. -/
structure LioSt where
  means : List (List Int)
  calBad : Bool
deriving DecidableEq, Repr

/-- Why a command stops the machine. No command of the module does: the spec gives each its effect or says that it is ignored. -/
inductive Fault where
  /-- A command came while AON has no supply (before POWER_ON): the module is not running and the spec gives nothing there
  to act. Raised by no meaning; kept so that the type is inhabited. Safe. -/
  | unpowered
deriving DecidableEq, Repr

/-- Why a command is refused. -/
inductive Refusal where
  /-- The command's meaning is not modelled. Raised by the arms of `exec` that name it. Safe. -/
  | notModelled (mnemonic : String)
deriving DecidableEq, Repr

/-- The state of the module. -/
structure State where
  /-- the variant (R1); fixed at manufacture (R3) -/
  variant : Variant
  /-- the commands that wait, first in first out -/
  pending : List Instr
  /-- AON is powered -/
  powered : Bool
  /-- registers and table memories by key (`R`, `T`); unlisted words read their reset value -/
  words : List (Nat × Word)
  /-- the station pages in DRAM (R116), byte address 4096 s + offset -/
  dram : List Host.Cell
  /-- the resident copies of the station pages (R119), same addresses -/
  cache : List Host.Cell
  freezes : List Freeze
  /-- read shadows (R60, R334, R357, R509): requester, register, value -/
  shadows : List (Nat × Nat × Word)
  /-- bits hardware set in the current clock (R11): key and bit -/
  hwSet : List (Nat × Nat)
  /-- the model's own counter of free values (log entry 2) -/
  freeCount : Nat
  /-- what this command has driven outwards -/
  emitted : List Emit
  clock : Clock
  kmp : List KmpSession
  sio : SioSt
  key : KeySt
  pgr : PgrSt
  cyc : CycSt
  lpe : LpeSt
  csb : CsbSt
  rtc : RtcSt
  dop : DopSt
  fab : FabSt
  pwr : PwrSt
  tim : TimSt
  trj : TrjSt
  mpg : MpgSt
  nsv : NsvSt
  cfg : CfgSt
  upd : UpdSt
  saf : SafSt
  recd : RecSt
  mtr : MtrSt
  hqc : HqcSt
  lio : LioSt
  mgt : MgtSt
deriving DecidableEq, Repr

/-- A source with no sample yet. -/
def csbSrc0 : CsbSrc := ⟨[], 0, 0, 0, 0, 0, false⟩

/-- A module of a variant right after the first power-up of its battery domain, before POWER_ON. -/
def State.resetOf (v : Variant) : State where
  variant := v
  pending := []
  powered := false
  words := []
  dram := []
  cache := []
  freezes := []
  shadows := []
  hwSet := []
  freeCount := 0
  emitted := []
  clock := ⟨0, 0, 0, 0, 0, false, 0⟩
  kmp := []
  sio := ⟨[], [], [], [], []⟩
  key := key0
  pgr := ⟨[], 0, [], [], [], [], [], [], [], [], [], [], []⟩
  lpe := ⟨[], [], 0, [], false, none⟩
  csb := ⟨csbSrc0, csbSrc0, false, false, true, true, false, false, 0, false, false, [], [], [], false, 0,
    [], [], false, false⟩
  cyc := cyc0
  trj := ⟨0, [], none, 0, 0⟩
  rtc := ⟨0, 0, 0, 0, 0, false, false, none⟩
  dop := ⟨0, 0, 0, 0, false, true, 0, [], 0, false, false, [], none, none⟩
  pwr := ⟨none, false, [], 0, 0, false, false⟩
  fab := ⟨[], false, [], none, false, none, [], [], [], [], 0⟩
  tim := ⟨[], [], [], [], [], 0, 0, true⟩
  mpg := ⟨[], []⟩
  nsv := nsv0
  cfg := ⟨none, none, 0, none, false, false, none, false⟩
  upd := upd0
  saf := ⟨⟨0xACE1#16, false, false, 0, false⟩, ⟨0x1D2B#16, false, false, 0, false⟩, [], [], false, false, false, false⟩
  recd := ⟨[], none, false, false, [], 0, [], false, false, [], 0, 0⟩
  mtr := ⟨[], [], 0, none, none, bankEmpty, bankEmpty, 0, none, false, []⟩
  hqc := ⟨[], none, none, none, 0, 0⟩
  lio := ⟨[], false⟩
  mgt := ⟨[], 0, 0⟩

/-- The machine after reset: a ZKV-4280 (log entry 3). -/
def State.reset : State := State.resetOf .zkv4280

end Sys2Proof.Machine
end

