-- ==== Sys2Proof/Machine/Ops.lean ====
section
/-! DEFINITION. The named operations over the stores of the machine: keyed lists in one canonical form (keys strictly rising, no
entry equal to what an unlisted key reads as), the word store of registers and table memories, the byte memories, the
clock, the outward record, free values, CRC-32C. -/
namespace Sys2Proof.Machine

/-! ### Keyed lists -/

/-- The value at a key; an unlisted key reads as `d k`. -/
def look {α : Type} (d : Nat → α) : List (Nat × α) → Nat → α
  | [], k => d k
  | (k', v) :: t, k => if k' = k then v else look d t k

/-- Insert or replace, keeping keys in rising order. -/
def put {α : Type} (k : Nat) (v : α) : List (Nat × α) → List (Nat × α)
  | [] => [(k, v)]
  | (k', v') :: t =>
    if k < k' then (k, v) :: (k', v') :: t
    else if k = k' then (k, v) :: t
    else (k', v') :: put k v t

/-- Remove a key. -/
def cut {α : Type} (k : Nat) (m : List (Nat × α)) : List (Nat × α) := m.filter (fun e => e.1 != k)

/-- Write a value; the value an unlisted key reads as removes the entry. -/
def store {α : Type} [DecidableEq α] (d : Nat → α) (k : Nat) (v : α) (m : List (Nat × α)) : List (Nat × α) :=
  if v = d k then cut k m else put k v m

/-- The canonical form: keys strictly rising, no entry equal to its key's unlisted value. -/
def canon {α : Type} [DecidableEq α] (d : Nat → α) (m : List (Nat × α)) : Bool :=
  decide ((m.map Prod.fst).Pairwise (· < ·)) && m.all (fun e => decide (e.2 ≠ d e.1))

/-- What a byte nothing has written reads as (log entry 5). -/
def zeroByte : Nat → Byte := fun _ => 0

/-- The canonical form of a byte memory. -/
abbrev Memory.wf (m : List Host.Cell) : Bool := canon zeroByte m

/-! ### The word store -/

/-- A word of the store by its key. -/
def State.word (s : State) (k : Nat) : Word := look resetWord s.words k

/-- Write a whole word of the store. -/
def State.setWord (s : State) (k : Nat) (v : Word) : State := { s with words := store resetWord k v s.words }

/-- A field's value. -/
def State.get (s : State) (f : Fld) : Nat := ((s.word f.key).toNat / 2 ^ f.lsb) % 2 ^ f.width

/-- A word with a field replaced. -/
def insertField (w : Word) (lsb width v : Nat) : Word :=
  let m : Nat := (2 ^ width - 1) * 2 ^ lsb
  (w &&& ~~~(BitVec.ofNat 32 m)) ||| (BitVec.ofNat 32 (v % 2 ^ width * 2 ^ lsb))

/-- Write a field (hardware's own writing, whatever the access code). -/
def State.set (s : State) (f : Fld) (v : Nat) : State :=
  s.setWord f.key (insertField (s.word f.key) f.lsb f.width v)

/-- A one-bit field as a Boolean. -/
def State.bit (s : State) (f : Fld) : Bool := s.get f == 1
/-- Write a one-bit field from a Boolean. -/
def State.setBit (s : State) (f : Fld) (b : Bool) : State := s.set f b.toNat
/-- A field read as a two's complement number. -/
def State.geti (s : State) (f : Fld) : Int :=
  let v := s.get f
  if v < 2 ^ (f.width - 1) then (v : Int) else (v : Int) - 2 ^ f.width
/-- Write a two's complement number into a field (taken modulo its width). -/
def State.seti (s : State) (f : Fld) (v : Int) : State := s.set f (v % (2 ^ f.width : Int)).toNat
/-- A whole register as a word. -/
def State.getw (s : State) (f : Fld) : Word := BitVec.ofNat 32 (s.get f)
/-- Write a whole register from a word. -/
def State.setw (s : State) (f : Fld) (v : Word) : State := s.set f v.toNat

/-- Hardware sets a flag bit; the bit is remembered for the rest of this clock, so that a write of 1 to clear in the same clock leaves it set (R6, R11). -/
def State.flag (s : State) (f : Fld) : State :=
  { s.set f 1 with hwSet := (f.key, f.lsb) :: s.hwSet }

/-- Hardware set this bit in the current clock (R11). -/
def State.justSet (s : State) (k b : Nat) : Bool := s.hwSet.contains (k, b)

/-- Increment a 32-bit counter, saturating at 0xFFFF_FFFF. -/
def State.inc (s : State) (f : Fld) : State := s.set f (min (s.get f + 1) (2 ^ f.width - 1))
/-- Add to a saturating counter. -/
def State.addSat (s : State) (f : Fld) (n : Nat) : State := s.set f (min (s.get f + n) (2 ^ f.width - 1))
/-- Add to a counter that wraps. -/
def State.addWrap (s : State) (f : Fld) (n : Nat) : State := s.set f ((s.get f + n) % 2 ^ f.width)

/-- Return to reset every word whose key satisfies `p`. -/
def State.clearWords (s : State) (p : Nat → Bool) : State := { s with words := s.words.filter (fun e => !p e.1) }

/-- The block index a word's key belongs to (register or table word). -/
def keyBlock (k : Nat) : Nat :=
  if k < 0x10000000000 then k % 0x1000000 / 0x10000 else k / 0x10000000000 - 1

/-! ### Byte memories -/

/-- One byte of a byte memory. -/
def memRead (m : List Host.Cell) (a : Nat) : Byte := look zeroByte m a
/-- Write one byte of a byte memory. -/
def memWrite (m : List Host.Cell) (a : Nat) (v : Byte) : List Host.Cell := store zeroByte a v m
/-- `n` bytes from an address. -/
def memReadN (m : List Host.Cell) (a : Nat) : Nat → List Byte
  | 0 => []
  | n + 1 => memRead m a :: memReadN m (a + 1) n
/-- Write bytes from an address upward. -/
def memWriteN (m : List Host.Cell) (a : Nat) : List Byte → List Host.Cell
  | [] => m
  | b :: t => memWriteN (memWrite m a b) (a + 1) t
/-- Drop `n` bytes from an address (they read as unwritten). -/
def memClear (m : List Host.Cell) (a n : Nat) : List Host.Cell := m.filter (fun e => e.1 < a || a + n ≤ e.1)
/-- The value of bytes, lowest address least significant (R9). -/
def leNat : List Byte → Nat
  | [] => 0
  | b :: t => b.toNat + 256 * leNat t
/-- The `n` bytes of a value, least significant first. -/
def leBytes (v : Nat) : Nat → List Byte
  | 0 => []
  | n + 1 => BitVec.ofNat 8 (v % 256) :: leBytes (v / 256) n

/-! ### CRC-32C (R388, R423, R495) -/

/-- One bit of the reflected CRC-32C. -/
def crcBit (c : BitVec 32) : BitVec 32 := if c.getLsbD 0 then (c >>> 1) ^^^ 0x82F63B78#32 else c >>> 1
/-- One byte. -/
def crcByte (c : BitVec 32) (b : Byte) : BitVec 32 :=
  let c0 := c ^^^ b.zeroExtend 32
  crcBit (crcBit (crcBit (crcBit (crcBit (crcBit (crcBit (crcBit c0)))))))
/-- CRC-32C of a byte string. -/
def crc32c (bs : List Byte) : BitVec 32 := ~~~(bs.foldl crcByte 0xFFFFFFFF#32)

/-! ### Time -/

/-- The whole 2⁻³² ns units that `n` clocks of slewing have added: 4 ns × 100 ppm a clock (R335). -/
def slewUnits (n : Nat) : Nat := n * 2 ^ 34 / 10 ^ 4

/-- Module time after `n` more clocks (R332, R335): each adds 4 ns + TIM_ADDEND × 2⁻³² ns, and 100 ppm more or less while slewing. -/
def Clock.run (c : Clock) (addend : Int) (n : Nat) : Clock :=
  let k := min n c.slewLeft
  let sl : Int := (slewUnits (c.slewRun + k) : Int) - (slewUnits c.slewRun : Int)
  let add : Int := (n : Int) * (4 * 2 ^ 32 + addend) + (if c.slewNeg then -sl else sl)
  let t := ((c.frac : Int) + add).toNat
  let ns := c.ns + t / 2 ^ 32
  { c with sec := (c.sec + ns / 10 ^ 9) % 2 ^ 48, ns := ns % 10 ^ 9, frac := t % 2 ^ 32,
           slewLeft := c.slewLeft - k, slewRun := c.slewRun + k, up := c.up + n }

/-- Module time in nanoseconds. -/
def Clock.total (c : Clock) : Nat := c.sec * 10 ^ 9 + c.ns

/-- Module time stepped by a signed number of nanoseconds (R335). -/
def Clock.step (c : Clock) (d : Int) : Clock :=
  let t := ((c.total : Int) + d) % (2 ^ 48 * 10 ^ 9 : Int)
  { c with sec := (t / 10 ^ 9).toNat, ns := (t % 10 ^ 9).toNat }

/-- Module time now, in nanoseconds. -/
def State.now (s : State) : Nat := s.clock.total
/-- Module seconds, low 32 bits. -/
def State.sec32 (s : State) : Nat := s.clock.sec % 2 ^ 32
/-- Module nanoseconds. -/
def State.nsNow (s : State) : Nat := s.clock.ns
/-- Uptime in microseconds (R154). -/
def State.upUs (s : State) : Nat := s.clock.up / 250

/-- Time passes before a command: `dt` clocks of the 250 MHz time base since the command before it, 0 for the same clock (log
entry 1). The outward record starts afresh, and the bits hardware set in an earlier clock are no longer protected by R11. Time
runs only while AON is powered; the RTC's crystal also runs on the cell. -/
def State.elapse (s : State) (dt : Nat) : State :=
  { s with
    clock := if s.powered then s.clock.run (s.geti F.TIM_ADDEND.ADDEND) dt else s.clock
    rtc := if s.rtc.stopped then s.rtc else { s.rtc with win := s.rtc.win + dt }
    hwSet := if dt = 0 then s.hwSet else []
    emitted := [] }

/-- Add to the outward record. -/
def State.emit (s : State) (e : Emit) : State := { s with emitted := s.emitted ++ [e] }

/-- A free value: nothing constrains it (log entry 2). -/
def State.free (s : State) : Nat := (Config.freeValue s.freeCount).toNat
/-- The step past a free value that was used. -/
def State.nextFree (s : State) : State := { s with freeCount := s.freeCount + 1 }

/-! ### What is present and what serves -/

/-- Station `n` exists on the variant (R2). -/
def State.stnPresent (s : State) (n : Nat) : Bool := n < 4096 && (s.variant != .zkv4240 || n < 1024)
/-- Loop slot `n` exists on the variant. -/
def State.slotPresent (s : State) (n : Nat) : Bool := n < 4096 && (s.variant != .zkv4240 || n < 1024)
/-- Local axis `n` exists on the variant. -/
def State.axPresent (s : State) (n : Nat) : Bool := n < 16 && (s.variant != .zkv4240 || n < 8)
/-- Metering point `n` exists on the variant. -/
def State.ptPresent (s : State) (n : Nat) : Bool := n < 8 && (s.variant != .zkv4240 || n < 4)
/-- Island `n` exists on the variant. -/
def State.islPresent (s : State) (n : Nat) : Bool := n < 2 && (s.variant != .zkv4240 || n < 1)
/-- Fabric port `n` exists on the variant. -/
def State.portPresent (s : State) (n : Nat) : Bool := n < 4 && (s.variant != .zkv4240 || n < 2)
/-- The dispatch optimiser exists on the variant. -/
def State.dopPresent (s : State) : Bool := s.variant == .zkv4280

/-- SYS_SVC.STATE (Table 15.7). -/
def State.svc (s : State) : Nat := s.get F.SYS_SVC.STATE
/-- The complex that is ACTIVE, if one is (R415). -/
def State.activeCx (s : State) : Option Rq :=
  if s.get F.SAF_CX_STAT.CXA = 1 then some .cxA
  else if s.get F.SAF_CX_STAT.CXB = 1 then some .cxB
  else none
/-- The requester is the active real-time complex. -/
def State.isActive (s : State) (q : Rq) : Bool := s.activeCx == some q

end Sys2Proof.Machine
end

