-- ==== Sys2Proof/Machine/Operands.lean ====
section
/-! DEFINITION. The operand forms the engines share: data types and their conversions (R141, Table 6.4), station pages through
the pager's cache (R116 to R119, R123), output staging and commit (R118), auxiliary inputs, model predictions, axis
positions and targets, global variables, loop inputs. -/
namespace Sys2Proof.Machine

/-! ### Data types (Table 6.4, R141) -/

/-- A value as an operand of a block sees it: every integer type is INT32, REAL is binary32 (R141). -/
inductive Num where
  | int (i : Int)
  | real (w : Word)
deriving DecidableEq, Repr

/-- Clamp an integer to a range. -/
def clampI (lo hi x : Int) : Int := if x < lo then lo else if hi < x then hi else x
/-- Saturate to INT32 (R142). -/
def sat32 (x : Int) : Int := clampI (-2147483648) 2147483647 x
/-- A number as an n-bit two's complement pattern. -/
def toBits (n : Nat) (x : Int) : Nat := (x % (2 ^ n : Int)).toNat
/-- The two's complement reading of an n-bit pattern. -/
def ofBits (n v : Nat) : Int := if v < 2 ^ (n - 1) then (v : Int) else (v : Int) - 2 ^ n

/-- Bytes of a data type (Table 6.4). -/
def dtSize (dt : Nat) : Nat :=
  if dt = 3 ∨ dt = 4 then 2 else if dt = 5 ∨ dt = 6 ∨ dt = 7 then 4 else 1

/-- The range of an integer data type. -/
def dtRange (dt : Nat) : Int × Int :=
  match dt with
  | 1 => (-128, 127)
  | 2 => (0, 255)
  | 3 => (-32768, 32767)
  | 4 => (0, 65535)
  | 5 => (-2147483648, 2147483647)
  | 6 => (0, 4294967295)
  | _ => (0, 1)

/-- The raw integer a pattern of an integer data type stands for, before conversion. -/
def dtRaw (dt v : Nat) : Int :=
  match dt with
  | 1 => ofBits 8 (v % 256)
  | 3 => ofBits 16 (v % 65536)
  | 5 => ofBits 32 (v % 2 ^ 32)
  | 0 => if v % 256 = 0 then 0 else 1
  | _ => (v : Int)

/-- An input converted on reading (R141): integers become INT32 (UINT32 above 2³¹−1 saturates), REAL stays, BOOL is 0 or 1. `v` is the
pattern of `dtSize dt` bytes at the operand's address. -/
def readNum (dt v : Nat) : Num :=
  if dt = 7 then .real (BitVec.ofNat 32 v)
  else if dt ≥ 8 then .int (v / 2 ^ (dt - 8) % 2)
  else .int (sat32 (dtRaw dt v))

/-- A REAL to an integer range: nearest even, saturating; NaN gives 0, an infinity the limit of its sign (R141). -/
def realToInt (lo hi : Int) (w : Word) : Int :=
  match f32val w with
  | .nan => 0
  | .inf n => if n then lo else hi
  | v => clampI lo hi v.rne

/-- A number as REAL: an integer converts to nearest even (R141). -/
def Num.toReal : Num → Word
  | .real w => w
  | .int i => f32bits (FVal.ofInt i)

/-- A number as INT32. -/
def Num.toInt : Num → Int
  | .int i => i
  | .real w => realToInt (-2147483648) 2147483647 w

/-- A number as a truth value: non-zero (R141). -/
def Num.truth : Num → Bool
  | .int i => i != 0
  | .real w => !(f32val w).isZero

/-- A result converted on writing to a data type: the new pattern of the addressed bytes, whose old pattern is `old` (R141, Table 6.4). -/
def writeNum (dt : Nat) (n : Num) (old : Nat) : Nat :=
  if dt = 7 then n.toReal.toNat
  else if dt = 0 then (if n.truth then 1 else 0)
  else if dt ≥ 8 then
    let b := 2 ^ (dt - 8)
    let cleared := old - (old / b % 2) * b
    if n.truth then cleared + b else cleared
  else
    let r := dtRange dt
    let x := match n with
      | .int i => clampI r.1 r.2 i
      | .real w => realToInt r.1 r.2 w
    toBits (8 * dtSize dt) x

/-! ### Station pages (R116 to R119, R123) -/

/-- The page's cache entry, if it is resident or on its way. -/
def State.page? (s : State) (stn : Nat) : Option Page := s.pgr.pages.find? (fun p => p.stn == stn)

/-- The page is resident: in the cache and not still loading. -/
def State.resident (s : State) (stn : Nat) : Bool :=
  match s.page? stn with
  | some p => !p.loading && !p.writing
  | none => false

/-- One byte of a station page through PGR: the resident copy is the authoritative one (R119); a write that waits for a load or a
write-back is seen (R123). -/
def State.pageByte (s : State) (stn off : Nat) : Byte :=
  let a := 4096 * stn + off
  match s.page? stn with
  | some p =>
    match p.waits.reverse.find? (fun w => w.1 == a) with
    | some w => w.2
    | none => if p.loading then memRead s.dram a else memRead s.cache a
  | none => memRead s.dram a

/-- `n` bytes of a station page. -/
def State.pageBytes (s : State) (stn off : Nat) : Nat → List Byte
  | 0 => []
  | n + 1 => s.pageByte stn off :: s.pageBytes stn (off + 1) n

/-- A little-endian value of `n` bytes of a station page. -/
def State.pageNat (s : State) (stn off n : Nat) : Nat := leNat (s.pageBytes stn off n)

/-- Change the cache entries of one page. -/
def State.updPage (s : State) (stn : Nat) (f : Page → Page) : State :=
  { s with pgr := { s.pgr with pages := s.pgr.pages.map (fun p => if p.stn = stn then f p else p) } }

/-- Write bytes into a station page through PGR (R119, R123): into the cache if the page is resident, marking it dirty; held until
the load or the write-back ends where one is under way; into DRAM otherwise. -/
def State.pageWrite (s : State) (stn off : Nat) (bs : List Byte) : State :=
  let a := 4096 * stn + off
  match s.page? stn with
  | some p =>
    if p.loading || p.writing then
      s.updPage stn (fun q => { q with waits := q.waits ++ (bs.zipIdx.map (fun e => (a + e.2, e.1))) })
    else
      { s with cache := memWriteN s.cache a bs }.updPage stn (fun q => { q with dirty := true })
  | none => { s with dram := memWriteN s.dram a bs }

/-- Where input buffer b stands in a page (Table 5.1). -/
def inBuf (b : Nat) : Nat := if b = 0 then 0x40 else 0x150
/-- Index of the newest complete input buffer: page header byte 2 bit 2 (Table 5.1). -/
def State.newest (s : State) (stn : Nat) : Nat := (s.pageByte stn 2).toNat / 4 % 2
/-- Index of the latched input buffer: bit 0. -/
def State.latched (s : State) (stn : Nat) : Nat := (s.pageByte stn 2).toNat % 2
/-- The flags byte of an input buffer: bit 0 VALID, bit 1 SUB, bit 2 SUBFB (R117). -/
def State.bufFlags (s : State) (stn b : Nat) : Nat := (s.pageByte stn (inBuf b + 9)).toNat
/-- The buffer carries SUB or VALID = 0 (R191). -/
def State.bufDrop (s : State) (stn b : Nat) : Bool := s.bufFlags stn b / 2 % 2 == 1 || s.bufFlags stn b % 2 == 0
/-- The pattern of a field of an input image. -/
def State.inPattern (s : State) (stn b ofs dt : Nat) : Nat := s.pageNat stn (inBuf b + 16 + ofs) (dtSize dt)
/-- A field of a station's newest complete input image (R18). -/
def State.inField (s : State) (stn ofs dt : Nat) : Num := readNum dt (s.inPattern stn (s.newest stn) ofs dt)

/-- Commit bytes of the output image (R118): staging to committed, CSEQ + 1, commit time. -/
def State.commitOut (s : State) (stn ofs n : Nat) : State :=
  let s1 := s.pageWrite stn (0x360 + ofs) (s.pageBytes stn (0x260 + ofs) n)
  let seq := (s1.pageNat stn 0x460 4 + 1) % 2 ^ 32
  s1.pageWrite stn 0x460 (leBytes seq 4 ++ leBytes s.sec32 4 ++ leBytes s.nsNow 4)

/-- Write a field of the output staging image. -/
def State.stageOut (s : State) (stn ofs dt : Nat) (n : Num) : State :=
  let old := s.pageNat stn (0x260 + ofs) (dtSize dt)
  s.pageWrite stn (0x260 + ofs) (leBytes (writeNum dt n old) (dtSize dt))

/-- Write a field of the output image and commit its bytes (R118, R170, R349). -/
def State.outField (s : State) (stn ofs dt : Nat) (n : Num) : State :=
  (s.stageOut stn ofs dt n).commitOut stn ofs (dtSize dt)

/-! ### Stations -/

/-- A station's session state when nothing has happened to it. -/
def stn0 : Stn :=
  ⟨0, none, 0, 0, [], false, none, none, 0, 0, 0, none, [], [], none, none⟩
/-- A station's session state. -/
def State.stn (s : State) (n : Nat) : Stn := look (fun _ => stn0) s.sio.stns n
/-- Change it. -/
def State.setStn (s : State) (n : Nat) (x : Stn) : State :=
  { s with sio := { s.sio with stns := store (fun _ => stn0) n x s.sio.stns } }
/-- The station is UP (Table 4.1). -/
def State.stnUp (s : State) (n : Nat) : Bool := s.get (F.SW_STAT.STATE n) == 3

/-! ### Model predictions (R241 to R243) -/

/-- A word of the current model image. -/
def State.imgWord (s : State) (off : Nat) : Word := look (fun _ => 0) s.nsv.img (s.nsv.cur * 0x100000 + off)
/-- The model is usable: an image exists and is not stale (R243). -/
def State.modelUsable (s : State) : Bool := s.bit F.NSV_STAT.IMG && !s.bit F.NSV_STAT.STALE
/-- Sensor j is valid in the current image (Table 9.5). -/
def State.sensValid (s : State) (j : Nat) : Bool := (s.imgWord (0x40 + 4 * (j / 32))).getLsbD (j % 32)
/-- The prediction of sensor j in the current image. -/
def State.pred (s : State) (j : Nat) : Word := s.imgWord (0x1000 + 4 * j)

/-! ### Auxiliary inputs, global variables, axes -/

/-- Auxiliary input a is invalid (R522). -/
def State.aiInvalid (s : State) (a : Nat) : Bool := s.get F.LIO_AI_INV.INV / 2 ^ a % 2 == 1
/-- Its engineering value (R521). -/
def State.aiVal (s : State) (a : Nat) : Word := s.getw (F.AIn_VAL.VAL a)
/-- Digital input k's filtered level (R525). -/
def State.di (s : State) (k : Nat) : Bool := s.get F.LIO_DI.DI / 2 ^ k % 2 == 1
/-- A word of the cycle program's global variable area (Table 6.1). -/
def State.gvar (s : State) (ofs : Nat) : Word := s.word (tabKey 3 (0x300000 + ofs / 4 * 4))

/-- Value v of metering point p as INT32 in its own LSB (R230): V1 to V3, P, Q, P1 to P3. -/
def State.ptValue (s : State) (p v : Nat) : Int :=
  s.geti (([F.PTn_V1.V p, F.PTn_V2.V p, F.PTn_V3.V p, F.PTn_P.P p, F.PTn_Q.Q p, F.PTn_P1.P p, F.PTn_P2.P p, F.PTn_P3.P p])[v]?.getD (F.PTn_V1.V p))

/-- A local axis's planner state. -/
def State.ax (s : State) (n : Nat) : Ax := look (fun _ => ax0) s.mpg.axes n
def State.setAx (s : State) (n : Nat) (x : Ax) : State :=
  { s with mpg := { s.mpg with axes := store (fun _ => ax0) n x s.mpg.axes } }
/-- A remote axis's plan. -/
def State.ra (s : State) (r : Nat) : Ax := look (fun _ => ax0) s.mpg.ras r
def State.setRa (s : State) (r : Nat) (x : Ax) : State :=
  { s with mpg := { s.mpg with ras := store (fun _ => ax0) r x s.mpg.ras } }

/-- RA_STAT's fields stand where AXn_STAT's do (Table 8.4). -/
abbrev raStat (f : Nat → Fld) (r : Nat) : Fld := ⟨R.RA_STAT r, (f 0).lsb, (f 0).width⟩

/-- A remote axis's position: the reported one with FB_EN = 1, the planned one otherwise (R219). -/
def State.raPos (s : State) (r : Nat) : Int :=
  if s.bit (T.MPG_RA.FB_EN r) then
    let st := s.get (T.MPG_RA.STATION r)
    ofBits 32 (s.inPattern st (s.newest st) (s.get (T.MPG_RA.FB_OFS r)) 5)
  else (s.ra r).pos

/-- The POS item of axis n, numbered 0–15 local and 16–271 remote (R202). -/
def State.axisPos (s : State) (n : Nat) : Int :=
  if n < 16 then s.geti (F.AXn_POS.POS n) else s.raPos (n - 16)

/-- A target written by writer `src` (R203, R204): ignored with MPG_ERR.WRITER from a writer that is not configured; discarded while the axis is
disabled; held while it is homing (R216); otherwise taken at the next profile tick (R206). -/
def State.writeTarget (s : State) (n src : Nat) (v : Int) : State :=
  if n < 16 then
    if s.get (F.AXn_CFG.TGT_SRC n) ≠ src then s.flag F.MPG_ERR.WRITER
    else if !s.bit (F.AXn_STAT.EN_OUT n) then s
    else if s.get (F.AXn_STAT.PSTATE n) = 8 then s.setAx n { s.ax n with held := some v }
    else (s.seti (F.AXn_TARGET.TARGET n) v).setAx n { s.ax n with fresh := true, want := v }
  else
    let r := n - 16
    if s.get (T.MPG_RA.TGT_SRC r) ≠ src then s.flag F.MPG_ERR.WRITER
    else if !s.bit (T.MPG_RA.EN r) then s
    else (s.seti (F.RA_TARGET.TARGET r) v).setRa r { s.ra r with fresh := true, want := v }

/-! ### Loop slots -/

/-- A slot that has not been started. -/
def slot0 : Slot :=
  ⟨0, none, 0, 0, 0, 0, 0, 0, 0, 0, 0, 0, 0, false, 0, 0, false, false, 0, false, 0, 0, 0, [], ⟨0, 0, 0, 0, 0⟩⟩
/-- A slot's state. -/
def State.slot (s : State) (n : Nat) : Slot := look (fun _ => slot0) s.lpe.slots n
/-- Change it. -/
def State.setSlot (s : State) (n : Nat) (x : Slot) : State :=
  { s with lpe := { s.lpe with slots := store (fun _ => slot0) n x s.lpe.slots } }

/-- The value of a stage mantissa: m × 2^E (R171). -/
def stageVal (m : Int) (e : Int) : FVal :=
  if e ≥ 0 then .ofQ (m * 2 ^ e.toNat) 1 else .ofQ m (2 ^ (-e).toNat)

/-- A setpoint write from writer `src` (R169): 0 host, 1 cycle program, 2 scheduled action. -/
def State.writeSp (s : State) (n src : Nat) (v : Word) : State :=
  if s.get (T.LPE_SLOT.SP_SRC n) ≠ src then s.flag F.LPE_ERR.WRITER
  else if (f32val v).notFinite then s.flag F.LPE_ERR.RANGE
  else
    let lo := s.getw (T.LPE_SLOT.SP_LO n)
    let hi := s.getw (T.LPE_SLOT.SP_HI n)
    let c := if (f32val v).lt (f32val lo) then lo else if (f32val hi).lt (f32val v) then hi else v
    (s.setSlot n { s.slot n with sp := c }).setBit (F.LPn_STAT.SPCLMP n) (c != v)

/-- A manual-output write from writer `src` (R169): 0 host, 1 cycle program. -/
def State.writeMan (s : State) (n src : Nat) (v : Word) : State :=
  if s.get (T.LPE_SLOT.MAN_SRC n) ≠ src then s.flag F.LPE_ERR.WRITER
  else if (f32val v).notFinite then s.flag F.LPE_ERR.RANGE
  else s.setSlot n { s.slot n with man := v }

/-- A feedforward write by the cycle program (R169). -/
def State.writeFf (s : State) (n : Nat) (v : Word) : State :=
  if (f32val v).notFinite then s.flag F.LPE_ERR.RANGE
  else s.setSlot n { s.slot n with ff := v }

end Sys2Proof.Machine
end

