-- ==== Sys2Proof/Machine/Flags.lean ====
section
/-! DEFINITION. What units share when they flag something: event records and flushes of REC (R487 to R489, R494, R496, R497),
release of event tasks (R130), a loop's commit and the trip of a group (R170, R183), the fast outputs' channels (R298), the
alarm (R430), the availability bits (R413), safe states (R428) and the raising of a SAF source (R425 to R427). -/
namespace Sys2Proof.Machine

/-! ### Event records -/

/-- Bytes of a record (R494). -/
def RecRecord.size : RecRecord → Nat
  | .event .. => 32
  | .interval .. => 192
/-- Severity of a record. -/
def RecRecord.sev : RecRecord → Nat
  | .event sev .. => sev
  | .interval sev .. => sev
/-- Sequence of a record. -/
def RecRecord.rseq : RecRecord → Nat
  | .event _ r .. => r
  | .interval _ r .. => r

/-- Bytes of records. -/
def recBytes (l : List RecRecord) : Nat := (l.map RecRecord.size).sum

/-- Bytes in the 512 KiB buffer: pending records and those of a flush in progress. -/
def State.recFill (s : State) : Nat := recBytes s.recd.pending + recBytes (s.recd.flushing.getD [])

/-- Show the buffer fill in KiB (Table 20.5). -/
def State.showFill (s : State) : State := s.set F.REC_STAT.FILL ((s.recFill + 1023) / 1024)

/-- Start a flush (R497): it takes every record pending; during a flush, or while the archive is being cleared (R501), a further one waits. -/
def State.startFlush (s : State) : State :=
  if s.bit F.REC_STAT.CLEARING then { s with recd := { s.recd with again := true } }
  else match s.recd.flushing with
  | some _ => { s with recd := { s.recd with again := true } }
  | none =>
    ({ s with recd := { s.recd with flushing := some s.recd.pending, pending := [], lastFlush := s.clock.up } }).set
      F.REC_STAT.FLUSHING 1

/-- The lowest severity among records, if there is any below `sev`. -/
def lowestBelow (sev : Nat) (l : List RecRecord) : Option Nat :=
  let m := l.foldl (fun acc r => min acc r.sev) sev
  if m < sev then some m else none

/-- Drop the first record of a severity. -/
def dropFirst (sev : Nat) : List RecRecord → List RecRecord
  | [] => []
  | r :: t => if r.sev = sev then t else r :: dropFirst sev t

/-- Put a record in the buffer, discarding lower severities first where it does not fit (R496); `fuel` bounds the discards. -/
def State.fitRecord (s : State) (r : RecRecord) : Nat → State
  | 0 => s
  | fuel + 1 =>
    if s.recFill + r.size ≤ 524288 then
      { s with recd := { s.recd with pending := s.recd.pending ++ [r] } }
    else
      let s1 := (s.inc F.REC_DROP_CNT.COUNT).flag F.REC_ERR.DROP
      match lowestBelow r.sev s.recd.pending with
      | some m => State.fitRecord { s1 with recd := { s1.recd with pending := dropFirst m s1.recd.pending } } r fuel
      | none => s1

/-- Queue a record: next RSEQ, fit, then the flush triggers of R497. -/
def State.queueRecord (s : State) (mk : Nat → RecRecord) : State :=
  let q := (s.recd.rseq + 1) % 2 ^ 32
  let r := mk q
  let s1 := ({ s with recd := { s.recd with rseq := q } }).set F.REC_RSEQ.SEQ q
  let s2 := (s1.fitRecord r (s1.recd.pending.length + 2)).showFill
  if s.get F.REC_CFG.FLUSH_SEV ≤ r.sev || s.get F.REC_FLUSH.WMARK * 1024 ≤ s2.recFill then s2.startFlush else s2

/-- Milliseconds from a recorded instant to now (module time). -/
def msSince (s : State) (sec ns : Nat) : Int :=
  ((s.now : Int) - ((s.clock.sec / 2 ^ 32 * 2 ^ 32 + sec) * 10 ^ 9 + ns : Nat)) / 10 ^ 6

/-- A pending event record coalesces with a new event (R489). -/
def coalesces (s : State) (src code index : Nat) : RecRecord → Bool
  | .event _ _ sec ns src' code' index' _ _ _ =>
    src == src' && code == code' && index == index' &&
      decide (0 ≤ msSince s sec ns) && decide (msSince s sec ns ≤ s.get F.REC_CFG.COAL_MS)
  | _ => false

/-- The coalesced record. -/
def coalesceRec (s : State) (sev : Nat) : RecRecord → RecRecord
  | .event sv q sec ns src code index data rep _ =>
    .event (max sv sev) q sec ns src code index data (min (rep + 1) 65535) (min (msSince s sec ns).toNat 65535)
  | r => r

/-- Replace the first record that satisfies `p`. -/
def replFirst (p : RecRecord → Bool) (f : RecRecord → RecRecord) : List RecRecord → List RecRecord
  | [] => []
  | r :: t => if p r then f r :: t else r :: replFirst p f t

/-- A unit logs an event (R487, R488): coalesced into a pending record, or queued as a record of its own. REC records while it runs (R498). -/
def State.logData (s : State) (src code index data sev : Nat) : State :=
  if !s.bit F.REC_STAT.RUN then s
  else if s.get F.REC_CFG.COAL_MS ≠ 0 && s.recd.pending.any (coalesces s src code index) then
    ({ s with recd := { s.recd with
        pending := replFirst (coalesces s src code index) (coalesceRec s sev) s.recd.pending } }).inc F.REC_COAL_CNT.COUNT
  else
    (s.queueRecord (fun q => .event sev q s.sec32 s.nsNow src code index data 0 0)).inc F.REC_EVT_CNT.COUNT

/-- A unit logs an event whose DATA the spec does not state: DATA is a free value (log entry 7). -/
def State.log (s : State) (src code index sev : Nat) : State :=
  (s.logData src code index (s.free % 2 ^ 32) sev).nextFree

/-! ### Event tasks (R130) -/

/-- Task t is an enabled event task of source `src`. -/
def State.eventTask (s : State) (t src : Nat) : Bool :=
  s.get (T.PGR_TASK.TYPE t) == 3 && s.bit (T.PGR_TASK.EN t) && s.get (T.PGR_TASK.SRC t) == src

/-- A task's READY bit (Table 5.4). -/
def readyFld (t : Nat) : Fld := ⟨R.PGR_READYn (t / 32), t % 32, 1⟩

/-- Make a task ready. -/
def State.makeReady (s : State) (t : Nat) : State :=
  (({ s with pgr := { s.pgr with ready := s.pgr.ready ++ [t] } }).set (F.T_STAT.STATE t) 1).set (readyFld t) 1

/-- Release an event task: queued once while it is ready or running, lost beyond that (R130). -/
def State.releaseEvent (s : State) (t : Nat) : State :=
  if !s.bit F.PGR_STAT.SCHED then s
  else if s.get (F.T_STAT.STATE t) = 0 then s.makeReady t
  else if !s.bit (F.T_STAT.PEND t) then s.set (F.T_STAT.PEND t) 1
  else (s.inc (F.T_LOST.COUNT t)).flag F.PGR_ERR.TASK_LOST

/-- Release every event task a predicate selects, in ascending task number (R126). -/
def State.releaseWhere (s : State) (p : State → Nat → Bool) : State :=
  (List.range 64).foldl (fun s t => if p s t then s.releaseEvent t else s) s

/-- Tasks released by the raising of a SAF source (R130, SRC 5). -/
def State.releaseSaf (s : State) (src : Nat) : State :=
  s.releaseWhere (fun s t => s.eventTask t 5 &&
    (s.get (T.PGR_TASK.SRC_IDX t) == 0 || s.get (T.PGR_TASK.SRC_IDX t) == src))

/-! ### Tables -/

/-- The entries of a table whose enable bit `b` of word 0 is set, in ascending order. -/
def State.entries (s : State) (blk base stride cnt b : Nat) : List Nat :=
  let lo := tabKey blk base
  s.words.filterMap (fun e =>
    if lo ≤ e.1 && e.1 < lo + stride * cnt && (e.1 - lo) % stride == 0 && e.2.getLsbD b
    then some ((e.1 - lo) / stride) else none)

/-- Enabled loop slots that exist on the variant. -/
def State.enabledSlots (s : State) : List Nat := (s.entries 6 0 128 4096 0).filter s.slotPresent
/-- Members of override group g (R181), the lead first. -/
def State.members (s : State) (g : Nat) : List Nat :=
  s.enabledSlots.filter (fun n => s.bit (T.LPE_SLOT.GRP_EN n) && s.get (T.LPE_SLOT.GRP n) == g)
/-- Enabled stations that exist on the variant. -/
def State.enabledStns (s : State) : List Nat := (s.entries 5 0 64 4096 0).filter s.stnPresent
/-- Enabled entries of the cap station table, by index (R111). -/
def State.capEntries (s : State) : List Nat :=
  (s.entries 2 0 64 32 0).filter (fun i => (s.word (tabKey 2 (64 * i))).getLsbD 3)
/-- The station a cap entry serves (R394). -/
def State.capStn (s : State) (i : Nat) : Nat := s.get ⟨tabKey 2 (64 * i + 28), 0, 12⟩

/-! ### Loop commits and trips -/

/-- Show a slot's mode in its window registers and count the closed slots (Tables 7.6, 7.7). -/
def State.putMode (s : State) (n m : Nat) : State :=
  let was := (s.slot n).mode
  let closed := s.get F.LPE_STAT.CLOSED
  let closed1 := if was = 1 ∨ was = 2 then closed - 1 else closed
  let closed2 := if m = 1 ∨ m = 2 then closed1 + 1 else closed1
  ((((s.setSlot n { s.slot n with mode := m }).set (F.LPn_MODE.MODE n) m).set (F.LPn_STAT.MODE n) m)).set
    F.LPE_STAT.CLOSED closed2

/-- A stage exponent of a slot. -/
def State.expO (s : State) (n : Nat) : Int := s.geti (T.LPE_SLOT.EXP_O n)

/-- The stage mantissa of a REAL: one rounding to the stage grid, to nearest even, saturated to ±(2²³ − 1) (R171). Also whether it
saturated. -/
def stageRound (v : FVal) (e : Int) : Int × Bool :=
  match v with
  | .nan => (0, false)
  | .inf n => (if n then -8388607 else 8388607, true)
  | .fin n a b =>
    let q : Nat := if e ≥ 0 then rneDiv a (b * 2 ^ e.toNat) else rneDiv (a * 2 ^ (-e).toNat) b
    let m : Int := if n then -(q : Int) else q
    if m > 8388607 then (8388607, true) else if m < -8388607 then (-8388607, true) else (m, false)

/-- Commit a slot's output mantissa to its destination (R170). -/
def State.commitLoop (s : State) (n : Nat) (m : Int) : State :=
  let raw := f32bits ((((f32val (s.getw (T.LPE_SLOT.OUT_C n))).mul (stageVal m (s.expO n)))).add
    (f32val (s.getw (T.LPE_SLOT.OUT_D n))))
  let addr := s.get (T.LPE_SLOT.DEST_ADDR n)
  match s.get (T.LPE_SLOT.DEST n) with
  | 1 => s.outField (addr / 4096) (addr % 4096) (s.get (T.LPE_SLOT.DEST_DTYPE n)) (.real raw)
  | 2 => s.writeTarget (addr % 512) 2 (realToInt (-2147483648) 2147483647 raw)
  | _ => s

/-- Show a slot's output (the group output for members) in LPn_OUT (R171, R182). -/
def State.showOut (s : State) (n : Nat) (m : Int) : State :=
  s.setw (F.LPn_OUT.VALUE n) (f32bits (stageVal m (s.expO n)))

/-- A slot enters SAFE with its output at a mantissa (Table 7.3); a dropout it was in no longer returns it (R193). -/
def State.enterSafe (s : State) (n : Nat) (m : Int) : State :=
  let x := s.slot n
  ((s.setSlot n { x with out := m, drop := 0 }).putMode n 3).showOut n m

/-- Keep LPn_STAT.FAULT and the slot's LPE_FLTn bit equal to LPn_FLT ≠ 0 (Tables 7.6, 7.7). -/
def State.updFlt (s : State) (n : Nat) : State :=
  let b := (s.word (R.LPn_FLT n)).toNat % 8 != 0
  (s.setBit (F.LPn_STAT.FAULT n) b).setBit ⟨R.LPE_FLTn (n / 32), n % 32, 1⟩ b

/-- SAFE_OUT of a slot as an output-stage mantissa. -/
def State.safeOut (s : State) (n : Nat) : Int := (stageRound (f32val (s.getw (T.LPE_SLOT.SAFE_OUT n))) (s.expO n)).1

/-- Group g is tripped (LPE_TRIPn). -/
def tripFld (g : Nat) : Fld := ⟨R.LPE_TRIPn (g / 32), g % 32, 1⟩

/-- The group of slot n is tripped. -/
def State.grpTripped (s : State) (n : Nat) : Bool :=
  s.bit (T.LPE_SLOT.GRP_EN n) && s.bit (tripFld (s.get (T.LPE_SLOT.GRP n)))

/-- Table 7.3 lists request `r` for a slot's present mode, and the row's condition holds (R178). -/
def State.listsRequest (s : State) (n r : Nat) : Bool :=
  match (s.slot n).mode, r with
  | 0, 1 => true
  | 0, 2 => s.bit (T.LPE_SLOT.CAS_EN n)
  | 1, 2 => s.bit (T.LPE_SLOT.CAS_EN n)
  | 2, 1 => true
  | 1, 0 => true
  | 2, 0 => true
  | 3, 0 => (s.word (R.LPn_FLT n)).toNat % 8 == 0 && !s.grpTripped n
  | _, _ => false

/-- A mode request (R177, R178): one that Table 7.3 lists is held until the next evaluation, replacing one held; any other is rejected
(log entry 36). -/
def State.requestMode (s : State) (n v : Nat) : State :=
  if s.listsRequest n v then (s.setSlot n { s.slot n with req := some v }).set (F.LPn_STAT.PEND n) 1
  else s.flag F.LPE_ERR.MODE_REJ

/-- The effects of a group trip other than raising a source (R183): the lead's SAFE_OUT committed at once, every member in SAFE with
LPn_FLT.TRIP, bit g of LPE_TRIPn. -/
def State.tripGroup (s : State) (g : Nat) : State :=
  match s.members g with
  | [] => s
  | lead :: rest =>
    let m := s.safeOut lead
    let s1 := s.commitLoop lead m
    let s2 := (lead :: rest).foldl (fun s n =>
      (((s.enterSafe n m).flag (F.LPn_FLT.TRIP n)).set (F.LPn_STAT.TRIP n) 1).updFlt n) s1
    s2.set (tripFld g) 1

/-! ### Fast outputs (R298) -/

/-- CSB commands output n load on. -/
def State.foCmd (s : State) (n : Nat) : Bool := s.get F.CSB_FO_STAT.CMD / 2 ^ n % 2 == 1

/-- Output n is energised: its command seen through INV, unless it is unused, the channels are not yet enabled, or the handoff of
R428 holds it off. -/
def State.foEnergised (s : State) (n : Nat) : Bool :=
  let role := s.get (F.CSB_FOn_CFG.ROLE n)
  s.csb.chanOn && role != 0 && !(s.csb.sf1Off && (role == 1 || role == 2 || role == 4)) &&
    xor (s.foCmd n) (s.bit (F.CSB_FOn_CFG.INV n))

/-- Channel ch of output n is on: as energised, but for the channel under a pulse test (R299). -/
def State.foChannel (s : State) (n ch : Nat) : Bool :=
  let e := s.foEnergised n
  if s.csb.test.contains (n, ch) then !e else e

/-- Drive output n's two channels outward (lines 16 + 2n and 17 + 2n). -/
def State.driveFo (s : State) (n : Nat) : State :=
  (s.emit (.pin (16 + 2 * n) (s.foChannel n 0))).emit (.pin (17 + 2 * n) (s.foChannel n 1))

/-- Command an output load on or off; a command ends a test in progress in the same clock (R299). -/
def State.setFo (s : State) (n : Nat) (on : Bool) : State :=
  let s1 := s.setBit ⟨R.CSB_FO_STAT, n % 8, 1⟩ on
  let s2 := { s1 with csb := { s1.csb with test := s1.csb.test.filter (fun t => t.1 != n) } }
  s2.driveFo n

/-- The output of a role, if one has it. -/
def State.foRole (s : State) (role : Nat) : Option Nat := (List.range 8).find? (fun n => s.get (F.CSB_FOn_CFG.ROLE n) == role)

/-! ### SAF (R413, R425 to R430) -/

/-- The life-cycle state is TAMPERED (Table 18.1). -/
def State.tampered (s : State) : Bool := s.get F.KEY_STAT.LC == 5

/-- Any latched source has ALARM = 1. -/
def State.latchedAlarm (s : State) : Bool :=
  (List.range 32).any (fun k => s.get F.SAF_FLT_LAT.LAT / 2 ^ k % 2 == 1 && s.bit (F.SAFn_CFG.ALARM k))

/-- Write the six bits of SAF_ALARM and SAF_STAT.ALARM (Table 17.6). -/
def State.showAlarm (s : State) (f st c t n g out : Bool) : State :=
  ((((((s.setBit F.SAF_ALARM.FAULT f).setBit F.SAF_ALARM.START st).setBit F.SAF_ALARM.CFG c).setBit F.SAF_ALARM.TAMPER t).setBit
    F.SAF_ALARM.NOACT n).setBit F.SAF_ALARM.GAUNTLET g).setBit F.SAF_STAT.ALARM out

/-- Drive ALARM_OUT where it changes. -/
def State.driveAlarm (s : State) (was out : Bool) : State := if out == was then s else s.emit (.pin 0 out)

/-- The bits of SAF_ALARM follow their conditions, and ALARM_OUT their disjunction; until the cap commit it is asserted (R430). -/
def State.updAlarm (s : State) : State :=
  let f := s.latchedAlarm
  let st := s.svc != 4 && s.bit F.SAF_CFG.START_ALM
  let c := s.svc == 1 || s.svc == 5
  let t := s.tampered
  let n := s.bit F.SAF_CX_STAT.NOACT
  let g := !s.bit F.SAF_STAT.GAUNTLET_OK
  let out := f || st || c || t || n || g || !s.saf.capAlarm
  (s.showAlarm f st c t n g out).driveAlarm (s.bit F.SAF_STAT.ALARM) out

/-- What ends every command: while AON is powered the bits of SAF_ALARM and ALARM_OUT follow their conditions (R430). -/
def State.settle (s : State) : State := if s.powered then s.updAlarm else s

/-- Station n is an SF-4 station (R412). -/
def State.sf4 (s : State) (n : Nat) : Bool := s.bit ⟨R.SAF_SF4n (n / 32), n % 32, 1⟩

/-- The SF-4 stations, by their bits. -/
def State.sf4List (s : State) : List Nat :=
  (List.range 128).flatMap (fun w =>
    let v := s.word (R.SAF_SF4n w)
    if v = 0 then [] else ((List.range 32).filter (fun b => v.getLsbD b)).map (fun b => 32 * w + b))

/-- Every SF-4 station is a cap station (R413). -/
def State.sf4AllCap (s : State) : Bool :=
  let caps := s.capEntries.map s.capStn
  (List.range 128).all (fun w =>
    let v := s.word (R.SAF_SF4n w)
    v == 0 || (List.range 32).all (fun b => !v.getLsbD b || caps.contains (32 * w + b)))

/-- SAF_STAT.SF_AVAIL by service state (Table 17.2). -/
def State.updAvail (s : State) : State :=
  let v := s.svc
  let capish := v == 2 || v == 3 || v == 5
  let sf1 := capish || v == 4
  let sf23 := v == 4 && s.bit F.LPE_STAT.RUN
  let sf4 := v == 4 || (capish && s.sf4AllCap)
  s.set F.SAF_STAT.SF_AVAIL (sf1.toNat + 2 * sf23.toNat + 4 * sf23.toNat + 8 * sf4.toNat)

/-- The service state changes (Table 15.7), and what hangs on it. -/
def State.setSvc (s : State) (v : Nat) : State := (s.set F.SYS_SVC.STATE v).updAvail.updAlarm

/-- SF-1's safe state (R428): the transfer machine enters BLOCKED, commands stand; with handoff the outputs of ROLE 1, 2 and 4 are
de-energised. -/
def State.safe1 (s : State) : State :=
  let s1 := if s.get F.CSB_STAT.STATE = 0 then s else (s.set F.CSB_STAT.STATE 10).flag F.CSB_ERR.BLOCKED
  if s.bit F.SAF_CFG.SF1_SAFE then
    (List.range 8).foldl (fun s n =>
      let r := s.get (F.CSB_FOn_CFG.ROLE n)
      if r = 1 ∨ r = 2 ∨ r = 4 then s.driveFo n else s) { s1 with csb := { s1.csb with sf1Off := true } }
  else s1

/-- The groups of a SAFETY class: the groups of its trip members. -/
def State.safetyGroups (s : State) (k : Nat) : List Nat :=
  ((s.enabledSlots.filter (fun n => s.bit (T.LPE_SLOT.GRP_EN n) && s.get (T.LPE_SLOT.SAFETY n) == k)).map
    (fun n => s.get (T.LPE_SLOT.GRP n))).dedup

/-- Enter the safe state of SF-k (1 to 4), once (R427, R428). -/
def State.enterSafeState (s : State) (k : Nat) : State :=
  let f : Fld := ⟨R.SAF_STAT, 3 + k, 1⟩
  if s.bit f then s
  else
    let s1 := s.set f 1
    match k with
    | 1 => s1.safe1
    | 2 => (s1.safetyGroups 1).foldl State.tripGroup s1
    | 3 => (s1.safetyGroups 2).foldl State.tripGroup s1
    | _ => s1

/-- A masked source that names the new active complex during probation starts the hand-back (R482). -/
def State.probationFault (s : State) (src idx : Nat) : State :=
  let named := match s.activeCx with
    | some .cxA => idx == 0
    | some .cxB => idx == 1
    | _ => false
  if s.get F.UPD_STAT.HSTATE = 4 && s.get F.UPD_PROB_MASK.MASK / 2 ^ src % 2 == 1 && named && src ≤ 3 then
    s.set F.UPD_STAT.HSTATE 6
  else s

/-- The log-record part of raising a source (R426): SAF_LOG_SEQ, the 16-byte entry, the REC event, the tasks of R130. -/
def State.logFault (s : State) (src idx safe : Nat) (alarm takeover wdog : Bool) : State :=
  let q := (s.get F.SAF_LOG_SEQ.SEQ + 1) % 2 ^ 32
  let e := q % 64
  let s1 := s.set F.SAF_LOG_SEQ.SEQ q
  let s2 := ((s1.set (T.SAF_LOG.SEQ e) q).set (T.SAF_LOG.SEC e) s.sec32).setWord (T.SAF_LOG.NS e).key (BitVec.ofNat 32 s.nsNow)
  let w3 := src + 2 ^ 8 * (idx % 4096) + 2 ^ 20 * safe + 2 ^ 24 * alarm.toNat + 2 ^ 25 * takeover.toNat +
    2 ^ 26 * wdog.toNat + 2 ^ 27 * (src == 16).toNat
  let s3 := s2.setWord (T.SAF_LOG.SRC e).key (BitVec.ofNat 32 w3)
  let sev := if src = 16 then 5 else if s.bit (F.SAFn_CFG.ALARM src) then 6 else 4
  (s3.log 16 src idx sev).releaseSaf src

/-- SAF source `src` is raised with an INDEX (R425, R426): latched, logged unless the same INDEX is already latched, the safe states of
its mask entered, ALARM_OUT updated. -/
def State.raiseWith (s : State) (src idx : Nat) (takeover wdog : Bool) : State :=
  let latched := s.get F.SAF_FLT_LAT.LAT / 2 ^ src % 2 == 1
  let again := latched && s.saf.logged.contains (src, idx)
  let mask := s.get (F.SAFn_CFG.SAFE src)
  let before := s.get F.SAF_STAT.SF_SAFE
  let s1 := (s.flag ⟨R.SAF_FLT_LAT, src, 1⟩)
  let s2 := [1, 2, 3, 4].foldl (fun s k => if mask / 2 ^ (k - 1) % 2 = 1 then s.enterSafeState k else s) s1
  let entered := (List.range 4).foldl (fun acc k =>
    acc + (if mask / 2 ^ k % 2 = 1 ∧ before / 2 ^ k % 2 = 0 then 2 ^ k else 0)) 0
  let s3 := s2.updAlarm
  let s4 := s3.probationFault src idx
  if again then s4
  else
    let s5 := { s4 with saf := { s4.saf with
      logged := (src, idx) :: (if latched then s4.saf.logged else s4.saf.logged.filter (fun e => e.1 != src)) } }
    s5.logFault src idx entered (s.bit (F.SAFn_CFG.ALARM src)) takeover wdog

/-- A source raised by a unit. -/
def State.raise (s : State) (src idx : Nat) : State := s.raiseWith src idx false false

/-- A SAF fault raised by LPE (R196): the slot's LPE_FLTn bit, LPE_ERR.FAULT, LPE_FLT_CNT. -/
def State.lpeFault (s : State) (src idx : Nat) : State :=
  ((s.flag F.LPE_ERR.FAULT).inc F.LPE_FLT_CNT.COUNT).raise src idx

end Sys2Proof.Machine
end

