-- ==== Sys2Proof/Machine/Access.lean ====
section
/-! DEFINITION. A requester's write of a register or table word, field by field (R10, R11, R536), and what the windows over table
memories share (R506). -/
namespace Sys2Proof.Machine

/-- One field of a word under a requester's write: RW takes the value, W1C clears the bits written 1 unless hardware set them in this
clock (R11), W1S sets them; every other access code keeps its value (R536). WO fields keep 0: their effect is the register's own rule. -/
def State.writeField (s : State) (k : Nat) (v : Word) (f : FieldDesc) : State :=
  let new := v.toNat / 2 ^ f.lsb % 2 ^ f.width
  let old := (s.word k).toNat / 2 ^ f.lsb % 2 ^ f.width
  match f.acc with
  | .rw => s.set ⟨k, f.lsb, f.width⟩ new
  | .w1c =>
    let kept := (List.range f.width).foldl (fun acc b =>
      if old / 2 ^ b % 2 = 1 ∧ (new / 2 ^ b % 2 = 0 ∨ s.justSet k (f.lsb + b)) then acc + 2 ^ b else acc) 0
    s.set ⟨k, f.lsb, f.width⟩ kept
  | .w1s => s.set ⟨k, f.lsb, f.width⟩ (old ||| new)
  | _ => s

/-- The word would change an RWL field. -/
def State.wouldChange (s : State) (k : Nat) (v : Word) (fs : List FieldDesc) : Bool :=
  fs.any (fun f => f.acc == .rwl &&
    v.toNat / 2 ^ f.lsb % 2 ^ f.width != (s.word k).toNat / 2 ^ f.lsb % 2 ^ f.width)

/-- A requester's write of a word that no rule of its own replaces (R536). -/
def State.writeWord (s : State) (k : Nat) (v : Word) : State :=
  let fs := keyFields k
  let s1 := if s.wouldChange k v fs then s.flag F.SYS_ERR.LOCKED_WR else s
  fs.foldl (fun s f => s.writeField k v f) s1

/-- A word has a field with this access code. -/
def hasAcc (k : Nat) (a : Acc) : Bool := (keyFields k).any (fun f => f.acc == a)

/-- Every read or write of a TAB_DATA register advances its requester's TAB_ADDR by 4 (R506). -/
def State.advance (s : State) (f : Fld) : State := s.addWrap f 4

/-- A write of an index register checked against a bound: beyond it the write is ignored with the unit's RANGE flag (R5). -/
def State.writeIndex (s : State) (k : Nat) (v : Word) (ok : Nat → Bool) (err : Fld) : State :=
  if ok v.toNat then s.writeWord k v else s.flag err

/-- Drop a requester's freeze of a block (R63, R84, R201, R244). -/
def State.unfreeze (s : State) (rq blk : Nat) : State :=
  { s with freezes := s.freezes.filter (fun f => !(f.rq == rq && f.blk == blk)) }

/-- A requester's freeze of an instance of a block. -/
def State.frozen? (s : State) (rq blk inst : Nat) : Option Freeze :=
  s.freezes.find? (fun f => f.rq == rq && f.blk == blk && f.inst == inst)

/-- A word as a requester reads it: the frozen value where its freeze holds one. -/
def State.readWord (s : State) (rq k : Nat) : Word :=
  match s.freezes.find? (fun f => f.rq == rq && f.vals.any (fun e => e.1 == k)) with
  | some f => (f.vals.lookup k).getD 0
  | none => s.word k

end Sys2Proof.Machine
end

