-- ==== Sys2Proof/Machine/Keys.lean ====
section
/-! DEFINITION. The key cache (R447 to R453): hits, misses, unwraps into slots. -/
namespace Sys2Proof.Machine

/-- A byte-addressed little-endian word of a table, at any byte address: n bytes. -/
def State.tabBytes (s : State) (blk a n : Nat) : List Byte :=
  (List.range n).map (fun i => ((s.word (tabKey blk ((a + i) / 4 * 4))) >>> (8 * ((a + i) % 4))).setWidth 8)

/-- Write bytes into a table, word by word of the addressed range (word-aligned). -/
def State.setTabBytes (s : State) (blk a : Nat) (bs : List Byte) : State :=
  (List.range ((bs.length + 3) / 4)).foldl (fun s i =>
    s.setWord (tabKey blk (a + 4 * i)) (BitVec.ofNat 32 (leNat ((bs.drop (4 * i)).take 4)))) s

/-- The LEN a USAGE requires (Table 18.4). -/
def usageLen (u : Nat) : Nat := if u = 3 then 48 else 32

/-- A mitten's KEY_ID, USAGE and LEN from its first word. -/
def mittenOf (w : Word) : Nat × Nat × Nat := (w.toNat % 65536, w.toNat / 65536 % 256, w.toNat / 16777216)

/-- The overlay entry of a KEY_ID (R449). -/
def State.ovlFind (s : State) (id : Nat) : Option Nat :=
  (List.range 256).find? (fun j => (mittenOf (s.word (tabKey 17 (0x50000 + 96 * j)))).1 == id)

/-- The mitten-table entry of a KEY_ID (R448). -/
def State.mittenFind (s : State) (id : Nat) : Option Nat :=
  (List.range 4160).find? (fun i => (mittenOf (s.word (tabKey 17 (64 * i)))).1 == id)

/-- USAGE and LEN of the mitten that holds a KEY_ID: the overlay first, unless its entry's tag fails (R449, R450). -/
def State.mittenUse (s : State) (id : Nat) (ovlOk : Bool) : Option (Nat × Nat) :=
  match (if ovlOk then s.ovlFind id else none), s.mittenFind id with
  | some j, _ => some (mittenOf (s.word (tabKey 17 (0x50000 + 96 * j)))).2
  | none, some i => some (mittenOf (s.word (tabKey 17 (64 * i)))).2
  | none, none => none

/-- A valid slot that holds a KEY_ID. -/
def State.slotOf (s : State) (id : Nat) : Option Nat :=
  (List.range 32).find? (fun n => s.bit (F.KEY_SLOTn.VALID n) && s.get (F.KEY_SLOTn.KEY_ID n) == id)

/-- A slot's last use. -/
def State.touchSlot (s : State) (n : Nat) : State :=
  { s with key := { s.key with stamp := s.key.stamp + 1, stamps := put n s.key.stamp s.key.stamps } }

/-- A failed unwrap (R450). -/
def State.unwrapFail (s : State) : State := (s.inc F.KEY_UNWRAP_ERR.COUNT).flag F.KEY_ERR.UNWRAP

/-- What KEY answers a request with at once. -/
inductive KeyAnswer where
  | hit
  | wait
  | fail
deriving DecidableEq, Repr

/-- A unit requests a key (R450). -/
def State.keyRequest (s : State) (u : KeyUser) (id usage : Nat) : State × KeyAnswer :=
  match s.slotOf id with
  | some n =>
    if s.get (F.KEY_SLOTn.USAGE n) = usage then ((s.inc F.KEY_HIT_CNT.COUNT).touchSlot n, .hit) else (s.unwrapFail, .fail)
  | none =>
    let s1 := s.inc F.KEY_MISS_CNT.COUNT
    if s1.key.unwraps.any (fun w => w.id == id && w.usage == usage) then
      ({ s1 with key := { s1.key with unwraps := s1.key.unwraps.map (fun w =>
          if w.id = id ∧ w.usage = usage then { w with users := w.users ++ [u] } else w) } }, .wait)
    else match s1.mittenUse id true with
      | none => (s1.unwrapFail, .fail)
      | some (us, len) =>
        if us = usage ∧ len = usageLen usage then
          ({ s1 with key := { s1.key with unwraps := s1.key.unwraps ++ [(⟨id, usage, [u]⟩ : Unwrap)] } }, .wait)
        else (s1.unwrapFail, .fail)

/-- A set-up uses its station's key while SIO works on it, so the slot is busy (R450). -/
def State.slotBusy (s : State) (n : Nat) : Bool :=
  s.sio.setups.any (fun u => !u.needKey && u.keyId == s.get (F.KEY_SLOTn.KEY_ID n))

/-- Show the BUSY bits. -/
def State.showBusy (s : State) : State :=
  (List.range 32).foldl (fun s n => s.setBit (F.KEY_SLOTn.BUSY n) (s.bit (F.KEY_SLOTn.VALID n) && s.slotBusy n)) s

/-- The slot an unwrap takes: one that is not valid, else the least recently used that is neither busy nor pinned (R450). -/
def State.slotFree (s : State) : Option Nat :=
  match (List.range 32).find? (fun n => !s.bit (F.KEY_SLOTn.VALID n)) with
  | some n => some n
  | none =>
    (((List.range 32).filter (fun n => !s.slotBusy n && !s.bit (F.KEY_SLOTn.PIN n))).foldl (fun (acc : Option (Nat × Nat)) n =>
      let st := look (fun _ => 0) s.key.stamps n
      match acc with
      | some (a, b) => if st < b then some (n, st) else some (a, b)
      | none => some (n, st)) none).map Prod.fst

/-- The root is present and may be used: no mitten unwraps without one (Table 18.1, R461). -/
def State.hasRoot (s : State) : Bool := s.bit F.KEY_STAT.ROOT && s.get F.KEY_STAT.LC != 5

/-- The KEY_ID of the TLS identity's mitten: the lowest of USAGE 3, where an overlay entry stands for its KEY_ID (R448, R449). -/
def State.tlsMitten (s : State) : Option Nat :=
  let use := fun (base stride i : Nat) => mittenOf (s.word (tabKey 17 (base + stride * i)))
  let ovl := (List.range 256).map (use 0x50000 96)
  let tab := ((List.range 4160).map (use 0 64)).filter (fun m => m.2.1 == 3 && ovl.all (fun o => o.1 != m.1))
  ((ovl.filter (fun m => m.2.1 == 3) ++ tab).map Prod.fst).min?

/-- The server identity without a mitten (R511): DTK, which every module past BLANK has, else BLANK's ephemeral key. -/
def State.ownIdent (s : State) : Nat := if s.bit F.KEY_STAT.DTK || s.get F.KEY_STAT.LC != 0 then 1 else 2

/-- SYS_MGT_STAT.IDENT before a handshake has shown whether a mitten unwraps (R511; log entry 37). -/
def State.showIdent (s : State) : State :=
  s.set F.SYS_MGT_STAT.IDENT (if s.hasRoot && s.tlsMitten.isSome then 0 else s.ownIdent)

/-- An unwrap ends (R450): what became of it and whom it served; none while no slot is usable. -/
def State.unwrapEnd (s : State) (id usage : Nat) (ok ovlOk : Bool) : State × Option (Bool × List KeyUser) :=
  match s.key.unwraps.find? (fun w => w.id == id && w.usage == usage) with
  | none => (s, none)
  | some w =>
    let rest := s.key.unwraps.filter (fun w => !(w.id == id && w.usage == usage))
    let s0 := if ovlOk then s else s.flag F.KEY_ERR.OVL
    let serves := match s0.mittenUse id ovlOk with
      | some (us, len) => us == usage && len == usageLen usage
      | none => false
    if ok && serves && s0.hasRoot then
      match s0.slotFree with
      | none => (s0, none)
      | some n =>
        let s1 := { s0 with key := { s0.key with unwraps := rest } }
        let v := id + 2 ^ 16 + (if 2 ≤ usage then 2 ^ 17 else 0) + 2 ^ 19 * usage
        (((s1.setWord (R.KEY_SLOTn n) (BitVec.ofNat 32 v)).touchSlot n), some (true, w.users))
    else ({ s0 with key := { s0.key with unwraps := rest } }.unwrapFail, some (false, w.users))

/-- Slots that hold a KEY_ID cease to be valid (R452). -/
def State.slotInvalidate (s : State) (id : Nat) : State :=
  (List.range 32).foldl (fun s n =>
    if s.get (F.KEY_SLOTn.KEY_ID n) = id then s.set (F.KEY_SLOTn.VALID n) 0 else s) s

/-- The cache is cleared (R442, R453, R460). -/
def State.cacheClear (s : State) : State :=
  let s1 := (List.range 32).foldl (fun s n => s.setWord (R.KEY_SLOTn n) 0) s
  { s1 with key := { s1.key with unwraps := [], stamps := [] } }

end Sys2Proof.Machine
end

