-- ==== Sys2Proof/Machine/Pgr.lean ====
section
/-! DEFINITION. The pager and scheduler (chapter 5): page loads, evictions and write-backs, engine visits, task releases, DRAM
regions. -/
namespace Sys2Proof.Machine

/-! ### Pages -/

/-- A page's resident bit (Table 5.4). -/
def resFld (stn : Nat) : Fld := ⟨R.PGR_RESn (stn / 32), stn % 32, 1⟩

/-- Resident pages. -/
def State.residentCount (s : State) : Nat := (s.pgr.pages.filter (fun p => !p.loading && !p.writing)).length

/-- The counts of PGR_STAT follow the page list (R122). -/
def State.showPages (s : State) : State :=
  let n := s.residentCount
  let all := if s.variant == .zkv4240 then 1024 else 4096
  (s.set F.PGR_STAT.RESIDENT n).setBit F.PGR_STAT.FULL_RES (n == all || s.bit F.PGR_STAT.FULL_RES && s.variant == .zkv4240)

/-- The bytes of a page moved between the DRAM copy and the cache copy. -/
def pageCells (m : List Host.Cell) (stn : Nat) : List Host.Cell :=
  m.filter (fun e => 4096 * stn ≤ e.1 && e.1 < 4096 * stn + 4096)

/-- Copy one page's bytes from `src` over `dst`. -/
def copyPage (src dst : List Host.Cell) (stn : Nat) : List Host.Cell :=
  (pageCells src stn).foldl (fun m e => memWrite m e.1 e.2) (memClear dst (4096 * stn) 4096)

/-- Apply waiting writes. -/
def applyWaits (m : List Host.Cell) (ws : List (Nat × Byte)) : List Host.Cell :=
  ws.foldl (fun m w => memWrite m w.1 w.2) m

/-- The stations named in the next PF_DEPTH entries of a ring. -/
def State.ahead (s : State) (ring : List Nat) : List Nat := (ring.take (s.get F.PGR_CFG.PF_DEPTH)).map (· % 4096)

/-- A page is protected (R121). -/
def State.protected (s : State) (p : Page) : Bool :=
  p.loading || p.writing || (s.ahead s.pgr.ringC).contains p.stn || (s.ahead s.pgr.ringL).contains p.stn ||
    s.pgr.saved.any (fun e => ((e.2.take 8).map (· % 4096)).contains p.stn)

/-- The page to evict: the unprotected one with the oldest last access, the lower station on a tie (R122). -/
def State.victim (s : State) : Option Page :=
  (s.pgr.pages.filter (fun p => !s.protected p)).foldl (fun acc p =>
    match acc with
    | none => some p
    | some q => if p.stamp < q.stamp || (p.stamp == q.stamp && p.stn < q.stn) then some p else some q) none

/-- Remove a page from the list, its write-back carried out: cache copy to DRAM, then the writes that waited (R123). -/
def State.finishWriteBack (s : State) (stn : Nat) : State :=
  match s.page? stn with
  | some p =>
    if p.writing then
      { s with dram := applyWaits (copyPage s.cache s.dram stn) p.waits, cache := memClear s.cache (4096 * stn) 4096,
               pgr := { s.pgr with pages := s.pgr.pages.filter (fun q => q.stn != stn) } }
    else s
  | none => s

/-- Evict a page (R119, R122): a dirty one is written back first, a clean one just leaves. -/
def State.evict (s : State) (p : Page) : State :=
  let s1 := (s.inc F.PGR_EVICT_CNT.COUNT).set (resFld p.stn) 0
  if p.dirty then s1.updPage p.stn (fun q => { q with writing := true })
  else { s1 with cache := memClear s1.cache (4096 * p.stn) 4096,
                 pgr := { s1.pgr with pages := s1.pgr.pages.filter (fun q => q.stn != p.stn) } }

/-- Make room for one page when 1 024 are resident or on their way (R122). -/
def State.makeRoom (s : State) : State :=
  if (s.pgr.pages.filter (fun p => !p.writing)).length < 1024 then s
  else match s.victim with
    | some p => s.evict p
    | none => s

/-- Start loading a page. -/
def State.startLoad (s : State) (stn : Nat) : State :=
  let s1 := (s.finishWriteBack stn).makeRoom
  ({ s1 with pgr := { s1.pgr with pages := s1.pgr.pages ++ [(⟨stn, false, s1.pgr.stamp, true, false, []⟩ : Page)] } }).showPages

/-- A load completes: DRAM copy to cache, then the writes that waited, which make the page dirty (R123). -/
def State.finishLoad (s : State) (stn : Nat) : State :=
  match s.page? stn with
  | some p =>
    if p.loading then
      (({ s with cache := applyWaits (copyPage s.dram s.cache stn) p.waits }.updPage stn
        (fun q => { q with loading := false, waits := [], dirty := !p.waits.isEmpty, stamp := s.pgr.stamp })).set
          (resFld stn) 1).showPages
    else s
  | none => s

/-- An engine visits a page (R124): a hit, or a miss whose load, one already in flight included (R123), ends the stall. -/
def State.visit (s : State) (lpe : Bool) (stn : Nat) : State :=
  let s0 := { s with pgr := { s.pgr with stamp := s.pgr.stamp + 1 } }
  if s0.resident stn then
    (s0.inc (if lpe then F.PGR_HIT_LPE.COUNT else F.PGR_HIT_CYC.COUNT)).updPage stn (fun q => { q with stamp := s0.pgr.stamp })
  else
    let s1 := s0.inc (if lpe then F.PGR_MISS_LPE.COUNT else F.PGR_MISS_CYC.COUNT)
    let s2 := match s1.page? stn with
      | some p => if p.loading then s1 else s1.startLoad stn
      | none => s1.startLoad stn
    s2.finishLoad stn

/-- An engine's stall of `d` units of 10 ns (R124). -/
def State.stall (s : State) (lpe : Bool) (d : Nat) : State :=
  if d = 0 then s
  else
    let s1 := s.addWrap (if lpe then F.PGR_STALL_LPE.US else F.PGR_STALL_CYC.US) (d / 100)
    if s.get F.PGR_STALL_MAX.MAX < min d 65535 then
      (s1.set F.PGR_STALL_MAX.MAX (min d 65535)).setBit F.PGR_STALL_MAX.ENG lpe
    else s1

/-- The first page a ring names ahead that is neither resident nor on its way; entries of disabled or absent stations are passed over with
VLIST_BAD (R120, R121). -/
def State.wanted (s : State) (ring : List Nat) : Option Nat × Bool :=
  (s.ahead ring).foldl (fun acc stn =>
    if acc.1.isSome then acc
    else if !s.stnPresent stn || !s.bit (T.SIO_STN.EN stn) then (none, true)
    else if (s.page? stn).isSome then acc
    else (some stn, acc.2)) (none, false)

/-- PREFETCH_ISSUE (R121): loop-engine entries first, then the cycle engine's, with at most 16 loads in flight. -/
def prefetch (s : State) : State :=
  if !s.bit F.PGR_STAT.RUN || s.bit F.PGR_CFG.LRU_ONLY ||
      16 ≤ (s.pgr.pages.filter (fun p => p.loading)).length then s
  else
    let w := s.wanted s.pgr.ringL
    let c := s.wanted s.pgr.ringC
    let bad := w.2 || (w.1.isNone && c.2)
    let s1 := if bad then s.flag F.PGR_ERR.VLIST_BAD else s
    match w.1.orElse (fun _ => c.1) with
    | some stn => (s1.startLoad stn).inc F.PGR_PF_CNT.COUNT
    | none => s1

def execPrefetchIssue (dt : Nat) (s : State) : Host.Outcome State Fault Refusal := .next (prefetch (s.elapse dt)).settle

/-- PAGE_LOAD_DONE (R123). -/
def execPageLoadDone (dt stn : Nat) (s : State) : Host.Outcome State Fault Refusal := .next ((s.elapse dt).finishLoad stn).settle

/-- WRITE_BACK_DONE (R123). -/
def execWriteBackDone (dt stn : Nat) (s : State) : Host.Outcome State Fault Refusal :=
  .next ((s.elapse dt).finishWriteBack stn).showPages.settle

/-! ### Tasks (R129, R130) -/

/-- A timed task comes to a release instant (R129): released, or skipped and counted; CYC_OVR_LIM consecutive skips raise one TASK_SKIP
fault. -/
def State.timedRelease (s : State) (t : Nat) : State :=
  if !s.bit F.PGR_STAT.SCHED || s.get (T.PGR_TASK.TYPE t) ≠ 2 || !s.bit (T.PGR_TASK.EN t) then s
  else if s.get (F.T_STAT.STATE t) = 0 then
    ({ s with pgr := { s.pgr with skips := cut t s.pgr.skips,
                                  skipRaised := s.pgr.skipRaised.filter (· != t) } }).makeReady t
  else
    let n := look (fun _ => 0) s.pgr.skips t + 1
    let s1 := (s.inc (F.T_SKIP.COUNT t)).flag F.PGR_ERR.TASK_SKIP
    let s2 := { s1 with pgr := { s1.pgr with skips := put t n s1.pgr.skips } }
    if s.get F.CYC_OVR_LIM.LIM ≤ n && !s.pgr.skipRaised.contains t then
      ({ s2 with pgr := { s2.pgr with skipRaised := t :: s2.pgr.skipRaised } }).raise 21 t
    else s2

def execTimedTaskRelease (dt task : Nat) (s : State) : Host.Outcome State Fault Refusal :=
  .next ((s.elapse dt).timedRelease task).settle

/-- TASK_SKIP_LIMIT (R129): the release whose skip is the CYC_OVR_LIM-th in a row. -/
def execTaskSkipLimit (dt task : Nat) (s : State) : Host.Outcome State Fault Refusal :=
  .next ((s.elapse dt).timedRelease task).settle

/-- A write of PGR_TRIG (R130); also what a TRIG block does (R155). -/
def State.trigTask (s : State) (t : Nat) : State :=
  if s.eventTask t 0 then s.releaseEvent t else s.flag F.PGR_ERR.RANGE

/-! ### Regions (R132 to R134) -/

/-- The granules [b, b + n) lie in the pool and overlap no region. -/
def State.runFree (s : State) (b n : Nat) : Bool :=
  s.get F.PGR_POOL_BASE.BASE ≤ b && b + n ≤ s.get F.PGR_POOL_BASE.BASE + s.get F.PGR_POOL_SIZE.SIZE &&
    s.pgr.regions.all (fun r => b + n ≤ r.2.2.1 || r.2.2.1 + r.2.2.2 ≤ b)

/-- Where a lowest run can start: the pool's base and the regions' ends. -/
def State.runStarts (s : State) : List Nat :=
  s.get F.PGR_POOL_BASE.BASE :: s.pgr.regions.map (fun r => r.2.2.1 + r.2.2.2)

/-- The lowest-addressed free run of n granules. -/
def State.lowestRun (s : State) (n : Nat) : Option Nat :=
  (s.runStarts.filter (fun b => s.runFree b n)).foldl (fun acc b => match acc with
    | none => some b
    | some c => some (min b c)) none

/-- The free run that starts at b. -/
def State.runFrom (s : State) (b : Nat) : Nat :=
  let stop := s.get F.PGR_POOL_BASE.BASE + s.get F.PGR_POOL_SIZE.SIZE
  let next := s.pgr.regions.foldl (fun acc r => if b ≤ r.2.2.1 then min acc r.2.2.1 else acc) stop
  if s.pgr.regions.any (fun r => r.2.2.1 ≤ b && b < r.2.2.1 + r.2.2.2) then 0 else next - b

/-- Free granules, the largest free run and the granules in use follow the region list (Table 5.4). -/
def State.showPool (s : State) : State :=
  let used := fun o => ((s.pgr.regions.filter (fun r => r.2.1 == o)).map (fun r => r.2.2.2)).sum
  let s1 := (s.set (F.PGR_USEDn.USED 0) (used 0)).set (F.PGR_USEDn.USED 1) (used 1)
  let s2 := s1.set F.PGR_POOL_FREE.GRAN (s.get F.PGR_POOL_SIZE.SIZE - used 0 - used 1)
  s2.set F.PGR_POOL_LARGEST.GRAN ((s.runStarts.map s.runFrom).foldl max 0)

/-- An owner requests a region (R133); answers the table index of a grant. -/
def State.requestRegion (s : State) (owner gran : Nat) : State × Option Nat :=
  if s.get (F.PGR_QUOTAn.QUOTA owner) < s.get (F.PGR_USEDn.USED owner) + gran then
    (s.flag F.PGR_ERR.ALLOC_QUOTA, none)
  else
    match s.lowestRun gran, (List.range 256).find? (fun i => !(s.pgr.regions.any (fun r => r.1 == i))) with
    | some b, some i =>
      let s1 := { s with pgr := { s.pgr with regions := s.pgr.regions ++ [(i, owner, b, gran)] } }
      let s2 := ((s1.set (T.PGR_REG.BASE i) b).set (T.PGR_REG.VALID i) 1).set (T.PGR_REG.OWNER i) owner
      ((s2.set (T.PGR_REG.SIZE i) gran).showPool, some i)
    | _, _ => (s.flag F.PGR_ERR.ALLOC_FULL, none)

/-- An owner releases a region: its granules are free, its entry invalid. -/
def State.releaseRegion (s : State) (i : Nat) : State :=
  let s1 := { s with pgr := { s.pgr with regions := s.pgr.regions.filter (fun r => r.1 != i) } }
  (((s1.set (T.PGR_REG.VALID i) 0).set (T.PGR_REG.BASE i) 0).set (T.PGR_REG.OWNER i) 0).set (T.PGR_REG.SIZE i) 0 |>.showPool

/-- An empty accumulator for an interval that starts at `start` (R491). -/
def recAcc0 (start : Nat) (partialIv : Bool) : RecAcc := ⟨0, 0, 0, none, none, List.replicate 32 0, false, false, partialIv, start⟩

/-- The start of the interval of channel c that contains now, in module seconds (R491). -/
def State.ivStart (s : State) (c : Nat) : Nat :=
  let iv := max 1 (s.get (T.REC_CH.INTERVAL c))
  s.clock.sec / iv * iv

/-- The accumulators of the enabled channels after a grant: their first interval is partial (R493). -/
def State.freshAccs (s : State) : List (Nat × RecAcc) :=
  (s.entries 19 0 32 2048 0).map (fun c => (c, recAcc0 (s.ivStart c) true))

/-- REC's part of REGION_REQUEST (R493): its accumulators; a refusal sets REC_ERR.ALLOC. -/
def State.recRegion (s : State) (gran : Nat) : State :=
  let r := s.requestRegion 1 gran
  match r.2 with
  | some _ => ({ r.1 with recd := { r.1.recd with granted := true, acc := r.1.freshAccs } }).set F.REC_STAT.CHAN 1
  | none => (r.1.flag F.REC_ERR.ALLOC).set F.REC_STAT.CHAN 0

/-- REGION_RELEASE (R133). -/
def execRegionRelease (dt idx : Nat) (s : State) : Host.Outcome State Fault Refusal :=
  .next ((s.elapse dt).releaseRegion idx).settle

/-- REGION_VIOLATION (R134): the access is blocked (a read returns 0, a write is dropped), REGION_VIOL is set, SAF is told with the
region's owner as INDEX (Table 17.4). The owner's own accesses, and reads of the active complex, are no violation. -/
def regionViolation (idx : Nat) (rq : Rq) (write : Bool) (s : State) : State :=
  match s.pgr.regions.find? (fun r => r.1 == idx) with
  | some r =>
    if s.isActive rq && !write then s
    else
      let s1 := if write then s else s.emit (.readData rq.num (r.2.2.1 * 0x10000) 0)
      (s1.flag F.PGR_ERR.REGION_VIOL).raise 23 r.2.1
  | none => s

def execRegionViolation (dt idx : Nat) (rq : Rq) (write : Bool) (s : State) : Host.Outcome State Fault Refusal :=
  .next (regionViolation idx rq write (s.elapse dt)).settle

end Sys2Proof.Machine
end

