-- ==== Sys2Proof/Machine/Lpe.lean ====
section
/-! DEFINITION. The loop engine (chapter 7): block-floating control law, modes, override groups, cascades, plausibility, dropout,
late samples, cap loops, start of service and the switch of loop tables. -/
namespace Sys2Proof.Machine

/-! ### Block-floating arithmetic (R171) -/

/-- The mantissa on a grid of 2^e of an exact value: rounded once to nearest even, then saturated to ±bound; and whether it
saturated. -/
def gridRound (v : FVal) (e : Int) (bound : Nat) : Int × Bool :=
  match v with
  | .nan => (0, false)
  | .inf n => (if n then -(bound : Int) else bound, true)
  | .fin n a b =>
    let q : Nat := if e ≥ 0 then rneDiv a (b * 2 ^ e.toNat) else rneDiv (a * 2 ^ (-e).toNat) b
    let m : Int := if n then -(q : Int) else q
    if m > bound then (bound, true) else if m < -(bound : Int) then (-(bound : Int), true) else (m, false)

/-- The integral stage's extended grid: 16 bits below the stage LSB, bounded by ±(2²³ − 1) stage LSBs (Table 7.2; log entry 20). -/
def extRound (v : FVal) (e : Int) : Int × Bool := gridRound v (e - 16) (8388607 * 65536)

/-- The value of an extended-grid mantissa. -/
def extVal (m e : Int) : FVal := stageVal m (e - 16)

/-- Clamp an exact value. -/
def clampF (lo hi v : FVal) : FVal := if v.lt lo then lo else if hi.lt v then hi else v

/-- T as an exact value in seconds: PERIOD × 250 µs (R164). -/
def State.loopT (s : State) (n : Nat) : FVal := .ofQ (s.get (T.LPE_SLOT.PERIOD n)) 4000

/-- The exponent of a value as a 24-bit mantissa lies within −128 to +127 (R172); 0 always fits, NaN and infinity never do. -/
def expFits : FVal → Bool
  | .nan => false
  | .inf _ => false
  | .fin _ a b => if a = 0 then true else (let e := ilog2 a b - 23; decide (-128 ≤ e) && decide (e ≤ 127))

/-- a = e^(−T/TM) within 1 ulp: one of the two neighbouring binary32 values, chosen by a free bit (R172, log entry 21). -/
def lagCoef (t tm : FVal) (pick : Nat) : Word :=
  match t, tm with
  | .fin _ a b, .fin _ c d =>
    let v : FVal := .fin false (expNeg (a * d) (b * c)) (2 ^ 300)
    let w := f32bits v
    let lo := if (f32val w).le v then w else w - 1
    if pick % 2 = 0 then lo else lo + 1
  | _, _ => 0

/-- The working coefficients of a slot (R172), or none where the close is rejected: a coefficient that is not finite or whose exponent
does not fit, TF + T = 0, TM ≤ 0 with a local model (log entry 22). -/
def State.formCoefs (s : State) (n : Nat) : Option Coefs :=
  let t := s.loopT n
  let kp := s.getw (T.LPE_SLOT.KP n)
  let kd := s.getw (T.LPE_SLOT.KD n)
  let tf := f32val (s.getw (T.LPE_SLOT.TF n))
  let sum := tf.add t
  let kit := f32bits ((f32val (s.getw (T.LPE_SLOT.KI n))).mul t)
  let cd := f32bits (tf.div sum)
  let kdd := f32bits ((f32val kd).div sum)
  let tm := f32val (s.getw (T.LPE_SLOT.TM n))
  let isLocal := s.get (T.LPE_SLOT.PL_SRC n) == 2
  let am := if isLocal then lagCoef t tm s.free else 0
  let ok := [kp, kd, kit, cd, kdd, am].all (fun w => expFits (f32val w)) && !sum.isZero &&
    (!isLocal || (FVal.ofInt 0).lt tm)
  if ok then some ⟨kp, kit, cd, kdd, am⟩ else none

/-! ### Feedback (R168, R191) -/

/-- The raw value of a slot's source, whether the feedback is in dropout, and whether no value exists. -/
def State.loopRaw (s : State) (n : Nat) : Num × Bool × Bool :=
  let a := s.get (T.LPE_SLOT.PV_ADDR n)
  let r : Num × Bool × Bool :=
    match s.get (T.LPE_SLOT.PV_SRC n) with
    | 0 =>
      let st := a / 4096
      (s.inField st (a % 4096) (s.get (T.LPE_SLOT.PV_DTYPE n)), s.bufDrop st (s.newest st), false)
    | 1 => (.real (s.aiVal (a % 16)), s.aiInvalid (a % 16), s.aiInvalid (a % 16))
    | 2 =>
      let bad := !s.modelUsable || !s.sensValid (a % 16384)
      (.real (s.pred (a % 16384)), bad, bad)
    | 3 => (.int (s.axisPos (a % 512)), false, false)
    | _ => (.real (s.gvar a), false, false)
  match r.1 with
  | .real w => if (f32val w).notFinite then (r.1, true, true) else r
  | _ => r

/-- PV = PV_A · raw + PV_B in binary32, rounded once (R168). -/
def State.loopPv (s : State) (n : Nat) (raw : Num) : Word :=
  f32lin (s.getw (T.LPE_SLOT.PV_A n)) raw.toReal (s.getw (T.LPE_SLOT.PV_B n))

/-! ### Cascade relations (R185) -/

/-- The inner loop of slot n, if n is an outer loop. -/
def State.innerOf (s : State) (n : Nat) : Option Nat :=
  s.enabledSlots.find? (fun k => s.bit (T.LPE_SLOT.CAS_EN k) && s.get (T.LPE_SLOT.CAS_SLOT k) == n)

/-- How many outer loops stand above slot n; a chain has at most 4 slots. -/
def State.cascadeLevel (s : State) (n : Nat) : Nat → Nat
  | 0 => 0
  | fuel + 1 => if s.bit (T.LPE_SLOT.CAS_EN n) then 1 + s.cascadeLevel (s.get (T.LPE_SLOT.CAS_SLOT n)) fuel else 0

/-- The output of a slot as a REAL. -/
def State.loopOut (s : State) (n : Nat) : Word := f32bits (stageVal (s.slot n).out (s.expO n))

/-! ### Limits and gains -/

/-- OUT_LO and OUT_HI as exact values. -/
def State.outLo (s : State) (n : Nat) : FVal := f32val (s.getw (T.LPE_SLOT.OUT_LO n))
def State.outHi (s : State) (n : Nat) : FVal := f32val (s.getw (T.LPE_SLOT.OUT_HI n))

/-- The gain multiplier for an error mantissa, unsigned Q4.20 (R176). -/
def State.gain (s : State) (n : Nat) (me : Int) : Nat :=
  let tab := s.get (T.LPE_SLOT.GS_TAB n)
  let t := fun j => s.get (T.LPE_GAIN.G tab j)
  let sp := s.get (T.LPE_SLOT.SPAN_SH n)
  let asym := s.bit (T.LPE_SLOT.GS_ASYM n)
  let x : Int := if asym then me + (2 ^ sp : Nat) else (me.natAbs : Nat)
  let sh := if asym then sp - 4 else sp - 5
  let top : Int := if asym then (2 ^ (sp + 1) : Nat) else (2 ^ sp : Nat)
  if x ≤ 0 then t 0
  else if top ≤ x then t 32
  else
    let xn := x.toNat
    let j := xn / 2 ^ sh
    let f := xn % 2 ^ sh
    let d : Int := ((t (j + 1) : Int) - (t j : Int)) * (f : Int) + (2 ^ (sh - 1) : Nat)
    ((t j : Int) + d.fdiv (2 ^ sh : Nat)).toNat

/-- The rate step ROC · T in output-stage LSBs; none where there is no rate limit. -/
def State.rocStep (s : State) (n : Nat) : Option Int :=
  let roc := f32val (s.getw (T.LPE_SLOT.ROC n))
  if (FVal.ofInt 0).lt roc then some (stageRound (roc.mul (s.loopT n)) (s.expO n)).1 else none

/-- The rate limit of slot n on a mantissa from `prev`, and whether it acted. -/
def State.rateLimit (s : State) (n : Nat) (prev m : Int) : Int × Bool :=
  match s.rocStep n with
  | none => (m, false)
  | some d => let r := clampI (prev - d) (prev + d) m; (r, r != m)

/-- Stage saturations of one evaluation (R171). -/
def State.saturated (s : State) (n k : Nat) : State :=
  if k = 0 then s
  else ((s.set (F.LPn_STAT.SAT n) 1).flag F.LPE_ERR.SAT).addSat F.LPE_SAT_CNT.COUNT k

/-- Show the integrator, rounded to binary32 (Table 7.7). -/
def State.showInt (s : State) (n : Nat) : State :=
  s.setw (F.LPn_INT.VALUE n) (f32bits (extVal (s.slot n).i (s.geti (T.LPE_SLOT.EXP_I n))))

/-! ### The control law up to the output clamp (R174, R179, R186) -/

/-- What the law of a closed slot answers before rate limit, selection and integration. -/
structure LoopEval where
  u : Int
  cand : Int
  di : Int
  ffm : Int
  tracking : Bool
deriving DecidableEq, Repr

/-- Set I to a value, clamped to the output limits, on the extended grid. -/
def State.clampedI (s : State) (n : Nat) (v : FVal) : Int × Bool :=
  extRound (clampF (s.outLo n) (s.outHi n) v) (s.geti (T.LPE_SLOT.EXP_I n))

/-- Evaluate a closed slot on a PV: with `closing` as R179, with `restart` after a tracked dropout (R193). -/
def State.law (s : State) (n : Nat) (pv : Word) (closing restart : Bool) : State × LoopEval :=
  let x := s.slot n
  let eE := s.geti (T.LPE_SLOT.EXP_E n)
  let eP := s.geti (T.LPE_SLOT.EXP_P n)
  let eI := s.geti (T.LPE_SLOT.EXP_I n)
  let eD := s.geti (T.LPE_SLOT.EXP_D n)
  let eO := s.expO n
  let sgn : Int := if s.bit (T.LPE_SLOT.ACT n) then -1 else 1
  let lo := f32val (s.getw (T.LPE_SLOT.SP_LO n))
  let hi := f32val (s.getw (T.LPE_SLOT.SP_HI n))
  let want := if x.mode = 2 then s.loopOut (s.get (T.LPE_SLOT.CAS_SLOT n)) else x.sp
  let spEff := f32bits (clampF lo hi (f32val want))
  let pvm := stageRound (f32val pv) eE
  let spm := stageRound (f32val spEff) eE
  let dbm := stageRound (f32val (s.getw (T.LPE_SLOT.DB n))) eE
  let e0 := stageRound (stageVal (sgn * (spm.1 - pvm.1)) eE) eE
  let me : Int := if (e0.1.natAbs : Int) ≤ dbm.1 then 0 else e0.1 - (if e0.1 < 0 then -dbm.1 else dbm.1)
  let g : FVal := if s.bit (T.LPE_SLOT.GS_EN n) then .ofQ (s.gain n me) (2 ^ 20) else .ofInt 1
  let one : FVal := .ofInt 1
  let ev := stageVal me eE
  let p := stageRound (((f32val x.coefs.kp).mul (if s.bit (T.LPE_SLOT.GS_P n) then g else one)).mul ev) eP
  let prevm := if closing || restart then pvm.1 else x.pvPrev
  let d0 := if closing || restart then 0 else x.d
  let d := stageRound (((f32val x.coefs.cd).mul (stageVal d0 eD)).sub
    ((f32val x.coefs.kdd).mul (stageVal (sgn * (pvm.1 - prevm)) eE))) eD
  let di := extRound (((f32val x.coefs.kit).mul (if s.bit (T.LPE_SLOT.GS_I n) then g else one)).mul ev) eI
  let ffm := stageRound (f32val x.ff) eO
  let pV := stageVal p.1 eP
  let dV := stageVal d.1 eD
  let fV := stageVal ffm.1 eO
  let tracking := match s.innerOf n with
    | some k => (s.slot k).mode != 2
    | none => false
  let i1 : Int × Bool :=
    if closing then s.clampedI n (((stageVal x.out eO).sub pV).sub fV) else (x.i, false)
  let i2 : Int × Bool :=
    if tracking then
      match s.innerOf n with
      | some k => s.clampedI n ((((f32val (s.slot k).spEff).sub pV).sub dV).sub fV)
      | none => i1
    else i1
  let diUsed := if tracking then 0 else di.1
  let u := stageRound ((((pV.add (extVal i2.1 eI)).add (extVal diUsed eI)).add dV).add fV) eO
  let lom := (stageRound (s.outLo n) eO).1
  let him := (stageRound (s.outHi n) eO).1
  let cand := clampI lom him u.1
  let sats := ([pvm.2, spm.2, dbm.2, e0.2, p.2, d.2, di.2, ffm.2, i1.2, u.2].filter id).length
  let s1 := s.setSlot n { x with spEff := spEff, p := p.1, d := d.1, i := i2.1, u := u.1, pvPrev := pvm.1, started := true }
  let s2 := ((s1.saturated n sats).setBit (F.LPn_STAT.LIM_HI n) (him < u.1)).setBit (F.LPn_STAT.LIM_LO n) (u.1 < lom)
  let s3 := (s2.setw (F.LPn_SP.VALUE n) spEff).setBit (F.LPn_STAT.TRK n) tracking
  (s3, ⟨u.1, cand, diUsed, ffm.1, tracking⟩)

/-- cascade_hold of R186 for slot n and its increment. -/
def State.cascadeHold (s : State) (n : Nat) (di : Int) : Bool :=
  match s.innerOf n with
  | none => false
  | some k =>
    let x := s.slot k
    if x.mode ≠ 2 ∨ x.out = x.u ∨ di = 0 then false
    else
      let h : Int := if x.out < x.u then 1 else -1
      let sg : Int := (if di < 0 then -1 else 1) * (if s.bit (T.LPE_SLOT.ACT k) then -1 else 1)
      sg == h

/-- Integrate against the output that stands (R174): conditional, clamped. -/
def State.integrate (s : State) (n : Nat) (e : LoopEval) (out : Int) : State :=
  if e.tracking then s.showInt n
  else
    let x := s.slot n
    let di := if (out < e.u ∧ 0 < e.di) ∨ (e.u < out ∧ e.di < 0) ∨ s.cascadeHold n e.di then 0 else e.di
    let i := s.clampedI n (extVal (x.i + di) (s.geti (T.LPE_SLOT.EXP_I n)))
    ((s.setSlot n { x with i := i.1 }).saturated n i.2.toNat).showInt n

/-- A loser of a selection follows the group output (R182). -/
def State.trackGroup (s : State) (n : Nat) (e : LoopEval) (out : Int) : State :=
  let x := s.slot n
  let v := (((stageVal out (s.expO n)).sub (stageVal x.p (s.geti (T.LPE_SLOT.EXP_P n)))).sub
    (stageVal x.d (s.geti (T.LPE_SLOT.EXP_D n)))).sub (stageVal e.ffm (s.expO n))
  let i := s.clampedI n v
  (((s.setSlot n { x with i := i.1 }).saturated n i.2.toNat).set (F.LPn_STAT.TRK n) 1).showInt n

/-! ### The local model and plausibility (R187 to R190) -/

/-- Re-align the local model (R188). -/
def State.alignModel (s : State) (n : Nat) (pv out : Word) : State :=
  s.setSlot n { s.slot n with mx := 0, my0 := pv, mu0 := out, ring := List.replicate 32 out }

/-- y = y0 + x. -/
def State.modelY (s : State) (n : Nat) : Word := f32add (s.slot n).my0 (s.slot n).mx

/-- Update the model with the output that stands (R188): ring[lm] is read before the push (log entry 23). -/
def State.modelStep (s : State) (n : Nat) : State :=
  if s.get (T.LPE_SLOT.PL_SRC n) ≠ 2 then s
  else
    let x := s.slot n
    let a := x.coefs.am
    let ru := x.ring.getD (s.get (T.LPE_SLOT.LM n)) x.mu0
    let gainPart := f32mul (f32sub 0x3F800000#32 a) (s.getw (T.LPE_SLOT.KM n))
    let nx := f32add (f32mul a x.mx) (f32mul gainPart (f32sub ru x.mu0))
    s.setSlot n { x with mx := nx, ring := (s.loopOut n :: x.ring).take 32 }

/-- PLAUS_ACTION (R190): at PL_N failed checks LPE acts once, as PL_ACT selects; action 2 puts the slot in SAFE. -/
def State.plausAction (s : State) (n : Nat) : State :=
  let x := s.slot n
  if s.get (T.LPE_SLOT.PL_SRC n) = 0 ∨ x.plActed ∨ s.get (F.LPn_STAT.PL_RUN n) < s.get (T.LPE_SLOT.PL_N n) then s
  else
    let act := s.get (T.LPE_SLOT.PL_ACT n)
    let s1 := (((s.setSlot n { x with plActed := true }).set (F.LPn_STAT.PL_DEV n) 1).inc (F.LPn_PL_CNT.COUNT n))
    let s2 := if act = 0 then s1 else ((s1.flag (F.LPn_FLT.PLAUS n)).updFlt n).lpeFault 15 n
    if act = 2 then s2.enterSafe n (s2.safeOut n) else s2

/-- The check of R187 at an evaluation in AUTO or CASC that is not in dropout, with suspension (R189). -/
def State.plausCheck (s : State) (n : Nat) (pv : Word) : State :=
  let src := s.get (T.LPE_SLOT.PL_SRC n)
  if src = 0 then s.setw (F.LPn_PRED.VALUE n) 0
  else
    let j := s.get (T.LPE_SLOT.PL_SENS n)
    if src = 1 ∧ (!s.modelUsable || !s.sensValid j) then
      if (s.slot n).plSusp then s
      else (((s.setSlot n { s.slot n with plSusp := true }).set (F.LPn_STAT.PL_SUSP n) 1).flag F.LPE_ERR.PL_SUSP).log 6 6 n 3
    else
      let y := if src = 1 then s.pred j else s.modelY n
      let s1 := ((s.setSlot n { s.slot n with plSusp := false }).set (F.LPn_STAT.PL_SUSP n) 0).setw (F.LPn_PRED.VALUE n) y
      let dev := (f32val (f32sub pv y)).abs
      if (f32val (s.getw (T.LPE_SLOT.PL_TOL n))).lt dev then
        (s1.set (F.LPn_STAT.PL_RUN n) (min 15 (s1.get (F.LPn_STAT.PL_RUN n) + 1))).plausAction n
      else
        ((s1.set (F.LPn_STAT.PL_RUN n) 0).set (F.LPn_STAT.PL_DEV n) 0).setSlot n { s1.slot n with plActed := false }

/-- PLAUS_ACTION as a command: outside an override group a slot that enters SAFE commits SAFE_OUT. -/
def plausActionCmd (n : Nat) (s : State) : State :=
  let s1 := s.plausAction n
  if (s1.slot n).mode = 3 ∧ (s.slot n).mode ≠ 3 ∧ !s.bit (T.LPE_SLOT.GRP_EN n) then s1.commitLoop n (s1.safeOut n) else s1

def execPlausAction (dt slot : Nat) (s : State) : Host.Outcome State Fault Refusal :=
  .next (plausActionCmd slot (s.elapse dt)).settle

/-! ### Modes (R177 to R179) -/

/-- Enter AUTO or CASC with the coefficients formed (R172); answers whether it did. -/
def State.tryClose (s : State) (n m : Nat) : State × Bool :=
  match s.formCoefs n with
  | some c =>
    let s1 := s.setSlot n { s.slot n with coefs := c }
    let s2 := if s.get (T.LPE_SLOT.PL_SRC n) = 2 then s1.nextFree else s1
    (s2.putMode n m, true)
  | none => (s.flag F.LPE_ERR.MODE_REJ, false)

/-- Apply a held request (Table 7.3); answers whether the slot closes. -/
def State.applyRequest (s : State) (n : Nat) : State × Bool :=
  match (s.slot n).req with
  | none => (s, false)
  | some r =>
    let s0 := (s.setSlot n { s.slot n with req := none }).set (F.LPn_STAT.PEND n) 0
    let x := s0.slot n
    let toOpen := fun (m : Word) =>
      (((s0.setSlot n { x with man := m, drop := 0 }).putMode n 0).setw (F.LPn_MAN.VALUE n) m, false)
    if !s0.listsRequest n r then (s0.flag F.LPE_ERR.MODE_REJ, false)
    else match x.mode, r with
    | 0, m => s0.tryClose n m
    | 1, 2 => (s0.putMode n 2, false)
    | 2, 1 => ((s0.setSlot n { x with sp := x.spEff }).putMode n 1, false)
    | 3, _ => toOpen (s0.getw (T.LPE_SLOT.SAFE_OUT n))
    | _, _ => toOpen (s0.loopOut n)

/-! ### One slot's evaluation up to selection or commit -/

/-- What an evaluation answers: 0 OPEN, 1 closed by the law, 2 holding on dropout, 3 SAFE. -/
structure SlotEval where
  kind : Nat
  ev : LoopEval
deriving DecidableEq, Repr

/-- No law was evaluated. -/
def noEval : LoopEval := ⟨0, 0, 0, 0, false⟩

/-- PV as its stage holds it, read as REAL (R171). -/
def State.stagePv (s : State) (n : Nat) (w : Word) : Word :=
  let e := s.geti (T.LPE_SLOT.EXP_E n)
  f32bits (stageVal (stageRound (f32val w) e).1 e)

/-- Evaluation of a slot in OPEN (R175); the manual output enters the output stage. -/
def State.evalOpen (s : State) (n : Nat) (pv : Option Word) : State :=
  let x := s.slot n
  let eE := s.geti (T.LPE_SLOT.EXP_E n)
  let lo := f32val (s.getw (T.LPE_SLOT.SP_LO n))
  let hi := f32val (s.getw (T.LPE_SLOT.SP_HI n))
  let man := stageRound (f32val x.man) (s.expO n)
  let pvm := match pv with
    | some w => stageRound (f32val w) eE
    | none => (0, false)
  let x1 := match pv with
    | some w => { x with pvPrev := pvm.1, sp := if s.bit (T.LPE_SLOT.SP_TRK n) then f32bits (clampF lo hi (f32val w)) else x.sp }
    | none => x
  let x2 := { x1 with d := 0, out := if s.bit (T.LPE_SLOT.GRP_EN n) then x.out else man.1, drop := 0, started := true, spEff := x1.sp }
  ((s.setSlot n x2).saturated n (man.2.toNat + pvm.2.toNat)).setw (F.LPn_SP.VALUE n) x1.sp

/-- Evaluate slot n of a group or alone: request, feedback, dropout, law, plausibility (R174 to R193). -/
def State.evalSlot (s : State) (n : Nat) : State × SlotEval :=
  let a := s.get (T.LPE_SLOT.PV_ADDR n)
  let s0 := if s.get (T.LPE_SLOT.PV_SRC n) = 0 then s.visit true (a / 4096) else s
  let s0 := [F.LPn_STAT.TRK n, F.LPn_STAT.WIN n, F.LPn_STAT.LIM_HI n, F.LPn_STAT.LIM_LO n, F.LPn_STAT.ROCLIM n,
    F.LPn_STAT.SAT n, F.LPn_STAT.LATE n, F.LPn_STAT.LATE_RUN n].foldl (fun s f => s.set f 0) s0
  let tb := s.now / 250000 * 250000
  let s0 := (s0.set (F.LPn_EVAL_SEC.SEC n) (tb / 10 ^ 9 % 2 ^ 32)).set (F.LPn_EVAL_NS.NS n) (tb % 10 ^ 9)
  let raw := s0.loopRaw n
  let pvw := s0.loopPv n raw.1
  let noVal := raw.2.2 || (f32val pvw).isNan
  let drop := raw.2.1 || noVal
  let pv : Option Word := if noVal then none else some pvw
  let s1 := (match pv with
    | some w => (s0.setSlot n { s0.slot n with pv := w }).setw (F.LPn_PV.VALUE n) (s0.stagePv n w)
    | none => s0).setBit (F.LPn_STAT.DROP n) drop
  let s1 := s1.updFlt n
  let rq := s1.applyRequest n
  let s2 := rq.1
  let x := s2.slot n
  let safe := fun (s : State) => (s, (⟨3, noEval⟩ : SlotEval))
  let run := fun (s : State) (w : Word) (closing restart : Bool) =>
    let s1 := if closing && s.get (T.LPE_SLOT.PL_SRC n) == 2 then s.alignModel n w (s.loopOut n) else s
    let r := s1.law n w closing restart
    let s3 := if drop then r.1 else r.1.plausCheck n w
    if (s3.slot n).mode = 3 then safe s3 else (s3, (⟨1, r.2⟩ : SlotEval))
  match x.mode with
  | 0 => (s2.evalOpen n pv, ⟨0, noEval⟩)
  | 3 =>
    let s3 := s2.setSlot n { s2.slot n with out := s2.safeOut n, spEff := x.sp, started := true,
                                            drop := if x.drop = 3 ∧ drop then 3 else 0 }
    match drop, pv with
    | false, some w =>
      if x.drop = 3 ∧ s2.bit (T.LPE_SLOT.AUTORET n) ∧ (s2.word (R.LPn_FLT n)).toNat % 8 = 0 then
        let c := s3.tryClose n x.beforeDrop
        if c.2 then run c.1 w true false else safe c.1
      else safe s3
    | _, _ => safe s3
  | _ =>
    if drop then
      match s2.get (T.LPE_SLOT.DROP n), pv with
      | 2, _ =>
        let s3 := s2.enterSafe n (s2.safeOut n)
        safe (s3.setSlot n { s3.slot n with drop := 3, beforeDrop := x.mode })
      | 1, some w =>
        let s3 := s2.setSlot n { x with drop := 2 }
        run s3 w rq.2 false
      | _, _ => (s2.setSlot n { x with drop := 1, started := true }, ⟨2, noEval⟩)
    else
      let s3 := s2.setSlot n { x with drop := 0 }
      run s3 (pv.getD 0) (rq.2 || x.drop == 1 || !x.started) (x.drop == 2)

/-- Finish a slot that is no group member: rate limit, integration, model, commit (R170, R174). -/
def State.finishSlot (s : State) (n : Nat) (prev : Int) (r : SlotEval) : State :=
  let s1 : State :=
    match r.kind with
    | 1 =>
      let rl := s.rateLimit n prev r.ev.cand
      let s1 := (s.setSlot n { s.slot n with out := rl.1 }).setBit (F.LPn_STAT.ROCLIM n) rl.2
      (s1.integrate n r.ev rl.1).modelStep n
    | 3 => s.setSlot n { s.slot n with out := s.safeOut n }
    | _ => s
  let m := (s1.slot n).out
  (s1.showOut n m).commitLoop n m

/-! ### Override groups (R181 to R183) -/

/-- A trip member's comparison on its PV (R183); the count stays where no PV exists. -/
def State.tripCompare (s : State) (n : Nat) (pv : Option Word) : State × Bool :=
  if !s.bit (T.LPE_SLOT.TRIP_EN n) then (s, false)
  else match pv with
    | none => (s, false)
    | some w =>
      let th := f32val (s.getw (T.LPE_SLOT.TRIP n))
      let c := if s.bit (T.LPE_SLOT.TRIP_DIR n) then (f32val w).le th else th.le (f32val w)
      let k := if c then min 15 ((s.slot n).tripCnt + 1) else 0
      (s.setSlot n { s.slot n with tripCnt := k, tripCond := c }, c && decide (s.get (T.LPE_SLOT.TRIP_N n) ≤ k))

/-- The Gauntlet's own comparison and count for a member it watches (R424): its verdict. -/
def State.gauntletCompare (s : State) (n : Nat) (pv : Option Word) : State × Option Bool :=
  match s.saf.trips.find? (fun t => t.slot == n), pv with
  | some t, some w =>
    let th := f32val t.trip
    let c := if t.dir = 1 then (f32val w).le th else th.le (f32val w)
    let k := if c then min 15 (t.count + 1) else 0
    ({ s with saf := { s.saf with trips := s.saf.trips.map (fun u => if u.slot = n then { u with count := k } else u) } },
      some (c && decide (t.n ≤ k)))
  | _, _ => (s, none)

/-- GROUP_TRIP (R183): the trip's effects, and source TRIP where the group's own condition caused it. -/
def State.ownTrip (s : State) (g : Nat) (own : Bool) : State :=
  if s.bit (tripFld g) ∨ s.members g = [] then s
  else
    let s1 := s.tripGroup g
    if own then s1.lpeFault 16 g else s1

def execGroupTrip (dt grp : Nat) (own : Bool) (s : State) : Host.Outcome State Fault Refusal :=
  .next ((s.elapse dt).ownTrip grp own).settle

/-- Evaluate a due group: members, trips, selection, group output, commit (R165, R182, R183, R424). -/
def State.evalGroup (s : State) (g : Nat) : State :=
  match s.members g with
  | [] => s
  | lead :: rest =>
    let mem := lead :: rest
    let prev := (s.slot lead).out
    let wasTripped := s.bit (tripFld g)
    -- members
    let r := mem.foldl (fun (acc : State × List (Nat × SlotEval) × Bool × Bool) n =>
      let e := acc.1.evalSlot n
      let raw := e.1.loopRaw n
      let pvw := e.1.loopPv n raw.1
      let pv : Option Word := if raw.2.2 || (f32val pvw).isNan then none else some pvw
      let t := e.1.tripCompare n pv
      let gt := t.1.gauntletCompare n pv
      let differ := match gt.2 with
        | some v => v != t.2
        | none => false
      (gt.1, acc.2.1 ++ [(n, e.2)], acc.2.2.1 || t.2, acc.2.2.2 || differ)) (s, [], false, false)
    let s1 := if r.2.2.1 ∧ !wasTripped then r.1.ownTrip g true else r.1
    let s2 := if r.2.2.2 then (s1.raise 17 g).ownTrip g false else s1
    let evs := r.2.1
    if s2.bit (tripFld g) then
      -- while tripped the output stays the lead's SAFE_OUT (log entry 24)
      let m := s2.safeOut lead
      let s3 := mem.foldl (fun s n => (s.setSlot n { s.slot n with out := m }).showOut n m) s2
      if wasTripped then s3.commitLoop lead m else s3
    else
      -- selection
      let cands : List (Int × Nat) := evs.filterMap (fun e =>
        match e.2.kind with
        | 1 => some (e.2.ev.cand, e.1)
        | 2 => some (prev, e.1)
        | 3 => some (s2.safeOut e.1, e.1)
        | _ => none)
      let best := cands.foldl (fun (acc : Option (Int × Nat)) c => match acc with
        | none => some c
        | some b => if c.1 < b.1 then some c else some b) none
      let sel := match best with
        | some b => b.1
        | none => (stageRound (f32val (s2.slot lead).man) (s2.expO lead)).1
      let rl := s2.rateLimit lead prev sel
      let out := rl.1
      let s3 := s2.setBit (F.LPn_STAT.ROCLIM lead) rl.2
      let s4 := evs.foldl (fun s e =>
        let won := match best with
          | some b => b.2 == e.1
          | none => false
        let s1 := s.setBit (F.LPn_STAT.WIN e.1) won
        let s2 := if e.2.kind = 1 then (if won then s1.integrate e.1 e.2.ev out else s1.trackGroup e.1 e.2.ev out) else s1
        let s3 := (s2.setSlot e.1 { s2.slot e.1 with out := out }).showOut e.1 out
        if e.2.kind = 1 then s3.modelStep e.1 else s3) s3
      s4.commitLoop lead out

/-! ### The tick (R164 to R167) -/

/-- A slot is due in tick N. -/
def State.dueSlot (s : State) (tick n : Nat) : Bool :=
  let p := s.get (T.LPE_SLOT.PERIOD n)
  p != 0 && ((tick : Int) - (s.get (T.LPE_SLOT.PHASE n) : Int)) % (p : Int) == 0

/-- Slot n stands in the order at its own place: it is no group member, or its group's lead. -/
def State.leads (s : State) (n : Nat) : Bool :=
  !s.bit (T.LPE_SLOT.GRP_EN n) || (s.members (s.get (T.LPE_SLOT.GRP n))).head? == some n

/-- The due units of a tick in order: outer loops, outermost level first and ascending slot within a level, then the others (R165). -/
def State.dueOrder (s : State) (tick : Nat) : List Nat :=
  let due := s.enabledSlots.filter (fun n => s.dueSlot tick n && s.leads n)
  let outers := due.filter (fun n => (s.innerOf n).isSome)
  let lv := fun k => outers.filter (fun n => s.cascadeLevel n 4 == k)
  lv 0 ++ lv 1 ++ lv 2 ++ lv 3 ++ lv 4 ++ due.filter (fun n => (s.innerOf n).isNone)

/-- Units of a tick (R166). -/
def State.dueUnits (s : State) (tick : Nat) : Nat :=
  let due := s.enabledSlots.filter (fun n => s.dueSlot tick n)
  due.length + (due.filter (fun n => s.get (T.LPE_SLOT.PL_SRC n) == 2)).length +
    (due.filter (fun n => s.bit (T.LPE_SLOT.GRP_EN n) && s.leads n)).length

/-- The largest number of units due in any tick of the schedule, over the common period of all slots (R166). -/
def State.loopPeak (s : State) : Nat :=
  let l := s.enabledSlots.foldl (fun acc n => Nat.lcm acc (max 1 (s.get (T.LPE_SLOT.PERIOD n)))) 1
  (List.range l).foldl (fun acc t => max acc (s.dueUnits t)) 0

/-- The members of the unit a slot leads. -/
def State.unitMembers (s : State) (n : Nat) : List Nat :=
  if s.bit (T.LPE_SLOT.GRP_EN n) then s.members (s.get (T.LPE_SLOT.GRP n)) else [n]

/-- The visit-list entries of a tick: feedback pages, then the destination page with WRITE (R120, R167). -/
def State.visitList (s : State) (tick : Nat) : List Nat :=
  (s.dueOrder tick).flatMap (fun n =>
    ((s.unitMembers n).filterMap (fun k => if s.get (T.LPE_SLOT.PV_SRC k) = 0 then some (s.get (T.LPE_SLOT.PV_ADDR k) / 4096) else none)) ++
      (if s.get (T.LPE_SLOT.DEST n) = 1 then [s.get (T.LPE_SLOT.DEST_ADDR n) / 4096 + 0x1000] else []))

/-- LPE_THIRD_LATE (R195), in the clock of the deadline: the slot, or its whole group, enters SAFE and SAFE_OUT is committed. -/
def State.thirdLate (s : State) (n : Nat) : State :=
  if s.get (F.LPn_STAT.LATE_RUN n) ≠ 3 ∨ s.bit (F.LPn_FLT.LATE n) then s
  else
    let s1 :=
      if s.bit (T.LPE_SLOT.GRP_EN n) then
        match s.members (s.get (T.LPE_SLOT.GRP n)) with
        | [] => s
        | lead :: rest =>
          let m := s.safeOut lead
          ((lead :: rest).foldl (fun s k => s.enterSafe k m) s).commitLoop lead m
      else (s.enterSafe n (s.safeOut n)).commitLoop n (s.safeOut n)
    ((s1.flag (F.LPn_FLT.LATE n)).updFlt n).lpeFault 14 n

/-- LPE_DEADLINE (R194): every slot whose evaluation of the tick is not complete is late. -/
def State.lpeDeadline (s : State) : State :=
  s.lpe.late.foldl (fun s n =>
    let run := min 3 (s.get (F.LPn_STAT.LATE_RUN n) + 1)
    let was := s.get (F.LPn_STAT.LATE_RUN n)
    let s1 := (((((s.set (F.LPn_STAT.LATE n) 1).flag F.LPE_ERR.LATE).inc F.LPE_LATE_CNT.COUNT).inc
      (F.LPn_LATE_CNT.COUNT n)).set (F.LPn_STAT.LATE_RUN n) run)
    if run = 3 ∧ was < 3 then s1.thirdLate n else s1) { s with lpe := { s.lpe with late := [] } }

def execLpeDeadline (dt : Nat) (s : State) : Host.Outcome State Fault Refusal := .next (s.elapse dt).lpeDeadline.settle

def execLpeThirdLate (dt slot : Nat) (s : State) : Host.Outcome State Fault Refusal :=
  .next ((s.elapse dt).thirdLate slot).settle

/-- LPE_TICK (R165): the tick boundary. `incomplete` are the slots whose evaluation will not be complete by the deadline, `stall` the
engine's stall and `busy` the time from the boundary to the last commit, both in units of 10 ns. A deadline still open is met first;
timed tasks a forward step passed over are released here (R129, R337). -/
def lpeTick (incomplete : List Nat) (stall busy : Nat) (s : State) : State :=
  let tick := s.now / 250000
  let s0 := s.lpeDeadline
  let s1 := (s0.set F.LPE_TICK.TICK (tick % 2 ^ 32)).setBit F.LPE_STAT.MODEL s0.modelUsable
  let s2 := (s1.pgr.stepReleased.foldl (fun s t => s.timedRelease t) { s1 with pgr := { s1.pgr with stepReleased := [] } })
  let s3 := { s2 with lpe := { s2.lpe with tick := tick } }
  if !s3.bit F.LPE_STAT.RUN then s3
  else
    let order := s3.dueOrder tick
    let lateOf := fun n => (s3.unitMembers n).any (fun k => incomplete.contains k)
    let s4 := order.foldl (fun s n =>
      if lateOf n then { s with lpe := { s.lpe with late := s.lpe.late ++ s.unitMembers n } }
      else if s.bit (T.LPE_SLOT.GRP_EN n) then s.evalGroup (s.get (T.LPE_SLOT.GRP n))
      else
        let prev := (s.slot n).out
        let e := s.evalSlot n
        e.1.finishSlot n prev e.2) s3
    let s5 := (s4.set F.LPE_LOAD.LAST (s3.dueUnits tick)).stall true stall
    let s6 := s5.set F.LPE_BUSY_MAX.DUR (max (s5.get F.LPE_BUSY_MAX.DUR) busy)
    { s6 with pgr := { s6.pgr with ringL := (s6.visitList (tick + 1) ++ s6.visitList (tick + 2)).take 256 } }

def execLpeTick (dt : Nat) (incomplete : List Nat) (stall busy : Nat) (s : State) : Host.Outcome State Fault Refusal :=
  .next (lpeTick incomplete stall busy (s.elapse dt)).settle

/-! ### Registers of the window -/

/-- LPn_MODE (R177). A requester reaches the slot its LPE_WIN_SEL selects. -/
def lpnModeWrite (q : Rq) (v : Word) (s : State) : State :=
  s.requestMode (s.get (F.LPE_WIN_SEL.SLOT q.num)) (v.toNat % 8)

/-- LPn_SP (R169). -/
def lpnSpWrite (q : Rq) (v : Word) (s : State) : State := s.writeSp (s.get (F.LPE_WIN_SEL.SLOT q.num)) 0 v

/-- LPn_MAN (R169): the register reads the manual output. -/
def lpnManWrite (q : Rq) (v : Word) (s : State) : State :=
  let n := s.get (F.LPE_WIN_SEL.SLOT q.num)
  let s1 := s.writeMan n 0 v
  s1.setw (F.LPn_MAN.VALUE n) (s1.slot n).man

/-- The safe state of the slot's SAFETY (SF-2 or SF-3) is in force (R429). -/
def State.resetHeld (s : State) (n : Nat) : Bool :=
  let k := s.get (T.LPE_SLOT.SAFETY n)
  (k == 1 || k == 2) && s.bit ⟨R.SAF_STAT, 4 + k, 1⟩

/-- LPE_GRP_RESET (R183): clears a trip unless a member's condition held at its last evaluation. -/
def lpeGrpReset (v : Word) (s : State) : State :=
  let g := v.toNat % 256
  if s.members g = [] then s.flag F.LPE_ERR.RANGE
  else if (s.members g).any (fun n => s.bit (T.LPE_SLOT.TRIP_EN n) && (s.slot n).tripCond) then s.flag F.LPE_ERR.RESET_REJ
  else if (s.members g).any s.resetHeld then s.flag F.LPE_ERR.RESET_REJ
  else
    (s.members g).foldl (fun s n =>
      ((s.set (F.LPn_FLT.TRIP n) 0).set (F.LPn_STAT.TRIP n) 0).updFlt n) (s.set (tripFld g) 0)

/-- LPn_FLT (R196): writing 1 clears LATE or PLAUS; clearing PLAUS re-aligns a local model (R188). -/
def lpnFltWrite (q : Rq) (v : Word) (s : State) : State :=
  let n := s.get (F.LPE_WIN_SEL.SLOT q.num)
  let had := s.bit (F.LPn_FLT.PLAUS n)
  let s1 := s.writeWord (R.LPn_FLT n) v
  let s2 := if had ∧ !s1.bit (F.LPn_FLT.PLAUS n) ∧ s1.get (T.LPE_SLOT.PL_SRC n) = 2 then
    s1.alignModel n (s1.slot n).pv (s1.loopOut n) else s1
  s2.updFlt n

/-! ### Coefficient writes (R173, R180, R181) -/

/-- Slot n takes coefficient writes: OPEN or SAFE with no request held. -/
def State.coefOpen (s : State) (n : Nat) : Bool :=
  let x := s.slot n
  (x.mode == 0 || x.mode == 3) && x.req.isNone

/-- A REAL is exactly representable in a stage (R173). -/
def representable (w : Word) (e : Int) : Bool :=
  match f32val w with
  | .fin n a b =>
    let r := stageRound (.fin n a b) e
    !r.2 && (stageVal r.1 e).eqv (.fin n a b)
  | _ => false

/-- The word at slot-table offset `o` must be representable in its stage: SP_LO, SP_HI in the error stage, OUT_LO, OUT_HI in the output
stage. -/
def State.coefFits (s : State) (n o : Nat) (v : Word) : Bool :=
  if o = 64 ∨ o = 68 then representable v (s.expO n)
  else if o = 76 ∨ o = 80 then representable v (s.geti (T.LPE_SLOT.EXP_E n))
  else true

/-- A write through LPE_TAB_DATA (R180, R536); ADDR advances by 4 (R506). -/
def lpeTabWrite (q : Rq) (v : Word) (s : State) : State :=
  let af := F.LPE_TAB_ADDR.ADDR q.num
  let a := s.get af / 4 * 4
  let k := tabKey 6 a
  let s1 : State :=
    if a < 0x80000 then
      let n := a / 128
      let o := a % 128
      if !s.slotPresent n then s.flag F.SYS_ERR.ABSENT_WR
      else if !hasAcc k .rw then s.writeWord k v
      else if !s.coefOpen n then s.flag F.LPE_ERR.COEF_REJ
      else if !s.coefFits n o v then s.flag F.LPE_ERR.RANGE
      else if (o = 64 ∨ o = 68) ∧ s.bit (T.LPE_SLOT.GRP_EN n) then
        let mem := s.members (s.get (T.LPE_SLOT.GRP n))
        if mem.all s.coefOpen then (n :: mem).foldl (fun s m => s.writeWord (tabKey 6 (128 * m + o)) v) s
        else s.flag F.LPE_ERR.COEF_REJ
      else s.writeWord k v
    else
      let tab := (a - 0x80000) / 256
      if s.enabledSlots.any (fun n => s.bit (T.LPE_SLOT.GS_EN n) && s.get (T.LPE_SLOT.GS_TAB n) == tab &&
          ((s.slot n).mode == 1 || (s.slot n).mode == 2)) then s.flag F.LPE_ERR.COEF_REJ
      else s.writeWord k v
  s1.advance af

/-! ### Cap loops (R197) -/

/-- Rounded division, ties away from zero. -/
def rndAway (x : Int) (d : Nat) : Int :=
  let q := (2 * x.natAbs + d) / (2 * d)
  if x < 0 then -(q : Int) else q

/-- An auxiliary value as round(value × 2¹⁶), ties away from zero. -/
def f32toQ16 (w : Word) : Int :=
  match f32val w with
  | .fin n a b => let q := (2 * (a * 65536) + b) / (2 * b); if n then -(q : Int) else q
  | .inf n => if n then -2147483648 else 2147483647
  | .nan => 0

/-- Whether a cap loop's feedback can be read: its cap station is not DOWN; an auxiliary input is valid (log entry 25). -/
def State.capFed (s : State) (k : Nat) : Bool :=
  let a := s.get (T.CFG_CLOOP.PV_ADDR k)
  if s.get (T.CFG_CLOOP.PV_KIND k) = 2 then !s.aiInvalid (a % 16) else s.stnUp (a / 4096)

/-- A cap loop's state. -/
def State.capLoop (s : State) (k : Nat) : CapLoop := look (fun _ => (⟨0, 0, false⟩ : CapLoop)) s.lpe.caps k

/-- One PI step of cap loop k (R197). -/
def State.capStep (s : State) (k : Nat) : State :=
  if !s.bit (T.CFG_CLOOP.EN k) || !s.capFed k then s
  else
    let a := s.get (T.CFG_CLOOP.PV_ADDR k)
    let w := fun i => s.geti (⟨(T.CFG_CLOOP.SLOT k).key + 4 * i, 0, 32⟩ : Fld)
    let st := a / 4096
    let scale := w 3
    let pv := match s.get (T.CFG_CLOOP.PV_KIND k) with
      | 2 => sat32 (rndAway (sat32 (f32toQ16 (s.aiVal (a % 16))) * scale) 65536)
      | kind => sat32 (dtRaw (if kind = 0 then 3 else 5) (s.inPattern st (s.newest st) (a % 4096) (if kind = 0 then 3 else 5)) * scale)
    let sgn : Int := if s.bit (T.CFG_CLOOP.ACT k) then -1 else 1
    let e := sat32 (sgn * (w 4 - pv))
    let p := sat32 (rndAway (w 5 * e) 65536)
    let di := sat32 (rndAway (w 6 * e) 65536)
    let c := s.capLoop k
    let i0 := if c.ran then c.i else sat32 (w 9 - p)
    let u := sat32 (p + i0 + di)
    let out := clampI (w 7) (w 8) u
    let i1 := if (out < u ∧ 0 < di) ∨ (u < out ∧ di < 0) then i0 else sat32 (i0 + di)
    let raw := sat32 (rndAway (out * w 10) (2 ^ 32))
    let dst := s.get (T.CFG_CLOOP.DEST_ADDR k)
    let s1 := s.outField (dst / 4096) (dst % 4096) (s.get (T.CFG_CLOOP.DEST_DTYPE k)) (.int raw)
    { s1 with lpe := { s1.lpe with caps := put k ⟨i1, out, true⟩ s1.lpe.caps } }

/-- CAP_LOOP_RUN: every cap loop's step, while they run (SYS_SVC.CAPLOOP). -/
def capLoopRun (s : State) : State :=
  if s.bit F.SYS_SVC.CAPLOOP then (List.range 64).foldl (fun s k => s.capStep k) s else s

def execCapLoopRun (dt : Nat) (s : State) : Host.Outcome State Fault Refusal := .next (capLoopRun (s.elapse dt)).settle

/-! ### Start of service (R198) and change of table (R199) -/

/-- A slot that starts in its INIT_MODE (R198). -/
def State.startSlot (s : State) (n : Nat) : State :=
  let so := s.getw (T.LPE_SLOT.SAFE_OUT n)
  let sp := s.getw (T.LPE_SLOT.SP_INIT n)
  let s1 := s.setSlot n { slot0 with sp := sp, spEff := sp, man := so, out := s.safeOut n }
  let s2 := ((s1.setw (F.LPn_MAN.VALUE n) so).setw (F.LPn_SP.VALUE n) sp).showOut n (s1.slot n).out
  let m := s.get (T.LPE_SLOT.INIT_MODE n)
  if m = 1 ∨ (m = 2 ∧ s.bit (T.LPE_SLOT.CAS_EN n)) then (s2.tryClose n m).1 else s2.putMode n 0

/-- The slot named by cap entry k takes over: PV source and destination name the same input, output and data type (R198). -/
def State.capMatches (s : State) (k : Nat) : Bool :=
  let n := s.get (T.CFG_CLOOP.SLOT k)
  let kind := s.get (T.CFG_CLOOP.PV_KIND k)
  let pv := if kind = 2 then
      s.get (T.LPE_SLOT.PV_SRC n) == 1 && s.get (T.LPE_SLOT.PV_ADDR n) % 16 == s.get (T.CFG_CLOOP.PV_ADDR k) % 16
    else
      s.get (T.LPE_SLOT.PV_SRC n) == 0 && s.get (T.LPE_SLOT.PV_ADDR n) == s.get (T.CFG_CLOOP.PV_ADDR k) &&
        s.get (T.LPE_SLOT.PV_DTYPE n) == (if kind = 0 then 3 else 5)
  s.bit (T.LPE_SLOT.EN n) && pv && s.get (T.LPE_SLOT.DEST n) == 1 &&
    s.get (T.LPE_SLOT.DEST_ADDR n) == s.get (T.CFG_CLOOP.DEST_ADDR k) &&
    s.get (T.LPE_SLOT.DEST_DTYPE n) == s.get (T.CFG_CLOOP.DEST_DTYPE k)

/-- A slot that takes over from cap loop k: AUTO, with OUT_prev the cap loop's last output (R198). -/
def State.takeOver (s : State) (k : Nat) : State :=
  let n := s.get (T.CFG_CLOOP.SLOT k)
  let c := s.capLoop k
  let w := f32bits (.ofQ c.out 65536)
  let s1 := s.startSlot n
  let s2 := if c.ran then s1.setSlot n { s1.slot n with out := (stageRound (f32val w) (s.expO n)).1 } else s1
  let r := s2.tryClose n 1
  r.1.showOut n (r.1.slot n).out

/-- LOOP_SERVICE_START (R198): H, the first tick boundary after PGR_STAT.RUN. -/
def loopServiceStart (s : State) : State :=
  if !s.bit F.PGR_STAT.RUN || s.bit F.LPE_STAT.RUN then s
  else
    let s1 := s.enabledSlots.foldl State.startSlot s
    let s2 := (List.range 64).foldl (fun s k =>
      if !s.bit (T.CFG_CLOOP.EN k) then s
      else if s.capMatches k then s.takeOver k
      else s.flag F.LPE_ERR.CAP_MISMATCH) s1
    let s3 := (((s2.set F.SYS_SVC.CAPLOOP 0).set F.LPE_STAT.CAP 0).set F.LPE_STAT.RUN 1)
    let s4 := s3.set F.LPE_LOAD.PEAK s3.loopPeak
    s4.updAvail

def execLoopServiceStart (dt : Nat) (s : State) : Host.Outcome State Fault Refusal :=
  .next (loopServiceStart (s.elapse dt)).settle

/-- What a migrated slot must share (R199). -/
def State.loopIdent (s : State) (n : Nat) : List Nat :=
  [s.get (T.LPE_SLOT.LOOP_TAG n), s.get (T.LPE_SLOT.PV_SRC n), s.get (T.LPE_SLOT.PV_ADDR n), s.get (T.LPE_SLOT.DEST n),
    s.get (T.LPE_SLOT.DEST_ADDR n), s.get (T.LPE_SLOT.CAS_EN n), s.get (T.LPE_SLOT.GRP_EN n)]

/-- The window words of a slot that a migrated slot keeps. -/
def State.moveWindow (s old : State) (o n : Nat) : State :=
  [R.LPn_MODE 0, R.LPn_STAT 0, R.LPn_FLT 0, R.LPn_SP 0, R.LPn_MAN 0, R.LPn_PV 0, R.LPn_OUT 0, R.LPn_PRED 0, R.LPn_INT 0,
    R.LPn_LATE_CNT 0, R.LPn_PL_CNT 0, R.LPn_EVAL_SEC 0, R.LPn_EVAL_NS 0].foldl (fun s k =>
      s.setWord (k + 0x1000000 * n) (old.word (k + 0x1000000 * o))) s

/-- LOOP_TABLE_SWITCH (R199): the staged table takes effect; matching slots migrate, the others start as in R198. -/
def loopTableSwitch (s : State) : State :=
  match s.lpe.staged with
  | none => s
  | some tab =>
    let lo := tabKey 6 0
    let s1 := s.clearWords (fun k => (lo ≤ k && k < lo + 0x90000) || (keyBlock k == 6 && 0x60100 ≤ k % 0x1000000 && k % 0x1000000 < 0x60134 && k < lo) ||
      (0x60040 ≤ k && k < 0x60060) || (0x60400 ≤ k && k < 0x60600))
    let s2 := tab.foldl (fun s e => s.setWord (lo + e.1) e.2) s1
    let s3 := { s2 with lpe := { s2.lpe with slots := [], late := [], staged := none } }
    let s4 := s3.set F.LPE_STAT.CLOSED 0
    let oldSlots := s.enabledSlots
    let s5 := s4.set F.LPE_LOAD.PEAK s4.loopPeak
    s5.enabledSlots.foldl (fun s' n =>
      match oldSlots.find? (fun o => s.get (T.LPE_SLOT.LOOP_TAG o) != 0 && s.loopIdent o == s'.loopIdent n) with
      | some o =>
        let x := s.slot o
        let m := s'.moveWindow s o n
        let kept := m.setSlot n { x with started := !(x.mode = 1 ∨ x.mode = 2) && x.started }
        let c := if x.mode = 1 ∨ x.mode = 2 then (kept.set F.LPE_STAT.CLOSED (kept.get F.LPE_STAT.CLOSED + 1)) else kept
        let d := if x.mode = 1 ∨ x.mode = 2 then
            (match c.formCoefs n with
             | some k => c.setSlot n { c.slot n with coefs := k }
             | none => c)
          else c
        let g := if s.grpTripped o then d.set (tripFld (d.get (T.LPE_SLOT.GRP n))) 1 else d
        g.updFlt n
      | none => s'.startSlot n) s5

def execLoopTableSwitch (dt : Nat) (s : State) : Host.Outcome State Fault Refusal :=
  .next (loopTableSwitch (s.elapse dt)).settle

end Sys2Proof.Machine
end

