-- ==== Sys2Proof/Machine/Mpg.lean ====
section
/-! DEFINITION. The motion profile generator (chapter 8). The spec bounds a profile (R205) and says where it ends (R209) without giving
the planner's arithmetic: the planner below is one that keeps to the bounds (log entry 30). -/
namespace Sys2Proof.Machine

/-! ### The planner -/

/-- The limits in force, in planner units: `tps` ticks per second; velocity in 2⁻³² steps/s, the others its change per tick (per tick
squared for the jerk, 0: none). -/
structure PlanCfg where
  tps : Nat
  vmax : Nat
  acc : Nat
  dec : Nat
  jerk : Nat
  demg : Nat
  soft : Option (Int × Int)
deriving DecidableEq, Repr

/-- A plan: position in 2⁻⁴⁸ steps, velocity, change per tick, planner state (Table 8.1). -/
structure Plan where
  x : Int
  v : Int
  a : Int
  ps : Nat
  brake : Nat
  ovs : Bool
  emg : Bool
  viol : Bool
deriving DecidableEq, Repr

/-- A positive REAL times a factor, rounded down; 0 for one that is not positive and finite. -/
def unitsOf (w : Word) (num den : Nat) : Nat :=
  match f32val w with
  | .fin false a b => a * num / (b * den)
  | _ => 0

/-- The limits from five REAL words. -/
def planCfg (tps : Nat) (vmax acc dec jerk demg : Word) (soft : Option (Int × Int)) : PlanCfg :=
  ⟨tps, unitsOf vmax (2 ^ 32) 1, unitsOf acc (2 ^ 32) tps, unitsOf dec (2 ^ 32) tps, unitsOf jerk (2 ^ 32) (tps * tps),
    unitsOf demg (2 ^ 32) tps, soft⟩

/-- Distance to rest from speed `v` and change per tick `al` along the motion, at deceleration `d` and jerk `j` (0: none), in
velocity units times ticks. -/
def stopDist (v : Nat) (al : Int) (d j : Nat) : Nat :=
  if v = 0 then 0
  else if d = 0 then 2 ^ 300
  else if j = 0 then v * v / (2 * d)
  else
    let fromRest := fun (w : Nat) => if d * d ≤ w * j then (w * w / d + w * d / j) / 2 else w * Nat.sqrt (w * 2 ^ 32 / j) / 2 ^ 16
    if 0 ≤ al then
      let a := al.toNat
      fromRest (v + a * a / (2 * j)) + v * a / j + a * a * a / (3 * j * j)
    else
      let b := (-al).toNat
      let w := v + b * b / (2 * j)
      fromRest w - (w * b / j - b * b * b / (6 * j * j))

/-- The distance of a plan's rest from where it is, in 2⁻⁴⁸ steps. -/
def PlanCfg.toUnits (c : PlanCfg) (vt : Nat) : Nat := vt * 2 ^ 16 / c.tps

/-- Movement of one tick at a speed, in 2⁻⁴⁸ steps: through the increment per 10 ns clock (R210) at the 10 µs tick. -/
def PlanCfg.move (c : PlanCfg) (v : Nat) : Nat :=
  if c.tps = 100000 then (2 * v * 2 ^ 16 + 10 ^ 8) / (2 * 10 ^ 8) * 1000 else v * 2 ^ 16 / c.tps

/-- Braking: speed and change per tick after one more tick of deceleration to rest. -/
def brakeTick (s : Nat) (al : Int) (d j : Nat) : Nat × Int :=
  let al1 : Int :=
    if j = 0 then -(d : Int)
    else if 0 ≤ al then max (al - j) (-(d : Int))
    else
      let b := (-al).toNat
      if 2 * j * s ≤ b * b then min (al + j) (-(j : Int)) else max (al - j) (-(d : Int))
  let s1 := (s : Int) + al1
  if s1 ≤ 0 ∨ al1 = 0 then (0, 0) else (s1.toNat, al1)

/-- Speeding up toward a limit: never above `vmax`, the change per tick within `acc` and the jerk. -/
def speedTick (s : Nat) (al : Int) (vmax acc j : Nat) : Nat × Int :=
  let al1 : Int :=
    if j = 0 then (acc : Int)
    else
      let a := al.toNat
      if vmax * 2 * j ≤ s * 2 * j + a * a then max (al - j) 0 else min (al + j) (acc : Int)
  let s1 := min (s + al1.toNat) vmax
  (s1, if s1 = vmax then 0 else al1)

/-- One tick of a plan toward a target, or of a braking in progress. A plan that cannot stop on its target after a change of target or
limits brakes to rest first (R208, R212). -/
def planTick (c : PlanCfg) (p0 : Plan) (target : Int) (replan : Bool) : Plan :=
  let tx := target * 2 ^ 48
  let dirn : Int := if p0.v < 0 then -1 else if 0 < p0.v then 1 else if p0.x ≤ tx then 1 else -1
  let s := p0.v.natAbs
  let al := p0.a * dirn
  let dist := (tx - p0.x) * dirn
  let restN := (c.toUnits (stopDist s al c.dec c.jerk) : Int)
  let restE := (c.toUnits (stopDist s 0 c.demg 0) : Int)
  -- what new limits or a new target make of a plan in motion
  let p : Plan :=
    if replan ∧ p0.brake = 0 ∧ s ≠ 0 ∧ 0 ≤ dist ∧ dist + c.move s < restN then
      let beyond := fun (r : Int) => match c.soft with
        | some lim => decide (0 < ((p0.x + r * dirn) - (if 0 < dirn then lim.2 else lim.1) * 2 ^ 48) * dirn)
        | none => false
      if beyond restN then
        if beyond restE then { p0 with brake := 6, emg := true } else { p0 with brake := 2, emg := true }
      else { p0 with brake := 1, ovs := true }
    else p0
  let done := fun (s1 : Nat) (al1 : Int) (ps : Nat) =>
    { p with x := p.x + c.move s1 * dirn, v := s1 * dirn, a := al1 * dirn, ps := ps }
  if p.brake ≠ 0 then
    let hard := p.brake = 2 ∨ p.brake = 4 ∨ p.brake = 6 ∨ p.brake = 8
    let r := if hard then brakeTick s 0 c.demg 0 else brakeTick s al c.dec c.jerk
    if r.1 = 0 then
      { p with v := 0, a := 0,
               ps := if p.brake = 1 ∨ p.brake = 2 then 5 else if p.brake = 5 ∨ p.brake = 8 then 0 else if p.brake = 9 then 8 else 7,
               viol := p.viol || p.brake == 6,
               brake := 0 }
    else done r.1 r.2 (if p.brake = 9 then 8 else if hard then 6 else 4)
  else if dist = 0 ∧ s = 0 then { p with v := 0, a := 0, ps := 1 }
  else if dist < 0 then
    let r := brakeTick s al c.dec c.jerk
    done r.1 r.2 5
  else if c.vmax < s then
    let r := brakeTick s al c.dec c.jerk
    done (max r.1 c.vmax) r.2 4
  else
    let up := speedTick s al c.vmax c.acc c.jerk
    let fits := (c.toUnits (stopDist up.1 up.2 c.dec c.jerk) : Int) + c.move up.1 ≤ dist
    if fits then done up.1 up.2 (if up.1 = c.vmax then 3 else 2)
    else
      let keep : Nat × Int := (s, if c.jerk = 0 then 0 else max 0 (al - c.jerk))
      let fitsK := s ≠ 0 ∧ (c.toUnits (stopDist s (min al 0) c.dec c.jerk) : Int) + c.move s ≤ dist
      let r := if fitsK ∧ 0 ≤ al then keep else brakeTick s al c.dec c.jerk
      let creep := max r.1 (min (max s 1) (max 1 (min c.dec c.acc)))
      if dist ≤ c.move creep then { p with x := tx, v := 0, a := 0, ps := 1 }
      else done creep r.2 4

/-- One tick of a homing move at a wanted velocity (R216). -/
def homeTick (c : PlanCfg) (p : Plan) (vmax : Nat) (neg : Bool) : Plan :=
  let want : Int := if neg then -1 else 1
  let s := p.v.natAbs
  let dirn : Int := if p.v < 0 then -1 else if 0 < p.v then 1 else want
  if dirn = want ∧ s ≤ vmax then
    let r := speedTick s (p.a * dirn) vmax c.acc c.jerk
    { p with x := p.x + c.move r.1 * dirn, v := r.1 * dirn, a := r.2 * dirn, ps := 8 }
  else
    let r := brakeTick s (p.a * dirn) c.dec c.jerk
    { p with x := p.x + c.move r.1 * dirn, v := r.1 * dirn, a := r.2 * dirn, ps := 8 }

/-! ### Local axes -/

/-- The axis's rate limit in steps/s times STEP_W (R211): a VMAX is admissible up to min(2 MHz, 1 / (2 × STEP_W)). -/
def State.rateOk (s : State) (n : Nat) (w : Word) : Bool :=
  let lim := min 2000000 (50000000 / max 1 (s.get (F.AXn_PULSE.STEP_W n)))
  match f32val w with
  | .fin _ a b => decide (a ≤ lim * b)
  | _ => false

/-- Limits of a local axis; soft limits are active with SOFT_EN = 1 and HOMED = 1 (R212). -/
def State.axCfg (s : State) (n : Nat) : PlanCfg :=
  planCfg 100000 (s.getw (F.AXn_VMAX.VALUE n)) (s.getw (F.AXn_ACC.VALUE n)) (s.getw (F.AXn_DEC.VALUE n)) (s.getw (F.AXn_JERK.VALUE n))
    (s.getw (F.AXn_DEC_EMG.VALUE n))
    (if s.bit (F.AXn_CFG.SOFT_EN n) && s.bit (F.AXn_STAT.HOMED n) then
      some (s.geti (F.AXn_SOFT_LO.POS n), s.geti (F.AXn_SOFT_HI.POS n)) else none)

/-- The lines of axis n: 64 + 3n STEP (pulses are counted, not listed), 65 + 3n DIR, 66 + 3n EN. -/
def State.enLine (s : State) (n : Nat) (on : Bool) : State := s.emit (.pin (66 + 3 * n) (on == s.bit (F.AXn_CFG.EN_POL n)))

/-- Move axis n to a position in 2⁻⁴⁸ steps, emitting its steps (R210). -/
def State.axMoveTo (s : State) (n : Nat) (x : Int) : State :=
  let was := s.geti (F.AXn_POS.POS n)
  let pos := x.fdiv (2 ^ 48)
  let frac := (x % 2 ^ 48).toNat
  let s1 := ((s.seti (F.AXn_POS.POS n) pos).set (F.AXn_POS_FRAC.FRAC n) (frac / 2 ^ 32)).setAx n { s.ax n with acc := frac }
  if pos = was then s1 else s1.emit (.steps n (pos - was))

/-- The position of a local axis in 2⁻⁴⁸ steps. -/
def State.axX (s : State) (n : Nat) : Int := s.geti (F.AXn_POS.POS n) * 2 ^ 48 + (s.ax n).acc

/-- Show velocity and increment (R210). -/
def State.axShow (s : State) (n : Nat) : State :=
  let v := (s.ax n).v
  let inc := (2 * v.natAbs * 2 ^ 16 + 10 ^ 8) / (2 * 10 ^ 8)
  (((s.setAx n { s.ax n with inc := inc }).setw (F.AXn_VEL.VEL n) (f32bits (.ofQ v (2 ^ 32)))).set (F.AXn_INC_LO.INC n) (inc % 2 ^ 32)).set
    (F.AXn_INC_HI.INC n) (inc / 2 ^ 32)

/-- Show LIMP and LIMN in MPG_LIM. -/
def State.limLatch (s : State) (n : Nat) (plus on : Bool) : State :=
  (s.setBit (if plus then F.AXn_STAT.LIMP n else F.AXn_STAT.LIMN n) on).setBit
    ⟨R.MPG_LIM, if plus then n else n + 16, 1⟩ on

/-- Bring a local axis to rest at once in a state, its target where it rests. -/
def State.axRest (s : State) (n ps : Nat) : State :=
  let x := s.ax n
  (((s.setAx n { x with v := 0, a := 0, brake := 0 }).set (F.AXn_STAT.PSTATE n) ps).seti (F.AXn_TARGET.TARGET n)
    (s.geti (F.AXn_POS.POS n))).axShow n

/-- Abort a homing sequence; a held target is dropped. -/
def State.abortHome (s : State) (n : Nat) : State :=
  if s.get (F.AXn_STAT.PSTATE n) = 8 then (s.setAx n { s.ax n with held := none }).set (F.AXn_STAT.HPH n) 6 else s

/-- Start a braking that ends as `code` says; an emergency braking in progress is not lessened (R215). -/
def State.axBrake (s : State) (n code : Nat) : State :=
  let x := s.ax n
  let hard := x.brake = 2 ∨ x.brake = 4 ∨ x.brake = 6 ∨ x.brake = 8
  let c := if hard ∧ code = 3 then 4 else if hard ∧ code = 5 then 8 else code
  let s1 := s.setAx n { x with brake := c, fresh := false }
  let s2 := if c = 4 then s1.set (F.AXn_STAT.EMG n) 1 else s1
  let s3 := s2.set (F.AXn_STAT.AT_TGT n) 0
  if x.v = 0 then
    let s4 := s3.axRest n (if c = 5 ∨ c = 8 then 0 else 7)
    if c = 5 ∨ c = 8 then (s4.set (F.AXn_STAT.EN_OUT n) 0).enLine n false else s4
  else s3.set (F.AXn_STAT.PSTATE n) (if c = 4 ∨ c = 8 then 6 else 4)

/-- LIMIT_TRIP (R214, R217): a limit input's debounce counter has reached DEB. -/
def State.limitTrip (s : State) (n : Nat) (plus : Bool) : State :=
  let x := s.ax n
  let used := s.bit (if plus then F.AXn_LIM_CFG.LIMP_EN n else F.AXn_LIM_CFG.LIMN_EN n)
  let s1 := s.setAx n (if plus then { x with limP := true, cP := s.get (F.AXn_LIM_CFG.DEB n) }
                        else { x with limN := true, cN := s.get (F.AXn_LIM_CFG.DEB n) })
  let hm := s.get (F.AXn_HOME_CFG.HMODE n)
  let homing := s.get (F.AXn_STAT.PSTATE n) = 8
  if !used then s
  else if homing ∧ ((hm = 1 ∧ !plus) ∨ (hm = 2 ∧ plus)) then s1
  else
    let s2 := (s1.limLatch n plus true).flag F.MPG_ERR.LIMIT
    let s3 := if homing then
        ((s2.abortHome n).set (F.AXn_STAT.HOME_LIMIT n) 1).flag F.MPG_ERR.HOME_LIMIT
      else s2
    if s3.get (F.AXn_STAT.PSTATE n) = 0 then s3
    else if s3.bit (F.AXn_LIM_CFG.LIM_MODE n) then s3.axBrake n 4 else s3.axRest n 7

def execLimitTrip (dt ax : Nat) (plus : Bool) (s : State) : Host.Outcome State Fault Refusal :=
  .next ((s.elapse dt).limitTrip ax plus).settle

/-- The home signal of an axis: its HOME input, or the limit used as home (R216). -/
def State.homeLevel (s : State) (n : Nat) : Bool :=
  match s.get (F.AXn_HOME_CFG.HMODE n) with
  | 1 => (s.ax n).limN
  | 2 => (s.ax n).limP
  | _ => (s.ax n).home

/-- The homing sequence follows its signal (R216): in the search and in the approach an active signal brakes the axis, the latter capturing
the position; in the back-off an inactive one starts the approach. -/
def State.homeFollow (s : State) (n : Nat) : State :=
  if s.get (F.AXn_STAT.PSTATE n) ≠ 8 ∨ (s.ax n).brake = 9 then s
  else
    let h := s.homeLevel n
    match s.get (F.AXn_STAT.HPH n) with
    | 1 => if h then s.setAx n { s.ax n with brake := 9 } else s
    | 2 => if h then s else s.set (F.AXn_STAT.HPH n) 3
    | 3 => if h then (s.seti (F.AXn_HOME_POS.POS n) (s.geti (F.AXn_POS.POS n))).setAx n { s.ax n with brake := 9 } else s
    | _ => s

/-- HOME_SIGNAL_CHANGE (R216): the debounced home signal takes a level. -/
def homeSignalChange (n : Nat) (level : Bool) (s : State) : State :=
  let x := s.ax n
  let c := if level then s.get (F.AXn_LIM_CFG.DEB n) else 0
  let x1 := match s.get (F.AXn_HOME_CFG.HMODE n) with
    | 1 => { x with limN := level, cN := c }
    | 2 => { x with limP := level, cP := c }
    | _ => { x with home := level, cH := c }
  (s.setAx n x1).homeFollow n

def execHomeSignalChange (dt ax : Nat) (level : Bool) (s : State) : Host.Outcome State Fault Refusal :=
  .next (homeSignalChange ax level (s.elapse dt)).settle

/-- One step of a debounce counter and the debounced level (R213). -/
def debounce (deb c : Nat) (lvl active : Bool) : Nat × Bool :=
  let c1 := if active then min deb (c + 1) else c - 1
  if active && c1 == deb then (c1, true) else if !active && c1 == 0 then (c1, false) else (c1, lvl)

/-- One 1 µs sample of the three inputs of axis n: LIM+, LIM−, HOME as electrical levels. -/
def State.axSample (s : State) (n : Nat) (lv : Bool × Bool × Bool) : State :=
  let deb := s.get (F.AXn_LIM_CFG.DEB n)
  let lp := s.bit (F.AXn_LIM_CFG.LIM_POL n)
  let hp := s.bit (F.AXn_LIM_CFG.HOME_POL n)
  let x := s.ax n
  let p := debounce deb x.cP x.limP (lv.1 == lp)
  let m := debounce deb x.cN x.limN (lv.2.1 == lp)
  let h := debounce deb x.cH x.home (lv.2.2 == hp)
  let s1 := s.setAx n { x with cP := p.1, cN := m.1, cH := h.1, limP := p.2, limN := m.2, home := h.2 }
  let s2 := if p.2 && !x.limP then s1.limitTrip n true else s1
  let s3 := if m.2 && !x.limN then s2.limitTrip n false else s2
  s3.homeFollow n

/-- Take a target at a profile tick (R206, R208, R212, R214): limit and soft-limit checks, flags of the last target cleared. -/
def State.axTake (s : State) (n : Nat) : State :=
  let x := s.ax n
  if !x.fresh ∨ x.brake ≠ 0 then s
  else
    let pos := s.geti (F.AXn_POS.POS n)
    let c := s.axCfg n
    let inside := match c.soft with
      | some l => decide (l.1 ≤ x.want) && decide (x.want ≤ l.2)
      | none => true
    let s0 := s.setAx n { x with fresh := false }
    if s.bit (F.AXn_STAT.FAULT n) ∧ !inside then s0.seti (F.AXn_TARGET.TARGET n) pos
    else
      let rej := (s.bit (F.AXn_STAT.LIMP n) && decide (pos ≤ x.want)) || (s.bit (F.AXn_STAT.LIMN n) && decide (x.want ≤ pos))
      let t0 := if rej then pos else x.want
      let t := match c.soft with
        | some l => clampI l.1 l.2 t0
        | none => t0
      let s1 := (s0.seti (F.AXn_TARGET.TARGET n) t).setAx n { s0.ax n with replan := true }
      let s2 := ((s1.setBit (F.AXn_STAT.TGT_REJ n) rej).setBit (F.AXn_STAT.SOFT n) (!inside)).set (F.AXn_STAT.OVS n) 0
      let s3 := s2.set (F.AXn_STAT.EMG n) 0
      if s3.get (F.AXn_STAT.PSTATE n) = 7 ∧ !rej then s3.set (F.AXn_STAT.PSTATE n) 1 else s3

/-- A homing sequence's rest: the next phase, or the end (R216). -/
def State.homeRest (s : State) (n : Nat) : State :=
  match s.get (F.AXn_STAT.HPH n) with
  | 1 => s.set (F.AXn_STAT.HPH n) 2
  | 3 =>
    let p := s.geti (F.AXn_POS.POS n) + s.geti (F.AXn_HOME_OFS.POS n) - s.geti (F.AXn_HOME_POS.POS n)
    let s1 := ((((s.seti (F.AXn_POS.POS n) p).seti (F.AXn_TARGET.TARGET n) p).set (F.AXn_STAT.HOMED n) 1).set (F.AXn_STAT.PSTATE n) 1).set
      (F.AXn_STAT.HPH n) 5
    match (s.ax n).held with
    | some t => s1.setAx n { s1.ax n with held := none, fresh := true, want := t }
    | none => s1.set (F.AXn_STAT.AT_TGT n) 1
  | _ => s

/-- One profile tick of an enabled axis (R205): target, plan, motion in ten microseconds with the inputs' samples between. -/
def State.axTick (s : State) (n : Nat) (samples : List (Bool × Bool × Bool)) : State :=
  if !s.bit (F.AXn_STAT.EN_OUT n) then samples.foldl (fun s lv => s.axSample n lv) s
  else
    let s1 := s.axTake n
    let x := s1.ax n
    let c := s1.axCfg n
    let ps := s1.get (F.AXn_STAT.PSTATE n)
    let p : Plan := ⟨s1.axX n, x.v, x.a, ps, x.brake, s1.bit (F.AXn_STAT.OVS n), s1.bit (F.AXn_STAT.EMG n), false⟩
    let hph := s1.get (F.AXn_STAT.HPH n)
    let r : Plan :=
      if ps = 7 ∧ x.brake = 0 then p
      else if ps = 8 ∧ x.brake ≠ 9 then
        let v := unitsOf (s1.getw (if hph = 1 then F.AXn_HOME_V1.VALUE n else F.AXn_HOME_V2.VALUE n)) (2 ^ 32) 1
        let neg := xor (!s1.bit (F.AXn_HOME_CFG.HDIR n)) (hph == 2)
        homeTick c p v neg
      else planTick c p (s1.geti (F.AXn_TARGET.TARGET n)) x.replan
    let s2 := (((s1.setAx n { x with v := r.v, a := r.a, brake := r.brake, replan := false }).set (F.AXn_STAT.PSTATE n) r.ps).setBit
      (F.AXn_STAT.OVS n) r.ovs).setBit (F.AXn_STAT.EMG n) r.emg
    let s2 := s2.axShow n
    let s2 := if (0 < p.v ∧ r.v < 0) ∨ (p.v = 0 ∧ r.v ≠ 0) ∨ (p.v < 0 ∧ 0 < r.v) then
        s2.emit (.pin (65 + 3 * n) (xor (decide (0 < r.v)) (s2.bit (F.AXn_CFG.DIR_INV n)))) else s2
    -- ten microseconds of motion, an input sample at each
    let dx := r.x - p.x
    let s3 := (List.range 10).foldl (fun (s : State) (k : Nat) =>
      let s' := if (s.ax n).v = r.v ∨ (s.ax n).brake ≠ 0 then s.axMoveTo n (p.x + dx * ((k : Int) + 1) / 10) else s
      match samples[k]? with
      | some lv => s'.axSample n lv
      | none => s') s2
    let s4 := if r.viol then (((s3.set (F.AXn_STAT.FAULT n) 1).flag F.MPG_ERR.SOFT_VIOL).set (F.AXn_STAT.EMG n) 1) else s3
    let rest := (s4.ax n).v = 0 ∧ p.v ≠ 0 ∧ (s4.ax n).brake = 0
    let ps4 := s4.get (F.AXn_STAT.PSTATE n)
    let s5 := if rest ∧ ps4 = 7 then s4.seti (F.AXn_TARGET.TARGET n) (s4.geti (F.AXn_POS.POS n))
      else if ps4 = 0 then (s4.set (F.AXn_STAT.EN_OUT n) 0).enLine n false
      else if ps4 = 8 ∧ x.brake = 9 ∧ r.brake = 0 then s4.homeRest n
      else s4
    let at0 := s5.get (F.AXn_STAT.PSTATE n) = 1 ∧ s5.geti (F.AXn_POS.POS n) = s5.geti (F.AXn_TARGET.TARGET n)
    (s5.setBit (F.AXn_STAT.AT_TGT n) at0).homeFollow n

/-- PROFILE_TICK (R205): every 10 µs of uptime, each enabled local axis; `samples` are the ten 1 µs samples of an axis's inputs. -/
def profileTick (samples : List (Nat × List (Bool × Bool × Bool))) (s : State) : State :=
  if !s.bit F.MPG_STAT.RUN then s
  else ((List.range 16).filter (fun n => s.axPresent n && s.bit (F.AXn_CFG.EN n))).foldl (fun s n =>
    s.axTick n ((samples.lookup n).getD [])) s

def execProfileTick (dt : Nat) (samples : List (Nat × List (Bool × Bool × Bool))) (s : State) :
    Host.Outcome State Fault Refusal := .next (profileTick samples (s.elapse dt)).settle

/-! ### Commands and writes -/

/-- An axis takes commands: present, configured, in full service (R204, R220). -/
def State.axReady (s : State) (n : Nat) : Bool := s.axPresent n && s.bit (F.AXn_CFG.EN n) && s.bit F.MPG_STAT.RUN

/-- A command to an axis: rejected where the axis cannot take it; ignored as absent space where it is absent (R5). -/
def State.axCmd (s : State) (n : Nat) (f : State → State) : State :=
  if !s.axPresent n then s.flag F.SYS_ERR.ABSENT_WR else if s.axReady n then f s else s.flag F.MPG_ERR.CMD_REJ

/-- ENABLE (R204). -/
def axEnable (n : Nat) (s : State) : State :=
  s.axCmd n (fun s =>
    let s1 := (s.seti (F.AXn_TARGET.TARGET n) (s.geti (F.AXn_POS.POS n))).setAx n
      { s.ax n with fresh := false, replan := true, brake := if s.bit (F.AXn_STAT.EN_OUT n) then (s.ax n).brake else 0 }
    if s.bit (F.AXn_STAT.EN_OUT n) then s1
    else (((s1.set (F.AXn_STAT.EN_OUT n) 1).set (F.AXn_STAT.PSTATE n) 1).set (F.AXn_STAT.AT_TGT n) 1).enLine n true)

/-- DISABLE (R204). -/
def axDisable (n : Nat) (s : State) : State :=
  s.axCmd n (fun s => if s.bit (F.AXn_STAT.EN_OUT n) then (s.abortHome n).axBrake n 5 else s)

/-- STOP (R215). -/
def axStop (n : Nat) (s : State) : State :=
  s.axCmd n (fun s => if s.bit (F.AXn_STAT.EN_OUT n) then (s.abortHome n).axBrake n 3 else s)

/-- ESTOP (R215). -/
def axEstop (n : Nat) (s : State) : State :=
  s.axCmd n (fun s => if s.bit (F.AXn_STAT.EN_OUT n) then (s.abortHome n).axBrake n 4 else s)

/-- HOME (R216). -/
def axHome (n : Nat) (s : State) : State :=
  s.axCmd n (fun s =>
    if s.bit (F.AXn_STAT.LIMP n) || s.bit (F.AXn_STAT.LIMN n) then s.flag F.MPG_ERR.CMD_REJ
    else
      let s0 := (s.set (F.AXn_STAT.HOMED n) 0).set (F.AXn_STAT.HOME_LIMIT n) 0
      if s.get (F.AXn_HOME_CFG.HMODE n) = 3 then
        let p := s.geti (F.AXn_HOME_OFS.POS n)
        ((((s0.seti (F.AXn_POS.POS n) p).set (F.AXn_POS_FRAC.FRAC n) 0).seti (F.AXn_TARGET.TARGET n) p).setAx n { s0.ax n with acc := 0 }).set
          (F.AXn_STAT.HOMED n) 1
      else if !s.bit (F.AXn_STAT.EN_OUT n) then s.flag F.MPG_ERR.CMD_REJ
      else
        (((s0.set (F.AXn_STAT.PSTATE n) 8).set (F.AXn_STAT.HPH n) 1).set (F.AXn_STAT.AT_TGT n) 0).setAx n
          { s0.ax n with brake := 0, fresh := false, held := none } |>.homeFollow n)

/-- CLR_LIM (R214). -/
def axClrLim (n : Nat) (s : State) : State :=
  s.axCmd n (fun s =>
    let x := s.ax n
    let one := fun (s : State) (plus active : Bool) =>
      let f := if plus then F.AXn_STAT.LIMP n else F.AXn_STAT.LIMN n
      if !s.bit f then s else if active then s.flag F.MPG_ERR.CLR_REJ else s.limLatch n plus false
    one (one s true x.limP) false x.limN)

/-- CLR_FLT (R212). -/
def axClrFlt (n : Nat) (s : State) : State := s.axCmd n (fun s => s.set (F.AXn_STAT.FAULT n) 0)

/-- AXn_CMD by its value (Table 8.5). -/
def axCmdWrite (n v : Nat) (s : State) : State :=
  match v % 8 with
  | 1 => axEnable n s
  | 2 => axDisable n s
  | 3 => axStop n s
  | 4 => axEstop n s
  | 5 => axHome n s
  | 6 => axClrLim n s
  | 7 => axClrFlt n s
  | _ => s

/-- AXn_TARGET written by the host (R203). -/
def axTargetWrite (n : Nat) (v : Word) (s : State) : State :=
  if s.axPresent n then s.writeTarget n 0 v.toInt else s.flag F.SYS_ERR.ABSENT_WR

/-- RA_TARGET written by the host (R203). -/
def raTargetWrite (q : Rq) (v : Word) (s : State) : State := s.writeTarget (16 + s.get (F.MPG_WIN_SEL.RA q.num)) 0 v.toInt

/-- A limit's value is admissible (R207): positive and finite; JERK also 0. -/
def limitOk (jerk : Bool) (v : Word) : Bool :=
  match f32val v with
  | .fin neg a _ => if a = 0 then jerk else !neg
  | _ => false

/-- The limit registers of a local axis by number: 0 VMAX, 1 ACC, 2 DEC, 3 JERK, 4 DEC_EMG. -/
def axLimitFld (n which : Nat) : Fld :=
  match which with
  | 0 => F.AXn_VMAX.VALUE n
  | 1 => F.AXn_ACC.VALUE n
  | 2 => F.AXn_DEC.VALUE n
  | 3 => F.AXn_JERK.VALUE n
  | _ => F.AXn_DEC_EMG.VALUE n

/-- A limit of a local axis written by the host (src 0) or the cycle program (src 1) (R203, R207). -/
def State.axLimit (s : State) (n which src : Nat) (v : Word) : State :=
  if which = 0 ∧ s.get (F.AXn_CFG.VMAX_SRC n) ≠ src then s.flag F.MPG_ERR.WRITER
  else if !limitOk (which == 3) v || (which == 0 && !s.rateOk n v) then s.flag F.MPG_ERR.RANGE
  else (s.setw (axLimitFld n which) v).setAx n { s.ax n with replan := true }

/-- AX_LIMIT_WRITE. -/
def axLimitWrite (n which : Nat) (v : Word) (s : State) : State :=
  if s.axPresent n then s.axLimit n which 0 v else s.flag F.SYS_ERR.ABSENT_WR

/-! ### Remote axes (R218, R219) -/

/-- Limits of a remote axis; soft limits need SOFT_EN only, as a remote axis has no HOMED (log entry 31). -/
def State.raCfg (s : State) (r : Nat) : PlanCfg :=
  planCfg 4000 (s.getw (T.MPG_RA.VMAX r)) (s.getw (T.MPG_RA.ACC r)) (s.getw (T.MPG_RA.DEC r)) (s.getw (T.MPG_RA.JERK r)) (s.getw (T.MPG_RA.DEC_EMG r))
    (if s.bit (T.MPG_RA.SOFT_EN r) then some (s.geti (T.MPG_RA.SOFT_LO r), s.geti (T.MPG_RA.SOFT_HI r)) else none)

/-- The plan of a remote axis. -/
def State.raPlan (s : State) (r : Nat) : Plan :=
  let x := s.ra r
  ⟨x.pos * 2 ^ 48 + x.acc, x.v, x.a, s.get (raStat F.AXn_STAT.PSTATE r), x.brake, s.bit (raStat F.AXn_STAT.OVS r),
    s.bit (raStat F.AXn_STAT.EMG r), false⟩

/-- Store a plan. -/
def State.setRaPlan (s : State) (r : Nat) (p : Plan) : State :=
  let x := s.ra r
  let s1 := s.setRa r { x with pos := p.x.fdiv (2 ^ 48), acc := (p.x % 2 ^ 48).toNat, v := p.v, a := p.a, brake := p.brake }
  let s2 := (((s1.set (raStat F.AXn_STAT.PSTATE r) p.ps).setBit (raStat F.AXn_STAT.OVS r) p.ovs).setBit (raStat F.AXn_STAT.EMG r) p.emg).setw
    (F.RA_VEL.VEL r) (f32bits (.ofQ p.v (2 ^ 32)))
  let s3 := if p.viol then (s2.set (raStat F.AXn_STAT.FAULT r) 1).flag F.MPG_ERR.SOFT_VIOL else s2
  s3.seti (F.RA_POS.POS r) (s3.raPos r)

/-- Take a remote target (R206, R212). -/
def State.raTake (s : State) (r : Nat) : State :=
  let x := s.ra r
  if !x.fresh ∨ x.brake ≠ 0 then s
  else
    let c := s.raCfg r
    let inside := match c.soft with
      | some l => decide (l.1 ≤ x.want) && decide (x.want ≤ l.2)
      | none => true
    let s0 := s.setRa r { x with fresh := false }
    if s.bit (raStat F.AXn_STAT.FAULT r) ∧ !inside then s0.seti (F.RA_TARGET.TARGET r) x.pos
    else
      let t := match c.soft with
        | some l => clampI l.1 l.2 x.want
        | none => x.want
      let s1 := (s0.seti (F.RA_TARGET.TARGET r) t).setRa r { s0.ra r with replan := true }
      let s2 := ((s1.setBit (raStat F.AXn_STAT.SOFT r) (!inside)).set (raStat F.AXn_STAT.OVS r) 0).set (raStat F.AXn_STAT.EMG r) 0
      if s2.get (raStat F.AXn_STAT.PSTATE r) = 7 then s2.set (raStat F.AXn_STAT.PSTATE r) 1 else s2

/-- `k` ticks of a plan ahead, without effect. -/
def planAhead (c : PlanCfg) (t : Int) : Plan → Nat → Plan
  | p, 0 => p
  | p, k + 1 => planAhead c t (if p.ps = 7 then p else planTick c p t false) k

/-- The first launch slot of a station at or after an instant, in ns of module time (R95, R352). -/
def State.slotFrom (s : State) (stn inst : Nat) : Option Nat :=
  let x := s.stn stn
  let p := x.period * 1000
  if p = 0 then none else
    let ph := x.outPh * 1000
    some (if inst ≤ ph then ph else ph + (inst - ph + p - 1) / p * p)

/-- The setpoint for a launch slot (R218): the plan at slot + LEAD, committed now. -/
def State.raCommit (s : State) (r : Nat) : State :=
  let stn := s.get (T.MPG_RA.STATION r)
  match s.slotFrom stn (s.now + 50000) with
  | none => s
  | some sl =>
    if s.now + 300000 ≤ sl then s
    else
      let ahead := sl + 1000 * s.get (T.MPG_RA.LEAD r) - s.now
      let c := s.raCfg r
      let t := s.geti (F.RA_TARGET.TARGET r)
      let p := planAhead c t (s.raPlan r) (ahead / 250000)
      let q := planAhead c t p 1
      let x := p.x + (q.x - p.x) * ((ahead % 250000 : Nat) : Int) / 250000
      let pos := x.fdiv (2 ^ 48)
      let frac := (x % 2 ^ 48).toNat / 2 ^ 32
      let ofs := s.get (T.MPG_RA.OUT_OFS r)
      let bytes := leBytes (toBits 32 pos) 4 ++ (if s.bit (T.MPG_RA.FRAC_EN r) then leBytes frac 2 else [])
      ((s.pageWrite stn (0x260 + ofs) bytes).commitOut stn ofs bytes.length).seti (F.RA_SET.POS r) pos

/-- One 250 µs tick of a remote axis (R218, R219). -/
def State.raTick (s : State) (r : Nat) : State :=
  let stn := s.get (T.MPG_RA.STATION r)
  if !s.stnUp stn then
    let x := s.ra r
    (((s.setRa r { x with v := 0, a := 0, brake := 0, down := true }).set (raStat F.AXn_STAT.REM_DOWN r) 1).set
      (raStat F.AXn_STAT.PSTATE r) 7).setw (F.RA_VEL.VEL r) 0
  else
    let s1 := if (s.ra r).down then
        let p := if s.bit (T.MPG_RA.FB_EN r) then s.raPos r else s.geti (F.RA_SET.POS r)
        (((s.setRa r { s.ra r with pos := p, acc := 0, v := 0, a := 0, down := false, replan := true }).set (raStat F.AXn_STAT.REM_DOWN r) 0).set
          (raStat F.AXn_STAT.PSTATE r) 1)
      else s
    let s2 := s1.raTake r
    let p := s2.raPlan r
    let r' := if p.ps = 7 ∧ p.brake = 0 then p else planTick (s2.raCfg r) p (s2.geti (F.RA_TARGET.TARGET r)) (s2.ra r).replan
    let s3 := (s2.setRaPlan r r').setRa r { (s2.setRaPlan r r').ra r with replan := false }
    let s4 := if r'.ps = 7 ∧ p.ps ≠ 7 then s3.seti (F.RA_TARGET.TARGET r) (s3.ra r).pos else s3
    let s5 := s4.setBit (raStat F.AXn_STAT.AT_TGT r) (r'.ps == 1 && decide ((s4.ra r).pos = s4.geti (F.RA_TARGET.TARGET r)))
    s5.raCommit r

/-- Configured remote axes. -/
def State.raList (s : State) : List Nat := s.entries 7 0 48 256 0

def remoteAxisTick (s : State) : State := if s.bit F.MPG_STAT.RUN then s.raList.foldl State.raTick s else s

/-- REMOTE_AXIS_TICK (R218). -/
def execRemoteAxisTick (dt : Nat) (s : State) : Host.Outcome State Fault Refusal := .next (remoteAxisTick (s.elapse dt)).settle

/-- A command to the selected remote axis. -/
def State.raCmd (s : State) (r : Nat) (f : State → State) : State :=
  if s.bit (T.MPG_RA.EN r) && s.bit F.MPG_STAT.RUN then f s else s.flag F.MPG_ERR.CMD_REJ

/-- STOP or ESTOP of a remote axis (R215). -/
def State.raBrake (s : State) (r code : Nat) : State :=
  let x := s.ra r
  let hard := x.brake = 2 ∨ x.brake = 4 ∨ x.brake = 6
  let c := if hard then 4 else code
  let s1 := s.setRa r { x with brake := if x.v = 0 then 0 else c, fresh := false }
  let s2 := if c = 4 then s1.set (raStat F.AXn_STAT.EMG r) 1 else s1
  if x.v = 0 then (s2.set (raStat F.AXn_STAT.PSTATE r) 7).seti (F.RA_TARGET.TARGET r) x.pos
  else s2.set (raStat F.AXn_STAT.PSTATE r) (if c = 4 then 6 else 4)

def raStop (r : Nat) (s : State) : State := s.raCmd r (fun s => s.raBrake r 3)
def raEstop (r : Nat) (s : State) : State := s.raCmd r (fun s => s.raBrake r 4)

/-- RESYNC (R219): the plan takes the reported position and rests there (log entry 32). -/
def raResync (r : Nat) (s : State) : State :=
  s.raCmd r (fun s =>
    let p := s.raPos r
    (((s.setRa r { s.ra r with pos := p, acc := 0, v := 0, a := 0, brake := 0, fresh := false }).seti (F.RA_TARGET.TARGET r) p).set
      (raStat F.AXn_STAT.PSTATE r) (if s.get (raStat F.AXn_STAT.PSTATE r) = 7 then 7 else 1)).setw (F.RA_VEL.VEL r) 0)

def raClrFlt (r : Nat) (s : State) : State := s.raCmd r (fun s => s.set (raStat F.AXn_STAT.FAULT r) 0)

/-- RA_CMD by its value (Table 8.4). -/
def raCmdWrite (q : Rq) (v : Nat) (s : State) : State :=
  let r := s.get (F.MPG_WIN_SEL.RA q.num)
  match v % 8 with
  | 3 => raStop r s
  | 4 => raEstop r s
  | 5 => raResync r s
  | 7 => raClrFlt r s
  | _ => s.flag F.MPG_ERR.CMD_REJ

/-- A limit of a remote axis written by the host or the cycle program: word 2 to 6 of its entry (R207). -/
def State.raLimit (s : State) (r which src : Nat) (v : Word) : State :=
  if which = 0 ∧ s.get (T.MPG_RA.VMAX_SRC r) ≠ src then s.flag F.MPG_ERR.WRITER
  else if !limitOk (which == 3) v then s.flag F.MPG_ERR.RANGE
  else (s.setWord (tabKey 7 (48 * r + 8 + 4 * which)) v).setRa r { s.ra r with replan := true }

/-- A write through MPG_TAB_DATA (R222, R536). -/
def mpgTabWrite (q : Rq) (v : Word) (s : State) : State :=
  let af := F.MPG_TAB_ADDR.ADDR q.num
  let a := s.get af / 4 * 4
  let o := a % 48
  let s1 := if 8 ≤ o ∧ o ≤ 24 ∧ a < 12288 then s.raLimit (a / 48) ((o - 8) / 4) 0 v else s.writeWord (tabKey 7 a) v
  s1.advance af

/-- Full service starts the axes (R204, R220). -/
def State.mpgStart (s : State) : State :=
  let s0 := { s with mpg := ⟨[], []⟩ }.set F.MPG_STAT.RUN 1
  let s1 := (List.range 16).foldl (fun s n =>
    if s.axPresent n && s.bit (F.AXn_CFG.EN n) then
      let z := (((s.setWord (R.AXn_STAT n) 0).setWord (R.AXn_POS n) 0).setWord (R.AXn_POS_FRAC n) 0)
      if s.bit (F.AXn_CFG.AUTO_EN n) then axEnable n z else z
    else s) s0
  s1.raList.foldl (fun s r => (s.set (raStat F.AXn_STAT.EN_OUT r) 1).set (raStat F.AXn_STAT.PSTATE r) 1) s1

end Sys2Proof.Machine
end

