-- ==== Sys2Proof/Machine/Prog.lean ====
section
/-! DEFINITION. The cycle program (chapter 6): operands (R140, Tables 6.3 to 6.6), conversion (R141), arithmetic (R142), the process image
(R146), the 48 block types (R155, Tables 6.8 to 6.13). -/
namespace Sys2Proof.Machine

/-! ### Operands -/

/-- An operand (R140). -/
structure Opd where
  space : Nat
  dt : Nat
  addr : Nat
deriving DecidableEq, Repr

/-- The operand a descriptor word holds. -/
def opdOf (w : Nat) : Opd := ⟨w / 2 ^ 28 % 16, w / 2 ^ 24 % 16, w % 2 ^ 24⟩

/-- Operand k of instance i: 0 to 3 IN0 to IN3, 4 OUT. -/
def State.opd (s : State) (i k : Nat) : Opd := opdOf (s.get ⟨tabKey 3 (32 * i + 8 + 4 * k), 0, 32⟩)

/-- The station of a page operand, and the offset in its area. -/
def Opd.stn (o : Opd) : Nat := o.addr / 4096
def Opd.ofs (o : Opd) : Nat := o.addr % 4096
/-- The operand names a station page (SIN, SOUT, SDAT). -/
def Opd.page (o : Opd) : Bool := 3 ≤ o.space && o.space ≤ 5
/-- The page offset of a page operand (Tables 5.1, 6.14). -/
def Opd.pageOfs (o : Opd) : Nat := if o.space = 4 then 0x260 + o.ofs else 0x470 + o.ofs
/-- The table address of a VAR or CONST operand (Table 6.1). -/
def Opd.area (o : Opd) : Nat := if o.space = 1 then 0x300000 + o.addr else 0x380000 + o.addr

/-- The state word k of instance i (Table 6.1). -/
def stateFld (i k : Nat) : Fld := ⟨tabKey 3 (0x200000 + 16 * i + 4 * k), 0, 32⟩

/-- `n` raw bytes at an operand's address in spaces 1 to 5. -/
def State.opBytes (s : State) (o : Opd) (n : Nat) : List Byte :=
  if o.page then s.pageBytes o.stn o.pageOfs n else s.tabBytes 3 o.area n

/-- Write raw bytes at an operand's address in spaces 1, 4, 5; bytes of a variable word around them stay. -/
def State.setOpBytes (s : State) (o : Opd) (bs : List Byte) : State :=
  if o.page then s.pageWrite o.stn o.pageOfs bs
  else
    let a := o.area
    let pre := s.tabBytes 3 (a / 4 * 4) (a % 4)
    let fin := a + bs.length
    let post := s.tabBytes 3 fin ((4 - fin % 4) % 4)
    s.setTabBytes 3 (a / 4 * 4) (pre ++ bs ++ post)

/-- The system values of Table 6.6, as the run sees them. -/
def State.sysValue (s : State) (f : RunFrame) (x : Nat) : Nat :=
  match x with
  | 0 => s.get F.CYC_SEQ.SEQ
  | 1 => s.cyc.lastUs % 2 ^ 32
  | 2 => f.since / 250000 % 2 ^ 32
  | 3 => f.sec % 2 ^ 32
  | 4 => f.ns
  | 5 => s.cyc.seq
  | 6 => s.cyc.usable.toNat
  | 7 => f.errs.length
  | 8 => f.task
  | 9 => s.cyc.firstRun.toNat
  | 10 => (s.cyc.firstRun || s.cyc.exch).toNat
  | 11 => s.get F.CYC_STAT.OVR_RUN
  | _ => 0

/-- The prediction of sensor j in the image the snapshot latched (R22). -/
def State.cycPred (s : State) (j : Nat) : Word := look (fun _ => 0) s.cyc.img (s.cyc.cur * 0x100000 + 0x1000 + 4 * j)

/-- The pattern an operand reads (Table 6.3): the bytes of its type in spaces 1 to 5, the item's native value elsewhere. -/
def State.opPattern (s : State) (f : RunFrame) (o : Opd) : Nat :=
  match o.space with
  | 0 => 0
  | 6 => s.get (stateFld (o.addr % 65536) (o.addr / 65536 % 4))
  | 7 => (s.cycPred o.addr).toNat
  | 8 =>
    let x := o.addr % 32
    match o.addr / 65536 with
    | 0 => (s.di x).toNat
    | 1 => s.get (F.LIO_PCNTn.COUNT x)
    | 2 => (s.aiVal x).toNat
    | _ => s.get F.CSB_FO_STAT.FI / 2 ^ x % 2
  | 9 =>
    let n := o.addr % 4096
    match o.addr / 4096 % 16 with
    | 0 => (s.slot n).sp.toNat
    | 4 => (s.slot n).pv.toNat
    | 5 => s.get (F.LPn_OUT.VALUE n)
    | 6 => (s.word (R.LPn_STAT n)).toNat
    | _ => 0
  | 10 =>
    let n := o.addr % 512
    match o.addr / 4096 % 16 with
    | 2 => toBits 32 (s.axisPos n)
    | 3 => if n < 16 then (s.word (R.AXn_STAT n)).toNat else (s.word (R.RA_STAT (n - 16))).toNat
    | _ => 0
  | 11 => s.sysValue f (o.addr % 256)
  | _ => leNat (s.opBytes o (dtSize o.dt))

/-! ### Arithmetic replacements (R142) -/

/-- A replacement: CYC_ARITH_CNT, CYC_ERR.ARITH and the record's flag. -/
def State.arith (s : State) : State :=
  let s1 := (s.inc F.CYC_ARITH_CNT.COUNT).flag F.CYC_ERR.ARITH
  { s1 with cyc := { s1.cyc with arith := true } }

/-- The largest finite binary32 of a sign. -/
def maxReal (neg : Bool) : Word := if neg then 0xFF7FFFFF#32 else 0x7F7FFFFF#32

/-- A REAL result after R142: a NaN becomes 0.0, an infinity the largest finite value of its sign; whether that replaced it. -/
def cookReal (v : FVal) : Word × Bool :=
  let w := f32bits v
  match f32val w with
  | .nan => (0, true)
  | .inf n => (maxReal n, true)
  | _ => (w, false)

/-- A NaN read from an operand becomes 0.0 (R142). -/
def cleanNum : Num → Num × Bool
  | .real w => if (f32val w).isNan then (.real 0, true) else (.real w, false)
  | n => (n, false)

/-- Input k of instance i (R141, R142). -/
def State.inNum (s : State) (f : RunFrame) (i k : Nat) : State × Num :=
  let o := s.opd i k
  let r := cleanNum (readNum o.dt (s.opPattern f o))
  (if r.2 then s.arith else s, r.1)

/-- The connected inputs among IN0 to IN3, in order (R155). -/
def State.connected (s : State) (i : Nat) : List Nat := (List.range 4).filter (fun k => (s.opd i k).space != 0)

/-- The values of some inputs, read in order. -/
def State.inNums (s : State) (f : RunFrame) (i : Nat) : List Nat → State × List Num
  | [] => (s, [])
  | k :: t =>
    let r := s.inNum f i k
    let u := State.inNums r.1 f i t
    (u.1, r.2 :: u.2)

/-- Binary operation in working type REAL or INT32; whether it was replaced (R142). -/
def numOp (real : Bool) (fi : Int → Int → Int × Bool) (fr : FVal → FVal → FVal) (a b : Num) : Num × Bool :=
  if real then
    let r := cookReal (fr (f32val a.toReal) (f32val b.toReal))
    (.real r.1, r.2)
  else
    let r := fi a.toInt b.toInt
    (.int (sat32 r.1), r.2)

/-- Division (R142): INT32 truncates toward zero; by zero gives 0, replaced; a quotient that saturates counts. -/
def divInt (a b : Int) : Int × Bool := if b = 0 then (0, true) else (a.tdiv b, decide (a.tdiv b ≠ sat32 (a.tdiv b)))
def divReal (a b : FVal) : FVal := if b.isZero then .nan else a.div b
/-- MOD with the sign of IN0. -/
def modInt (a b : Int) : Int × Bool := if b = 0 then (0, true) else (a.tmod b, false)

/-- a < b in a working type. -/
def numLt (real : Bool) (a b : Num) : Bool :=
  if real then (f32val a.toReal).lt (f32val b.toReal) else decide (a.toInt < b.toInt)
/-- a = b in a working type. -/
def numEq (real : Bool) (a b : Num) : Bool :=
  if real then (f32val a.toReal).eqv (f32val b.toReal) else decide (a.toInt = b.toInt)
/-- A value in a working type. -/
def numTo (real : Bool) (a : Num) : Num := if real then .real a.toReal else .int a.toInt

/-- Fold an operation over values from an identity, the first value standing for itself; whether any step was replaced. -/
def foldNum (one : Num) (op : Num → Num → Num × Bool) : List Num → Num × Bool
  | [] => (one, false)
  | a :: t => t.foldl (fun acc b => let r := op acc.1 b; (r.1, acc.2 || r.2)) (a, false)

/-! ### Results -/

/-- Show an item write that waits for its task's commit (R148), replacing an earlier one of the same target. -/
def State.holdItem (s : State) (task space idx item : Nat) (v : Word) : State :=
  let k := (task, 16 * space + item, idx)
  { s with cyc := { s.cyc with
      items := s.cyc.items.filter (fun e => (e.1, e.2.1 * 16 + e.2.2.2.1, e.2.2.1) != k) ++ [(task, space, idx, item, v)] } }

/-- The native data type of a writable loop or axis item (Table 6.5). -/
def itemType (space item : Nat) : Nat :=
  if space = 9 then (if item = 1 then 2 else 7) else (if item = 0 then 5 else 7)

/-- Write a result to OUT (R141, R148). -/
def State.outNum (s : State) (f : RunFrame) (i : Nat) (n : Num) : State :=
  let o := s.opd i 4
  match o.space with
  | 1 | 4 | 5 =>
    let old := leNat (s.opBytes o (dtSize o.dt))
    s.setOpBytes o (leBytes (writeNum o.dt n old) (dtSize o.dt))
  | 9 =>
    let item := o.addr / 4096 % 16
    s.holdItem f.task 9 (o.addr % 4096) item (BitVec.ofNat 32 (writeNum (itemType 9 item) n 0))
  | 10 =>
    let item := o.addr / 4096 % 16
    s.holdItem f.task 10 (o.addr % 512) item (BitVec.ofNat 32 (writeNum (itemType 10 item) n 0))
  | _ => s

/-- Write a Boolean result. -/
def State.outBool (s : State) (f : RunFrame) (i : Nat) (b : Bool) : State := s.outNum f i (.int b.toNat)

/-! ### The process image (R146) -/

/-- Copy a station's latched buffer and header into its data area; VALID = 0 copies as zeros; COPYING clears. -/
def State.copyImage (s : State) (stn : Nat) : State :=
  if s.cyc.toCopy.contains stn then
    let b := s.latched stn
    let hdr := s.pageBytes stn (inBuf b) 16
    let len := leNat ((hdr.drop 10).take 2)
    let n := if s.bufFlags stn b % 2 = 1 then min len 256 else 0
    let img := s.pageBytes stn (inBuf b + 16) n ++ List.replicate (256 - n) 0
    let s1 := s.pageWrite stn 0x470 (img ++ hdr)
    let s2 := s1.pageWrite stn 2 [(s1.pageByte stn 2) &&& 0xFD#8]
    { s2 with cyc := { s2.cyc with toCopy := s2.cyc.toCopy.filter (· != stn) } }
  else s

/-- The engine visits a page operand: the pager's visit, then the station's copy at its first visit of the cycle. -/
def State.cycVisit (s : State) (o : Opd) : State :=
  if o.page && s.stnPresent o.stn then (s.visit false o.stn).copyImage o.stn else s

/-! ### Blocks -/

/-- IMM of an instance. -/
def State.imm (s : State) (i : Nat) : Nat := s.get (T.CYC_BLK.IMM i)
/-- Word k of an instance's parameter block. -/
def State.par (s : State) (i k : Nat) : Word := s.word (tabKey 3 (0x380000 + s.get (T.CYC_BLK.PAR i) + 4 * k))
/-- State word k of an instance. -/
def State.sw (s : State) (i k : Nat) : Nat := s.get (stateFld i k)
def State.setSw (s : State) (i k v : Nat) : State := s.set (stateFld i k) v
/-- The 64-bit pair in state words w2, w3. -/
def State.sw64 (s : State) (i : Nat) : Nat := s.sw i 2 + 2 ^ 32 * s.sw i 3
def State.setSw64 (s : State) (i v : Nat) : State := (s.setSw i 2 v).setSw i 3 (v / 2 ^ 32)

/-- The instance has not been evaluated since it came with an exchange (R159). -/
def State.isFresh (s : State) (i : Nat) : Bool := s.cyc.fresh.contains i

/-- An input's truth as IN k. -/
def State.inBool (s : State) (f : RunFrame) (i k : Nat) : State × Bool := let r := s.inNum f i k; (r.1, r.2.truth)

/-- Types 0 to 7 (Table 6.8). -/
def State.evalLogic (s : State) (f : RunFrame) (i ty : Nat) : State :=
  if ty ≤ 2 then
    let r := s.inNums f i (s.connected i)
    let bs := r.2.map Num.truth
    r.1.outBool f i (match ty with
      | 0 => bs.all id
      | 1 => bs.any id
      | _ => bs.foldl xor false)
  else
    let a := s.inBool f i 0
    match ty with
    | 3 => a.1.outBool f i (!a.2)
    | 4 | 5 =>
      let b := a.1.inBool f i 1
      let q := b.1.sw i 0 == 1
      let q1 := if ty = 4 then a.2 || (q && !b.2) else !b.2 && (a.2 || q)
      (b.1.setSw i 0 q1.toNat).outBool f i q1
    | _ =>
      let prev := if a.1.isFresh i then a.2 else a.1.sw i 0 == 1
      (a.1.setSw i 0 a.2.toNat).outBool f i (if ty = 6 then a.2 && !prev else !a.2 && prev)

/-- Types 8 to 10 (Table 6.9): run, ET [ms], START [µs], Q from the input, its previous value, PT [ms] and now [µs]. -/
def timerStep (ty : Nat) (x prev run : Bool) (et start pt now : Nat) : Bool × Nat × Nat × Bool :=
  let rise := x && !prev
  match ty with
  | 8 =>
    let st := if rise then now else start
    let rn := x && (rise || run)
    let e := if rn then min ((now - st) / 1000) pt else 0
    (rn, e, st, x && pt ≤ e)
  | 9 =>
    if x then (if rise then false else run, if rise then 0 else et, start, true)
    else
      let st := if prev then now else start
      let rn := prev || run
      let e := if rn then min ((now - st) / 1000) pt else et
      let rn2 := rn && e < pt
      (rn2, e, st, rn2)
  | _ =>
    let go := rise && !run
    let st := if go then now else start
    let rn := run || go
    let e := if rn then min ((now - st) / 1000) pt else if x then et else 0
    let rn2 := rn && e < pt
    (rn2, e, st, rn2)

/-- Types 8 to 10. -/
def State.evalTimer (s : State) (f : RunFrame) (i ty : Nat) : State :=
  let a := s.inBool f i 0
  let p := a.1.inNum f i 1
  let w0 := p.1.sw i 0
  let r := timerStep ty a.2 (w0 / 2 % 2 == 1) (w0 % 2 == 1) (p.1.sw i 1) (p.1.sw64 i) p.2.toInt.toNat (f.since / 250)
  ((((p.1.setSw i 0 (r.1.toNat + 2 * a.2.toNat)).setSw i 1 r.2.1).setSw64 i r.2.2.1)).outBool f i r.2.2.2

/-- Types 11 to 13 (Table 6.9). -/
def State.evalCounter (s : State) (f : RunFrame) (i ty : Nat) : State :=
  let a := s.inBool f i 0
  let b := a.1.inBool f i 1
  let s2 := b.1
  let cv := s2.geti (stateFld i 1)
  let w0 := s2.sw i 0
  if ty = 13 then
    let r := s2.inBool f i 2
    let l := r.1.inBool f i 3
    let pv : Int := ofBits 16 (l.1.imm i)
    let pu := if l.1.isFresh i then a.2 else w0 % 2 == 1
    let pd := if l.1.isFresh i then b.2 else w0 / 2 % 2 == 1
    let up : Int := (a.2 && !pu).toNat
    let dn : Int := (b.2 && !pd).toNat
    let cv1 := if r.2 then 0 else if l.2 then pv else sat32 (cv + up - dn)
    ((((l.1.setSw i 0 (a.2.toNat + 2 * b.2.toNat)).seti (stateFld i 1) cv1).setSw i 2 (decide (cv1 ≤ 0)).toNat)).outBool f i
      (decide (pv ≤ cv1))
  else
    let p := s2.inNum f i 2
    let prev := if p.1.isFresh i then a.2 else w0 % 2 == 1
    let edge : Int := (a.2 && !prev).toNat
    let pv := p.2.toInt
    let cv1 := if ty = 11 then (if b.2 then 0 else sat32 (cv + edge)) else (if b.2 then pv else sat32 (cv - edge))
    ((p.1.setSw i 0 a.2.toNat).seti (stateFld i 1) cv1).outBool f i
      (if ty = 11 then decide (pv ≤ cv1) else decide (cv1 ≤ 0))

/-- MOVE (Table 6.10): converted directly between data types. -/
def directNum (dt v : Nat) : Num :=
  if dt = 7 then .real (BitVec.ofNat 32 v) else if dt ≥ 8 then .int (v / 2 ^ (dt - 8) % 2) else .int (dtRaw dt v)

/-- The value of an input as UINT32 (types 29, 30): an integer's pattern extended to 32 bits, a REAL converted. -/
def asUint (dt v : Nat) : Nat :=
  match directNum dt v with
  | .int x => toBits 32 x
  | .real w => (realToInt 0 4294967295 w).toNat

/-- A result and its replacement. -/
def State.outRes (s : State) (f : RunFrame) (i : Nat) (r : Num × Bool) : State :=
  (if r.2 then s.arith else s).outNum f i r.1

/-- Types 14 to 26 (Table 6.10). -/
def State.evalArith (s : State) (f : RunFrame) (i ty : Nat) : State :=
  let real := s.imm i / 2 ^ 15 % 2 == 1
  let wt := numTo real
  match ty with
  | 14 =>
    let o := s.opd i 0
    let r := cleanNum (directNum o.dt (s.opPattern f o))
    s.outRes f i r
  | 15 | 17 | 22 | 23 =>
    let r := s.inNums f i (s.connected i)
    let vs := r.2.map wt
    let q := match ty with
      | 15 => foldNum (wt (.int 0)) (numOp real (fun a b => (a + b, false)) FVal.add) vs
      | 17 => foldNum (wt (.int 1)) (numOp real (fun a b => (a * b, false)) FVal.mul) vs
      | 22 => foldNum (wt (.int 0)) (fun a b => (if numLt real b a then b else a, false)) vs
      | _ => foldNum (wt (.int 0)) (fun a b => (if numLt real a b then b else a, false)) vs
    r.1.outRes f i q
  | 20 | 21 =>
    let a := s.inNum f i 0
    let q := match wt a.2 with
      | .int x => (Num.int (sat32 (if ty = 20 then x.natAbs else -x)), false)
      | .real w => let r := cookReal (if ty = 20 then (f32val w).abs else (f32val w).negate); (Num.real r.1, r.2)
    a.1.outRes f i q
  | 24 =>
    let a := s.inNum f i 0
    let mn := a.1.inNum f i 1
    let mx := mn.1.inNum f i 2
    let x := wt a.2
    let lo := wt mn.2
    let hi := wt mx.2
    mx.1.outNum f i (if numLt real hi lo then lo else
      let y := if numLt real x lo then lo else x
      if numLt real hi y then hi else y)
  | 25 =>
    let g := s.inBool f i 0
    let a := g.1.inNum f i 1
    let b := a.1.inNum f i 2
    b.1.outNum f i (wt (if g.2 then b.2 else a.2))
  | 26 =>
    let k := s.inNum f i 0
    let a := k.1.inNums f i [1, 2, 3]
    a.1.outNum f i (wt ((a.2[(clampI 0 2 k.2.toInt).toNat]?).getD (.int 0)))
  | _ =>
    let a := s.inNum f i 0
    let b := a.1.inNum f i 1
    let x := wt a.2
    let y := wt b.2
    b.1.outRes f i (match ty with
      | 16 => numOp real (fun a b => (a - b, false)) FVal.sub x y
      | 18 => numOp real divInt divReal x y
      | _ => numOp false modInt FVal.sub x y)

/-- Types 27 to 31 (Table 6.11). -/
def State.evalBits (s : State) (f : RunFrame) (i ty : Nat) : State :=
  let real := s.imm i / 2 ^ 15 % 2 == 1
  match ty with
  | 27 =>
    let a := s.inNum f i 0
    let b := a.1.inNum f i 1
    let lt := numLt real a.2 b.2
    let gt := numLt real b.2 a.2
    let eq := numEq real a.2 b.2
    b.1.outBool f i (match s.imm i % 8 with
      | 0 => eq
      | 1 => !eq
      | 2 => lt
      | 3 => !gt
      | 4 => gt
      | _ => !lt)
  | 28 =>
    let x := s.inNum f i 0
    let on := x.1.inNum f i 1
    let off := on.1.inNum f i 2
    let lt := numLt real
    let q := off.1.sw i 0 == 1
    let q1 :=
      if lt off.2 on.2 then (if !lt x.2 on.2 then true else if !lt off.2 x.2 then false else q)
      else if lt on.2 off.2 then (if !lt on.2 x.2 then true else if !lt x.2 off.2 then false else q)
      else (if lt on.2 x.2 then true else if lt x.2 on.2 then false else q)
    (off.1.setSw i 0 q1.toNat).outBool f i q1
  | 29 =>
    let o := s.opd i 0
    let r := cleanNum (directNum o.dt (s.opPattern f o))
    let s1 := if r.2 then s.arith else s
    s1.outBool f i (asUint o.dt (s.opPattern f o) / 2 ^ (s.imm i % 32) % 2 == 1)
  | 30 =>
    let o := s.opd i 0
    let r := cleanNum (directNum o.dt (s.opPattern f o))
    let b := (if r.2 then s.arith else s).inBool f i 1
    let v := asUint o.dt (s.opPattern f o)
    let m := 2 ^ (s.imm i % 32)
    let v1 := v - v / m % 2 * m + b.2.toNat * m
    b.1.outNum f i (.int v1)
  | _ =>
    let n := s.imm i % 512
    s.setOpBytes (s.opd i 4) (s.opBytes (s.opd i 0) n)

/-- The largest k below n with x[k] ≤ v. -/
def lutIndex (xs : List Word) (v : FVal) : Nat :=
  ((List.range xs.length).filter (fun k => ((f32val (xs[k]?.getD 0)).le v))).foldl max 0

/-- Δt of an evaluation in µs of uptime (R154); 0 at the first. -/
def State.deltaUs (s : State) (f : RunFrame) (i : Nat) : Nat :=
  if s.sw64 i = 0 then 0 else f.since / 250 - s.sw64 i

/-- REAL arithmetic with R142's replacements on a pair (value, replaced so far). -/
def rAdd (a b : Word × Bool) : Word × Bool := let r := cookReal ((f32val a.1).add (f32val b.1)); (r.1, a.2 || b.2 || r.2)
def rSub (a b : Word × Bool) : Word × Bool := let r := cookReal ((f32val a.1).sub (f32val b.1)); (r.1, a.2 || b.2 || r.2)
def rMul (a b : Word × Bool) : Word × Bool := let r := cookReal ((f32val a.1).mul (f32val b.1)); (r.1, a.2 || b.2 || r.2)
def rDiv (a b : Word × Bool) : Word × Bool := let r := cookReal (divReal (f32val a.1) (f32val b.1)); (r.1, a.2 || b.2 || r.2)
/-- A REAL with nothing replaced. -/
def r0 (w : Word) : Word × Bool := (w, false)

/-- Finish a REAL block: record a replacement, write Q. -/
def State.outReal (s : State) (f : RunFrame) (i : Nat) (q : Word × Bool) : State := s.outRes f i (.real q.1, q.2)

/-- The table look-up of Table 6.12. -/
def State.lut (s : State) (i : Nat) (x : Word) : Word × Bool :=
  let n := (s.par i 0).toNat
  let px := fun k => s.par i (1 + 2 * k)
  let py := fun k => s.par i (2 + 2 * k)
  let v := f32val x
  if v.le (f32val (px 0)) then r0 (py 0)
  else if (f32val (px (n - 1))).le v then r0 (py (n - 1))
  else
    let k := lutIndex ((List.range n).map px) v
    rAdd (r0 (py k)) (rDiv (rMul (rSub (r0 x) (r0 (px k))) (rSub (r0 (py (k + 1))) (r0 (py k)))) (rSub (r0 (px (k + 1))) (r0 (px k))))

/-- Δt as REAL seconds. -/
def dtReal (us : Nat) : Word := f32bits (.ofFrac false us 1000000)

/-- Types 32 to 42 (Table 6.12). -/
def State.evalSignal (s : State) (f : RunFrame) (i ty : Nat) : State :=
  let a := s.inNum f i 0
  let s1 := a.1
  let x := a.2.toReal
  let now := f.since / 250
  let du := s1.deltaUs f i
  let first := s1.sw64 i == 0
  let y := BitVec.ofNat 32 (s1.sw i 0)
  match ty with
  | 32 => s1.outReal f i (rAdd (rMul (r0 (s1.par i 0)) (r0 x)) (r0 (s1.par i 1)))
  | 33 => s1.outReal f i (s1.lut i x)
  | 34 =>
    let c := fun k => r0 (s1.par i k)
    s1.outReal f i (rAdd (c 0) (rMul (r0 x) (rAdd (c 1) (rMul (r0 x) (rAdd (c 2) (rMul (r0 x) (c 3)))))))
  | 35 => s1.outReal f i (if (f32val x).neg && !(f32val x).isZero then (0, true)
      else let r := cookReal (f32val (f32sqrt x)); (r.1, r.2))
  | 36 =>
    let trk := s1.inBool f i 1
    let t := f32val (s1.par i 0)
    let q :=
      if trk.2 || first || !(FVal.ofInt 0).lt t then r0 x
      else
        let e := match t with
          | .fin _ p d => f32bits (.fin false (expNeg (du * d) (1000000 * p)) (2 ^ 300))
          | _ => 0x3F800000#32
        rAdd (r0 y) (rMul (rSub (r0 0x3F800000#32) (r0 e)) (rSub (r0 x) (r0 y)))
    ((trk.1.setSw i 0 q.1.toNat).setSw64 i now).outReal f i q
  | 37 =>
    let trk := s1.inBool f i 1
    let up := rAdd (r0 y) (rMul (r0 (s1.par i 0)) (r0 (dtReal du)))
    let dn := rSub (r0 y) (rMul (r0 (s1.par i 1)) (r0 (dtReal du)))
    let q :=
      if trk.2 || first then r0 x
      else if (f32val y).lt (f32val x) then (if (f32val up.1).lt (f32val x) then up else (x, up.2))
      else if (f32val x).lt (f32val y) then (if (f32val x).lt (f32val dn.1) then dn else (x, dn.2))
      else r0 y
    ((trk.1.setSw i 0 q.1.toNat).setSw64 i now).outReal f i q
  | 38 =>
    let r := s1.inBool f i 1
    let init := r.1.inNum f i 2
    let s2 := init.1
    let q :=
      if r.2 || first then r0 init.2.toReal
      else
        let v := rAdd (r0 y) (rMul (rMul (r0 (s2.par i 0)) (r0 x)) (r0 (dtReal du)))
        let lo := s2.par i 1
        let hi := s2.par i 2
        if (f32val v.1).lt (f32val lo) then (lo, v.2) else if (f32val hi).lt (f32val v.1) then (hi, v.2) else v
    ((s2.setSw i 0 q.1.toNat).setSw64 i now).outReal f i q
  | 39 =>
    let wd := s1.par i 0
    s1.outReal f i (if (f32val x).abs.le (f32val wd) then r0 0
      else if (f32val x).neg then rAdd (r0 x) (r0 wd) else rSub (r0 x) (r0 wd))
  | 40 =>
    let r := s1.inBool f i 1
    let s2 := r.1
    let acc := BitVec.ofNat 64 (s2.sw i 0 + 2 ^ 32 * s2.sw i 1)
    let kx := f64mul (f64bits (f32val (s2.par i 0))) (f64bits (f32val x))
    let nxt := f64add acc (f64mul kx (f64bits (.ofFrac false du 1000000)))
    let sum := if r.2 then 0 else nxt
    let q := cookReal (f64val sum)
    (((s2.setSw i 0 (sum.toNat % 2 ^ 32)).setSw i 1 (sum.toNat / 2 ^ 32)).setSw64 i now).outReal f i q
  | 41 =>
    let st := s1.inBool f i 1
    let real := s1.imm i / 2 ^ 15 % 2 == 1
    let v := numTo real a.2
    let pat := match v with
      | .int k => toBits 32 k
      | .real w => w.toNat
    let s2 := if st.2 then st.1.setSw i 0 pat else st.1
    let w := s2.sw i 0
    s2.outNum f i (if real then .real (BitVec.ofNat 32 w) else .int (ofBits 32 w))
  | _ =>
    let p := s1.inNum f i 1
    let s2 := p.1
    let us := now - s2.sw64 i
    let per := f32val (BitVec.ofNat 32 (s2.sw i 1))
    let begins := first || per.le (.ofFrac false us 1000)
    let duty := if (f32val x).lt (.ofInt 0) then (0 : Word) else if (FVal.ofInt 1).lt (f32val x) then 0x3F800000#32 else x
    let on := rMul (r0 duty) (r0 p.2.toReal)
    let s3 := if begins then
        (((if on.2 then s2.arith else s2).setSw i 0 on.1.toNat).setSw i 1 p.2.toReal.toNat).setSw64 i now
      else s2
    let us3 := now - s3.sw64 i
    let per3 := f32val (BitVec.ofNat 32 (s3.sw i 1))
    s3.outBool f i ((FVal.ofInt 0).lt per3 && (FVal.ofFrac false us3 1000).lt (f32val (BitVec.ofNat 32 (s3.sw i 0))))

/-- The status word of STNST (Table 6.13). -/
def State.stnStatus (s : State) (n : Nat) : Nat :=
  let flags := (s.pageByte n 0x578).toNat
  let buf := (s.pageByte n 0x579).toNat
  s.get (F.SW_STAT.STATE n) % 4 + 4 * (buf / 2 % 2) + 8 * (buf / 4 % 2) + 16 * (flags % 2) + 32 * (flags / 4 % 2)

/-- Age in µs of a buffer, from its receive time-stamp (R25). -/
def State.bufAge (s : State) (stn b : Nat) : Nat :=
  let at_ := s.pageNat stn (inBuf b) 4 * 10 ^ 9 + s.pageNat stn (inBuf b + 4) 4
  let now := s.sec32 * 10 ^ 9 + s.nsNow
  min ((now - at_) / 1000) (2 ^ 32 - 1)

/-- Types 43 to 47 (Table 6.13). -/
def State.evalSystem (s : State) (f : RunFrame) (i ty : Nat) : State :=
  match ty with
  | 43 =>
    let o := s.opd i 0
    let b := s.newest o.stn
    let r := cleanNum (s.inField o.stn o.ofs o.dt)
    let s1 := if r.2 then s.arith else s
    ((s1.setSw i 0 (s1.pageNat o.stn (inBuf b + 12) 4)).setSw i 1 (s1.bufAge o.stn b)).outNum f i r.1
  | 44 =>
    let a := s.inNum f i 0
    let j := a.2.toInt
    if a.1.cyc.usable && 0 ≤ j && j ≤ 16383 then
      let r := cleanNum (.real (a.1.cycPred j.toNat))
      ((if r.2 then a.1.arith else a.1).setSw i 0 1).outNum f i r.1
    else a.1.setSw i 0 0
  | 45 =>
    let a := s.inNum f i 0
    let n := a.2.toInt
    if 0 ≤ n && n ≤ 4095 && a.1.stnPresent n.toNat then
      let s1 := a.1.cycVisit ⟨5, 6, 4096 * n.toNat + 0x100⟩
      s1.outNum f i (.int (s1.stnStatus n.toNat))
    else a.1.outNum f i (.int 0)
  | 46 =>
    let a := s.inNum f i 0
    let k := a.2.toInt
    a.1.outNum f i (if 0 ≤ k then (match f.errs[k.toNat]? with | some x => .int x | none => .int (-1)) else .int (-1))
  | _ =>
    let a := s.inBool f i 0
    let prev := if a.1.isFresh i then a.2 else a.1.sw i 0 == 1
    let s1 := a.1.setSw i 0 a.2.toNat
    let s2 := if a.2 && !prev then s1.trigTask (s1.imm i % 64) else s1
    s2.outBool f i (a.2 && !prev)

/-- The page operands of an instance in the order IN0 to IN3, OUT: one visit each. -/
def State.pageOpds (s : State) (i : Nat) : List Opd := ((List.range 5).map (s.opd i)).filter Opd.page

/-- Evaluate instance i for a run (R144): a disabled one is skipped. -/
def State.evalBlock (s : State) (f : RunFrame) (i : Nat) : State :=
  if !s.bit (T.CYC_BLK.EN i) then s
  else
    let s1 := (s.pageOpds i).foldl State.cycVisit s
    let ty := s1.get (T.CYC_BLK.TYPE i)
    let s2 :=
      if ty ≤ 7 then s1.evalLogic f i ty
      else if ty ≤ 10 then s1.evalTimer f i ty
      else if ty ≤ 13 then s1.evalCounter f i ty
      else if ty ≤ 26 then s1.evalArith f i ty
      else if ty ≤ 31 then s1.evalBits f i ty
      else if ty ≤ 42 then s1.evalSignal f i ty
      else s1.evalSystem f i ty
    if s2.isFresh i then { s2 with cyc := { s2.cyc with fresh := s2.cyc.fresh.filter (· != i) } } else s2

end Sys2Proof.Machine
end

