-- ==== Sys2Proof/Machine/Act.lean ====
section
/-! DEFINITION. The scheduled-action queue of TIM (R347 to R351) and trajectory application (R274 to R279): submission, execution,
discards, the application of a plan. -/
namespace Sys2Proof.Machine

/-! ### The queue -/

/-- An action's time in ns. -/
def Action.at (a : Action) : Nat := a.sec * 10 ^ 9 + a.ns
/-- Its lateness limit in ns: STALE in ms, 0 standing for 1 000 (R347). -/
def Action.staleNs (a : Action) : Nat := (if a.stale = 0 then 1000 else a.stale) * 10 ^ 6

/-- Insert by time, then by order of acceptance (R347). -/
def insAction (a : Action) : List Action → List Action
  | [] => [a]
  | b :: t => if a.at < b.at then a :: b :: t else b :: insAction a t

/-- The queue with TIM_ACT_LVL shown. -/
def State.setActions (s : State) (l : List Action) : State :=
  let h := (l.filter (fun a => a.origin.isNone)).length
  ((({ s with tim := { s.tim with actions := l } }).set F.TIM_ACT_LVL.HOST h)).set F.TIM_ACT_LVL.TRJ (l.length - h)

/-- Show a channel's pending actions in its window (Table 10.11). -/
def State.showCh (s : State) (c : Nat) : State :=
  match s.tim.actions.find? (fun a => a.origin.map Prod.fst == some c) with
  | some a => (s.set (F.TRJ_CH_STAT.PEND c) 1).setw (F.TRJ_CH_NEXT.VALUE c) a.value
  | none => (s.set (F.TRJ_CH_STAT.PEND c) 0).setw (F.TRJ_CH_NEXT.VALUE c) 0

/-- A past action is rejected or discarded with ACT_ERR_PAST: TIM counts it, and its origin is told (R350, R276). -/
def State.actionPast (s : State) (a : Action) : State :=
  let s1 := s.inc F.TIM_ACT_PAST_CNT.COUNT
  match a.origin with
  | some (c, _) => ((s1.inc F.TRJ_PAST_CNT.COUNT).flag F.TRJ_ERR.PAST).set (F.TRJ_CH_STAT.PAST c) 1
  | none => s1

/-- TIM takes an action or answers a code of TIM_ACT_RES (R350): past beyond STALE, no place, or accepted. Host and trajectory
application hold up to 1 024 places each (R347). -/
def State.takeAction (s : State) (a : Action) : State × Nat :=
  let late := a.at < s.now
  if late && a.staleNs < s.now - a.at then (s.actionPast a, 1)
  else if 1024 ≤ (s.tim.actions.filter (fun b => b.origin.isNone == a.origin.isNone)).length then (s, 2)
  else (s.setActions (insAction { a with late := late } s.tim.actions), 0)

/-- A forward step has made actions past (R350): those within STALE become late, the others are discarded and reported. -/
def State.actionsStep (s : State) : State :=
  let l := s.tim.actions
  let keep := fun (a : Action) => !(a.at < s.now) || decide (s.now - a.at ≤ a.staleNs)
  let s1 := s.setActions ((l.filter keep).map (fun a => if a.at < s.now then { a with late := true } else a))
  (l.filter (fun a => !keep a)).foldl (fun s a =>
    let s2 := s.actionPast a
    match a.origin with
    | some (c, _) => s2.showCh c
    | none => s2.emit (.irq 14 a.handle)) s1

/-! ### Writers of station output bytes (R19, R143) -/

/-- The output bytes instance i writes: station, offset, length. -/
def State.outSpan (s : State) (i : Nat) : Option (Nat × Nat × Nat) :=
  let o := s.opd i 4
  if o.space = 4 then
    some (o.stn, o.ofs, if s.get (T.CYC_BLK.TYPE i) = 31 then s.imm i % 512 else dtSize o.dt)
  else none

/-- Two byte ranges of one station meet. -/
def spanMeets (a b : Nat × Nat × Nat) : Bool := a.1 == b.1 && a.2.1 < b.2.1 + b.2.2 && b.2.1 < a.2.1 + a.2.2

/-- The enabled trajectory channels. -/
def State.channels (s : State) : List Nat := s.entries 14 0 32 512 0

/-- A channel's target bytes, if it writes a station field. -/
def State.chanSpan (s : State) (c : Nat) : Option (Nat × Nat × Nat) :=
  if s.get (T.TRJ_CH.KIND c) = 2 then
    let a := s.get (T.TRJ_CH.ADDR c)
    some (a / 4096 % 4096, a % 4096, dtSize (s.get (T.TRJ_CH.DTYPE c)))
  else none

/-- Program instances in use. -/
def State.instances (s : State) : List Nat := List.range (s.get F.CYC_BLK_CNT.COUNT)

/-- Bytes written by loop slots and by remote axes. -/
def State.engineSpans (s : State) : List (Nat × Nat × Nat) :=
  (s.enabledSlots.filterMap (fun n => if s.get (T.LPE_SLOT.DEST n) = 1 then
      let a := s.get (T.LPE_SLOT.DEST_ADDR n)
      some (a / 4096, a % 4096, dtSize (s.get (T.LPE_SLOT.DEST_DTYPE n)))
    else none)) ++
  s.raList.map (fun r => (s.get (T.MPG_RA.STATION r), s.get (T.MPG_RA.OUT_OFS r), 4))

/-- Another configured writer writes bytes of a range (R348: the field's writer is then no scheduled action). -/
def State.spanTaken (s : State) (x : Nat × Nat × Nat) : Bool :=
  s.engineSpans.any (spanMeets x) || (s.instances.filterMap s.outSpan).any (spanMeets x)

/-! ### Host actions -/

/-- The target of a host action is absent or disabled, or names no task (R348). -/
def State.badTarget (s : State) (a : Action) : Bool :=
  (match a.kind with
    | 0 => !(s.slotPresent (a.addr % 4096) && s.bit (T.LPE_SLOT.EN (a.addr % 4096)))
    | 1 =>
      let n := a.addr % 512
      if n < 16 then !(s.axPresent n && s.bit (F.AXn_CFG.EN n)) else !(n < 272 && s.bit (T.MPG_RA.EN (n - 16)))
    | 2 =>
      let n := a.addr / 4096 % 4096
      !(s.stnPresent n && s.bit (T.SIO_STN.EN n) && 1 ≤ a.dtype && a.dtype ≤ 7 &&
        a.addr % 4096 + dtSize a.dtype ≤ s.get (T.SIO_STN.OUT_LEN n))
    | 3 => false
    | _ => true) ||
  ((a.kind == 3 || a.task) && !(List.range 64).any (fun t => s.eventTask t 4 && s.get (T.PGR_TASK.SRC_IDX t) == a.tag))

/-- The target's writer is not a scheduled action, or an enabled trajectory channel names the target (R348). -/
def State.badWriter (s : State) (a : Action) : Bool :=
  match a.kind with
  | 0 =>
    let n := a.addr % 4096
    s.get (T.LPE_SLOT.SP_SRC n) != 2 || s.channels.any (fun c => s.get (T.TRJ_CH.KIND c) == 0 && s.get (T.TRJ_CH.ADDR c) % 4096 == n)
  | 1 =>
    let n := a.addr % 512
    (if n < 16 then s.get (F.AXn_CFG.TGT_SRC n) else s.get (T.MPG_RA.TGT_SRC (n - 16))) != 3 ||
      s.channels.any (fun c => s.get (T.TRJ_CH.KIND c) == 1 && s.get (T.TRJ_CH.ADDR c) % 512 == n)
  | 2 =>
    let x := (a.addr / 4096 % 4096, a.addr % 4096, dtSize a.dtype)
    s.spanTaken x || (s.channels.filterMap s.chanSpan).any (spanMeets x)
  | _ => false

/-- A handle no pending host action holds: which one the spec does not state (log entry 2). -/
def State.pickHandle (s : State) : Nat :=
  ((List.range 2048).map (fun i => (s.free + i) % 2048)).find? (fun h =>
    !(s.tim.actions.any (fun a => a.origin.isNone && a.handle == h))) |>.getD 0

/-- The action in the TIM_ACT registers. -/
def State.stagedAction (s : State) : Action where
  handle := s.pickHandle
  sec := s.get F.TIM_ACT_SEC_LO.TIME + 2 ^ 32 * s.get F.TIM_ACT_SEC_HI.TIME
  ns := s.get F.TIM_ACT_NS.TIME
  kind := s.get F.TIM_ACT_TGT.KIND
  addr := s.get F.TIM_ACT_TGT.ADDR
  dtype := s.get F.TIM_ACT_TGT.DTYPE
  task := s.bit F.TIM_ACT_TGT.TASK
  value := s.getw F.TIM_ACT_VAL.VALUE
  tag := s.get F.TIM_ACT_TAG.ACT_TAG
  stale := s.get F.TIM_ACT_TAG.STALE
  late := false
  origin := none

/-- A write of TIM_ACT_SUBMIT.GO (R347, R348, R350): the result appears in TIM_ACT_RES. -/
def actionSubmit (v : Word) (s : State) : State :=
  if !v.getLsbD 0 then s
  else
    let a := s.stagedAction
    let r : State × Nat :=
      if s.svc ≠ 4 then (s, 5)
      else if s.badTarget a then (s, 4)
      else if s.badWriter a then (s, 3)
      else s.takeAction a
    let late := decide (r.2 = 0) && decide (a.at < s.now)
    let s1 := (r.1.set F.TIM_ACT_RES.CODE r.2).setBit F.TIM_ACT_RES.LATE late
    if r.2 = 0 then (s1.set F.TIM_ACT_RES.HANDLE a.handle).nextFree else s1.set F.TIM_ACT_RES.HANDLE 0

/-- A write of TIM_ACT_WDRAW (R351). -/
def actionWithdraw (v : Word) (s : State) : State :=
  let h := v.toNat % 2048
  let is := fun (a : Action) => a.origin.isNone && a.handle == h
  if s.tim.actions.any is then s.setActions (s.tim.actions.filter (fun a => !is a)) else s.flag F.TIM_ERR.WDRAW

/-! ### Trajectory application -/

/-- The word of the trajectory store for buffer b, channel c, step t (R275): 0x8_0000·b + 0x300·c + 4·t. -/
def trjFld (b c t : Nat) : Fld := ⟨tabKey 14 (0x40000000 + 0x80000 * b + 0x300 * c + 4 * t), 0, 32⟩

/-- Channel c's value of step t: SCALE·u + OFFSET in binary32 (R274). -/
def State.trjValue (s : State) (c t : Nat) : Word :=
  f32add (f32mul (s.getw (T.TRJ_CH.SCALE c)) (s.getw (trjFld s.trj.buf c t))) (s.getw (T.TRJ_CH.OFFSET c))

/-- A_k and B0 of the plan in force, in ns of module time: their seconds' high part is that of module time. -/
def State.planA (s : State) : Nat := (s.clock.sec / 2 ^ 32 * 2 ^ 32 + s.get F.TRJ_A_SEC.SEC) * 10 ^ 9 + s.get F.TRJ_A_NS.NS
def State.planB0 (s : State) : Nat := (s.clock.sec / 2 ^ 32 * 2 ^ 32 + s.get F.TRJ_B0_SEC.SEC) * 10 ^ 9

/-- Queue channel c's action of step t at an instant (R275, R276). -/
def State.queueStep (s : State) (c t at_ : Nat) : State :=
  let a : Action := {
    handle := 0, sec := at_ / 10 ^ 9, ns := at_ % 10 ^ 9, kind := s.get (T.TRJ_CH.KIND c), addr := s.get (T.TRJ_CH.ADDR c),
    dtype := s.get (T.TRJ_CH.DTYPE c), task := s.bit (T.TRJ_CH.TASK c), value := s.trjValue c t, tag := s.get (T.TRJ_CH.ACT_TAG c),
    stale := s.get (T.TRJ_CH.STALE c), late := false, origin := some (c, t) }
  let r := s.takeAction a
  (if r.2 = 2 then r.1.flag F.TRJ_ERR.QUEUE else if r.2 = 0 then r.1.set (F.TRJ_CH_STAT.PAST c) 0 else r.1).showCh c

/-- A plan is applied (R275): into the inactive buffer, which becomes active; pending actions at or after A_k are withdrawn; steps 0 and
1 are queued, channel by channel. -/
def State.applyPlan (s : State) (p : TrjPlan) : State :=
  let b := 1 - s.trj.buf
  let cs := s.channels
  let s1 := cs.foldl (fun s c =>
    let vs := look (fun _ => []) p.vals (s.get (T.TRJ_CH.VAR c))
    vs.zipIdx.foldl (fun s e => s.setw (trjFld b c e.2) e.1) s) s
  let s2 := { s1 with trj := { s1.trj with buf := b, chans := cs, lastPlan := p.seq, lastUp := s.clock.up } }
  let s3 := ((((s2.set F.TRJ_SEQ.PLAN p.seq).set F.TRJ_A_SEC.SEC (p.a / 10 ^ 9)).set F.TRJ_A_NS.NS (p.a % 10 ^ 9)).set
    F.TRJ_B0_SEC.SEC (p.b0 / 10 ^ 9)).set F.TRJ_STEP.STEP 0
  let s4 := ((((s3.set F.TRJ_STEP.N p.n).set F.TRJ_STEP.STEP_MIN p.stepMin).set F.TRJ_STAT.PLAN 1).set F.TRJ_STAT.ENDED 0).set
    F.TRJ_STAT.LEADER_LOST 0
  let s5 := (s4.inc F.TRJ_RX_CNT.COUNT)
  (cs.filter (fun c => s.get (T.TRJ_CH.KIND c) ≤ 2)).foldl (fun s c =>
    let s6 := s.setActions (s.tim.actions.filter (fun a => !(a.origin.map Prod.fst == some c && p.a ≤ a.at)))
    (s6.queueStep c 0 p.a).queueStep c 1 (p.b0 + p.stepMin * 60 * 10 ^ 9)) s5

/-- After a trajectory action of step t executed: shown, and the channel's step t + 2 is queued if the plan has it (R275). -/
def State.stepDone (s : State) (c t : Nat) (v : Word) (late : Bool) : State :=
  let s1 := ((s.setw (F.TRJ_CH_LAST.VALUE c) v).setBit (F.TRJ_CH_STAT.LATE c) late).set F.TRJ_STEP.STEP t
  let s2 := if late then (s1.inc F.TRJ_LATE_CNT.COUNT).flag F.TRJ_ERR.LATE else s1
  let n := s2.get F.TRJ_STEP.N
  let s3 := if t + 1 = n then s2.set F.TRJ_STAT.ENDED 1 else s2
  if t + 2 < n && s3.trj.chans.contains c then
    s3.queueStep c (t + 2) (s3.planB0 + (t + 2) * s3.get F.TRJ_STEP.STEP_MIN * 60 * 10 ^ 9)
  else s3.showCh c

/-! ### Execution -/

/-- An action acts on its target (R349). -/
def State.actTarget (s : State) (a : Action) : State :=
  let s1 := match a.kind with
    | 0 => s.writeSp (a.addr % 4096) 2 a.value
    | 1 => s.writeTarget (a.addr % 512) 3 (realToInt (-2147483648) 2147483647 a.value)
    | 2 => s.outField (a.addr / 4096 % 4096) (a.addr % 4096) a.dtype (.real a.value)
    | _ => s
  if a.kind = 3 || a.task then
    s1.releaseWhere (fun s t => s.eventTask t 4 && s.get (T.PGR_TASK.SRC_IDX t) == a.tag)
  else s1

/-- ACTION_EXECUTE (R349): the first action of the queue executes if its time has come, and leaves the queue. -/
def actionExecute (s : State) : State :=
  match s.tim.actions with
  | [] => s
  | a :: t =>
    if s.now < a.at then s
    else
      let s1 := ((s.setActions t).actTarget a).inc F.TIM_ACT_EXEC_CNT.COUNT
      let s2 := if a.late then s1.inc F.TIM_ACT_LATE_CNT.COUNT else s1
      match a.origin with
      | some (c, st) => s2.stepDone c st a.value a.late
      | none => s2

def execActionExecute (dt : Nat) (s : State) : Host.Outcome State Fault Refusal := .next (actionExecute (s.elapse dt)).settle

/-! ### Follower mode (R279) -/

/-- A whole plan of a follower: apply it. -/
def State.followerPlan (s : State) : State :=
  match s.trj.rx with
  | some (p, cnt) => if p.vals.length = cnt then ({ s with trj := { s.trj with rx := none } }).applyPlan p else s
  | none => s

/-- TRAJ_FRAGMENT_RECEIVED (R279): `src` the sending node, the payload's fields as received, `wellFormed` the verdict on its layout. -/
def trajFragment (src : Nat) (fr : TrajFragment) (wellFormed : Bool) (s : State) : State :=
  if s.get F.TRJ_CFG.SRC ≠ 2 || !s.bit F.TRJ_STAT.RUN then s
  else if src ≠ s.get F.TRJ_CFG.LEADER then s.flag F.TRJ_ERR.NOLEADER
  else if !wellFormed then s.flag F.TRJ_ERR.FMT
  else if s.bit F.TRJ_STAT.PLAN && fr.plan ≤ s.trj.lastPlan then s
  else if fr.n < 2 || 192 < fr.n || fr.stepMin < 1 || 60 < fr.stepMin then s.flag F.TRJ_ERR.FMT
  else
    let hi := s.clock.sec / 2 ^ 32 * 2 ^ 32
    let fresh : TrjPlan := ⟨fr.plan, (hi + fr.aSec) * 10 ^ 9 + fr.aNs, (hi + fr.b0Sec) * 10 ^ 9, fr.stepMin, fr.n, []⟩
    let put1 := fun (p : TrjPlan) => { p with vals := put fr.rch fr.values p.vals }
    let s1 : State :=
      match s.trj.rx with
      | none => { s with trj := { s.trj with rx := some (put1 fresh, fr.cnt) } }
      | some (p, c) =>
        if fr.plan = p.seq then { s with trj := { s.trj with rx := some (put1 p, c) } }
        else if p.seq < fr.plan then ({ s with trj := { s.trj with rx := some (put1 fresh, fr.cnt) } }).flag F.TRJ_ERR.INCOMPLETE
        else s
    s1.followerPlan

def execTrajFragmentReceived (dt src : Nat) (fr : TrajFragment) (wellFormed : Bool) (s : State) : Host.Outcome State Fault Refusal :=
  .next (trajFragment src fr wellFormed (s.elapse dt)).settle

/-- TRAJ_PLAN_INCOMPLETE (R279): at B0 + STEP the plan being received is discarded. -/
def trajIncomplete (s : State) : State :=
  match s.trj.rx with
  | some _ => ({ s with trj := { s.trj with rx := none } }).flag F.TRJ_ERR.INCOMPLETE
  | none => s

def execTrajPlanIncomplete (dt : Nat) (s : State) : Host.Outcome State Fault Refusal := .next (trajIncomplete (s.elapse dt)).settle

/-- LEADER_TIMEOUT (R279). -/
def leaderTimeout (s : State) : State := if s.get F.TRJ_CFG.SRC = 2 then s.set F.TRJ_STAT.LEADER_LOST 1 else s

def execLeaderTimeout (dt : Nat) (s : State) : Host.Outcome State Fault Refusal := .next (leaderTimeout (s.elapse dt)).settle

/-- A channel's identity for exchange (R277). -/
def State.chanIdent (s : State) (c : Nat) : Nat × Nat × Nat :=
  (s.get (T.TRJ_CH.CH_TAG c), s.get (T.TRJ_CH.KIND c), s.get (T.TRJ_CH.ADDR c))

/-- The channel table changes at an exchange (R277): `old` is the state before the new table stood in `s`. A new channel that matches an
old enabled one keeps its pending actions and trajectory; the other actions are withdrawn. -/
def State.chanExchange (s old : State) : State :=
  let was := old.channels
  let pair := fun c =>
    let x := s.chanIdent c
    if x.1 = 0 then none else (was.find? (fun o => old.chanIdent o == x)).map (fun o => (c, o))
  let ps := s.channels.filterMap pair
  let b := s.trj.buf
  let s1 := s.clearWords (fun k => tabKey 14 (0x40000000 + 0x80000 * b) ≤ k && k < tabKey 14 (0x40000000 + 0x80000 * (b + 1)))
  let s2 := ps.foldl (fun s p =>
    let s3 := (List.range 192).foldl (fun s t => s.setw (trjFld b p.1 t) (old.getw (trjFld b p.2 t))) s
    (s3.setw (F.TRJ_CH_LAST.VALUE p.1) (old.getw (F.TRJ_CH_LAST.VALUE p.2))).setWord (R.TRJ_CH_STAT p.1) (old.word (R.TRJ_CH_STAT p.2))) s1
  let acts := old.tim.actions.filterMap (fun a =>
    match a.origin with
    | none => some a
    | some (o, t) => (ps.find? (fun p => p.2 == o)).map (fun p => { a with origin := some (p.1, t) }))
  let kept := (ps.filter (fun p => old.trj.chans.contains p.2)).map Prod.fst
  let s4 := ({ s2 with trj := { s2.trj with chans := kept } }).setActions acts
  (was ++ s.channels).foldl State.showCh s4

/-- Trajectory application begins with full service (R252). -/
def State.trjStart (s : State) : State :=
  let s1 := s.set F.TRJ_STAT.RUN 1
  { s1 with trj := { s1.trj with lastUp := s.clock.up } }

end Sys2Proof.Machine
end

