-- ==== Sys2Proof/Machine/Load.lean ====
section
/-! DEFINITION. The records of a configuration image (R394 to R399): which targets a section names, absent instances (R5, R7), the fields a
record may write (R396), the application of a section. -/
namespace Sys2Proof.Machine

/-- Why a load fails (R405): CODE of Table 16.5, directory index (0xFF header or directory), KIND and target address of the failing record. -/
structure LoadFail where
  code : Nat
  sect : Nat
  kind : Nat
  addr : Nat
deriving DecidableEq, Repr

/-! ### Absent units and instances (R5) -/

/-- A register address in absent space. -/
def State.absentReg (s : State) (a : Nat) : Bool :=
  let inR := fun (lo hi : Nat) => decide (lo ≤ a) && decide (a < hi)
  (!s.dopPresent && a / 65536 == 9) ||
  (s.variant == .zkv4240 &&
    (inR (R.ISLn_CFG 1) (R.ISLn_CFG 2) || inR (R.CHn_CFG 8) (R.CHn_CFG 16) || inR (R.PTn_CFG 4) (R.PTn_CFG 8) ||
     inR (R.AXn_CFG 8) (R.AXn_CFG 16) || inR (R.PORTn_CFG 2) (R.PORTn_CFG 4) || inR (R.TIM_PORTn_CFG 2) (R.TIM_PORTn_CFG 4)))

/-- A table address in absent space. -/
def State.absentTab (s : State) (blk a : Nat) : Bool :=
  (!s.dopPresent && blk == 9) ||
  (s.variant == .zkv4240 &&
    ((blk == 5 && 64 * 1024 ≤ a && a < 0x40000) || (blk == 6 && 128 * 1024 ≤ a && a < 0x80000) ||
     (blk == 11 && 32 * 1024 ≤ a && a < 32 * 4096)))

/-! ### Targets (Table 16.3) -/

/-- Registers that a DRAM_MAP alone writes (R398). -/
def mapRegs : List Nat := [R.PGR_POOL_BASE, R.PGR_POOL_SIZE, R.DOP_AREA_BASE, R.TRJ_AREA_BASE]

/-- A section type names a register. -/
def regAllowed (ty a : Nat) : Bool :=
  let blk := a / 65536
  !mapRegs.contains a &&
  match ty with
  | 0x01 => a == R.PWR_GAP || [0x0A, 0x0C, 0x0D, 0x10].contains blk || (blk == 0x0E && !(0x8000 ≤ a % 65536 && a % 65536 < 0x8100)) ||
      a == R.SIO_CFG || a == R.SIO_WD_MISS || (R.SIO_PORTn_CFG 0 ≤ a && a < R.SIO_PORTn_CFG 2)
  | 0x11 => a == R.HQC_CFG
  | 0x12 => a == R.PGR_CFG || a == R.PGR_QUOTAn 0 || a == R.PGR_QUOTAn 1
  | 0x13 => a == R.CYC_TMAX || a == R.CYC_REST || a == R.CYC_OVR_LIM
  | 0x20 => a == R.CYC_HOSTW_BASE || a == R.CYC_HOSTW_SIZE
  | 0x30 => R.AXn_CFG 0 ≤ a && a < R.AXn_CFG 16
  | 0x40 => blk == 0x08
  | 0x50 => blk == 0x09
  | 0x51 => a == R.TRJ_CFG || a == R.TRJ_FOL_TMO
  | 0x60 => blk == 0x13
  | _ => false

/-- A section type names a table word. The variable initialisation list of 0x20 is the records for the variable area. -/
def tabAllowed (ty blk a : Nat) : Bool :=
  match ty with
  | 0x01 => blk == 12 || blk == 2 || (blk == 17 && a < 0x41000)
  | 0x10 => blk == 5 || (blk == 17 && a < 0x41000)
  | 0x11 => blk == 11
  | 0x20 => (blk == 3 && (a < 0x200000 || (0x300000 ≤ a && a < 0x400000))) || (blk == 4 && a < 0x400)
  | 0x21 => blk == 6
  | 0x22 => blk == 14
  | 0x30 => blk == 7
  | 0x40 => blk == 8
  | 0x50 => blk == 9
  | 0x60 => blk == 19
  | _ => false

/-- A section type names a DRAM area: the symbolic area, the DOP area. -/
def areaAllowed (ty area : Nat) : Bool := (ty == 0x41 && area == 3) || (ty == 0x50 && area == 5)

/-- The key of a word of a DRAM area. -/
def areaKey (area ofs : Nat) : Nat := tabKey (if area = 3 then 8 else 9) (0x40000000 + ofs)

/-- The size of an area in granules, from the map in force. -/
def areaGranules (map : List (Nat × Nat × Nat)) (area : Nat) : Nat := ((map.find? (fun e => e.1 == area)).map (fun e => e.2.1)).getD 0

/-- A table address that stands in a table of its block. -/
def inTable (blk a : Nat) : Bool := (blockTabs blk).any (fun r => r.base ≤ a && (a - r.base) / r.stride < r.cnt)

/-- The bits of a word that the loader writes: fields with access RWL or RW. -/
def loadMask (k : Nat) : Nat :=
  (keyFields k).foldl (fun m f => if f.acc == .rwl || f.acc == .rw then m + (2 ^ f.width - 1) * 2 ^ f.lsb else m) 0

/-- The loader writes a word: a 1 in a reserved bit or in a field of other access is refused (R396). -/
def State.loadWord (s : State) (k : Nat) (v : Word) : Option State :=
  let m := BitVec.ofNat 32 (loadMask k)
  if v &&& ~~~m ≠ 0 then none else some (s.setWord k ((s.word k &&& ~~~m) ||| v))

/-! ### Sections -/

/-- A word the loader wrote: its key, the directory index of its section, KIND and target address. -/
structure Touched where
  key : Nat
  sect : Nat
  kind : Nat
  addr : Nat
deriving DecidableEq, Repr

/-- What applying a record answers: the state and the words written, an absent target (R7), or a code 13 with the address. -/
inductive RecAns where
  | ok (s : State) (ts : List Touched)
  | absent (kind addr : Nat)
  | bad (kind addr : Nat)

/-- Write words of consecutive addresses. -/
def State.loadRun (s : State) (sect kind : Nat) (key : Nat → Nat) (ts : List Touched) : Nat → List Word → RecAns
  | _, [] => .ok s ts
  | a, w :: t =>
    match s.loadWord (key a) w with
    | some s1 => s1.loadRun sect kind key (⟨key a, sect, kind, a⟩ :: ts) (a + 4) t
    | none => .bad kind a

/-- Apply a run of table words. -/
def State.loadTab (s : State) (ty sect kind blk a : Nat) (ws : List Word) (ts : List Touched) : RecAns :=
  let as := (List.range ws.length).map (fun i => a + 4 * i)
  if ws.isEmpty || 65536 < ws.length || a % 4 ≠ 0 || !as.all (fun x => tabAllowed ty blk x) || !as.all (inTable blk) then .bad kind a
  else if as.any (s.absentTab blk) then .absent kind a
  else s.loadRun sect kind (tabKey blk) ts a ws

/-- A write MTR ignores with MTR_ERR.RANGE, whoever makes it: a TYPE the channel does not accept (R34; channels 0 to 3 of an island are its
voltages), a save period out of range (Table 2.8). -/
def mtrBadValue (a : Nat) (v : Word) : Bool :=
  let o := a - R.CHn_CFG 0
  let ty := v.toNat % 4
  let per := v.toNat % 4096
  if R.CHn_CFG 0 ≤ a ∧ a < R.CHn_CFG 16 ∧ o % 0x20 = 0 then (if o / 0x20 % 8 < 4 then ty != 0 else ty == 0)
  else a == R.MTR_FRAM_PER && (per == 0 || decide (3600 < per))

/-- Apply a record of a section (R395, R396). -/
def State.loadRec (s : State) (ty sect : Nat) (map : List (Nat × Nat × Nat)) (ts : List Touched) : CfgRec → RecAns
  | .reg a v =>
    if a % 4 ≠ 0 || !regAllowed ty a then .bad 1 a
    else if s.absentReg a then .absent 1 a
    else if mtrBadValue a v then .ok (s.flag F.MTR_ERR.RANGE) ts
    else s.loadRun sect 1 id ts a [v]
  | .tab blk a ws => s.loadTab ty sect 2 blk a ws ts
  | .fill blk a n w => s.loadTab ty sect 3 blk a (List.replicate n w) ts
  | .area ar ofs ws =>
    if ws.isEmpty || ofs % 4 ≠ 0 || !areaAllowed ty ar || areaGranules map ar * 65536 < ofs + 4 * ws.length then .bad 4 ofs
    else if ar == 5 && !s.dopPresent then .absent 4 ofs
    else .ok (ws.zipIdx.foldl (fun s e => s.setWord (areaKey ar (ofs + 4 * e.2)) e.1) s) ts
  | .bad => .bad 0 0

/-- Apply a section's records in order; with `perRecord` (the cap section's OPTIONAL flag, R7) a record that addresses something absent is
passed over. Answers the state, the words written and whether a record was passed over, or the code (12 or 13) with KIND and address. -/
def State.loadRecs (s : State) (ty sect : Nat) (map : List (Nat × Nat × Nat)) (perRecord : Bool) (ts : List Touched) (skip : Bool) :
    List CfgRec → Except (Nat × Nat × Nat) (State × List Touched × Bool)
  | [] => .ok (s, ts, skip)
  | r :: t =>
    match s.loadRec ty sect map ts r with
    | .ok s1 ts1 => s1.loadRecs ty sect map perRecord ts1 skip t
    | .absent k a => if perRecord then s.loadRecs ty sect map perRecord ts true t else .error (12, k, a)
    | .bad k a => .error (13, k, a)

/-! ### Writers (R19, R143) -/

/-- Every writer of station output bytes, with its spans: program instances first, then slots, remote axes, channels. Instances of one
program are one writer each to R143; a channel stands for its scheduled action. -/
def State.spanWriters (s : State) : List (Nat × Nat × Nat) :=
  s.instances.filterMap (fun i => if s.bit (T.CYC_BLK.EN i) then s.outSpan i else none) ++ s.engineSpans ++ s.channels.filterMap s.chanSpan

/-- Some two writers share an output byte. -/
def spansClash : List (Nat × Nat × Nat) → Bool
  | [] => false
  | x :: t => t.any (spanMeets x) || spansClash t

/-- Some element occurs twice. -/
def repeats {α : Type} [DecidableEq α] : List α → Bool
  | [] => false
  | x :: t => t.contains x || repeats t

end Sys2Proof.Machine
end

