-- ==== Sys2Proof/Machine/Checks.lean ====
section
/-! DEFINITION. The load checks of the program sections (R125, R143, R166, R173, R175, R176, R181, R184, R185, R274), shared by the loader and
by the staging of an online exchange (R199). -/
namespace Sys2Proof.Machine

/-- A breach: the code of Table 16.5 and the code of CYC_EXCH_ERR. -/
structure Breach where
  load : Nat
  exch : Nat
deriving DecidableEq, Repr

/-- A value its own rule rejects. -/
def bOther : Breach := ⟨14, 5⟩
/-- A name of something absent (R143, R396). -/
def bAbsent : Breach := ⟨14, 7⟩
/-- A rule that spans entries. -/
def bCross : Breach := ⟨15, 5⟩

/-- The first breach of a list of conditions. -/
def firstOf : List (Bool × Breach) → Option Breach
  | [] => none
  | (c, b) :: t => if c then some b else firstOf t

/-- The first element with a breach. -/
def firstIn {α : Type} (f : α → Option Breach) : List α → Option Breach
  | [] => none
  | x :: t => (f x).orElse (fun _ => firstIn f t)

/-! ### Task table (R125) -/

/-- Enabled tasks. -/
def State.tasks (s : State) : List Nat := (List.range 64).filter (fun t => s.bit (T.PGR_TASK.EN t))

/-- Two enabled tasks' block ranges overlap. -/
def State.rangesMeet (s : State) (a b : Nat) : Bool :=
  s.get (T.PGR_TASK.FIRST a) ≤ s.get (T.PGR_TASK.LAST b) && s.get (T.PGR_TASK.FIRST b) ≤ s.get (T.PGR_TASK.LAST a)

/-- One task's own fields (Table 5.5, R125, R130). -/
def State.taskBad (s : State) (t : Nat) : Bool :=
  let ty := s.get (T.PGR_TASK.TYPE t)
  let prio := s.get (T.PGR_TASK.PRIO t)
  let per := s.get (T.PGR_TASK.PERIOD t)
  let src := s.get (T.PGR_TASK.SRC t)
  let idx := s.get (T.PGR_TASK.SRC_IDX t)
  (if t = 0 then ty != 1 || prio != 0 else !(ty == 2 || ty == 3) || prio == 0) ||
  (if ty = 2 then per == 0 || 40000 < per || per ≤ s.get (T.PGR_TASK.PHASE t) else per != 0) ||
  5 < src || ((src == 2 || src == 3) && 31 < idx) || (src == 5 && 24 < idx)

/-- The task table's breach (R125). -/
def State.taskCheck (s : State) : Option Breach :=
  let ts := s.tasks
  firstOf [
    (!ts.contains 0 || ts.any s.taskBad, ⟨14, 4⟩),
    (ts.any (fun a => ts.any (fun b => a < b && s.rangesMeet a b)), ⟨15, 4⟩),
    (s.enabledStns.any (fun n => s.bit (T.SIO_STN.ERR_EN n) && !s.eventTask (s.get (T.SIO_STN.ERR_TASK n)) 1), ⟨15, 4⟩)]

/-! ### Block descriptors (R139 to R143) -/

/-- An axis 0 to 271 exists (R202). -/
def State.axisThere (s : State) (n : Nat) : Bool := if n < 16 then s.axPresent n else n < 272

/-- The bytes an operand covers: the block type's length for COPY, its data type's size otherwise. -/
def State.opdLen (s : State) (i : Nat) (o : Opd) : Nat := if s.get (T.CYC_BLK.TYPE i) = 31 then s.imm i % 512 else dtSize o.dt

/-- An input operand's breach (Tables 6.3, 6.5, 6.6). -/
def State.inputCheck (s : State) (i : Nat) (o : Opd) : Option Breach :=
  let n := s.opdLen i o
  let item := o.addr / 4096 % 16
  match o.space with
  | 0 => none
  | 1 | 2 => if 0x80000 < o.addr + n then some bOther else none
  | 3 | 4 => firstOf [(!s.stnPresent o.stn, bAbsent), (256 < o.ofs + n, bOther)]
  | 5 => firstOf [(!s.stnPresent o.stn, bAbsent), (0xA90 < o.ofs + n, bOther)]
  | 6 => if 2 ^ 18 ≤ o.addr then some bOther else none
  | 7 => firstOf [(16384 ≤ o.addr, bAbsent), (o.dt ≠ 7, bOther)]
  | 8 =>
    let c := o.addr / 65536
    let x := o.addr % 65536
    if (c = 0 ∧ o.dt = 0 ∧ x < 32) ∨ (c = 1 ∧ o.dt = 6 ∧ x < 32) ∨ (c = 2 ∧ o.dt = 7 ∧ x < 16) ∨ (c = 3 ∧ o.dt = 0 ∧ x < 8) then none
    else some bOther
  | 9 => firstOf [(!(o.addr < 65536 && ((item == 0 || item == 4 || item == 5) && o.dt == 7 || item == 6 && o.dt == 6)), bOther),
      (!s.slotPresent (o.addr % 4096), bAbsent)]
  | 10 => firstOf [(!(o.addr < 65536 && (item == 2 && o.dt == 5 || item == 3 && o.dt == 6)), bOther),
      (!s.axisThere (o.addr % 4096), bAbsent)]
  | 11 =>
    if (o.addr = 6 ∨ o.addr = 9 ∨ o.addr = 10) ∧ o.dt = 0 then none
    else if (o.addr ≤ 5 ∨ o.addr = 7 ∨ o.addr = 8 ∨ o.addr = 11) ∧ o.dt = 6 then none
    else some bOther
  | _ => some bOther

/-- The output operand's breach. -/
def State.outputCheck (s : State) (i : Nat) (o : Opd) : Option Breach :=
  let n := s.opdLen i o
  let item := o.addr / 4096 % 16
  let hb := s.get F.CYC_HOSTW_BASE.BASE
  let hs := s.get F.CYC_HOSTW_SIZE.SIZE
  match o.space with
  | 0 => none
  | 1 => if 0x80000 < o.addr + n ∨ (o.addr < hb + hs ∧ hb < o.addr + n) then some bOther else none
  | 4 => firstOf [(!s.stnPresent o.stn, bAbsent), (256 < o.ofs + n, bOther)]
  | 5 => firstOf [(!s.stnPresent o.stn, bAbsent), (o.ofs < 0x110 || 0xA90 < o.ofs + n, bOther)]
  | 9 => firstOf [(!(o.addr < 65536 && item ≤ 3 && o.dt == itemType 9 item), bOther), (!s.slotPresent (o.addr % 4096), bAbsent)]
  | 10 => firstOf [(!(o.addr < 65536 && item ≤ 1 && o.dt == itemType 10 item), bOther), (!s.axisThere (o.addr % 4096), bAbsent)]
  | _ => some bOther

/-- Words of a type's parameter block; the LUT's N stands in its first word. -/
def State.parWords (s : State) (i : Nat) : Nat :=
  match s.get (T.CYC_BLK.TYPE i) with
  | 32 => 2
  | 33 => 1 + 2 * (s.par i 0).toNat
  | 34 => 4
  | 36 | 39 | 40 => 1
  | 37 => 2
  | 38 => 3
  | _ => 0

/-- A parameter block that breaks the rules of its type (Table 6.12). -/
def State.parBad (s : State) (i : Nat) : Bool :=
  let pos := fun k => (FVal.ofInt 0).lt (f32val (s.par i k))
  match s.get (T.CYC_BLK.TYPE i) with
  | 33 =>
    let n := (s.par i 0).toNat
    n < 2 || 32 < n || (List.range (n - 1)).any (fun k => !(f32val (s.par i (1 + 2 * k))).lt (f32val (s.par i (3 + 2 * k))))
  | 37 => !pos 0 || !pos 1
  | 39 => !(FVal.ofInt 0).le (f32val (s.par i 0))
  | _ => false

/-- One instance's breach (R143): type, parameters, operands. -/
def State.blockCheck (s : State) (i : Nat) : Option Breach :=
  let ty := s.get (T.CYC_BLK.TYPE i)
  let imm := s.imm i
  let par := s.get (T.CYC_BLK.PAR i)
  let ins := (List.range 4).map (s.opd i)
  let noCopy := fun (o : Opd) => 6 ≤ o.space
  (firstOf [
    (47 < ty, bOther),
    (ty == 19 && imm / 2 ^ 15 % 2 == 1, bOther),
    (ty == 27 && 6 ≤ imm % 8, bOther),
    (ty == 31 && (imm % 512 == 0 || 256 < imm % 512 || noCopy (s.opd i 0) || noCopy (s.opd i 4)), bOther),
    (ty == 43 && (s.opd i 0).space != 3, bOther),
    (s.parWords i ≠ 0 && (par % 4 ≠ 0 || 0x80000 < par + 4 * s.parWords i), bOther),
    (s.parBad i, bOther)]).orElse (fun _ =>
      (firstIn (s.inputCheck i) ins).orElse (fun _ => s.outputCheck i (s.opd i 4)))

/-- The task an instance belongs to; 64 where none. -/
def State.taskOf (s : State) (i : Nat) : Nat :=
  (s.tasks.find? (fun t => s.get (T.PGR_TASK.FIRST t) ≤ i && i ≤ s.get (T.PGR_TASK.LAST t))).getD 64

/-- The station bytes CSB writes, one writer for all groups (R292). -/
def State.csbSpans (s : State) : List (Nat × Nat × Nat × Nat) :=
  (s.entries 12 0 16 64 0).flatMap (fun g =>
    (if s.get (T.CSB_GRP.OUT_KIND g) = 1 then [(7000, s.get (T.CSB_GRP.OUT_ADDR g) / 4096, s.get (T.CSB_GRP.OUT_ADDR g) % 4096, 1)] else []) ++
    (if s.get (T.CSB_GRP.RCL_KIND g) = 2 then [(7000, s.get (T.CSB_GRP.RCL_ADDR g) / 4096, s.get (T.CSB_GRP.RCL_ADDR g) % 4096, 1)] else []))

/-- Writers of output bytes with their spans: tasks (0 to 64), slots (100 + n), remote axes (5000 + r), channels (6000 + c), CSB (7000). -/
def State.byteWriters (s : State) : List (Nat × Nat × Nat × Nat) :=
  s.instances.filterMap (fun i => (s.outSpan i).map (fun x => (s.taskOf i, x))) ++
  s.enabledSlots.filterMap (fun n => if s.get (T.LPE_SLOT.DEST n) = 1 then
      let a := s.get (T.LPE_SLOT.DEST_ADDR n)
      some (100 + n, a / 4096, a % 4096, dtSize (s.get (T.LPE_SLOT.DEST_DTYPE n)))
    else none) ++
  s.raList.map (fun r => (5000 + r, s.get (T.MPG_RA.STATION r), s.get (T.MPG_RA.OUT_OFS r), 4)) ++
  s.channels.filterMap (fun c => (s.chanSpan c).map (fun x => (6000 + c, x))) ++ s.csbSpans

/-- Writers of loop and axis items: (writer, space, index, item). -/
def State.itemWriters (s : State) : List (Nat × Nat × Nat × Nat) :=
  s.instances.filterMap (fun i =>
    let o := s.opd i 4
    if o.space = 9 then some (s.taskOf i, 9, o.addr % 4096, o.addr / 4096 % 16)
    else if o.space = 10 then some (s.taskOf i, 10, o.addr % 4096, o.addr / 4096 % 16) else none) ++
  s.enabledSlots.filterMap (fun n => if s.get (T.LPE_SLOT.DEST n) = 2 then some (100 + n, 10, s.get (T.LPE_SLOT.DEST_ADDR n), 0) else none) ++
  s.channels.filterMap (fun c =>
    let a := s.get (T.TRJ_CH.ADDR c)
    match s.get (T.TRJ_CH.KIND c) with
    | 0 => some (6000 + c, 9, a % 4096, 0)
    | 1 => some (6000 + c, 10, a % 512, 0)
    | _ => none)

/-- Two writers of one list collide. -/
def writersClash {α : Type} (meets : α → α → Bool) : List (Nat × α) → Bool
  | [] => false
  | x :: t => t.any (fun y => y.1 != x.1 && meets x.2 y.2) || writersClash meets t

/-- The program's breach (R143). -/
def State.programCheck (s : State) : Option Breach :=
  (firstIn s.blockCheck s.instances).orElse (fun _ => firstOf [
    (repeats ((s.instances.map (fun i => s.get (T.CYC_BLK.TAG i))).filter (· != 0)), ⟨15, 6⟩),
    (writersClash spanMeets s.byteWriters, ⟨15, 3⟩),
    (writersClash (fun a b => a == b) s.itemWriters, ⟨15, 3⟩)])

/-! ### Loops (R164, R166, R173, R175, R176, R181, R184, R185) -/

/-- A chain of inner loops from a slot closes on itself or is longer than `fuel` slots. -/
def State.chainLong (s : State) (n : Nat) : Nat → Bool
  | 0 => true
  | f + 1 => s.bit (T.LPE_SLOT.CAS_EN n) && s.chainLong (s.get (T.LPE_SLOT.CAS_SLOT n)) f

/-- One enabled slot's own breach. -/
def State.slotCheck (s : State) (n : Nat) : Option Breach :=
  let g := fun (f : Nat → Fld) => s.get (f n)
  let repE := fun (f : Nat → Fld) => representable (s.getw (f n)) (s.geti (T.LPE_SLOT.EXP_E n))
  let repO := fun (f : Nat → Fld) => representable (s.getw (f n)) (s.expO n)
  let per := g T.LPE_SLOT.PERIOD
  let sh := g T.LPE_SLOT.SPAN_SH
  let pv := g T.LPE_SLOT.PV_SRC
  let pa := g T.LPE_SLOT.PV_ADDR
  let da := g T.LPE_SLOT.DEST_ADDR
  let dst := g T.LPE_SLOT.DEST
  let pdt := g T.LPE_SLOT.PV_DTYPE
  let ddt := g T.LPE_SLOT.DEST_DTYPE
  firstOf [
    (per == 0 || 2400000 < per || per ≤ g T.LPE_SLOT.PHASE, bOther),
    (g T.LPE_SLOT.DROP == 3 || g T.LPE_SLOT.INIT_MODE == 3 || g T.LPE_SLOT.SP_SRC == 3 || 4 < pv || 2 < dst ||
      g T.LPE_SLOT.PL_SRC == 3 || g T.LPE_SLOT.PL_ACT == 3 || g T.LPE_SLOT.SAFETY == 3, bOther),
    (g T.LPE_SLOT.PL_SRC != 0 && g T.LPE_SLOT.PL_N == 0, bOther),
    (s.bit (T.LPE_SLOT.TRIP_EN n) && g T.LPE_SLOT.TRIP_N == 0, bOther),
    (pv == 0 && (pdt == 0 || 7 < pdt), bOther),
    (dst == 1 && (ddt == 0 || 7 < ddt), bOther),
    (pv == 0 && !s.stnPresent (pa / 4096), bAbsent),
    (pv == 0 && 256 < pa % 4096 + dtSize pdt, bOther),
    (pv == 1 && 15 < pa, bOther),
    (pv == 2 && 16383 < pa, bAbsent),
    (pv == 3 && !s.axisThere pa, bAbsent),
    (pv == 4 && (pa % 4 != 0 || 0x80000 ≤ pa), bOther),
    (dst == 1 && !s.stnPresent (da / 4096), bAbsent),
    (dst == 1 && 256 < da % 4096 + dtSize ddt, bOther),
    (dst == 2 && !s.axisThere da, bAbsent),
    (!(repE T.LPE_SLOT.SP_LO && repE T.LPE_SLOT.SP_HI && repE T.LPE_SLOT.SP_INIT && repO T.LPE_SLOT.OUT_LO &&
      repO T.LPE_SLOT.OUT_HI && repO T.LPE_SLOT.SAFE_OUT), bOther),
    (s.bit (T.LPE_SLOT.SP_TRK n) && (g T.LPE_SLOT.SP_SRC == 1 || g T.LPE_SLOT.SP_SRC == 2), bOther),
    (s.bit (T.LPE_SLOT.GS_EN n) && (if s.bit (T.LPE_SLOT.GS_ASYM n) then sh < 4 || 22 < sh else sh < 5 || 23 < sh), bOther),
    (g T.LPE_SLOT.PL_SRC == 2 && !(FVal.ofInt 0).lt (f32val (s.getw (T.LPE_SLOT.TM n))), bOther)]

/-- A group's breach (R181, R184). `m` its members, the lead first. -/
def State.groupBad (s : State) (m : List Nat) : Bool :=
  let lead := m.headD 0
  let same := fun (f : Nat → Fld) => m.all (fun n => s.get (f n) == s.get (f lead))
  let outer := fun n => s.enabledSlots.any (fun k => s.bit (T.LPE_SLOT.CAS_EN k) && s.get (T.LPE_SLOT.CAS_SLOT k) == n)
  let trips := m.filter (fun n => s.bit (T.LPE_SLOT.TRIP_EN n))
  let limit := fun (sf : Nat) => if sf = 1 then 400 else 4000
  8 < m.length || !(same T.LPE_SLOT.PERIOD && same T.LPE_SLOT.PHASE && same T.LPE_SLOT.OUT_LO && same T.LPE_SLOT.OUT_HI &&
    same T.LPE_SLOT.EXP_O) ||
  (m.drop 1).any (fun n => s.get (T.LPE_SLOT.DEST n) != 0 || !(f32val (s.getw (T.LPE_SLOT.ROC n))).isZero) || m.any outer ||
  m.any (fun n =>
    let sf := s.get (T.LPE_SLOT.SAFETY n)
    sf != 0 && (trips.isEmpty || trips.any (fun k =>
      let pst := if s.get (T.LPE_SLOT.PV_SRC k) = 0 then s.get (T.SIO_STN.PERIOD (s.get (T.LPE_SLOT.PV_ADDR k) / 4096)) else 0
      1 < s.get (T.LPE_SLOT.PV_SRC k) || limit sf < pst + 1 + (s.get (T.LPE_SLOT.TRIP_N k) + 3) * s.get (T.LPE_SLOT.PERIOD k))))

/-- An inner loop's cascade breaks a rule of R185. -/
def State.cascadeBad (s : State) (n : Nat) : Bool :=
  let o := s.get (T.LPE_SLOT.CAS_SLOT n)
  let pi := s.get (T.LPE_SLOT.PERIOD n)
  let po := s.get (T.LPE_SLOT.PERIOD o)
  !(s.slotPresent o && s.bit (T.LPE_SLOT.EN o)) || s.get (T.LPE_SLOT.DEST o) != 0 ||
  s.enabledSlots.any (fun k => k != n && s.bit (T.LPE_SLOT.CAS_EN k) && s.get (T.LPE_SLOT.CAS_SLOT k) == o) ||
  pi == 0 || po % pi != 0 || po / pi < 2 || 1024 < po / pi || s.get (T.LPE_SLOT.PHASE o) % pi != s.get (T.LPE_SLOT.PHASE n) || s.chainLong n 4

/-- The loop table's breach. -/
def State.loopCheck (s : State) : Option Breach :=
  (firstIn s.slotCheck s.enabledSlots).orElse (fun _ => firstOf [
    ((List.range 256).any (fun g => s.groupBad (s.members g)), bCross),
    (s.enabledSlots.any (fun n => s.bit (T.LPE_SLOT.CAS_EN n) && s.cascadeBad n), bCross),
    (2000 < s.loopPeak, ⟨15, 2⟩)])

/-! ### Channels (R274) -/

/-- One enabled channel's breach. -/
def State.chanCheck (s : State) (c : Nat) : Option Breach :=
  let a := s.get (T.TRJ_CH.ADDR c)
  let dt := s.get (T.TRJ_CH.DTYPE c)
  match s.get (T.TRJ_CH.KIND c) with
  | 0 => firstOf [(!s.slotPresent (a % 4096), bAbsent), (s.get (T.LPE_SLOT.SP_SRC (a % 4096)) != 2, ⟨15, 3⟩)]
  | 1 => firstOf [(!s.axisThere (a % 512), bAbsent),
      ((if a % 512 < 16 then s.get (F.AXn_CFG.TGT_SRC (a % 512)) else s.get (T.MPG_RA.TGT_SRC (a % 512 - 16))) != 3, ⟨15, 3⟩)]
  | 2 => firstOf [(dt == 0 || 7 < dt, bOther), (!s.stnPresent (a / 4096 % 4096), bAbsent), (256 < a % 4096 + dtSize dt, bOther)]
  | _ => if s.get F.TRJ_CFG.SRC = 2 then some bOther else none

/-- What a channel writes: its kind and target. -/
def State.chanTarget (s : State) (c : Nat) : Nat × Nat :=
  let a := s.get (T.TRJ_CH.ADDR c)
  (s.get (T.TRJ_CH.KIND c), match s.get (T.TRJ_CH.KIND c) with
    | 0 => a % 4096
    | 1 => a % 512
    | 2 => a % 2 ^ 24
    | _ => a)

/-- The channel table's breach. -/
def State.channelCheck (s : State) : Option Breach :=
  (firstIn s.chanCheck s.channels).orElse (fun _ => firstOf [(repeats (s.channels.map s.chanTarget), ⟨15, 3⟩)])

/-- All program sections, in the order task table, blocks, loops, channels; writers last. -/
def State.programSections (s : State) : Option Breach :=
  (s.taskCheck.orElse (fun _ => s.loopCheck)).orElse (fun _ => s.channelCheck.orElse (fun _ => s.programCheck))

/-- The instances in use: the highest descriptor word written, plus one. -/
def State.countBlocks (s : State) : Nat :=
  s.words.foldl (fun n e => if tabKey 3 0 ≤ e.1 && e.1 < tabKey 3 0x200000 then max n ((e.1 - tabKey 3 0) / 32 + 1) else n) 0

end Sys2Proof.Machine
end

