-- ==== Sys2Proof/Machine/If97.lean ====
section
/-! DEFINITION. Specific enthalpy and volume of water by the IAPWS-IF97 region 1 equations (R74), evaluated in fixed point of 2⁻²⁵⁶ and
rounded once to FP64 (log entry 27). The coefficients are those of the published standard (PRESUMED, log entry 27). -/
namespace Sys2Proof.Machine

/-- One term of the region 1 equation: I, J, and the coefficient n = mantissa × 10^(−exp). -/
structure If97Term where
  i : Nat
  j : Int
  m : Int
  e : Nat
deriving DecidableEq, Repr

def if97a : List If97Term := [
  ⟨0, -2, 14632971213167, 14⟩, ⟨0, -1, -84548187169114, 14⟩, ⟨0, 0, -37563603672040, 13⟩, ⟨0, 1, 33855169168385, 13⟩,
  ⟨0, 2, -95791963387872, 14⟩, ⟨0, 3, 15772038513228, 14⟩, ⟨0, 4, -16616417199501, 15⟩, ⟨0, 5, 81214629983568, 17⟩,
  ⟨1, -9, 28319080123804, 17⟩, ⟨1, -7, -60706301565874, 17⟩, ⟨1, -1, -18990068218419, 15⟩, ⟨1, 0, -32529748770505, 15⟩,
  ⟨1, 1, -21841717175414, 15⟩, ⟨1, 3, -52838357969930, 18⟩, ⟨2, -3, -47184321073267, 17⟩, ⟨2, 0, -30001780793026, 17⟩,
  ⟨2, 1, 47661393906987, 18⟩]

def if97b : List If97Term := [
  ⟨2, 3, -44141845330846, 19⟩, ⟨2, 17, -72694996297594, 29⟩, ⟨3, -4, -31679644845054, 18⟩, ⟨3, 0, -28270797985312, 19⟩,
  ⟨3, 6, -85205128120103, 23⟩, ⟨4, -5, -22425281908000, 19⟩, ⟨4, -2, -65171222895601, 20⟩, ⟨4, 10, -14341729937924, 26⟩,
  ⟨5, -8, -40516996860117, 20⟩, ⟨8, -11, -12734301741641, 22⟩, ⟨8, -6, -17424871230634, 23⟩, ⟨21, -29, -68762131295531, 32⟩,
  ⟨23, -31, 14478307828521, 33⟩, ⟨29, -38, 26335781662795, 36⟩, ⟨30, -39, -11947622640071, 36⟩, ⟨31, -40, 18228094581404, 37⟩,
  ⟨32, -41, -93537087292458, 39⟩]

/-- The fixed-point unit. -/
def fx : Int := 2 ^ 256
/-- A fixed-point power with a natural exponent. -/
def fxPow (x : Int) : Nat → Int
  | 0 => fx
  | n + 1 => fxPow x n * x / fx
/-- A fixed-point power with an integer exponent. -/
def fxZpow (x : Int) (n : Int) : Int := if 0 ≤ n then fxPow x n.toNat else fxPow (fx * fx / x) (-n).toNat

/-- θ in 0.01 °C, p in 0.001 MPa: h in kJ/kg and v in m³/kg, in fixed point. -/
def if97 (theta : Int) (p : Nat) : Int × Int :=
  let tk := theta + 27315
  let pi := (p : Int) * fx / 16530
  let tau := 138600 * fx / tk
  let a := 71 * fx / 10 - pi
  let b := tau - 1222 * fx / 1000
  let sums := (if97a ++ if97b).foldl (fun (acc : Int × Int) t =>
    let n := t.m * fx / (10 ^ t.e : Nat)
    let gt := if t.j = 0 then 0 else n * t.j * fxPow a t.i / fx * fxZpow b (t.j - 1) / fx
    let gp := if t.i = 0 then 0 else -(n * t.i * fxPow a (t.i - 1) / fx * fxZpow b t.j / fx)
    (acc.1 + gt, acc.2 + gp)) (0, 0)
  -- R = 0.461526 kJ/(kg K)
  let rt := 461526 * tk * fx / 100000000
  let h := rt * tau / fx * sums.1 / fx
  let v := rt * sums.2 / fx / 16530
  (h, v)

/-- h as FP64. -/
def if97H (theta : Int) (p : Nat) : BitVec 64 := let x := (if97 theta p).1; f64bits (.fin (x < 0) x.natAbs (2 ^ 256))
/-- v as FP64: the pressure was in 0.001 MPa, so kJ / MPa is 10⁻³ m³. -/
def if97V (theta : Int) (p : Nat) : BitVec 64 := let x := (if97 theta p).2; f64bits (.fin (x < 0) x.natAbs (2 ^ 256))

end Sys2Proof.Machine
end

