-- ==== Sys2Proof/Machine/Nand.lean ====
section
/-! DEFINITION. What UPD keeps in NAND and shows of it (R465 to R471), and the selection record in FRAM (R400), which several units write. -/
namespace Sys2Proof.Machine

/-! ### The selection record -/

/-- The record is to be written (R400). -/
def State.selTouch (s : State) : State := { s with cfg := { s.cfg with dirty := true } }
/-- A slot's REJ mark. -/
def rejFld (slot : Nat) : Fld := if slot = 0 then F.CFG_SEL.REJ0 else F.CFG_SEL.REJ1
/-- A slot is marked rejected (R404, R407). -/
def State.rejectSlot (s : State) (slot : Nat) : State := (s.set (rejFld slot) 1).selTouch

/-! ### A package's header and tree (Table 19.1, R469) -/

/-- A number in a byte string. -/
def natAt (l : List Byte) (o n : Nat) : Nat := leNat ((l.drop o).take n)
def pkgType (h : List Byte) : Nat := natAt h 4 2 / 256
def pkgId (h : List Byte) : Nat := natAt h 8 4
def pkgGen (h : List Byte) : Nat := natAt h 12 4
def pkgFloor (h : List Byte) : Nat := natAt h 16 4
def pkgLen (h : List Byte) : Nat := natAt h 28 4
def pkgData (h : List Byte) : Nat := natAt h 32 4
def pkgTree (h : List Byte) : Nat := natAt h 36 4
def pkgLevels (h : List Byte) : Nat := natAt h 40 1
def pkgRoot (h : List Byte) : List Byte := (h.drop 44).take 48
/-- T. -/
def pkgTotal (h : List Byte) : Nat := pkgTree h + pkgData h

/-- Chunks of level k for d data chunks. -/
def treeN (d k : Nat) : Nat := (d + 16 ^ k - 1) / 16 ^ k
/-- Levels. -/
def treeL (d : Nat) : Nat := if d ≤ 16 then 1 else if d ≤ 256 then 2 else if d ≤ 4096 then 3 else if d ≤ 65536 then 4 else 5
/-- The first index of level k. -/
def treeBase (d l k : Nat) : Nat := ((List.range l).map (fun j => if k ≤ j then treeN d (j + 1) else 0)).sum
/-- Level and position of an index. -/
def treeAt (d l i : Nat) : Nat × Nat :=
  match (List.range (l + 1)).find? (fun k => treeBase d l k ≤ i && i < treeBase d l k + treeN d k) with
  | some k => (k, i - treeBase d l k)
  | none => (0, i)

/-! ### Registers that show the package -/

/-- PSTATE, in the register and in NAND. -/
def State.setPst (s : State) (v : Nat) : State := { (s.set F.UPD_STAT.PSTATE v) with upd := { s.upd with pst := v } }

/-- A chunk is held. -/
def State.chunk? (s : State) (i : Nat) : Option (List Byte) := s.upd.chunks.lookup i

/-- RECVD and NEED follow the chunks held. -/
def State.showRecvd (s : State) (t : Nat) : State :=
  let n := ((List.range t).find? (fun i => (s.chunk? i).isNone)).getD t
  (s.set F.UPD_RECVD.COUNT s.upd.chunks.length).set F.UPD_NEED.COUNT n

/-- A bit of the bitmap. -/
def State.showChunk (s : State) (i : Nat) : State := s.set ⟨tabKey 18 (4 * (i / 32)), i % 32, 1⟩ 1

/-- The package's registers, bitmap and header words. -/
def State.showPkg (s : State) : State :=
  let s0 := (s.clearWords (fun k => tabKey 18 0 ≤ k && k < tabKey 18 0x4400)).set F.UPD_STAT.PSTATE s.upd.pst
  match s.upd.pkg with
  | none => ((((s0.set F.UPD_PKG_ID.VALUE 0).set F.UPD_PKG_GEN.VALUE 0).set F.UPD_CHUNKS.COUNT 0).set F.UPD_RECVD.COUNT 0).set F.UPD_NEED.COUNT 0
  | some h =>
    let s1 := ((s0.set F.UPD_PKG_ID.VALUE (pkgId h)).set F.UPD_PKG_GEN.VALUE (pkgGen h)).set F.UPD_CHUNKS.COUNT (pkgTotal h)
    let s2 := (s1.setBit F.UPD_STAT.TYPE (pkgType h == 2)).showRecvd (pkgTotal h)
    let s3 := s.upd.chunks.foldl (fun s e => s.showChunk e.1) s2
    (List.range 256).foldl (fun s k => s.setWord (tabKey 18 (0x4000 + 4 * k)) (BitVec.ofNat 32 (natAt h (4 * k) 4))) s3

/-- UPD starts (R471, R485): the package continues in the state it had. -/
def State.updStart (s : State) : State :=
  let s1 := s.showPkg
  if s1.upd.probReset then ({ s1 with upd := { s1.upd with probReset := false } }).flag F.UPD_ERR.PROB_RESET else s1

/-- What of UPD survives a full reset (R471, R485). -/
def State.updKept (s : State) : UpdSt :=
  let h := s.get F.UPD_STAT.HSTATE
  let phase := h == 1 || h == 2 || h == 3 || h == 4 || h == 6
  { upd0 with pkg := s.upd.pkg, pst := if phase then 2 else s.upd.pst, chunks := s.upd.chunks, overwrite := s.upd.overwrite,
              slot := s.upd.slot, probReset := phase || s.upd.probReset }

/-- A firmware package ends as REJECTED (R479, R482). -/
def State.updReject (s : State) : State :=
  let s1 := { s with upd := { s.upd with hoReq := false, sealing := none, probEnd := none } }
  ((s1.set F.UPD_STAT.HSTATE 0).setPst 5).flag F.UPD_ERR.PROB_FAIL

/-- A main-task boundary passed in SHADOW (R479). -/
def State.shadowBoundary (s : State) : State := if s.get F.UPD_STAT.HSTATE = 2 then s.inc F.UPD_SHD_CNT.COUNT else s

end Sys2Proof.Machine
end

