-- ==== Sys2Proof/Machine/Reset.lean ====
section
/-! DEFINITION. The full reset (R382 to R385): what it keeps, what it clears. -/
namespace Sys2Proof.Machine

/-- Words a full reset keeps: the RTC block, and what the register tables mark Kept (R383, Tables 15.7, 17.6, 18.11, 19.5, 21.3). -/
def keptWord (k : Nat) : Bool :=
  (keyBlock k == 0x0F && k < 0x10000000000) ||
  [R.SYS_RST_CNT, R.SAF_LOG_SEQ, R.KEY_STAT, R.KEY_CTR, R.KEY_TLOG_SEQ, R.UPD_FW_FLOOR, R.SYS_MGT_CFG, R.SYS_MGT_IP4,
    R.SYS_MGT_IP6_0, R.SYS_MGT_IP6_0 + 4, R.SYS_MGT_IP6_0 + 8, R.SYS_MGT_IP6_0 + 12].contains k ||
  (keyBlock k == 16 && 0x10000000000 ≤ k) ||
  (tabKey 17 0x50000 ≤ k && k < tabKey 17 0x60800)

/-- The full reset with the sources that caused it (bits of SYS_RST_CAUSE); AON comes up again at POWER_ON. -/
def State.fullReset (s : State) (cause : Nat) : State :=
  let z := State.resetOf s.variant
  let pfw := s.get F.PWR_STAT.PFW
  let s1 : State := { z with
    pending := s.pending
    words := s.words.filter (fun e => keptWord e.1)
    freeCount := s.freeCount
    emitted := s.emitted
    mtr := { z.mtr with copyA := s.mtr.copyA, copyB := s.mtr.copyB, bank0 := s.mtr.bank0, bank1 := s.mtr.bank1, cur := s.mtr.cur }
    rtc := s.rtc
    hqc := { z.hqc with copyA := s.hqc.copyA, copyB := s.hqc.copyB }
    recd := { z.recd with segs := s.recd.segs }
    fab := { z.fab with claimed := s.fab.claimed }
    cfg := { z.cfg with selA := s.cfg.selA, selB := s.cfg.selB, newB := s.cfg.newB }
    upd := s.updKept
    key := { s.key with stamp := 0, stamps := [], unwraps := [], fusing := false, debugEnd := none } }
  let s2 := (((s1.set F.KEY_STAT.BUSY 0).set F.KEY_STAT.DEBUG 0).set F.KEY_STAT.ENT_OK 0 |>.set ⟨R.SYS_RST_CAUSE, 0, 4⟩ (cause % 16)).set F.SYS_RST_CAUSE.PFW pfw
  let s3 := (s2.set F.SYS_RST_CAUSE.HU_END (cause / 32 % 2)).inc F.SYS_RST_CNT.COUNT
  let s4 := (List.range 16).foldl (fun s k => s.emit (.pin (16 + k) false)) s3
  let s5 := if pfw = 1 then s4.emit (.pin 2 false) else s4
  { s5 with hwSet := [(R.SYS_RST_CAUSE, 31)] }

/-- A source of reset acts: a full reset, or one more cause where the reset took place in this very clock (R385). -/
def State.resetBy (s : State) (cause : Nat) : State :=
  if s.powered then s.fullReset cause
  else if s.justSet R.SYS_RST_CAUSE 31 then
    s.setWord R.SYS_RST_CAUSE (s.word R.SYS_RST_CAUSE ||| BitVec.ofNat 32 (cause % 16 + cause / 32 % 2 * 32))
  else s

/-- The Gauntlet watchdog's reset (R419). -/
def State.watchdogReset (s : State) : State := s.resetBy 4

end Sys2Proof.Machine
end

