-- ==== Sys2Proof/Machine/Csb.lean ====
section
/-! DEFINITION. The critical supply bus (chapter 11): detection, source states, the transfer machine of Table 11.2, load groups,
fast-output supervision. -/
namespace Sys2Proof.Machine

/-! ### Sources -/

/-- Monitored phases of a source as a bit set. -/
def State.csbPhases (s : State) (src : Nat) : Nat := if src = 0 then s.get F.CSB_CFG.PH0 else s.get F.CSB_CFG.PH1
/-- SRC0 or SRC1. -/
def srcFld (src : Nat) : Fld := if src = 0 then F.CSB_STAT.SRC0 else F.CSB_STAT.SRC1
/-- Source src is configured (R282, R287). -/
def State.csbHas (s : State) (src : Nat) : Bool :=
  if src = 0 then s.get F.CSB_CFG.PH0 != 0
  else if s.bit F.CSB_CFG.ALT_MODE then true else s.get F.CSB_CFG.PH1 != 0 && s.islPresent 1
/-- A source's detector state. -/
def State.csbSrc (s : State) (src : Nat) : CsbSrc := if src = 0 then s.csb.src0 else s.csb.src1
def State.setCsbSrc (s : State) (src : Nat) (x : CsbSrc) : State :=
  if src = 0 then { s with csb := { s.csb with src0 := x } } else { s with csb := { s.csb with src1 := x } }
/-- The state of a source, Table 11.6. -/
def State.srcState (s : State) (src : Nat) : Nat := s.get (srcFld src)
/-- Source src is HEALTHY. -/
def State.healthy (s : State) (src : Nat) : Bool := s.srcState src == 3
/-- Source src is LOST. -/
def State.lost (s : State) (src : Nat) : Bool := s.srcState src == 1

/-! ### Switches -/

/-- FI input k reads active (Table 11.6). -/
def State.fi (s : State) (k : Nat) : Bool := s.get F.CSB_FO_STAT.FI / 2 ^ k % 2 == 1

/-- Output n's feedback position: load on. -/
def State.foPos (s : State) (n : Nat) : Bool := s.fi (s.get (F.CSB_FOn_CFG.FB_IDX n)) == s.bit (F.CSB_FOn_CFG.FB_POL n)

/-- A switch's command is confirmed (R289): by its feedback, or BRK_T after the command. -/
def State.swConfirmed (s : State) (alt : Bool) : Bool :=
  match s.foRole (if alt then 2 else 1) with
  | some n => if s.bit (F.CSB_FOn_CFG.FB_EN n) then s.foPos n == s.foCmd n else (if alt then s.csb.brk2 else s.csb.brk1)
  | none => if alt then s.csb.brk2 else s.csb.brk1

/-- A switch is commanded on. -/
def State.swCmd (s : State) (alt : Bool) : Bool :=
  match s.foRole (if alt then 2 else 1) with
  | some n => s.foCmd n
  | none => false

/-- A switch is closed: its confirmed position. -/
def State.swClosed (s : State) (alt : Bool) : Bool := s.swCmd alt && s.swConfirmed alt

/-- Command a switch (R289): BRK_T and, for an open command, DEAD_T start. -/
def State.swSet (s : State) (alt on : Bool) : State :=
  let s1 := match s.foRole (if alt then 2 else 1) with
    | some n => s.setFo n on
    | none => s
  if alt then { s1 with csb := { s1.csb with brk2 := false, dead2 := if on then s1.csb.dead2 else false } }
  else { s1 with csb := { s1.csb with brk1 := false, dead1 := if on then s1.csb.dead1 else false } }

/-- The other switch allows this one on: its open command confirmed and DEAD_T past it (R289). -/
def State.mayClose (s : State) (alt : Bool) : Bool :=
  let other := !alt
  !s.swCmd other && s.swConfirmed other && (if other then s.csb.dead2 else s.csb.dead1)

/-! ### Load groups -/

/-- GRP_ON and GRP_SHED bits of a group. -/
def onFld (g : Nat) : Fld := ⟨R.CSB_GRP_ONn (g / 32), g % 32, 1⟩
def shedFld (g : Nat) : Fld := ⟨R.CSB_GRP_SHEDn (g / 32), g % 32, 1⟩
/-- Groups in use. -/
def State.groups (s : State) : List Nat := s.entries 12 0 16 64 0

/-- Drive an output of a group's entry by its kind: fast output, station byte, none (R292). -/
def State.driveGroupOut (s : State) (kind addr : Nat) (on : Bool) : State :=
  match kind with
  | 1 => s.setFo (addr % 8) on
  | 2 => s.outField (addr / 4096) (addr % 4096) 0 (.int (if on then 1 else 0))
  | _ => s

/-- Switch a group. -/
def State.groupSet (s : State) (g : Nat) (on : Bool) : State :=
  let k := s.get (T.CSB_GRP.OUT_KIND g)
  (s.driveGroupOut (if k = 0 then 1 else if k = 1 then 2 else 0) (s.get (T.CSB_GRP.OUT_ADDR g)) on).setBit (onFld g) on

/-- Shed a group; its recall output goes off (R293, R294). -/
def State.shedGroup (s : State) (g : Nat) : State :=
  let s1 := (s.groupSet g false).set (shedFld g) 1
  let s2 := if s.csb.recalling.contains g then
    s1.driveGroupOut (s.get (T.CSB_GRP.RCL_KIND g)) (s.get (T.CSB_GRP.RCL_ADDR g)) false else s1
  { s2 with csb := { s2.csb with recalling := s2.csb.recalling.filter (· != g), shedSince := true } }

/-- A group's acknowledgement is active (R294). -/
def State.ackActive (s : State) (g : Nat) : Bool :=
  let a := s.get (T.CSB_GRP.ACK_ADDR g)
  match s.get (T.CSB_GRP.ACK_KIND g) with
  | 1 => s.fi (a % 8)
  | 2 => s.di (a % 32)
  | 3 => s.stnUp (a / 4096) && s.inPattern (a / 4096) (s.newest (a / 4096)) (a % 4096) 2 != 0
  | _ => false

/-- Recall a group: its recall output on; shed at once where the acknowledgement is active already. -/
def State.recallGroup (s : State) (g : Nat) : State :=
  let s1 := s.driveGroupOut (s.get (T.CSB_GRP.RCL_KIND g)) (s.get (T.CSB_GRP.RCL_ADDR g)) true
  let s2 := { s1 with csb := { s1.csb with recalling := s1.csb.recalling ++ [g] } }
  if s2.ackActive g then s2.shedGroup g else s2

/-- A recalling group whose acknowledgement has become active is shed. -/
def State.checkAcks (s : State) : State :=
  s.csb.recalling.foldl (fun s g => if s.ackActive g then s.shedGroup g else s) s

/-- The sheds of R293. -/
def State.shedAll (s : State) : State :=
  if s.bit F.CSB_STAT.ROMDET then s
  else s.groups.foldl (fun s g => if s.get (T.CSB_GRP.ON_ALT g) = 1 then s.shedGroup g else s) s

/-- The recalls of R294. -/
def State.recallAll (s : State) : State :=
  if s.bit F.CSB_STAT.ROMDET then s
  else s.groups.foldl (fun s g =>
    if s.get (T.CSB_GRP.ON_ALT g) = 2 ∧ !s.bit (shedFld g) ∧ !s.csb.recalling.contains g then s.recallGroup g else s) s

/-- Groups in ascending class and number. -/
def State.byClass (s : State) (gs : List Nat) : List Nat := (List.range 4).flatMap (fun c => gs.filter (fun g => s.get (T.CSB_GRP.CLASS g) == c))

/-- What an entry into NORMAL does to the groups (R294, R296). -/
def State.enterNormal (s : State) : State :=
  let s1 := s.csb.recalling.foldl (fun s g => s.driveGroupOut (s.get (T.CSB_GRP.RCL_KIND g)) (s.get (T.CSB_GRP.RCL_ADDR g)) false) s
  let s2 := { s1 with csb := { s1.csb with recalling := [], retDone := false, returnCmd := false } }
  if s2.csb.shedSince ∧ !s2.bit F.CSB_STAT.ROMDET then
    let w := s2.byClass (s2.groups.filter (fun g => s2.bit (shedFld g) && !s2.csb.held.contains g))
    ({ s2 with csb := { s2.csb with waiting := w, shedSince := false } }).setBit F.CSB_STAT.RESTORING (!w.isEmpty)
  else s2

/-! ### The transfer machine (Table 11.2) -/

/-- ROLE 4 outputs are on in every state other than NORMAL and OFF (R290). -/
def State.altStart (s : State) : State :=
  let st := s.get F.CSB_STAT.STATE
  let on := st != 0 && st != 1
  let s1 := (List.range 8).foldl (fun s n =>
    if s.get (F.CSB_FOn_CFG.ROLE n) = 4 ∧ s.foCmd n ≠ on then s.setFo n on else s) s
  s1.setBit F.CSB_STAT.ALT_START (on && (List.range 8).any (fun n => s.get (F.CSB_FOn_CFG.ROLE n) == 4))

/-- The states in which a watchdog reset is deferred (R419). -/
def csbBusyState (st : Nat) : Bool := st == 2 || st == 4 || st == 6 || st == 7 || st == 8 || st == 9

/-- Take a state: entries into NORMAL or ALTERNATE from another one count; ROLE 4 outputs follow. -/
def State.csbTo (s : State) (st : Nat) : State :=
  let was := s.get F.CSB_STAT.STATE
  let s1 := s.set F.CSB_STAT.STATE st
  let s2 := if (st = 1 ∨ st = 5) ∧ was ≠ st ∧ was ≠ 0 then s1.inc F.CSB_TRF_CNT.COUNT else s1
  let s3 := { s2 with csb := { s2.csb with syncTmo := false, syncRun := 0, after7 := st == 8 && was == 7 } }
  let s4 := s3.altStart
  if st = 1 then s4.enterNormal else if st = 5 ∧ was ≠ 5 then s4.recallAll else s4

/-- BLOCKED: the commands stand, a fault is raised (R289, R290). -/
def State.csbBlock (s : State) : State := ((s.csbTo 10).flag F.CSB_ERR.BLOCKED).raise 13 0

/-- The first row of Table 11.2 that applies, once; a row that would command a switch on waits for DEAD_T (log entry 33). -/
def State.csbRow (s : State) : State :=
  let n0 := s.healthy 0
  let n1 := s.healthy 1
  let off := fun (s : State) (alt : Bool) => s.swSet alt false
  let on := fun (s : State) (alt : Bool) => s.swSet alt true
  match s.get F.CSB_STAT.STATE with
  | 1 =>
    if s.lost 0 then
      let s1 := { off s false with csb := { (off s false).csb with waiting := [] } }
      ((s1.set F.CSB_STAT.RESTORING 0).shedAll).csbTo 2
    else s
  | 2 =>
    if s.swConfirmed false then
      if s.swClosed true then s.csbTo 5
      else if n1 then (if s.mayClose true then (on s true).csbTo 4 else s)
      else s.csbTo 3
    else s
  | 3 =>
    if n0 then (if s.mayClose false then (on s false).csbTo 9 else s)
    else if n1 then (if s.mayClose true then (on s true).csbTo 4 else s)
    else s
  | 4 =>
    if s.lost 1 then (off s true).csbTo 8
    else if s.swConfirmed true then s.csbTo 5
    else s
  | 5 =>
    if s.lost 1 ∧ n0 then (off s true).csbTo 8
    else if !s.bit F.CSB_STAT.ROMDET ∧ n0 ∧ ((s.csb.retDone ∧ !s.bit F.CSB_CTRL.RET_INH) ∨ s.csb.returnCmd) then
      let s1 := { s with csb := { s.csb with returnCmd := false } }
      if s.bit F.CSB_CFG.SYNC_EN then s1.csbTo 6 else (off s1 true).csbTo 8
    else if s.lost 1 ∧ !n0 then s.set F.CSB_ERR.ALT_LOST 1
    else s
  | 6 =>
    if !n0 then s.csbTo 5
    else if 2 ≤ s.csb.syncRun then (on s false).csbTo 7
    else if s.csb.syncTmo then
      if s.bit F.CSB_CFG.RET_OPEN then (off s true).csbTo 8
      else
        let s1 := (s.csbTo 5).flag F.CSB_ERR.SYNC_TMO
        { s1 with csb := { s1.csb with retDone := false } }
    else s
  | 7 =>
    if s.lost 0 then (off s false).csbTo 2
    else if s.swConfirmed false then (off s true).csbTo 8
    else s
  | 8 =>
    if s.swConfirmed true then
      if s.swClosed false then s.csbTo 1
      else if n0 then (if s.mayClose false then (on s false).csbTo 9 else s)
      else s.csbTo 3
    else s
  | 9 =>
    if s.lost 0 then (off s false).csbTo 2
    else if s.swConfirmed false then s.csbTo 1
    else s
  | _ => s

/-- The machine in its clocks until no row applies; a deferred watchdog reset takes place when the state leaves its set (R419). -/
def State.csbEval (s : State) : State :=
  let s1 := (List.range 6).foldl (fun s _ => s.csbRow) s
  if s1.saf.wdDeferred && !csbBusyState (s1.get F.CSB_STAT.STATE) then s1.watchdogReset else s1

/-! ### Detection -/

/-- The criteria of a source take a value; its state follows (R287): LOST at once with any criterion, QUALIFYING when none is left. -/
def State.setCrit (s : State) (src crit : Nat) : State :=
  let s0 := s.setCsbSrc src { s.csbSrc src with crit := crit }
  if !s.csbHas src || s.srcState src = 0 then s0
  else if crit ≠ 0 ∧ s.srcState src ≠ 1 then
    let s1 := (s0.set (srcFld src) 1).flag (if src = 0 then F.CSB_ERR.LOSS0 else F.CSB_ERR.LOSS1)
    let s2 := { s1 with csb := { s1.csb with retDone := if src = 0 then false else s1.csb.retDone } }
    if src = 0 then
      (((s2.set F.CSB_LOSS.CAUSE crit).set F.CSB_LOSS_SEC.SEC s.sec32).set F.CSB_LOSS_NS.NS s.nsNow).csbEval
    else s2.csbEval
  else if crit = 0 ∧ s.srcState src = 1 then (s0.set (srcFld src) 2).csbEval
  else s0

/-- One criterion bit of a source. -/
def State.critBit (s : State) (src b : Nat) (on : Bool) : State :=
  let c := (s.csbSrc src).crit
  let cleared := c - (if c / 2 ^ b % 2 = 1 then 2 ^ b else 0)
  s.setCrit src (if on then cleared + 2 ^ b else cleared)

/-- Window length (R284). -/
def State.csbW (s : State) (isl : Nat) : Nat := if s.bit (F.ISLn_CFG.FNOM isl) then 267 else 320

/-- (phase sums over the window, their length) of a source's monitored phases. -/
def State.winSums (s : State) (src ph w : Nat) : List Nat :=
  let h := (s.csbSrc src).hist.take w
  let a := (h.map (fun e => e.1)).sum
  let b := (h.map (fun e => e.2.1)).sum
  let c := (h.map (fun e => e.2.2)).sum
  (if ph % 2 = 1 then [a] else []) ++ (if ph / 2 % 2 = 1 then [b] else []) ++ (if ph / 4 % 2 = 1 then [c] else [])

/-- The mean squares, as (sum, count): one collective, or one per phase (RMS_MODE). -/
def meanSquares (collective : Bool) (sums : List Nat) (w : Nat) : List (Nat × Nat) :=
  if collective then [(sums.sum, w * sums.length)] else sums.map (fun x => (x, w))

/-- Mean square below (th ‰ of VNOM)²: samples are in 2⁻¹⁶ V, VNOM in 0.1 V. -/
def msBelow (vnom th : Nat) (m : Nat × Nat) : Bool := m.1 * 10 ^ 8 < m.2 * (th * vnom * 65536) ^ 2
/-- Mean square above it. -/
def msAbove (vnom th : Nat) (m : Nat × Nat) : Bool := m.2 * (th * vnom * 65536) ^ 2 < m.1 * 10 ^ 8

/-- UV and OV from mean squares (R284): either clears only when every one lies within the thresholds moved inward. -/
def uvov (vnom uv ov hyst : Nat) (ms : List (Nat × Nat)) (was : Nat) : Nat :=
  let u := ms.any (msBelow vnom uv)
  let o := ms.any (msAbove vnom ov)
  let inside := ms.all (fun m => !msBelow vnom (uv + hyst) m && !msAbove vnom (ov - hyst) m)
  (if u || (was % 2 == 1 && !inside) then 1 else 0) + (if o || (was / 2 % 2 == 1 && !inside) then 2 else 0)

/-- A calibrated sample of an island's three phases (R283, R284). -/
def State.csbSample (s : State) (isl : Nat) (v : List Int) : State :=
  if isl = 1 ∧ s.bit F.CSB_CFG.ALT_MODE then s
  else
    let sq := fun k => ((v.getD k 0).natAbs) ^ 2
    let x := s.csbSrc isl
    let w := s.csbW isl
    let s1 := s.setCsbSrc isl { x with hist := ((sq 0, sq 1, sq 2) :: x.hist).take w }
    if !s1.bit F.CSB_STAT.RUN || (s1.csbSrc isl).hist.length < w || s1.csbPhases isl = 0 then s1
    else
      let ms := meanSquares (!s.bit F.CSB_CFG.RMS_MODE) (s1.winSums isl (s1.csbPhases isl) w) w
      let c := uvov (s.get (F.ISLn_CFG.VNOM isl)) (s.get F.CSB_RMS.UV) (s.get F.CSB_RMS.OV) (s.get F.CSB_RMS.HYST) ms x.crit
      s1.setCrit isl (x.crit / 4 * 4 + c)

/-- CAP_DETECTOR_EVAL (R301): the ROM detector, every 2 ms. -/
def capDetectorEval (s : State) : State :=
  if !s.bit F.CSB_STAT.ROMDET then s
  else [0, 1].foldl (fun s isl =>
    if !s.islPresent isl || (isl == 1 && s.bit F.CSB_CFG.ALT_MODE) then s
    else
      let w := s.csbW isl
      if (s.csbSrc isl).hist.length < w then s
      else
        let ms := meanSquares true (s.winSums isl 7 w) w
        let v := s.get (F.ISLn_CFG.VNOM isl)
        let was := (s.csbSrc isl).crit
        let u := ms.any (msBelow v 500) || (was % 2 == 1 && ms.any (msBelow v 550))
        s.setCrit isl (was / 4 * 4 + (if u then 1 else 0))) s

def execCapDetectorEval (dt : Nat) (s : State) : Host.Outcome State Fault Refusal := .next (capDetectorEval (s.elapse dt)).settle

/-- The link of an island goes down or comes up (R286). -/
def State.csbLink (s : State) (isl : Nat) (down : Bool) : State :=
  if isl = 1 ∧ s.bit F.CSB_CFG.ALT_MODE then s
  else
    let s1 := s.setCsbSrc isl { s.csbSrc isl with fRun := 0, dfRun := 0 }
    if s.bit F.CSB_CFG.LINK_ACT && !s.bit F.CSB_STAT.ROMDET then s1 else s1.critBit isl 5 down

/-! ### Cycle criteria and the sync check (R285, R291) -/

/-- |√a − √b| ≤ d for mean squares a, b as fractions over the same denominator and d with its square's scale: decided without roots. -/
def rootsWithin (a b d : Nat) : Bool :=
  -- √hi ≤ √lo + d  ⟺  hi ≤ lo + d² or (hi − lo − d²)² ≤ 4 d² lo
  let hi := max a b
  let lo := min a b
  hi ≤ lo + d * d || decide ((hi - lo - d * d) ^ 2 ≤ 4 * d * d * lo)

/-- Difference of the two crossing instants as an angle of source 0 minus source 1 in 0.001°, −180° to +180°. -/
def phaseDiff (cross0 cross1 freq : Int) : Int :=
  let raw := (cross1 - cross0) * freq * 360 / 10 ^ 9
  let m := raw % 360000
  if 180000 < m then m - 360000 else m

/-- The sync check at a cycle of both islands (R291). -/
def State.syncCheck (s : State) : State :=
  let a := s.csb.src0
  let b := s.csb.src1
  if !a.fresh || !b.fresh then s
  else
    let s0 := { s with csb := { s.csb with src0 := { a with fresh := false }, src1 := { b with fresh := false } } }
    let df := a.freq - b.freq
    let dphi := phaseDiff a.crossNs b.crossNs b.freq
    let w := min (s.csbW 0) (s.csbW 1)
    let ma := (s.winSums 0 (s.csbPhases 0) w)
    let mb := (s.winSums 1 (s.csbPhases 1) w)
    let na := max 1 (w * ma.length)
    let nb := max 1 (w * mb.length)
    -- mean squares over a common denominator of 10⁸, SYNC_DV in 0.1 % of VNOM
    let dv := rootsWithin (ma.sum * 10 ^ 8 / na) (mb.sum * 10 ^ 8 / nb) (s.get F.CSB_SYNC.SYNC_DV * s.get (F.ISLn_CFG.VNOM 0) * 65536)
    let pred := dphi + 360 * df * (s.get F.CSB_TIME1.BRK_T : Int) / 1000
    let ok := dv && decide ((df.natAbs : Int) ≤ s.get F.CSB_SYNC.SYNC_DF * 10) &&
      decide ((pred.natAbs : Int) ≤ s.get F.CSB_SYNC.SYNC_DPH * 1000)
    let s1 := ((s0.setBit F.CSB_STAT.SYNC_OK ok).seti F.CSB_SYNC_STAT.DPH (dphi / 100)).seti F.CSB_SYNC_STAT.DF df
    let run := if ok ∧ s.get F.CSB_STAT.STATE = 6 then s.csb.syncRun + 1 else 0
    ({ s1 with csb := { s1.csb with syncRun := run } }).csbEval

/-- A cycle quantity of an island (R285): frequency and its rate in mHz and mHz/s, the angle steps of its phases in 0.1°, the instant of
the reference's crossing. -/
def State.csbCycle (s : State) (isl : Nat) (freq rocof : Int) (steps : List Int) (cross : Int) : State :=
  if isl = 1 ∧ s.bit F.CSB_CFG.ALT_MODE then s
  else
    let x := s.csbSrc isl
    let x1 := { x with freq := freq, crossNs := cross, fresh := true }
    let s1 := s.setCsbSrc isl x1
    if !s.bit F.CSB_STAT.RUN then s1
    else if s.get (F.ISLn_STAT.REFPH isl) = 3 ∨ !s.bit (F.ISLn_STAT.LINK isl) then
      let s2 := s1.setCsbSrc isl { x1 with fRun := 0, dfRun := 0 }
      if !s.bit (F.ISLn_STAT.LINK isl) && s.bit F.CSB_CFG.LINK_ACT then s2
      else s2.setCrit isl (x.crit / 32 * 32 + x.crit % 4)
    else
      let ph := s.csbPhases isl
      let vs := s.get F.CSB_VSR.VS
      let vsOn := vs != 0 && (List.range 3).any (fun k => ph / 2 ^ k % 2 == 1 && decide (vs < (steps.getD k 0).natAbs))
      let fnom : Int := if s.bit (F.ISLn_CFG.FNOM isl) then 60000 else 50000
      let fOut := freq < fnom - 10 * s.get F.CSB_FREQ.F_LO ∨ fnom + 10 * s.get F.CSB_FREQ.F_HI < freq
      let fRun := if fOut then min 15 (x.fRun + 1) else 0
      let r := s.get F.CSB_VSR.ROCOF
      let dOut := r ≠ 0 ∧ 10 * r < rocof.natAbs
      let dRun := if dOut then min 15 (x.dfRun + 1) else 0
      let c := (if vsOn then 4 else 0) + (if s.get F.CSB_FREQ.F_N ≤ fRun then 8 else 0) +
        (if r ≠ 0 ∧ s.get F.CSB_FREQ.DF_N ≤ dRun then 16 else 0)
      ((s1.setCsbSrc isl { x1 with fRun := fRun, dfRun := dRun }).setCrit isl (x.crit / 32 * 32 + x.crit % 4 + c)).syncCheck

/-! ### Events -/

/-- SOURCE_QUALIFIED (R287): Q_T without an active criterion; both flags for sources that reach it in the same clock. -/
def sourceQualified (a b : Bool) (s : State) : State :=
  let s1 := if a ∧ s.srcState 0 = 2 then s.set F.CSB_STAT.SRC0 3 else s
  let s2 := if b ∧ s.srcState 1 = 2 then s1.set F.CSB_STAT.SRC1 3 else s1
  s2.csbEval

def execSourceQualified (dt : Nat) (src0 src1 : Bool) (s : State) : Host.Outcome State Fault Refusal :=
  .next (sourceQualified src0 src1 (s.elapse dt)).settle

/-- ALT_OK follows ALT_FI (R286). -/
def State.altOk (s : State) : State :=
  if s.bit F.CSB_CFG.ALT_MODE && s.get F.CSB_STAT.STATE != 0 then
    s.critBit 1 6 (s.fi (s.get F.CSB_CFG.ALT_FI) != s.bit F.CSB_CFG.ALT_FI_POL)
  else s

/-- FI_INPUT_CHANGE (R289, R294, R286). -/
def fiInputChange (k : Nat) (level : Bool) (s : State) : State :=
  (((s.setBit ⟨R.CSB_FO_STAT, 8 + k % 8, 1⟩ level).altOk).checkAcks).csbEval

def execFiInputChange (dt fi : Nat) (level : Bool) (s : State) : Host.Outcome State Fault Refusal :=
  .next (fiInputChange fi level (s.elapse dt)).settle

/-- SWITCH_CONFIRM_TIME (R289): BRK_T has passed since the switch's command. -/
def switchConfirmTime (alt : Bool) (s : State) : State :=
  ({ s with csb := if alt then { s.csb with brk2 := true } else { s.csb with brk1 := true } }).csbEval

def execSwitchConfirmTime (dt : Nat) (alt : Bool) (s : State) : Host.Outcome State Fault Refusal :=
  .next (switchConfirmTime alt (s.elapse dt)).settle

/-- DEAD_TIME_EXPIRY (R289): DEAD_T has passed since the switch's open command. -/
def deadTimeExpiry (alt : Bool) (s : State) : State :=
  ({ s with csb := if alt then { s.csb with dead2 := true } else { s.csb with dead1 := true } }).csbEval

def execDeadTimeExpiry (dt : Nat) (alt : Bool) (s : State) : Host.Outcome State Fault Refusal :=
  .next (deadTimeExpiry alt (s.elapse dt)).settle

/-- The state waits for this switch's confirmation. -/
def State.awaits (s : State) (alt : Bool) : Bool :=
  match s.get F.CSB_STAT.STATE with
  | 2 => !alt
  | 4 => alt
  | 7 => !alt
  | 8 => alt
  | 9 => !alt
  | _ => false

/-- SWITCH_CONFIRM_TIMEOUT (R289): FB_T has passed and the command is not confirmed. -/
def switchConfirmTimeout (alt : Bool) (s : State) : State :=
  if s.awaits alt && !s.swConfirmed alt then s.csbBlock.csbEval else s

def execSwitchConfirmTimeout (dt : Nat) (alt : Bool) (s : State) : Host.Outcome State Fault Refusal :=
  .next (switchConfirmTimeout alt (s.elapse dt)).settle

/-- OVERLAP_TIMEOUT (R290): in OPENING_A after OVERLAP the alternate open is not confirmed within OVL_MAX. -/
def overlapTimeout (s : State) : State :=
  if s.get F.CSB_STAT.STATE = 8 ∧ s.csb.after7 ∧ !s.swConfirmed true then s.csbBlock.csbEval else s

def execOverlapTimeout (dt : Nat) (s : State) : Host.Outcome State Fault Refusal := .next (overlapTimeout (s.elapse dt)).settle

/-- RECALL_TIMEOUT (R294). -/
def recallTimeout (g : Nat) (s : State) : State :=
  if s.csb.recalling.contains g then (s.shedGroup g).flag F.CSB_ERR.RECALL_TMO else s

def execRecallTimeout (dt grp : Nat) (s : State) : Host.Outcome State Fault Refusal := .next (recallTimeout grp (s.elapse dt)).settle

/-- RETURN_TIMER_EXPIRY (R290): source 0 has been HEALTHY for RET_T without a break. -/
def returnTimerExpiry (s : State) : State :=
  if s.healthy 0 then ({ s with csb := { s.csb with retDone := true } }).csbEval else s

def execReturnTimerExpiry (dt : Nat) (s : State) : Host.Outcome State Fault Refusal := .next (returnTimerExpiry (s.elapse dt)).settle

/-- SYNC_WAIT_EXPIRY (R290). -/
def syncWaitExpiry (s : State) : State :=
  if s.get F.CSB_STAT.STATE = 6 then ({ s with csb := { s.csb with syncTmo := true } }).csbEval else s

def execSyncWaitExpiry (dt : Nat) (s : State) : Host.Outcome State Fault Refusal := .next (syncWaitExpiry (s.elapse dt)).settle

/-- Switch a group back on. -/
def State.restoreGroup (s : State) (g : Nat) : State := (s.groupSet g true).set (shedFld g) 0

/-- RESTORE_GAP_EXPIRY (R296). -/
def restoreGapExpiry (s : State) : State :=
  match s.csb.waiting with
  | [] => s
  | g :: rest =>
    let s1 := s.restoreGroup g
    ({ s1 with csb := { s1.csb with waiting := rest } }).setBit F.CSB_STAT.RESTORING (!rest.isEmpty)

def execRestoreGapExpiry (dt : Nat) (s : State) : Host.Outcome State Fault Refusal := .next (restoreGapExpiry (s.elapse dt)).settle

/-- The overload pick of R295 at a window of island 1. -/
def State.overloadPick (s : State) : State :=
  let lim := s.get F.CSB_ALTP.ALT_PLIM
  if s.get F.CSB_STAT.STATE ≠ 5 ∨ lim = 0 ∨ !s.bit F.CSB_STAT.RUN then { s with csb := { s.csb with ovl := 0 } }
  else if s.geti (F.PTn_P.P (4 + s.get F.CSB_ALTP.ALT_PT)) ≤ lim * 10000 then { s with csb := { s.csb with ovl := 0 } }
  else if s.csb.ovl + 1 < s.get F.CSB_ALTP.OVL_N then { s with csb := { s.csb with ovl := s.csb.ovl + 1 } }
  else
    let s1 := { s with csb := { s.csb with ovl := 0 } }
    let free := s1.groups.filter (fun g => !s1.bit (shedFld g) && !s1.csb.recalling.contains g)
    let pick := [3, 2, 1].foldl (fun (acc : Option Nat) c => match acc with
      | some g => some g
      | none => (free.filter (fun g => s1.get (T.CSB_GRP.CLASS g) == c)).getLast?) none
    match pick with
    | none => s1
    | some g =>
      let s2 := s1.flag F.CSB_ERR.OVL
      if s2.get (T.CSB_GRP.CLASS g) = 2 ∧ s2.get (T.CSB_GRP.RCL_KIND g) ≠ 0 then s2.recallGroup g else s2.shedGroup g

/-! ### Commands of CSB_CMD (R297) -/

def csbReject (s : State) : State := s.flag F.CSB_ERR.CMD_REJ

/-- RETURN. -/
def csbReturn (s : State) : State :=
  if s.get F.CSB_STAT.STATE = 5 ∧ s.healthy 0 ∧ !s.bit F.CSB_STAT.ROMDET then
    ({ s with csb := { s.csb with returnCmd := true } }).csbEval
  else csbReject s

/-- Output n's feedback disagrees with its command. -/
def State.fbWrong (s : State) (n : Nat) : Bool := s.bit (F.CSB_FOn_CFG.FB_EN n) && s.foPos n != s.foCmd n

/-- CLR_FLT: latched output faults whose condition no longer holds; BLOCKED is left with both positions confirmed. -/
def csbClrFlt (s : State) : State :=
  let flt := s.get F.CSB_FO_STAT.FLT
  let still := (List.range 8).foldl (fun acc n =>
    if flt / 2 ^ n % 2 = 1 ∧ (s.csb.mismatch.any (fun m => m / 2 == n) ∨ s.fbWrong n) then acc + 2 ^ n else acc) 0
  let s1 := s.set F.CSB_FO_STAT.FLT still
  if s.get F.CSB_STAT.STATE = 10 then
    if s1.swConfirmed false ∧ s1.swConfirmed true then
      match s1.swClosed false, s1.swClosed true with
      | true, false => (s1.csbTo 1).csbEval
      | false, true => (s1.csbTo 5).csbEval
      | false, false => (s1.csbTo 3).csbEval
      | true, true => if s1.healthy 0 then ((s1.swSet true false).csbTo 8).csbEval else ((s1.swSet false false).csbTo 2).csbEval
    else csbReject s1
  else if flt = 0 then csbReject s1
  else s1

/-- SHED. -/
def csbShed (g : Nat) (s : State) : State :=
  if s.groups.contains g ∧ s.get (T.CSB_GRP.CLASS g) = 3 ∧ s.bit F.CSB_STAT.RUN then
    let s1 := s.shedGroup g
    ({ s1 with csb := { s1.csb with held := g :: s1.csb.held.filter (· != g), waiting := s1.csb.waiting.filter (· != g) } }).setBit
      F.CSB_STAT.RESTORING (!(s1.csb.waiting.filter (· != g)).isEmpty)
  else csbReject s

/-- RELEASE: on at once in NORMAL when no restoration runs, otherwise at its turn (log entry 34). -/
def csbRelease (g : Nat) (s : State) : State :=
  if s.csb.held.contains g then
    let s1 := { s with csb := { s.csb with held := s.csb.held.filter (· != g) } }
    if s.get F.CSB_STAT.STATE = 1 then
      if s.bit F.CSB_STAT.RESTORING then
        { s1 with csb := { s1.csb with waiting := s1.byClass (g :: s1.csb.waiting) } }
      else s1.restoreGroup g
    else s1
  else csbReject s

/-- CSB_CMD by its value (Table 11.6). -/
def csbCmdWrite (v : Word) (s : State) : State :=
  let g := v.toNat / 256 % 64
  match v.toNat % 8 with
  | 1 => csbReturn s
  | 2 => csbClrFlt s
  | 3 => csbShed g s
  | 4 => csbRelease g s
  | _ => s

/-! ### Fast-output supervision (R299, R300) -/

/-- A supervision fault of output n. -/
def State.foFault (s : State) (n src : Nat) (err : Fld) : State :=
  ((s.flag ⟨R.CSB_FO_STAT, 16 + n % 8, 1⟩).flag err).raise src n

/-- FO_READBACK_CHECK: `sensed` holds the sensed state of channel ch of output n in bit 2n + ch. -/
def foReadbackCheck (sensed : Nat) (s : State) : State :=
  let wrong := (List.range 16).filter (fun k =>
    !s.csb.test.contains (k / 2, k % 2) && (sensed / 2 ^ k % 2 == 1) != s.foChannel (k / 2) (k % 2))
  let outs := ((wrong.filter (fun k => s.csb.mismatch.contains k)).map (· / 2)).dedup
  let s1 := { s with csb := { s.csb with mismatch := wrong } }
  outs.foldl (fun s n => s.foFault n 10 F.CSB_ERR.FO_RB) s1

def execFoReadbackCheck (dt sensed : Nat) (s : State) : Host.Outcome State Fault Refusal :=
  .next (foReadbackCheck sensed (s.elapse dt)).settle

/-- FO_PULSE_TEST: one channel of a tested output; an energised output's channel goes off, a de-energised one's on. -/
def foPulseTest (n ch : Nat) (s : State) : State :=
  if 8 ≤ n ∨ s.bit (F.CSB_FOn_CFG.TST_DIS n) ∨ s.get (F.CSB_FOn_CFG.ROLE n) = 0 ∨ s.csb.test.any (fun t => t.1 == n) then s
  else ({ s with csb := { s.csb with test := (n, ch % 2) :: s.csb.test } }).driveFo n

def execFoPulseTest (dt fo ch : Nat) (s : State) : Host.Outcome State Fault Refusal := .next (foPulseTest fo ch (s.elapse dt)).settle

/-- FO_PULSE_END. -/
def foPulseEnd (n : Nat) (s : State) : State :=
  if s.csb.test.any (fun t => t.1 == n) then
    ({ s with csb := { s.csb with test := s.csb.test.filter (fun t => t.1 != n) } }).driveFo n
  else s

def execFoPulseEnd (dt fo : Nat) (s : State) : Host.Outcome State Fault Refusal := .next (foPulseEnd fo (s.elapse dt)).settle

def execFoPulseSenseTimeout (dt fo : Nat) (s : State) : Host.Outcome State Fault Refusal :=
  .next ((s.elapse dt).foFault fo 11 F.CSB_ERR.FO_PT).settle

/-- FO_FEEDBACK_TIMEOUT: the feedback has disagreed for longer than FB_T. -/
def foFeedbackTimeout (n : Nat) (s : State) : State := if s.fbWrong n then s.foFault n 12 F.CSB_ERR.FB else s

def execFoFeedbackTimeout (dt fo : Nat) (s : State) : Host.Outcome State Fault Refusal :=
  .next (foFeedbackTimeout fo (s.elapse dt)).settle

/-! ### Service (R287, R298, R301, R302) -/

/-- CSB service starts with the cap section: outputs at HOLD, sources QUALIFYING, the machine by the HOLD states. -/
def State.csbStart (s : State) : State :=
  let s0 := { s with csb := { s.csb with chanOn := true, brk1 := true, brk2 := true, dead1 := true, dead2 := true } }
  let s1 := (List.range 8).foldl (fun s n =>
    if s.get (F.CSB_FOn_CFG.ROLE n) = 0 then s else s.setFo n (s.bit (F.CSB_FOn_CFG.HOLD n))) s0
  let s2 := s1.groups.foldl (fun s g =>
    let k := s.get (T.CSB_GRP.OUT_KIND g)
    s.setBit (onFld g) (if k = 0 then s.foCmd (s.get (T.CSB_GRP.OUT_ADDR g) % 8) else true)) s1
  let s3 := (s2.set F.CSB_STAT.SRC0 (if s2.csbHas 0 then 2 else 0)).set F.CSB_STAT.SRC1 (if s2.csbHas 1 then 2 else 0)
  let st := if s3.swCmd false then 1 else if s3.swCmd true then 5 else 3
  (((s3.set F.CSB_STAT.ROMDET 1).csbTo st).altOk).csbEval

/-- Full service (R302). -/
def State.csbFull (s : State) : State :=
  let s1 := (s.set F.CSB_STAT.ROMDET 0).set F.CSB_STAT.RUN 1
  let s2 := if s1.get F.CSB_STAT.STATE = 5 then (s1.shedAll).recallAll else s1
  s2.csbEval

end Sys2Proof.Machine
end

