-- ==== Sys2Proof/Machine/Mtr.lean ====
section
/-! DEFINITION. Electrical metering (chapter 2): the sample path, line cycles, energy, latch sets, windows, the FRAM record and the
residual banks. Where the spec leaves a filter's arithmetic open the choice is log entry 26. -/
namespace Sys2Proof.Machine

/-! ### State access -/

def State.isl (s : State) (i : Nat) : IslSt := look (fun _ => isl0) s.mtr.isl i
def State.setIsl (s : State) (i : Nat) (x : IslSt) : State :=
  { s with mtr := { s.mtr with isl := store (fun _ => isl0) i x s.mtr.isl } }
def State.pt (s : State) (p : Nat) : PtSt := look (fun _ => pt0) s.mtr.pts p
def State.setPt (s : State) (p : Nat) (x : PtSt) : State :=
  { s with mtr := { s.mtr with pts := store (fun _ => pt0) p x s.mtr.pts } }

/-- Enabled points of an island. -/
def State.islPts (s : State) (i : Nat) : List Nat :=
  ((List.range 4).map (fun j => 4 * i + j)).filter (fun p => s.ptPresent p && s.bit (F.PTn_CFG.EN p))

/-- Add to entry `k` of a list. -/
def addAt {α : Type} (f : α → α) : List α → Nat → List α
  | [], _ => []
  | a :: t, 0 => f a :: t
  | a :: t, k + 1 => a :: addAt f t k

/-! ### Sample path (R43 to R47) -/

/-- One channel's processing of a raw sample: sign, high-pass, integrator, delay; the result as a fraction of full scale in 2⁻⁵⁴. -/
def State.chanStep (s : State) (i c : Nat) (x : ChanSt) (raw : Int) : ChanSt × Int :=
  let cfg := F.CHn_CFG.TYPE c
  let inv := s.bit (F.CHn_CFG.INV c)
  let x0 := (if inv then -raw else raw) * 2 ^ 54 / 0x7FFFFF
  -- first-order high-pass of 0.5 Hz corner at 32 000 samples/s (log entry 26)
  let mean := x.mean + (x0 - x.mean) * 98174770 / 10 ^ 12
  let h := x0 - mean
  let coil := s.get cfg = 3
  let l := s.get (F.CHn_CFG.LEAK c)
  let y := if coil then x.y - x.y / 2 ^ l + (h + x.x1) / 2 else h
  let hist := (y :: x.hist).take 20
  let f : Int := if s.bit (F.ISLn_CFG.FNOM i) then 60 else 50
  -- delay in 1/4 096 sample: CHn_PHASE, and for a coil the delay that removes the leak's lead (R45)
  let lead : Int := if coil then 32000 * 32000 * 4096 * 10 ^ 6 / (2 ^ l * 39478418 * f * f) else 0
  let d := s.geti (F.CHn_PHASE.PHASE c) + lead
  let at_ := fun (k : Nat) => hist.getD k (hist.getLastD 0)
  let k : Nat := if d < 0 then 0 else (d / 4096).toNat
  let fr := d - 4096 * k
  let z := at_ k + (at_ (k + 1) - at_ k) * fr / 4096
  (⟨mean, y, h, hist⟩, z)

/-- Step 5: the value in primary volts or amperes, in 2⁻¹⁶ units. -/
def State.chanScale (s : State) (c : Nat) (z : Int) : Int :=
  match f32val (s.getw (F.CHn_FS.FS c)) with
  | .fin neg a b => (if neg then -1 else 1) * z * (s.get (F.CHn_GAIN.GAIN c) : Int) * (a : Int) / ((2 : Int) ^ 60 * (b : Int))
  | _ => 0

/-- The voltage each current of the island is paired with (Table 2.4). -/
def State.voltageOf (s : State) (i j : Nat) : Nat :=
  match s.get (F.ISLn_CFG.WIRE i) with
  | 0 => j
  | 1 => if j = 3 then min 2 (s.get (F.PTn_CFG.VSEL (4 * i + 1))) else j
  | _ => min 2 (s.get (F.PTn_CFG.VSEL (4 * i + j)))

/-- The currents of a point as (phase position, current index); a three-phase point has three. -/
def State.ptCurrents (s : State) (p : Nat) : List Nat :=
  match s.get (F.ISLn_CFG.WIRE (p / 4)), p % 4 with
  | 0, 0 => [0, 1, 2]
  | 1, 0 => [0, 1, 2]
  | 1, 1 => [3]
  | 2, j => [j]
  | _, _ => []

/-! ### Energy (R56 to R59) -/

/-- Show a live register (R60). -/
def State.showLive (s : State) (p e v : Nat) : State :=
  let w := v / 65536
  (s.set (F.PTn_LIVE_LO.E p e) (w % 2 ^ 32)).set (F.PTn_LIVE_HI.E p e) (w / 2 ^ 32 % 2 ^ 32)

/-- The residual bank in use. -/
def MtrSt.bank (m : MtrSt) : MtrBank := if m.cur = 0 then m.bank0 else m.bank1
def MtrSt.setBank (m : MtrSt) (b : MtrBank) : MtrSt := if m.cur = 0 then { m with bank0 := b } else { m with bank1 := b }

/-- A bank's record of point p changed. -/
def bankPoint (b : MtrBank) (p : Nat) (f : List Nat × Nat → List Nat × Nat) : MtrBank :=
  let pts := b.pts ++ List.replicate (p + 1 - b.pts.length) (List.replicate 8 0, 0)
  { b with pts := addAt f pts p, empty := false }

/-- Add to register e of point p, in 2⁻¹⁶ LSB: the live total and the residual bank (R58, R65). -/
def State.addEnergy (s : State) (p e n : Nat) : State :=
  let x := s.pt p
  let tot := addAt (fun t => (t + n) % 2 ^ 80) x.tot e
  let s1 := (s.setPt p { x with tot := tot }).showLive p e (tot.getD e 0)
  { s1 with mtr := s1.mtr.setBank (bankPoint s1.mtr.bank p (fun r => (addAt (· + n) r.1 e, r.2))) }

/-- The register of a reactive energy: its quadrant (R56). -/
def quadrant (p q : Int) : Nat :=
  if 0 ≤ p ∧ 0 < q then 0 else if p < 0 ∧ 0 ≤ q then 1 else if p < 0 ∧ q < 0 then 2 else 3

/-- Add one set of signed energies by their signs; `k` is the index of the sign remembered for reversals (R56, R59). -/
def State.addBySigns (s : State) (p k : Nat) (act rea app : Int) : State :=
  let q := quadrant act rea
  let x := s.pt p
  let neg := decide (act < 0)
  let rev := match x.lastNeg.getD k none with
    | some b => b != neg && act != 0
    | none => false
  let s1 := s.setPt p { x with rev := if rev then min 255 (x.rev + 1) else x.rev,
                               lastNeg := addAt (fun o => if act = 0 then o else some neg) x.lastNeg k }
  let s2 := if 0 < act then s1.addEnergy p 0 act.natAbs else if act < 0 then s1.addEnergy p 1 act.natAbs else s1
  let s3 := s2.addEnergy p (2 + q) rea.natAbs
  (s3.addEnergy p (if 0 ≤ act then 6 else 7) app.natAbs).set (F.PTn_STAT.QUAD p) q

/-- A product sum (2⁻³² VA × samples) as energy in 2⁻¹⁶ mWh: each sample is 31.25 µs. -/
def energyOf (x : Int) : Int := x * 3125 / (2 ^ 16 * 360000000)

/-- Once per line cycle: the energies of a point (R56). -/
def State.accumulate (s : State) (p : Nat) : State :=
  let x := s.isl (p / 4)
  let cr := s.get (F.PTn_CFG.CREEP p) * s.get (F.PTn_INOM.INOM p)
  let live := (s.ptCurrents p).filter (fun j => x.n * 2 ^ 32 * (cr * cr) ≤ x.sumI.getD j 0 * 10 ^ 18)
  let ap := fun (j : Nat) => (Nat.sqrt (x.sumV.getD (s.voltageOf (p / 4) j) 0 * x.sumI.getD j 0) : Int)
  let s1 := s.setBit (F.PTn_STAT.CREEP p) live.isEmpty
  if live.isEmpty then s1
  else if s.bit (F.PTn_CFG.REVMODE p) then
    live.foldl (fun s j => s.addBySigns p (min 2 (if (s.ptCurrents p).length = 3 then j else 0))
      (energyOf (x.sumP.getD j 0)) (energyOf (x.sumQ.getD j 0)) (energyOf (ap j))) s1
  else
    let sum := fun (f : Nat → Int) => live.foldl (fun acc j => acc + f j) 0
    s1.addBySigns p 0 (energyOf (sum (fun j => x.sumP.getD j 0))) (energyOf (sum (fun j => x.sumQ.getD j 0)))
      (energyOf (sum ap))

/-! ### Latches (R61, R62, R41) -/

/-- A latch of point p that advances its sequence by `k`. -/
def State.latch (s : State) (p k : Nat) : State :=
  let x := s.pt p
  let seq := (x.seq + k) % 2 ^ 32
  let s1 := (List.range 8).foldl (fun s e =>
    let w := x.tot.getD e 0 / 65536
    (s.set (F.PTn_LATD_LO.E p e) (w % 2 ^ 32)).set (F.PTn_LATD_HI.E p e) (w / 2 ^ 32 % 2 ^ 32)) s
  let st := 1 + (if 0 < x.rev then 2 else 0) + (if x.first then 4 else 0) + (if x.deg then 8 else 0) + (if x.gap then 16 else 0) +
    (if x.pseudo then 32 else 0) + 256 * x.rev + 65536 * min 65535 x.gapCyc
  let s2 := ((s1.set (F.PTn_LATCH_SEQ.SEQ p) seq).setWord (R.PTn_LATCH_STAT p) (BitVec.ofNat 32 st))
  let s3 := (s2.set (F.PTn_LATCH_SEC.SEC p) s.sec32).set (F.PTn_LATCH_NS.NS p) s.nsNow
  let s4 := s3.setPt p { x with cyc := 0, rev := 0, deg := false, gap := false, gapCyc := 0, pseudo := false, first := false, seq := seq }
  { s4 with mtr := s4.mtr.setBank (bankPoint s4.mtr.bank p (fun r => (r.1, seq))) }

/-- PT_LATCH (R61): a point that accumulates latches. -/
def ptLatch (p : Nat) (s : State) : State :=
  if s.ptPresent p && s.bit (F.PTn_CFG.EN p) && s.bit (F.ISLn_STAT.LINK (p / 4)) then s.latch p 1 else s

def execPtLatch (dt pt : Nat) (s : State) : Host.Outcome State Fault Refusal := .next (ptLatch pt (s.elapse dt)).settle

/-- A completed cycle of a point: energy, interval status, latch counting; `gap` are cycles of down time to be accounted at this
boundary (R41). -/
def State.ptCycle (s : State) (p gap : Nat) (pseudo held : Bool) : State :=
  let s1 := s.accumulate p
  let x := s1.pt p
  let n := max 1 (s.get (F.PTn_LATCH_N.N p))
  let c := x.cyc + 1 + gap
  let s2 := (s1.setPt p { x with cyc := c, deg := x.deg || held, pseudo := x.pseudo || pseudo, gap := x.gap || decide (0 < gap),
                                 gapCyc := x.gapCyc + gap }).setBit (F.PTn_STAT.PSEUDO p) pseudo
  if n ≤ c then
    let s3 := s2.latch p (c / n)
    s3.setPt p { s3.pt p with cyc := c % n }
  else s2

/-! ### Line cycles (R49, R50) -/

/-- A phase is present over the cycle: RMS at least 10 % of VNOM. -/
def State.phasePresent (s : State) (i k : Nat) : Bool :=
  let x := s.isl i
  let v := s.get (F.ISLn_CFG.VNOM i)
  x.n * (100 * v * 65536) ^ 2 ≤ x.sumV.getD k 0 * 10 ^ 8 && x.n != 0

/-- The reference for the next cycle (R49): a higher-priority phase after 10 present cycles, another after 2 absent ones. -/
def State.nextRef (s : State) (i : Nat) (freqOk : Bool) : State :=
  let x := s.isl i
  let pres := (List.range 3).map (fun k => s.phasePresent i k)
  let runs := (List.range 3).map (fun k => if pres.getD k false then x.presentRun.getD k 0 + 1 else 0)
  let ref := s.get (F.ISLn_STAT.REFPH i)
  let refOk := ref < 3 && pres.getD ref false && freqOk
  let absent := if refOk then 0 else x.absent + 1
  let first := (List.range 3).find? (fun k => pres.getD k false)
  let r := if ref = 3 then first.getD 3
    else match (List.range ref).find? (fun k => 10 ≤ runs.getD k 0) with
      | some k => k
      | none => if 2 ≤ absent then (((List.range 3).filter (· != ref)).find? (fun k => pres.getD k false)).getD 3 else ref
  (s.setIsl i { x with presentRun := runs, absent := if r = ref then absent else 0,
                       lastCross := if r = ref then x.lastCross else none, lastFreq := if r = ref then x.lastFreq else none }).set
    (F.ISLn_STAT.REFPH i) r

/-- Close a line cycle of an island: `cross` the interpolated instant of the crossing (ns), none for a pseudo-cycle. -/
def State.closeCycle (s : State) (i : Nat) (cross : Option Int) (steps : List Int) : State :=
  let x := s.isl i
  let pseudo := s.get (F.ISLn_STAT.REFPH i) == 3
  let freq : Option Int := match cross, x.lastCross with
    | some a, some b => if b < a then some (10 ^ 12 / (a - b)) else none
    | _, _ => none
  let freqOk := match freq with
    | some f => decide (40000 ≤ f) && decide (f ≤ 70000)
    | none => cross.isSome
  let s1 := (s.setBit (F.ISLn_STAT.CLIP i) x.clip).setBit (F.ISLn_STAT.FOUT i) (freq.isSome && !freqOk)
  let s2 := s1.set (F.ISLn_FREQ.FREQ i) (if pseudo then 0 else match freq with
    | some f => (10 * f).toNat
    | none => 0)
  -- energy, status and latches of the points, unless the island's accumulation waits for this boundary (R40, R41)
  let fnom := if s.bit (F.ISLn_CFG.FNOM i) then 60 else 50
  let gap := if x.suspended then x.downAt * fnom / 250000000 else 0
  let s3 := if x.suspended then
      (s.islPts i).foldl (fun s p =>
        let y := s.pt p
        let n := max 1 (s.get (F.PTn_LATCH_N.N p))
        let c := y.cyc + gap
        let s' := (s.setPt p { y with cyc := c, gap := y.gap || decide (0 < x.downAt), gapCyc := y.gapCyc + gap }).set (F.PTn_STAT.INV p) 0
        if n ≤ c then (let s'' := s'.latch p (c / n); s''.setPt p { s''.pt p with cyc := c % n }) else s') s2
    else (s.islPts i).foldl (fun s p => s.ptCycle p 0 pseudo x.held) s2
  let s4 := s3.nextRef i freqOk
  let y := s4.isl i
  let z (l : List Nat) := l.map (fun _ => 0)
  let zi (l : List Int) := l.map (fun _ => (0 : Int))
  let add (a b : List Nat) := List.zipWith (· + ·) a b
  let addi (a b : List Int) := List.zipWith (· + ·) a b
  let s5 := s4.setIsl i { y with
    suspended := false, downAt := 0, clip := false, held := false, n := 0,
    sumV := z y.sumV, sumI := z y.sumI, sumP := zi y.sumP, sumQ := zi y.sumQ,
    winN := y.winN + y.n, winCycles := y.winCycles + 1, winV := add y.winV y.sumV, winI := add y.winI y.sumI,
    winP := addi y.winP y.sumP, winQ := addi y.winQ y.sumQ,
    lastCross := if cross.isSome then cross else y.lastCross, lastFreq := if freq.isSome then freq else y.lastFreq }
  match freq, cross with
  | some f, some c =>
    let roc := match x.lastFreq with
      | some g => (f - g) * f / 1000
      | none => 0
    s5.csbCycle i f roc steps c
  | _, _ => s5

/-- A calibrated sample of an island enters the cycle: detectors, sums, CSB. -/
def State.takeSample (s : State) (i : Nat) (cal : List Int) (shifted : List Int) (clip : Bool) (inst : Int) (steps : List Int) : State :=
  let x := s.isl i
  let v := fun k => cal.getD k 0
  let amp := fun j => cal.getD (3 + j) 0
  let hyst : Int := (s.get (F.ISLn_CFG.VNOM i) : Int) * 65536 / 500
  let ref := s.get (F.ISLn_STAT.REFPH i)
  let prev := x.cal.getD ref 0
  let crossNow := ref < 3 && x.armed.getD ref false && decide (prev < 0) && decide (0 ≤ v ref)
  let cross : Int := inst - 31250 + (if v ref = prev then 0 else 31250 * (-prev) / (v ref - prev))
  -- the boundary lies at this sample: the cycle closes before the sample is added
  let s1 := if crossNow then s.closeCycle i (some cross) steps
    else if ref < 3 && 800 ≤ x.n then s.closeCycle i none steps else s
  let y := s1.isl i
  let armed := (List.range 3).map (fun k => if v k < -hyst then true else if 0 ≤ v k then false else y.armed.getD k false)
  let p := (List.range 4).map (fun j => y.sumP.getD j 0 + v (s.voltageOf i j) * amp j)
  let q := (List.range 4).map (fun j => y.sumQ.getD j 0 + shifted.getD (s.voltageOf i j) 0 * amp j)
  let s2 := s1.setIsl i { y with
    cal := cal, armed := armed, n := y.n + 1, clip := y.clip || clip,
    sumV := (List.range 3).map (fun k => y.sumV.getD k 0 + (v k).natAbs ^ 2),
    sumI := (List.range 4).map (fun j => y.sumI.getD j 0 + (amp j).natAbs ^ 2),
    sumP := p, sumQ := q }
  s2.csbSample i (cal.take 3)

/-! ### Frames (R36 to R42) -/

/-- STROBE_ISSUE: a strobe frame to each present island; its instant is the sample instant (R36). -/
def strobeIssue (s : State) : State :=
  let q := (s.mtr.strobeSeq + 1) % 256
  let s1 := { s with mtr := { s.mtr with strobeSeq := q } }
  [0, 1].foldl (fun s i =>
    if s.islPresent i then
      (s.setIsl i { s.isl i with strobes := ((s.isl i).strobes ++ [(q, s.clock.sec, s.clock.ns)]).drop ((s.isl i).strobes.length - 7) }).emit
        (.strobe i q)
    else s) s1

def execStrobeIssue (dt : Nat) (s : State) : Host.Outcome State Fault Refusal := .next (strobeIssue (s.elapse dt)).settle

/-- ISLAND_DOWN (R40). -/
def islandDown (i : Nat) (s : State) : State :=
  if !s.islPresent i || !s.bit (F.ISLn_STAT.LINK i) then s
  else
    let x := s.isl i
    let s1 := (s.setIsl i { x with suspended := true, downAt := s.clock.up, good := 0, lastCross := none, lastFreq := none,
                                   armed := [false, false, false] })
    let s2 := (s1.set (F.ISLn_STAT.LINK i) 0).flag (if i = 0 then F.MTR_ERR.LINK0 else F.MTR_ERR.LINK1)
    let s3 := (s.islPts i).foldl (fun s p => s.set (F.PTn_STAT.INV p) 1) s2
    (s3.raise 9 i).csbLink i true

def execIslandDown (dt isl : Nat) (s : State) : Host.Outcome State Fault Refusal := .next (islandDown isl (s.elapse dt)).settle

/-- ISLAND_UP (R40): accumulation resumes at the next line-cycle boundary. -/
def islandUp (i : Nat) (s : State) : State :=
  if !s.islPresent i || s.bit (F.ISLn_STAT.LINK i) then s
  else
    let x := s.isl i
    let s1 := s.setIsl i { x with bad := 0, downAt := if x.downAt = 0 then 0 else s.clock.up - x.downAt }
    (s1.set (F.ISLn_STAT.LINK i) 1).csbLink i false

def execIslandUp (dt isl : Nat) (s : State) : Host.Outcome State Fault Refusal := .next (islandUp isl (s.elapse dt)).settle

/-- A discarded frame (R39): the previous samples are held; the third in a row takes the island down. -/
def State.discard (s : State) (i : Nat) (cnt : Option Fld) : State :=
  let x := s.isl i
  let inst := match x.strobes.head? with
    | some t => (t.2.1 * 10 ^ 9 + t.2.2 : Nat)
    | none => s.now
  let s1 := match cnt with
    | some f => s.inc f
    | none => s
  let s2 := s1.setIsl i { x with bad := min 3 (x.bad + 1), good := 0, held := true, strobes := x.strobes.drop 1 }
  if !s.bit (F.ISLn_STAT.LINK i) then s2
  else
    let s3 := s2.takeSample i x.cal [] false inst []
    if 3 ≤ (s3.isl i).bad then islandDown i s3 else s3

/-- FRAME_DEADLINE_MISS (R39). -/
def frameDeadlineMiss (i : Nat) (s : State) : State :=
  if s.islPresent i then s.discard i (some (F.ISLn_MISS_CNT.COUNT i)) else s

def execFrameDeadlineMiss (dt isl : Nat) (s : State) : Host.Outcome State Fault Refusal :=
  .next (frameDeadlineMiss isl (s.elapse dt)).settle

/-- ISLAND_FRAME_RECEIVED (R37, R39, R42, R43). -/
def islandFrame (f : IslandFrame) (s : State) : State :=
  let i := f.isl
  if !s.islPresent i then s
  else
    let x := s.isl i
    let want := x.strobes.head?
    let seqOk := match want with
      | some t => t.1 == f.seq
      | none => false
    if f.ftype ≠ 1 then s.discard i none
    else if !f.crcOk || !seqOk then s.discard i (some (F.ISLn_CRC_CNT.COUNT i))
    else
      let fcal := f.status / 2 % 2 == 1
      let s0 := (s.setBit (F.ISLn_STAT.FCAL i) fcal).set (F.ISLn_STAT.SEQ i) f.seq
      if !fcal then
        let s1 := s0.flag (if i = 0 then F.MTR_ERR.FCAL0 else F.MTR_ERR.FCAL1)
        (islandDown i s1).setIsl i { (islandDown i s1).isl i with strobes := x.strobes.drop 1, good := 0 }
      else
        let inst : Int := match want with
          | some t => (t.2.1 * 10 ^ 9 + t.2.2 : Nat)
          | none => s.now
        -- R43 on the eight channels
        let steps := (List.range 8).map (fun k => s.chanStep i (8 * i + k) (x.chans.getD k chan0) (f.samples.getD k 0))
        let val := (List.range 8).map (fun k => s.chanScale (8 * i + k) ((steps.map (·.2)).getD k 0))
        let cal := [val.getD 0 0 - val.getD 3 0, val.getD 1 0 - val.getD 3 0, val.getD 2 0 - val.getD 3 0,
          val.getD 4 0, val.getD 5 0, val.getD 6 0, val.getD 7 0]
        let sh := (List.range 3).map (fun k => s.chanScale (8 * i + k) (f.shifted.getD k 0 * 2 ^ 30))
        let clip := f.samples.any (fun r => 0x7FFFFF ≤ r.natAbs)
        let s1 := s0.setIsl i { x with chans := steps.map (·.1), strobes := x.strobes.drop 1, bad := 0, good := min 32 (x.good + 1) }
        let s2 := if !s.bit (F.ISLn_STAT.LINK i) && 32 ≤ x.good + 1 then islandUp i s1 else s1
        if s2.bit (F.ISLn_STAT.LINK i) then s2.takeSample i cal sh clip inst f.step else s2

def execIslandFrameReceived (dt : Nat) (f : IslandFrame) (s : State) : Host.Outcome State Fault Refusal :=
  .next (islandFrame f (s.elapse dt)).settle

/-- PSEUDO_CYCLE (R49): with no phase present a cycle of 1/f_nom closes. -/
def pseudoCycle (i : Nat) (s : State) : State :=
  if s.islPresent i && s.bit (F.ISLn_STAT.LINK i) && s.get (F.ISLn_STAT.REFPH i) == 3 then
    let s1 := s.closeCycle i none []
    (s1.islPts i).foldl (fun s p => s.setBit (F.PTn_STAT.PSEUDO p) (s.get (F.ISLn_STAT.REFPH i) == 3)) s1
  else s

def execPseudoCycle (dt isl : Nat) (s : State) : Host.Outcome State Fault Refusal := .next (pseudoCycle isl (s.elapse dt)).settle

/-! ### Windows (R51, R52) -/

/-- √(sum / n) of 2⁻³² squares, as a value in 1/`scale` units. -/
def rmsOf (sum n scale : Nat) : Nat := if n = 0 then 0 else Nat.sqrt (sum * scale * scale / n) / 2 ^ 16

/-- The window registers of a point change in one clock. -/
def State.windowPoint (s : State) (p freq10 : Nat) : State :=
  let i := p / 4
  let x := s.isl i
  let cs := s.ptCurrents p
  let n := x.winN
  let vi := fun j => s.voltageOf i j
  let at3 := fun (k : Nat) => cs[k]?
  let volt := fun k => match at3 k with
    | some j => rmsOf (x.winV.getD (vi j) 0) n 1000
    | none => 0
  let amps := fun k => match at3 k with
    | some j => rmsOf (x.winI.getD j 0) n 10000
    | none => 0
  let pw := fun (l : List Int) (j : Nat) => if n = 0 then 0 else l.getD j 0 * 10 / (n * 2 ^ 32)
  let pk := fun k => match at3 k with
    | some j => pw x.winP j
    | none => 0
  let p' := cs.foldl (fun acc j => acc + pw x.winP j) 0
  let q' := cs.foldl (fun acc j => acc + pw x.winQ j) 0
  let apN : Nat := cs.foldl (fun acc j => acc + (if n = 0 then 0 else
    Nat.sqrt (x.winV.getD (vi j) 0 * x.winI.getD j 0) * 10 / (n * 2 ^ 32))) 0
  let ap : Int := apN
  let pf : Int := if ap = 0 then 0 else p' * 10000 / ap
  let ineu := if s.get (F.ISLn_CFG.WIRE i) = 0 ∧ p % 4 = 0 then rmsOf (x.winI.getD 3 0) n 10000 else 0
  let s1 := [(F.PTn_V1.V p, (volt 0 : Int)), (F.PTn_V2.V p, volt 1), (F.PTn_V3.V p, volt 2), (F.PTn_I1.I p, amps 0), (F.PTn_I2.I p, amps 1),
    (F.PTn_I3.I p, amps 2), (F.PTn_INEU.I p, ineu), (F.PTn_P.P p, p'), (F.PTn_P1.P p, pk 0), (F.PTn_P2.P p, pk 1), (F.PTn_P3.P p, pk 2),
    (F.PTn_Q.Q p, q'), (F.PTn_S.S p, ap), (F.PTn_PF.PF p, pf), (F.PTn_FREQ.FREQ p, (freq10 : Int))].foldl (fun s (e : Fld × Int) => s.seti e.1 e.2) s
  (s1.addWrap (F.PTn_AGG_SEQ.SEQ p) 1).set (F.PTn_STAT.AGG_OK p) 1

/-- AGG_WINDOW_CLOSE (R51): `freq10` is the 10 s frequency (0.1 mHz), `harm` the window's harmonic words by 8 × point + channel. -/
def aggWindowClose (i freq10 : Nat) (harm : List (Nat × List Word)) (s : State) : State :=
  if !s.islPresent i then s
  else
    let s1 := (s.islPts i).foldl (fun s p => s.windowPoint p freq10) s
    let h := harm.filter (fun e => (s.islPts i).contains (e.1 / 8))
    let s2 := { s1 with mtr := { s1.mtr with harm := h.foldl (fun m (e : Nat × List Word) =>
      put e.1 (e.2.take 65 ++ [s1.getw (F.PTn_AGG_SEQ.SEQ (e.1 / 8))]) m) s1.mtr.harm } }
    let x := s2.isl i
    let s3 := s2.setIsl i { x with winN := 0, winCycles := 0, winV := [0, 0, 0], winI := [0, 0, 0, 0], winP := [0, 0, 0, 0], winQ := [0, 0, 0, 0] }
    if i = 1 then s3.overloadPick else s3

def execAggWindowClose (dt isl freq10 : Nat) (harm : List (Nat × List Word)) (s : State) : Host.Outcome State Fault Refusal :=
  .next (aggWindowClose isl freq10 harm (s.elapse dt)).settle

/-- MTR_HWIN_SEL written (R52, R5): the last complete window of the channel is copied for the requester. -/
def mtrHwinSel (q : Rq) (v : Word) (s : State) : State :=
  let p := v.toNat % 8
  let ch := v.toNat / 16 % 8
  if !s.ptPresent p then s.flag F.MTR_ERR.RANGE
  else
    let s1 := s.writeWord (R.MTR_HWIN_SEL q.num) v
    let ws : List Word := if ch = 7 then [] else look (fun _ => []) s.mtr.harm (8 * p + ch)
    (List.range 66).foldl (fun s w => s.setWord (R.MTR_HWINn w + 0x1000000 * q.num) (ws.getD w 0)) s1

/-! ### Saves (R65, R66, R68) -/

/-- The totals as they stand. -/
def State.mtrTotals (s : State) : List (List Nat × Nat) := (List.range 8).map (fun p => ((s.pt p).tot, (s.pt p).seq))

/-- Start a save, or queue it (R65). -/
def State.mtrStartSave (s : State) : State :=
  if s.mtr.cap.isSome then { s with mtr := { s.mtr with queued := true } }
  else
    let g := s.get F.MTR_FRAM_GEN.GEN + 1
    let m := { s.mtr with cap := some (g, s.mtrTotals), cur := 1 - s.mtr.cur }
    ({ s with mtr := m.setBank ⟨g, [], false, true⟩ }).set F.MTR_STAT.SAVE_BUSY 1

/-- The FRAM copy commits: the older copy takes the capture, the previous bank is cleared (R65). -/
def State.mtrCommit (s : State) : State :=
  match s.mtr.cap with
  | none => s
  | some (g, pts) =>
    let toB : Bool := s.get F.MTR_STAT.COPY == 0
    let c : MtrCopy := ⟨g, pts, true⟩
    let m1 : MtrSt := if toB then { s.mtr with copyB := some c } else { s.mtr with copyA := some c }
    let m2 : MtrSt := if m1.cur = 0 then { m1 with bank1 := bankEmpty } else { m1 with bank0 := bankEmpty }
    let s1 := { s with mtr := { m2 with cap := none, queued := false } }
    let s2 := (((s1.set F.MTR_FRAM_GEN.GEN g).setBit F.MTR_STAT.COPY toB).set F.MTR_STAT.SAVE_BUSY 0)
    if s.mtr.queued then s2.mtrStartSave else s2.set F.MTR_CTRL.SAVE 0

/-- The start procedure of R68. -/
def State.mtrMerge (s : State) : State :=
  let ok := fun (c : Option MtrCopy) => match c with
    | some c => if c.ok then some c else none
    | none => none
  let pick : Option (MtrCopy × Bool) := match ok s.mtr.copyA, ok s.mtr.copyB with
    | some a, some b => if a.gen < b.gen then some (b, true) else some (a, false)
    | some a, none => some (a, false)
    | none, some b => some (b, true)
    | none, none => none
  let s0 := if pick.isNone then s.flag F.MTR_ERR.FRAM else s
  let base : Nat × List (List Nat × Nat) := match pick with
    | some (c, _) => (c.gen, c.pts)
    | none => (0, [])
  let bad := (!s.mtr.bank0.ok && !s.mtr.bank0.empty) || (!s.mtr.bank1.ok && !s.mtr.bank1.empty)
  let s1 := if bad then s0.flag F.MTR_ERR.RESID else s0
  let banks := [s.mtr.bank0, s.mtr.bank1].filter (fun b => b.ok && !b.empty && decide (base.1 ≤ b.gen))
  let at0 := fun (l : List (List Nat × Nat)) p => l.getD p (List.replicate 8 0, 0)
  let pts := (List.range 8).map (fun p => banks.foldl (fun (acc : List Nat × Nat) b =>
    let r := at0 b.pts p
    (List.zipWith (· + ·) acc.1 r.1, max acc.2 r.2)) (at0 base.2 p))
  let g := banks.foldl (fun acc b => max acc b.gen) base.1 + 1
  let older := match pick with
    | some (_, isB) => !isB
    | none => false
  let c : MtrCopy := ⟨g, pts, true⟩
  let m := if older then { s1.mtr with copyB := some c } else { s1.mtr with copyA := some c }
  let s2 := { s1 with mtr := { m with bank0 := ⟨g, [], false, true⟩, bank1 := bankEmpty, cur := 0, cap := none, queued := false } }
  let s3 := (List.range 8).foldl (fun s p =>
    let r := at0 pts p
    let s' := s.setPt p { pt0 with tot := r.1, seq := r.2 }
    if s.ptPresent p then (List.range 8).foldl (fun s e => s.showLive p e (r.1.getD e 0)) s' else s') s2
  ((s3.set F.MTR_FRAM_GEN.GEN g).setBit F.MTR_STAT.COPY older).set F.MTR_STAT.MERGED 1

end Sys2Proof.Machine
end

