-- ==== Sys2Proof/Machine/Hqc.lean ====
section
/-! DEFINITION. Thermal energy quantities (chapter 3): integration steps, billing latches, the heat record in FRAM; and the saves MTR
and HQC share (R65, R85). -/
namespace Sys2Proof.Machine

def State.hqcPt (s : State) (m : Nat) : HqcPt := look (fun _ => hqc0) s.hqc.pts m
def State.setHqcPt (s : State) (m : Nat) (x : HqcPt) : State :=
  { s with hqc := { s.hqc with pts := store (fun _ => hqc0) m x s.hqc.pts } }

/-- Enabled meter points that exist on the variant. -/
def State.hqcPts (s : State) : List Nat := (s.entries 11 0 32 4128 0).filter (fun m => 4096 ≤ m || s.stnPresent m)

/-! ### Step quantities (R73, R74, R77, R80) -/

/-- A user table's entry: θ in 0.01 °C, c as an exact value. -/
def State.userEntry (s : State) (u k : Nat) : Int × FVal :=
  let a := 0x20400 + 0x100 * u + 8 * k
  (ofBits 16 (s.get ⟨tabKey 11 a, 0, 16⟩), f32val (s.word (tabKey 11 (a + 4))))

/-- The integral of c from a lower to an upper temperature within the table, exact over the piecewise-linear table, in kJ/m³ (θ in 0.01 K). -/
def State.tableIntegral (s : State) (u : Nat) (lo hi : Int) : FVal :=
  let sum := (List.range 31).foldl (fun (acc : FVal) k =>
    let e0 := s.userEntry u k
    let e1 := s.userEntry u (k + 1)
    let a := max lo e0.1
    let b := min hi e1.1
    if b ≤ a ∨ e1.1 ≤ e0.1 then acc
    else
      -- c at a and b, then the trapezoid
      let slope := (e1.2.sub e0.2).div (.ofInt (e1.1 - e0.1))
      let ca := e0.2.add (slope.mul (.ofInt (a - e0.1)))
      let cb := e0.2.add (slope.mul (.ofInt (b - e0.1)))
      acc.add (((ca.add cb).mul (.ofInt (b - a))).div (.ofInt 200))) (.ofInt 0)
  sum

/-- Clamp the temperatures and the pressure of a step (R77): θf, θr in 0.01 °C, p in 0.001 MPa, and whether a clamp acted. -/
def State.hqcClamp (s : State) (m : Nat) (tf tr : Int) (p : Nat) : Int × Int × Nat × Bool :=
  let md := s.get (T.HQC_PT.MEDIUM m)
  let lo := if md = 0 then 50 else (s.userEntry (md - 1) 0).1
  let hi := if md = 0 then 18000 else (s.userEntry (md - 1) 31).1
  let f := clampI lo hi tf
  let r := clampI lo hi tr
  let q := if md = 0 then min 2500 (max 100 p) else p
  (f, r, q, f != tf || r != tr || q != p)

/-- ΔQ in Wh as FP64 for a volume in litres (R74). -/
def State.hqcEnergy (s : State) (m : Nat) (dv : FVal) (tf tr : Int) (p : Nat) : BitVec 64 :=
  let vm3 := f64bits (dv.div (.ofInt 1000))
  let cold := s.bit (T.HQC_PT.MODE m)
  let kj := if s.get (T.HQC_PT.MEDIUM m) = 0 then
      let v := if97V (if s.bit (T.HQC_PT.METER_LOC m) then tr else tf) p
      f64mul (f64div vm3 v) (f64sub (if97H tf p) (if97H tr p))
    else
      let i := if tr ≤ tf then s.tableIntegral (s.get (T.HQC_PT.MEDIUM m) - 1) tr tf
        else (s.tableIntegral (s.get (T.HQC_PT.MEDIUM m) - 1) tf tr).negate
      f64mul vm3 (f64bits i)
  let wh := f64div kj (f64bits (.ofQ 36 10))
  if cold then f64bits (f64val wh).negate else wh

/-- A value as a number of 2⁻¹⁶ LSB, to nearest. -/
def toFix16 (v : FVal) : Int :=
  match v with
  | .fin n a b => let q := rneDiv (a * 65536) b; if n then -(q : Int) else q
  | _ => 0

/-! ### Registers and latches (R79, R83) -/

def State.hqcShow (s : State) (m e v : Nat) : State :=
  let w := v / 65536
  (s.set (F.W_LIVE_LO.E m e) (w % 2 ^ 32)).set (F.W_LIVE_HI.E m e) (w / 2 ^ 32 % 2 ^ 32)

/-- Add to register e of point m, in 2⁻¹⁶ LSB. -/
def State.hqcAdd (s : State) (m e : Nat) (n : Int) : State :=
  let x := s.hqcPt m
  let tot := addAt (fun (t : Nat) => (((t : Int) + n) % (2 ^ 80 : Int)).toNat) x.tot e
  (s.setHqcPt m { x with tot := tot }).hqcShow m e (tot.getD e 0)

/-- An energy of a step: import or export by its sign, reversals counted (R75, R76). -/
def State.hqcAddQ (s : State) (m : Nat) (q : Int) : State :=
  if q = 0 then s
  else
    let x := s.hqcPt m
    let neg := decide (q < 0)
    let rev := match x.lastNeg with
      | some b => b != neg
      | none => false
    let s1 := s.setHqcPt m { x with lastNeg := some neg, rev := if rev then min 255 (x.rev + 1) else x.rev }
    (s1.hqcAdd m (if neg then 1 else 0) q.natAbs).setBit (F.W_STAT.DIR m) neg

/-- A volume of a step. -/
def State.hqcAddV (s : State) (m : Nat) (v : Int) : State := s.hqcAdd m (if 0 ≤ v then 2 else 3) v.natAbs

/-- Latch one point (R83): the closing interval's totals where a step has passed the boundary, the live ones otherwise. -/
def State.hqcLatchPt (s : State) (m : Nat) : State :=
  let x := s.hqcPt m
  let c : List Nat × Nat × Bool × Bool := x.snap.getD (x.tot, x.rev, x.deg, x.gap)
  let seq := (x.seq + 1) % 2 ^ 32
  let s1 := (List.range 5).foldl (fun s e =>
    let w := c.1.getD e 0 / 65536
    (s.set (F.W_LATD_LO.E m e) (w % 2 ^ 32)).set (F.W_LATD_HI.E m e) (w / 2 ^ 32 % 2 ^ 32)) s
  let st := 1 + (if 0 < c.2.1 then 2 else 0) + (if x.first then 4 else 0) + (if c.2.2.1 then 8 else 0) + (if c.2.2.2 then 16 else 0) +
    256 * c.2.1
  let s2 := (s1.set (F.W_LATCH_SEQ.SEQ m) seq).setWord (R.W_LATCH_STAT m) (BitVec.ofNat 32 st)
  s2.setHqcPt m { x with first := false, seq := seq, snap := none,
                         rev := if x.snap.isSome then x.rev else 0, deg := x.snap.isSome && x.deg, gap := x.snap.isSome && x.gap }

/-- The billing interval in ns and the offset of the boundaries' time base (R81). -/
def State.billNs (s : State) : Nat := max 1 (s.get F.HQC_CFG.BILL_MIN) * 60 * 10 ^ 9
def State.billOfs (s : State) : Int := if s.bit F.HQC_CFG.UTC_ALIGN then s.geti F.TIM_UTC_OFS.OFS * 10 ^ 9 else 0

/-- The first boundary after an instant of module time. -/
def State.nextBoundary (s : State) (t : Nat) : Nat :=
  let b : Int := s.billNs
  (((t : Int) - s.billOfs) / b * b + b + s.billOfs).toNat

/-- The latch of boundary nextB (R82, R83). -/
def State.hqcLatch (s : State) : State :=
  let b := s.hqc.nextB
  let s1 := (s.hqcPts).foldl State.hqcLatchPt s
  let s2 := (s1.addWrap F.HQC_BILL_SEQ.SEQ 1).set F.HQC_BILL_SEC.SEC (b / 10 ^ 9 % 2 ^ 32)
  { s2 with hqc := { s2.hqc with lastB := b, nextB := b + s2.billNs } }

/-- Every enabled point that holds the boundary has integrated a step that straddles it or ends on it (R82). -/
def State.billReady (s : State) : Bool :=
  s.hqcPts.all (fun m => (m < 4096 && !s.stnUp m) || (s.hqcPt m).snap.isSome)

/-! ### Steps (R73 to R78, R82) -/

/-- A sample of a point: module time and uptime of its instant, volume counter or flow or pulses, temperatures and pressure with their
invalid markers as none. -/
structure HqcSample where
  time : Nat
  up : Nat
  vol : Nat
  tf : Option Int
  tr : Option Int
  p : Option Nat
deriving DecidableEq, Repr

/-- Integrate a sample. -/
def State.hqcStep (s : State) (m : Nat) (a : HqcSample) : State :=
  let x := s.hqcPt m
  let fs := s.get (T.HQC_PT.FSRC m)
  let lsb := f32val (s.getw (T.HQC_PT.VOL_LSB m))
  let q1 := ofBits 32 (a.vol % 2 ^ 32)
  let flowBad := fs == 1 && a.vol % 2 ^ 32 == 0x80000000
  let s0 := ((s.set (F.W_TF.T m) (match a.tf with
    | some t => toBits 16 t
    | none => 0x8000)).set (F.W_TR.T m) (match a.tr with
    | some t => toBits 16 t
    | none => 0x8000)).set (F.W_STAT.DOWN m) 0
  let base := { x with has := true, up := a.up, time := a.time, counter := a.vol % 2 ^ 32, flow := q1, outage := false, stepped := false }
  let dcount := ofBits 32 (toBits 32 ((a.vol : Int) - (x.counter : Int)))
  if !x.has then s0.setHqcPt m base
  else if x.outage then
    let s1 := s0.setHqcPt m { base with gap := true }
    if fs = 0 then s1.hqcAdd m 4 (toFix16 (lsb.mul (.ofInt dcount))) else s1
  else if a.up < x.up + 250000 then s
  else
    let dt := a.up - x.up
    -- ΔV in litres; a step of dt clocks is dt / (900 · 10⁹) hours
    let dv : FVal := match fs with
      | 0 => lsb.mul (.ofInt dcount)
      | 1 => ((lsb.mul (.ofInt (x.flow + q1))).mul (.ofInt dt)).div (.ofInt (2 * 900000000000))
      | _ => lsb.mul (.ofInt a.vol)
    let rate := (dv.mul (.ofInt 900000000000)).div (.ofInt dt)
    let maxF := f32val (s.getw (T.HQC_PT.MAX_FLOW m))
    let minF := f32val (s.getw (T.HQC_PT.START_FLOW m))
    let bad := a.tf.isNone || a.tr.isNone || flowBad
    let tf := a.tf.getD 0
    let tr := a.tr.getD 0
    let tooFast := !maxF.isZero && maxF.lt rate.abs
    let low := !minF.isZero && rate.abs.lt minF
    let cl := s.hqcClamp m tf tr (a.p.getD (s.get (T.HQC_PT.P_FIX m)))
    let lowdt := (cl.1 - cl.2.1).natAbs < s.get (T.HQC_PT.DT_MIN m)
    -- what the checks of R75 leave of the step: (ΔV, ΔQ), and DEG
    let pbad := a.p.isNone && s.bit (T.HQC_PT.PSRC m)
    let v16 := toFix16 dv
    let q16 := toFix16 (f64val (s.hqcEnergy m dv cl.1 cl.2.1 cl.2.2.1))
    let r : Int × Int × Bool :=
      if bad || pbad then (if flowBad then (0, 0, true) else (v16, 0, true))
      else if tooFast then (0, 0, true)
      else if low then (0, 0, false)
      else if lowdt then (v16, 0, cl.2.2.2)
      else (v16, q16, cl.2.2.2)
    let s1 := (((s0.setBit (F.W_STAT.FLT m) (!bad && tooFast)).setBit (F.W_STAT.LOWQ m) (!bad && !tooFast && low)).setBit
      (F.W_STAT.LOWDT m) (!bad && !tooFast && !low && lowdt)).setBit (F.W_STAT.RANGE m) (!bad && cl.2.2.2)
    let s2 := (s1.seti (F.W_FLOW.Q m) (toFix16 ((rate.mul (.ofInt 10)).div (.ofInt 65536)))).seti (F.W_POWER.P m)
      (r.2.1 * 900000000000 / (65536 * (dt : Int)))
    let b := s.hqc.nextB
    let t0 := x.time
    let t1 := a.time
    let split := fun (z bb : Int) => if t1 = t0 then z else z * (bb - t0) / ((t1 : Int) - t0)
    if x.stepped then
      -- R337: the step is not split; it belongs to the interval in which t1 falls
      let y := { base with deg := x.deg || r.2.2 }
      let add := fun (s : State) => (s.hqcAddV m r.1).hqcAddQ m r.2.1
      if b < t1 && x.snap.isNone then
        let s3 := add (s2.setHqcPt m { y with snap := some (x.tot, x.rev, x.deg, x.gap), rev := 0, deg := r.2.2, gap := false })
        if s3.billReady then s3.hqcLatch else s3
      else add (s2.setHqcPt m y)
    else if t0 < b ∧ b ≤ t1 ∧ x.snap.isNone then
      -- the step straddles the boundary or ends on it
      let va := split r.1 b
      let qa := split r.2.1 b
      let s3 := s2.setHqcPt m { base with deg := x.deg || r.2.2 }
      let s4 := (s3.hqcAddV m va).hqcAddQ m qa
      let y := s4.hqcPt m
      let s5 := s4.setHqcPt m { y with snap := some (y.tot, y.rev, y.deg, y.gap), rev := 0, deg := b != t1 && r.2.2, gap := false }
      let s6 := (s5.hqcAddV m (r.1 - va)).hqcAddQ m (r.2.1 - qa)
      if s6.billReady then s6.hqcLatch else s6
    else
      let late := t0 < s.hqc.lastB && decide (s.hqc.lastB < t1)
      let s3 := s2.setHqcPt m { base with deg := x.deg || r.2.2 || late }
      (s3.hqcAddV m r.1).hqcAddQ m r.2.1

/-- A field of an input image. -/
def imgNat (img : List Byte) (ofs n : Nat) : Nat := leNat ((img.drop ofs).take n)

/-- A station frame feeds its point (R72, R73): the image, the receive time-stamp and its uptime. -/
def State.hqcStation (s : State) (stn : Nat) (img : List Byte) (time up : Nat) : State :=
  if !s.bit F.HQC_STAT.RUN || !s.bit (T.HQC_PT.EN stn) then s
  else
    let tf := imgNat img (s.get (T.HQC_PT.OFS_TF stn)) 2
    let tr := imgNat img (s.get (T.HQC_PT.OFS_TR stn)) 2
    let p := imgNat img (s.get (T.HQC_PT.OFS_P stn)) 2
    let mk := fun v => if v = 0x8000 then none else some (ofBits 16 v)
    s.hqcStep stn ⟨time, up, imgNat img (s.get (T.HQC_PT.OFS_V stn)) 4, mk tf, mk tr,
      if s.bit (T.HQC_PT.PSRC stn) then (if p = 0xFFFF then none else some p) else some (s.get (T.HQC_PT.P_FIX stn))⟩

/-- A station goes down: its point runs no steps, the next sample closes an outage (R78). -/
def State.hqcDown (s : State) (stn : Nat) : State :=
  if s.bit (T.HQC_PT.EN stn) then
    (s.setHqcPt stn { s.hqcPt stn with outage := true }).set (F.W_STAT.DOWN stn) 1
  else s

/-- °C as 0.01 °C. -/
def centi (w : Word) : Int := realToInt (-32767) 32767 (f32bits ((f32val w).mul (.ofInt 100)))

/-- HQC_LOCAL_STEP (R72): every 100 ms of module time each local point integrates; `pulses` are the counts of the step by point. -/
def hqcLocalStep (pulses : List (Nat × Nat)) (s : State) : State :=
  if !s.bit F.HQC_STAT.RUN then s
  else (s.hqcPts.filter (fun m => 4096 ≤ m)).foldl (fun s m =>
    let ap := s.get (T.HQC_PT.AP m)
    let temp := fun a => if s.aiInvalid a then none else some (centi (s.aiVal a))
    s.hqcStep m ⟨s.now, s.clock.up, (pulses.lookup m).getD 0, temp (2 * ap), temp (2 * ap + 1),
      some (s.get (T.HQC_PT.P_FIX m))⟩) s

def execHqcLocalStep (dt : Nat) (pulses : List (Nat × Nat)) (s : State) : Host.Outcome State Fault Refusal :=
  .next (hqcLocalStep pulses (s.elapse dt)).settle

/-- HQC_BILL_TIMEOUT (R82): P_max + 2 s after the boundary it falls due regardless. -/
def hqcBillTimeout (s : State) : State :=
  if s.bit F.HQC_STAT.RUN && decide (s.hqc.nextB ≤ s.now) then s.hqcLatch else s

def execHqcBillTimeout (dt : Nat) (s : State) : Host.Outcome State Fault Refusal := .next (hqcBillTimeout (s.elapse dt)).settle

/-- HQC_WIN_SEL (R84, R5): selects the point and ends the requester's freeze. -/
def hqcWinSel (q : Rq) (v : Word) (s : State) : State :=
  let m := v.toNat % 8192
  if m < 4128 ∧ (4096 ≤ m ∨ s.stnPresent m) then (s.writeWord (R.HQC_WIN_SEL q.num) v).unfreeze q.num 0x0B
  else s.flag F.HQC_ERR.RANGE

/-! ### Saves (R65, R66, R85, R86) -/

/-- HQC captures its totals (R85). -/
def State.hqcCapture (s : State) : State :=
  let c : HqcCopy := ⟨s.get F.HQC_FRAM_GEN.GEN + 1, s.hqc.pts.map (fun e => (e.1, e.2.tot, e.2.seq, if e.2.has then some e.2.counter else none)), true⟩
  ({ s with hqc := { s.hqc with cap := some c } }).set F.HQC_STAT.SAVE_BUSY 1

/-- HQC captures where it runs: before its start it holds no totals to save. -/
def State.hqcSave (s : State) : State := if s.bit F.HQC_STAT.RUN then s.hqcCapture else s

/-- A save of both records, once MTR has merged its copies (R68). A save MTR queues is captured by HQC when it starts. -/
def State.saveBoth (s : State) : State :=
  if !s.bit F.MTR_STAT.MERGED then s.hqcSave
  else if s.mtr.cap.isSome then s.mtrStartSave else (s.mtrStartSave).hqcSave

/-- MTR_PERIODIC_SAVE (R65): not while PF_HOLD (R66). -/
def mtrPeriodicSave (s : State) : State := if s.bit F.MTR_STAT.PF_HOLD then s else s.saveBoth

def execMtrPeriodicSave (dt : Nat) (s : State) : Host.Outcome State Fault Refusal := .next (mtrPeriodicSave (s.elapse dt)).settle

/-- MTR_SAVE: SAVE reads 1 until the save commits; not carried out while PF_HOLD (R66). -/
def mtrSave (s : State) : State :=
  if s.bit F.MTR_STAT.PF_HOLD || !s.bit F.MTR_STAT.MERGED then s else (s.set F.MTR_CTRL.SAVE 1).saveBoth

/-- MTR_SAVE_COMMIT (R65): a queued save starts, with HQC's. -/
def mtrSaveCommit (s : State) : State :=
  let s1 := s.mtrCommit
  if s1.mtr.cap.isSome then s1.hqcSave else s1

def execMtrSaveCommit (dt : Nat) (s : State) : Host.Outcome State Fault Refusal := .next (mtrSaveCommit (s.elapse dt)).settle

/-- HQC_SAVE_COMMIT (R85): the older copy takes the capture. -/
def hqcSaveCommit (s : State) : State :=
  match s.hqc.cap with
  | none => s
  | some c =>
    let toB : Bool := s.get F.HQC_STAT.COPY == 0
    let h : HqcSt := if toB then { s.hqc with copyB := some c, cap := none } else { s.hqc with copyA := some c, cap := none }
    ((({ s with hqc := h }).set F.HQC_FRAM_GEN.GEN c.gen).setBit F.HQC_STAT.COPY toB).set F.HQC_STAT.SAVE_BUSY 0

def execHqcSaveCommit (dt : Nat) (s : State) : Host.Outcome State Fault Refusal := .next (hqcSaveCommit (s.elapse dt)).settle

/-- HQC_SAVE_LATE (R85): the save has not committed within 10 ms. -/
def hqcSaveLate (s : State) : State := if s.hqc.cap.isSome then s.flag F.HQC_ERR.SAVE_LATE else s

def execHqcSaveLate (dt : Nat) (s : State) : Host.Outcome State Fault Refusal := .next (hqcSaveLate (s.elapse dt)).settle

/-- The start of HQC (R86): the better copy's totals, the saved counter as baseline; the first sample closes an outage. -/
def State.hqcStart (s : State) : State :=
  let ok := fun (c : Option HqcCopy) => match c with
    | some c => if c.ok then some c else none
    | none => none
  let pick : Option (HqcCopy × Bool) := match ok s.hqc.copyA, ok s.hqc.copyB with
    | some a, some b => if a.gen < b.gen then some (b, true) else some (a, false)
    | some a, none => some (a, false)
    | none, some b => some (b, true)
    | none, none => none
  let s1 := match pick with
    | none => s.flag F.HQC_ERR.FRAM
    | some (c, isB) =>
      let s1 := ((s.set F.HQC_STAT.MERGED 1).set F.HQC_FRAM_GEN.GEN c.gen).setBit F.HQC_STAT.COPY isB
      c.pts.foldl (fun (s : State) (e : Nat × List Nat × Nat × Option Nat) =>
        let x := { hqc0 with tot := e.2.1, seq := e.2.2.1, counter := e.2.2.2.getD 0, has := e.2.2.2.isSome, outage := true }
        (List.range 5).foldl (fun s k => s.hqcShow e.1 k (e.2.1.getD k 0)) (s.setHqcPt e.1 x)) s1
  let s2 := s1.hqcPts.foldl (fun s m => (s.set (F.W_STAT.EN m) 1).setBit (F.W_STAT.DOWN m) (m < 4096 && !s.stnUp m)) s1
  ({ s2 with hqc := { s2.hqc with nextB := s2.nextBoundary s2.now } }).set F.HQC_STAT.RUN 1

/-- A step of module time (R337): no integration step over it is split; a forward step latches each boundary it passes, in order; after a
backward step only boundaries later than the last latched one are latched. -/
def State.hqcTimeStep (s : State) : State :=
  if !s.bit F.HQC_STAT.RUN then s
  else
    let s1 := { s with hqc := { s.hqc with pts := s.hqc.pts.map (fun e => (e.1, { e.2 with stepped := true })) } }
    if s1.hqc.nextB ≤ s1.now then
      Nat.repeat State.hqcLatch ((s1.now - s1.hqc.nextB) / s1.billNs + 1) s1
    else
      let b := s1.nextBoundary s1.now
      { s1 with hqc := { s1.hqc with nextB := if s1.hqc.lastB < b then b else s1.nextBoundary s1.hqc.lastB } }

end Sys2Proof.Machine
end

