-- ==== Sys2Proof/Machine/Sio.lean ====
section
/-! DEFINITION. Remote stations (chapter 4): sessions, cyclic exchange, watchdog, dropout and substitutes, requests, launches. -/
namespace Sys2Proof.Machine

/-! ### The entry that serves a station (R89, R111) -/

/-- The key of word 0 of the entry that serves station n: its station-table entry in full service, its cap entry in Cap mode. -/
def State.stnBase (s : State) (n : Nat) : Option Nat :=
  if s.bit F.SIO_STAT.FULL then (if s.stnPresent n && s.bit (T.SIO_STN.EN n) then some (tabKey 5 (64 * n)) else none)
  else if s.bit F.SIO_STAT.CAP then ((s.capEntries.find? (fun i => s.capStn i == n)).map (fun i => tabKey 2 (64 * i)))
  else none

/-- A field of the entry at a key. -/
def entF (b : Nat) (f : Nat → Fld) : Fld := ⟨b + ((f 0).key - tabKey 5 0), (f 0).lsb, (f 0).width⟩

/-- A field of the entry that serves a station. -/
def State.stnGet (s : State) (n : Nat) (f : Nat → Fld) : Nat :=
  match s.stnBase n with
  | some b => s.get (entF b f)
  | none => 0

/-- The stations served now. -/
def State.served (s : State) : List Nat :=
  if s.bit F.SIO_STAT.FULL then s.enabledStns else if s.bit F.SIO_STAT.CAP then s.capEntries.map s.capStn else []

/-- The configured period and phases (µs) of a station: 100 ms and the phases modulo 100 ms in Cap mode (R111). -/
def State.stnTiming (s : State) (n : Nat) : Nat × Nat × Nat :=
  let i := s.stnGet n T.SIO_STN.IN_PHASE
  let o := s.stnGet n T.SIO_STN.OUT_PHASE
  if s.bit F.SIO_STAT.FULL then (250 * s.stnGet n T.SIO_STN.PERIOD, i, o) else (100000, i % 100000, o % 100000)

/-- The watchdog count of a station (R103). -/
def State.wdCount (s : State) (n : Nat) : Nat :=
  let o := s.stnGet n T.SIO_STN.WD_OVR
  if o = 0 then s.get F.SIO_WD_MISS.MISS else o

/-- SIO_DOWNn bit of a station. -/
def downFld (n : Nat) : Fld := ⟨R.SIO_DOWNn (n / 32), n % 32, 1⟩

/-- Show a station's state: SW_STAT, SIO_DOWNn, UP_CNT (R89). -/
def State.stnTo (s : State) (n st : Nat) : State :=
  let was := s.get (F.SW_STAT.STATE n)
  let up := s.get F.SIO_STAT.UP_CNT
  let up1 := if was = 3 then up - 1 else up
  (((s.set (F.SW_STAT.STATE n) st).setBit (downFld n) (st == 1 || st == 2)).set F.SIO_STAT.UP_CNT (if st = 3 then up1 + 1 else up1))

/-! ### Launch queues (R102, R352) -/

/-- The launch queue of a station port. -/
def State.lq (s : State) (p : Nat) : List Launch := if p = 0 then s.tim.lq0 else s.tim.lq1
def State.setLq (s : State) (p : Nat) (q : List Launch) : State :=
  ({ s with tim := if p = 0 then { s.tim with lq0 := q } else { s.tim with lq1 := q } }).set (F.TIM_LQn_LVL.LEVEL p) q.length

/-- The instant of a queued frame's slot, in ns. -/
def Launch.at (l : Launch) : Nat := l.sec * 10 ^ 9 + l.ns

/-- Launches to a station are withheld: after a down transition (R104), or by the safe state of SF-4 (R428). -/
def State.launchHeld (s : State) (n : Nat) : Bool := (s.stn n).withheld || (s.get F.SAF_STAT.SF_SAFE / 8 % 2 == 1 && s.sf4 n)

/-- Send a frame under K_sess: the next counter, direction bit set (R98). -/
def State.sspSend (s : State) (type n flags : Nat) (payload : List Byte) : State :=
  let x := s.stn n
  (s.setStn n { x with txCtr := x.txCtr + 1 }).emit (.ssp type n flags x.session (2 ^ 63 + x.txCtr + 1) payload)

/-- TIM takes FLAGS and payload from the committed image: REPEAT if CSEQ equals LSEQ, and LSEQ takes CSEQ (R118). Also the LSEQ before. -/
def State.fetchOut (s : State) (n : Nat) : State × (Nat × List Byte × Nat) :=
  let c := s.pageNat n 0x460 4
  let l := s.pageNat n 0x46C 4
  (s.pageWrite n 0x46C (leBytes c 4), ((if c = l then 1 else 0), s.pageBytes n 0x360 (s.stnGet n T.SIO_STN.OUT_LEN), l))

/-- A frame that is late (R352): dropped, or sent at once, by LATE_POLICY. -/
def State.lateFrame (s : State) (p n : Nat) : State :=
  let s1 := s.flag F.TIM_ERR.LQ_LATE
  if s.bit (F.TIM_LQn_CFG.LATE_POLICY p) then
    let r := s1.fetchOut n
    ((r.1.sspSend 4 n r.2.1 r.2.2.1).inc (F.TIM_LQn_LATE.COUNT p)).inc (F.TIM_LQn_SENT.COUNT p)
  else s1.inc (F.TIM_LQn_DROP.COUNT p)

/-- Insert a frame in slot order. -/
def insLaunch (l : Launch) : List Launch → List Launch
  | [] => [l]
  | h :: t => if l.at < h.at then l :: h :: t else h :: insLaunch l t

/-- SIO places a station's next OUTPUT frame in its port's queue (R102): one whose fetch instant has passed is late, and the one after
it is placed. -/
def State.placeOut (s : State) (n : Nat) : State :=
  let p := s.stnGet n T.SIO_STN.PORT
  let st := s.get (F.SW_STAT.STATE n)
  if (st = 2 ∨ st = 3) ∧ !s.launchHeld n ∧ !(s.lq p).any (fun l => l.stn == n) ∧ (s.lq p).length < 64 then
    match s.slotFrom n (s.now + 1) with
    | none => s
    | some sl =>
      let late := decide (sl < s.now + 2000)
      let s1 := if late then s.lateFrame p n else s
      let t := if late then sl + (s.stn n).period * 1000 else sl
      s1.setLq p (insLaunch ⟨n, t / 10 ^ 9, t % 10 ^ 9, none⟩ (s1.lq p))
  else s

/-- SIO fills a port's queue: the stations without a queued frame, nearest slot first. -/
def State.fillQueue (s : State) (p : Nat) : State :=
  let cand := (s.served.filter (fun n => s.stnGet n T.SIO_STN.PORT == p && !(s.lq p).any (fun l => l.stn == n))).map (fun n =>
    (⟨n, (s.slotFrom n (s.now + 1)).getD 0, 0, none⟩ : Launch))
  ((cand.foldl (fun acc (l : Launch) => insLaunch l acc) []).map Launch.stn).foldl State.placeOut s

/-- Take a station's frame out of its queue; one that was fetched and is not sent leaves LSEQ as it was (R118). -/
def State.dropLaunch (s : State) (n : Nat) : State :=
  [0, 1].foldl (fun s p =>
    match (s.lq p).find? (fun l => l.stn == n) with
    | none => s
    | some l =>
      let s1 := match l.fetched with
        | some f => s.pageWrite n 0x46C (leBytes f.2.2 4)
        | none => s
      s1.setLq p ((s1.lq p).filter (fun l => l.stn != n))) s

/-- LAUNCH_FETCH (R352): 2 µs before the slot TIM fetches the payload; a station's frame that is not queued yet is placed first. -/
def launchFetch (n : Nat) (s : State) : State :=
  let s1 := s.placeOut n
  let p := s1.stnGet n T.SIO_STN.PORT
  if (s1.lq p).any (fun l => l.stn == n && l.fetched.isNone) then
    let r := s1.fetchOut n
    r.1.setLq p ((r.1.lq p).map (fun l => if l.stn = n then { l with fetched := some r.2 } else l))
  else s1

def execLaunchFetch (dt stn : Nat) (s : State) : Host.Outcome State Fault Refusal := .next (launchFetch stn (s.elapse dt)).settle

/-- FRAME_LAUNCH (R352, R102, R104): the queued frame goes out at its slot; a withheld launch is counted; the station's next frame is
placed. `skew` is the launch error in ns. -/
def frameLaunch (n skew : Nat) (s : State) : State :=
  if s.launchHeld n then
    let s1 := s.dropLaunch n
    if (s.stn n).withheld || s.get (F.SW_STAT.STATE n) == 2 || s.get (F.SW_STAT.STATE n) == 3 then s1.inc (F.SW_WITHHELD.COUNT n) else s1
  else
    let s0 := launchFetch n s
    let p := s0.stnGet n T.SIO_STN.PORT
    match (s0.lq p).find? (fun l => l.stn == n) with
    | some ⟨_, _, _, some f⟩ =>
      let s1 := (s0.setLq p ((s0.lq p).filter (fun l => l.stn != n))).sspSend 4 n f.1 f.2.1
      let s2 := (s1.inc (F.TIM_LQn_SENT.COUNT p)).set (F.TIM_LQn_SKEW_MAX.NS p)
        (max (s1.get (F.TIM_LQn_SKEW_MAX.NS p)) (min skew 255))
      s2.fillQueue p
    | _ => s0

def execFrameLaunch (dt stn skew : Nat) (s : State) : Host.Outcome State Fault Refusal := .next (frameLaunch stn skew (s.elapse dt)).settle

/-- The queued frames a forward step passes are late (R336, R352). -/
def State.lateLaunches (s : State) : State :=
  [0, 1].foldl (fun s p =>
    let passed := (s.lq p).filter (fun l => l.fetched.isNone && decide (l.at < s.now + 2000))
    passed.foldl (fun s l => (s.setLq p ((s.lq p).filter (fun k => k.stn != l.stn))).lateFrame p l.stn) s) s

/-! ### Input buffers (R101, R116, R117) -/

/-- SIO writes an image into the unlatched buffer of a station's page. -/
def State.writeBuf (s : State) (n : Nat) (img : List Byte) (flags bflags sec ns : Nat) : State :=
  let b := 1 - s.latched n
  let seq := (s.pageNat n 4 4 + 1) % 2 ^ 32
  let hdr := leBytes (sec % 2 ^ 32) 4 ++ leBytes ns 4 ++ leBytes flags 1 ++ leBytes bflags 1 ++ leBytes img.length 2 ++ leBytes seq 4
  let s1 := s.pageWrite n (inBuf b) (hdr ++ img)
  let b2 := (s1.pageByte n 2).toNat
  (s1.pageWrite n 2 (leBytes (b2 - (b2 / 4 % 2) * 4 + 4 * b) 1)).pageWrite n 4 (leBytes seq 4)

/-- A real image goes into the page (R101). -/
def State.writeReal (s : State) (n : Nat) (r : RxImage) : State :=
  let s1 := s.writeBuf n r.img r.flags 1 r.sec r.ns
  s1.setStn n { s1.stn n with last := some r.img, newest := none }

/-- Replace bytes of an image. -/
def patch (img : List Byte) (ofs : Nat) (bs : List Byte) : List Byte :=
  img.take ofs ++ bs ++ img.drop (ofs + bs.length)

/-- What a substitute entry writes over the base image: none keeps it; and whether policy 2 fell back (R106, R242). -/
def State.subValue (s : State) (j : Nat) : Option (List Byte) × Bool :=
  let size := 2 ^ s.get (T.SIO_SUB.SIZE j)
  match s.get (T.SIO_SUB.POLICY j) with
  | 1 => (some (leBytes (s.get (T.SIO_SUB.VALUE j)) size), false)
  | 2 =>
    let k := s.get (T.SIO_SUB.SENS j)
    if s.bit F.SIO_STAT.FULL && s.modelUsable && s.sensValid k then
      let lim : Int := 2 ^ (8 * size - 1)
      (some (leBytes (toBits (8 * size) (realToInt (-lim) (lim - 1) (f32mul (s.pred k) (s.getw (T.SIO_SUB.VALUE j))))) size), false)
    else (none, true)
  | _ => (none, false)

/-- SIO writes a substitute frame (R106): the last real image, or zeros, with each entry's policy. -/
def State.substitute (s : State) (n : Nat) : State :=
  let x := s.stn n
  let base := x.last.getD (List.replicate (s.stnGet n T.SIO_STN.IN_LEN) 0)
  let f := s.stnGet n T.SIO_STN.SUB_FIRST
  let r := (List.range (s.stnGet n T.SIO_STN.SUB_CNT)).foldl (fun (acc : List Byte × Bool) k =>
    let v := s.subValue (f + k)
    match v.1 with
    | some bs => (patch acc.1 (s.get (T.SIO_SUB.OFS (f + k))) bs, acc.2)
    | none => (acc.1, acc.2 || v.2)) (base, false)
  let s1 := s.writeBuf n r.1 0 ((if x.last.isSome then 1 else 0) + 2 + (if r.2 then 4 else 0)) s.clock.sec s.clock.ns
  let s2 := s1.set (F.SW_STAT.SUB n) 1
  if r.2 then s2.set (F.SW_STAT.SUBFB n) 1 else s2

/-! ### State changes (R90, R104, R107) -/

/-- A station's error task is flagged to PGR (R128). -/
def State.flagError (s : State) (n t : Nat) : State :=
  let s1 := if s.pgr.flagged.contains t then s else { s with pgr := { s.pgr with flagged := s.pgr.flagged ++ [t] } }
  if s1.pgr.efifo.length < 512 then
    ({ s1 with pgr := { s1.pgr with efifo := s1.pgr.efifo ++ [(n, t)] } }).set F.PGR_EFIFO_LVL.LEVEL (s1.pgr.efifo.length + 1)
  else s1.flag F.PGR_ERR.EFIFO_OVF

/-- What a down transition does in its clock (R104). -/
def State.downTransition (s : State) (n : Nat) : State :=
  let s1 := ((s.dropLaunch n).set (F.SW_DOWN_SEC.SEC n) s.sec32).set (F.SW_DOWN_NS.NS n) s.nsNow
  let s2 := (s1.setStn n { s1.stn n with withheld := true, downUp := some s.clock.up }).hqcDown n
  if s.stnGet n T.SIO_STN.ERR_EN = 1 ∧ s.bit F.PGR_STAT.RUN then s2.flagError n (s.stnGet n T.SIO_STN.ERR_TASK) else s2

/-- A station's session ends. -/
def State.endSession (s : State) (n : Nat) : State :=
  (s.setStn n { s.stn n with session := 0, sess := none, rx := [], answered := [], newestSeq := [] }).set (F.SW_SESSION.SESSION n) 0

/-- A station in UP or SETUP enters DOWN with a cause (R90), with its first substitute frame (R106). -/
def State.goDown (s : State) (n cause : Nat) : State :=
  let st := s.get (F.SW_STAT.STATE n)
  if st = 3 ∨ st = 2 then
    let s1 := if st = 3 then s.downTransition n else s.dropLaunch n
    ((s1.stnTo n 1).set (F.SW_STAT.CAUSE n) cause).substitute n
  else s

/-- A station becomes UP (R107). -/
def State.stationUp (s : State) (n : Nat) : State :=
  let s1 := match (s.stn n).newest with
    | some r => let w := s.writeReal n r
                w.hqcStation n r.img (r.sec * 10 ^ 9 + r.ns) r.up
    | none => s
  let s2 := (((s1.setStn n { s1.stn n with withheld := false }).set (F.SW_STAT.SUB n) 0).set (F.SW_STAT.SUBFB n) 0).set
    (F.SW_STAT.MISS n) 0
  (s2.stnTo n 3).placeOut n

/-! ### Frame checks (R93 to R99) -/

/-- A malformed frame (R93, R95). -/
def State.sspMalformed (s : State) : State := (s.inc F.SIO_FMT_CNT.COUNT).flag F.SIO_ERR.FMT

/-- Addressing, checksum and format of a frame of a type with a payload length (R93, R95): the state after counting a discard, or
whether the frame goes on to the session checks. -/
def State.sspFormat (s : State) (h : SspHeader) (type : Nat) (lenOk : Nat → Bool) : State × Bool :=
  if !s.bit (F.SIO_PORTn_CFG.EN h.port) then (s, false)
  else if !h.sumOk then (s.sspMalformed, false)
  else match s.stnBase h.station with
    | none => (s.inc F.SIO_UNKNOWN_CNT.COUNT, false)
    | some b =>
      if !h.addrOk || s.get (entF b T.SIO_STN.PORT) != h.port then (s.inc F.SIO_UNKNOWN_CNT.COUNT, false)
      else if h.version ≠ 1 ∨ h.type ≠ type ∨ h.dir ∨ h.len ≠ h.udpLen ∨ !lenOk h.len then (s.sspMalformed, false)
      else (s, true)

/-- Answer an unknown SESSION with an unauthenticated CLOSE, at most one per station per second (R99). -/
def State.unauthClose (s : State) (h : SspHeader) : State :=
  let x := s.stn h.station
  let due := match x.closeHint with
    | some u => decide (u + 250000000 ≤ s.clock.up)
    | none => true
  if due && !s.tampered then
    (s.setStn h.station { x with closeHint := some s.clock.up }).emit (.ssp 7 h.station 0 h.session (2 ^ 63) [1])
  else s

/-- Session, tag and counter of a frame under K_sess (R94, R98): the state after a discard, or with the counter taken. -/
def State.sspSession (s : State) (h : SspHeader) (hint : Bool) : State × Bool :=
  let x := s.stn h.station
  if x.session = 0 ∨ h.session ≠ x.session then
    let s1 := s.inc F.SIO_UNKNOWN_CNT.COUNT
    (if hint then s1.unauthClose h else s1, false)
  else if !h.tagOk then ((s.inc F.SIO_AUTH_CNT.COUNT).flag F.SIO_ERR.AUTH, false)
  else if h.counter ≤ x.rxCtr then ((s.inc F.SIO_REPLAY_CNT.COUNT).flag F.SIO_ERR.REPLAY, false)
  else (s.setStn h.station { x with rxCtr := h.counter }, true)

/-! ### Sessions (R96, R97) -/

/-- A tag under K_st that fails (R97). -/
def State.helloAuthFail (s : State) : State := (s.inc F.SIO_AUTH_CNT.COUNT).flag F.SIO_ERR.AUTH

/-- K_st cannot be unwrapped (R97). -/
def State.keyMiss (s : State) (n : Nat) : State := (s.flag F.SIO_ERR.KEY).set (F.SW_STAT.CAUSE n) 6

/-- Begin a set-up: ask KEY for K_st, verify the tag when it is at hand. -/
def State.startSetup (s : State) (u : Setup) : State :=
  let r := s.keyRequest (.sio u.stn) u.keyId 1
  match r.2 with
  | .fail => r.1.keyMiss u.stn
  | .hit => if u.tagOk then { r.1 with sio := { r.1.sio with setups := r.1.sio.setups ++ [{ u with needKey := false }] } } else r.1.helloAuthFail
  | .wait => { r.1 with sio := { r.1.sio with setups := r.1.sio.setups ++ [{ u with needKey := true }] } }

/-- Queued set-ups start while fewer than 4 are in work. -/
def State.startQueued (s : State) : Nat → State
  | 0 => s.showBusy
  | k + 1 =>
    match s.sio.queue with
    | [] => s.showBusy
    | u :: t =>
      if s.sio.setups.length < 4 then
        State.startQueued ({ s with sio := { s.sio with queue := t } }.startSetup u) k
      else s.showBusy

/-- HELLO_RECEIVED (R96, R97): a HELLO of a station whose earlier one is still being processed replaces it. -/
def helloReceived (h : SspHeader) (nonce : Nat) (s : State) : State :=
  if s.tampered then s
  else
    let c := s.sspFormat h 1 (· == 20)
    if !c.2 then c.1
    else
      let n := h.station
      let u : Setup := ⟨n, h.counter, nonce, h.tagOk, s.stnGet n T.SIO_STN.KEY_ID, false⟩
      if s.sio.queue.any (fun v => v.stn == n) then
        { s with sio := { s.sio with queue := s.sio.queue.map (fun v => if v.stn = n then u else v) } }
      else
        let s0 := { s with sio := { s.sio with setups := s.sio.setups.filter (fun v => v.stn != n) } }
        if s0.sio.setups.length < 4 then (s0.startSetup u).startQueued 64
        else if s0.sio.queue.length < 64 then { s0 with sio := { s0.sio with queue := s0.sio.queue ++ [u] } }
        else s0.flag F.SIO_ERR.SETUP_Q

def execHelloReceived (dt : Nat) (h : SspHeader) (nonce : Nat) (s : State) : Host.Outcome State Fault Refusal :=
  .next (helloReceived h nonce (s.elapse dt)).settle

/-- KEY has served a station's K_st, or has failed (R97, R450). -/
def State.sioKeyServed (s : State) (n : Nat) (ok : Bool) : State :=
  match s.sio.setups.find? (fun u => u.stn == n && u.needKey) with
  | none => s
  | some u =>
    let rest := s.sio.setups.filter (fun v => v.stn != n)
    if !ok then ({ s with sio := { s.sio with setups := rest } }.keyMiss n).startQueued 64
    else if !u.tagOk then ({ s with sio := { s.sio with setups := rest } }.helloAuthFail).startQueued 64
    else ({ s with sio := { s.sio with setups := s.sio.setups.map (fun (v : Setup) => if v.stn = n then { v with needKey := false } else v) } }).showBusy

/-- A SESSION that is non-zero and differs from every live one, from a free starting point (R96). -/
def State.pickSession (s : State) : Nat :=
  let live := s.sio.stns.map (fun e => e.2.session)
  ((List.range 4200).map (fun i => (s.free + i) % 2 ^ 32)).find? (fun v => v != 0 && !live.contains v) |>.getD 1

/-- SESSION_SETUP_DONE (R96): N_M and SESSION are picked, K_sess stored, ACCEPT sent, the station enters SETUP; without random bits no ACCEPT is
sent (R458). -/
def sessionSetupDone (n : Nat) (s : State) : State :=
  match s.sio.setups.find? (fun u => u.stn == n && !u.needKey) with
  | none => s
  | some u =>
    let s0 := { s with sio := { s.sio with setups := s.sio.setups.filter (fun v => v.stn != n) } }
    if !s.bit F.KEY_STAT.ENT_OK then s0.startQueued 64
    else
      let sid := s0.pickSession
      let s1 := s0.nextFree
      let lo := s1.free
      let s2 := s1.nextFree
      let nm := lo + 2 ^ 64 * s2.free
      let s3 := s2.nextFree
      let s4 := if s3.stnUp n then (s3.downTransition n).set (F.SW_STAT.CAUSE n) 2 else s3
      let x := s4.stn n
      let s5 := (s4.setStn n { x with session := sid, sess := some (u.keyId, u.nonce, nm), rxCtr := 0, txCtr := 0, rx := [], newest := none,
                                      answered := [], newestSeq := [] }).set (F.SW_SESSION.SESSION n) sid
      let fs := s5.stnGet n T.SIO_STN.FS_MISS
      let s6 := s5.emit (.ssp 2 n 0 0 (2 ^ 63 + u.counter) (leBytes nm 16 ++ leBytes sid 4 ++ leBytes x.period 4 ++ leBytes x.inPh 4 ++
        leBytes (if fs = 0 then 3 else fs) 1 ++ [0, 0, 0]))
      (((s6.stnTo n 2).set (F.SW_STAT.MISS n) 0).placeOut n).startQueued 64

def execSessionSetupDone (dt stn : Nat) (s : State) : Host.Outcome State Fault Refusal := .next (sessionSetupDone stn (s.elapse dt)).settle

/-! ### Cyclic exchange (R101, R103) -/

/-- INPUT_RECEIVED (R101). -/
def inputReceived (h : SspHeader) (img : List Byte) (s : State) : State :=
  let c := s.sspFormat h 3 (fun l => l == s.stnGet h.station T.SIO_STN.IN_LEN && l == img.length)
  if !c.2 then c.1
  else
    let c2 := c.1.sspSession h true
    if !c2.2 then c2.1
    else
      let n := h.station
      let t := h.rxSec * 10 ^ 9 + h.rxNs
      let s1 := ((c2.1.inc (F.SW_RX_CNT.COUNT n)).set (F.SW_RX_SEC.SEC n) (h.rxSec % 2 ^ 32)).set (F.SW_RX_NS.NS n) h.rxNs
      let s2 := s1.setStn n { s1.stn n with rx := (s1.stn n).rx ++ [t] }
      let r : RxImage := ⟨img, h.flags.toNat, h.rxSec, h.rxNs, s.clock.up - (s.now - t) / 4⟩
      if s2.get (F.SW_STAT.STATE n) = 1 then s2.setStn n { s2.stn n with newest := some r }
      else (s2.writeReal n r).hqcStation n img t r.up

def execInputReceived (dt : Nat) (h : SspHeader) (img : List Byte) (s : State) : Host.Outcome State Fault Refusal :=
  .next (inputReceived h img (s.elapse dt)).settle

/-- WATCHDOG_EXPIRY (R103): the miss count has reached the watchdog count. -/
def watchdogExpiry (n : Nat) (s : State) : State :=
  let st := s.get (F.SW_STAT.STATE n)
  if (st = 2 ∨ st = 3) ∧ s.wdCount n ≤ s.get (F.SW_STAT.MISS n) then s.goDown n 1 else s

def execWatchdogExpiry (dt stn : Nat) (s : State) : Host.Outcome State Fault Refusal := .next (watchdogExpiry stn (s.elapse dt)).settle

/-- The check instant a check belongs to: the last C_k at or before now, in ns (R103). -/
def State.checkInstant (s : State) (n : Nat) : Int :=
  let x := s.stn n
  let p : Int := x.period * 1000
  let b : Int := x.inPh * 1000 + x.period * 125
  b + ((s.now : Int) - b) / p * p

/-- WATCHDOG_CHECK (R103, R90, R106). -/
def watchdogCheck (n : Nat) (s : State) : State :=
  if !s.served.contains n then s
  else
    let x := s.stn n
    let p : Int := x.period * 1000
    let ck := s.checkInstant n
    let inThis := x.rx.any (fun t => ck - p < (t : Int) && (t : Int) ≤ ck)
    let inPrev := x.rx.any (fun t => ck - 2 * p < (t : Int) && (t : Int) ≤ ck - p)
    let s1 := s.setStn n { x with rx := x.rx.filter (fun t => ck - p < (t : Int)) }
    let st := s.get (F.SW_STAT.STATE n)
    if (st = 1 ∨ st = 2) ∧ x.session ≠ 0 ∧ inThis ∧ inPrev then s1.stationUp n
    else if st = 2 ∨ st = 3 then
      watchdogExpiry n (s1.set (F.SW_STAT.MISS n) (if inThis then 0 else min 15 (s.get (F.SW_STAT.MISS n) + 1)))
    else if st = 1 then s1.substitute n
    else s1

def execWatchdogCheck (dt stn : Nat) (s : State) : Host.Outcome State Fault Refusal := .next (watchdogCheck stn (s.elapse dt)).settle

/-- CLOSE_RECEIVED (R90). -/
def closeReceived (h : SspHeader) (_reason : Nat) (s : State) : State :=
  let c := s.sspFormat h 7 (· == 1)
  if !c.2 then c.1
  else
    let c2 := c.1.sspSession h false
    if !c2.2 then c2.1 else (c2.1.endSession h.station).goDown h.station 3

def execCloseReceived (dt : Nat) (h : SspHeader) (reason : Nat) (s : State) : Host.Outcome State Fault Refusal :=
  .next (closeReceived h reason (s.elapse dt)).settle

/-- The module closes a session with a reason (R113): CLOSE under K_sess, the station DOWN with cause 4. -/
def State.moduleClose (s : State) (n reason : Nat) : State :=
  if (s.stn n).session = 0 then s
  else ((s.sspSend 7 n 0 (leBytes reason 1)).endSession n).goDown n 4

/-- SIO_CLOSE_WRITE (R113, R5). -/
def sioClose (v : Word) (s : State) : State :=
  let n := v.toNat % 4096
  if s.stnPresent n then s.moduleClose n 2 else s.flag F.SIO_ERR.RANGE

/-! ### Requests (R109, R110, R112) -/

/-- The wire time of an OUTPUT frame at 1 Gbit/s, preamble and interframe gap included, in ns (R102). -/
def State.wireOf (s : State) (port ipv6 outLen : Nat) : Nat :=
  let vlan := if s.bit (F.SIO_PORTn_CFG.VLAN port) then 4 else 0
  8 * (8 + 14 + vlan + (if ipv6 = 1 then 40 else 20) + 8 + 20 + outLen + 16 + 4 + 12)

/-- The wire time of a station's OUTPUT frame. -/
def State.wireNs (s : State) (n : Nat) : Nat := s.wireOf (s.stnGet n T.SIO_STN.PORT) (s.stnGet n T.SIO_STN.IPV6) (s.stnGet n T.SIO_STN.OUT_LEN)

/-- Launch slots (P, OUT_PHASE in µs, wire time in ns) of two stations keep the spacing of R102. -/
def spaced (pa oa wa pb ob wb : Nat) : Bool :=
  let g := Nat.gcd pa pb * 1000
  let d := (((ob : Int) - oa) * 1000 % (g : Int)).toNat
  wa ≤ d && wb ≤ g - d

/-- New timing of a station keeps the spacing against every other station on its port. -/
def State.timingOk (s : State) (n p o : Nat) : Bool :=
  s.served.all (fun m => m == n || s.stnGet m T.SIO_STN.PORT != s.stnGet n T.SIO_STN.PORT ||
    spaced p o (s.wireNs n) (s.stn m).period (s.stn m).outPh (s.wireNs m))

/-- A REQUEST's payload (Table 4.3). -/
def requestBytes (b : SspBody) : List Byte :=
  leBytes b.origin 2 ++ leBytes b.seq 2 ++ leBytes b.cls 1 ++ leBytes b.op 1 ++ leBytes b.index 2 ++ b.data
/-- A RESPONSE's payload. -/
def responseBytes (origin seq status : Nat) (data : List Byte) : List Byte :=
  leBytes origin 2 ++ leBytes seq 2 ++ leBytes status 1 ++ [0, 0, 0] ++ data

/-- Answer a request; no RESPONSE goes to a station in DOWN (Table 4.1). -/
def State.respond (s : State) (n origin seq status : Nat) (data : List Byte) : State :=
  let st := s.get (F.SW_STAT.STATE n)
  if st = 2 ∨ st = 3 then s.sspSend 6 n 0 (responseBytes origin seq status data) else s

/-- SSP_REQUEST_RECEIVED (R109): carried out at most once by the firmware of the active complex, whose STATUS and DATA are given. -/
def sspRequestReceived (h : SspHeader) (b : SspBody) (status : Nat) (data : List Byte) (s : State) : State :=
  let c := s.sspFormat h 5 (fun l => 8 ≤ l && l ≤ 248)
  if !c.2 then c.1
  else
    let c2 := c.1.sspSession h true
    let s1 := c2.1
    if !c2.2 || s1.activeCx.isNone then s1
    else
      let n := h.station
      let x := s1.stn n
      let newest := (x.newestSeq.find? (fun e => e.1 == b.origin && e.2.1 == b.cls)).map (fun e => e.2.2)
      let behind := match newest with
        | some m => (m + 65536 - b.seq % 65536) % 65536
        | none => 65535
      match x.answered.find? (fun e => e.1 == b.origin && e.2.1 == b.cls && e.2.2.1 == b.seq) with
      | some e =>
        if behind < 64 then ((s1.inc (F.SW_DUP.COUNT n))).respond n b.origin b.seq e.2.2.2.1 e.2.2.2.2
        else s1.respond n b.origin b.seq 2 []
      | none =>
        if 64 ≤ behind ∧ behind < 32768 then s1.respond n b.origin b.seq 2 []
        else
          let top := if newest.isNone ∨ 32768 ≤ behind then b.seq % 65536 else newest.getD 0
          let keep := x.answered.filter (fun e => !(e.1 == b.origin && e.2.1 == b.cls && decide (64 ≤ (top + 65536 - e.2.2.1) % 65536)))
          let y := { x with
            answered := keep ++ [(b.origin, b.cls, b.seq, status, data)]
            newestSeq := (b.origin, b.cls, top) :: x.newestSeq.filter (fun e => !(e.1 == b.origin && e.2.1 == b.cls)) }
          (s1.setStn n y).respond n b.origin b.seq status data

def execSspRequestReceived (dt : Nat) (h : SspHeader) (body : SspBody) (status : Nat) (data : List Byte) (s : State) :
    Host.Outcome State Fault Refusal := .next (sspRequestReceived h body status data (s.elapse dt)).settle

/-- SSP_RESPONSE_RECEIVED (R109): delivered to the issuing firmware. -/
def sspResponseReceived (h : SspHeader) (b : SspBody) (s : State) : State :=
  let c := s.sspFormat h 6 (fun l => 8 ≤ l && l ≤ 248)
  if !c.2 then c.1
  else
    let c2 := c.1.sspSession h false
    if !c2.2 then c2.1 else { c2.1 with sio := { c2.1.sio with handed := c2.1.sio.handed ++ [b] } }

def execSspResponseReceived (dt : Nat) (h : SspHeader) (body : SspBody) (s : State) : Host.Outcome State Fault Refusal :=
  .next (sspResponseReceived h body (s.elapse dt)).settle

/-- The set-timing request a body carries (R110): period, IN_PHASE, OUT_PHASE in µs and the instant (s, low 32 bits, and ns). -/
def setTiming? (b : SspBody) : Option (Nat × Nat × Nat × Nat × Nat) :=
  if b.cls = 2 ∧ b.op = 4 ∧ b.index = 0 then
    some (imgNat b.data 0 4, imgNat b.data 4 4, imgNat b.data 16 4, imgNat b.data 8 4, imgNat b.data 12 4)
  else none

/-- SIO sends a REQUEST, and holds the change a set-timing request agrees. -/
def State.sendRequest (s : State) (n : Nat) (b : SspBody) : State :=
  let s1 := s.sspSend 5 n 0 (requestBytes b)
  match setTiming? b with
  | some (p, i, o, sec, ns) => s1.setStn n { s1.stn n with newTiming := some (p, i, o, sec * 10 ^ 9 + ns) }
  | none => s1

/-- SSP_REQUEST_ISSUE (R109, R110): a set-timing request whose slots would not keep their spacing is not sent, and the firmware is
answered with STATUS 4. -/
def sspRequestIssue (n : Nat) (b : SspBody) (s : State) : State :=
  let st := s.get (F.SW_STAT.STATE n)
  if s.activeCx.isNone || s.tampered || (s.stn n).session == 0 || !(st == 2 || st == 3) then s
  else
    let b1 := { b with origin := 0xFFFF }
    match setTiming? b1 with
    | some (p, _, o, _, _) =>
      if p ≠ 0 ∧ b.data.length = 20 ∧ s.timingOk n p o then s.sendRequest n b1
      else { s with sio := { s.sio with handed := s.sio.handed ++ [{ b1 with status := 4, data := [] }] } }
    | none => s.sendRequest n b1

def execSspRequestIssue (dt stn : Nat) (body : SspBody) (s : State) : Host.Outcome State Fault Refusal :=
  .next (sspRequestIssue stn body (s.elapse dt)).settle

/-- SET_TIMING_APPLY (R110): SIO applies P, IN_PHASE and OUT_PHASE and clears the miss count. -/
def setTimingApply (n : Nat) (s : State) : State :=
  match (s.stn n).newTiming with
  | none => s
  | some (p, i, o, _) =>
    let s1 := s.dropLaunch n
    ((s1.setStn n { s1.stn n with period := p, inPh := i, outPh := o, newTiming := none }).set (F.SW_STAT.MISS n) 0).placeOut n

def execSetTimingApply (dt stn : Nat) (s : State) : Host.Outcome State Fault Refusal := .next (setTimingApply stn (s.elapse dt)).settle

/-! ### Other traffic, links (R92, R115) -/

/-- OTHER_TRAFFIC_RECEIVED (R92): `kind` 0 ARP, 1 neighbour discovery for an address of the port, 2 an echo request; anything else is discarded. -/
def otherTraffic (port kind : Nat) (s : State) : State :=
  if !s.bit (F.SIO_PORTn_CFG.EN port) then s
  else if kind < 2 then s.emit (.netAnswer port kind)
  else if kind = 2 then
    let recent := s.sio.echoes.filter (fun e => s.clock.up < e.2 + 250000000)
    let s1 := { s with sio := { s.sio with echoes := recent } }
    if (recent.filter (fun e => e.1 == port)).length < 10 then
      { s1 with sio := { s1.sio with echoes := recent ++ [(port, s.clock.up)] } }.emit (.netAnswer port 2)
    else s1
  else s.inc F.SIO_UNKNOWN_CNT.COUNT

def execOtherTrafficReceived (dt port kind : Nat) (s : State) : Host.Outcome State Fault Refusal := .next (otherTraffic port kind (s.elapse dt)).settle

/-- STATION_PORT_LINK_CHANGE (R115). -/
def stationPortLink (port : Nat) (up : Bool) (s : State) : State :=
  if port < 2 then s.setBit (F.SIO_PORTn_STAT.LINK port) up else s

def execStationPortLinkChange (dt port : Nat) (up : Bool) (s : State) : Host.Outcome State Fault Refusal :=
  .next (stationPortLink port up (s.elapse dt)).settle

/-! ### Start, handover to full service, keys (R90, R111 to R114) -/

/-- A served station takes its configured timing and enters DOWN with cause INIT. -/
def State.stnInit (s : State) (n : Nat) : State :=
  let t := s.stnTiming n
  ((s.setStn n { stn0 with period := t.1, inPh := t.2.1, outPh := t.2.2 }).stnTo n 1).set (F.SW_STAT.CAUSE n) 0

/-- Cap-mode station service starts (R111). -/
def State.sioCapStart (s : State) : State :=
  let s1 := s.set F.SIO_STAT.CAP 1
  s1.served.foldl State.stnInit s1

/-- The full entry gives a cap station another address, port, KEY_ID, IN_LEN or OUT_LEN (R113). -/
def State.capDiffers (s : State) (i n : Nat) : Bool :=
  let fs : List (Nat → Fld) := [T.SIO_STN.PORT, T.SIO_STN.IPV6, T.SIO_STN.KEY_ID, T.SIO_STN.IN_LEN, T.SIO_STN.OUT_LEN, T.SIO_STN.ADDR,
    T.SIO_STN.ADDR_9, T.SIO_STN.ADDR_10, T.SIO_STN.ADDR_11]
  fs.any (fun f => s.get (entF (tabKey 2 (64 * i)) f) != s.get (f n))

/-- The set-timing request of the handover (R112). -/
def State.handoverTiming (s : State) (n : Nat) : State :=
  let p := 250 * s.get (T.SIO_STN.PERIOD n)
  let i := s.get (T.SIO_STN.IN_PHASE n)
  let o := s.get (T.SIO_STN.OUT_PHASE n)
  let t0 := s.now + 200000000
  let ph := i * 1000
  let t := if p = 0 ∨ t0 ≤ ph then ph else ph + (t0 - ph + p * 1000 - 1) / (p * 1000) * (p * 1000)
  let b : SspBody := ⟨0xFFFF, s.free % 65536, 2, 4, 0, 0,
    leBytes p 4 ++ leBytes i 4 ++ leBytes (t / 10 ^ 9 % 2 ^ 32) 4 ++ leBytes (t % 10 ^ 9) 4 ++ leBytes o 4⟩
  s.nextFree.sendRequest n b

/-- Full station service starts (R90, R112, R113). -/
def State.sioFullStart (s : State) : State :=
  let caps := s.capEntries.map (fun i => (i, s.capStn i))
  let closing := caps.filter (fun e => !(s.stnPresent e.2 && s.bit (T.SIO_STN.EN e.2)) || s.capDiffers e.1 e.2)
  let s1 := closing.foldl (fun s e => s.moduleClose e.2 5) s
  let s2 := caps.foldl (fun s e => if s.bit (T.SIO_STN.EN e.2) then s else (s.dropLaunch e.2).stnTo e.2 0) s1
  let s3 := (s2.set F.SIO_STAT.CAP 0).set F.SIO_STAT.FULL 1
  let capStns := caps.map Prod.snd
  s3.served.foldl (fun s n =>
    if capStns.contains n then
      if (s.stn n).session = 0 then
        let t := s.stnTiming n
        s.setStn n { s.stn n with period := t.1, inPh := t.2.1, outPh := t.2.2 }
      else s.handoverTiming n
    else s.stnInit n) s3

/-- The pages are built (R117, R112): zeros, but for what the cap stations' images hold. -/
def State.buildPages (s : State) : State :=
  let caps := s.capEntries.map s.capStn
  let old := s
  let s1 := { s with dram := s.dram.filter (fun e => 0x470 ≤ e.1 % 4096) }
  let s2 := s1.enabledStns.foldl (fun s n => s.pageWrite n 0 (leBytes n 2)) s1
  caps.foldl (fun s n =>
    let b := old.newest n
    let s1 := s.pageWrite n 0x260 (old.pageBytes n 0x260 0x210)
    match (old.stn n).last with
    | none => s1
    | some img =>
      let hdr := old.pageBytes n (inBuf b) 9 ++ leBytes 1 1 ++ leBytes img.length 2 ++ leBytes 1 4
      (((s1.pageWrite n (inBuf 1) (hdr ++ img)).pageWrite n 2 (leBytes 4 1)).pageWrite n 4 (leBytes 1 4))) s2

/-- KEY clears its key slots on tamper (R114): sessions and set-ups go, every station in SETUP or UP goes DOWN with cause KEYLOSS. -/
def State.sioKeyLoss (s : State) : State :=
  let s1 := { s with sio := { s.sio with setups := [], queue := [] } }
  let s2 := s1.sio.stns.foldl (fun s e => (s.endSession e.1).goDown e.1 5) s1
  s2.set F.SIO_STAT.KEYLOSS 1

end Sys2Proof.Machine
end

