-- ==== Sys2Proof/Machine/Ranges.lean ====
section
/-! DEFINITION. The ranges and sets of values that field descriptions state (R537), checked on the final content of every word a record wrote. -/
namespace Sys2Proof.Machine

/-- A family of fields `fld + stride·i`, i below `cnt`, with the intervals of values it may hold and the number they are multiples of. -/
structure RangeRow where
  fld : Fld
  stride : Nat
  cnt : Nat
  ok : List (Nat × Nat)
  mul : Nat
deriving DecidableEq, Repr

/-- One field; an array of fields. -/
def rng1 (f : Fld) (lo hi : Nat) : RangeRow := ⟨f, 4, 1, [(lo, hi)], 1⟩
def rngN (f : Nat → Fld) (cnt lo hi : Nat) : RangeRow := ⟨f 0, (f 1).key - (f 0).key, cnt, [(lo, hi)], 1⟩
/-- A set of intervals; a multiple. -/
def rngS (f : Fld) (ok : List (Nat × Nat)) : RangeRow := ⟨f, 4, 1, ok, 1⟩
def rngM (f : Fld) (lo hi m : Nat) : RangeRow := ⟨f, 4, 1, [(lo, hi)], m⟩

/-- Registers of the cap section. -/
def capRanges : List RangeRow :=
  [rng1 F.PWR_GAP.GAP 50 1000, rngN F.ISLn_CFG.WIRE 2 0 2, rngN F.PTn_CFG.VSEL 8 0 2, rngN F.PTn_CFG.CREEP 8 400 900,
   rngN F.PTn_LATCH_N.N 8 1 4096, rng1 F.SIO_WD_MISS.MISS 1 15] ++
  [rng1 F.CSB_RMS.UV 500 950, rng1 F.CSB_RMS.HYST 10 63, rng1 F.CSB_RMS.OV 1050 1300, rng1 F.CSB_FREQ.F_LO 10 255,
   rng1 F.CSB_FREQ.F_HI 10 255, rng1 F.CSB_FREQ.F_N 1 15, rng1 F.CSB_FREQ.DF_N 1 15, rngS F.CSB_VSR.VS [(0, 0), (20, 900)],
   rngS F.CSB_VSR.ROCOF [(0, 0), (10, 1000)], rng1 F.CSB_TIME0.DEAD_T 2 1000, rng1 F.CSB_TIME0.FB_T 10 5000,
   rng1 F.CSB_TIME1.BRK_T 1 1000, rng1 F.CSB_TIME1.OVL_MAX 10 1000, rng1 F.CSB_TIME2.Q_T 1 255, rng1 F.CSB_TIME2.SYNC_WAIT 1 255,
   rng1 F.CSB_TIME3.RESTORE_GAP 1 6000, rng1 F.CSB_TIME3.RECALL_T 1 3600, rng1 F.CSB_SYNC.SYNC_DPH 1 60, rng1 F.CSB_ALTP.OVL_N 1 15] ++
  [rngN F.CSB_FOn_CFG.ROLE 8 0 5, rngN T.CSB_GRP.OUT_KIND 64 0 2, rngN T.CSB_GRP.ON_ALT 64 0 2, rngN T.CSB_GRP.RCL_KIND 64 0 2] ++
  [rng1 F.FAB_CFG.HLIM 1 31, rng1 F.FAB_ADDR.CFG_ADDR 0 4094, rng1 F.FAB_RETRY.RETRY_MS 1 1000, rng1 F.FAB_RETRY.WIN_HOLD 1 255,
   rng1 ⟨R.FAB_WRR, 0, 6⟩ 1 63, rng1 ⟨R.FAB_WRR, 6, 6⟩ 1 63, rng1 ⟨R.FAB_WRR, 12, 6⟩ 1 63, rng1 ⟨R.FAB_WRR, 18, 6⟩ 1 63,
   rng1 ⟨R.FAB_WRR, 24, 6⟩ 1 63,
   rngN F.PORTn_CFG.COST 4 1 65535] ++
  [rngS F.TIM_ADDEND.ADDEND [(0, 3435974), (2 ^ 32 - 3435974, 2 ^ 32 - 1)], rngS F.TIM_PTP2.LOG_SYNC [(0, 0), (12, 15)],
   rng1 F.TIM_PTP2.ANN_TMO 2 10, rng1 F.TIM_SERVO.STEP_TH 1 65535, rng1 F.TIM_SERVO.LOCK_TH 1 255,
   rngS F.SAF_CFG.WD_DELAY [(0, 0), (100, 60000)]] ++
  [rngN T.CFG_CLOOP.PV_KIND 64 0 2, rngN T.CFG_CLOOP.DEST_DTYPE 64 3 5]

/-- Station entries at a table key: the station table, or the cap station table. -/
def stnRanges (base cnt : Nat) : List RangeRow :=
  let f := fun (g : Nat → Fld) (lo hi : Nat) => (⟨entF base g, 64, cnt, [(lo, hi)], 1⟩ : RangeRow)
  [f T.SIO_STN.PERIOD 4 40000, f T.SIO_STN.IN_LEN 1 256, f T.SIO_STN.OUT_LEN 0 256, f T.SIO_STN.SUB_CNT 0 32]

/-- Registers and tables of the full sections. -/
def fullRanges : List RangeRow :=
  [rngS F.HQC_CFG.BILL_MIN ([1, 2, 3, 4, 5, 6, 10, 12, 15, 20, 30, 60].map (fun n => (n, n))), rngN T.HQC_PT.FSRC 4128 0 2,
   rngN T.HQC_PT.DT_MIN 4128 20 300, rngN T.SIO_SUB.SIZE 16384 0 2, rngN T.SIO_SUB.POLICY 16384 0 2] ++
  [rng1 F.PGR_CFG.PF_DEPTH 1 255, rng1 F.CYC_TMAX.TMAX 1000 10000000, rng1 F.CYC_REST.REST 0 1000000, rng1 F.CYC_OVR_LIM.LIM 1 255,
   rngM F.CYC_HOSTW_BASE.BASE 0 0x7FFFC 4, rngM F.CYC_HOSTW_SIZE.SIZE 0 0x80000 4, rngN T.PGR_TASK.SRC 64 0 5,
   rngN T.PGR_TASK.PERIOD 64 0 40000, rngN T.CYC_BLK.TYPE 65536 0 47] ++
  [rngN F.AXn_LIM_CFG.DEB 16 0 10000, rngN F.AXn_PULSE.STEP_W 16 20 1000, rngN F.AXn_PULSE.DIR_SU 16 20 1000,
   ⟨T.MPG_RA.OUT_OFS 0, 48, 256, [(0, 252)], 4⟩, ⟨T.MPG_RA.FB_OFS 0, 48, 256, [(0, 252)], 4⟩] ++
  [rngM F.NSV_PERIOD.PERIOD 250 60000 250, rng1 F.NSV_ITER.MAX_IT 2 12, rng1 F.NSV_ITER.BAD_CLR 1 15,
   rngN T.NSV_SENS.KIND 16384 0 13, rngN T.NSV_SENS.LAYER 16384 0 2, rngN T.NSV_SENS.SRC 16384 0 4, rngN T.NSV_SENS.DTYPE 16384 0 7,
   rngN T.NSV_NODE.TYPE 8192 0 2, rngN T.NSV_BUS.TYPE 256 0 2, rngN T.NSV_BR.TYPE 12288 0 5, rngN T.NSV_BR.CHAR 12288 0 2] ++
  [rng1 F.DOP_PERIOD.PERIOD 30 3600, rng1 F.DOP_STEP.STEP_MIN 1 60, rng1 F.DOP_STEP.N 2 192, rng1 F.DOP_DIM0.NX 1 384,
   rng1 F.DOP_DIM0.NU 1 512, rng1 F.DOP_DIM1.NI 0 2048, rng1 F.DOP_DEADLINE.DEADLINE 5 3600, rng1 F.DOP_DEADLINE.FIN_RES 1 60,
   rng1 F.DOP_IP_CFG.IP_MAXIT 5 100, rng1 F.DOP_IP_CFG.WARM_MAXIT 1 40, rng1 F.DOP_ADMM_CFG.MAXIT 1 64, rng1 F.DOP_ADMM_CFG.ROUND_MS 10 4000,
   rng1 F.DOP_ADMM_CFG.LOST_N 1 15, rngN T.DOP_NB.NV 16 1 8, rngN T.DOP_NB.NODE 16 1 4094] ++
  [rng1 F.TRJ_CFG.SRC 0 2, rng1 F.TRJ_CFG.LEADER 1 4094, rng1 F.TRJ_FOL_TMO.SEC 60 65535, rngN T.TRJ_CH.DTYPE 512 0 7] ++
  [rng1 F.REC_CFG.PROT_PCT 10 90, rng1 F.REC_CFG.COAL_MS 0 60000, rng1 F.REC_FLUSH.WMARK 16 448, rng1 F.REC_FLUSH.FLUSH_PER 1 3600,
   rng1 F.REC_REG.GRAN 1 8, rngN T.REC_CH.DTYPE 2048 0 7, rngN T.REC_CH.PERIOD 2048 1 60000, rngN T.REC_CH.INTERVAL 2048 1 86400]

/-- Fields of a loop slot. -/
def slotRanges : List RangeRow :=
  [rngN T.LPE_SLOT.DROP 4096 0 2, rngN T.LPE_SLOT.INIT_MODE 4096 0 2, rngN T.LPE_SLOT.SP_SRC 4096 0 2, rngN T.LPE_SLOT.PV_SRC 4096 0 4,
   rngN T.LPE_SLOT.PV_DTYPE 4096 0 7, rngN T.LPE_SLOT.DEST 4096 0 2, rngN T.LPE_SLOT.DEST_DTYPE 4096 0 7, rngN T.LPE_SLOT.PL_SRC 4096 0 2,
   rngN T.LPE_SLOT.PL_ACT 4096 0 2, rngN T.LPE_SLOT.SAFETY 4096 0 2]

/-- Every stated range. -/
def ranges : List RangeRow := capRanges ++ stnRanges (tabKey 2 0) 32 ++ stnRanges (tabKey 5 0) 4096 ++ fullRanges ++ slotRanges

/-- A row speaks of a word. -/
def RangeRow.covers (r : RangeRow) (k : Nat) : Bool :=
  r.fld.key ≤ k && (k - r.fld.key) % r.stride == 0 && (k - r.fld.key) / r.stride < r.cnt

/-- The word's field obeys a row: its value in an interval and a multiple, or its reset value. -/
def State.rangeOk (s : State) (r : RangeRow) (k : Nat) : Bool :=
  let f : Fld := ⟨k, r.fld.lsb, r.fld.width⟩
  let v := s.get f
  v == ((resetWord k).toNat / 2 ^ f.lsb) % 2 ^ f.width || (r.ok.any (fun e => e.1 ≤ v && v ≤ e.2) && v % r.mul == 0)

/-- The first written word with a field out of its range (R537): code 14 with that word's record. -/
def State.rangeFail (s : State) : List Touched → Option LoadFail
  | [] => none
  | t :: rest =>
    if ranges.any (fun r => r.covers t.key && !s.rangeOk r t.key) then some ⟨14, t.sect, t.kind, t.addr⟩ else s.rangeFail rest

end Sys2Proof.Machine
end

