-- ==== Sys2Proof/Machine/ChecksCap.lean ====
section
/-! DEFINITION. The load checks of the cap section (R48, R102, R282, R289, R292, R298, R300, R321, R327, R394, R410, R425, R448). -/
namespace Sys2Proof.Machine

/-- The code of the first condition that holds. -/
def firstCode : List (Bool × Nat) → Option Nat
  | [] => none
  | (c, k) :: t => if c then some k else firstCode t

/-- A point its island's wiring does not provide (R48). -/
def State.pointUnwired (s : State) (p : Nat) : Bool :=
  s.bit (F.PTn_CFG.EN p) && (match s.get (F.ISLn_CFG.WIRE (p / 4)) with
    | 0 => p % 4 != 0
    | 1 => 1 < p % 4
    | _ => false)

/-- Metering (R48, Table 2.8). -/
def State.mtrCheck (s : State) : Option Nat :=
  firstCode [
    ((List.range 8).any s.pointUnwired, 14),
    ((List.range 16).any (fun c => s.get (F.CHn_CFG.TYPE c) == 3 && !(12 ≤ s.get (F.CHn_CFG.LEAK c) && s.get (F.CHn_CFG.LEAK c) ≤ 20)), 14)]

/-- The source and time settings of CSB (R282, R289, R410). -/
def State.csbCheck (s : State) : Option Nat :=
  let alt := s.bit F.CSB_CFG.ALT_MODE
  let role := fun (r : Nat) => (List.range 8).filter (fun n => s.get (F.CSB_FOn_CFG.ROLE n) == r)
  let held := fun (r : Nat) => (role r).any (fun n => s.bit (F.CSB_FOn_CFG.HOLD n))
  let fbs := ((List.range 8).filter (fun n => s.bit (F.CSB_FOn_CFG.FB_EN n))).map (fun n => s.get (F.CSB_FOn_CFG.FB_IDX n))
  firstCode [
    (s.get F.CSB_CFG.PH0 == 0 || (s.get F.CSB_CFG.PH1 == 0 && !alt), 14),
    (alt && (s.bit F.CSB_CFG.SYNC_EN || s.get F.CSB_ALTP.ALT_PLIM != 0), 14),
    (!s.islPresent 1 && (!alt || s.get F.CSB_CFG.PH1 != 0), 14),
    (s.get F.CSB_TIME0.FB_T ≤ s.get F.CSB_TIME1.BRK_T, 14),
    (s.bit F.CSB_CFG.RMS_MODE && s.get F.CSB_RMS.UV < 700, 14),
    (held 1 && held 2, 15),
    (repeats (if alt then s.get F.CSB_CFG.ALT_FI :: fbs else fbs), 15)]

/-- The load groups (R292). -/
def State.groupCheck (s : State) : Option Nat :=
  let gs := s.entries 12 0 16 64 0
  let outs := fun (n : Nat) => (gs.filter (fun g => s.get (T.CSB_GRP.OUT_KIND g) == 0 && s.get (T.CSB_GRP.OUT_ADDR g) % 8 == n)).length
  let rcls := fun (n : Nat) => (gs.filter (fun g => s.get (T.CSB_GRP.RCL_KIND g) == 1 && s.get (T.CSB_GRP.RCL_ADDR g) % 8 == n)).length
  let absent := fun (kind addr : Nat) (k : Nat) => kind == k && !s.stnPresent (addr / 4096)
  firstCode [
    (gs.any (fun g => s.get (T.CSB_GRP.CLASS g) == 0 && s.get (T.CSB_GRP.ON_ALT g) != 0), 14),
    (gs.any (fun g => s.get (T.CSB_GRP.ON_ALT g) == 2 && (s.get (T.CSB_GRP.CLASS g) != 2 || s.get (T.CSB_GRP.RCL_KIND g) == 0)), 14),
    (gs.any (fun g => absent (s.get (T.CSB_GRP.OUT_KIND g)) (s.get (T.CSB_GRP.OUT_ADDR g)) 1 ||
      absent (s.get (T.CSB_GRP.RCL_KIND g)) (s.get (T.CSB_GRP.RCL_ADDR g)) 2 || absent (s.get (T.CSB_GRP.ACK_KIND g)) (s.get (T.CSB_GRP.ACK_ADDR g)) 3), 14),
    ((List.range 8).any (fun n => (s.get (F.CSB_FOn_CFG.ROLE n) == 3 && outs n != 1) || (s.get (F.CSB_FOn_CFG.ROLE n) == 5 && rcls n != 1)), 15),
    ((List.range 8).any (fun n => (outs n != 0 && s.get (F.CSB_FOn_CFG.ROLE n) != 3) || (rcls n != 0 && s.get (F.CSB_FOn_CFG.ROLE n) != 5)), 15)]

/-- The fabric (R321, R327). -/
def State.fabCheck (s : State) : Option Nat :=
  firstCode [
    (80 < s.get F.FAB_RES.RES5 + s.get F.FAB_RES.RES6 + s.get F.FAB_RES.RES7, 14),
    (s.get F.FAB_RETRY.WIN_HOLD * 1000 ≤ (s.get F.FAB_RETRY.RETRY_N + 1) * s.get F.FAB_RETRY.RETRY_MS, 14)]

/-- The fault sources whose ALARM bit may not be cleared (Table 17.4, *min*). -/
def minAlarms : List Nat := [1, 2, 5, 6, 7, 10, 11, 12, 13, 17, 18, 22, 24]

/-- SAF (R425). -/
def State.safCheck (s : State) : Option Nat := firstCode [(minAlarms.any (fun k => !s.bit (F.SAFn_CFG.ALARM k)), 14)]

/-- The mittens of the table: KEY_ID and USAGE. -/
def State.mittens (s : State) : List (Nat × Nat) :=
  s.words.filterMap (fun e =>
    let m := mittenOf e.2
    if tabKey 17 0 ≤ e.1 && e.1 < tabKey 17 (64 * 4160) && (e.1 - tabKey 17 0) % 64 == 0 && m.2.1 != 0 then some (m.1, m.2.1) else none)

/-- The mitten table (R448); `ids` the KEY_IDs station entries name. -/
def State.mittenCheck (s : State) (ids : List Nat) : Option Nat :=
  let ms := s.mittens
  firstCode [
    (repeats (ms.map Prod.fst) || 4 < (ms.filter (fun m => m.2 == 2 || m.2 == 3)).length, 15),
    (ids.any (fun k => !ms.contains (k, 1)), 15)]

/-- The cap station table (R102, R111, R394). -/
def State.capStnCheck (s : State) : Option Nat :=
  let es := s.entries 2 0 64 32 0
  let g := fun (i : Nat) (f : Nat → Fld) => s.get (entF (tabKey 2 (64 * i)) f)
  let wire := fun (i : Nat) => s.wireOf (g i T.SIO_STN.PORT) (g i T.SIO_STN.IPV6) (g i T.SIO_STN.OUT_LEN)
  firstCode [
    (es.any (fun i => !s.stnPresent (g i T.SIO_STN.STN)), 14),
    (es.any (fun i => g i T.SIO_STN.IN_LEN == 0), 14),
    (es.any (fun i => g i T.SIO_STN.PERIOD != 0 &&
      (250 * g i T.SIO_STN.PERIOD ≤ g i T.SIO_STN.IN_PHASE || 250 * g i T.SIO_STN.PERIOD ≤ g i T.SIO_STN.OUT_PHASE)), 14),
    (repeats (es.map (fun i => g i T.SIO_STN.STN)), 15),
    (es.any (fun i => es.any (fun j => i < j && g i T.SIO_STN.PORT == g j T.SIO_STN.PORT &&
      !spaced 100000 (g i T.SIO_STN.OUT_PHASE % 100000) (wire i) 100000 (g j T.SIO_STN.OUT_PHASE % 100000) (wire j))), 15)]

/-- The cap loop table (R197). -/
def State.capLoopCheck (s : State) : Option Nat :=
  let es := s.entries 2 0x800 48 64 12
  firstCode [
    (es.any (fun k => !(3 ≤ s.get (T.CFG_CLOOP.DEST_DTYPE k) && s.get (T.CFG_CLOOP.DEST_DTYPE k) ≤ 5)), 14),
    (es.any (fun k => (s.get (T.CFG_CLOOP.PV_KIND k) < 2 && !s.stnPresent (s.get (T.CFG_CLOOP.PV_ADDR k) / 4096)) ||
      !s.stnPresent (s.get (T.CFG_CLOOP.DEST_ADDR k) / 4096)), 14)]

/-- Station ports (Table 4.8). -/
def State.portCheck (s : State) : Option Nat :=
  firstCode [((List.range 2).any (fun p => s.bit (F.SIO_PORTn_CFG.VLAN p) &&
    !(1 ≤ s.get (F.SIO_PORTn_CFG.VID p) && s.get (F.SIO_PORTn_CFG.VID p) ≤ 4094)), 14)]

/-- Every rule of the cap section: the first breach's code. -/
def State.capChecks (s : State) : Option Nat :=
  let ids := (s.entries 2 0 64 32 0).map (fun i => s.get (entF (tabKey 2 (64 * i)) T.SIO_STN.KEY_ID))
  [s.mtrCheck, s.csbCheck, s.groupCheck, s.fabCheck, s.safCheck, s.portCheck, s.capStnCheck, s.capLoopCheck, s.mittenCheck ids].findSome? id

end Sys2Proof.Machine
end

