-- ==== Sys2Proof/Machine/Saf.lean ====
section
/-! DEFINITION. Functional safety (chapter 17): the Gauntlet's supervision of the complexes, its watchdog, diagnostics, the trip
copies, the release of safe states. -/
namespace Sys2Proof.Machine

/-! ### The complexes (R415 to R419) -/

/-- SAF_CX_STAT's state and ready fields of a complex (0 A, 1 B). -/
def cxFld (n : Nat) : Fld := if n = 0 then F.SAF_CX_STAT.CXA else F.SAF_CX_STAT.CXB
def rdyFld (n : Nat) : Fld := if n = 0 then F.SAF_CX_STAT.RDYA else F.SAF_CX_STAT.RDYB

/-- A requester's freezes and read shadows end (R64, R416, R481). -/
def State.dropRequester (s : State) (q : Nat) : State :=
  { s with freezes := s.freezes.filter (fun f => f.rq != q), shadows := s.shadows.filter (fun e => e.1 != q),
           nsv := { s.nsv with frozen := s.nsv.frozen.filter (fun e => e.1 != q) } }

/-- Every KMP session ends (R416, R511). -/
def State.kmpEnd (s : State) : State :=
  ({ ([4, 5, 6, 7].foldl State.dropRequester s) with kmp := [] }).set F.SYS_MGT_STAT.SESS 0

/-- NOACT follows the complexes, and the watchdog is armed where none is ACTIVE and WD_DELAY is not 0 (R419). -/
def State.updNoAct (s : State) : State :=
  let no := s.activeCx.isNone
  let arm := no && s.get F.SAF_CFG.WD_DELAY != 0
  let s1 := ({ s with saf := { s.saf with wdArmed := arm } }.setBit F.SAF_CX_STAT.NOACT no).setBit F.SAF_STAT.WDOG arm
  s1.updAlarm

/-- A complex becomes FAILED (R416, R417), with the takeover of R418, the watchdog of R419 and what it means to an update (R479, R480,
R482); the source is then raised with an INDEX. -/
def State.complexFailed (s : State) (n src : Nat) : State :=
  let st := s.get (cxFld n)
  if st = 0 ∨ st = 3 then s
  else
    let other := 1 - n
    let wasActive := st == 1
    let take := wasActive && s.get (cxFld other) == 2 && s.bit (rdyFld other)
    let h := s.get F.UPD_STAT.HSTATE
    let s1 := (((s.set (cxFld n) 3).set (rdyFld n) 0).dropRequester n)
    let s2 := if wasActive then s1.kmpEnd else s1
    let s3 := if take then
        (((s2.set (cxFld other) 1).set (rdyFld other) 0).set F.UPD_FW_GEN.GEN (s2.get F.UPD_SB_GEN.GEN)).set F.UPD_SB_GEN.GEN 0
      else s2
    let masked := s.get F.UPD_PROB_MASK.MASK / 2 ^ src % 2 == 1
    let s4 :=
      if (h = 1 ∨ h = 2 ∨ h = 3) ∧ (!wasActive || take) then s3.updReject
      else if (h = 4 ∧ wasActive ∧ masked) ∨ (h = 6 ∧ take) then s3.updReject
      else s3
    let s5 := s4.updNoAct
    s5.raiseWith src n take s5.saf.wdArmed

/-- LOCKSTEP_MISMATCH (R416, R421): a mismatch, or an uncorrectable error in the complex's TCM. -/
def lockstepMismatch (cx : Nat) (tcm : Bool) (s : State) : State :=
  if cx < 2 then
    if tcm then (s.inc F.SAF_ECC_UE.COUNT).complexFailed cx 3 else s.complexFailed cx 1
  else s

def execLockstepMismatch (dt cx : Nat) (tcm : Bool) (s : State) : Host.Outcome State Fault Refusal :=
  .next (lockstepMismatch cx tcm (s.elapse dt)).settle

/-- The heartbeat supervision of a complex. -/
def State.heart (s : State) (n : Nat) : Heart := if n = 0 then s.saf.hbA else s.saf.hbB
def State.setHeart (s : State) (n : Nat) (h : Heart) : State :=
  { s with saf := if n = 0 then { s.saf with hbA := h } else { s.saf with hbB := h } }

/-- One step of the challenge's LFSR in Fibonacci form (R417). -/
def lfsrStep (c : BitVec 16) : BitVec 16 :=
  let b := xor (xor (c.getLsbD 15) (c.getLsbD 13)) (xor (c.getLsbD 12) (c.getLsbD 10))
  (c <<< 1) ||| (if b then 1#16 else 0#16)

/-- One complex at a 5 ms instant: the interval judged, the LFSR stepped, a new challenge placed. -/
def State.heartBeat (s : State) (n : Nat) : State :=
  let h := s.heart n
  let run := fun (s : State) => s.get (cxFld n) == 1 || s.get (cxFld n) == 2
  let missed := h.placed && run s && (!h.answered || h.wrong)
  let miss := if h.placed && run s then (if missed then h.miss + 1 else 0) else h.miss
  let c := lfsrStep h.lfsr
  let s1 := s.setHeart n { h with lfsr := c, miss := miss, answered := false, wrong := false, placed := false }
  let s2 := if missed ∧ 2 ≤ miss then s1.complexFailed n 2 else s1
  if run s2 then (s2.setHeart n { s2.heart n with placed := true }).set (F.SAF_HBn_CHAL.C n) c.toNat else s2

/-- HEARTBEAT_CHALLENGE (R417). -/
def heartbeatChallenge (s : State) : State := (s.heartBeat 0).heartBeat 1

def execHeartbeatChallenge (dt : Nat) (s : State) : Host.Outcome State Fault Refusal := .next (heartbeatChallenge (s.elapse dt)).settle

/-- HB_RESP_WRITE (R417): only complex n answers. -/
def hbResp (rq : Rq) (n : Nat) (v : Word) (s : State) : State :=
  if rq.num ≠ n then s.flag F.SAF_ERR.HB_WR
  else
    let h := s.heart n
    let c := s.get (F.SAF_HBn_CHAL.C n)
    let good := v.toNat / 65536 == c && v.toNat % 65536 == 65535 - c
    s.setHeart n (if good then { h with answered := true } else { h with wrong := true })

/-- GAUNTLET_WATCHDOG_EXPIRY (R419): the full reset, deferred while CSB is transferring. -/
def gauntletWatchdog (s : State) : State :=
  if !s.saf.wdArmed then s
  else if csbBusyState (s.get F.CSB_STAT.STATE) then { s with saf := { s.saf with wdDeferred := true } }
  else s.watchdogReset

def execGauntletWatchdogExpiry (dt : Nat) (s : State) : Host.Outcome State Fault Refusal := .next (gauntletWatchdog (s.elapse dt)).settle

/-- WATCHDOG_DEFER_LIMIT (R419): 5 s after WD_DELAY a deferred reset takes place. -/
def watchdogDeferLimit (s : State) : State := if s.saf.wdDeferred then s.watchdogReset else s

def execWatchdogDeferLimit (dt : Nat) (s : State) : Host.Outcome State Fault Refusal := .next (watchdogDeferLimit (s.elapse dt)).settle

/-- GAUNTLET_OSC_CHECK (R414): a disagreement clears GAUNTLET_OK until a full reset passes the check. -/
def gauntletOsc (ok : Bool) (s : State) : State :=
  if ok then (if s.saf.gFailed then s else (s.set F.SAF_STAT.GAUNTLET_OK 1).updAlarm)
  else ({ s with saf := { s.saf with gFailed := true } }.set F.SAF_STAT.GAUNTLET_OK 0).raise 24 0

def execGauntletOscCheck (dt : Nat) (ok : Bool) (s : State) : Host.Outcome State Fault Refusal := .next (gauntletOsc ok (s.elapse dt)).settle

/-! ### Diagnostics (R420 to R424) -/

/-- An uncorrectable SRAM word (R421): its region (Table 17.4) and address; a word of the page cache reads 0 from then on, one of a TCM makes
its complex FAILED. -/
def State.sramUe (s : State) (e : Nat × Nat) : State :=
  let s1 := s.inc F.SAF_ECC_UE.COUNT
  if e.1 < 2 then s1.complexFailed e.1 3
  else
    let s2 := if e.1 = 3 then { s1 with cache := memClear s1.cache (e.2 / 8 * 8) 8 } else s1
    s2.raise 3 e.1

/-- SRAM_SCRUB (R421): `ce` words corrected, `ue` uncorrectable ones found, a pass completed. -/
def sramScrub (ce : Nat) (ue : List (Nat × Nat)) (pass : Bool) (s : State) : State :=
  let s1 := ue.foldl State.sramUe (s.addSat F.SAF_ECC_CE.COUNT ce)
  if pass then s1.inc F.SAF_SCRUB_S.COUNT else s1

def execSramScrub (dt ce : Nat) (ue : List (Nat × Nat)) (pass : Bool) (s : State) : Host.Outcome State Fault Refusal :=
  .next (sramScrub ce ue pass (s.elapse dt)).settle

/-- DRAM_SCRUB (R422): an uncorrectable word of the station pages reads 0 until written. -/
def dramScrub (ce : Nat) (ue : List Nat) (pass : Bool) (s : State) : State :=
  let s1 := ue.foldl (fun (s : State) a =>
    let s1 := s.inc F.SAF_ECC_UE.COUNT
    ({ s1 with dram := memClear s1.dram (a / 8 * 8) 8 }).raise 4 0) (s.addSat F.SAF_ECC_CE.COUNT ce)
  if pass then s1.inc F.SAF_SCRUB_D.COUNT else s1

def execDramScrub (dt ce : Nat) (ue : List Nat) (pass : Bool) (s : State) : Host.Outcome State Fault Refusal :=
  .next (dramScrub ce ue pass (s.elapse dt)).settle

/-- REG_CRC_CHECK (R423, R424): the stores whose recomputed CRC differs: 0 cap, 1 full, 2 the Gauntlet's. -/
def regCrcCheck (diff : List Nat) (s : State) : State :=
  [0, 1, 2].foldl (fun s k => if diff.contains k then s.raise 5 k else s) s

def execRegCrcCheck (dt : Nat) (diff : List Nat) (s : State) : Host.Outcome State Fault Refusal := .next (regCrcCheck diff (s.elapse dt)).settle

/-- The reference CRCs of the cap commit, the full commit and an exchange (R423): CRC-32C over fields in an order the spec does not state. -/
def State.storeCrcCap (s : State) : State := (s.set F.SAF_CRC_CAP.CRC (s.free % 2 ^ 32)).nextFree
def State.storeCrcFull (s : State) : State := (s.set F.SAF_CRC_FULL.CRC (s.free % 2 ^ 32)).nextFree

/-- The Gauntlet copies the trip settings of the SAFETY groups' trip members (R424). -/
def State.gauntletCopy (s : State) : State :=
  let ms := s.enabledSlots.filter (fun n => s.bit (T.LPE_SLOT.GRP_EN n) && s.bit (T.LPE_SLOT.TRIP_EN n) && s.get (T.LPE_SLOT.SAFETY n) != 0)
  { s with saf := { s.saf with trips := ms.map (fun n =>
      (⟨n, s.get (T.LPE_SLOT.GRP n), s.getw (T.LPE_SLOT.TRIP n), s.get (T.LPE_SLOT.TRIP_DIR n), s.get (T.LPE_SLOT.TRIP_N n), 0⟩ : TripCopy)) } }

/-- MONITOR_TRIP (R420): clock (6), voltage (7) or die temperature (8, with the temperature in 0.1 °C); a domain that is off is not
supervised. -/
def monitorTrip (src idx : Nat) (temp : Int) (s : State) : State :=
  if src = 6 then s.raise 6 idx
  else if src = 7 then (if idx = 16 ∨ s.get F.PWR_DOM_STAT.ON / 2 ^ idx % 2 = 1 then s.raise 7 idx else s)
  else if src = 8 then
    let s1 := s.seti F.SAF_TEMP.T temp
    if 1200 < temp then s1.raise 8 0 else s1
  else s

def execMonitorTrip (dt src idx : Nat) (temp : Int) (s : State) : Host.Outcome State Fault Refusal :=
  .next (monitorTrip src idx temp (s.elapse dt)).settle

/-- TRIP_STALE (R424): no evaluation of a trip member for 3 × T + 1 ms after one was due; its group trips. -/
def tripStale (n : Nat) (s : State) : State :=
  match s.saf.trips.find? (fun t => t.slot == n) with
  | some t => (s.raise 18 t.grp).ownTrip t.grp false
  | none => s

def execTripStale (dt slot : Nat) (s : State) : Host.Outcome State Fault Refusal := .next (tripStale slot (s.elapse dt)).settle

/-! ### Safe states (R429) -/

/-- A latched source selects SF-k. -/
def State.safeHeld (s : State) (k : Nat) : Bool :=
  (List.range 32).any (fun src => s.get F.SAF_FLT_LAT.LAT / 2 ^ src % 2 == 1 && s.get (F.SAFn_CFG.SAFE src) / 2 ^ (k - 1) % 2 == 1)

/-- The release of SF-k. -/
def State.releaseSafe (s : State) (k : Nat) : State :=
  if s.safeHeld k then s.flag F.SAF_ERR.REL_REJ
  else
    let s1 := s.set ⟨R.SAF_STAT, 3 + k, 1⟩ 0
    match k with
    | 1 => if s.csb.sf1Off then (List.range 8).foldl State.driveFo { s1 with csb := { s1.csb with sf1Off := false } } else s1
    | 4 => (s1.fillQueue 0).fillQueue 1
    | _ => s1

/-- SAFE_STATE_RELEASE: a write of SAF_CTRL. -/
def safeStateRelease (v : Word) (s : State) : State :=
  [1, 2, 3, 4].foldl (fun s k => if v.getLsbD (k - 1) then s.releaseSafe k else s) s

end Sys2Proof.Machine
end

