-- ==== Sys2Proof/Machine/Dom.lean ====
section
/-! DEFINITION. The power sequencer's domains (R29, R369 to R372): wakes one at a time with their gaps, gating, failures. -/
namespace Sys2Proof.Machine

/-- Domain d exists on the variant (R370). -/
def State.domPresent (s : State) (d : Nat) : Bool :=
  d < 16 && !(d == 11 && s.variant == .zkv4240) && !(d == 14 && s.variant != .zkv4280)
/-- The cap set and the full set (Table 15.2), in start order. -/
def State.capSet (s : State) : List Nat := [0, 1, 2, 3, 4, 5, 11, 12].filter s.domPresent
def State.fullSet (s : State) : List Nat := [6, 7, 8, 9, 10, 13, 14, 15].filter s.domPresent

/-- A domain's bit of PWR_DOM_STAT and of PWR_DOM_FAIL. -/
def domFld (d : Nat) : Fld := ⟨R.PWR_DOM_STAT, d, 1⟩
def domFailFld (d : Nat) : Fld := ⟨R.PWR_DOM_FAIL, d, 1⟩
/-- The domain runs. -/
def State.domOn (s : State) (d : Nat) : Bool := s.bit (domFld d)

/-- The AWAKE bits of NSV and DOP follow their domains. -/
def State.showAwake (s : State) : State :=
  (s.setBit F.NSV_STAT.AWAKE (s.domOn 13 && s.pwr.phase == 3)).setBit F.DOP_STAT.AWAKE (s.domOn 14 && s.pwr.phase == 3)

/-- The sequencer takes the next domain, unless one wakes, a gap runs or a power-fail warning stands (R370, R380). -/
def State.nextDomain (s : State) : State :=
  if s.pwr.waking.isSome || s.pwr.gap || s.bit F.PWR_STAT.PFW then s
  else match s.pwr.queue with
    | [] => (({ s with pwr := { s.pwr with phase := if s.pwr.phase = 2 then 3 else s.pwr.phase } }).set F.PWR_STAT.SEQ 0).showAwake
    | d :: rest =>
      let s1 := { s with pwr := { s.pwr with waking := some (d, s.clock.up), queue := rest } }
      if s.pwr.phase = 2 && s.svc == 2 then s1.setSvc 3 else s1

/-- The sequencer starts a set (R370). -/
def State.startSet (s : State) (phase : Nat) (ds : List Nat) : State :=
  ({ s with pwr := { s.pwr with queue := s.pwr.queue ++ ds, phase := phase } }).set F.PWR_STAT.SEQ 1

/-- A wake request of NSV or DOP (R29): at once, or after the domain that wakes and its gap; NSV before DOP in one tick. -/
def State.wakeDomain (s : State) (d : Nat) : State :=
  let wakes := match s.pwr.waking with
    | some (x, _) => x == d
    | none => false
  if s.domOn d || wakes || s.pwr.queue.contains d || s.bit (domFailFld d) || !s.domPresent d then s
  else
    match s.pwr.waking with
    | some (14, u) =>
      if d = 13 ∧ u = s.clock.up then { s with pwr := { s.pwr with waking := some (13, u), queue := 14 :: s.pwr.queue } }
      else ({ s with pwr := { s.pwr with queue := if d = 13 then 13 :: s.pwr.queue else s.pwr.queue ++ [d] } })
    | _ => ({ s with pwr := { s.pwr with queue := if d = 13 then 13 :: s.pwr.queue else s.pwr.queue ++ [d] } }).nextDomain

/-- The sequencer gates a domain. -/
def State.gateDomain (s : State) (d : Nat) : State :=
  let s1 := { s with pwr := { s.pwr with
    waking := match s.pwr.waking with
      | some (x, u) => if x = d then none else some (x, u)
      | none => none
    queue := s.pwr.queue.filter (· != d) } }
  (s1.set (domFld d) 0).showAwake

/-- What a domain's start brings: UPD rebuilds its package (R471); RTA runs the ROM and is ACTIVE, RTB is STANDBY while loading (R415); the local inputs convert; NSV and DOP are gated again after the
initialisation of phase 2 (R370). -/
def State.domainRuns (s : State) (d : Nat) : State :=
  match d with
  | 0 => (s.set F.SAF_CX_STAT.CXA 1).updNoAct
  | 1 => s.updStart
  | 4 => s.set F.LIO_STAT.RUN 1
  | 15 => if s.svc = 3 then s.set F.SAF_CX_STAT.CXB 2 else s
  | 13 => if s.pwr.phase = 2 then s.set (domFld 13) 0 else s.showAwake
  | 14 => if s.pwr.phase = 2 then s.set (domFld 14) 0 else s.showAwake
  | _ => s

/-- DOMAIN_POWER_GOOD (R370): the waking domain is released, and the gap begins. -/
def domainPowerGood (d : Nat) (s : State) : State :=
  match s.pwr.waking with
  | some (x, _) =>
    if x = d then ((({ s with pwr := { s.pwr with waking := none, gap := true } }).set (domFld d) 1).domainRuns d) else s
  | none => s

def execDomainPowerGood (dt dom : Nat) (s : State) : Host.Outcome State Fault Refusal := .next (domainPowerGood dom (s.elapse dt)).settle

/-- PWR_GAP_EXPIRY (R370). -/
def pwrGapExpiry (s : State) : State := if s.pwr.gap then ({ s with pwr := { s.pwr with gap := false } }).nextDomain else s

def execPwrGapExpiry (dt : Nat) (s : State) : Host.Outcome State Fault Refusal := .next (pwrGapExpiry (s.elapse dt)).settle

/-- DOMAIN_FAIL (R372): no power-good within 1 ms; the next domain follows, but a failed RTA holds the module in reset. -/
def domainFail (d : Nat) (s : State) : State :=
  match s.pwr.waking with
  | some (x, _) =>
    if x ≠ d then s
    else
      let s1 := ((({ s with pwr := { s.pwr with waking := none } }).set (domFailFld d) 1).flag F.PWR_ERR.DOM_FAIL).raise 22 d
      if d = 0 then { s1 with pwr := { s1.pwr with queue := [], rtaFailed := true } }
      else s1.nextDomain
  | none => s

def execDomainFail (dt dom : Nat) (s : State) : Host.Outcome State Fault Refusal := .next (domainFail dom (s.elapse dt)).settle

end Sys2Proof.Machine
end

