-- ==== Sys2Proof/Machine/Rec.lean ====
section
/-! DEFINITION. The event recorder (chapter 20): channels and interval records, flushes into the archive, reclaiming, the cursor,
clearing. Queueing, coalescing and dropping of records stand in Flags. -/
namespace Sys2Proof.Machine

/-! ### Channels (R490 to R493) -/

/-- A channel's value and whether the sample is invalid (R490). -/
def State.chanValue (s : State) (c : Nat) : Word × Bool :=
  let a := s.get (T.REC_CH.ADDR c)
  let scaled := fun (x : Word) => f32lin (s.getw (T.REC_CH.A c)) x (s.getw (T.REC_CH.B c))
  let r : Word × Bool := match s.get (T.REC_CH.SRC c) with
    | 1 =>
      let st := a / 4096
      (scaled (s.inField st (a % 4096) (s.get (T.REC_CH.DTYPE c))).toReal, s.bufDrop st (s.newest st))
    | 2 => (s.aiVal (a % 16), s.aiInvalid (a % 16))
    | 3 => (s.pred a, !s.modelUsable || !s.sensValid a)
    | 4 => ((s.slot a).pv, false)
    | 5 => (s.getw (F.LPn_OUT.VALUE a), false)
    | 6 => (scaled (f32bits (.ofInt (s.ptValue (a % 8) (a / 16 % 16)))), s.bit (F.PTn_STAT.INV (a % 8)))
    | 7 => (s.gvar a, false)
    | _ => (0, true)
  (r.1, r.2 || (f32val r.1).notFinite)

/-- The histogram bin of a value (R491). -/
def State.binOf (s : State) (c : Nat) (x : Word) : Nat :=
  let lo := f32val (s.getw (T.REC_CH.LO c))
  let hi := f32val (s.getw (T.REC_CH.HI c))
  let v := f32val x
  if v.lt lo then 0
  else if hi.le v then 31
  else 1 + ((((v.sub lo).mul (.ofInt 30)).div (hi.sub lo)).floor).toNat

/-- Increment one element of a list. -/
def bump : List Nat → Nat → List Nat
  | [], _ => []
  | x :: t, 0 => (x + 1) :: t
  | x :: t, n + 1 => x :: bump t n

/-- A valid sample updates the accumulator (R491). -/
def RecAcc.take (a : RecAcc) (x : Word) (bin sec ns : Nat) : RecAcc :=
  let v := f32val x
  let mn := match a.min with
    | some (m, t) => if v.lt (f32val m) then some (x, sec, ns) else some (m, t)
    | none => some (x, sec, ns)
  let mx := match a.max with
    | some (m, t) => if (f32val m).lt v then some (x, sec, ns) else some (m, t)
    | none => some (x, sec, ns)
  { a with count := a.count + 1, sum := f64add a.sum (f64bits v), min := mn, max := mx, bins := bump a.bins bin }

/-- A channel's accumulator. -/
def State.chanAcc (s : State) (c : Nat) : RecAcc := (s.recd.acc.lookup c).getD (recAcc0 (s.ivStart c) true)
def State.setAcc (s : State) (c : Nat) (a : RecAcc) : State := { s with recd := { s.recd with acc := put c a s.recd.acc } }

/-- Close a channel's interval (R492): an interval record, and a fresh accumulator. -/
def State.closeInterval (s : State) (c : Nat) : State :=
  let a := s.chanAcc c
  let oor := a.bins.headD 0 != 0 || a.bins.getD 31 0 != 0
  let sev := if oor then s.get (T.REC_CH.SEV_OOR c) else s.get (T.REC_CH.SEV c)
  let mn := a.min.getD (0, 0, 0)
  let mx := a.max.getD (0, 0, 0)
  let s1 := s.queueRecord (fun q => .interval sev q (a.start % 2 ^ 32) c (a.step.toNat + 2 * a.partialIv.toNat) a.count a.invalid a.sum
    mn.1.toNat mn.2.1 mn.2.2 mx.1.toNat mx.2.1 mx.2.2 a.bins)
  (s1.inc F.REC_INT_CNT.COUNT).setAcc c (recAcc0 (s.ivStart c) false)

/-- The interval of a channel is over. -/
def State.intervalOver (s : State) (c : Nat) : Bool :=
  decide ((s.chanAcc c).start + max 1 (s.get (T.REC_CH.INTERVAL c)) ≤ s.clock.sec)

/-- REC asks PGR for its region (R493). -/
def State.askRegion (s : State) : State :=
  { s with recd := { s.recd with asked := true } }.recRegion (s.get F.REC_REG.GRAN)

/-- REC_CHANNEL_SAMPLE (R490, R491, R493). -/
def recSample (c : Nat) (s : State) : State :=
  if s.svc ≠ 4 ∨ !s.bit F.REC_STAT.RUN ∨ !s.bit (T.REC_CH.EN c) then s
  else
    let s0 := if s.recd.asked then s else s.askRegion
    if !s0.recd.granted then s0
    else
      let s1 := if (s0.chanAcc c).fwd || s0.intervalOver c then s0.closeInterval c else s0
      let v := s1.chanValue c
      let a := s1.chanAcc c
      if v.2 then s1.setAcc c { a with invalid := a.invalid + 1 }
      else s1.setAcc c (a.take v.1 (s1.binOf c v.1) s1.sec32 s1.nsNow)

def execRecChannelSample (dt ch : Nat) (s : State) : Host.Outcome State Fault Refusal := .next (recSample ch (s.elapse dt)).settle

/-- REC_INTERVAL_CLOSE (R492): every due channel in ascending order. -/
def recIntervalClose (s : State) : State :=
  if s.svc ≠ 4 ∨ !s.recd.granted then s
  else ((s.recd.acc.map Prod.fst).filter (fun c => s.intervalOver c && !(s.chanAcc c).fwd)).foldl State.closeInterval s

def execRecIntervalClose (dt : Nat) (s : State) : Host.Outcome State Fault Refusal := .next (recIntervalClose (s.elapse dt)).settle

/-- A step of module time marks the open intervals (R492). -/
def State.recStep (s : State) (fwd : Bool) : State :=
  { s with recd := { s.recd with acc := s.recd.acc.map (fun e => (e.1, { e.2 with step := true, fwd := e.2.fwd || fwd })) } }

/-- REC_REGION_RETRY (R493). -/
def recRetry (s : State) : State := if s.recd.asked && !s.recd.granted && s.svc == 4 then s.askRegion else s

def execRecRegionRetry (dt : Nat) (s : State) : Host.Outcome State Fault Refusal := .next (recRetry (s.elapse dt)).settle

/-! ### Records and blocks (R494, R495) -/

/-- A record's bytes (Tables 20.2, 20.3). -/
def RecRecord.bytes : RecRecord → List Byte
  | .event sev q sec ns src code index data rep lastMs =>
    [1] ++ leBytes sev 1 ++ leBytes 32 2 ++ leBytes q 4 ++ leBytes sec 4 ++ leBytes ns 4 ++ leBytes src 1 ++ [0] ++ leBytes code 2 ++
      leBytes index 4 ++ leBytes data 4 ++ leBytes rep 2 ++ leBytes lastMs 2
  | .interval sev q st ch fl cnt inv sum mn mns mnn mx mxs mxn bins =>
    [2] ++ leBytes sev 1 ++ leBytes 192 2 ++ leBytes q 4 ++ leBytes st 4 ++ leBytes ch 2 ++ leBytes fl 1 ++ [0] ++ leBytes cnt 4 ++
      leBytes inv 4 ++ leBytes sum.toNat 8 ++ leBytes mn 4 ++ leBytes mns 4 ++ leBytes mnn 4 ++ leBytes mx 4 ++ leBytes mxs 4 ++
      leBytes mxn 4 ++ leBytes 0 8 ++ bins.flatMap (fun b => leBytes b 4)

/-- The highest severity of records. -/
def maxSev (l : List RecRecord) : Nat := (l.map RecRecord.sev).foldl max 0

/-- A block's 4 096 bytes (R495). -/
def ArchBlock.bytes (b : ArchBlock) : List Byte :=
  let body := b.recs.flatMap RecRecord.bytes
  let head := leBytes b.bseq 4 ++ leBytes (maxSev b.recs) 1 ++ leBytes b.recs.length 1 ++ leBytes body.length 2 ++ List.replicate 20 0
  let rest := body ++ List.replicate (4064 - body.length) 0
  head ++ leBytes (crc32c (head ++ rest)).toNat 4 ++ rest

/-- Add a record to the last block it fits, in RSEQ order; no record spans two blocks (R495). -/
def packBlocks (acc : List (List RecRecord)) (r : RecRecord) : List (List RecRecord) :=
  match acc.reverse with
  | [] => [[r]]
  | b :: _ => if recBytes b + r.size ≤ 4064 then acc.dropLast ++ [b ++ [r]] else acc ++ [[r]]

/-- The highest severity of a segment. -/
def segSev (g : List (Option ArchBlock)) : Nat := (g.filterMap id).foldl (fun m b => max m (maxSev b.recs)) 0

/-- Remove the first element a predicate selects. -/
def dropOne {α : Type} (p : α → Bool) : List α → List α
  | [] => []
  | x :: t => if p x then t else x :: dropOne p t

/-- The oldest surviving block (R499). -/
def State.showFirst (s : State) : State :=
  match ((s.recd.segs.flatMap id).filterMap id).map ArchBlock.bseq with
  | [] => s
  | b :: t => s.set F.REC_BSEQ_FIRST.SEQ (t.foldl min b)

/-- A position at the archive's head: a segment is reclaimed where none is erased (R499). -/
def State.headRoom (s : State) : State :=
  let full := match s.recd.segs.getLast? with
    | some g => decide (64 ≤ g.length)
    | none => true
  if !full then s
  else if s.recd.segs.length < 1024 then { s with recd := { s.recd with segs := s.recd.segs ++ [[]] } }
  else
    let keep := s.get F.REC_CFG.KEEP_SEV
    let hi := (s.recd.segs.filter (fun g => decide (keep ≤ segSev g))).length
    let low := fun (g : List (Option ArchBlock)) => decide (segSev g < keep)
    let byAge := !(hi * 100 ≤ s.get F.REC_CFG.PROT_PCT * 1024) || !s.recd.segs.any low
    let taken := if byAge then s.recd.segs.head? else s.recd.segs.find? low
    let segs := if byAge then s.recd.segs.drop 1 else dropOne low s.recd.segs
    let s1 := ({ s with recd := { s.recd with segs := segs ++ [[]] } }).inc F.REC_RECLAIM_CNT.COUNT
    let s2 := if decide (keep ≤ segSev (taken.getD [])) then s1.flag F.REC_ERR.OVERWRITE_HI else s1
    s2.showFirst

/-- Program one position of the archive's head. -/
def State.program (s : State) (b : Option ArchBlock) : State :=
  let s1 := s.headRoom
  { s1 with recd := { s1.recd with segs := s1.recd.segs.dropLast ++ [(s1.recd.segs.getLast?.getD []) ++ [b]] } }

/-- Write a block whose NAND program fails `fails` times (R497): one failure costs a position, a second loses the block's records. -/
def State.writeBlock (s : State) (rs : List RecRecord) (fails : Nat) : State :=
  let q := (s.recd.bseq + 1) % 2 ^ 32
  if 2 ≤ fails then (((s.program none).program none).inc F.REC_NAND_ERR.COUNT).flag F.REC_ERR.NAND
  else
    let s0 := if fails = 1 then s.program none else s
    let s1 := s0.program (some ⟨q, rs⟩)
    ((({ s1 with recd := { s1.recd with bseq := q } }).set F.REC_BSEQ_LAST.SEQ q).inc F.REC_BLK_CNT.COUNT).showFirst

/-- REC_FLUSH_DONE (R497): `fails` are the program failures of its blocks, in order. A flush that ends while the archive is being cleared leaves
its records in the buffer (R501). -/
def recFlushDone (fails : List Nat) (s : State) : State :=
  match s.recd.flushing with
  | none => s
  | some rs =>
    if s.bit F.REC_STAT.CLEARING then
      ({ s with recd := { s.recd with pending := rs ++ s.recd.pending, flushing := none, again := true } }).set F.REC_STAT.FLUSHING 0
    else
      let blocks := rs.foldl packBlocks []
      let s1 := (blocks.zipIdx).foldl (fun (s : State) e => s.writeBlock e.1 (fails.getD e.2 0)) s
      let w := s1.recd.again && s1.recd.waitWrite
      let s2 := (({ s1 with recd := { s1.recd with flushing := none, again := false, waitWrite := false } }).set F.REC_STAT.FLUSHING 0).setBit
        F.REC_CTRL.FLUSH w
      let s3 := s2.showFill
      if s1.recd.again then s3.startFlush else s3

def execRecFlushDone (dt : Nat) (fails : List Nat) (s : State) : Host.Outcome State Fault Refusal := .next (recFlushDone fails (s.elapse dt)).settle

/-- REC_FLUSH_TIMER (R497). -/
def recFlushTimer (s : State) : State := if s.bit F.REC_STAT.RUN then s.startFlush else s

def execRecFlushTimer (dt : Nat) (s : State) : Host.Outcome State Fault Refusal := .next (recFlushTimer (s.elapse dt)).settle

/-- REC_FLUSH_WRITE (R497). -/
def recFlushWrite (v : Word) (s : State) : State :=
  if !v.getLsbD 0 then s
  else
    let s1 := s.set F.REC_CTRL.FLUSH 1
    let s2 := if s1.recd.flushing.isSome || s1.bit F.REC_STAT.CLEARING then { s1 with recd := { s1.recd with waitWrite := true } } else s1
    s2.startFlush

/-! ### Cursor, clear, start (R498, R500, R501) -/

/-- REC_CURSOR_WRITE (R500). -/
def recCursorWrite (v : Word) (s : State) : State :=
  (s.setw F.REC_CUR_SEQ.SEQ v).setWord R.REC_CUR_STAT 4

/-- REC_CURSOR_LOAD_DONE (R500): `bad` is the content as read where the block's CRC fails. -/
def recCursorDone (bad : Option (List Byte)) (s : State) : State :=
  if !s.bit F.REC_CUR_STAT.BUSY then s
  else
    let q := s.get F.REC_CUR_SEQ.SEQ
    match ((s.recd.segs.flatMap id).filterMap id).find? (fun b => b.bseq == q), bad with
    | none, _ => ({ s with recd := { s.recd with cursor := [] } }).setWord R.REC_CUR_STAT 2
    | some _, some c => ({ s with recd := { s.recd with cursor := c.take 4096 } }).setWord R.REC_CUR_STAT 8
    | some b, none => ({ s with recd := { s.recd with cursor := b.bytes } }).setWord R.REC_CUR_STAT 1

def execRecCursorLoadDone (dt : Nat) (bad : Option (List Byte)) (s : State) : Host.Outcome State Fault Refusal :=
  .next (recCursorDone bad (s.elapse dt)).settle

/-- A word of the cursor window. -/
def State.cursorWord (s : State) (a : Nat) : Word := BitVec.ofNat 32 (leNat ((s.recd.cursor.drop a).take 4))

/-- REC_CLEAR_WRITE (R501): only the key, only through KMP, not while a clear is in progress. -/
def recClear (rq : Rq) (v : Word) (s : State) : State :=
  match rq with
  | .kmp _ => if v = 0x5AFE0C1A#32 ∧ !s.bit F.REC_STAT.CLEARING then s.set F.REC_STAT.CLEARING 1 else s.flag F.REC_ERR.CLR_REJ
  | _ => s.flag F.REC_ERR.CLR_REJ

/-- REC_CLEAR_DONE (R501): every segment is erased; no block survives, so what REC_BSEQ_FIRST shows is open until one is written. -/
def recClearDone (s : State) : State :=
  if !s.bit F.REC_STAT.CLEARING then s
  else
    let s1 := ((({ s with recd := { s.recd with segs := [] } }).set F.REC_STAT.CLEARING 0).set F.REC_BSEQ_FIRST.SEQ (s.free % 2 ^ 32)).nextFree
    let s2 := s1.log 19 0x101 0 2
    if s2.recd.again && s2.recd.flushing.isNone then ({ s2 with recd := { s2.recd with again := false } }).startFlush else s2

def execRecClearDone (dt : Nat) (s : State) : Host.Outcome State Fault Refusal := .next (recClearDone (s.elapse dt)).settle

/-- REC runs from AON-up; BSEQ and RSEQ continue from the highest in the archive (R498). -/
def State.recUp (s : State) : State :=
  let bs := (s.recd.segs.flatMap id).filterMap id
  let q := (bs.flatMap ArchBlock.recs).foldl (fun m r => max m r.rseq) 0
  ({ s with recd := { s.recd with bseq := (bs.map ArchBlock.bseq).foldl max 0, rseq := q } }).set F.REC_STAT.RUN 1

/-- REC_ARCHIVE_START (R498): the archive's head is found and the START event queued. -/
def recArchiveStart (s : State) : State :=
  let s1 := ((s.set F.REC_BSEQ_LAST.SEQ s.recd.bseq).set F.REC_RSEQ.SEQ s.recd.rseq).showFirst
  s1.logData 19 0x100 0 (s1.word R.SYS_RST_CAUSE).toNat 2

def execRecArchiveStart (dt : Nat) (s : State) : Host.Outcome State Fault Refusal := .next (recArchiveStart (s.elapse dt)).settle

end Sys2Proof.Machine
end

