-- ==== Sys2Proof/Machine/Rtc.lean ====
section
/-! DEFINITION. The real-time clock (chapter 14): count, set, tracking, calibration, oscillator and backup, alarms. -/
namespace Sys2Proof.Machine

/-- Crystal cycles in `c` clocks of 4 ns, at the crystal's nominal 32.768 kHz. -/
def rtcCycles (c : Nat) : Nat := c * 32768 / 250000000

/-- How far the prescaler is after `n` cycles of a window under trim `cal` (R360): |cal| of the 2²⁰ cycles, evenly spaced, count twice
or not at all. -/
def rtcAdvance (cal : Int) (n : Nat) : Nat :=
  let k := n * cal.natAbs / 2 ^ 20
  if 0 ≤ cal then n + k else n - k

/-- RTC_FRAC now (R355): it stands at 32 767 until its carry comes. -/
def State.rtcFrac (s : State) : Nat :=
  min 32767 (s.rtc.frac + (rtcAdvance s.rtc.cal (rtcCycles s.rtc.win) - rtcAdvance s.rtc.cal (rtcCycles s.rtc.base)))

/-- Set the count's fraction at this instant. -/
def State.rtcSetFrac (s : State) (f : Nat) : State := { s with rtc := { s.rtc with frac := f, base := s.rtc.win } }

/-! ### Alarms (R363, R364) -/

/-- The 40-bit compare value and mask of alarm n. -/
def State.almSec (s : State) (n : Nat) : Nat := s.get (F.ALMn_SEC_LO.SEC n) + 2 ^ 32 * s.get (F.ALMn_SEC_HI.SEC n)
def State.almMask (s : State) (n : Nat) : Nat := s.get (F.ALMn_MASK_LO.MASK n) + 2 ^ 32 * s.get (F.ALMn_MASK_HI.MASK n)

/-- Second x matches: every bit not masked equals the compare value's. -/
def almMatch (v m x : Nat) : Bool := (List.range 40).all (fun b => m / 2 ^ b % 2 == 1 || x / 2 ^ b % 2 == v / 2 ^ b % 2)

/-- The first matching second at or after x: x itself, or x with one clear bit b set, the bits below it minimal. -/
def almNext (v m x : Nat) : Option Nat :=
  let low := fun b => (List.range b).foldl (fun acc i => if m / 2 ^ i % 2 = 1 then acc else acc + v / 2 ^ i % 2 * 2 ^ i) 0
  let cands := x :: ((List.range 40).filter (fun b => x / 2 ^ b % 2 == 0)).map (fun b => x / 2 ^ b * 2 ^ b + 2 ^ b + low b)
  (cands.filter (fun c => c < 2 ^ 40 && almMatch v m c)).foldl (fun acc c => some (match acc with
    | none => c
    | some d => min c d)) none

/-- Alarm n fires. -/
def State.almFire (s : State) (n : Nat) : State :=
  let s1 := (s.flag (F.ALMn_STAT.FIRED n)).emit (.irq 15 n)
  if s.bit (F.ALMn_CTRL.ONESHOT n) then (s1.set (F.ALMn_STAT.SPENT n) 1).set (F.ALMn_CTRL.EN n) 0 else s1

/-- The count has entered second `s.rtc.sec`: an enabled alarm that matches fires. -/
def State.almEnter (s : State) (n : Nat) : State :=
  if s.bit (F.ALMn_CTRL.EN n) && almMatch (s.almSec n) (s.almMask n) s.rtc.sec then s.almFire n else s

/-- A commit moved the count from second `old` to the present one (R364). -/
def State.almStep (s : State) (old n : Nat) : State :=
  if !s.bit (F.ALMn_CTRL.EN n) then s
  else
    let skipped := decide (old < s.rtc.sec) && (match almNext (s.almSec n) (s.almMask n) (old + 1) with
      | some x => decide (x < s.rtc.sec)
      | none => false)
    let s1 := if skipped then s.flag (F.ALMn_STAT.SKIP n) else s
    if (skipped && s.bit (F.ALMn_CTRL.CATCHUP n)) || almMatch (s.almSec n) (s.almMask n) s.rtc.sec then s1.almFire n else s1

/-! ### Count and set -/

/-- RTC_SECOND_CARRY (R355, R363). -/
def rtcCarry (s : State) : State :=
  if s.rtc.stopped then s
  else
    let s1 := { s with rtc := { s.rtc with sec := (s.rtc.sec + 1) % 2 ^ 40, frac := 0, base := s.rtc.win } }
    (s1.almEnter 0).almEnter 1

def execRtcSecondCarry (dt : Nat) (s : State) : Host.Outcome State Fault Refusal := .next (rtcCarry (s.elapse dt)).settle

/-- A commit waits for the next crystal edge (R358). -/
def State.rtcCommit (s : State) (sec frac : Nat) : State :=
  { s with rtc := { s.rtc with pend := some (sec % 2 ^ 40, frac % 32768) } }.set F.RTC_STAT.BUSY 1

/-- RTC_SET_TAKE_EFFECT (R358, R364). -/
def rtcTakeEffect (s : State) : State :=
  match s.rtc.pend with
  | none => s
  | some (sec, frac) =>
    if s.rtc.stopped then s
    else
      let old := s.rtc.sec
      let s1 := ({ s with rtc := { s.rtc with sec := sec, frac := frac, base := s.rtc.win, pend := none } }).set F.RTC_STAT.BUSY 0
      if sec = old then s1 else (s1.almStep old 0).almStep old 1

def execRtcSetTakeEffect (dt : Nat) (s : State) : Host.Outcome State Fault Refusal := .next (rtcTakeEffect (s.elapse dt)).settle

/-- A write of a set, calibration or alarm register while a commit is pending is ignored (R358). -/
def State.rtcGuard (s : State) (f : State → State) : State := if s.bit F.RTC_STAT.BUSY then s.flag F.RTC_ERR.BUSY else f s

/-- A write of RTC_SET_SEC_LO (R358): commits the three set registers. -/
def rtcSet (v : Word) (s : State) : State :=
  s.rtcGuard (fun s => (s.setw F.RTC_SET_SEC_LO.SEC v).rtcCommit (v.toNat + 2 ^ 32 * s.get F.RTC_SET_SEC_HI.SEC) (s.get F.RTC_SET_FRAC.FRAC))

/-- A write of RTC_SET_FRAC or RTC_SET_SEC_HI. -/
def rtcSetPart (f : Fld) (v : Word) (s : State) : State := s.rtcGuard (fun s => s.set f v.toNat)

/-- Module time on the RTC's scale: seconds since 2000 and the fraction rounded to its LSB (R355, R359). -/
def State.rtcOfModule (s : State) : Nat × Nat :=
  let n := (s.clock.ns * 32768 + 500000000) / 1000000000
  let sec := (s.clock.sec + 2 ^ 48 - 946684800) % 2 ^ 48 + n / 32768
  (sec % 2 ^ 40, n % 32768)

/-- A step of module time is copied into the RTC with TRACK = 1 (R359). -/
def State.rtcStep (s : State) : State :=
  if s.bit F.RTC_CFG.TRACK then let t := s.rtcOfModule; s.rtcCommit t.1 t.2 else s

/-- RTC_TRACK_COMPARE (R359). -/
def rtcTrack (s : State) : State :=
  let sync := s.get F.TIM_STAT.SYNC
  if !s.bit F.RTC_CFG.TRACK || !(sync == 2 || sync == 4) then s
  else
    let t := s.rtcOfModule
    let d : Int := ((t.1 * 32768 + t.2 : Nat) : Int) - ((s.rtc.sec * 32768 + s.rtcFrac : Nat) : Int)
    if 2 < d.natAbs then (s.rtcCommit t.1 t.2).inc F.RTC_TRK_CNT.COUNT else s

def execRtcTrackCompare (dt : Nat) (s : State) : Host.Outcome State Fault Refusal := .next (rtcTrack (s.elapse dt)).settle

/-! ### Calibration -/

/-- A write of RTC_CAL (R358, R360). -/
def rtcCal (v : Word) (s : State) : State :=
  s.rtcGuard (fun s => if v.toNat % 512 = 256 then s.flag F.RTC_ERR.RANGE else s.set F.RTC_CAL.CAL v.toNat)

/-- RTC_CAL_WINDOW (R360): a new window begins and the trim last written is in force. -/
def rtcWindow (s : State) : State :=
  { s with rtc := { s.rtc with frac := s.rtcFrac, base := 0, win := 0, cal := s.geti F.RTC_CAL.CAL } }

def execRtcCalWindow (dt : Nat) (s : State) : Host.Outcome State Fault Refusal := .next (rtcWindow (s.elapse dt)).settle

/-! ### Oscillator and backup (R361, R362) -/

/-- RTC_OSC_STOP: no crystal edge for 2 ms. -/
def rtcOscStop (s : State) : State :=
  ({ s.rtcSetFrac s.rtcFrac with rtc := { (s.rtcSetFrac s.rtcFrac).rtc with stopped := true } }).flag F.RTC_STAT.OSF

def execRtcOscStop (dt : Nat) (s : State) : Host.Outcome State Fault Refusal := .next (rtcOscStop (s.elapse dt)).settle

/-- CRYSTAL_RESTART: the count resumes from its held value. -/
def crystalRestart (s : State) : State := { s with rtc := { s.rtc with stopped := false } }

def execCrystalRestart (dt : Nat) (s : State) : Host.Outcome State Fault Refusal := .next (crystalRestart (s.elapse dt)).settle

/-- A write to RTC_STAT: 1 to OSF clears it, clears VALID and re-arms the switch-over time-stamp. -/
def rtcOsfClear (v : Word) (s : State) : State :=
  if v.getLsbD 0 && !s.justSet R.RTC_STAT 0 then (s.set F.RTC_STAT.OSF 0).set F.RTC_BKTS_HI.VALID 0 else s

/-- CELL_SWITCHOVER. -/
def cellSwitchover (s : State) : State :=
  if s.rtc.onCell then s
  else
    let s1 := ({ s with rtc := { s.rtc with onCell := true } }).inc F.RTC_BKCNT.COUNT
    if s.bit F.RTC_BKTS_HI.VALID then s1
    else (((s1.set F.RTC_BKTS_SEC.SEC (s.rtc.sec % 2 ^ 32)).set F.RTC_BKTS_HI.SEC (s.rtc.sec / 2 ^ 32)).set F.RTC_BKTS_HI.FRAC s.rtcFrac).set
      F.RTC_BKTS_HI.VALID 1

def execCellSwitchover (dt : Nat) (s : State) : Host.Outcome State Fault Refusal := .next (cellSwitchover (s.elapse dt)).settle

/-- MAIN_SUPPLY_RETURN. -/
def mainSupplyReturn (s : State) : State := { s with rtc := { s.rtc with onCell := false } }

def execMainSupplyReturn (dt : Nat) (s : State) : Host.Outcome State Fault Refusal := .next (mainSupplyReturn (s.elapse dt)).settle

/-! ### Alarm registers -/

/-- The alarm registers by index: 0 CTRL, 1 SEC_LO, 2 SEC_HI, 3 MASK_LO, 4 MASK_HI. -/
def almReg (n which : Nat) : Nat :=
  match which with
  | 0 => R.ALMn_CTRL n
  | 1 => R.ALMn_SEC_LO n
  | 2 => R.ALMn_SEC_HI n
  | 3 => R.ALMn_MASK_LO n
  | _ => R.ALMn_MASK_HI n

/-- A write of an alarm register (R363): SPENT clears at a write of the compare value or the mask, or of ALMn_CTRL with EN = 1. -/
def alarmWrite (n which : Nat) (v : Word) (s : State) : State :=
  s.rtcGuard (fun s =>
    let s1 := s.writeWord (almReg n which) v
    if which = 0 && !v.getLsbD 0 then s1 else s1.set (F.ALMn_STAT.SPENT n) 0)

end Sys2Proof.Machine
end

