-- ==== Sys2Proof/Machine/Tim.lean ====
section
/-! DEFINITION. Module time (chapter 13): adjusting the clock, what a step of module time does to the other units, the PTP ports,
the choice of a parent and the servo. The action queue stands in Act, the launch queues in Sio. -/
namespace Sys2Proof.Machine

/-! ### Steps (R336, R337) -/

/-- A timed task's release instants lie at PHASE + k·PERIOD (250 µs units of module time): one of them is in (a, b] (ns). -/
def State.releaseWithin (s : State) (t a b : Nat) : Bool :=
  let p := s.get (T.PGR_TASK.PERIOD t) * 250000
  let f := s.get (T.PGR_TASK.PHASE t) * 250000
  p != 0 && f ≤ b && (a < f || (a - f) / p < (b - f) / p)

/-- The timed tasks of PGR that a forward step from `old` passed are released once, at the next tick boundary (R337). -/
def State.stepTasks (s : State) (old : Nat) : State :=
  let passed := (List.range 64).filter (fun t =>
    s.get (T.PGR_TASK.TYPE t) == 2 && s.bit (T.PGR_TASK.EN t) && s.releaseWithin t old s.now && !s.pgr.stepReleased.contains t)
  if s.bit F.PGR_STAT.SCHED then { s with pgr := { s.pgr with stepReleased := s.pgr.stepReleased ++ passed } } else s

/-- Every queued OUTPUT frame is withdrawn and placed at the first slot after the new time (R336). -/
def State.replaceLaunches (s : State) : State :=
  let ns := (s.lq 0 ++ s.lq 1).map Launch.stn
  ns.foldl State.placeOut (ns.foldl State.dropLaunch s)

/-- The effects of a step of module time whose new time stands in `s`; `old` is the time before it in ns (R336, R337, R350, R352, R359). -/
def State.afterStep (s : State) (old : Nat) : State :=
  let fwd := decide (old < s.now)
  let s1 := (((s.flag F.TIM_ERR.STEP).inc F.TIM_STEP_CNT.COUNT).flag F.LPE_ERR.STEP).set F.TIM_STAT.UNSET 0
  let s2 := s1.log 14 0 0 4
  let s3 := s2.rtcStep
  let s4 := if fwd then ((s3.stepTasks old).actionsStep).lateLaunches else s3.replaceLaunches
  (s4.hqcTimeStep).recStep fwd

/-- Module time steps by a signed number of ns. -/
def State.timeStep (s : State) (d : Int) : State := ({ s with clock := s.clock.step d }).afterStep s.now

/-! ### Adjusting the clock (R332, R335) -/

/-- The write is accepted: SYNC is FREERUN or GRANDMASTER. -/
def State.timOpen (s : State) : Bool := s.get F.TIM_STAT.SYNC == 0 || s.get F.TIM_STAT.SYNC == 4
/-- A write that adjusts the clock, accepted or ignored with SET_REJ. -/
def State.timGuard (s : State) (f : State → State) : State := if s.timOpen then f s else s.flag F.TIM_ERR.SET_REJ

/-- A write of TIM_ADDEND. -/
def timAddend (v : Word) (s : State) : State :=
  s.timGuard (fun s => if 3435974 < v.toInt.natAbs then s.flag F.TIM_ERR.RANGE else s.setw F.TIM_ADDEND.ADDEND v)

/-- A write of TIM_SLEW: the amount in ns at 4 ns × 100 ppm a clock, so 2 500 clocks for each ns; it replaces the remainder. -/
def timSlew (v : Word) (s : State) : State :=
  s.timGuard (fun s =>
    let n := v.toInt.natAbs * 2500
    ({ s with clock := { s.clock with slewLeft := n, slewRun := 0, slewNeg := decide (v.toInt < 0) } }).setBit F.TIM_STAT.SLEWING (n != 0))

/-- SLEW_COMPLETE: the whole amount has been applied. -/
def slewComplete (s : State) : State := if s.clock.slewLeft = 0 then s.set F.TIM_STAT.SLEWING 0 else s

def execSlewComplete (dt : Nat) (s : State) : Host.Outcome State Fault Refusal := .next (slewComplete (s.elapse dt)).settle

/-- A write of TIM_STEP. -/
def timStep (v : Word) (s : State) : State := s.timGuard (fun s => s.timeStep v.toInt)

/-- A write of TIM_SET_SEC_LO commits the set (R335); a TIM_SET_NS of 10⁹ or more makes no commit. -/
def timSet (v : Word) (s : State) : State :=
  s.timGuard (fun s =>
    let ns := s.get F.TIM_SET_NS.NS
    if 10 ^ 9 ≤ ns then s.flag F.TIM_ERR.RANGE
    else
      let sec := v.toNat + 2 ^ 32 * s.get F.TIM_SET_SEC_HI.SEC
      ({ s with clock := { s.clock with sec := sec, ns := ns, frac := 0 } }).afterStep s.now)

/-- TIM loads module time from the RTC when AON comes up (R333). -/
def State.timLoad (s : State) : State :=
  let c := { s.clock with sec := (s.rtc.sec + 946684800) % 2 ^ 48, ns := s.rtcFrac * 10 ^ 9 / 32768, frac := 0 }
  ({ s with clock := c }).setBit F.TIM_STAT.UNSET (s.bit F.RTC_STAT.OSF)

/-! ### PTP ports (R338 to R340) -/

/-- A PTP port with nothing under way. -/
def ptpPort0 : PtpPort := ⟨none, none, 0, 0, 0, none⟩
/-- A port's exchanges. -/
def State.ptp (s : State) (p : Nat) : PtpPort := look (fun _ => ptpPort0) s.tim.ports p
def State.setPtp (s : State) (p : Nat) (x : PtpPort) : State :=
  { s with tim := { s.tim with ports := store (fun _ => ptpPort0) p x s.tim.ports } }

/-- The module's clockIdentity (Table 13.1). -/
def State.devid (s : State) : Nat := s.get F.SYS_DEVID_LO.DEVID + 2 ^ 32 * s.get F.SYS_DEVID_HI.DEVID

/-- A fabric port that takes part in PTP: enabled for it, and UP. -/
def State.ptpFab (s : State) (p : Nat) : Bool :=
  p < 4 && s.portPresent p && s.bit (F.TIM_PORTn_CFG.PTP_EN p) && s.get (F.PORTn_STAT.STATE p) == 3
/-- A station port that is a PTP master (R340); ports 4 and 5. -/
def State.ptpStn (s : State) (p : Nat) : Bool := (p == 4 || p == 5) && s.bit F.TIM_CFG.STN_MASTER && s.bit (F.TIM_PORTn_CFG.PTP_EN p)
/-- A port's PTP state. -/
def State.pstate (s : State) (p : Nat) : Nat := s.get (F.TIM_PORTn_STAT.PSTATE p)

/-- A message leaves on a fabric port: counted, and the link counter taken (R308). -/
def State.fabSent (s : State) (p : Nat) : State :=
  let x := look (fun _ => fabPort0) s.fab.ports p
  (({ s with fab := { s.fab with ports := store (fun _ => fabPort0) p { x with tx := x.tx + 1 } s.fab.ports } }).inc (F.PORTn_TX_CNT.COUNT p))

/-- Send a PTP message. -/
def State.ptpSend (s : State) (p mtype seq : Nat) (corr : Int) (t : Int) : State :=
  let s1 := if p < 4 then s.fabSent p else s
  s1.emit (.ptp p mtype seq corr (t / 10 ^ 9).toNat (t % 10 ^ 9).toNat)

/-- Corrections of Table 13.2 and the carrier's latency (R342): an ingress or egress time-stamp at the reference plane, in ns. -/
def State.ingress (s : State) (p raw : Nat) : Int :=
  (raw : Int) - (if s.bit (F.TIM_PORTn_CFG.TYPE p) then 160 else 176) - s.get (F.TIM_PORTn_LAT.ING p)
def State.egress (s : State) (p raw : Nat) : Int :=
  (raw : Int) + (if s.bit (F.TIM_PORTn_CFG.TYPE p) then 96 else 112) + s.get (F.TIM_PORTn_LAT.EGR p)

/-- A quantity in 2⁻¹⁶ ns as whole ns for a register; which neighbour a fraction is shown as the spec does not state. -/
def State.shownNs (s : State) (x : Int) : Int := x / 65536 + (if x % 65536 = 0 then 0 else (s.free % 2 : Nat))

/-- The delay applied to a message received on a port, in 2⁻¹⁶ ns (R343). -/
def State.appliedDelay (s : State) (p : Nat) : Int := s.geti (F.TIM_PORTn_DELAY.NS p) * 65536 + s.geti (F.TIM_PORTn_ASYM.ASYM p) * 4096

/-- A message the profile does not support, or of another domain, is ignored (R338). -/
def State.ptpIgnored (s : State) (h : PtpHead) : Bool := !h.supported || h.domain != s.get F.TIM_PTP.DOMAIN
def State.ptpIgnore (s : State) : State := s.inc F.TIM_PTP_IGN_CNT.COUNT

/-! ### Choosing a parent (R339, R341) -/

/-- The module's own data set (Table 13.1). -/
def State.ownSet (s : State) : PtpAnnounce where
  prio1 := s.get F.TIM_PTP.PRIO1
  cls := if s.bit F.TIM_CFG.GM_EN then s.get F.TIM_PTP.CLASS else 255
  accuracy := 0xFE
  variance := 0xFFFF
  prio2 := s.get F.TIM_PTP.PRIO2
  identity := s.devid
  steps := 0
  sender := s.devid

/-- The attributes compared first, most significant first. -/
def annRank (a : PtpAnnounce) : List Nat := [a.prio1, a.cls, a.accuracy, a.variance, a.prio2, a.identity]

/-- First difference of two lists. -/
def firstLess : List Nat → List Nat → Option Bool
  | x :: xs, y :: ys => if x < y then some true else if y < x then some false else firstLess xs ys
  | _, _ => none

/-- Compare data sets received on ports pa and pb by a clock of identity `me` (IEEE 1588-2019, 9.3.4): a is better, and by topology only. -/
def dsBetter (me : Nat) (a b : PtpAnnounce) (pa pb : Nat) : Bool × Bool :=
  match firstLess (annRank a) (annRank b) with
  | some r => (r, false)
  | none =>
    if b.steps + 1 < a.steps then (false, false)
    else if a.steps + 1 < b.steps then (true, false)
    else if b.steps < a.steps then (false, a.sender < me)
    else if a.steps < b.steps then (true, b.sender < me)
    else if a.sender = b.sender then (pa < pb, true)
    else (a.sender < b.sender, true)

/-- The best of the foreign masters: its port and data set. -/
def State.bestMaster (s : State) : Option (Nat × PtpAnnounce) :=
  (s.tim.masters.filter (fun e => s.ptpFab e.1)).foldl (fun acc e =>
    match acc with
    | none => some e
    | some b => if (dsBetter s.devid e.2 b.2 e.1 b.1).1 then some e else some b) none

/-- A port's PTP state by the decision algorithm (R339): none of the ports of a module without a grandmaster originates. -/
def State.portDecision (s : State) (p : Nat) (best : Option (Nat × PtpAnnounce)) (gm : Bool) : Nat :=
  if !s.ptpFab p then (if p < 4 && s.portPresent p && s.bit (F.TIM_PORTn_CFG.PTP_EN p) then 1 else 0)
  else
    let here := s.tim.masters.lookup p
    match best with
    | some (bp, b) =>
      if bp = p then 3
      else if s.bit F.TIM_CFG.FAB_MODE then 4
      else match here with
        | none => 2
        | some e => if (dsBetter s.devid b e bp p).2 then 4 else 2
    | none =>
      if !gm then 1
      else if s.bit F.TIM_CFG.FAB_MODE then 4
      else match here with
        | none => 2
        | some e => if s.ownSet.cls < 128 && !(firstLess (annRank s.ownSet) (annRank e)).getD true then 4 else 2

/-- Enter a SYNC state; ACQUIRING starts the servo's counts anew. -/
def State.syncTo (s : State) (v : Nat) : State :=
  ({ s with tim := { s.tim with inLock := 0, overStep := 0, firstOffset := true } }).set F.TIM_STAT.SYNC v

/-- The decision algorithm (R339, R341): the parent, the grandmaster, every port's state and SYNC. `lost` is whether the parent was lost. -/
def State.bmca (s : State) (lost : Bool) : State :=
  let own := s.ownSet
  let fab := s.bestMaster
  let ownBetter := match fab with
    | none => true
    | some (_, b) => (firstLess (annRank own) (annRank b)).getD false || (s.bit F.TIM_CFG.GM_EN && own.cls < 128)
  let best := if ownBetter then none else fab
  let gm := best.isNone && s.bit F.TIM_CFG.GM_EN && !s.tampered
  let was := s.get F.TIM_STAT.SLAVE_PORT
  let sync := s.get F.TIM_STAT.SYNC
  let s1 := (List.range 4).foldl (fun s p => s.set (F.TIM_PORTn_STAT.PSTATE p) (s.portDecision p best gm)) s
  let s2 := [4, 5].foldl (fun s p => s.set (F.TIM_PORTn_STAT.PSTATE p) (if s.ptpStn p then 2 else 0)) s1
  match best with
  | some (p, b) =>
    let s3 := ((s2.set F.TIM_STAT.SLAVE_PORT p).set F.TIM_GM_LO.ID (b.identity % 2 ^ 32)).set F.TIM_GM_HI.ID (b.identity / 2 ^ 32)
    if was = p && (sync = 1 || sync = 2) && !lost then s3 else s3.syncTo 1
  | none =>
    let s3 := s2.set F.TIM_STAT.SLAVE_PORT 7
    if gm then ((s3.set F.TIM_GM_LO.ID (own.identity % 2 ^ 32)).set F.TIM_GM_HI.ID (own.identity / 2 ^ 32)).set F.TIM_STAT.SYNC 4
    else if lost || sync = 3 then s3.set F.TIM_STAT.SYNC 3
    else s3.set F.TIM_STAT.SYNC 0

/-- The master heard on a port is gone; if it was the parent, the parent is lost (R341). -/
def State.masterGone (s : State) (p : Nat) : State :=
  let lost := s.get F.TIM_STAT.SLAVE_PORT == p
  let s1 := ({ s with tim := { s.tim with masters := s.tim.masters.filter (fun e => e.1 != p) } }).setPtp p ptpPort0
  (if lost then s1.flag F.TIM_ERR.PARENT_LOST else s1).bmca lost

/-- A fabric port leaves or enters UP (R341). -/
def State.ptpPortDown (s : State) (p : Nat) : State := s.masterGone p
def State.ptpPortUp (s : State) (_p : Nat) : State := s.bmca false

/-- Tamper takes fabric time away (R330, R353). -/
def State.timTamper (s : State) : State :=
  let sync := s.get F.TIM_STAT.SYNC
  let s1 := ({ s with tim := { s.tim with masters := [] } })
  let s2 := (List.range 4).foldl (fun s p => s.set (F.TIM_PORTn_STAT.PSTATE p) (if s.pstate p = 0 then 0 else 1)) s1
  let had := sync == 1 || sync == 2 || sync == 3
  let s3 := (s2.set F.TIM_STAT.SLAVE_PORT 7).set F.TIM_STAT.SYNC (if had then 3 else 0)
  if sync = 1 ∨ sync = 2 then s3.flag F.TIM_ERR.PARENT_LOST else s3

/-- PTP_ANNOUNCE_RECEIVED (R338, R339): a master qualifies at its second Announce within four intervals (IEEE 1588-2019, 9.3.2.5). -/
def ptpAnnounce (h : PtpHead) (a : PtpAnnounce) (s : State) : State :=
  if 4 ≤ h.port then
    if s.ptpStn h.port then (s.ptpIgnore).flag F.TIM_ERR.ANN_STN else s
  else if !s.ptpFab h.port then s
  else if s.ptpIgnored h then s.ptpIgnore
  else if a.sender = s.devid || 255 ≤ a.steps then s
  else
    let x := s.ptp h.port
    let known := match s.tim.masters.lookup h.port with
      | some m => m.sender == a.sender
      | none => false
    let again := match x.once with
      | some (i, u) => i == a.sender && decide (s.clock.up - u ≤ 1000000000)
      | none => false
    if known || again then
      ({ s.setPtp h.port { x with once := some (a.sender, s.clock.up) } with
          tim := { (s.setPtp h.port { x with once := some (a.sender, s.clock.up) }).tim with masters := put h.port a s.tim.masters } }).bmca false
    else s.setPtp h.port { x with once := some (a.sender, s.clock.up) }

def execPtpAnnounceReceived (dt : Nat) (h : PtpHead) (a : PtpAnnounce) (s : State) : Host.Outcome State Fault Refusal :=
  .next (ptpAnnounce h a (s.elapse dt)).settle

/-- ANNOUNCE_TIMEOUT (R341): no Announce came on a port for ANN_TMO intervals. -/
def announceTimeout (p : Nat) (s : State) : State := if p < 4 then s.masterGone p else s

def execAnnounceTimeout (dt port : Nat) (s : State) : Host.Outcome State Fault Refusal := .next (announceTimeout port (s.elapse dt)).settle

/-! ### Link delay (R343) -/

/-- PTP_PDELAY_SEND (R338): a fabric port sends Pdelay_Req; `tx` is its raw egress time-stamp. -/
def pdelaySend (p tx : Nat) (s : State) : State :=
  if !s.ptpFab p then s
  else
    let x := s.ptp p
    (s.ptpSend p 2 x.txPd 0 0).setPtp p { x with pd := some (x.txPd, s.egress p tx), txPd := (x.txPd + 1) % 65536 }

def execPtpPdelaySend (dt port tx : Nat) (s : State) : Host.Outcome State Fault Refusal := .next (pdelaySend port tx (s.elapse dt)).settle

/-- PTP_PDELAY_REQ_RECEIVED (R338, R343): answered with Pdelay_Resp (t2) and its follow-up (t3). -/
def pdelayReq (h : PtpHead) (rx tx : Nat) (s : State) : State :=
  if !s.ptpFab h.port then s
  else if s.ptpIgnored h then s.ptpIgnore
  else (s.ptpSend h.port 3 h.seq 0 (s.ingress h.port rx)).ptpSend h.port 10 h.seq 0 (s.egress h.port tx)

def execPtpPdelayReqReceived (dt : Nat) (h : PtpHead) (rx tx : Nat) (s : State) : Host.Outcome State Fault Refusal :=
  .next (pdelayReq h rx tx (s.elapse dt)).settle

/-- PTP_PDELAY_RESP_RECEIVED (R343): the exchange completes; `t2` and `t3` as the neighbour corrected them. -/
def pdelayResp (h : PtpHead) (t2 t3 rx : Nat) (s : State) : State :=
  if !s.ptpFab h.port then s
  else if s.ptpIgnored h then s.ptpIgnore
  else
    let x := s.ptp h.port
    match x.pd with
    | some (q, t1) =>
      if q = h.seq then
        let d := (s.ingress h.port rx - t1) - ((t3 : Int) - (t2 : Int))
        let s1 := ((s.seti (F.TIM_PORTn_DELAY.NS h.port) (s.shownNs (d * 32768))).nextFree).setPtp h.port { x with pd := none }
        if s1.get F.TIM_STAT.SLAVE_PORT = h.port then (s1.seti F.TIM_PATH.NS (s1.shownNs (s1.appliedDelay h.port))).nextFree else s1
      else s
    | none => s

def execPtpPdelayRespReceived (dt : Nat) (h : PtpHead) (t2 t3 rx : Nat) (s : State) : Host.Outcome State Fault Refusal :=
  .next (pdelayResp h t2 t3 rx (s.elapse dt)).settle

/-! ### Synchronisation (R339, R341, R345) -/

/-- PTP_SYNC_RECEIVED: a Sync on the slave port is time-stamped and held for its Follow_Up; in transparent mode it goes out of every other UP
fabric port. -/
def ptpSync (h : PtpHead) (rx : Nat) (s : State) : State :=
  if 4 ≤ h.port || !s.ptpFab h.port then s
  else if s.ptpIgnored h then s.ptpIgnore
  else if s.pstate h.port ≠ 3 then s
  else
    let s1 := s.setPtp h.port { s.ptp h.port with sync := some (h.seq, s.ingress h.port rx) }
    if s1.bit F.TIM_CFG.FAB_MODE then
      (List.range 4).foldl (fun s p => if p ≠ h.port ∧ s.portPresent p ∧ s.get (F.PORTn_STAT.STATE p) = 3 then s.ptpSend p 0 h.seq 0 0 else s) s1
    else s1

def execPtpSyncReceived (dt : Nat) (h : PtpHead) (rx : Nat) (s : State) : Host.Outcome State Fault Refusal := .next (ptpSync h rx (s.elapse dt)).settle

/-- The servo takes an offset from master, in 2⁻¹⁶ ns (R341): a step, or steering within ±200 ppm by a control law the spec does not state. -/
def State.servo (s : State) (off : Int) : State :=
  let shown := clampI (-2147483648) 2147483647 (s.shownNs off)
  let s0 := (s.seti F.TIM_OFFSET.NS shown).nextFree
  let past := decide ((s.get F.TIM_SERVO.STEP_TH * 1000 * 65536 : Nat) < off.natAbs)
  let runs := if past then s.tim.overStep + 1 else 0
  let step := past && ((s.get F.TIM_STAT.SYNC == 1 && s.tim.firstOffset) || 4 ≤ runs)
  let near := decide (off.natAbs ≤ s.get F.TIM_SERVO.LOCK_TH * 10 * 65536)
  let locks := if near then s.tim.inLock + 1 else 0
  let s1 := { s0 with tim := { s0.tim with inLock := locks, overStep := if step then 0 else runs, firstOffset := false } }
  let s2 := if step then s1.timeStep (-(s.shownNs off))
    else ((s1.seti F.TIM_ADDEND.ADDEND (((s1.free % 6871949 : Nat) : Int) - 3435974)).nextFree).set F.TIM_STAT.UNSET 0
  if s2.get F.TIM_STAT.SYNC = 1 ∧ 16 ≤ locks then s2.set F.TIM_STAT.SYNC 2 else s2

/-- PTP_FOLLOW_UP_RECEIVED (R341, R345): `origin` the preciseOriginTimestamp in ns, `corr` the correctionField in 2⁻¹⁶ ns, `egress` the raw egress
time-stamps the forwarded Sync had by port. -/
def ptpFollowUp (h : PtpHead) (origin : Nat) (corr : Int) (egress : List (Nat × Nat)) (s : State) : State :=
  if 4 ≤ h.port || !s.ptpFab h.port then s
  else if s.ptpIgnored h then s.ptpIgnore
  else
    match (s.ptp h.port).sync with
    | some (q, t) =>
      if q ≠ h.seq ∨ s.pstate h.port ≠ 3 then s
      else
        let d := s.appliedDelay h.port
        let s0 := s.setPtp h.port { s.ptp h.port with sync := none }
        let s1 := if s0.bit F.TIM_CFG.FAB_MODE then
            egress.foldl (fun s e =>
              if e.1 < 4 ∧ e.1 ≠ h.port ∧ s.portPresent e.1 ∧ s.get (F.PORTn_STAT.STATE e.1) = 3 then
                s.ptpSend e.1 8 h.seq (corr + (s.egress e.1 e.2 - t) * 65536 + d) origin else s) s0
          else s0
        s1.servo (t * 65536 - ((origin : Int) * 65536 + corr + d))
    | none => s

def execPtpFollowUpReceived (dt : Nat) (h : PtpHead) (origin : Nat) (corr : Int) (egress : List (Nat × Nat)) (s : State) :
    Host.Outcome State Fault Refusal := .next (ptpFollowUp h origin corr egress (s.elapse dt)).settle

/-- FOLLOW_UP_TIMEOUT (R345): 100 ms after a Sync without its Follow_Up. -/
def followUpTimeout (p : Nat) (s : State) : State := s.setPtp p { s.ptp p with sync := none }

def execFollowUpTimeout (dt port : Nat) (s : State) : Host.Outcome State Fault Refusal := .next (followUpTimeout port (s.elapse dt)).settle

/-! ### Serving time (R338, R340) -/

/-- A port that serves time now: a station master, or a fabric port the decision algorithm made master. -/
def State.serves (s : State) (p : Nat) : Bool := s.ptpStn p || (s.ptpFab p && s.pstate p == 2)

/-- PTP_SYNC_SEND: a master port sends Sync and then Follow_Up with its egress time. -/
def ptpSyncSend (p tx : Nat) (s : State) : State :=
  if !s.serves p then s
  else
    let x := s.ptp p
    ((s.ptpSend p 0 x.txSync 0 0).ptpSend p 8 x.txSync 0 (s.egress p tx)).setPtp p { x with txSync := (x.txSync + 1) % 65536 }

def execPtpSyncSend (dt port tx : Nat) (s : State) : Host.Outcome State Fault Refusal := .next (ptpSyncSend port tx (s.elapse dt)).settle

/-- The data set the module announces: its parent's one step further, or its own. -/
def State.announced (s : State) : PtpAnnounce :=
  match s.tim.masters.lookup (s.get F.TIM_STAT.SLAVE_PORT) with
  | some b => { b with steps := b.steps + 1, sender := s.devid }
  | none => s.ownSet

/-- PTP_ANNOUNCE_SEND. -/
def ptpAnnounceSend (p : Nat) (s : State) : State :=
  if !s.serves p then s
  else
    let x := s.ptp p
    let s1 := if p < 4 then s.fabSent p else s
    (s1.emit (.announce p x.txAnn s.announced (s.get F.TIM_UTC_OFS.OFS) (s.bit F.TIM_UTC_OFS.VALID))).setPtp p
      { x with txAnn := (x.txAnn + 1) % 65536 }

def execPtpAnnounceSend (dt port : Nat) (s : State) : Host.Outcome State Fault Refusal := .next (ptpAnnounceSend port (s.elapse dt)).settle

/-- PTP_DELAY_REQ_RECEIVED (R340): a station's Delay_Req is answered with Delay_Resp, its receive time-stamp. -/
def ptpDelayReq (h : PtpHead) (rx : Nat) (s : State) : State :=
  if !s.ptpStn h.port then s
  else if s.ptpIgnored h then s.ptpIgnore
  else s.ptpSend h.port 9 h.seq 0 (s.ingress h.port rx)

def execPtpDelayReqReceived (dt : Nat) (h : PtpHead) (rx : Nat) (s : State) : Host.Outcome State Fault Refusal :=
  .next (ptpDelayReq h rx (s.elapse dt)).settle

end Sys2Proof.Machine
end

