-- ==== Sys2Proof/Machine/Fab.lean ====
section
/-! DEFINITION. The Pellizan fabric (chapter 12): ports and neighbours, addresses, link-state advertisements and routes, egress queues,
sending with retries. Arriving frames stand in FabRx. -/
namespace Sys2Proof.Machine

/-! ### Ports (R305, R311, R312) -/

/-- A port's state beyond its registers. -/
def State.fp (s : State) (p : Nat) : FabPort := look (fun _ => fabPort0) s.fab.ports p
def State.setFp (s : State) (p : Nat) (x : FabPort) : State :=
  { s with fab := { s.fab with ports := store (fun _ => fabPort0) p x s.fab.ports } }
/-- Its state of Table 12.1. -/
def State.fpState (s : State) (p : Nat) : Nat := s.get (F.PORTn_STAT.STATE p)
/-- The ports that are UP. -/
def State.upPorts (s : State) : List Nat := (List.range 4).filter (fun p => s.fpState p == 3)
/-- Own node address; 0 none. -/
def State.fabAddr (s : State) : Nat := s.get F.FAB_ADDR.ADDR
/-- FAB serves messages of its own: an address is CLAIMED (R313). -/
def State.fabLive (s : State) : Bool := s.bit F.FAB_STAT.RUN && s.get F.FAB_STAT.ADDR_STATE == 2

/-- A port enters the state that its enable, the fabric key and the link signal give; a new nonce from the entropy source at PROBE (R305, R311). -/
def State.portRest (s : State) (p : Nat) : State :=
  let x := s.fp p
  let st := if !(s.portPresent p && s.bit (F.PORTn_CFG.EN p)) then 0 else if !s.fab.khb then 5 else if !x.link then 1 else 2
  let s1 := (((((s.set (F.PORTn_STAT.STATE p) st).set (F.PORTn_STAT.MISS p) 0).set (F.PORTn_STAT.CAP p) 0).set (F.PORTn_STAT.NB_ADDR p) 0).set
    (F.PORTn_STAT.NB_PORT p) 0)
  let s2 := (s1.set (F.PORTn_NB_LO.DEVID p) 0).set (F.PORTn_NB_HI.DEVID p) 0
  let y : FabPort := { x with nb := none, cand := none, key := false, heard := false, hbRx := 0, queues := fabPort0.queues }
  if st = 2 then (s2.setFp p { y with nonce := s.free + 2 ^ 64 * s.nextFree.free }).nextFree.nextFree else s2.setFp p y

/-- The queues of a port are flushed and counted (R312). -/
def State.portFlush (s : State) (p : Nat) : State :=
  let x := s.fp p
  (s.addSat (F.PORTn_DROP_CNT.COUNT p) (x.queues.map List.length).sum).setFp p { x with queues := fabPort0.queues }

/-! ### Sending on a port (R308, R320 to R322) -/

/-- A frame's length on the wire: addresses and EtherType, header, payload, tag, FCS. -/
def fabLen (f : FabFrame) : Nat := 66 + f.payload.length

/-- Bytes a class queue holds (Table 12.5). -/
def queueCap (c : Nat) : Nat := if c = 7 then 16384 else if c = 5 then 65536 else 32768

/-- RESn of classes 5, 6, 7. -/
def State.classRate (s : State) (c : Nat) : Nat :=
  if c = 5 then s.get F.FAB_RES.RES5 else if c = 6 then s.get F.FAB_RES.RES6 else s.get F.FAB_RES.RES7

/-- The buckets filled up to now: RESn × 10 Mbit/s is RESn/200 byte a clock; depth 16 KiB (R321). -/
def State.refill (s : State) (p : Nat) : State :=
  let x := s.fp p
  let d := s.clock.up - x.tokUp
  s.setFp p { x with tokUp := s.clock.up, tokens := x.tokens.zipIdx.map (fun e => min (16384 * 200) (e.1 + s.classRate (5 + e.2) * d)) }

/-- A class may send a frame of this length: its bucket holds the tokens, or the class is not shaped. -/
def State.hasTokens (s : State) (p c n : Nat) : Bool := c < 5 || decide (n * 200 ≤ (s.fp p).tokens.getD (c - 5) 0)

/-- A frame leaves a port (R308): LCTR of the link, tokens taken, counted. -/
def State.transmit (s : State) (p : Nat) (f : FabFrame) (ended : Bool) : State :=
  let x := s.fp p
  let toks := if f.cls < 5 then x.tokens else x.tokens.set (f.cls - 5) (x.tokens.getD (f.cls - 5) 0 - (fabLen f) * 200)
  ((s.setFp p { x with tokens := toks }).fabSent p).emit (.fab p { f with lctr := x.tx + 1 } ended)

/-- A frame is queued at its egress port, or dropped and counted where its class queue is full (R320). -/
def State.enqueue (s : State) (p : Nat) (f : FabFrame) : State :=
  let x := s.fp p
  let q := x.queues.getD f.cls []
  if queueCap f.cls < (q.map fabLen).sum + (fabLen f) then s.inc (F.PORTn_DROP_CNT.COUNT p)
  else s.setFp p { x with queues := x.queues.set f.cls (q ++ [f]) }

/-- A frame would be cut through (R322): the port sends nothing, its class queue and every higher one are empty, its bucket holds enough. -/
def State.cutsThrough (s : State) (p : Nat) (f : FabFrame) (idle : List Nat) : Bool :=
  let s1 := s.refill p
  idle.contains p && (List.range 8).all (fun c => c < f.cls || ((s1.fp p).queues.getD c []).isEmpty) && s1.hasTokens p f.cls (fabLen f)

/-- The weight of a class 0 to 4 (R320). -/
def State.wrr (s : State) (c : Nat) : Nat := s.get ⟨R.FAB_WRR, 6 * c, 6⟩

/-- The class that sends next from a port: 7, 6, 5 in strict priority while their buckets allow, then round robin by weight; and the credits
left. -/
def State.nextClass (s : State) (p : Nat) : Option (Nat × List Nat) :=
  let x := s.fp p
  let head := fun c => (x.queues.getD c []).head?
  match [7, 6, 5].find? (fun c => match head c with | some f => s.hasTokens p c (fabLen f) | none => false) with
  | some c => some (c, x.credit)
  | none =>
    let wait := [4, 3, 2, 1, 0].filter (fun c => (head c).isSome)
    if wait.isEmpty then none
    else
      let credit := if wait.any (fun c => x.credit.getD c 0 != 0) then x.credit else (List.range 5).map s.wrr
      match wait.find? (fun c => credit.getD c 0 != 0) with
      | some c => some (c, credit.set c (credit.getD c 0 - 1))
      | none => none

/-- EGRESS_DEQUEUE (R320, R321). -/
def egressDequeue (p : Nat) (s : State) : State :=
  if s.fpState p ≠ 3 then s
  else
    let s1 := s.refill p
    match s1.nextClass p with
    | none => s1
    | some (c, credit) =>
      let x := s1.fp p
      match x.queues.getD c [] with
      | f :: rest => (s1.setFp p { x with queues := x.queues.set c rest, credit := credit }).transmit p f false
      | [] => s1

def execEgressDequeue (dt port : Nat) (s : State) : Host.Outcome State Fault Refusal := .next (egressDequeue port (s.elapse dt)).settle

/-! ### Link-state advertisements (R315) -/

/-- The ADDR field of Table 12.4: address, TENT, CFG. -/
def State.addrField (s : State) : Nat :=
  s.fabAddr + (if s.get F.FAB_STAT.ADDR_STATE = 1 then 4096 else 0) + (if s.get F.FAB_ADDR.CFG_ADDR = 0 then 0 else 8192)

/-- The next SEQ for a (destination, class) (R324). -/
def State.nextSeq (s : State) (dst cls : Nat) : State × Nat :=
  let k := dst * 8 + cls
  let q := look (fun _ => 0) s.fab.seqs k
  ({ s with fab := { s.fab with seqs := put k ((q + 1) % 65536) s.fab.seqs } }, q)

/-- Change the link-state database: the table has to follow (R316). -/
def State.setLsdb (s : State) (db : List (Nat × LsaEntry)) : State :=
  ({ s with fab := { s.fab with lsdb := db, changeUp := if s.fab.changeUp.isSome then s.fab.changeUp else some s.clock.up } }).set
    F.FAB_STAT.NODES db.length

/-- The module's links: each adopted neighbour's address, the local port, its COST. -/
def State.ownLinks (s : State) : List (Nat × Nat × Nat) :=
  s.upPorts.map (fun p => (s.get (F.PORTn_STAT.NB_ADDR p), p, s.get (F.PORTn_CFG.COST p)))

/-- The payload of an LSA (R315). -/
def lsaBytes (devid seq addr : Nat) (links : List (Nat × Nat × Nat)) : List Byte :=
  leBytes devid 8 ++ leBytes seq 4 ++ leBytes addr 2 ++ leBytes links.length 1 ++
    links.flatMap (fun l => leBytes l.1 2 ++ leBytes l.2.1 1 ++ leBytes l.2.2 2)

/-- A node originates an LSA (R315): only with an address, and at least 20 ms after the one before it. -/
def State.lsaOriginate (s : State) : State :=
  if s.fabAddr = 0 ∨ !s.bit F.FAB_STAT.RUN then s
  else if (match s.fab.lastLsa with | some u => decide (s.clock.up - u < 5000000) | none => false) then
    { s with fab := { s.fab with lsaDue := true } }
  else
    let q := (s.get F.FAB_LSA_SEQ.SEQ + 1) % 2 ^ 32
    let s1 := (s.set F.FAB_LSA_SEQ.SEQ q).setLsdb (put s.devid ⟨q, s.addrField, s.ownLinks, s.clock.up⟩ s.fab.lsdb)
    let s2 := { s1 with fab := { s1.fab with lastLsa := some s.clock.up, lsaDue := false } }
    let r := s2.nextSeq 0xFFF 7
    let f : FabFrame := ⟨1, 7, false, false, false, 0xFFF, s.fabAddr, 0, s.get F.FAB_CFG.HLIM, r.2, 0, 0, 0,
      lsaBytes s.devid q s.addrField s.ownLinks⟩
    s.upPorts.foldl (fun s p => s.enqueue p f) r.1

/-- LSA_REFRESH_TIMER. -/
def lsaRefresh (s : State) : State := s.lsaOriginate

def execLsaRefreshTimer (dt : Nat) (s : State) : Host.Outcome State Fault Refusal := .next (lsaRefresh (s.elapse dt)).settle

/-- LSA_HOLDOFF_EXPIRY: the next LSA carries what changed meanwhile. -/
def lsaHoldoff (s : State) : State :=
  if s.fab.lsaDue then ({ s with fab := { s.fab with lastLsa := none } }).lsaOriginate else s

def execLsaHoldoffExpiry (dt : Nat) (s : State) : Host.Outcome State Fault Refusal := .next (lsaHoldoff (s.elapse dt)).settle

/-- The neighbour of a port is lost (R312). -/
def State.neighbourLost (s : State) (p : Nat) : State := (((s.portFlush p).portRest p).ptpPortDown p).lsaOriginate

/-! ### Addresses (R313, R314) -/

/-- The node takes an address as TENT. -/
def State.tentative (s : State) (a : Nat) : State := ((s.set F.FAB_ADDR.ADDR a).set F.FAB_STAT.ADDR_STATE 1).lsaOriginate

/-- ADDRESS_CLAIM (R313): 300 ms of TENT without conflict; FRAM keeps the address. -/
def addressClaim (s : State) : State :=
  if s.get F.FAB_STAT.ADDR_STATE = 1 then
    ({ s with fab := { s.fab with claimed := s.fabAddr } }.set F.FAB_STAT.ADDR_STATE 2).lsaOriginate
  else s

def execAddressClaim (dt : Nat) (s : State) : Host.Outcome State Fault Refusal := .next (addressClaim (s.elapse dt)).settle

/-- A claim (configured, CLAIMED, DEVID) beats another (R314). -/
def claimBeats (a b : Bool × Bool × Nat) : Bool :=
  if a.1 != b.1 then a.1 else if a.2.1 != b.2.1 then a.2.1 else decide (a.2.2 < b.2.2)

/-- An address after `a` that the database does not hold, wrapping from 4 094 to 1. -/
def State.freeAddr (s : State) (a : Nat) : Nat :=
  let held := s.fab.lsdb.map (fun e => e.2.addr % 4096)
  (((List.range 4094).map (fun i => (a + i) % 4094 + 1)).find? (fun x => !held.contains x)).getD 0

/-- The module loses a conflict (R314). -/
def State.conflictLost (s : State) : State :=
  let db := s.fab.lsdb.filter (fun e => e.1 != s.devid)
  if s.get F.FAB_ADDR.CFG_ADDR = 0 then
    let a := s.freeAddr s.fabAddr
    (s.flag F.FAB_ERR.ADDR_MOVE).tentative a
  else ((((s.setLsdb db).set F.FAB_ADDR.ADDR 0).set F.FAB_STAT.ADDR_STATE 3).flag F.FAB_ERR.ADDR_CONF)

/-- ADDRESS_CONFLICT (R314): another DEVID shows an ADDR field. -/
def State.addressSeen (s : State) (devid addr : Nat) : State :=
  if s.fabAddr = 0 ∨ addr % 4096 ≠ s.fabAddr ∨ devid = s.devid then s
  else
    let mine := (s.get F.FAB_ADDR.CFG_ADDR != 0, s.get F.FAB_STAT.ADDR_STATE == 2, s.devid)
    let other := (addr / 8192 % 2 == 1, addr / 4096 % 2 == 0, devid)
    if claimBeats other mine then s.conflictLost else s

/-- LSA_AGE_OUT (R314, R315): an entry not refreshed within 40 s leaves the database; a configured address is claimed again when the winner's
has left. -/
def lsaAgeOut (devid : Nat) (s : State) : State :=
  if devid = s.devid ∨ !(s.fab.lsdb.any (fun e => e.1 == devid)) then s
  else
    let s1 := s.setLsdb (s.fab.lsdb.filter (fun e => e.1 != devid))
    let c := s1.get F.FAB_ADDR.CFG_ADDR
    if s1.get F.FAB_STAT.ADDR_STATE = 3 ∧ !(s1.fab.lsdb.any (fun e => e.2.addr % 4096 == c)) then s1.tentative c else s1

def execLsaAgeOut (dt devid : Nat) (s : State) : Host.Outcome State Fault Refusal := .next (lsaAgeOut devid (s.elapse dt)).settle

/-! ### Routes (R316, R319) -/

/-- A direction of a link: from, to, egress port at `a`, cost. -/
structure Edge where
  a : Nat
  b : Nat
  port : Nat
  cost : Nat
deriving DecidableEq, Repr

/-- A path from the module: cost, the nodes after it, the egress port at each node that sends. -/
structure Path where
  cost : Nat
  nodes : List Nat
  ports : List Nat
deriving DecidableEq, Repr

/-- The links both ends list (R316). -/
def linkEdges (db : List (Nat × LsaEntry)) : List Edge :=
  let lists := fun (x y : Nat) => db.any (fun e => e.2.addr % 4096 == x && e.2.links.any (fun l => l.1 == y))
  db.flatMap (fun e =>
    let a := e.2.addr % 4096
    (e.2.links.filter (fun l => a != 0 && l.1 != 0 && lists l.1 a)).map (fun l => ⟨a, l.1, l.2.1, l.2.2⟩))

/-- A path is preferred: less cost, then the lower first differing next hop (R316); between parallel links the lower port. -/
def Path.before (x y : Path) : Bool :=
  if x.cost != y.cost then decide (x.cost < y.cost)
  else match firstLess x.nodes y.nodes with
    | some r => r
    | none => (firstLess x.ports y.ports).getD false

/-- One round of relaxation over every link. -/
def relax (me : Nat) (es : List Edge) (ps : List (Nat × Path)) : List (Nat × Path) :=
  es.foldl (fun ps e =>
    let from_ : Option Path := if e.a = me then some ⟨0, [], []⟩ else ps.lookup e.a
    match from_ with
    | none => ps
    | some f =>
      if e.b = me ∨ f.nodes.contains e.b then ps
      else
        let n : Path := ⟨f.cost + e.cost, f.nodes ++ [e.b], f.ports ++ [e.port]⟩
        match ps.lookup e.b with
        | none => put e.b n ps
        | some o => if n.before o then put e.b n ps else ps) ps

/-- Shortest paths from a node: as many rounds as there are links. -/
def shortest (me : Nat) (es : List Edge) : List (Nat × Path) := Nat.repeat (relax me es) es.length []

/-- The links a path uses, either way round. -/
def pathLinks (me : Nat) (p : Path) : List (Nat × Nat) := (me :: p.nodes).zip p.nodes

/-- Copy B's path to a destination beside copy A's (R319): sharing no intermediate node, else no link; and whether it is node-disjoint. -/
def disjointPath (me : Nat) (es : List Edge) (dst : Nat) (a : Path) : Option (Path × Bool) :=
  let ls := pathLinks me a
  let noLink := es.filter (fun e => !(ls.contains (e.a, e.b) || ls.contains (e.b, e.a)))
  let mid := a.nodes.dropLast
  let noNode := noLink.filter (fun e => !mid.contains e.a && !mid.contains e.b)
  let fits := fun (p : Option Path) => match p with
    | some p => if p.ports.length ≤ 31 then some p else none
    | none => none
  match fits ((shortest me noNode).lookup dst) with
  | some p => some (p, true)
  | none => (fits ((shortest me noLink).lookup dst)).map (fun p => (p, false))

/-- ROUTE: two bits of egress port per hop (R319). -/
def routeBits (ports : List Nat) : Nat := ports.foldr (fun p acc => p % 4 + 4 * acc) 0

/-- A key of the forwarding table's words. -/
def isRouteKey (k : Nat) : Bool :=
  k < 0x10000000000 && (k % 0x1000000 == 0x0D0084 || k % 0x1000000 == 0x0D0088 || k % 0x1000000 == 0x0D008C)

/-- Write one destination's entry. -/
def State.setRoute (s : State) (me : Nat) (es : List Edge) (dst : Nat) (a : Path) : State :=
  let s1 := ((((s.set (F.FAB_RT_ENTRY.PORT dst) (a.ports.headD 0)).set (F.FAB_RT_ENTRY.VALID dst) 1).set (F.FAB_RT_ENTRY.HOPS dst)
    a.nodes.length)).set (F.FAB_RT_ENTRY.COST dst) (min a.cost 65535)
  match disjointPath me es dst a with
  | none => s1
  | some (b, nd) =>
    let r := routeBits b.ports
    (((s1.set (F.FAB_RT_ENTRY.DISJ dst) 1).setBit (F.FAB_RT_ENTRY.NODE_DISJ dst) nd).set (F.FAB_RT_ROUTE_LO.ROUTE dst) (r % 2 ^ 32)).set
      (F.FAB_RT_ROUTE_HI.ROUTE dst) (r / 2 ^ 32)

/-- ROUTE_TABLE_LOAD (R316, R318): the whole table in one clock, and how long it took since the database changed. -/
def routeTableLoad (s : State) : State :=
  let me := s.fabAddr
  let es := linkEdges s.fab.lsdb
  let s1 := s.clearWords isRouteKey
  let s2 := if me = 0 then s1 else (shortest me es).foldl (fun s e => s.setRoute me es e.1 e.2) s1
  match s.fab.changeUp with
  | some u => ({ s2 with fab := { s2.fab with changeUp := none } }).set F.FAB_CONV_US.US ((s.clock.up - u) / 250)
  | none => s2

def execRouteTableLoad (dt : Nat) (s : State) : Host.Outcome State Fault Refusal := .next (routeTableLoad (s.elapse dt)).settle

/-! ### Sending (R317, R319, R323, R324) -/

/-- The egress port a frame takes by the table, if it has an entry and the port is UP. -/
def State.routePort (s : State) (dst : Nat) : Option Nat :=
  let p := s.get (F.FAB_RT_ENTRY.PORT dst)
  if s.bit (F.FAB_RT_ENTRY.VALID dst) && s.fpState p == 3 then some p else none

/-- Send on a port, or count a route that is not there. -/
def State.sendVia (s : State) (p : Option Nat) (f : FabFrame) : State :=
  match p with
  | some p => s.enqueue p f
  | none => s.inc F.FAB_NOROUTE_CNT.COUNT

/-- The originator sends a routed frame: a class 6 or 7 unicast twice (R319), a broadcast on every UP port (R317). -/
def State.sendRouted (s : State) (f : FabFrame) : State :=
  if f.dst = 0xFFF then s.upPorts.foldl (fun s p => s.enqueue p f) s
  else if f.cls < 6 then s.sendVia (s.routePort f.dst) f
  else
    let s1 := s.sendVia (s.routePort f.dst) { f with rep := true }
    if !s.bit (F.FAB_RT_ENTRY.VALID f.dst) then s1
    else if s.bit (F.FAB_RT_ENTRY.DISJ f.dst) then
      let r := s.get (F.FAB_RT_ROUTE_LO.ROUTE f.dst) + 2 ^ 32 * s.get (F.FAB_RT_ROUTE_HI.ROUTE f.dst)
      s1.sendVia (if s.fpState (r % 4) = 3 then some (r % 4) else none) { f with rep := true, pathB := true, route := r }
    else s1.inc F.FAB_NODISJ_CNT.COUNT

/-- A unit or firmware sends a message (R323, R324): numbered, sent, and repeated until answered where an answer is due. -/
def State.fabOriginate (s : State) (kind dst cls svc : Nat) (ackreq : Bool) (payload : List Byte) : State :=
  if !s.fabLive then s
  else
    let r := s.nextSeq dst cls
    let f : FabFrame := ⟨kind, cls, false, false, ackreq, dst, s.fabAddr, 0, s.get F.FAB_CFG.HLIM, r.2, 0, 0, svc, payload.take 1024⟩
    let s1 := r.1.sendRouted f
    if dst ≠ 0xFFF ∧ (kind = 4 ∨ (kind = 2 ∧ ackreq)) then
      { s1 with fab := { s1.fab with pend := s1.fab.pend ++ [⟨f, s.get F.FAB_RETRY.RETRY_N⟩] } }
    else s1

/-- FAB_DATA_SEND: DATA (kind 2) or REQUEST (kind 4). -/
def fabDataSend (kind dst cls svc : Nat) (ackreq : Bool) (payload : List Byte) (s : State) : State :=
  if kind = 2 ∨ kind = 4 then s.fabOriginate kind (dst % 4096) (cls % 8) (svc % 256) ackreq payload else s

def execFabDataSend (dt kind dst cls svc : Nat) (ackreq : Bool) (payload : List Byte) (s : State) : Host.Outcome State Fault Refusal :=
  .next (fabDataSend kind dst cls svc ackreq payload (s.elapse dt)).settle

/-- FAB_RETRY_EXPIRY (R323). -/
def fabRetry (dst cls seq : Nat) (s : State) : State :=
  let is := fun (x : FabPend) => x.frame.dst == dst && x.frame.cls == cls && x.frame.seq == seq
  match s.fab.pend.find? is with
  | none => s
  | some x =>
    if x.left = 0 then
      ((({ s with fab := { s.fab with pend := s.fab.pend.filter (fun y => !is y) } }).inc F.FAB_NODELIV_CNT.COUNT).flag F.FAB_ERR.NODELIV).emit
        (.fabFail dst cls seq)
    else
      ({ s with fab := { s.fab with pend := s.fab.pend.map (fun y => if is y then { y with left := y.left - 1 } else y) } }).sendRouted x.frame

def execFabRetryExpiry (dt dst cls seq : Nat) (s : State) : Host.Outcome State Fault Refusal := .next (fabRetry dst cls seq (s.elapse dt)).settle

/-! ### Hatbands and adoption (R310 to R312) -/

/-- A port adopts (R311): K_link into its hot key register, link counters reset, UP. -/
def State.adopt (s : State) (p devid nonce addr nport : Nat) (cap : Bool) : State :=
  let x := s.fp p
  let s1 := s.setFp p { x with nb := some (devid, nonce), cand := none, key := true, tx := 0, rx := 0, heard := true, queues := fabPort0.queues }
  let s2 := ((((s1.set (F.PORTn_STAT.STATE p) 3).set (F.PORTn_STAT.MISS p) 0).setBit (F.PORTn_STAT.CAP p) cap).set (F.PORTn_STAT.NB_ADDR p)
    addr).set (F.PORTn_STAT.NB_PORT p) nport
  let s3 := ((s2.set (F.PORTn_NB_LO.DEVID p) (devid % 2 ^ 32)).set (F.PORTn_NB_HI.DEVID p) (devid / 2 ^ 32)).inc (F.PORTn_ADOPT_CNT.COUNT p)
  (s3.ptpPortUp p).lsaOriginate

/-- The KEY_ID of K_fab: the USAGE 2 mitten with the lowest KEY_ID (log entry 60). -/
def State.fabKeyId (s : State) : Option Nat :=
  ((List.range 4160).map (fun i => mittenOf (s.word (tabKey 17 (64 * i))))).foldl (fun acc m =>
    if m.2.1 = 2 then (match acc with | some b => some (min b m.1) | none => some m.1) else acc) none

/-- FAB asks KEY for K_fab for a port. -/
def State.askFab (s : State) (p : Nat) : State × KeyAnswer :=
  match s.fabKeyId with
  | some id => s.keyRequest (.fab p) id 2
  | none => (s.unwrapFail, .fail)

/-- A valid hatband with the module's FAB_ID on a port that has no neighbour: adopt as soon as K_fab is in the cache (R311). -/
def State.tryAdopt (s : State) (p devid nonce addr nport : Nat) (cap : Bool) : State :=
  let r := s.askFab p
  match r.2 with
  | .hit => r.1.adopt p devid nonce addr nport cap
  | .wait => r.1.setFp p { r.1.fp p with cand := some (devid, nonce, addr, nport, cap) }
  | .fail => r.1.flag F.FAB_ERR.KEY

/-- HATBAND payload as received (Table 12.4), already authenticated. -/
def State.hatband (s : State) (p : Nat) (b : List Byte) : State :=
  let n := fun (o k : Nat) => leNat ((b.drop o).take k)
  let devid := n 0 8
  let addr := n 12 2
  let cap := n 15 1 % 2 == 1
  let nport := n 14 1 % 4
  let nonce := n 16 16
  if n 8 4 ≠ s.get F.FAB_ID.ID then
    let s1 := if s.fpState p = 3 then s.neighbourLost p else s
    s1.set (F.PORTn_STAT.STATE p) 4
  else
    let s0 := s.addressSeen devid addr
    match s0.fpState p, (s0.fp p).nb with
    | 3, some (d, m) =>
      if d = devid ∧ m = nonce then
        (((s0.setFp p { s0.fp p with heard := true }).setBit (F.PORTn_STAT.CAP p) cap).set (F.PORTn_STAT.NB_ADDR p) (addr % 4096)).set
          (F.PORTn_STAT.NB_PORT p) nport
      else (s0.neighbourLost p).tryAdopt p devid nonce (addr % 4096) nport cap
    | 4, _ => (s0.portRest p).tryAdopt p devid nonce (addr % 4096) nport cap
    | 2, _ => s0.tryAdopt p devid nonce (addr % 4096) nport cap
    | _, _ => s0

/-- A port sends its hatband (R310). -/
def State.sendHatband (s : State) (p : Nat) : State :=
  if s.fpState p = 2 ∨ s.fpState p = 3 then
    let x := s.fp p
    let fl := (if s.svc = 4 then 0 else 1) + (if s.dopPresent then 2 else 0) + (if s.fpState p = 3 then 4 else 0)
    ((s.setFp p { x with hbTx := x.hbTx + 1 }).inc (F.PORTn_TX_CNT.COUNT p)).emit
      (.hatband p (x.hbTx + 1) s.addrField fl x.nonce (s.get F.FAB_LSA_SEQ.SEQ) (s.get (F.PORTn_CFG.COST p)))
  else s

/-- HATBAND_INSTANT (R310, R312): the interval judged, the loss at the third miss, the hatband sent. -/
def hatbandInstant (p : Nat) (s : State) : State :=
  if s.fpState p ≠ 3 then s.sendHatband p
  else if (s.fp p).heard then ((s.set (F.PORTn_STAT.MISS p) 0).setFp p { s.fp p with heard := false }).sendHatband p
  else
    let m := s.get (F.PORTn_STAT.MISS p) + 1
    let s1 := (s.set (F.PORTn_STAT.MISS p) m).inc (F.PORTn_MISS_CNT.COUNT p)
    (if 3 ≤ m then s1.neighbourLost p else s1).sendHatband p

def execHatbandInstant (dt port : Nat) (s : State) : Host.Outcome State Fault Refusal := .next (hatbandInstant port (s.elapse dt)).settle

/-- NEIGHBOUR_LOST (R312): the instant of the third consecutive miss. -/
def neighbourLostInstant (p : Nat) (s : State) : State :=
  if s.fpState p = 3 ∧ 2 ≤ s.get (F.PORTn_STAT.MISS p) ∧ !(s.fp p).heard then hatbandInstant p s else s

def execNeighbourLost (dt port : Nat) (s : State) : Host.Outcome State Fault Refusal := .next (neighbourLostInstant port (s.elapse dt)).settle

/-- LINK_SIGNAL_LOSS (R312). -/
def linkLoss (p : Nat) (s : State) : State :=
  let s1 := s.setFp p { s.fp p with link := false }
  if s1.fpState p = 3 then s1.neighbourLost p
  else if s1.fpState p = 2 ∨ s1.fpState p = 4 then s1.portRest p
  else s1

def execLinkSignalLoss (dt port : Nat) (s : State) : Host.Outcome State Fault Refusal := .next (linkLoss port (s.elapse dt)).settle

/-- LINK_SIGNAL_UP (R305, R311). -/
def linkUp (p : Nat) (s : State) : State :=
  let s1 := s.setFp p { s.fp p with link := true }
  if s1.fpState p = 1 then s1.portRest p else s1

def execLinkSignalUp (dt port : Nat) (s : State) : Host.Outcome State Fault Refusal := .next (linkUp port (s.elapse dt)).settle

/-- KEY answers FAB's request for K_fab (R311, R450): K_hb is derived the first time, and the port that waits adopts. -/
def State.fabKeyServed (s : State) (p : Nat) (ok : Bool) : State :=
  if !ok then (s.setFp p { s.fp p with cand := none }).flag F.FAB_ERR.KEY
  else
    let s1 := if s.fab.khb then s
      else (List.range 4).foldl (fun s p => s.portRest p) { s with fab := { s.fab with khb := true } }
    match (s1.fp p).cand with
    | some (devid, nonce, addr, nport, cap) => if s1.fpState p = 2 then s1.adopt p devid nonce addr nport cap else s1
    | none => s1

/-! ### Start and tamper (R313, R329, R330) -/

/-- FAB starts at the cap commit (R329): ports, K_fab, the first address as TENT. -/
def State.fabStart (s : State) : State :=
  let s1 := (List.range 4).foldl (fun s p => s.portRest p) (s.set F.FAB_STAT.RUN 1)
  let r := s1.askFab 0
  let s2 := match r.2 with
    | .hit => r.1.fabKeyServed 0 true
    | .wait => r.1
    | .fail => r.1.flag F.FAB_ERR.KEY
  let c := s2.get F.FAB_ADDR.CFG_ADDR
  s2.tentative (if c ≠ 0 then c else if s2.fab.claimed ≠ 0 then s2.fab.claimed else s2.devid % 4094 + 1)

/-- Tamper (R330). -/
def State.fabTamper (s : State) : State :=
  let s1 : State := { s with fab := { s.fab with khb := false, cache := [] } }
  let s2 := (List.range 4).foldl (fun s p => if s.fpState p = 0 then s else s.portRest p) s1
  s2.timTamper

end Sys2Proof.Machine
end

