-- ==== Sys2Proof/Machine/Dop.lean ====
section
/-! DEFINITION. The dispatch optimiser (chapter 10): the solve schedule, bindings, forecasts, price coupling, results and plans. The numeric
solutions enter as operands (log entry 6). Trajectory application stands in Act. -/
namespace Sys2Proof.Machine

/-! ### The DOP area (Table 10.1) -/

/-- The word at a byte offset of the DOP area. -/
def dopFld (o : Nat) : Fld := ⟨tabKey 9 (0x40000000 + o), 0, 32⟩
/-- Element of x_0. -/
def x0Fld (i : Nat) : Fld := ⟨tabKey 9 (0x30000000 + 4 * i), 0, 32⟩
/-- Neighbour j's array at `arr`, variable k, step t. -/
def nbFld (j arr k t : Nat) : Fld := dopFld (0x1500000 + 0x10000 * j + arr + 4 * (192 * k + t))

/-- Copy a range of the area: what is listed there, and nothing else. -/
def State.dopCopy (s : State) (src dst len : Nat) : State :=
  let a := tabKey 9 (0x40000000 + src)
  let b := tabKey 9 (0x40000000 + dst)
  let s1 := s.clearWords (fun k => b ≤ k && k < b + len)
  (s.words.filter (fun e => a ≤ e.1 && e.1 < a + len)).foldl (fun s e => s.setWord (e.1 - a + b) e.2) s1

/-- Steps and step length of the problem. -/
def State.dopN (s : State) : Nat := s.get F.DOP_STEP.N
def State.dopStepNs (s : State) : Nat := s.get F.DOP_STEP.STEP_MIN * 60 * 10 ^ 9

/-- The enabled neighbour entries. -/
def State.dopNbs (s : State) : List Nat := (List.range 16).filter (fun j => s.bit (T.DOP_NB.EN j))
def State.dnb (s : State) (j : Nat) : DopNb := look (fun _ => dopNb0) s.dop.nbs j
def State.setDnb (s : State) (j : Nat) (x : DopNb) : State :=
  { s with dop := { s.dop with nbs := store (fun _ => dopNb0) j x s.dop.nbs } }

/-- The step of an older grid that a step of the present one falls in, held at its last (R273). -/
def gridStep (b0 old step n t : Nat) : Nat := min (((b0 + t * step) - old) / (max step 1)) (n - 1)

/-- The held flow of variable k at step t (R273). -/
def State.heldFlow (s : State) (j k t : Nat) : Word :=
  match (s.dnb j).agreed with
  | some (_, old) => s.getw (nbFld j 0 k (gridStep s.dop.b0 old s.dopStepNs s.dopN t))
  | none => 0

/-! ### The schedule (R252, R253, R256) -/

/-- DOP_WAKE_REQUEST. -/
def dopWake (s : State) : State :=
  if s.bit F.DOP_STAT.RUN && !s.bit F.DOP_STAT.SHED && !s.bit F.DOP_CTRL.HOLD then s.wakeDomain 14 else s

def execDopWakeRequest (dt : Nat) (s : State) : Host.Outcome State Fault Refusal := .next (dopWake (s.elapse dt)).settle

/-- A solve ends (R254): its time shown, the domain gated. -/
def State.dopEnd (s : State) : State :=
  let ms := (s.clock.up - s.dop.startUp) / 250000
  let s1 := ((s.set F.DOP_STAT.SOLVING 0).set F.DOP_STAT.PHASE 0).set F.DOP_LAST_MS.MS (min ms 0xFFFFFFFF)
  (s1.set F.DOP_MAX_MS.MS (max (s1.get F.DOP_MAX_MS.MS) (min ms 0xFFFFFFFF))).gateDomain 14

/-! ### Bindings (R260, R261) -/

/-- The bindings in use, in ascending order. -/
def State.bindings (s : State) : List Nat :=
  let lo := tabKey 9 0
  (s.words.filterMap (fun e => if lo ≤ e.1 && e.1 < lo + 32 * 16384 && (e.1 - lo) % 32 == 0 then some ((e.1 - lo) / 32) else none)).filter
    (fun b => s.get (T.DOP_BIND.DEST b) != 0)

/-- Forecast channel ch at step t from the solve's snapshot, and whether it was short (R263). -/
def State.forecast (s : State) (ch t : Nat) : Word × Bool :=
  let base := 0x1420000
  let t0 := s.get (dopFld (base + 16 * ch))
  let nv := min (s.get (dopFld (base + 16 * ch + 4)) % 256) 192
  let step := s.get F.DOP_STEP.STEP_MIN * 60
  let at_ := s.dop.b0 / 10 ^ 9 % 2 ^ 32 + t * step
  if nv = 0 then (s.getw (dopFld (base + 16 * ch + 8)), false)
  else if step = 0 ∨ t0 % step ≠ 0 then (s.getw (dopFld (base + 16 * ch + 8)), true)
  else if at_ < t0 then (s.getw (dopFld (base + 0x400 + 0x300 * ch)), true)
  else
    let i := (at_ - t0) / step
    if nv ≤ i then (s.getw (dopFld (base + 0x400 + 0x300 * ch + 4 * (nv - 1))), true)
    else (s.getw (dopFld (base + 0x400 + 0x300 * ch + 4 * i)), false)

/-- A binding's source value other than a forecast's; none where it is not usable (R261). -/
def State.bindSource (s : State) (b : Nat) : Option Word :=
  let i := s.get (T.DOP_BIND.SRC_IDX b)
  match s.get (T.DOP_BIND.SRC b) with
  | 1 => if s.modelUsable && s.sensValid i then some (s.pred i) else none
  | 3 => if (f32val (s.gvar i)).notFinite then none else some (s.gvar i)
  | _ => some 0

/-- Where an element of a template matrix stands: MAT, row, column. -/
def matOffset (mat row col : Nat) : Nat :=
  match mat with
  | 0 => 4 * (384 * row + col)
  | 1 => 0x90000 + 4 * (512 * row + col)
  | 2 => 0x150000 + 4 * (384 * row + col)
  | 3 => 0x450000 + 4 * (512 * row + col)
  | 4 => 0x850000 + 4 * (384 * row + col)
  | 5 => 0x8E0000 + 4 * (512 * row + col)
  | _ => 0x9E0000 + 4 * row

/-- Where an element of a step vector stands in its block. -/
def vecOffset (mat row : Nat) : Nat := ([0, 0x600, 0xC00, 0x1200, 0x1800, 0x2000, 0x2800, 0x3000].getD mat 0) + 4 * row
/-- Step block t. -/
def stepBlock (t : Nat) : Nat := 0x1000000 + 0x5000 * t

/-- C0 + C1·v, rounded once. -/
def State.bindValue (s : State) (b : Nat) (v : Word) : Word := f32lin (s.getw (T.DOP_BIND.C1 b)) v (s.getw (T.DOP_BIND.C0 b))

/-- Write a binding's value of step t (or of the template, or of x_0). -/
def State.bindWrite (s : State) (b t : Nat) (v : Word) : State :=
  let mat := s.get (T.DOP_BIND.MAT b)
  let row := s.get (T.DOP_BIND.ROW b)
  let col := s.get (T.DOP_BIND.COL b)
  match s.get (T.DOP_BIND.DEST b) with
  | 1 =>
    let s1 := s.setw (dopFld (matOffset mat row col)) v
    if s.bit (T.DOP_BIND.SYM b) then s1.setw (dopFld (matOffset mat col row)) v else s1
  | 2 =>
    let s1 := s.setw (dopFld (stepBlock t + vecOffset mat row)) v
    if mat = 1 ∧ t + 1 = s.dopN then s1.setw (dopFld (stepBlock (t + 1) + vecOffset mat row)) v else s1
  | _ => s.setw (x0Fld row) v

/-- The x of the plan in force for the start of the step that contains S_k (R261). -/
def State.planX (s : State) (row : Nat) : Option Word :=
  s.dop.planB0.map (fun b0 => s.getw (dopFld (0x1800000 + 0x600 * min ((s.dop.s * 10 ^ 9 - b0) / (max s.dopStepNs 1)) s.dopN + 4 * row)))

/-- DOP_BUILD (R260, R261): one binding. -/
def State.bindOne (s : State) (b : Nat) : State :=
  let dest := s.get (T.DOP_BIND.DEST b)
  let ts := if dest = 2 then List.range s.dopN else [0]
  if s.get (T.DOP_BIND.SRC b) = 2 then
    ts.foldl (fun s t =>
      let r := s.forecast (s.get (T.DOP_BIND.SRC_IDX b)) t
      let s1 := if r.2 then s.flag F.DOP_ERR.FC_SHORT else s
      s1.bindWrite b t (s.bindValue b r.1)) s
  else
    match s.bindSource b with
    | some v =>
      let x := s.bindValue b v
      ts.foldl (fun s t => s.bindWrite b t x) { s with dop := { s.dop with bind := put b x s.dop.bind } }
    | none =>
      let s1 := (s.flag F.DOP_ERR.BIND).inc F.DOP_BIND_CNT.COUNT
      let kept := (s.dop.bind.lookup b).getD (s.getw (T.DOP_BIND.C0 b))
      let x := if dest = 3 then (s.planX (s.get (T.DOP_BIND.ROW b))).getD (s.getw (T.DOP_BIND.C0 b)) else kept
      ts.foldl (fun s t => s.bindWrite b t x) s1

/-! ### Coupling: opening (R273) -/

/-- The opening price and target of a neighbour's variables on the new grid. -/
def State.openNb (s : State) (j : Nat) : State :=
  let x := s.dnb j
  let nv := s.get (T.DOP_NB.NV j)
  let n := s.dopN
  let price := fun (k t : Nat) =>
    match x.decayed, x.agreed with
    | some old, _ => s.getw (nbFld j 0x6000 k (gridStep s.dop.b0 old s.dopStepNs n t))
    | none, some (_, old) => s.getw (nbFld j 0x1800 k (gridStep s.dop.b0 old s.dopStepNs n t))
    | none, none => s.getw (T.DOP_NB.PI_INIT j)
  (List.range nv).foldl (fun s' k => (List.range n).foldl (fun s' t =>
    (s'.setw (nbFld j 0x6000 k t) (price k t)).setw (nbFld j 0x7800 k t) (s.heldFlow j k t)) s') s

/-- A neighbour is lost for the solve (R273). -/
def State.nbLost (s : State) (j : Nat) : State := (s.set (F.NB_STAT.STATE j) 2).flag F.DOP_ERR.NB_LOST

/-- A solve's neighbours at its start: coupled, or held where the solve is local. -/
def State.startNb (s : State) (j : Nat) : State :=
  let x := s.dnb j
  let s1 := (s.openNb j).setDnb j { dopNb0 with agreed := x.agreed }
  let s2 := ((((s1.set (F.NB_STAT.STATE j) 1).set (F.NB_STAT.CONV j) 0).set (F.NB_STAT.DECAY j) 0).set (F.NB_STAT.MISS j) 0).set
    (F.NB_STAT.ROUNDS j) 0
  let s3 := s2.setBit (F.NB_STAT.KEEPER j) (decide (s.fabAddr < s.get (T.DOP_NB.NODE j)))
  if s.dop.isLocal then s3.nbLost j else s3

/-! ### Solve start (R253, R263) -/

/-- S of the solve that starts now, in module seconds: the last PHASE + k·PERIOD, or this second for the first solve. -/
def State.dopS (s : State) : Nat :=
  let p := s.get F.DOP_PERIOD.PERIOD
  let f := s.get F.DOP_PERIOD.PHASE
  if s.dop.firstOne ∨ p = 0 ∨ s.clock.sec < f then s.clock.sec else f + (s.clock.sec - f) / p * p

/-- DOP_SOLVE_START: latched inputs, the build, the neighbours. A start that falls in a power-fail warning is shed (R256). -/
def dopSolveStart (s : State) : State :=
  if !s.bit F.DOP_STAT.RUN || s.bit F.DOP_STAT.SOLVING || s.bit F.DOP_CTRL.HOLD then s
  else if s.bit F.DOP_STAT.SHED then (s.inc F.DOP_SHED_CNT.COUNT).set F.DOP_RESULT.CLASS 6
  else if !s.domOn 14 then s
  else
    let S := s.dopS
    let a := (S + s.get F.DOP_DEADLINE.DEADLINE) * 10 ^ 9
    let step := max s.dopStepNs 1
    let s1 : State := { s with dop := { s.dop with
      s := S, startUp := s.clock.up - (s.now - S * 10 ^ 9) / 4, a := a, b0 := a / step * step, isLocal := s.dop.firstOne, firstOne := false,
      firstS := if s.dop.firstOne then S else s.dop.firstS, round := 0, sent := false, sentConv := false } }
    let s2 := ((s1.set F.DOP_S_SEC.SEC (S % 2 ^ 32)).set F.DOP_STAT.SOLVING 1).set F.DOP_STAT.PHASE (1 + s.free % 2)
    let s3 := (s2.nextFree).dopCopy 0x1410000 0x1420000 0xC400
    let old := match s.dop.fcSec with
      | some c => decide (c + 86400 < S)
      | none => true
    let s4 := if old then s3.flag F.DOP_ERR.FC_OLD else s3
    let s5 := s4.bindings.foldl State.bindOne s4
    s5.dopNbs.foldl State.startNb s5

def execDopSolveStart (dt : Nat) (s : State) : Host.Outcome State Fault Refusal := .next (dopSolveStart (s.elapse dt)).settle

/-! ### Results (R265, R272, R273, R275, R278) -/

/-- The class of a result (R265). -/
def solClass (r : DopSol) : Nat := if r.conv then 1 else if r.infeas then 4 else if r.acc then 2 else 3

/-- A lost neighbour's price decays toward the marginal cost (R273). -/
def State.decayNb (s : State) (mu : List (Nat × List Word)) (j : Nat) : State :=
  let x := s.dnb j
  let nv := s.get (T.DOP_NB.NV j)
  let n := s.dopN
  let ms := (mu.lookup j).getD []
  let tA := match x.agreed with | some (t, _) => t | none => s.dop.firstS
  let e := f32bits (.fin false (expNeg (s.dop.s - tA) (3 * s.get F.DOP_PERIOD.PERIOD)) (2 ^ 300))
  let pa := fun (k t : Nat) => match x.agreed with
    | some (_, old) => s.getw (nbFld j 0x1800 k (gridStep s.dop.b0 old s.dopStepNs n t))
    | none => s.getw (T.DOP_NB.PI_INIT j)
  let s1 := (List.range nv).foldl (fun s' k => (List.range n).foldl (fun s' t =>
    let m := ms.getD (n * k + t) 0
    (s'.setw (nbFld j 0x9000 k t) m).setw (nbFld j 0x6000 k t) (f32add m (f32mul (f32sub (pa k t) m) e))) s') s
  let s2 := (s1.setDnb j { x with decayed := some s.dop.b0 }).set (F.NB_STAT.DECAY j) 1
  (s2.setw (F.NB_PRICE.VALUE j) (s2.getw (nbFld j 0x6000 0 0))).setw (F.NB_FLOW.VALUE j) (s.heldFlow j 0 0)

/-- A neighbour's agreement is recorded (R272). -/
def State.agreeNb (s : State) (j : Nat) : State :=
  let x := s.dnb j
  let nv := s.get (T.DOP_NB.NV j)
  let s1 := (List.range nv).foldl (fun s k => (List.range s.dopN).foldl (fun s t =>
    (s.setw (nbFld j 0 k t) (s.getw (nbFld j 0x7800 k t))).setw (nbFld j 0x1800 k t) (s.getw (nbFld j 0x6000 k t))) s) s
  let s2 := ((s1.setDnb j { x with agreed := some (s.dop.s, s.dop.b0) }).set (F.NB_STAT.AGREED j) 1).setBit (F.NB_STAT.CONV j) x.conv
  ((s2.set (F.NB_AGREE_SEC.SEC j) (s.dop.s % 2 ^ 32)).setw (F.NB_PRICE.VALUE j) (s2.getw (nbFld j 0x1800 0 0))).setw (F.NB_FLOW.VALUE j)
    (s2.getw (nbFld j 0 0 0))

/-- Channels of KIND 3, each with its follower node. -/
def State.remoteChans (s : State) : List (Nat × Nat) :=
  (s.channels.filter (fun c => s.get (T.TRJ_CH.KIND c) == 3)).map (fun c => (c, s.get (T.TRJ_CH.ADDR c) % 4096))

/-- TRAJ_FRAGMENT_SEND (R278): one fragment per channel to each follower. -/
def State.sendPlan (s : State) (p : TrjPlan) : State :=
  let cs := s.remoteChans
  let count := fun (node : Nat) => (cs.filter (fun e => e.2 == node)).length
  let s1 := cs.foldl (fun (s : State) e =>
    let c := e.1
    let vs := ((p.vals.lookup (s.get (T.TRJ_CH.VAR c))).getD []).map (fun u =>
      f32add (f32mul (s.getw (T.TRJ_CH.SCALE c)) u) (s.getw (T.TRJ_CH.OFFSET c)))
    let b := leBytes p.seq 4 ++ leBytes (p.a / 10 ^ 9) 4 ++ leBytes (p.a % 10 ^ 9) 4 ++ leBytes (p.b0 / 10 ^ 9) 4 ++ leBytes p.stepMin 1 ++
      leBytes p.n 1 ++ leBytes (s.get (T.TRJ_CH.ADDR c) / 65536 % 512) 2 ++ leBytes (count e.2) 2 ++ leBytes 0 2 ++
      vs.flatMap (fun w => leBytes w.toNat 4)
    s.fabOriginate 2 e.2 5 2 true b) s
  ((cs.map Prod.snd).eraseDups).foldl (fun (s : State) _ => s.inc F.TRJ_TX_CNT.COUNT) s1

/-- PLAN_ACCEPT and TRAJECTORY_APPLY (R265, R272, R275). -/
def State.acceptPlan (s : State) (r : DopSol) : State :=
  let q := min (s.get F.DOP_SEQ.SEQ + 1) (2 ^ 32 - 1)
  let s1 := ((s.set F.DOP_SEQ.SEQ q).setw F.DOP_OBJ.VALUE r.obj).set F.DOP_STAT.PLAN 1
  let s2 := r.x.zipIdx.foldl (fun s e => e.1.zipIdx.foldl (fun s f => s.setw (dopFld (0x1800000 + 0x600 * e.2 + 4 * f.2)) f.1) s) s1
  let s3 := r.u.zipIdx.foldl (fun s e => e.1.zipIdx.foldl (fun s f => s.setw (dopFld (0x1900000 + 0x800 * e.2 + 4 * f.2)) f.1) s) s2
  let s4 := (s3.dopNbs.filter (fun j => (s3.dnb j).ended)).foldl State.agreeNb
    { s3 with dop := { s3.dop with planB0 := some s.dop.b0 } }
  let vars := s.channels.map (fun c => s.get (T.TRJ_CH.VAR c))
  let p : TrjPlan := ⟨q, s.dop.a, s.dop.b0, s.get F.DOP_STEP.STEP_MIN, s.dopN,
    vars.foldl (fun l v => put v ((r.u.take s.dopN).map (fun row => row.getD v 0)) l) []⟩
  (s4.applyPlan p).sendPlan p

/-- The final solve's result, or the solve phase's when nothing is coupled (R265). -/
def State.finishSolve (s : State) (r : DopSol) : State :=
  let c := solClass r
  let s1 := ((s.set F.DOP_RESULT.CLASS c).set F.DOP_RESULT.IP_IT (min r.iters 255)).set F.DOP_RESULT.ROUNDS (min s.dop.round 127)
  let s2 := s1.dopNbs.foldl (fun s j =>
    let x := s.dnb j
    let s1 := (s.set (F.NB_STAT.MISS j) (min x.miss 15)).set (F.NB_STAT.ROUNDS j) (min x.rounds 127)
    if s.get (F.NB_STAT.STATE j) = 2 ∨ s.get (F.NB_STAT.STATE j) = 3 then s1.decayNb r.mu j else s1) s1
  let s3 := match c with
    | 1 => s2.acceptPlan r
    | 2 => (s2.flag F.DOP_ERR.SUBOPT).acceptPlan r
    | 4 => (s2.flag F.DOP_ERR.INFEAS).inc F.DOP_NOSOL_CNT.COUNT
    | _ => (s2.flag F.DOP_ERR.NOSOL).inc F.DOP_NOSOL_CNT.COUNT
  s3.dopEnd

/-- The neighbours whose coupling goes on. -/
def State.coupledNbs (s : State) : List Nat := s.dopNbs.filter (fun j => s.get (F.NB_STAT.STATE j) == 1 && !(s.dnb j).ended)

/-- DOP_SOLVE_PHASE_DONE (R254): coupling follows where an intertie is coupled. -/
def solvePhaseDone (r : DopSol) (s : State) : State :=
  if !s.bit F.DOP_STAT.SOLVING || 3 ≤ s.get F.DOP_STAT.PHASE then s
  else if s.coupledNbs.isEmpty then s.finishSolve r
  else s.set F.DOP_STAT.PHASE 3

def execDopSolvePhaseDone (dt : Nat) (sol : DopSol) (s : State) : Host.Outcome State Fault Refusal := .next (solvePhaseDone sol (s.elapse dt)).settle

/-- FINAL_SOLVE_DONE. -/
def finalSolveDone (r : DopSol) (s : State) : State :=
  if s.bit F.DOP_STAT.SOLVING && s.get F.DOP_STAT.PHASE == 4 then s.finishSolve r else s

def execFinalSolveDone (dt : Nat) (sol : DopSol) (s : State) : Host.Outcome State Fault Refusal := .next (finalSolveDone sol (s.elapse dt)).settle

/-- DOP_LATE (R255). -/
def dopLate (s : State) : State :=
  if !s.bit F.DOP_STAT.SOLVING then s
  else ((((s.flag F.DOP_ERR.LATE).inc F.DOP_LATE_CNT.COUNT).set F.DOP_RESULT.CLASS 5).log 9 0 0 4).dopEnd

def execDopLate (dt : Nat) (s : State) : Host.Outcome State Fault Refusal := .next (dopLate (s.elapse dt)).settle

/-! ### Coupling rounds (R268 to R271) -/

/-- Send neighbour j the fragments of one round: its e, or its π. -/
def State.sendFrags (s : State) (j m : Nat) (conv done price : Bool) : State :=
  let nv := s.get (T.DOP_NB.NV j)
  let n := s.dopN
  (List.range nv).foldl (fun (s : State) k =>
    let vs := (List.range n).map (fun t => s.getw (nbFld j (if price then 0x6000 else 0x3000) k t))
    let b := leBytes (s.get (T.DOP_NB.ITIE_ID j)) 4 ++ leBytes s.dop.s 4 ++ leBytes m 1 ++
      leBytes (conv.toNat + 2 * done.toNat + 4 * price.toNat) 1 ++ leBytes k 1 ++ leBytes nv 1 ++ leBytes n 1 ++
      leBytes (s.get F.DOP_STEP.STEP_MIN) 1 ++ leBytes 0 2 ++ leBytes (s.get (T.DOP_NB.RHO j)) 4 ++ vs.flatMap (fun w => leBytes w.toNat 4)
    s.fabOriginate 2 (s.get (T.DOP_NB.NODE j)) 5 1 true b) s

/-- Larger of two magnitudes. -/
def maxAbs (a b : Word) : Word := if (f32val a).abs.lt (f32val b).abs then f32bits (f32val b).abs else f32bits (f32val a).abs

/-- Neighbour j's fragments of round m: of e, or of π. -/
def DopNb.ofRound (x : DopNb) (m : Nat) (price : Bool) (nv : Nat) : List CouplingFragment :=
  (List.range nv).filterMap (fun k => x.frags.find? (fun f => f.iter == m && f.price == price && f.k == k))

/-- The update of one neighbour at the end of round m (R270). -/
def State.nbRound (s : State) (j m : Nat) : State :=
  let x := s.dnb j
  let nv := s.get (T.DOP_NB.NV j)
  let n := s.dopN
  let es := x.ofRound m false nv
  if es.length = nv then
    let ps := x.ofRound m true nv
    let adopt := !s.bit (F.NB_STAT.KEEPER j) && ps.length == nv
    let rho := s.getw (T.DOP_NB.RHO j)
    let half := f32bits (.ofQ 1 2)
    let r0 : State × Word × Word := (s, 0, 0)
    let res := (List.range nv).foldl (fun acc k => (List.range n).foldl (fun (acc : State × Word × Word) t =>
      let s := acc.1
      let ej := (es.getD k ⟨0, 0, 0, false, false, false, 0, 0, 0, 0, 0, []⟩).values.getD t 0
      let pi := if adopt then (ps.getD k ⟨0, 0, 0, false, false, false, 0, 0, 0, 0, 0, []⟩).values.getD t 0 else s.getw (nbFld j 0x6000 k t)
      let eo := s.getw (nbFld j 0x3000 k t)
      let r := f32add eo ej
      let v := f32sub eo (f32mul r half)
      let dv := f32sub v (s.getw (nbFld j 0x7800 k t))
      let p := f32sub pi (f32mul (f32mul rho half) r)
      (((s.setw (nbFld j 0x4800 k t) ej).setw (nbFld j 0x7800 k t) v).setw (nbFld j 0x6000 k t) p, maxAbs acc.2.1 r, maxAbs acc.2.2 dv)) acc) r0
    let ok := (f32val res.2.1).le (f32val (s.getw F.DOP_EPS_P.VALUE)) && (f32val (f32mul rho res.2.2)).le (f32val (s.getw F.DOP_EPS_D.VALUE))
    let conv := s.dop.sentConv && es.all (fun f => f.conv)
    let ended := es.any (fun f => f.done) || x.doneAt == some m
    (res.1.setDnb j { x with miss := 0, rounds := x.rounds + 1, ok := ok, conv := conv, ended := ended }).setw (F.NB_RES.VALUE j) res.2.1
  else
    let miss := x.miss + 1
    let s1 := (s.setDnb j { x with miss := miss, ok := false, conv := false }).inc (F.NB_MISS_CNT.COUNT j)
    if (m = 0 ∧ !(x.frags.any (fun f => f.iter == 0))) ∨ s.get F.DOP_ADMM_CFG.LOST_N ≤ miss then s1.nbLost j else s1

/-- Coupling stops (R271): DONE to every neighbour still coupled, each ended with its v and π of round m. -/
def State.couplingStop (s : State) (m : Nat) (conv : Bool) : State :=
  let s1 := s.coupledNbs.foldl (fun s j =>
    (s.sendFrags j m s.dop.sentConv true false).setDnb j { s.dnb j with ended := true, conv := conv }) s
  (if conv then s1 else s1.flag F.DOP_ERR.COUPLE).set F.DOP_STAT.PHASE 4

/-- COUPLING_ROUND_END (R270, R271). -/
def State.endRound (s : State) : State :=
  let m := s.dop.round
  let js := s.coupledNbs
  let s1 := js.foldl (fun s j => s.nbRound j m) s
  let on := js.filter (fun j => s1.get (F.NB_STAT.STATE j) == 1)
  let conv := s.dop.sentConv && !on.isEmpty && on.all (fun j => (s1.dnb j).conv)
  let left := s1.coupledNbs
  let cut := decide ((s.get F.DOP_DEADLINE.DEADLINE - s.get F.DOP_DEADLINE.FIN_RES) * 250000000 < s.clock.up - s.dop.startUp)
  let s2 : State := { s1 with dop := { s1.dop with round := m + 1, sent := false } }
  if left.isEmpty then s2.set F.DOP_STAT.PHASE 4
  else if conv then s2.couplingStop m true
  else if m + 1 = s.get F.DOP_ADMM_CFG.MAXIT ∨ cut then s2.couplingStop m false
  else s2

/-- Every coupled neighbour has delivered its e fragments of the round. -/
def State.roundFull (s : State) : Bool :=
  s.dop.sent && s.coupledNbs.all (fun j => ((s.dnb j).ofRound s.dop.round false (s.get (T.DOP_NB.NV j))).length == s.get (T.DOP_NB.NV j))

/-- COUPLING_ROUND_SEND (R270): `e` the round's own flows by neighbour entry, variable and step. -/
def couplingRoundSend (e : List (Nat × List (List Word))) (s : State) : State :=
  if !s.bit F.DOP_STAT.SOLVING || s.get F.DOP_STAT.PHASE != 3 || s.dop.sent then s
  else
    let m := s.dop.round
    let js := s.coupledNbs
    let conv := decide (1 ≤ m) && js.all (fun j => (s.dnb j).ok)
    let s1 := e.foldl (fun s x => x.2.zipIdx.foldl (fun s y => y.1.zipIdx.foldl (fun s z => s.setw (nbFld x.1 0x3000 y.2 z.2) z.1) s) s) s
    let s2 : State := { s1 with dop := { s1.dop with sent := true, sentConv := conv } }
    let s3 := js.foldl (fun s j =>
      let s1 := s.sendFrags j m conv false false
      if s.bit (F.NB_STAT.KEEPER j) then s1.sendFrags j m conv false true else s1) s2
    if s3.roundFull then s3.endRound else s3

def execCouplingRoundSend (dt : Nat) (e : List (Nat × List (List Word))) (s : State) : Host.Outcome State Fault Refusal :=
  .next (couplingRoundSend e (s.elapse dt)).settle

/-- COUPLING_FRAGMENT_RECEIVED (R269, R271). -/
def couplingFragment (src : Nat) (fr : CouplingFragment) (s : State) : State :=
  if !s.bit F.DOP_STAT.RUN then s
  else match s.dopNbs.find? (fun j => s.get (T.DOP_NB.NODE j) == src) with
  | none => s.flag F.DOP_ERR.NB_CFG
  | some j =>
    let solving := s.bit F.DOP_STAT.SOLVING && !s.dop.isLocal
    if fr.itie ≠ s.get (T.DOP_NB.ITIE_ID j) ∨ fr.nv ≠ s.get (T.DOP_NB.NV j) ∨ fr.n ≠ s.dopN ∨ fr.stepMin ≠ s.get F.DOP_STEP.STEP_MIN ∨
        fr.rho ≠ s.getw (T.DOP_NB.RHO j) then
      let s1 := s.flag F.DOP_ERR.NB_CFG
      if solving then
        let s2 := (s1.flag F.DOP_ERR.NB_LOST).set (F.NB_STAT.STATE j) 3
        if s2.bit F.DOP_STAT.SOLVING && s2.get F.DOP_STAT.PHASE == 3 && s2.roundFull then s2.endRound else s2
      else s1
    else if !solving || fr.epoch ≠ s.dop.s % 2 ^ 32 || s.get (F.NB_STAT.STATE j) ≠ 1 || (s.dnb j).ended then s
    else
      let x := s.dnb j
      if fr.iter < s.dop.round then
        if fr.done && fr.iter + 1 == s.dop.round && !fr.price && x.miss == 0 then
          let s1 := s.setDnb j { x with ended := true }
          if s1.coupledNbs.isEmpty then s1.set F.DOP_STAT.PHASE 4 else if s1.roundFull then s1.endRound else s1
        else s
      else
        let x1 := if fr.done && !fr.price then { x with doneAt := some fr.iter } else x
        let dup := x.frags.any (fun f => f.iter == fr.iter && f.k == fr.k && f.price == fr.price)
        let s1 := s.setDnb j (if dup then x1 else { x1 with frags := x1.frags ++ [fr] })
        if s1.get F.DOP_STAT.PHASE = 3 ∧ s1.roundFull then s1.endRound else s1

def execCouplingFragmentReceived (dt src : Nat) (fr : CouplingFragment) (s : State) : Host.Outcome State Fault Refusal :=
  .next (couplingFragment src fr (s.elapse dt)).settle

/-- ROUND_WAIT_EXPIRY (R270). -/
def roundWait (s : State) : State :=
  if s.bit F.DOP_STAT.SOLVING && s.get F.DOP_STAT.PHASE == 3 && s.dop.sent then s.endRound else s

def execRoundWaitExpiry (dt : Nat) (s : State) : Host.Outcome State Fault Refusal := .next (roundWait (s.elapse dt)).settle

/-! ### Holding, forecasts, shedding -/

/-- FC_COMMIT (R262). -/
def fcCommit (s : State) : State := if s.dopPresent then s.set F.DOP_CTRL.FC_COMMIT 1 else s

/-- FC_COMMIT_DONE (R262). -/
def fcCommitDone (s : State) : State :=
  if !s.bit F.DOP_CTRL.FC_COMMIT then s
  else
    let s1 := ((s.dopCopy 0x1400000 0x1410000 0xC400).addWrap F.DOP_FC_SEQ.SEQ 1).set F.DOP_FC_SEC.SEC s.sec32
    ({ s1 with dop := { s1.dop with fcSec := some s.clock.sec } }.set F.DOP_STAT.FC 1).set F.DOP_CTRL.FC_COMMIT 0

def execFcCommitDone (dt : Nat) (s : State) : Host.Outcome State Fault Refusal := .next (fcCommitDone (s.elapse dt)).settle

/-- A write of DOP_CTRL (R256, R262): HOLD, and FC_COMMIT where written 1. -/
def dopCtrl (v : Word) (s : State) : State :=
  if !s.dopPresent then s
  else
    let s1 := (s.setBit F.DOP_CTRL.HOLD (v.getLsbD 1)).setBit F.DOP_STAT.HOLD (v.getLsbD 1)
    if v.getLsbD 0 then fcCommit s1 else s1

/-- A write of DOP_FC_DATA (R262): a word of the staging buffer; each access advances the address. -/
def fcData (v : Word) (s : State) : State :=
  if !s.dopPresent then s
  else
    let s1 := if s.bit F.DOP_CTRL.FC_COMMIT then s.flag F.DOP_ERR.FC_BUSY
      else s.setw (dopFld (0x1400000 + s.get F.DOP_FC_ADDR.ADDR / 4 * 4)) v
    s1.addWrap F.DOP_FC_ADDR.ADDR 4

/-- A power-fail warning sheds DOP (R256). -/
def State.dopShed (s : State) : State :=
  if !s.bit F.DOP_STAT.RUN then s
  else
    let s1 := if s.bit F.DOP_STAT.SOLVING then ((s.inc F.DOP_SHED_CNT.COUNT).set F.DOP_RESULT.CLASS 6).dopEnd else s
    (s1.set F.DOP_STAT.SHED 1).gateDomain 14
/-- The end of the warning. -/
def State.dopResume (s : State) : State := s.set F.DOP_STAT.SHED 0

/-- DOP and trajectory application in full service (R251, R252). -/
def State.dopFull (s : State) : State :=
  if s.dopPresent && s.get F.TRJ_CFG.SRC == 1 && !s.bit (domFailFld 14) then s.set F.DOP_STAT.RUN 1 else s

end Sys2Proof.Machine
end

