-- ==== Sys2Proof/Machine/Nsv.lean ====
section
/-! DEFINITION. The network solver (chapter 9): measurements, plug transport, predictions, the bad-data test, the model image. The numeric
estimation enters as an operand (log entry 6); transport is worked in binary64, each operation rounded (log entry 70). -/
namespace Sys2Proof.Machine

/-! ### The model's tables -/

/-- Indices of a table's entries whose word 0 has a non-zero field at bit 0 of the given width. -/
def State.usedRows (s : State) (base stride cnt width : Nat) : List Nat :=
  let lo := tabKey 8 base
  s.words.filterMap (fun e =>
    if lo ≤ e.1 && e.1 < lo + stride * cnt && (e.1 - lo) % stride == 0 && e.2.toNat % 2 ^ width != 0
    then some ((e.1 - lo) / stride) else none)

/-- Configured sensors (R229). -/
def State.nsvSensors (s : State) : List Nat := s.usedRows 0 32 16384 5
/-- Enabled nodes of a thermal layer, by their index in the node table (layer 1 from 4096). -/
def State.nsvNodes (s : State) (l : Nat) : List Nat := (s.usedRows 0x80000 16 8192 2).filter (fun n => n / 4096 == l)
/-- Enabled branches of a thermal layer, by their index in the branch table (layer 1 from 6144). -/
def State.nsvBranches (s : State) (l : Nat) : List Nat := (s.usedRows 0xA0000 32 12288 4).filter (fun b => b / 6144 == l)
/-- Enabled buses and electrical branches. -/
def State.nsvBuses (s : State) : List Nat := s.usedRows 0x100000 16 256 2
def State.nsvEBranches (s : State) : List Nat := s.usedRows 0x101000 32 384 1

/-- A layer is active (R223). -/
def State.layerActive (s : State) (l : Nat) : Bool :=
  match l with
  | 2 => !s.nsvBuses.isEmpty
  | _ => !(s.nsvNodes l).isEmpty

/-- The node of a branch at its FROM or TO end. -/
def State.nsvFrom (s : State) (b : Nat) : Nat := b / 6144 * 4096 + s.get (T.NSV_BR.FROM b)
def State.nsvTo (s : State) (b : Nat) : Nat := b / 6144 * 4096 + s.get (T.NSV_BR.TO b)

/-! ### Measurements (R229 to R232) -/

/-- A sensor's raw value from input buffer `buf` of its station, or from its other source; none where the source gives no usable
reading (R231). -/
def State.sensRaw (s : State) (j buf : Nat) : Option Num :=
  let a := s.get (T.NSV_SENS.ADDR j)
  match s.get (T.NSV_SENS.SRC j) with
  | 1 =>
    let stn := a / 4096
    let dt := s.get (T.NSV_SENS.DTYPE j)
    let pat := s.inPattern stn buf (a % 4096) dt
    let lowest := dt % 2 == 1 && dt ≤ 5 && pat == 2 ^ (8 * dtSize dt - 1)
    if s.stnUp stn && !s.bufDrop stn buf && !(s.bit (T.NSV_SENS.INV_EN j) && lowest) then some (readNum dt pat) else none
  | 2 => if s.aiInvalid (a % 16) then none else some (.real (s.aiVal (a % 16)))
  | 3 =>
    let p := a % 8
    if !s.bit (F.PTn_STAT.INV p) && s.bit (F.PTn_STAT.AGG_OK p) then some (.int (s.ptValue p (a / 16 % 16))) else none
  | 4 => if s.bit (T.LPE_SLOT.EN (a % 4096)) then some (.real (s.getw (F.LPn_OUT.VALUE (a % 4096)))) else none
  | _ => none

/-- The measured value z = A·raw + B, where the raw value is finite (R229, R231). -/
def State.sensZ (s : State) (j buf : Nat) : Option Word :=
  match s.sensRaw j buf with
  | some r =>
    if (f32val r.toReal).notFinite then none
    else some (f32lin (s.getw (T.NSV_SENS.A j)) r.toReal (s.getw (T.NSV_SENS.B j)))
  | none => none

/-- The stations named by sensors. -/
def State.sensStns (s : State) : List Nat :=
  ((s.nsvSensors.filter (fun j => s.get (T.NSV_SENS.SRC j) == 1)).map (fun j => s.get (T.NSV_SENS.ADDR j) / 4096)).dedup

/-- WSEQ of an input buffer (R117). -/
def State.bufWseq (s : State) (stn b : Nat) : Nat := s.pageNat stn (inBuf b + 12) 4

/-- The buffer latched for a sensor's station. -/
def State.latchedBuf (s : State) (j : Nat) : Nat :=
  ((s.nsv.latched.find? (fun e => e.1 == s.get (T.NSV_SENS.ADDR j) / 4096)).map (fun e => e.2.1)).getD 0

/-- Take the valid value of a sensor, or none. -/
def State.takeMeas (s : State) (j : Nat) (z : Option Word) : State :=
  match z with
  | some w => { s with nsv := { s.nsv with meas := put j w s.nsv.meas, lastZ := put j w s.nsv.lastZ } }
  | none => { s with nsv := { s.nsv with meas := cut j s.nsv.meas } }

/-- NSV_GATHER (R232): the stations' newest buffers are latched and every measurement is read. -/
def State.nsvGather (s : State) : State :=
  let s1 := { s with nsv := { s.nsv with
    latched := s.sensStns.map (fun n => (n, s.newest n, s.bufWseq n (s.newest n))), meas := [] } }
  s1.nsvSensors.foldl (fun s j => s.takeMeas j (s.sensZ j (s.latchedBuf j))) s1

/-- A latched buffer that SIO has overwritten before NSV read it: the newest complete buffer is read, NSV_LATE_RD counts (R232). `stn` is the
station whose buffer was reached late. -/
def State.nsvLate (s : State) (stn : Nat) : State :=
  match s.nsv.latched.find? (fun e => e.1 == stn) with
  | some (_, b, q) =>
    if s.bufWseq stn b = q then s
    else
      (s.nsvSensors.filter (fun j => s.get (T.NSV_SENS.SRC j) == 1 && s.get (T.NSV_SENS.ADDR j) / 4096 == stn)).foldl
        (fun s j => s.takeMeas j (s.sensZ j (s.newest stn))) (s.inc F.NSV_LATE_RD.COUNT)
  | none => s

/-- A valid measurement of the solve that is not flagged bad. -/
def State.goodMeas (s : State) (j : Nat) : Option Word :=
  if s.nsv.bad.contains j then none else s.nsv.meas.lookup j

/-! ### The schedule (R232, R245, R248, R249) -/

/-- NSV_WAKE_REQUEST. -/
def nsvWake (s : State) : State :=
  if s.bit F.NSV_STAT.RUN && !s.bit F.NSV_STAT.SHED then s.wakeDomain 13 else s

def execNsvWakeRequest (dt : Nat) (s : State) : Host.Outcome State Fault Refusal := .next (nsvWake (s.elapse dt)).settle

/-- NSV_SOLVE_START: an S_k that falls during the warning is shed and counted (R249); otherwise the snapshot is taken, and CLR_BAD clears the
flags (R236). -/
def nsvSolveStart (s : State) : State :=
  if !s.bit F.NSV_STAT.RUN then s
  else if s.bit F.NSV_STAT.SHED then s.inc F.NSV_SHED.COUNT
  else if !s.domOn 13 || s.bit F.NSV_STAT.SOLVING then s
  else
    let s1 := if s.nsv.clrBad then
      [0, 1, 2].foldl (fun s l => s.set (F.NSV_NETn_STAT.BAD l) 0)
        { s with nsv := { s.nsv with bad := [], badRun := [], clrBad := false } }
      else s
    let s2 := { s1 with nsv := { s1.nsv with startUp := s1.clock.up, snapSec := s1.sec32, snapNs := s1.nsNow } }
    (s2.set F.NSV_STAT.SOLVING 1).nsvGather

def execNsvSolveStart (dt : Nat) (s : State) : Host.Outcome State Fault Refusal := .next (nsvSolveStart (s.elapse dt)).settle

/-- NSV_DEADLINE: the solve is abandoned, the domain stays on for the next one. -/
def nsvDeadline (s : State) : State :=
  if s.bit F.NSV_STAT.SOLVING then ((s.set F.NSV_STAT.SOLVING 0).inc F.NSV_STALE.COUNT).flag F.NSV_ERR.OVR else s

def execNsvDeadline (dt : Nat) (s : State) : Host.Outcome State Fault Refusal := .next (nsvDeadline (s.elapse dt)).settle

/-- The warning sheds NSV (R249). -/
def State.nsvShed (s : State) : State :=
  if !s.bit F.NSV_STAT.RUN then s
  else
    let s1 := if s.bit F.NSV_STAT.SOLVING then (s.set F.NSV_STAT.SOLVING 0).inc F.NSV_SHED.COUNT else s
    (s1.set F.NSV_STAT.SHED 1).gateDomain 13

/-- NSV comes into service (R248): which layers are active; layer 2 needs no region. -/
def State.nsvFull (s : State) : State :=
  let s1 := s.set F.NSV_STAT.RUN 1
  let s2 := [0, 1, 2].foldl (fun s l => s.setBit (F.NSV_NETn_STAT.ACTIVE l) (s.layerActive l)) s1
  s2.setBit (F.NSV_NETn_STAT.REGION 2) (s.layerActive 2)

/-- The bytes of layer l's plug region in granules (R247). -/
def State.plugGran (s : State) (l : Nat) : Nat :=
  (((s.nsvBranches l).map (fun b => s.get (T.NSV_BR.PLUG_N b))).sum * 16 + 65535) / 65536

/-- NSV's part of REGION_REQUEST (R247): tag 2·layer for the factor region, 2·layer + 1 for the plug region; only an active layer's, and only
while it is not held. -/
def State.nsvRegion (s : State) (tag gran : Nat) : State :=
  let l := tag / 2 % 2
  if !s.bit F.NSV_STAT.RUN || !s.layerActive l || s.nsv.granted.contains (tag % 4) then s
  else
    let r := s.requestRegion 0 (if tag % 2 = 1 then s.plugGran l else gran)
    match r.2 with
    | some _ =>
      let s1 := { r.1 with nsv := { r.1.nsv with granted := (tag % 4) :: r.1.nsv.granted } }
      s1.setBit (F.NSV_NETn_STAT.REGION l) (s1.nsv.granted.contains (2 * l) && s1.nsv.granted.contains (2 * l + 1))
    | none => r.1.flag F.NSV_ERR.ALLOC

/-- REGION_REQUEST (R133): NSV (owner 0) asks for the region `tag` names (R247), REC (owner 1) for its accumulators (R493). -/
def regionRequest (owner gran tag : Nat) (s : State) : State := if owner = 0 then s.nsvRegion tag gran else s.recRegion gran

def execRegionRequest (dt owner gran tag : Nat) (s : State) : Host.Outcome State Fault Refusal :=
  .next (regionRequest owner gran tag (s.elapse dt)).settle

/-! ### Media and curves (R228) -/

abbrev D := BitVec 64
/-- binary64 of a fraction. -/
def dOf (n : Int) (d : Nat) : D := f64bits (.ofQ n d)
/-- binary64 of a binary32. -/
def dOf32 (w : Word) : D := f64bits (f32val w)
/-- binary32 of a binary64. -/
def dTo32 (x : D) : Word := f32bits (f64val x)
/-- π as binary64. -/
def dPi : D := 0x400921FB54442D18#64
def dLt (a b : D) : Bool := (f64val a).lt (f64val b)
def dAbs (a : D) : D := f64bits (f64val a).abs
/-- Half. -/
def dMean (a b : D) : D := f64div (f64add a b) (dOf 2 1)

/-- A point's temperature in °C. -/
def State.medTheta (s : State) (i : Nat) : D := dOf (s.geti (T.NSV_MED.THETA i)) 100

/-- A property of layer l's medium at θ: linear between points, constant beyond the end points (R228). -/
def State.medium (s : State) (l : Nat) (f : Nat → Fld) (t : D) : D :=
  let p := fun i => 32 * l + i
  let y := fun i => dOf32 (s.getw (f (p i)))
  if dLt t (s.medTheta (p 0)) then y 0
  else match (List.range 31).find? (fun i => dLt t (s.medTheta (p (i + 1)))) with
    | some i =>
      let r := f64div (f64sub t (s.medTheta (p i))) (f64sub (s.medTheta (p (i + 1))) (s.medTheta (p i)))
      f64add (y i) (f64mul r (f64sub (y (i + 1)) (y i)))
    | none => y 31

/-! ### Plug segments (R237, R238) -/

/-- Volume-weighted mean of segments: Σ v·θ / Σ v. -/
def plugMean (l : List (D × D)) : D :=
  f64div (l.foldl (fun a e => f64add a (f64mul e.1 e.2)) 0) (l.foldl (fun a e => f64add a e.1) 0)

/-- Volume of segments. -/
def plugVol (l : List (D × D)) : D := l.foldl (fun a e => f64add a e.1) 0

/-- Two adjacent segments as one. -/
def plugJoin (a b : D × D) : D × D := (f64add a.1 b.1, plugMean [a, b])

/-- Insert at the head (the inflow end): within 0.01 K of the head segment it merges into it (R238). -/
def plugInsert (v t : D) : List (D × D) → List (D × D)
  | [] => [(v, t)]
  | h :: r => if !dLt (dOf 1 100) (dAbs (f64sub t h.2)) then plugJoin (v, t) h :: r else (v, t) :: h :: r

/-- Take a volume from the head of a list (given from the outflow end): what is removed and what stays. -/
def plugTake (v : D) : List (D × D) → List (D × D) × List (D × D)
  | [] => ([], [])
  | h :: r =>
    if dLt v h.1 then ([(v, h.2)], (f64sub h.1 v, h.2) :: r)
    else
      let x := plugTake (f64sub v h.1) r
      (h :: x.1, x.2)

/-- The index of the adjacent pair with the smallest temperature difference, the last such in the list (toward the outflow end); `best` is the
best so far. -/
def plugClosest (i : Nat) (best : Option (Nat × D)) : List (D × D) → Option (Nat × D)
  | a :: b :: r =>
    let d := dAbs (f64sub a.2 b.2)
    let nb := match best with
      | some (k, e) => if dLt e d then some (k, e) else some (i, d)
      | none => some (i, d)
    plugClosest (i + 1) nb (b :: r)
  | _ => best

/-- Join the pair at an index. -/
def plugJoinAt : Nat → List (D × D) → List (D × D)
  | 0, a :: b :: r => plugJoin a b :: r
  | n + 1, a :: r => a :: plugJoinAt n r
  | _, l => l

/-- Keep at most n segments (R238). -/
def plugLimit (n : Nat) (l : List (D × D)) : List (D × D) :=
  if n < l.length then (match plugClosest 0 none l with
    | some (i, _) => plugJoinAt i l
    | none => l) else l

/-- Move a volume through a branch, segments listed from the inflow end: new content and outlet temperature (R237 steps 2 and 3). -/
def plugMove (v t vol : D) (n : Nat) (l : List (D × D)) : List (D × D) × D :=
  if dLt vol v then ([(vol, t)], plugMean (l ++ [(f64sub v vol, t)]))
  else
    let r := plugTake v (plugInsert v t l).reverse
    (plugLimit n r.2.reverse, plugMean r.1)

/-! ### Branches -/

/-- The branch temperature (R226): the mean of its segments, or its inflow node's temperature `tin`. -/
def State.branchTemp (s : State) (b : Nat) (tin : D) : D :=
  match s.nsv.plugs.lookup b with
  | some l => plugMean l
  | none => tin

/-- Pipe or store. -/
def State.isPlug (s : State) (b : Nat) : Bool := s.get (T.NSV_BR.TYPE b) == 1 || s.get (T.NSV_BR.TYPE b) == 5

/-- Its volume: π/4·D²·L, or VOL. -/
def State.branchVol (s : State) (b : Nat) : D :=
  if s.get (T.NSV_BR.TYPE b) = 1 then
    let d := dOf32 (s.getw (T.NSV_BR.P1 b))
    f64mul (f64mul (f64div dPi (dOf 4 1)) (f64mul d d)) (dOf32 (s.getw (T.NSV_BR.P0 b)))
  else dOf32 (s.getw (T.NSV_BR.P0 b))

/-- e^(−x) for a non-negative binary64 value. -/
def dExpNeg (x : D) : D :=
  match f64val x with
  | .fin false n d => f64bits (.ofFrac false (expNeg n d) (2 ^ 300))
  | .fin true _ _ => dOf 1 1
  | .inf false => 0
  | v => f64bits v

/-- Heat loss of a pipe's or store's segments over `sec` seconds (R237 step 1). -/
def State.plugLoss (s : State) (b : Nat) (sec : D) (l : List (D × D)) : List (D × D) :=
  let lay := b / 6144
  let u := if s.get (T.NSV_BR.TYPE b) = 1 then dOf32 (s.getw (T.NSV_BR.P4 b)) else dOf32 (s.getw (T.NSV_BR.P2 b))
  if (f64val u).isZero then l
  else
    let t := plugMean l
    let rc := f64mul (s.medium lay T.NSV_MED.RHO t) (f64mul (s.medium lay T.NSV_MED.CP t) (dOf 1000 1))
    let tau := if s.get (T.NSV_BR.TYPE b) = 1 then
        let d := dOf32 (s.getw (T.NSV_BR.P1 b))
        f64div (f64mul rc (f64mul (f64div dPi (dOf 4 1)) (f64mul d d))) (f64mul (f64mul u dPi) d)
      else f64div (f64mul rc (dOf32 (s.getw (T.NSV_BR.P0 b)))) u
    let e := dExpNeg (f64div sec tau)
    let g := dOf32 (s.getw (if lay = 0 then F.NSV_TGND0.VALUE else F.NSV_TGND1.VALUE))
    l.map (fun x => (x.1, f64add g (f64mul (f64sub x.2 g) e)))

/-- Flow of a branch in an image buffer's words (Table 9.5), m³/h. -/
def imgBranch (b : Nat) : Nat := if b < 6144 then 0x19000 + 8 * b else 0x2D000 + 8 * (b - 6144)
def imgNode (n : Nat) : Nat := if n < 4096 then 0x11000 + 8 * n else 0x25000 + 8 * (n - 4096)

/-- What a transport works on: the flows by branch, nodes already mixed, branches still to advance, predictions noted (sensor, value),
and outflows into nodes (node, volume, temperature). -/
structure Transit where
  flows : List (Nat × Word)
  mixed : List Nat
  left : List Nat
  preds : List (Nat × Word)
  into : List (Nat × D × D)
deriving DecidableEq, Repr

/-- The flow and the ends of a branch. -/
def Transit.q (t : Transit) (b : Nat) : Word := (t.flows.lookup b).getD 0
def flowNeg (w : Word) : Bool := (f32val w).lt (.fin false 0 1)
/-- Inflow and outflow nodes (R237). -/
def State.inNode (s : State) (t : Transit) (b : Nat) : Nat := if flowNeg (t.q b) then s.nsvTo b else s.nsvFrom b
def State.outNode (s : State) (t : Transit) (b : Nat) : Nat := if flowNeg (t.q b) then s.nsvFrom b else s.nsvTo b
/-- V_in in m³. -/
def Transit.vin (t : Transit) (sec : D) (b : Nat) : D :=
  f64div (f64mul (dAbs (dOf32 (t.q b))) sec) (dOf 3600 1)
/-- The branch moves: V_in is not below 10⁻⁹ m³. -/
def Transit.moves (t : Transit) (sec : D) (b : Nat) : Bool := !dLt (t.vin sec b) (dOf 1 1000000000)

/-- The correction of an element's temperature by its sensors in ascending order (R237), noting each one's prediction before it. -/
def State.correct (s : State) (kind l elem : Nat) (t : D) : D × List (Nat × Word) :=
  let js := s.nsvSensors.filter (fun j => s.get (T.NSV_SENS.KIND j) == kind && s.get (T.NSV_SENS.LAYER j) == l &&
    s.get (T.NSV_SENS.ELEM j) == elem && s.bit (T.NSV_SENS.SE_EN j))
  js.foldl (fun acc j => match s.goodMeas j with
    | some z => (f64add acc.1 (f64mul (dOf32 (s.getw (T.NSV_SENS.K_T j))) (f64sub (dOf32 z) acc.1)), (j, dTo32 acc.1) :: acc.2)
    | none => acc) (t, [])

/-- A node's temperature in transport. -/
def State.nodeTemp (s : State) (n : Nat) : D := (s.nsv.nodeT.lookup n).getD 0

/-- Mix a node (R237). -/
def State.mixNode (s : State) (t : Transit) (n : Nat) : State × Transit :=
  if t.mixed.contains n then (s, t)
  else
    let ins := (t.into.filter (fun e => e.1 == n)).map (fun e => e.2)
    let t0 := if ins.isEmpty then s.nodeTemp n else plugMean ins
    let r := s.correct 2 (n / 4096) (n % 4096) t0
    ({ s with nsv := { s.nsv with nodeT := put n r.1 s.nsv.nodeT } }, { t with mixed := n :: t.mixed, preds := r.2 ++ t.preds })

/-- A branch's outlet temperature before correction and its new content, from its inlet temperature (R226, R237). -/
def State.outletOf (s : State) (t : Transit) (sec : D) (b : Nat) (tin : D) : State × D :=
  let sens := s.get (T.NSV_BR.SENS b)
  if s.isPlug b then
    let l := s.plugLoss b sec ((s.nsv.plugs.lookup b).getD [])
    let neg := flowNeg (t.q b)
    if t.moves sec b then
      let r := plugMove (t.vin sec b) tin (s.branchVol b) (s.get (T.NSV_BR.PLUG_N b)) (if neg then l.reverse else l)
      ({ s with nsv := { s.nsv with plugs := put b (if neg then r.1.reverse else r.1) s.nsv.plugs } }, r.2)
    else ({ s with nsv := { s.nsv with plugs := put b l s.nsv.plugs } }, (s.nsv.outT.lookup b).getD tin)
  else if !t.moves sec b then (s, (s.nsv.outT.lookup b).getD tin)
  else if s.get (T.NSV_BR.TYPE b) = 4 then
    if s.bit (T.NSV_BR.THM b) then (s, dOf32 (s.getw (T.NSV_BR.P2 b)))
    else match s.goodMeas sens with
      | some z => (s, dOf32 z)
      | none => (s, f64sub tin (dOf32 (s.getw (T.NSV_BR.P1 b))))
  else (s, tin)

/-- Advance a branch; `cut` where a cycle is broken at it: it uses its inlet temperature of the transport before. -/
def State.advanceBranch (s : State) (t : Transit) (sec : D) (b : Nat) (broken : Bool) : State × Transit :=
  let n := s.inNode t b
  let r0 := if broken then (s, t) else s.mixNode t n
  let tin := if broken then (s.nsv.inT.lookup b).getD (s.nodeTemp n) else r0.1.nodeTemp n
  let r := r0.1.outletOf r0.2 sec b tin
  let c := r.1.correct 5 (b / 6144) (b % 6144) r.2
  let s1 := { r.1 with nsv := { r.1.nsv with outT := put b c.1 r.1.nsv.outT, inT := put b tin r.1.nsv.inT } }
  let into := if r0.2.moves sec b then [(s1.outNode t b, r0.2.vin sec b, c.1)] else []
  (s1, { r0.2 with left := r0.2.left.filter (· != b), preds := c.2 ++ r0.2.preds, into := r0.2.into ++ into })

/-- Branches still to advance that flow into a node. -/
def State.feeders (s : State) (t : Transit) (sec : D) (n : Nat) : List Nat :=
  t.left.filter (fun b => t.moves sec b && s.outNode t b == n)

/-- Walk against the flow from a branch until one repeats: the branches of a cycle. -/
def State.walkBack (s : State) (t : Transit) (sec : D) (seen : List Nat) (b : Nat) : Nat → List Nat
  | 0 => [b]
  | fuel + 1 =>
    if seen.contains b then b :: seen.takeWhile (· != b)
    else match s.feeders t sec (s.inNode t b) with
      | [] => [b]
      | p :: _ => s.walkBack t sec (b :: seen) p fuel

/-- The lowest-numbered. -/
def lowest : List Nat → Option Nat
  | [] => none
  | x :: r => some (r.foldl min x)

/-- Advance every branch in order (R237): the lowest-numbered whose inflow node has all its inflows; where none has, a cycle is broken. -/
def State.advanceAll (s : State) (t : Transit) (sec : D) : Nat → State × Transit
  | 0 => (s, t)
  | fuel + 1 =>
    match t.left with
    | [] => (s, t)
    | b0 :: _ =>
      match t.left.find? (fun b => (s.feeders t sec (s.inNode t b)).isEmpty) with
      | some b => let r := s.advanceBranch t sec b false; r.1.advanceAll r.2 sec fuel
      | none =>
        let cyc := s.walkBack t sec [] b0 (t.left.length + 1)
        let b := ((lowest (cyc.filter (fun b => s.get (T.NSV_BR.TYPE b) == 4))).orElse (fun _ => lowest cyc)).getD b0
        let r := s.advanceBranch t sec b true
        r.1.advanceAll r.2 sec fuel

/-- Cold start of a thermal layer (R239). -/
def State.coldStart (s : State) (l : Nat) : State :=
  let initT := fun n => dOf (s.geti (T.NSV_NODE.INIT_T n)) 100
  let s1 := (s.nsvNodes l).foldl (fun s n => { s with nsv := { s.nsv with nodeT := put n (initT n) s.nsv.nodeT } }) s
  let s2 := (s.nsvBranches l).foldl (fun s b =>
    let m := dMean (initT (s.nsvFrom b)) (initT (s.nsvTo b))
    let s1 := { s with nsv := { s.nsv with outT := put b m s.nsv.outT, inT := put b m s.nsv.inT } }
    if s.isPlug b then { s1 with nsv := { s1.nsv with plugs := put b [(s.branchVol b, m)] s1.nsv.plugs } } else s1) s1
  { s2 with nsv := { s2.nsv with warm := put l 0 s2.nsv.warm } }.flag F.NSV_ERR.TH_REINIT

/-- Transport of a thermal layer that holds its plug region (R237, R239): the state, the predictions noted, whether it was cold-started. -/
def State.transport (s : State) (l : Nat) (flows : List (Nat × Word)) (reinit : Bool) : State × List (Nat × Word) × Bool :=
  let up := s.nsv.startUp
  let done := fun (s : State) => { s with nsv := { s.nsv with lastTr := put l up s.nsv.lastTr } }
  match s.nsv.lastTr.lookup l with
  | some u =>
    if reinit || 60 * 250000000 < up - u then (done (s.coldStart l), [], true)
    else
      let sec := dOf ((up - u : Nat) : Int) 250000000
      let t : Transit := ⟨flows, [], s.nsvBranches l, [], []⟩
      let r := s.advanceAll t sec (t.left.length + 1)
      let r2 := (r.1.nsvNodes l).foldl (fun x n => x.1.mixNode x.2 n) r
      let s1 := { r2.1 with nsv := { r2.1.nsv with warm := put l ((r2.1.nsv.warm.lookup l).getD 0 + 1) r2.1.nsv.warm } }
      (done s1, r2.2.preds, false)
  | none => (done (s.coldStart l), [], true)

/-! ### Predictions and validity (R229, R242) -/

/-- A pump's or valve's setting (R227). -/
def State.setting (s : State) (b : Nat) : Word :=
  let fixd := s.getw (if s.get (T.NSV_BR.TYPE b) = 2 then T.NSV_BR.P3 b else T.NSV_BR.P2 b)
  if s.bit (T.NSV_BR.SET_SRC b) then (s.nsv.lastZ.lookup (s.get (T.NSV_BR.SENS b))).getD fixd else fixd

/-- A reference node's pressure (R225). -/
def State.refPressure (s : State) (n : Nat) : Word :=
  let p := s.getw (T.NSV_NODE.P n)
  if s.bit (T.NSV_NODE.REF_SRC n) then (s.nsv.lastZ.lookup (s.get (T.NSV_NODE.REF_SENS n))).getD p else p

/-- A word of a list of images' words being written: the other buffer. -/
def State.nextWord (s : State) (off : Nat) : Word := look (fun _ => 0) s.nsv.img ((1 - s.nsv.cur) * 0x100000 + off)
def State.setNext (s : State) (off : Nat) (v : Word) : State :=
  { s with nsv := { s.nsv with img := store (fun _ => 0) ((1 - s.nsv.cur) * 0x100000 + off) v s.nsv.img } }

/-- Heat rate ρ·c_p·q·(θ_in − θ_out)/3 600 (Table 9.4). -/
def State.heatRate (s : State) (b : Nat) (q : Word) : D :=
  let tin := (s.nsv.inT.lookup b).getD 0
  let tout := (s.nsv.outT.lookup b).getD 0
  let t := s.branchTemp b tin
  let l := b / 6144
  f64div (f64mul (f64mul (f64mul (s.medium l T.NSV_MED.RHO t) (s.medium l T.NSV_MED.CP t)) (dOf32 q)) (f64sub tin tout)) (dOf 3600 1)

/-- The prediction of a sensor from the state just solved, whose nodes, branches and buses stand in the image being written; `preds` holds the
values before correction, `inj` the bus injections. -/
def State.predict (s : State) (j : Nat) (preds : List (Nat × Word)) (inj : List (Nat × Word × Word)) : Word :=
  let l := s.get (T.NSV_SENS.LAYER j)
  let e := s.get (T.NSV_SENS.ELEM j)
  let n := 4096 * l + e
  let b := 6144 * l + e
  match s.get (T.NSV_SENS.KIND j) with
  | 1 => s.nextWord (imgNode n)
  | 2 => (preds.lookup j).getD (dTo32 (s.nodeTemp n))
  | 3 => s.nextWord (imgBranch b)
  | 4 => f32sub (s.nextWord (imgNode (s.nsvFrom b))) (s.nextWord (imgNode (s.nsvTo b)))
  | 5 => (preds.lookup j).getD (dTo32 ((s.nsv.outT.lookup b).getD 0))
  | 6 => dTo32 (s.heatRate b (s.nextWord (imgBranch b)))
  | 7 => s.setting b
  | 8 => s.nextWord (0x39000 + 8 * e)
  | 9 => s.nextWord (0x39004 + 8 * e)
  | 10 => s.nextWord (0x39800 + 8 * e)
  | 11 => s.nextWord (0x39804 + 8 * e)
  | 12 => ((inj.lookup e).map Prod.fst).getD 0
  | _ => ((inj.lookup e).map Prod.snd).getD 0

/-- What a layer's solve came to: the layer's sensors are valid by convergence (`fresh`) or keep their bits (`keep`). -/
structure LayerEnd where
  conv : Bool
  keep : Bool
deriving DecidableEq, Repr

/-- Thermal sensors of layer l can be valid (R242): plug region held, warm-up complete. -/
def State.thermOk (s : State) (l : Nat) : Bool :=
  s.nsv.granted.contains (2 * l + 1) && s.get F.NSV_ITER.WARM ≤ (s.nsv.warm.lookup l).getD 0 && (s.nsv.lastTr.lookup l).isSome

/-- A sensor is valid in the image being written (R235, R242). -/
def State.sensNextValid (s : State) (j : Nat) (en : LayerEnd) : Bool :=
  let l := s.get (T.NSV_SENS.LAYER j)
  let k := s.get (T.NSV_SENS.KIND j)
  if en.conv then
    if k = 2 ∨ k = 5 ∨ k = 6 then s.thermOk l
    else if k = 7 then
      let b := 6144 * l + s.get (T.NSV_SENS.ELEM j)
      s.bit (T.NSV_BR.SET_SRC b) && (s.nsv.meas.lookup (s.get (T.NSV_BR.SENS b))).isSome
    else true
  else en.keep && s.sensValid j && (!(k = 2 ∨ k = 5 ∨ k = 6) || s.thermOk l)

/-! ### Bad data (R236) -/

/-- A weighted-row or correction measurement of layer l (R236). -/
def State.weighted (s : State) (l : Nat) : List Nat :=
  s.nsvSensors.filter (fun j => s.bit (T.NSV_SENS.SE_EN j) && s.get (T.NSV_SENS.LAYER j) == l &&
    s.get (T.NSV_SENS.SRC j) != 0 && s.get (T.NSV_SENS.KIND j) != 6 && s.get (T.NSV_SENS.KIND j) != 7)

/-- r = |z − h| / SIGMA, exactly. -/
def State.residual (s : State) (j : Nat) (z h : Word) : FVal :=
  (((f32val z).sub (f32val h)).abs).div (f32val (s.getw (T.NSV_SENS.SIGMA j)))

/-- Insert into a list ordered by falling residual; equal ones keep their order. -/
def insRes (x : Nat × FVal) : List (Nat × FVal) → List (Nat × FVal)
  | [] => [x]
  | y :: t => if y.2.lt x.2 then x :: y :: t else y :: insRes x t

/-- The bad-data test of a converged layer. -/
def State.badTest (s : State) (l : Nat) (h : Nat → Word) : State :=
  if !s.bit F.NSV_ITER.BAD_EN then s
  else
    let lim := f32val (s.getw F.NSV_BAD_LIM.VALUE)
    let half := lim.mul (.fin false 1 2)
    let rs := (s.weighted l).filterMap (fun j => (s.nsv.meas.lookup j).map (fun z => (j, s.residual j z (h j))))
    let s1 := rs.foldl (fun s e =>
      if !s.nsv.bad.contains e.1 then s
      else
        let n := if e.2.lt half then (s.nsv.badRun.lookup e.1).getD 0 + 1 else 0
        if s.get F.NSV_ITER.BAD_CLR ≤ n then
          { s with nsv := { s.nsv with bad := s.nsv.bad.filter (· != e.1), badRun := cut e.1 s.nsv.badRun } }
        else { s with nsv := { s.nsv with badRun := put e.1 n s.nsv.badRun } }) s
    let new := ((rs.filter (fun e => !s.nsv.bad.contains e.1 && lim.lt e.2)).foldr insRes []).take 8
    let s2 := new.foldl (fun s e =>
      ({ s with nsv := { s.nsv with bad := e.1 :: s.nsv.bad, badRun := put e.1 0 s.nsv.badRun } }.flag F.NSV_ERR.BAD).log 8 7 e.1 4) s1
    s2.set (F.NSV_NETn_STAT.BAD l) (min 255 (s2.nsv.bad.filter (fun j => s2.get (T.NSV_SENS.LAYER j) == l)).length)

/-! ### Completion (R233 to R241) -/

/-- Hydraulic and electrical results into the image being written: the layer's own, or the current image's (R235). -/
def State.layerResult (s : State) (l : Nat) (r : NsvLayer) (conv : Bool) : State :=
  let two := fun (s : State) (off : Nat) (x : Word × Word) => (s.setNext off x.1).setNext (off + 4) x.2
  if l = 2 then
    let s1 := s.nsvBuses.foldl (fun s u =>
      two s (0x39000 + 8 * u) (if conv then (r.node.lookup u).getD (0, 0) else (s.imgWord (0x39000 + 8 * u), s.imgWord (0x39004 + 8 * u)))) s
    s1.nsvEBranches.foldl (fun s e =>
      two s (0x39800 + 8 * e) (if conv then (r.branch.lookup e).getD (0, 0) else (s.imgWord (0x39800 + 8 * e), s.imgWord (0x39804 + 8 * e)))) s1
  else
    let s1 := (s.nsvNodes l).foldl (fun s n =>
      s.setNext (imgNode n) (if !conv then s.imgWord (imgNode n)
        else if s.get (T.NSV_NODE.TYPE n) = 2 then s.refPressure n
        else ((r.node.lookup (n % 4096)).map Prod.fst).getD 0)) s
    (s1.nsvBranches l).foldl (fun s b =>
      s.setNext (imgBranch b) (if conv then ((r.branch.lookup (b % 6144)).map Prod.fst).getD 0 else s.imgWord (imgBranch b))) s1

/-- A layer's convergence (R235), where it is active and holds what its solution needs. -/
def State.layerConv (s : State) (l : Nat) (r : NsvLayer) : State × LayerEnd :=
  if !s.layerActive l || (l != 2 && !s.nsv.granted.contains (2 * l)) then
    ((s.set (F.NSV_NETn_STAT.CONV l) 0).layerResult l r false, ⟨false, false⟩)
  else
    let s1 := s.set (F.NSV_NETn_STAT.ITER l) r.iters
    if r.conv && r.iters ≤ s.get F.NSV_ITER.MAX_IT then
      (((s1.set (F.NSV_NETn_STAT.CONV l) 1).set (F.NSV_NETn_STAT.NCONV_RUN l) 0).layerResult l r true, ⟨true, false⟩)
    else
      let n := min 7 (s.get (F.NSV_NETn_STAT.NCONV_RUN l) + 1)
      ((((s1.set (F.NSV_NETn_STAT.CONV l) 0).set (F.NSV_NETn_STAT.NCONV_RUN l) n).inc F.NSV_NCONV.COUNT).flag F.NSV_ERR.NCONV
        |>.layerResult l r false, ⟨false, n ≤ 4⟩)

/-- The temperatures of a thermal layer into the image being written. -/
def State.writeTemps (s : State) (l : Nat) : State :=
  let s1 := (s.nsvNodes l).foldl (fun s n => s.setNext (imgNode n + 4) (dTo32 (s.nodeTemp n))) s
  (s1.nsvBranches l).foldl (fun s b => s.setNext (imgBranch b + 4) (dTo32 ((s.nsv.outT.lookup b).getD 0))) s1

/-- Transport of layer l in this solve: with the flows just written; the predictions noted and whether it was cold-started. -/
def State.layerTransport (s : State) (l : Nat) (reinit : Bool) : State × List (Nat × Word) × Bool :=
  if s.layerActive l && s.nsv.granted.contains (2 * l + 1) then
    let r := s.transport l ((s.nsvBranches l).map (fun b => (b, s.nextWord (imgBranch b)))) reinit
    let s1 := r.1.setBit (F.NSV_NETn_STAT.THERM l) (r.1.thermOk l)
    (s1.writeTemps l, r.2.1, r.2.2)
  else (s, [], false)

/-- Start to write the buffer that consumers are not reading (R241); a requester that had frozen it has lost it (R244). -/
def State.openBuffer (s : State) : State :=
  let b := 1 - s.nsv.cur
  let lost := s.nsv.frozen.any (fun e => e.2 == b)
  let s1 := { s with nsv := { s.nsv with
    img := s.nsv.img.filter (fun e => e.1 / 0x100000 != b)
    frozen := s.nsv.frozen.map (fun e => if e.2 = b then (e.1, 2) else e) } }
  if lost then s1.flag F.NSV_ERR.FREEZE_LOST else s1

/-- NSV_SOLVE_COMPLETE. `late` are the stations whose latched buffer NSV reached only now. -/
def nsvSolveComplete (late : List Nat) (l0 l1 l2 : NsvLayer) (s : State) : State :=
  if !s.bit F.NSV_STAT.SOLVING then s
  else
    let sg := (late.foldl State.nsvLate s).openBuffer
    let c0 := sg.layerConv 0 l0
    let c1 := c0.1.layerConv 1 l1
    let c2 := c1.1.layerConv 2 l2
    let reinit := c2.1.nsv.thReinit
    let t0 := c2.1.layerTransport 0 reinit
    let t1 := t0.1.layerTransport 1 reinit
    let sT := { t1.1 with nsv := { t1.1.nsv with thReinit := false } }
    let preds := t0.2.1 ++ t1.2.1
    let ends := [c0.2, c1.2, c2.2]
    let endOf := fun (s : State) (j : Nat) => ends.getD (s.get (T.NSV_SENS.LAYER j)) ⟨false, false⟩
    -- predictions and validity (R242)
    let sP := sT.nsvSensors.foldl (fun s j =>
      if s.sensNextValid j (endOf s j) then
        let v := if (endOf s j).conv then s.predict j preds l2.inj else s.pred j
        let o := 0x40 + 4 * (j / 32)
        (s.setNext (0x1000 + 4 * j) v).setNext o (s.nextWord o ||| BitVec.ofNat 32 (2 ^ (j % 32)))
      else s.setNext (0x1000 + 4 * j) (s.pred j)) sT
    -- bad data (R236)
    let sB := [0, 1, 2].foldl (fun s l =>
      if (ends.getD l ⟨false, false⟩).conv then s.badTest l (fun j => sP.predict j preds l2.inj) else s) sP
    -- header (Table 9.5)
    let us := (sB.clock.up - sB.nsv.startUp) / 250
    let valid := [0, 1, 2].foldl (fun a l =>
      let e := ends.getD l ⟨false, false⟩
      if e.conv || (e.keep && sB.bit (F.NSV_NETn_STAT.VALID l)) then a + 2 ^ l else a) 0
    let conv := [0, 1, 2].foldl (fun a l => if (ends.getD l ⟨false, false⟩).conv then a + 2 ^ l else a) 0
    let flags := (!sB.nsv.published).toNat + 2 * (t0.2.2 || t1.2.2).toNat + 4 * conv + 32 * valid
    let its := sB.get (F.NSV_NETn_STAT.ITER 0) + 256 * sB.get (F.NSV_NETn_STAT.ITER 1) + 65536 * sB.get (F.NSV_NETn_STAT.ITER 2)
    let hdr := [(sB.get F.NSV_SEQ.SEQ + 1) % 2 ^ 32, sB.nsv.snapSec, sB.nsv.snapNs, us, flags + 256 * its,
      sB.nsv.bad.length, sB.get F.NSV_PERIOD.PERIOD]
    let sH := hdr.zipIdx.foldl (fun s e => s.setNext (4 * e.2) (BitVec.ofNat 32 e.1)) sB
    let s3 := { sH with nsv := { sH.nsv with ready := true, readyValid := valid } }
    let s4 := (s3.set F.NSV_LAST_US.US (min us 0xFFFFFFFF)).set F.NSV_MAX_US.US (max (s3.get F.NSV_MAX_US.US) (min us 0xFFFFFFFF))
    (s4.set F.NSV_STAT.SOLVING 0).gateDomain 13

def execNsvSolveComplete (dt : Nat) (late : List Nat) (l0 l1 l2 : NsvLayer) (s : State) : Host.Outcome State Fault Refusal :=
  .next (nsvSolveComplete late l0 l1 l2 (s.elapse dt)).settle

/-- IMAGE_CURRENT (R21). -/
def imageCurrent (s : State) : State :=
  if !s.nsv.ready then s
  else
    let s1 := { s with nsv := { s.nsv with
      ready := false, cur := 1 - s.nsv.cur, snapUp := s.nsv.startUp, published := true } }
    let s2 := [0, 1, 2].foldl (fun s l => s.set (F.NSV_NETn_STAT.VALID l) (s.nsv.readyValid / 2 ^ l)) s1
    let s3 := ((s2.setw F.NSV_SEQ.SEQ (s2.imgWord 0)).setw F.NSV_SNAP_SEC.SEC (s2.imgWord 4)).setw F.NSV_SNAP_NS.NS (s2.imgWord 8)
    (s3.set F.NSV_STAT.IMG 1).set F.NSV_STAT.STALE 0

def execImageCurrent (dt : Nat) (s : State) : Host.Outcome State Fault Refusal := .next (imageCurrent (s.elapse dt)).settle

/-- MODEL_STALE (R243): age on uptime. -/
def modelStale (s : State) : State :=
  if s.bit F.NSV_STAT.IMG && !s.bit F.NSV_STAT.STALE &&
      5 * s.get F.NSV_PERIOD.PERIOD * 250000 < s.clock.up - s.nsv.snapUp then
    ((s.set F.NSV_STAT.STALE 1).flag F.NSV_ERR.STALE).log 8 0 0 4
  else s

def execModelStale (dt : Nat) (s : State) : Host.Outcome State Fault Refusal := .next (modelStale (s.elapse dt)).settle

/-- NSV_CTRL.CLR_BAD and TH_REINIT (R236, R239). -/
def nsvClrBad (_rq : Rq) (s : State) : State := { s with nsv := { s.nsv with clrBad := true } }
def nsvThReinit (_rq : Rq) (s : State) : State := { s with nsv := { s.nsv with thReinit := true } }

/-- A read of NSV_SEQ (R244) freezes, or releases. -/
def nsvSeqRead (rq : Rq) (s : State) : State :=
  if s.nsv.frozen.any (fun e => e.1 == rq.num) then
      { s with nsv := { s.nsv with frozen := s.nsv.frozen.filter (fun e => e.1 != rq.num) } }
    else { s with nsv := { s.nsv with frozen := (rq.num, s.nsv.cur) :: s.nsv.frozen } }

/-- The word NSV_IMG_DATA answers a requester (R244). -/
def State.imgData (s : State) (rq : Rq) : Word :=
  let a := s.get (F.NSV_IMG_ADDR.ADDR rq.num)
  match s.nsv.frozen.lookup rq.num with
  | some 2 => 0
  | some b => look (fun _ => 0) s.nsv.img (b * 0x100000 + a)
  | none => s.imgWord a

end Sys2Proof.Machine
end

