-- ==== Sys2Proof/Machine/ChecksFull.lean ====
section
/-! DEFINITION. The load checks of the sections that are not program sections (R72, R75, R80, R102, R132, R202, R207, R223 to R230, R240, R247, R251,
R257, R258, R260, R267, R399, R412, R448, R490 to R493, R522). -/
namespace Sys2Proof.Machine

/-- A REAL that is finite and above 0; that is finite and not below 0. -/
def realPos (w : Word) : Bool := !(f32val w).notFinite && (FVal.ofInt 0).lt (f32val w)
def realNonNeg (w : Word) : Bool := !(f32val w).notFinite && (FVal.ofInt 0).le (f32val w)

/-! ### DRAM areas (R398, R399) -/

/-- The first granule beyond present DRAM. -/
def State.dramEnd (s : State) : Nat := if s.variant == .zkv4240 then 65536 else 131072

/-- An area's SIZE and BASE as Table 16.4 wants them. -/
def areaFits (e : Nat × Nat × Nat) : Bool :=
  match e.1 with
  | 0 => e.2.1 == 256 && e.2.2 == 0
  | 1 => e.2.1 ≤ 32768
  | 2 => e.2.1 == 8
  | 3 => true
  | 4 => e.2.1 == 128
  | 5 => e.2.1 == 8192
  | 6 => e.2.1 == 16
  | _ => false

/-- Two areas share a granule. -/
def areasMeet (a b : Nat × Nat × Nat) : Bool := a.2.2 < b.2.2 + b.2.1 && b.2.2 < a.2.2 + a.2.1

/-- Some two areas overlap. -/
def areasClash : List (Nat × Nat × Nat) → Bool
  | [] => false
  | x :: t => t.any (areasMeet x) || areasClash t

/-- The map in force: without a DOP an entry of area 5 is ignored (R399). -/
def State.mapOf (s : State) (m : List (Nat × Nat × Nat)) : List (Nat × Nat × Nat) := if s.dopPresent then m else m.filter (fun e => e.1 != 5)

/-- The DRAM map (R398, R399): reserved bits and the number of entries 13, the rules of R399 and Table 16.4 15. -/
def State.mapCheck (s : State) (m : List (Nat × Nat × Nat)) (wellFormed : Bool) : Option Nat :=
  let a := s.mapOf m
  firstCode [
    (!wellFormed || m.isEmpty || 16 < m.length, 13),
    (repeats (m.map (fun e => e.1)) || !a.all areaFits || a.any (fun e => s.dramEnd < e.2.2 + e.2.1) || areasClash a, 15)]

/-! ### Stations -/

/-- A substitute entry is aligned to its SIZE within the input image (Table 4.9). -/
def State.subBad (s : State) (n j : Nat) : Bool :=
  let z := 2 ^ s.get (T.SIO_SUB.SIZE j)
  s.get (T.SIO_SUB.OFS j) % z != 0 || s.get (T.SIO_STN.IN_LEN n) < s.get (T.SIO_SUB.OFS j) + z

/-- One enabled station's own fields. -/
def State.stnBad (s : State) (n : Nat) : Bool :=
  let p := s.get (T.SIO_STN.PERIOD n)
  let a := s.get (T.SIO_STN.SUB_FIRST n)
  let c := s.get (T.SIO_STN.SUB_CNT n)
  p < 4 || s.get (T.SIO_STN.IN_LEN n) == 0 || 250 * p ≤ s.get (T.SIO_STN.IN_PHASE n) || 250 * p ≤ s.get (T.SIO_STN.OUT_PHASE n) ||
  16384 < a + c || (List.range c).any (fun k => s.subBad n (a + k))

/-- Two stations' launch slots on one port lie too close (R102). -/
def State.slotsClose (s : State) (n m : Nat) : Bool :=
  let wire := fun (i : Nat) => s.wireOf (s.get (T.SIO_STN.PORT i)) (s.get (T.SIO_STN.IPV6 i)) (s.get (T.SIO_STN.OUT_LEN i))
  s.get (T.SIO_STN.PORT n) == s.get (T.SIO_STN.PORT m) &&
    !spaced (250 * s.get (T.SIO_STN.PERIOD n)) (s.get (T.SIO_STN.OUT_PHASE n)) (wire n)
      (250 * s.get (T.SIO_STN.PERIOD m)) (s.get (T.SIO_STN.OUT_PHASE m)) (wire m)

/-- An SF-4 station that R412 does not allow. -/
def State.sf4Bad (s : State) (n : Nat) : Bool :=
  let w := s.get (T.SIO_STN.WD_OVR n)
  !(s.stnPresent n && s.bit (T.SIO_STN.EN n)) || 3 < (if w = 0 then s.get F.SIO_WD_MISS.MISS else w) || 3 < s.get (T.SIO_STN.FS_MISS n)

/-- The station table. -/
def State.stationCheck (s : State) : Option Nat :=
  let ns := s.enabledStns
  (firstCode [
    (ns.any s.stnBad, 14),
    (ns.any (fun n => ns.any (fun m => n < m && s.slotsClose n m)), 15),
    (s.sf4List.any s.sf4Bad, 15)]).orElse (fun _ => s.mittenCheck (ns.map (fun n => s.get (T.SIO_STN.KEY_ID n))))

/-! ### Heat quantities -/

/-- θ and c of entry k of user table u (R80). -/
def State.userTheta (s : State) (u k : Nat) : Int := ofBits 16 ((s.word (tabKey 11 (0x20400 + 0x100 * u + 8 * k))).toNat % 65536)
def State.userC (s : State) (u k : Nat) : Word := s.word (tabKey 11 (0x20404 + 0x100 * u + 8 * k))
/-- A user table breaks R80. -/
def State.userBad (s : State) (u : Nat) : Bool :=
  (List.range 31).any (fun k => s.userTheta u (k + 1) ≤ s.userTheta u k) || (List.range 32).any (fun k => !realPos (s.userC u k))
/-- A user table holds something. -/
def State.userUsed (s : State) (u : Nat) : Bool :=
  (List.range 64).any (fun k => s.word (tabKey 11 (0x20400 + 0x100 * u + 4 * k)) != 0)

/-- One enabled point (R72, R75, R522). -/
def State.heatBad (s : State) (m : Nat) : Bool :=
  let fs := s.get (T.HQC_PT.FSRC m)
  let len := if m < 4096 then s.get (T.SIO_STN.IN_LEN m) else 0
  let bad := fun (o size : Nat) => o % size != 0 || len < o + size
  !realNonNeg (s.getw (T.HQC_PT.START_FLOW m)) || !realNonNeg (s.getw (T.HQC_PT.MAX_FLOW m)) ||
  (if m < 4096 then
    bad (s.get (T.HQC_PT.OFS_TF m)) 2 || bad (s.get (T.HQC_PT.OFS_TR m)) 2 || (fs < 2 && bad (s.get (T.HQC_PT.OFS_V m)) 4) ||
      (s.bit (T.HQC_PT.PSRC m) && bad (s.get (T.HQC_PT.OFS_P m)) 2)
  else
    let a := 2 * s.get (T.HQC_PT.AP m)
    s.get (F.AIn_CFG.MODE a) != 3 || s.get (F.AIn_CFG.MODE (a + 1)) != 3)

/-- The heat section. -/
def State.heatCheck (s : State) : Option Nat :=
  let ps := s.hqcPts
  let used := fun (u : Nat) => s.userUsed u || ps.any (fun m => s.get (T.HQC_PT.MEDIUM m) == u + 1)
  firstCode [(ps.any s.heatBad, 14), ((List.range 7).any (fun u => used u && s.userBad u), 14)]

/-! ### Motion -/

/-- Five limits obey R207, DEC_EMG not below DEC. -/
def limitsOk (vmax acc dec jerk demg : Word) : Bool :=
  limitOk false vmax && limitOk false acc && limitOk false dec && limitOk true jerk && limitOk false demg && (f32val dec).le (f32val demg)

/-- The axes. -/
def State.motionCheck (s : State) : Option Nat :=
  let ls := (List.range 16).filter (fun n => s.axPresent n && s.bit (F.AXn_CFG.EN n))
  firstCode [
    (ls.any (fun n => !limitsOk (s.getw (F.AXn_VMAX.VALUE n)) (s.getw (F.AXn_ACC.VALUE n)) (s.getw (F.AXn_DEC.VALUE n)) (s.getw (F.AXn_JERK.VALUE n))
      (s.getw (F.AXn_DEC_EMG.VALUE n)) || !s.rateOk n (s.getw (F.AXn_VMAX.VALUE n))), 14),
    (s.raList.any (fun r => !s.stnPresent (s.get (T.MPG_RA.STATION r)) || !limitsOk (s.getw (T.MPG_RA.VMAX r)) (s.getw (T.MPG_RA.ACC r))
      (s.getw (T.MPG_RA.DEC r)) (s.getw (T.MPG_RA.JERK r)) (s.getw (T.MPG_RA.DEC_EMG r))), 14)]

/-! ### Network -/

/-- The nodes one joins to a set over branches given as pairs. -/
def joined (es : List (Nat × Nat)) (set : List Nat) : Nat → List Nat
  | 0 => set
  | f + 1 =>
    let more := (es.filterMap (fun e =>
      if set.contains e.1 && !set.contains e.2 then some e.2 else if set.contains e.2 && !set.contains e.1 then some e.1 else none)).dedup
    if more.isEmpty then set else joined es (set ++ more) f

/-- Every node is joined to one of the roots. -/
def allJoined (ns : List Nat) (es : List (Nat × Nat)) (roots : List Nat) : Bool :=
  let r := joined es roots ns.length
  ns.all (fun n => r.contains n)

/-- A branch breaks the signs and ranges of Table 9.3, or the rule of PLUG_N (R226); a setting sensor must be of KIND 7 (R227). -/
def State.branchBad (s : State) (b : Nat) : Bool :=
  let p := fun (f : Nat → Fld) => f32val (s.getw (f b))
  let n := s.get (T.NSV_BR.PLUG_N b)
  let zero := FVal.ofInt 0
  let set7 := s.bit (T.NSV_BR.SET_SRC b) && s.get (T.NSV_SENS.KIND (s.get (T.NSV_BR.SENS b))) != 7
  match s.get (T.NSV_BR.TYPE b) with
  | 1 => n == 0
  | 2 => n != 0 || set7 || !zero.lt (p T.NSV_BR.P0) || !(p T.NSV_BR.P1).le zero || !(p T.NSV_BR.P2).lt zero
  | 3 => n != 0 || set7 || !(FVal.ofInt 1).lt (p T.NSV_BR.P1) || !(zero.le (p T.NSV_BR.P2) && (p T.NSV_BR.P2).le (.ofInt 1))
  | 4 => !zero.lt (p T.NSV_BR.P0)
  | _ => n == 0 || !zero.lt (p T.NSV_BR.P1)

/-- Medium point i of a layer (R228). -/
def State.mediumBad (s : State) (l : Nat) : Bool :=
  let at_ := fun (i : Nat) => 32 * l + i
  (List.range 31).any (fun i => s.geti (T.NSV_MED.THETA (at_ (i + 1))) ≤ s.geti (T.NSV_MED.THETA (at_ i))) ||
  (List.range 32).any (fun i => !realPos (s.getw (T.NSV_MED.RHO (at_ i))) || !realPos (s.getw (T.NSV_MED.MU (at_ i))) || !realPos (s.getw (T.NSV_MED.CP (at_ i))))

/-- Valve curve c (R228): x strictly increasing from 0 to 1. -/
def State.curveBad (s : State) (c : Nat) : Bool :=
  let x := fun (k : Nat) => f32val (s.word (tabKey 8 (0x104000 + 128 * c + 8 * k)))
  !(x 0).isZero || !(x 15).eqv (.ofInt 1) || (List.range 15).any (fun k => !(x k).lt (x (k + 1)))
/-- A curve holds something. -/
def State.curveUsed (s : State) (c : Nat) : Bool := (List.range 32).any (fun k => s.word (tabKey 8 (0x104000 + 128 * c + 4 * k)) != 0)

/-- A thermal layer (R223, R225 to R228). -/
def State.thermalCheck (s : State) (l : Nat) : Option Nat :=
  let ns := s.nsvNodes l
  let bs := s.nsvBranches l
  let es := bs.map (fun b => (s.nsvFrom b, s.nsvTo b))
  let refs := ns.filter (fun n => s.get (T.NSV_NODE.TYPE n) == 2)
  if ns.isEmpty then none
  else firstCode [
    (bs.any s.branchBad, 14),
    (refs.any (fun n => s.bit (T.NSV_NODE.REF_SRC n) && s.get (T.NSV_SENS.KIND (s.get (T.NSV_NODE.REF_SENS n))) != 1), 14),
    (s.mediumBad l, 14),
    (!allJoined ns es refs || 262144 < (bs.map (fun b => s.get (T.NSV_BR.PLUG_N b))).sum, 15)]

/-- The electrical layer (R240). -/
def State.busCheck (s : State) : Option Nat :=
  let us := s.nsvBuses
  let es := s.nsvEBranches.map (fun e => (s.get (T.NSV_EBR.FROM e), s.get (T.NSV_EBR.TO e)))
  let slack := us.filter (fun u => s.get (T.NSV_BUS.TYPE u) == 2)
  if us.isEmpty then none
  else firstCode [(slack.length != 1 || !allJoined us es slack, 15)]

/-- A sensor's element stands in its layer (R229). -/
def State.elementThere (s : State) (j : Nat) : Bool :=
  let k := s.get (T.NSV_SENS.KIND j)
  let l := s.get (T.NSV_SENS.LAYER j)
  let e := s.get (T.NSV_SENS.ELEM j)
  if l = 2 then
    if k = 8 ∨ k = 9 ∨ k = 12 ∨ k = 13 then s.nsvBuses.contains e else (k = 10 ∨ k = 11) && s.nsvEBranches.contains e
  else if k = 1 ∨ k = 2 then e < 4096 && (s.nsvNodes l).contains (4096 * l + e)
  else 3 ≤ k && k ≤ 7 && e < 6144 && (s.nsvBranches l).contains (6144 * l + e)

/-- A sensor breaks R229 or R230. -/
def State.sensorBad (s : State) (j : Nat) : Bool :=
  let k := s.get (T.NSV_SENS.KIND j)
  let a := s.get (T.NSV_SENS.ADDR j)
  let dt := s.get (T.NSV_SENS.DTYPE j)
  let kt := f32val (s.getw (T.NSV_SENS.K_T j))
  13 < k || !s.elementThere j || !((FVal.ofInt 0).le kt && kt.le (.ofInt 1)) ||
  (s.bit (T.NSV_SENS.SE_EN j) && (k == 6 || k == 7 || !realPos (s.getw (T.NSV_SENS.SIGMA j)))) ||
  (match s.get (T.NSV_SENS.SRC j) with
    | 0 => false
    | 1 => dt == 0 || 7 < dt || !s.stnPresent (a / 4096) || a % 4096 % dtSize dt != 0 || 256 < a % 4096 + dtSize dt
    | 2 => 15 < a
    | 3 => !s.ptPresent (a % 8) || 7 < a / 16 % 16
    | 4 => !s.slotPresent (a % 4096)
    | _ => true)

/-- The granules NSV asks for (R247): the factor entries of layers 0 and 1 and the plug segments. -/
def State.nsvGranules (s : State) (factors : List Nat) : Nat :=
  ([0, 1].map (fun l => if s.layerActive l then (factors.getD l 0 * 8 + 65535) / 65536 + s.plugGran l else 0)).sum

/-- The network (R223 to R230, R240, R247); `symOk` whether the symbolic structure matches the tables (R224). -/
def State.networkCheck (s : State) (symOk : Bool) (factors : List Nat) : Option Nat :=
  let p := s.get F.NSV_PERIOD.PERIOD
  let curves := (s.nsvBranches 0 ++ s.nsvBranches 1).filterMap (fun b =>
    if s.get (T.NSV_BR.TYPE b) = 3 ∧ s.get (T.NSV_BR.CHAR b) = 2 then some (s.get (T.NSV_BR.CURVE b)) else none)
  ((firstCode [
    (p ≤ s.get F.NSV_PERIOD.PHASE, 14),
    (s.nsvSensors.any s.sensorBad, 14),
    ((List.range 256).any (fun c => (curves.contains c || s.curveUsed c) && s.curveBad c), 14)]).orElse (fun _ =>
      ([s.thermalCheck 0, s.thermalCheck 1, s.busCheck]).findSome? id)).orElse (fun _ => firstCode [
    (!symOk, 15),
    (factors.any (fun n => 4194304 < n), 14),
    (s.get (F.PGR_QUOTAn.QUOTA 0) < s.nsvGranules factors, 15)])

/-! ### Dispatch -/

/-- Element (i, j) of a matrix of the DOP area with a row stride. -/
def State.dopEl (s : State) (base stride i j : Nat) : FVal := f32val (s.getw (dopFld (base + 4 * (stride * i + j))))

/-- A symmetric matrix of size n. -/
def State.symmetric (s : State) (base stride n : Nat) : Bool :=
  (List.range n).all (fun i => (List.range i).all (fun j => (s.dopEl base stride i j).eqv (s.dopEl base stride j i)))

/-- A pair of step vectors has a lower bound above its upper one. -/
def State.boundsCross (s : State) (t lo hi n : Nat) : Bool :=
  let e := fun (o k : Nat) => f32val (s.getw (dopFld (0x1000000 + 0x5000 * t + o + 4 * k)))
  (List.range n).any (fun k => (e hi k).lt (e lo k))

/-- A binding that Table 10.9 or R260 refuses. -/
def State.bindBad (s : State) (b : Nat) : Bool :=
  let d := s.get (T.DOP_BIND.DEST b)
  let m := s.get (T.DOP_BIND.MAT b)
  let src := s.get (T.DOP_BIND.SRC b)
  let x := s.get (T.DOP_BIND.SRC_IDX b)
  (d == 1 && 6 < m) || (d == 2 && 7 < m) || (src == 2 && (d == 1 || d == 3)) || (src == 1 && 16383 < x) || (src == 2 && 63 < x) ||
  (src == 3 && (x % 4 != 0 || 0x80000 ≤ x))

/-- The intertie variables of a neighbour entry. -/
def State.nbVars (s : State) (j : Nat) : List Nat :=
  let f : Nat → Fld := fun k => ⟨tabKey 9 (0x80010 + 64 * j + 4 * (k / 2)), 16 * (k % 2), 16⟩
  (List.range (s.get (T.DOP_NB.NV j))).map (fun k => s.get (f k))

/-- The neighbours (R267). -/
def State.neighbourCheck (s : State) : Option Nat :=
  let js := s.dopNbs
  let own := s.get F.FAB_ADDR.CFG_ADDR
  let vars := js.flatMap s.nbVars
  firstCode [
    (js.any (fun j => s.get (T.DOP_NB.NV j) == 0 || s.get (T.DOP_NB.NODE j) == 0 || !realPos (s.getw (T.DOP_NB.RHO j))), 14),
    (js.any (fun j => own != 0 && s.get (T.DOP_NB.NODE j) == own), 15),
    (repeats (js.map (fun j => s.get (T.DOP_NB.NODE j))) || repeats vars, 15),
    (vars.any (fun v => s.get F.DOP_DIM0.NU ≤ v), 14)]

/-- The problem (R251, R257, R260, Table 10.9). -/
def State.dispatchCheck (s : State) : Option Nat :=
  let per := s.get F.DOP_PERIOD.PERIOD
  let dl := s.get F.DOP_DEADLINE.DEADLINE
  let nx := s.get F.DOP_DIM0.NX
  let nu := s.get F.DOP_DIM0.NU
  let n := s.get F.DOP_STEP.N
  let bs := s.words.filterMap (fun e =>
    if tabKey 9 0 ≤ e.1 && e.1 < tabKey 9 0x80000 && (e.1 - tabKey 9 0) % 32 == 0 && e.2.toNat % 4 != 0 then some ((e.1 - tabKey 9 0) / 32) else none)
  (firstCode [
    (per ≤ s.get F.DOP_PERIOD.PHASE || per < dl || dl ≤ s.get F.DOP_DEADLINE.FIN_RES, 14),
    (nx == 0 || 384 < nx || nu == 0 || 512 < nu || 2048 < s.get F.DOP_DIM1.NI || n < 2 || 192 < n, 14),
    (bs.any s.bindBad, 14),
    (!s.symmetric 0x850000 384 nx || !s.symmetric 0x8E0000 512 nu, 14),
    ((List.range nu).any (fun i => !(FVal.ofInt 0).lt (s.dopEl 0x8E0000 512 i i)), 14),
    ((List.range (s.get F.DOP_DIM1.NI)).any (fun i => !realNonNeg (s.getw (dopFld (0x9E0000 + 4 * i)))), 14),
    ((List.range n).any (fun t => s.boundsCross t 0xC00 0x1200 nx || s.boundsCross t 0x2000 0x2800 nu), 14)]).orElse (fun _ => s.neighbourCheck)

/-- Trajectory application (R251, R279). -/
def State.trajCheck (s : State) : Option Nat :=
  let src := s.get F.TRJ_CFG.SRC
  firstCode [
    (src == 3 || (src == 1 && !s.dopPresent), 14),
    (src == 2 && !(1 ≤ s.get F.TRJ_CFG.LEADER && s.get F.TRJ_CFG.LEADER ≤ 4094), 14)]

/-! ### Recorder -/

/-- The channel table (R490 to R493). -/
def State.recorderCheck (s : State) : Option Nat :=
  let cs := s.entries 19 0 32 2048 0
  let per := fun (c : Nat) => s.get (T.REC_CH.PERIOD c)
  let dt := fun (c : Nat) => s.get (T.REC_CH.DTYPE c)
  let top := cs.foldl (fun m c => max m (c + 1)) 0
  let l := cs.foldl (fun acc c => Nat.lcm acc (max 1 (per c))) 1
  firstCode [
    (cs.any (fun c => per c == 0 || s.get (T.REC_CH.INTERVAL c) == 0 ||
      (s.get (T.REC_CH.SRC c) == 1 && (dt c == 0 || 7 < dt c)) ||
      !(f32val (s.getw (T.REC_CH.LO c))).lt (f32val (s.getw (T.REC_CH.HI c)))), 14),
    (200000 * l < (cs.map (fun c => 1000 * (l / max 1 (per c)))).sum, 15),
    (!cs.isEmpty && s.get F.REC_REG.GRAN < (256 * top + 65535) / 65536, 15)]

end Sys2Proof.Machine
end

