-- ==== Sys2Proof/Machine/Cyc.lean ====
section
/-! DEFINITION. The cycle engine (chapter 6): task dispatch (R126 to R131), snapshot, cycle end and abandonment (R146 to R153), the exchange
pause (R157 to R161), host writes (R138). -/
namespace Sys2Proof.Machine

/-- CYC_STAT.STATE. -/
def State.cycTo (s : State) (v : Nat) : State := s.set F.CYC_STAT.STATE v

/-! ### Visit rings (R120) -/

/-- The visit entries of a task from an instance on: station, WRITE for an output, END on the last. -/
def State.visits (s : State) (t next : Nat) : List Nat :=
  let l := s.get (T.PGR_TASK.LAST t)
  let is := (List.range (l + 1 - next)).map (· + next)
  let v := is.flatMap (fun i => if s.bit (T.CYC_BLK.EN i) then
    (List.range 5).filterMap (fun k =>
      let o := s.opd i k
      if o.page then some (o.stn + (if k = 4 then 0x1000 else 0)) else none)
    else [])
  let w := v.take 256
  if v.length ≤ 256 then (match w.getLast? with | some x => w.dropLast ++ [x + 0x8000] | none => []) else w

/-- Publish the rings of the task on top of the stack and of those it preempted (R120). -/
def State.publish (s : State) : State :=
  match s.pgr.stack with
  | [] => { s with pgr := { s.pgr with ringC := [], saved := [] } }
  | f :: t => { s with pgr := { s.pgr with
      ringC := s.visits f.task f.next
      saved := t.map (fun g => (g.task, s.visits g.task g.next)) } }

/-! ### Commit (R148, R149) -/

/-- The output spans of a task's enabled instances. -/
def State.taskSpans (s : State) (t : Nat) : List (Nat × Nat × Nat) :=
  let a := s.get (T.PGR_TASK.FIRST t)
  let b := s.get (T.PGR_TASK.LAST t)
  ((List.range (b + 1 - a)).map (· + a)).filterMap (fun i => if s.bit (T.CYC_BLK.EN i) then s.outSpan i else none)

/-- Insert into an ascending list without repeats. -/
def insNat (n : Nat) : List Nat → List Nat
  | [] => [n]
  | m :: t => if n < m then n :: m :: t else if n = m then m :: t else m :: insNat n t

/-- Ascending, without repeats. -/
def sortNat (l : List Nat) : List Nat := l.foldl (fun acc n => insNat n acc) []

/-- Commit one station's bytes in one clock: the bytes, then CSEQ and the commit time (R118); a station that went down in the window is
passed over and counted (R105). -/
def State.commitStation (s : State) (since stn : Nat) (sp : List (Nat × Nat)) : State :=
  if ((s.stn stn).downUp.map (fun u => decide (since ≤ u))).getD false then
    let s1 := (s.inc F.SIO_UNDELIV.COUNT).inc (F.SW_UNDELIV.COUNT stn)
    { s1 with cyc := { s1.cyc with undeliv := min (s1.cyc.undeliv + 1) 65535, incons := true } }
  else
    let s1 := sp.foldl (fun s x => s.pageWrite stn (0x360 + x.1) (s.pageBytes stn (0x260 + x.1) x.2)) s
    let seq := (s1.pageNat stn 0x460 4 + 1) % 2 ^ 32
    s1.pageWrite stn 0x460 (leBytes seq 4 ++ leBytes s.sec32 4 ++ leBytes s.nsNow 4)

/-- Ascending order of held items: loop slots, then axes, then item. -/
def itemKey (e : Nat × Nat × Nat × Nat × Word) : Nat := (e.2.1 * 65536 + e.2.2.1) * 16 + e.2.2.2.1

/-- Insert a held item in order. -/
def insItem (e : Nat × Nat × Nat × Nat × Word) : List (Nat × Nat × Nat × Nat × Word) → List (Nat × Nat × Nat × Nat × Word)
  | [] => [e]
  | x :: t => if itemKey e < itemKey x then e :: x :: t else x :: insItem e t

/-- A loop or axis item takes effect (Table 6.5). -/
def State.applyItem (s : State) (e : Nat × Nat × Nat × Nat × Word) : State :=
  let n := e.2.2.1
  let v := e.2.2.2.2
  match e.2.1, e.2.2.2.1 with
  | 9, 0 => s.writeSp n 1 v
  | 9, 1 => s.requestMode n v.toNat
  | 9, 2 => s.writeMan n 1 v
  | 9, _ => s.writeFf n v
  | _, 0 => s.writeTarget n 1 v.toInt
  | _, _ => if n < 16 then s.axLimit n 0 1 v else s.raLimit (n - 16) 0 1 v

/-- The commit of a task: its stations in ascending order, then its items. -/
def State.commitTask (s : State) (f : RunFrame) : State :=
  let sp := s.taskSpans f.task
  let s1 := (sortNat (sp.map Prod.fst)).foldl (fun s n =>
    s.commitStation f.since n ((sp.filter (fun x => x.1 == n)).map Prod.snd)) s
  let mine := (s1.cyc.items.filter (fun e => e.1 == f.task)).foldl (fun acc e => insItem e acc) []
  mine.foldl State.applyItem { s1 with cyc := { s1.cyc with items := s1.cyc.items.filter (fun e => e.1 != f.task) } }

/-! ### Tasks -/

/-- Evaluate a run's blocks up to instance `stop`, which stays to be evaluated. -/
def State.runTo (s : State) (f : RunFrame) (stop : Nat) : State :=
  ((List.range (stop - f.next)).map (· + f.next)).foldl (State.evalBlock · f) s

/-- The instance after a task's last. -/
def State.taskEnd (s : State) (t : Nat) : Nat := s.get (T.PGR_TASK.LAST t) + 1

/-- A task's run ends (R130, Table 5.4): idle, or ready again where a release is queued; T_RUNS and T_LAST. -/
def State.endRun (s : State) (t d : Nat) : State :=
  let s1 := ((s.inc (F.T_RUNS.COUNT t)).set (F.T_LAST.DUR t) (min d (2 ^ 32 - 1))).set (F.T_STAT.STATE t) 0
  let s2 := s1.set (readyFld t) 0
  if s2.bit (F.T_STAT.PEND t) then (s2.set (F.T_STAT.PEND t) 0).makeReady t else s2

/-- Time in 10 ns since an uptime. -/
def State.tenNs (s : State) (since : Nat) : Nat := (s.clock.up - since) * 2 / 5

/-- The ready task that runs next: highest PRIO, first released (R126). -/
def State.nextReady (s : State) : Option Nat :=
  s.pgr.ready.foldl (fun acc t => match acc with
    | none => some t
    | some u => if s.get (T.PGR_TASK.PRIO u) < s.get (T.PGR_TASK.PRIO t) then some t else some u) none

/-- A task's run begins: its now is this clock (R154). -/
def State.startTask (s : State) (t : Nat) : State :=
  let f : RunFrame := ⟨t, s.get (T.PGR_TASK.FIRST t), s.clock.up, s.clock.sec, s.clock.ns, []⟩
  let s1 := match s.pgr.stack with
    | g :: _ => s.set (F.T_STAT.STATE g.task) 3
    | [] => s
  (({ s1 with pgr := { s1.pgr with stack := f :: s1.pgr.stack, ready := s1.pgr.ready.filter (· != t) } }.set (F.T_STAT.STATE t) 2).cycTo 2)

/-- Start the highest-priority ready task if nothing of its priority or above runs (R126). -/
def State.dispatch (s : State) : State :=
  match s.nextReady with
  | none => s
  | some t =>
    match s.pgr.stack with
    | [] => s.startTask t
    | f :: _ => if s.get (T.PGR_TASK.PRIO f.task) < s.get (T.PGR_TASK.PRIO t) then s.startTask t else s

/-! ### Cycle end and abandonment -/

/-- The cycle's record (Table 6.15), and what gathers for the next one. -/
def State.writeRecord (s : State) (dur : Nat) (ovr : Bool) : State :=
  let k := s.get F.CYC_SEQ.SEQ
  let base := tabKey 3 (0x400000 + 32 * (k % 256))
  let c := s.cyc
  let flags := ovr.toNat + 2 * c.incons.toNat + 4 * c.exch.toNat + 8 * (!c.usable).toNat + 16 * c.errt.toNat + 32 * c.arith.toNat +
    64 * c.firstRun.toNat + 65536 * c.undeliv
  let oth := if c.errt then s.free % 2 ^ 32 else c.other
  let s0 := if c.errt then s.nextFree else s
  let ws : List Nat := [k, c.sec % 2 ^ 32, c.ns, min dur (2 ^ 32 - 1), flags, min c.stall (2 ^ 32 - 1), oth, c.seq]
  let s1 := ws.zipIdx.foldl (fun s e => s.setWord (base + 4 * e.2) (BitVec.ofNat 32 e.1)) s0
  let s2 := if c.incons then (s1.inc F.CYC_INCONS_CNT.COUNT).flag F.CYC_ERR.INCONS else s1
  { s2 with cyc := { c with errt := false, arith := false, undeliv := 0, incons := false, stall := 0, other := 0, running := false,
                                     abandon := false, toCopy := [], firstRun := false, exch := false } }

/-- Cycle end (R148, R150): remaining copies, commit, record. -/
def State.cycleEnd (s : State) (f : RunFrame) : State :=
  let s1 := s.cyc.toCopy.foldl (fun s n => (s.visit false n).copyImage n) s
  let s2 := s1.commitTask f
  let d := s2.tenNs s2.cyc.snapUp
  let s3 := ((s2.set F.CYC_LAST.DUR d).set F.CYC_MAX.DUR (max (s2.get F.CYC_MAX.DUR) d)).set F.CYC_MIN.DUR (min (s2.get F.CYC_MIN.DUR) d)
  let s4 := if d ≤ s3.get F.CYC_TMAX.TMAX * 100 then
      let s5 := s3.set F.CYC_STAT.OVR_RUN 0
      { s5 with cyc := { s5.cyc with ovrRaised := false } }
    else s3
  let s6 := { s4 with cyc := { s4.cyc with lastUs := d / 100 } }
  ((s6.writeRecord d false).endRun 0 d).cycTo 3

/-- CYC_OVR_LIMIT (R152): OVR_RUN has reached CYC_OVR_LIM; one fault until OVR_RUN is cleared. -/
def ovrLimit (s : State) : State :=
  if s.get F.CYC_OVR_LIM.LIM ≤ s.get F.CYC_STAT.OVR_RUN && s.get F.CYC_STAT.OVR_RUN != 0 && !s.cyc.ovrRaised then
    ({ s with cyc := { s.cyc with ovrRaised := true } }.flag F.CYC_ERR.OVR_LIM).raise 19 0
  else s

def execCycOvrLimit (dt : Nat) (s : State) : Host.Outcome State Fault Refusal := .next (ovrLimit (s.elapse dt)).settle

/-- The main task is abandoned (R151): no commit, COPYING cleared, warning CYC_OVR, record with OVR. -/
def State.abandonMain (s : State) : State :=
  let s1 := s.cyc.toCopy.foldl (fun s n => s.pageWrite n 2 [(s.pageByte n 2) &&& 0xFD#8]) s
  let s2 := (((s1.log 3 0 0 4).flag F.CYC_ERR.OVR).inc F.CYC_OVR_CNT.COUNT).set F.CYC_STAT.OVR_RUN (min (s1.get F.CYC_STAT.OVR_RUN + 1) 255)
  let d := s2.tenNs s2.cyc.snapUp
  let s3 := { s2 with pgr := { s2.pgr with stack := s2.pgr.stack.filter (fun f => f.task != 0) },
                      cyc := { s2.cyc with items := s2.cyc.items.filter (fun e => e.1 != 0) } }
  ovrLimit (((s3.writeRecord d true).endRun 0 d).cycTo 3)

/-- The task on top of the stack has evaluated its last block: commit, and control returns to the task below, where an abandonment that
waited takes place. -/
def State.completeTop (s : State) : State :=
  match s.pgr.stack with
  | [] => s
  | f :: below =>
    let s1 := s.runTo f (s.taskEnd f.task)
    let s2 := { s1 with pgr := { s1.pgr with stack := below } }
    if f.task = 0 then s2.cycleEnd f
    else
      let d := s2.tenNs f.since
      let s3 := (s2.commitTask f).endRun f.task d
      let s4 := if below.all (fun g => g.task == 0) then { s3 with cyc := { s3.cyc with other := s3.cyc.other + d } } else s3
      match below with
      | [] => s4.cycTo 3
      | g :: _ =>
        let s5 := (s4.set (F.T_STAT.STATE g.task) 2).cycTo (if g.task = 0 then 1 else 2)
        if g.task = 0 && s5.cyc.abandon then s5.abandonMain else s5

/-- The engine stands at the boundary before instance `i`. -/
def State.reachBoundary (s : State) (i : Nat) : State :=
  match s.pgr.stack with
  | [] => s
  | f :: below =>
    let stop := max f.next (min i (s.taskEnd f.task))
    let s1 := s.runTo f stop
    { s1 with pgr := { s1.pgr with stack := { f with next := stop } :: below } }

/-- The scheduler may dispatch: SCHED, not halted. -/
def State.cycLive (s : State) : Bool := s.bit F.PGR_STAT.SCHED && s.get F.CYC_STAT.STATE != 6

/-- Stall time of an engine visit (R124) in 10 ns, shared out to PGR and the cycle record. -/
def State.cycStall (s : State) (d : Nat) : State :=
  let s1 := s.stall false d
  { s1 with cyc := { s1.cyc with stall := s1.cyc.stall + d } }

/-- TASK_DISPATCH (R126): `reached` the instance before whose evaluation the boundary lies (none: the running task has evaluated its last
block and completes), `stall` the time stalled since the boundary before, in 10 ns. -/
def taskDispatch (reached : Option Nat) (stall : Nat) (s : State) : State :=
  if !s.cycLive then s
  else
    let s1 := s.cycStall stall
    let s2 := match reached with
      | some i => s1.reachBoundary i
      | none => s1.completeTop
    s2.dispatch.publish

def execTaskDispatch (dt : Nat) (reached : Option Nat) (stall : Nat) (s : State) : Host.Outcome State Fault Refusal :=
  .next (taskDispatch reached stall (s.elapse dt)).settle

/-- CYC_TMAX_EXPIRY (R151): `reached` the instance at the next boundary of the running task. -/
def tmaxExpiry (reached : Nat) (s : State) : State :=
  if !s.cycLive || !s.cyc.running || s.clock.up - s.cyc.snapUp < s.get F.CYC_TMAX.TMAX * 250 then s
  else
    match s.pgr.stack with
    | [f] => if f.task = 0 then ((s.reachBoundary reached).abandonMain).dispatch.publish else s
    | _ :: _ => { s with cyc := { s.cyc with abandon := true } }
    | [] => s

def execCycTmaxExpiry (dt reached : Nat) (s : State) : Host.Outcome State Fault Refusal := .next (tmaxExpiry reached (s.elapse dt)).settle

/-- Every run still on the stack completes, from the top. -/
def State.finishRuns (s : State) : State := Nat.repeat State.completeTop s.pgr.stack.length s

/-! ### The snapshot (R17, R22, R127, R146) -/

/-- The read set: stations that a SIN operand or a COPY source names (R146). -/
def State.readSet (s : State) : List Nat :=
  sortNat (s.instances.flatMap (fun i =>
    ((List.range 4).map (s.opd i)).filterMap (fun o =>
      if o.space = 3 || (o.page && s.get (T.CYC_BLK.TYPE i) = 31 && o == s.opd i 0) then some o.stn else none)))

/-- LATCHED takes NEWEST for a station; COPYING is set for one of the read set (R116, R146). -/
def State.latchStation (s : State) (rs : List Nat) (n : Nat) : State :=
  let b := s.newest n
  let v := BitVec.ofNat 8 (b + 2 * (rs.contains n).toNat + 4 * b)
  if s.pageByte n 2 = v then s else s.pageWrite n 2 [v]

/-- An error task runs (R127, R128): it sees the stations of its entries, which leave the FIFO. Its duration the spec does not state
(log entry 2). -/
def State.runError (s : State) (t : Nat) : State :=
  let mine := (s.pgr.efifo.filter (fun e => e.2 == t)).map Prod.fst
  let rest := s.pgr.efifo.filter (fun e => e.2 != t)
  let s1 := { s with pgr := { s.pgr with efifo := rest, flagged := s.pgr.flagged.filter (· != t) } }.set F.PGR_EFIFO_LVL.LEVEL rest.length
  if !s1.eventTask t 1 then s1
  else
    let f : RunFrame := ⟨t, s.get (T.PGR_TASK.FIRST t), s.cyc.snapUp, s.cyc.sec, s.cyc.ns, mine⟩
    let s2 := (s1.runTo f (s1.taskEnd t)).commitTask f
    let s3 := { s2 with cyc := { s2.cyc with errt := true } }
    (s3.endRun t (s3.free % 2 ^ 32)).nextFree

/-- The flagged error task that runs next (R126). -/
def State.nextError (s : State) : Option Nat :=
  s.pgr.flagged.foldl (fun acc t => match acc with
    | none => some t
    | some u => if s.get (T.PGR_TASK.PRIO u) < s.get (T.PGR_TASK.PRIO t) then some t else some u) none

/-- Run error tasks until none is flagged. -/
def State.runErrors (s : State) : Nat → State
  | 0 => s
  | k + 1 =>
    match s.nextError with
    | some t => (s.runError t).runErrors k
    | none => s

/-- A cycle starts: snapshot, error tasks, the main task's run (R127). `exch`: the first of an exchanged program. -/
def State.startCycle (s : State) (exch : Bool) : State :=
  let isFirst := s.get F.CYC_SEQ.SEQ == 0
  let rs := s.readSet
  let stns := (List.range 4096).filter s.stnPresent
  let s1 := s.set F.CYC_SEQ.SEQ ((s.get F.CYC_SEQ.SEQ + 1) % 2 ^ 32)
  let s2 := { s1 with cyc := { s1.cyc with
      img := s.nsv.img, cur := s.nsv.cur, seq := s.get F.NSV_SEQ.SEQ, usable := s.modelUsable,
      snapUp := s.clock.up, sec := s.clock.sec, ns := s.clock.ns, toCopy := rs, firstRun := isFirst, exch := exch, running := true, abandon := false } }
  let s3 := stns.foldl (fun s n => s.latchStation rs n) s2
  let s4 := (s3.cycTo 2).runErrors s3.pgr.flagged.length
  let f : RunFrame := ⟨0, s4.get (T.PGR_TASK.FIRST 0), s4.cyc.snapUp, s4.cyc.sec, s4.cyc.ns, []⟩
  ((({ s4 with pgr := { s4.pgr with stack := [f] } }.set (F.T_STAT.STATE 0) 2).set (readyFld 0) 1).cycTo 1).publish

/-- CYCLE_SNAPSHOT (R127): the main-task boundary; an armed exchange takes the boundary instead (R157). -/
def cycleSnapshot (s : State) : State :=
  if !s.cycLive || s.get F.CYC_STAT.EXCH = 3 then s else ((s.finishRuns).startCycle false).shadowBoundary

def execCycleSnapshot (dt : Nat) (s : State) : Host.Outcome State Fault Refusal := .next (cycleSnapshot (s.elapse dt)).settle

/-! ### Exchange (R157 to R161) -/

/-- A write of CYC_CTRL (R157). -/
def exchArm (s : State) : State :=
  if s.get F.CYC_STAT.EXCH = 2 then s.set F.CYC_STAT.EXCH 3 else s.flag F.CYC_ERR.EXCH_SEQ
def exchAbort (s : State) : State :=
  if s.get F.CYC_STAT.EXCH = 2 ∨ s.get F.CYC_STAT.EXCH = 3 then
    { (s.set F.CYC_STAT.EXCH 0).set F.CYC_EXCH_ERR.CODE 8 with cyc := { s.cyc with staged := none } }
  else s.flag F.CYC_ERR.EXCH_SEQ

/-- A table word that an exchange replaces: descriptors, constants, task table, channel table. -/
def exchangedKey (k : Nat) : Bool :=
  (tabKey 3 0 ≤ k && k < tabKey 3 0x200000) || (tabKey 3 0x380000 ≤ k && k < tabKey 3 0x400000) ||
  (tabKey 4 0 ≤ k && k < tabKey 4 0x400) || (tabKey 14 0 ≤ k && k < tabKey 14 0x4000)

/-- A word of the instance-state area. -/
def stateKey (k : Nat) : Bool := tabKey 3 0x200000 ≤ k && k < tabKey 3 0x300000

/-- Releases of the old table at the boundary (R131, R160): a ready task is released again only by its new descriptor, a queued release is
dropped and counted. -/
def State.dropReleases (s : State) : State :=
  let s1 := (List.range 64).foldl (fun s t =>
    let a := if s.bit (F.T_STAT.PEND t) then (s.set (F.T_STAT.PEND t) 0).inc (F.T_LOST.COUNT t) else s
    (a.set (F.T_STAT.STATE t) 0).set (readyFld t) 0) s
  { s1 with pgr := { s1.pgr with ready := [], stepReleased := [] } }

/-- Steps 2 to 5 of the pause (R158 to R160, R277, R423). -/
def State.exchange (s : State) (g : Staged) : State :=
  let s1 := s.clearWords (fun k => exchangedKey k || stateKey k)
  let isLoop := fun (k : Nat) => tabKey 6 0 ≤ k && k < tabKey 6 0x90000
  let s2 := (g.words.filter (fun e => !isLoop e.1)).foldl (fun s e => s.setWord e.1 e.2) s1
  let s3 := g.mig.foldl (fun s' p => (List.range 4).foldl (fun s' k => s'.set (stateFld p.1 k) (s.get (stateFld p.2 k))) s') s2
  let s4 := g.vars.foldl (fun s e => s.setWord e.1 e.2) s3
  let s5 := ((((s4.set F.CYC_BLK_CNT.COUNT g.count).set F.CYC_HOSTW_BASE.BASE g.hostwBase).set F.CYC_HOSTW_SIZE.SIZE g.hostwSize).set
    F.CYC_PROG_ID.ID g.id).set F.CYC_EXCH_KEPT.COUNT g.mig.length
  let kept := g.mig.map Prod.fst
  let ls : List (Nat × Word) := (g.words.filter (fun e => isLoop e.1)).map (fun (e : Nat × Word) => (e.1 - tabKey 6 0, e.2))
  let s6 := { s5.dropReleases with
    cyc := { s5.cyc with staged := none, items := [], fresh := (List.range g.count).filter (fun i => !kept.contains i) }
    lpe := { s5.lpe with staged := some ls } }
  ((s6.chanExchange s).storeCrcFull).set F.CYC_STAT.EXCH 4

/-- EXCHANGE_PAUSE (R158, R161, R407): `ok` the staged CRC and the copies, `us` the measured pause. -/
def exchangePause (ok : Bool) (us : Nat) (s : State) : State :=
  match s.cyc.staged with
  | none => s
  | some g =>
    if !s.cycLive || s.get F.CYC_STAT.EXCH ≠ 3 then s
    else
      let s1 := s.finishRuns
      if ok then ((s1.exchange g).set F.CYC_EXCH_US.US (min us (2 ^ 20 - 1))).startCycle true |>.shadowBoundary
      else
        let s2 := (((s1.set F.CYC_EXCH_ERR.CODE 9).flag F.CYC_ERR.HALT).cycTo 6).set F.CYC_STAT.EXCH 5
        let slot := s2.get F.CFG_STAT.SLOT
        let s3 := (s2.rejectSlot (1 - slot)).set F.CFG_SEL.PREF slot
        ({ s3 with cyc := { s3.cyc with staged := none } }.raise 20 0)

def execExchangePause (dt : Nat) (ok : Bool) (us : Nat) (s : State) : Host.Outcome State Fault Refusal :=
  .next (exchangePause ok us (s.elapse dt)).settle

/-! ### Host writes (R138) -/

/-- A write of CYC_TAB_DATA: only words of the host-writable window take it; ADDR advances. -/
def cycTabWrite (q : Rq) (v : Word) (s : State) : State :=
  let af := F.CYC_TAB_ADDR.ADDR q.num
  let a := s.get af / 4 * 4
  let lo := 0x300000 + s.get F.CYC_HOSTW_BASE.BASE
  let s1 := if lo ≤ a ∧ a + 4 ≤ lo + s.get F.CYC_HOSTW_SIZE.SIZE then s.setWord (tabKey 3 a) v else s.flag F.CYC_ERR.RANGE
  s1.advance af

end Sys2Proof.Machine
end

