-- ==== Sys2Proof/Machine/Key.lean ====
section
/-! DEFINITION. KEY's messages, life-cycle, tamper response and entropy source (chapter 18). The verdicts of its cryptography enter as
operands (log entry 6). -/
namespace Sys2Proof.Machine

/-! ### Serving keys (R450) -/

/-- A user of a key learns the outcome of its request. -/
def State.keyServe (s : State) (ok : Bool) (u : KeyUser) : State :=
  match u with
  | .sio n => s.sioKeyServed n ok
  | .fab p => s.fabKeyServed p ok
  | .kmp => s

/-- KEY_REQUEST (R450): a hit or a failure reaches the unit at once, a miss with its unwrap. -/
def keyRequestRow (u : KeyUser) (id usage : Nat) (s : State) : State :=
  let r := s.keyRequest u id usage
  match r.2 with
  | .hit => r.1.keyServe true u
  | .fail => r.1.keyServe false u
  | .wait => r.1

def execKeyRequest (dt : Nat) (user : KeyUser) (id usage : Nat) (s : State) : Host.Outcome State Fault Refusal :=
  .next (keyRequestRow user id usage (s.elapse dt)).settle

/-- KEY_UNWRAP_DONE (R450). -/
def keyUnwrapDone (id usage : Nat) (ok ovlOk : Bool) (s : State) : State :=
  let r := s.unwrapEnd id usage ok ovlOk
  match r.2 with
  | some (good, users) => users.foldl (fun s u => s.keyServe good u) r.1
  | none => r.1

def execKeyUnwrapDone (dt id usage : Nat) (ok ovlOk : Bool) (s : State) : Host.Outcome State Fault Refusal :=
  .next (keyUnwrapDone id usage ok ovlOk (s.elapse dt)).settle

/-! ### The message buffer and its fields (Table 18.5) -/

/-- Table address of byte a of the message buffer. -/
def msgBase : Nat := 0x100000
/-- Bytes and numbers of the message. -/
def State.msgBytes (s : State) (a n : Nat) : List Byte := s.tabBytes 17 (msgBase + a) n
def State.msgNat (s : State) (a n : Nat) : Nat := leNat (s.msgBytes a n)
def State.msgOp (s : State) : Nat := s.msgNat 5 1
def allZero (l : List Byte) : Bool := l.all (fun b => b == 0)

/-- The payload length an operation takes (Tables 18.5, 18.6, R456); none for an OP that is no operation. -/
def opLen (op : Nat) : Option Nat :=
  match op with
  | 0x01 => some 160
  | 0x02 => some 256
  | 0x03 => some 0
  | 0x04 => some 0
  | 0x05 => some 160
  | 0x10 => some 64
  | 0x11 => some 4
  | 0x20 => some 4
  | _ => none

/-- The operation carries a transport payload. -/
def opTransport (op : Nat) : Bool := op == 0x01 || op == 0x02 || op == 0x05

/-- The message's form is right (Table 18.7, FORMAT). -/
def State.msgForm (s : State) : Bool :=
  let op := s.msgOp
  s.msgNat 0 4 == 0x4B555044 && s.msgNat 4 1 == 1 && opLen op == some (s.msgNat 6 2) &&
    allZero (s.msgBytes 20 4) && allZero (s.msgBytes 121 7) &&
    (!opTransport op || allZero (s.msgBytes 225 3)) &&
    (op != 0x11 || allZero (s.msgBytes 130 2)) &&
    (op != 0x20 || (1 ≤ s.msgNat 128 4 && s.msgNat 128 4 ≤ 86400))

/-- MKH; OKH of a record; a record's USED bit; the record in force (R439, table addresses of the KEY register map). -/
def State.mkh (s : State) : List Byte := s.tabBytes 17 0x60500 48
def State.okh (s : State) (r : Nat) : List Byte := s.tabBytes 17 (0x60600 + 0x80 * r) 48
def State.ckh (s : State) (r : Nat) : List Byte := s.tabBytes 17 (0x60630 + 0x80 * r) 48
def State.recUsed (s : State) (r : Nat) : Bool := (s.word (tabKey 17 (0x60660 + 0x80 * r))).getLsbD 0
def State.recInForce (s : State) : Option Nat := [3, 2, 1, 0].find? s.recUsed

/-- The signer hash an operation requires (R455); none where the state has no such signer. -/
def State.signerOf (s : State) (op : Nat) : Option (List Byte) :=
  let m := some s.mkh
  let o := s.recInForce.map s.okh
  let lc := s.get F.KEY_STAT.LC
  match op with
  | 0x01 => m
  | 0x02 => m
  | 0x05 => m
  | 0x03 => o
  | 0x04 => o
  | 0x20 => if lc = 1 ∨ lc = 4 then m else if lc = 2 then o else none
  | _ => if lc = 1 ∨ lc = 4 then m else if lc = 2 ∨ lc = 3 then o else none

/-- The operation is allowed in the present state (Table 18.6). -/
def State.opAllowed (s : State) (op : Nat) : Bool :=
  let lc := s.get F.KEY_STAT.LC
  let root := s.bit F.KEY_STAT.ROOT
  match op with
  | 0x01 => lc == 0
  | 0x02 => lc == 1 || lc == 4
  | 0x03 => lc == 2
  | 0x04 => lc == 2 || lc == 3
  | 0x05 => lc == 4 && !root
  | 0x20 => lc == 1 || lc == 2 || lc == 4
  | _ => 1 ≤ lc && lc ≤ 4 && root

/-- A record that an interrupted PROVISION left: USED, numbered above the record of the last completed transition, with these hashes (R442). -/
def State.leftRecord (s : State) (okh ckh : List Byte) : Option Nat :=
  [0, 1, 2, 3].find? (fun r => s.recUsed r && decide (s.key.lastPrec ≤ r) && s.okh r == okh && s.ckh r == ckh)

/-- The record a PROVISION takes: one left, or the next free one. -/
def State.provRecord (s : State) (p : List Byte) : Option Nat :=
  match s.leftRecord ((p.drop 32).take 48) ((p.drop 80).take 48) with
  | some r => some r
  | none =>
    let n := match s.recInForce with
      | some r => r + 1
      | none => 0
    if n < 4 then some n else none

/-- An overlay entry is in use: its KEY_ID is not 0. -/
def State.ovlUsed (s : State) (j : Nat) : Bool := (mittenOf (s.word (tabKey 17 (0x50000 + 96 * j)))).1 != 0
/-- Where a mitten goes in the overlay: the entry with its KEY_ID, or the lowest unused one. -/
def State.ovlSlot (s : State) (id : Nat) : Option Nat :=
  match s.ovlFind id with
  | some j => some j
  | none => (List.range 256).find? (fun j => !s.ovlUsed j)

/-- The code a message ends with (Table 18.7), the checks in their order. -/
def State.msgCode (s : State) (v : KeyVerdict) : Nat :=
  let op := s.msgOp
  let mit := mittenOf (BitVec.ofNat 32 (s.msgNat 128 4))
  if !s.msgForm then 1
  else if s.msgNat 8 8 ≠ s.devid then 2
  else if s.signerOf op ≠ some v.signer then 3
  else if !v.sigOk then 4
  else if s.msgNat 16 4 ≤ s.get F.KEY_CTR.CTR then 5
  else if !s.opAllowed op then 6
  else if opTransport op && (v.plain.isNone || s.key.dtk.isNone) then 7
  else if op = 0x10 ∧ (!v.unwrapOk ∨ mit.1 = 0 ∨ mit.2.1 = 0 ∨ 3 < mit.2.1) then 8
  else if op = 0x10 ∧ (s.ovlSlot mit.1).isNone then 9
  else if op = 0x02 ∧ (s.provRecord (v.plain.getD [])).isNone then 9
  else 0

/-! ### Applying a message (R442, R455) -/

/-- OVL_USED follows the overlay. -/
def State.showOvl (s : State) : State := s.set F.KEY_STAT.OVL_USED ((List.range 256).filter s.ovlUsed).length

/-- The overlay is cleared (R449). -/
def State.ovlClear (s : State) : State := (s.clearWords (fun k => tabKey 17 0x50000 ≤ k && k < tabKey 17 0x56000)).showOvl

/-- The hot key registers are cleared (R451). -/
def State.hotClear (s : State) : State := (List.range 4).foldl (fun s p => s.setFp p { s.fp p with key := false }) s

/-- Step 4 of a transition, in one clock (R442). -/
def State.lcCommit (s : State) (r : KeyPending) : State :=
  let last := match s.recInForce with
    | some k => k + 1
    | none => 0
  let s1 := { s with key := { s.key with root := r.root, chkOk := true, pendRec := none, lastPrec := last } }
  let s2 := ((((s1.set F.KEY_STAT.LC r.target).setBit F.KEY_STAT.ROOT r.root.isSome).set F.KEY_STAT.ARMED 1).set F.KEY_CTR.CTR r.ctr)
  let s3 := match s.recInForce with
    | some k => (s2.set F.KEY_STAT.PREC k).set F.KEY_STAT.PREC_VALID 1
    | none => s2
  (s3.cacheClear).hotClear

/-- A transition: the pending record, the life-cycle fuses, the commit (R442). -/
def State.transition (s : State) (target : Nat) (root : Option (List Byte)) : State :=
  let r : KeyPending := ⟨target, root, s.msgNat 16 4⟩
  { s with key := { s.key with pendRec := some r, fuseLc := target } }.lcCommit r

/-- KEY_MANUFACTURE. -/
def State.keyManufacture (s : State) (p : List Byte) : State := s.transition 1 (some (p.take 32))
/-- KEY_PROVISION: the record is written, the overlay cleared. -/
def State.keyProvision (s : State) (p : List Byte) : State :=
  match s.provRecord p with
  | none => s
  | some r =>
    let s1 := s.setTabBytes 17 (0x60600 + 0x80 * r) ((p.drop 32).take 96)
    ((s1.setWord (tabKey 17 (0x60660 + 0x80 * r)) 1).ovlClear).transition 2 (some (p.take 32))
/-- KEY_COMMISSION: the root is kept. -/
def State.keyCommission (s : State) : State := s.transition 3 s.key.root
/-- KEY_RETURN: the root is zeroed, the overlay cleared. -/
def State.keyReturn (s : State) : State := s.ovlClear.transition 4 none
/-- KEY_ROOT_R. -/
def State.keyRootR (s : State) (p : List Byte) : State := s.transition 4 (some (p.take 32))

/-- KEY_MITTEN_SET (R449, R452): the entry with the KEY_CTR it is written at, and its tag, which the spec gives no value for here. -/
def State.keyMittenSet (s : State) : State :=
  let m := s.msgBytes 128 64
  let id := leNat (m.take 2)
  match s.ovlSlot id with
  | none => s
  | some j =>
    let s1 := s.setTabBytes 17 (0x50000 + 96 * j) (m ++ leBytes (s.msgNat 16 4) 4 ++ leBytes 0 12)
    let s2 := (List.range 4).foldl (fun s k => (s.setWord (tabKey 17 (0x50000 + 96 * j + 80 + 4 * k)) (BitVec.ofNat 32 s.free)).nextFree) s1
    (s2.showOvl).slotInvalidate id

/-- KEY_MITTEN_CLR (R452). -/
def State.keyMittenClr (s : State) : State :=
  let id := s.msgNat 128 2
  match s.ovlFind id with
  | some j =>
    if id = 0 then s
    else ((s.clearWords (fun k => tabKey 17 (0x50000 + 96 * j) ≤ k && k < tabKey 17 (0x50060 + 96 * j))).showOvl).slotInvalidate id
  | none => s

/-- KEY_DEBUG_UNLOCK (R444). -/
def State.keyDebugUnlock (s : State) : State :=
  { s with key := { s.key with debugEnd := some (s.clock.up + s.msgNat 128 4 * 250000000) } }.set F.KEY_STAT.DEBUG 1

/-- The operation's effect. -/
def State.keyApply (s : State) (v : KeyVerdict) : State :=
  let p := v.plain.getD []
  match s.msgOp with
  | 0x01 => s.keyManufacture p
  | 0x02 => s.keyProvision p
  | 0x03 => s.keyCommission
  | 0x04 => s.keyReturn
  | 0x05 => s.keyRootR p
  | 0x10 => s.keyMittenSet
  | 0x11 => s.keyMittenClr
  | _ => s.keyDebugUnlock

/-- KEY_RES of a message. -/
def State.keyResult (s : State) (code op : Nat) : State :=
  let s1 := (((s.set F.KEY_RES.CODE code).set F.KEY_RES.DONE 1).set F.KEY_RES.OP op).set F.KEY_STAT.BUSY 0
  if code = 0 then s1 else s1.flag F.KEY_ERR.MSG

/-- KEY_MSG_DONE (R457). -/
def keyMsgDone (v : KeyVerdict) (s : State) : State :=
  if !s.bit F.KEY_STAT.BUSY then s
  else
    let c := s.msgCode v
    let op := s.msgOp
    if c = 0 then (((s.keyApply v).set F.KEY_CTR.CTR (s.msgNat 16 4)).keyResult 0 op).updAlarm else s.keyResult c op

def execKeyMsgDone (dt : Nat) (v : KeyVerdict) (s : State) : Host.Outcome State Fault Refusal := .next (keyMsgDone v (s.elapse dt)).settle

/-- KEY_GO (R454). -/
def keyGo (s : State) : State := if s.bit F.KEY_STAT.BUSY then s.flag F.KEY_ERR.BUSY else s.set F.KEY_STAT.BUSY 1

/-- GEN_DTK (R456, R458): a key pair in BLANK, once; without random bits the request fails. The pair's values are random: free values,
the public part an uncompressed point. -/
def genDtk (s : State) : State :=
  if s.get F.KEY_STAT.LC ≠ 0 ∨ s.bit F.KEY_STAT.DTK then s.flag F.KEY_ERR.CMD_REJ
  else if !s.bit F.KEY_STAT.ENT_OK then s
  else
    let s1 := { s with key := { s.key with dtk := some s.free } }.nextFree
    let s2 := (List.range 25).foldl (fun s k =>
      let w : Word := BitVec.ofNat 32 s.free
      let v := if k = 0 then (w &&& 0xFFFFFF00#32) ||| 4#32 else if k = 24 then w &&& 0xFF#32 else w
      (s.setWord (tabKey 17 (0x60400 + 4 * k)) v).nextFree) s1
    (s2.set F.KEY_STAT.DTK 1).showIdent

/-- DEBUG_UNLOCK_EXPIRY (R444). -/
def debugExpiry (s : State) : State :=
  match s.key.debugEnd with
  | some t => if t ≤ s.clock.up then { s with key := { s.key with debugEnd := none } }.set F.KEY_STAT.DEBUG 0 else s
  | none => s

def execDebugUnlockExpiry (dt : Nat) (s : State) : Host.Outcome State Fault Refusal := .next (debugExpiry (s.elapse dt)).settle

/-! ### Tamper (R459 to R463) -/

/-- An entry of the tamper log (R463), stamped with the live RTC count. -/
def State.tamperLog (s : State) (act : Nat) (isFirst : Bool) : State :=
  let q := s.get F.KEY_TLOG_SEQ.SEQ + 1
  let e := (q - 1) % 64
  let w1 := s.rtc.sec / 2 ^ 32 % 256 + 256 * s.rtcFrac
  let w2 := act % 32 + 32 * s.get F.KEY_STAT.LC + 256 * s.rtc.onCell.toNat + 512 * isFirst.toNat
  let s1 := (s.setWord (T.KEY_TLOG.SEC e).key (BitVec.ofNat 32 s.rtc.sec)).setWord (T.KEY_TLOG.SEC_HI e).key (BitVec.ofNat 32 w1)
  let s2 := (s1.setWord (T.KEY_TLOG.SRC e).key (BitVec.ofNat 32 w2)).setWord (T.KEY_TLOG.SEQ e).key (BitVec.ofNat 32 q)
  s2.set F.KEY_TLOG_SEQ.SEQ (q % 2 ^ 32)

/-- A start that has not left the ROM or Cap mode is halted there (R374): the full set does not start. -/
def State.haltStart (s : State) : State :=
  if s.svc = 0 ∨ s.svc = 2 then
    let q := s.pwr.queue.filter (fun d => !([6, 7, 8, 9, 10, 13, 14, 15].contains d))
    ({ s with pwr := { s.pwr with queue := q } }).set F.SYS_SVC.TSTART 1
  else s

/-- What of a tamper needs AON up and out of reset (R460, R374): SIO, FAB and TIM lose their keys and fabric time, the alarm, the fuse, a start
that halts at the ROM. -/
def State.tamperUp (s : State) (act : Nat) : State :=
  let s1 := (s.sioKeyLoss).fabTamper
  let s2 := ({ s1 with key := { s1.key with fusing := true } }).haltStart
  (s2.logData 17 0x110 act (s.get F.KEY_TLOG_SEQ.SEQ) 7).updAlarm

/-- The tamper (R460, R462). TAMPER_OUT is line 1 of the pin list. -/
def State.tamperNow (s : State) (act : Nat) : State :=
  let s1 := s.tamperLog act true
  let busy := s1.bit F.KEY_STAT.BUSY
  let op := s1.msgOp
  let s2 := ({ s1 with key := { s1.key with root := none, pendRec := none, dtk := none, mark := true } }.cacheClear).hotClear
  let s3 := (((s2.set F.KEY_STAT.LC 5).set F.KEY_STAT.ROOT 0).set F.KEY_STAT.DTK 0).emit (.pin 1 true)
  let s4 := if busy then s3.keyResult 11 op else s3
  if s4.powered then s4.tamperUp act else { s4 with fab := { s4.fab with khb := false } }

/-- Sources as sampled (R459, R463, Table 18.11): ACT shows them, LAT keeps those seen since AON up. -/
def State.tamperShow (s : State) (act : Nat) : State :=
  if s.powered then (s.set F.KEY_TAMP.ACT act).set F.KEY_TAMP.LAT (s.get F.KEY_TAMP.LAT ||| act % 32) else s

/-- TAMPER (R460): a source becomes active in an armed state. -/
def tamperRow (act : Nat) (s : State) : State :=
  let s1 := s.tamperShow act
  if s.bit F.KEY_STAT.ARMED && s.get F.KEY_STAT.LC != 5 && act % 32 != 0 then s1.tamperNow (act % 32) else s1

def execTamper (dt act : Nat) (s : State) : Host.Outcome State Fault Refusal := .next (tamperRow act (s.elapse dt)).settle

/-- A source that becomes active after the tamper adds an entry (R463). -/
def State.tamperLater (s : State) (act : Nat) : State :=
  let fresh := act % 32 &&& (31 - s.get F.KEY_TAMP.ACT)
  let s1 := s.tamperShow act
  if s.get F.KEY_STAT.LC = 5 ∧ fresh ≠ 0 then s1.tamperLog (act % 32) false else s1

/-- TAMPER_LOG_ENTRY (R463). -/
def tamperLogRow (act : Nat) (s : State) : State := if s.get F.KEY_STAT.LC = 5 then s.tamperLater act else s

def execTamperLogEntry (dt act : Nat) (s : State) : Host.Outcome State Fault Refusal := .next (tamperLogRow act (s.elapse dt)).settle

/-- TAMPER_SOURCE_CHANGE (R443, R460, R463): in BLANK the source is latched and TAMPER_OUT follows; after a tamper an entry; in an armed state a
source that becomes active is the tamper. -/
def tamperSourceChange (act : Nat) (s : State) : State :=
  match s.get F.KEY_STAT.LC with
  | 0 => (s.tamperShow act).emit (.pin 1 (act % 32 != 0))
  | 5 => s.tamperLater act
  | _ => tamperRow act s

def execTamperSourceChange (dt act : Nat) (s : State) : Host.Outcome State Fault Refusal := .next (tamperSourceChange act (s.elapse dt)).settle

/-- TAMPER_FUSE_DONE (R460). -/
def tamperFuseDone (s : State) : State :=
  if s.key.fusing then { s with key := { s.key with fusing := false, fuseTamper := true } } else s

def execTamperFuseDone (dt : Nat) (s : State) : Host.Outcome State Fault Refusal := .next (tamperFuseDone (s.elapse dt)).settle

/-! ### AON start (R442, R445, R460) -/

/-- KEY_PENDING_RECOVERY: the fuses show whether the transition is completed. -/
def State.keyRecover (s : State) : State :=
  match s.key.pendRec with
  | none => s
  | some r => if s.key.fuseLc = r.target then s.lcCommit r else { s with key := { s.key with pendRec := none } }

/-- VBAT_ROOT_CHECK, and the rest of a tamper that took place without AON; TAMPER_OUT and the alarm stand for the life of the module, and
SIO_STAT.KEYLOSS with them (R114); otherwise TAMPER_OUT conducts again (R520). -/
def State.keyStart (s : State) : State :=
  let s1 := s.keyRecover
  let s2 := if s1.bit F.KEY_STAT.ROOT && !s1.key.chkOk then tamperRow 4 s1 else s1
  if s2.get F.KEY_STAT.LC = 5 then
    let s3 := (s2.emit (.pin 1 true)).set F.SIO_STAT.KEYLOSS 1
    if s3.key.fuseTamper then s3 else { s3 with key := { s3.key with fusing := true } }
  else s2.emit (.pin 1 false)

/-! ### Entropy (R458) -/

/-- ENTROPY_FAIL. -/
def entropyFail (s : State) : State := (s.set F.KEY_STAT.ENT_OK 0).flag F.KEY_ERR.ENTROPY

def execEntropyFail (dt : Nat) (s : State) : Host.Outcome State Fault Refusal := .next (entropyFail (s.elapse dt)).settle

/-- ENTROPY_RETEST: the start-up test, repeated every 1 s while ENT_OK = 0. -/
def entropyRetest (ok : Bool) (s : State) : State := if ok then s.set F.KEY_STAT.ENT_OK 1 else s

def execEntropyRetest (dt : Nat) (ok : Bool) (s : State) : Host.Outcome State Fault Refusal := .next (entropyRetest ok (s.elapse dt)).settle

end Sys2Proof.Machine
end

