-- ==== Sys2Proof/Machine/Upd.lean ====
section
/-! DEFINITION. Field update and hitless handover (chapter 19). The verdicts of the cryptography and of the storage devices enter as operands (log
entry 6). -/
namespace Sys2Proof.Machine

/-! ### Results and the buffer -/

/-- UPD_RES of a command. -/
def State.updRes (s : State) (cmd code : Nat) : State :=
  ((s.set F.UPD_RES.CODE code).set F.UPD_RES.DONE 1).set F.UPD_RES.CMD cmd

/-- A command that can be carried out now: STATE while another is in progress, BUSY during a warning for what R473 refuses. -/
def State.updCmd (s : State) (cmd : Nat) (f : State → State) : State :=
  if s.bit F.UPD_STAT.PFW_HOLD then s.updRes cmd 6
  else if s.bit F.UPD_STAT.BUSY then s.updRes cmd 32
  else f s

/-- The 1 KiB buffer. -/
def State.updBuf (s : State) : List Byte := s.tabBytes 18 0x100000 1024

/-- A package is open: RECEIVING, COMPLETE or INSTALLED. -/
def State.pkgOpen (s : State) : Bool := s.upd.pkg.isSome && 1 ≤ s.get F.UPD_STAT.PSTATE && s.get F.UPD_STAT.PSTATE ≤ 3
/-- The open package's header. -/
def State.pkgHdr (s : State) : List Byte := s.upd.pkg.getD []
/-- A package of a type in a PSTATE. -/
def State.pkgIs (s : State) (type pst : Nat) : Bool :=
  s.upd.pkg.isSome && pkgType s.pkgHdr == type && s.get F.UPD_STAT.PSTATE == pst

/-! ### Headers (R467, R468) -/

/-- A zero field of the header. -/
def zeroAt (h : List Byte) (o n : Nat) : Bool := allZero ((h.drop o).take n)

/-- The header's form and consistency (Table 19.2, FORMAT). -/
def pkgForm (h : List Byte) : Bool :=
  let t := pkgType h
  let d := (pkgLen h + 1023) / 1024
  let l := treeL d
  natAt h 0 4 == 0x4B5A5550 && natAt h 4 1 == 1 && (t == 1 || t == 2) &&
    zeroAt h 6 2 && zeroAt h 41 3 && zeroAt h 92 36 && zeroAt h 225 287 && zeroAt h 608 416 &&
    1 ≤ pkgLen h && pkgLen h ≤ (if t = 1 then 524288 else 67108864) && pkgData h == d && pkgLevels h == l &&
    pkgTree h == treeBase d l 0 && pkgFloor h ≤ pkgGen h && (t == 2 || pkgFloor h ≤ 63)

/-- CKH in force (Table 18.1). -/
def State.ckhInForce (s : State) : List Byte :=
  let lc := s.get F.KEY_STAT.LC
  if lc = 2 ∨ lc = 3 then (s.recInForce.map s.ckh).getD []
  else if lc = 5 then (match s.recInForce with
    | some r => s.ckh r
    | none => s.mkh)
  else s.mkh

/-- The code a header's checks end with (Table 19.2). -/
def State.hdrCode (s : State) (h : List Byte) (v : UpdVerdict) : Nat :=
  let fw := pkgType h == 1
  if !pkgForm h then 1
  else if natAt h 20 8 ≠ 0 ∧ natAt h 20 8 ≠ s.devid then 2
  else if v.signer ≠ (if fw then s.mkh else s.ckhInForce) then 3
  else if !v.sigOk then 4
  else if pkgGen h < (if fw then s.get F.UPD_FW_FLOOR.FLOOR else s.get F.CFG_FLOOR.GEN) then 5
  else 0

/-- A header opens a package. -/
def State.pkgStart (s : State) (h : List Byte) : State :=
  ({ s with upd := { s.upd with pkg := some h, chunks := [], pst := 1 } }).showPkg

/-- A header is presented (R467, R468): the state and the code. -/
def State.present (s : State) (h : List Byte) (v : UpdVerdict) : State × Nat :=
  let c := s.hdrCode h v
  if c ≠ 0 then (s.flag F.UPD_ERR.HDR, c)
  else if !s.pkgOpen then (if v.nandOk then (s.pkgStart h, 0) else (s.flag F.UPD_ERR.NAND, 34))
  else
    let o := s.pkgHdr
    if pkgId o == pkgId h && pkgRoot o == pkgRoot h then (s, 0)
    else if pkgType o == pkgType h && decide (pkgGen o < pkgGen h) && s.get F.UPD_STAT.PSTATE ≤ 2 &&
        s.get F.UPD_STAT.HSTATE == 0 then
      (if v.nandOk then (s.pkgStart h, 0) else (s.flag F.UPD_ERR.NAND, 34))
    else (s.flag F.UPD_ERR.HDR, 6)

/-! ### Chunks (R469 to R471, R474, R475) -/

/-- The hash a chunk is checked against, if its parent is held. -/
def State.chunkRef (s : State) (h : List Byte) (i : Nat) : Option (List Byte) :=
  if i = 0 then some (pkgRoot h)
  else
    let d := pkgData h
    let l := pkgLevels h
    let at_ := treeAt d l i
    (s.chunk? (treeBase d l (at_.1 + 1) + at_.2 / 16)).map (fun p => (p.drop (48 * (at_.2 % 16))).take 48)

/-- The padding of a tree chunk or of the last data chunk is zero. -/
def chunkPad (h : List Byte) (i : Nat) (c : List Byte) : Bool :=
  let d := pkgData h
  let at_ := treeAt d (pkgLevels h) i
  if 1 ≤ at_.1 then
    let kids := min 16 (treeN d (at_.1 - 1) - 16 * at_.2)
    allZero (c.drop (48 * kids))
  else if at_.2 + 1 = d then allZero (c.drop (pkgLen h - 1024 * (d - 1)))
  else true

/-- CKEY's hash equals CKH, which is programmed (R391). -/
def State.ckhMatch (s : State) (x : CfgHeader) : Bool := x.keyHash == s.ckhInForce && !allZero s.ckhInForce

/-- A complete configuration payload passes (R475): every check of R391 but the floor, and GEN and LEN agree. -/
def payloadOk (s : State) (h : List Byte) (x : CfgHeader) : Bool :=
  x.readOk && x.formatOk && (x.devid == 0 || x.devid == s.devid) && s.ckhMatch x && x.capSigOk && x.gen == pkgGen h && x.len == pkgLen h

/-- PACKAGE_COMPLETE (R474). Answers whether the payload failed. -/
def State.pkgComplete (s : State) (h : List Byte) (v : UpdVerdict) : State × Bool :=
  if s.upd.chunks.length < pkgTotal h then (s, false)
  else if pkgType h = 2 ∧ !payloadOk s h v.image then (s.setPst 5, true)
  else (s.setPst 2, false)

/-- A chunk is checked and stored (R470): the state and the code. -/
def State.takeChunk (s : State) (id : Option Nat) (i : Nat) (c : List Byte) (v : UpdVerdict) : State × Nat :=
  let h := s.pkgHdr
  if !s.pkgOpen || (id.isSome && id != some (pkgId h)) then (s, 19)
  else if pkgTotal h ≤ i then (s, 20)
  else if (s.chunk? i).isSome then (s.inc F.UPD_DUP_CNT.COUNT, 16)
  else match s.chunkRef h i with
    | none => (s, 17)
    | some r =>
      if v.sha ≠ r then ((s.inc F.UPD_HASH_CNT.COUNT).flag F.UPD_ERR.CHUNK, 18)
      else if !chunkPad h i c then ((s.inc F.UPD_HASH_CNT.COUNT).flag F.UPD_ERR.CHUNK, 21)
      else if !v.nandOk then (s.flag F.UPD_ERR.NAND, 34)
      else
        let s1 := ({ s with upd := { s.upd with chunks := put i c s.upd.chunks } }.showChunk i).showRecvd (pkgTotal h)
        let r := s1.pkgComplete h v
        (r.1, if r.2 then 22 else 0)

/-! ### Commands of the buffer (R468, R470, R472) -/

/-- A command that takes time starts. -/
def State.updWork (s : State) (cmd : Nat) : State := { (s.set F.UPD_STAT.BUSY 1) with upd := { s.upd with work := some cmd } }

/-- UPD_OPEN, UPD_PUT: the check of the buffer begins. -/
def updOpen (s : State) : State := s.updCmd 1 (fun s => s.updWork 1)
def updPut (s : State) : State := s.updCmd 2 (fun s => s.updWork 2)

/-- UPD_COMMAND_DONE. -/
def updCommandDone (v : UpdVerdict) (s : State) : State :=
  let fin := fun (cmd : Nat) (r : State × Nat) =>
    ({ (r.1.set F.UPD_STAT.BUSY 0) with upd := { r.1.upd with work := none } }).updRes cmd r.2
  match s.upd.work with
  | some 1 => fin 1 (s.present s.updBuf v)
  | some 2 => fin 2 (s.takeChunk none (s.get F.UPD_CHK_IDX.IDX) s.updBuf v)
  | _ => s

def execUpdCommandDone (dt : Nat) (v : UpdVerdict) (s : State) : Host.Outcome State Fault Refusal := .next (updCommandDone v (s.elapse dt)).settle

/-! ### The radio UART (R472, R473) -/

/-- A frame of Table 19.3 of TYPE t whose LEN and CRC are right. -/
def uartOk (t len : Nat) (f : List Byte) : Bool :=
  natAt f 0 1 == 0x5A && natAt f 1 1 == 0xA5 && natAt f 2 1 == t && natAt f 3 1 == 0 && natAt f 4 2 == len && f.length == len + 10 &&
    natAt f (6 + len) 4 == (crc32c ((f.drop 2).take (4 + len))).toNat

/-- The UART receives: enabled, UPD's domain on, no warning. -/
def State.uartRx (s : State) : Bool := s.bit F.UPD_CFG.UART_EN && s.domOn 1 && !s.bit F.UPD_STAT.PFW_HOLD

/-- UART_HEADER_FRAME. -/
def uartHeader (f : List Byte) (v : UpdVerdict) (s : State) : State :=
  if !s.uartRx then s
  else if !uartOk 1 1024 f then s.inc F.UPD_UART_ERR.COUNT
  else ((s.inc F.UPD_UART_CNT.COUNT).present ((f.drop 6).take 1024) v).1

/-- UART_CHUNK_FRAME. -/
def uartChunk (f : List Byte) (v : UpdVerdict) (s : State) : State :=
  if !s.uartRx then s
  else if !uartOk 2 1032 f then s.inc F.UPD_UART_ERR.COUNT
  else ((s.inc F.UPD_UART_CNT.COUNT).takeChunk (some (natAt f 6 4)) (natAt f 10 4) ((f.drop 14).take 1024) v).1

/-- UART_BAD_FRAME. -/
def uartBad (s : State) : State := if s.uartRx then s.inc F.UPD_UART_ERR.COUNT else s

def execUartHeaderFrame (dt : Nat) (frame : List Byte) (v : UpdVerdict) (s : State) : Host.Outcome State Fault Refusal :=
  .next (uartHeader frame v (s.elapse dt)).settle
def execUartChunkFrame (dt : Nat) (frame : List Byte) (v : UpdVerdict) (s : State) : Host.Outcome State Fault Refusal :=
  .next (uartChunk frame v (s.elapse dt)).settle
def execUartBadFrame (dt : Nat) (s : State) : Host.Outcome State Fault Refusal := .next (uartBad (s.elapse dt)).settle

/-! ### Package commands (R468, R475, R476) -/

/-- The package is discarded. -/
def State.pkgDrop (s : State) (pst : Nat) : State :=
  ({ s with upd := { s.upd with pkg := none, chunks := [], pst := pst, hoReq := false } }).showPkg

/-- UPD_ABORT. -/
def updAbort (s : State) : State :=
  s.updCmd 3 (fun s =>
    if 4 ≤ s.get F.UPD_STAT.HSTATE ∨ s.upd.sealing.isSome ∨ s.get F.UPD_STAT.PSTATE = 0 then s.updRes 3 32
    else ((s.pkgDrop 0).set F.UPD_STAT.HSTATE 0).updRes 3 0)

/-- The slot not in use (R389). -/
def State.otherSlot (s : State) : Nat := 1 - s.get F.CFG_STAT.SLOT

/-- A write to the slot ends a staging from it (R406). -/
def State.stagingBroken (s : State) : State :=
  if s.get F.CYC_STAT.EXCH = 1 then ((s.set F.CYC_STAT.EXCH 5).set F.CYC_EXCH_ERR.CODE 1).flag F.CYC_ERR.EXCH_FAIL else s

/-- UPD_INSTALL. -/
def updInstall (s : State) : State :=
  s.updCmd 4 (fun s => if s.pkgIs 2 2 then (s.updWork 4).stagingBroken else s.updRes 4 32)

/-- INSTALL_DONE (R475): the header written last; the REJ mark of the slot cleared. -/
def installDone (ok : Bool) (s : State) : State :=
  if s.upd.work ≠ some 4 then s
  else
    let s1 := { (s.set F.UPD_STAT.BUSY 0) with upd := { s.upd with work := none, slot := s.otherSlot } }
    if ok then ((s1.setPst 3).set (rejFld s.otherSlot) 0).selTouch.updRes 4 0
    else (s1.flag F.UPD_ERR.FLASH).updRes 4 33

def execInstallDone (dt : Nat) (ok : Bool) (s : State) : Host.Outcome State Fault Refusal := .next (installDone ok (s.elapse dt)).settle

/-- UPD_ACTIVATE (R476). -/
def updActivate (s : State) : State :=
  s.updCmd 5 (fun s =>
    if s.pkgIs 2 3 then
      let s1 := (s.set F.CFG_SEL.PREF s.upd.slot).selTouch
      ({ s1 with cfg := { s1.cfg with pend := some (s.upd.slot, pkgFloor s.pkgHdr) } }).updRes 5 0
    else s.updRes 5 32)

/-- UPD_STAGE (R476, R156): staging begins where the cycle engine serves and no exchange is under way. -/
def updStage (s : State) : State :=
  s.updCmd 6 (fun s =>
    if s.pkgIs 2 3 ∧ s.svc = 4 ∧ (s.get F.CYC_STAT.EXCH = 0 ∨ s.get F.CYC_STAT.EXCH = 5) then
      ((s.set F.CYC_STAT.EXCH 1).set F.CYC_EXCH_ERR.CODE 0).updRes 6 0
    else s.updRes 6 32)

/-! ### Firmware (R478 to R485) -/

/-- The complex in STANDBY. -/
def State.standby (s : State) : Option Nat := [0, 1].find? (fun n => s.get (cxFld n) == 2)

/-- UPD_LOAD_SB (R478). -/
def updLoadSb (s : State) : State :=
  s.updCmd 7 (fun s =>
    if !s.pkgIs 1 2 || s.get F.UPD_STAT.HSTATE != 0 then s.updRes 7 32
    else match s.standby with
      | none => s.updRes 7 35
      | some n =>
        ((((s.set F.UPD_STAT.HSTATE 1).setPst 3).set (rdyFld n) 0).set F.UPD_SB_GEN.GEN (pkgGen s.pkgHdr)).set F.UPD_SHD_CNT.COUNT 0 |>.updRes 7 0)

/-- STANDBY_READY (R415, R478). -/
def standbyReady (n : Nat) (s : State) : State :=
  if n < 2 ∧ s.get (cxFld n) = 2 then
    let s1 := s.set (rdyFld n) 1
    if s1.get F.UPD_STAT.HSTATE = 1 then s1.set F.UPD_STAT.HSTATE 2 else s1
  else s

def execStandbyReady (dt cx : Nat) (s : State) : Host.Outcome State Fault Refusal := .next (standbyReady cx (s.elapse dt)).settle

/-- SHADOW_ARMED (R479). -/
def shadowArmed (s : State) : State :=
  if s.get F.UPD_STAT.HSTATE = 2 ∧ s.get F.UPD_SHADOW_N.N ≤ s.get F.UPD_SHD_CNT.COUNT then s.set F.UPD_STAT.HSTATE 3 else s

def execShadowArmed (dt : Nat) (s : State) : Host.Outcome State Fault Refusal := .next (shadowArmed (s.elapse dt)).settle

/-- UPD_HANDOVER (R480). -/
def updHandover (s : State) : State :=
  s.updCmd 8 (fun s =>
    if s.get F.UPD_STAT.HSTATE = 3 then ({ s with upd := { s.upd with hoReq := true } }).updRes 8 0 else s.updRes 8 32)

/-- A handover or a hand-back is due. -/
def State.handoverDue (s : State) : Bool :=
  s.upd.sealing.isNone && !s.bit F.PWR_STAT.PFW &&
    ((s.get F.UPD_STAT.HSTATE == 3 && (s.upd.hoReq || s.bit F.UPD_CFG.AUTO_HO)) || s.get F.UPD_STAT.HSTATE == 6)

/-- Step 1 of R481: the Gauntlet swaps the complexes in the clock of the boundary. -/
def State.swap (s : State) : State :=
  match s.activeCx, s.standby with
  | some a, some n =>
    let s1 := (((s.set (cxFld a.num) 2).set (cxFld n) 1).set (rdyFld n) 0).set (rdyFld a.num) 0
    let s2 := s1.dropRequester a.num
    let s3 := (s2.set F.UPD_FW_GEN.GEN (s.get F.UPD_SB_GEN.GEN)).set F.UPD_SB_GEN.GEN (s.get F.UPD_FW_GEN.GEN)
    { s3 with upd := { s3.upd with hoReq := false, sealing := some s3.clock.up } }
  | _, _ => s

/-- HANDOVER_BOUNDARY and HANDOVER_TIMEOUT (R480, R481). -/
def handoverBoundary (s : State) : State := if s.handoverDue then s.swap else s
def handoverTimeout (s : State) : State := if s.handoverDue then s.swap else s

def execHandoverBoundary (dt : Nat) (s : State) : Host.Outcome State Fault Refusal := .next (handoverBoundary (s.elapse dt)).settle
def execHandoverTimeout (dt : Nat) (s : State) : Host.Outcome State Fault Refusal := .next (handoverTimeout (s.elapse dt)).settle

/-- MAILBOX_SEALED (R481, R482): probation begins, or the hand-back completes; the outgoing complex is kept current. -/
def mailboxSealed (s : State) : State :=
  match s.upd.sealing with
  | none => s
  | some b =>
    let us := (s.clock.up - b) / 250
    let s1 := ((s.inc F.UPD_HO_CNT.COUNT).set F.UPD_HO_US.US (min us 65535))
    let s2 := { s1 with upd := { s1.upd with sealing := none } }
    if s2.get F.UPD_STAT.HSTATE = 6 then (s2.updReject).set F.UPD_SB_GEN.GEN (s2.get F.UPD_FW_GEN.GEN)
    else
      let s3 := { s2 with upd := { s2.upd with probEnd := some (b + s.get F.UPD_PROB_S.S * 250000000) } }
      let s4 := s3.set F.UPD_STAT.HSTATE 4
      match s4.standby with
      | some n => s4.set (rdyFld n) 1
      | none => s4

def execMailboxSealed (dt : Nat) (s : State) : Host.Outcome State Fault Refusal := .next (mailboxSealed (s.elapse dt)).settle

/-- UPD_PROB_LEFT: seconds of probation remaining. -/
def State.probLeft (s : State) : Nat :=
  match s.upd.probEnd with
  | some t => if s.get F.UPD_STAT.HSTATE = 4 then (t - s.clock.up + 249999999) / 250000000 else 0
  | none => 0

/-- COMMITTING begins with the overwrite record (R483). -/
def State.committing (s : State) : State :=
  { (s.set F.UPD_STAT.HSTATE 5) with upd := { s.upd with overwrite := true, probEnd := none, fails := 0 } }

/-- PROBATION_EXPIRY (R482). -/
def probationExpiry (s : State) : State :=
  if s.get F.UPD_STAT.HSTATE = 4 ∧ s.probLeft = 0 then s.committing else s

def execProbationExpiry (dt : Nat) (s : State) : Host.Outcome State Fault Refusal := .next (probationExpiry (s.elapse dt)).settle

/-- UPD_COMMIT (R482). -/
def updCommit (s : State) : State :=
  s.updCmd 10 (fun s => if s.get F.UPD_STAT.HSTATE = 4 then (s.committing).updRes 10 0 else s.updRes 10 32)

/-- UPD_REVERT (R479, R482). -/
def updRevert (s : State) : State :=
  s.updCmd 9 (fun s =>
    match s.get F.UPD_STAT.HSTATE with
    | 4 => (s.set F.UPD_STAT.HSTATE 6).updRes 9 0
    | 1 => (s.updReject).updRes 9 0
    | 2 => (s.updReject).updRes 9 0
    | 3 => if s.upd.sealing.isSome then s.updRes 9 32 else (s.updReject).updRes 9 0
    | _ => s.updRes 9 32)

/-- The saves that precede a software reset (R384). -/
def State.startSwReset (s : State) : State :=
  if s.pwr.swReset then s else { (s.saveBoth).startFlush with pwr := { s.pwr with swReset := true } }

/-- UPD_COLD (R484). -/
def updCold (s : State) : State :=
  s.updCmd 11 (fun s =>
    if s.pkgIs 1 2 && s.get F.UPD_STAT.HSTATE == 0 then
      let s1 := s.updWork 11
      { s1 with upd := { s1.upd with overwrite := true, cold := true, fails := 0 } }
    else s.updRes 11 32)

/-- Steps 4 and 5 of R483. -/
def State.overwritten (s : State) : State :=
  let h := s.pkgHdr
  let s1 := s.set F.UPD_FW_FLOOR.FLOOR (max (s.get F.UPD_FW_FLOOR.FLOOR) (pkgFloor h))
  let s2 := { s1 with upd := { s1.upd with overwrite := false, pkg := none, chunks := [], fails := 0 } }
  s2.setPst 4

/-- OVERWRITE_DONE (R483, R484). -/
def overwriteDone (ok : Bool) (s : State) : State :=
  if !(s.get F.UPD_STAT.HSTATE == 5 || s.upd.cold) || !s.upd.overwrite then s
  else if !ok then
    if s.upd.fails = 0 then { s with upd := { s.upd with fails := 1 } }
    else
      let s1 := s.flag F.UPD_ERR.NAND
      if s.upd.cold then (({ s1 with upd := { s1.upd with cold := false, work := none } }).set F.UPD_STAT.BUSY 0).updRes 11 34 else s1
  else if s.upd.cold then
    let s1 := s.overwritten
    (({ s1 with upd := { s1.upd with cold := false, work := none } }.set F.UPD_STAT.BUSY 0).updRes 11 0).startSwReset
  else
    let g := pkgGen s.pkgHdr
    let s1 := (s.overwritten).set F.UPD_STAT.HSTATE 0
    match s1.standby with
    | some n => (s1.set (rdyFld n) 0).set F.UPD_SB_GEN.GEN g
    | none => s1

def execOverwriteDone (dt : Nat) (ok : Bool) (s : State) : Host.Outcome State Fault Refusal := .next (overwriteDone ok (s.elapse dt)).settle

/-- A write of UPD_CMD (Table 19.6). -/
def updCommand (v : Word) (s : State) : State :=
  match v.toNat % 16 with
  | 1 => updOpen s
  | 2 => updPut s
  | 3 => updAbort s
  | 4 => updInstall s
  | 5 => updActivate s
  | 6 => updStage s
  | 7 => updLoadSb s
  | 8 => updHandover s
  | 9 => updRevert s
  | 10 => updCommit s
  | 11 => updCold s
  | c => s.updCmd c (fun s => s.updRes c 32)

end Sys2Proof.Machine
end

