-- ==== Sys2Proof/Machine/Cfg.lean ====
section
/-! DEFINITION. The configuration image (chapter 16): the selection record, the choice of a slot, the cap stage, the full stage, the staging of an
exchange. What the flash holds and the verdicts of the cryptography enter as operands of SLOT_SELECT and EXCH_STAGING_DONE (log entry 6). -/
namespace Sys2Proof.Machine

/-! ### The selection record (R400) -/

/-- The better copy: a good CRC and the higher generation; whether it is copy B. -/
def CfgSt.better (c : CfgSt) : Option (SelRec × Bool) :=
  match c.selA, c.selB with
  | some a, some b => if a.gen < b.gen then some (b, true) else some (a, false)
  | some a, none => some (a, false)
  | none, some b => some (b, true)
  | none, none => none

/-- The ROM reads the record; without a valid copy it reads as PREF 0, no slot rejected, floor 0. -/
def State.selRead (s : State) : State :=
  let r : SelRec × Bool × Bool := match s.cfg.better with
    | some (x, b) => (x, b, false)
    | none => (⟨0, 0, false, false, 0, none⟩, true, true)
  let s1 := (((s.set F.CFG_SEL.PREF r.1.pref).setBit F.CFG_SEL.REJ0 r.1.rej0).setBit F.CFG_SEL.REJ1 r.1.rej1).set F.CFG_FLOOR.GEN r.1.floor
  ({ s1 with cfg := { s1.cfg with gen := r.1.gen, pend := r.1.pend, newB := r.2.1, dirty := false } }).setBit F.CFG_STAT.SELINIT r.2.2

/-- SELECTION_RECORD_COMMITTED: the older copy takes the record with the generation + 1; CLR_REJ reads 0 again. -/
def selectionCommitted (s : State) : State :=
  if !s.cfg.dirty then s
  else
    let r : SelRec := ⟨s.cfg.gen + 1, s.get F.CFG_SEL.PREF, s.bit F.CFG_SEL.REJ0, s.bit F.CFG_SEL.REJ1, s.get F.CFG_FLOOR.GEN, s.cfg.pend⟩
    let c : CfgSt := if s.cfg.newB then { s.cfg with selA := some r, newB := false } else { s.cfg with selB := some r, newB := true }
    ({ s with cfg := { c with gen := r.gen, dirty := false } }).set F.CFG_CTRL.CLR_REJ 0

def execSelectionRecordCommitted (dt : Nat) (s : State) : Host.Outcome State Fault Refusal := .next (selectionCommitted (s.elapse dt)).settle

/-- CLR_REJ_WRITE: a write of 1 to CFG_CTRL.CLR_REJ. -/
def clrRej (s : State) : State := (((s.set F.CFG_CTRL.CLR_REJ 1).set F.CFG_SEL.REJ0 0).set F.CFG_SEL.REJ1 0).selTouch

/-! ### Headers and the slot in use (R391, R401) -/

/-- The first check of R391 a header fails, by its code of Table 16.5; 0 where it verifies. -/
def State.headerCode (s : State) (h : CfgHeader) : Nat :=
  if !h.readOk then 7
  else if !h.formatOk then 2
  else if h.devid ≠ 0 ∧ h.devid ≠ s.devid then 4
  else if h.gen < s.get F.CFG_FLOOR.GEN then 5
  else if !s.ckhMatch h then 3
  else if !h.capSigOk then 6
  else 0

/-- The selection order of R401: the slot, and whether a rejected one was taken. -/
def takeSlot (pref : Nat) (pass rej : Nat → Bool) : Option (Nat × Bool) :=
  let o := 1 - pref
  if pass pref && !rej pref then some (pref, false)
  else if pass o && !rej o then some (o, false)
  else if pass pref then some (pref, true)
  else if pass o then some (o, true)
  else none

/-- CFG_ERR and CFG_ERR_ADDR take the first failure since reset (R405). -/
def State.cfgFail (s : State) (f : LoadFail) (slot : Nat) : State :=
  if s.get F.CFG_ERR.CODE ≠ 0 then s
  else ((((s.set F.CFG_ERR.CODE f.code).set F.CFG_ERR.SECT f.sect).set F.CFG_ERR.SLOT slot).set F.CFG_ERR_ADDR.ADDR f.addr).set
    F.CFG_ERR_ADDR.KIND f.kind

/-- Bare Cap mode (R376). -/
def State.bareCap (s : State) (f : LoadFail) (slot : Nat) : State := ((s.cfgFail f slot).setSvc 1).showIdent

/-- SLOT_SELECT (R401). -/
def slotSelect (i0 i1 : CfgImage) (ddr : Bool) (mhz : Nat) (s : State) : State :=
  if s.svc ≠ 0 ∨ s.cfg.image.isSome ∨ !s.domOn 0 then s
  else
    let s1 := ((s.selRead).setBit F.CFG_XSPI.DDR ddr).set F.CFG_XSPI.MHZ mhz
    let code := fun (n : Nat) => s1.headerCode (if n = 0 then i0.hdr else i1.hdr)
    let img := fun (n : Nat) => if n = 0 then i0 else i1
    let s2 := [0, 1].foldl (fun s n => if code n = 0 then
        (s.set (F.CFG_SLOTn_ID.VALUE n) (img n).hdr.id).set (F.CFG_SLOTn_GEN.VALUE n) (img n).hdr.gen
      else s) s1
    let pref := s2.get F.CFG_SEL.PREF
    match takeSlot pref (fun n => code n == 0) (fun n => s2.bit (rejFld n)) with
    | none => s2.bareCap ⟨1, 0xFF, 0, code 0 + 256 * code 1⟩ pref
    | some (n, used) =>
      let s3 := (((s2.set F.CFG_STAT.SLOT n).setBit F.CFG_STAT.REJ_USED used).set F.CFG_ID.VALUE (img n).hdr.id).set F.CFG_GEN.VALUE (img n).hdr.gen
      { s3 with cfg := { s3.cfg with image := some (img n) } }

def execSlotSelect (dt : Nat) (i0 i1 : CfgImage) (ddr : Bool) (mhz : Nat) (s : State) : Host.Outcome State Fault Refusal :=
  .next (slotSelect i0 i1 ddr mhz (s.elapse dt)).settle

/-! ### The cap stage (R402) -/

/-- A save period out of range is ignored with MTR_ERR.RANGE (Table 2.8), the exception R537 allows. -/
def State.framPeriod (s : State) : State :=
  let p := s.get F.MTR_FRAM_PER.PER
  if p = 0 ∨ 3600 < p then (s.setWord R.MTR_FRAM_PER (resetWord R.MTR_FRAM_PER)).flag F.MTR_ERR.RANGE else s

/-- A warning (R397). -/
def State.cfgWarn (s : State) (sect type : Nat) : State := (s.inc F.CFG_STAT.WARN).logData 2 0x120 sect type 3

/-- The cap stage: the cap section's records and rules. -/
def State.capStage (s : State) (img : CfgImage) : Except LoadFail State :=
  match img.sections with
  | [] => .error ⟨2, 0, 0, 0⟩
  | c :: _ =>
    if !c.readOk then .error ⟨7, 0, 0, 0⟩
    else if c.type ≠ 1 ∨ c.enc then .error ⟨2, 0, 0, 0⟩
    else match s.loadRecs 1 0 [] c.optional [] false c.recs with
      | .error e => .error ⟨e.1, 0, e.2.1, e.2.2⟩
      | .ok (s1, ts, skipped) =>
        let s2 := s1.framPeriod
        let s3 := if skipped then s2.cfgWarn 0 1 else s2
        match s3.rangeFail ts.reverse, s3.capChecks with
        | some f, _ => .error f
        | none, some k => .error ⟨k, 0, 0, 0⟩
        | none, none => .ok s3

/-- A unit's start where its domain runs (R372). -/
def State.onDomain (s : State) (d : Nat) (f : State → State) : State := if s.domOn d then f s else s

/-- Cap-mode service starts (R373 step 4), then start phase 2 unless a tamper halted the start (R374). -/
def State.capService (s : State) : State :=
  let s1 := ((((s.onDomain 4 State.csbStart).onDomain 2 State.mtrMerge).onDomain 5 State.hqcStart).onDomain 5 State.sioCapStart).onDomain 12 State.fabStart
  let s2 := (s1.bmca false).storeCrcCap
  let s3 := ({ s2 with saf := { s2.saf with capAlarm := true } }).set F.SYS_SVC.CAPLOOP 1
  let s4 := (s3.setSvc 2).showIdent.set F.SYS_T_CAP.MS (s.clock.up / 250000)
  if s4.bit F.SYS_SVC.TSTART then s4
  else
    let s5 := s4.startSet 2 s4.fullSet
    s5.nextDomain

/-- The ROM stands before the cap commit. -/
def State.atCapStage (s : State) : Bool := s.svc == 0 && !s.bit F.CFG_STAT.CAP_OK && s.domOn 0

/-- CAP_COMMIT (R402). -/
def capCommit (s : State) : State :=
  match s.cfg.image with
  | none => s
  | some img =>
    if !s.atCapStage then s
    else match s.capStage img with
      | .ok s1 => (s1.set F.CFG_STAT.CAP_OK 1).capService
      | .error _ => s

def execCapCommit (dt : Nat) (s : State) : Host.Outcome State Fault Refusal := .next (capCommit (s.elapse dt)).settle

/-- CAP_STAGE_FAIL (R402): bare Cap mode with the rule's code. -/
def capStageFail (s : State) : State :=
  match s.cfg.image with
  | none => s
  | some img =>
    if !s.atCapStage then s
    else match s.capStage img with
      | .ok _ => s
      | .error f => s.bareCap f (s.get F.CFG_STAT.SLOT)

def execCapStageFail (dt : Nat) (s : State) : Host.Outcome State Fault Refusal := .next (capStageFail (s.elapse dt)).settle

/-! ### The full stage (R403) -/

/-- Types that may appear more than once (R394); all types but the reserved ones. -/
def multiTypes : List Nat := [0x10, 0x11, 0x21, 0x30]
def knownTypes : List Nat := [0x01, 0x02, 0x10, 0x11, 0x12, 0x13, 0x20, 0x21, 0x22, 0x30, 0x40, 0x41, 0x50, 0x51, 0x60]

/-- The load in work: the state so far, the words written (newest first), the types applied with their directory index. -/
structure LoadWork where
  s : State
  ts : List Touched
  types : List (Nat × Nat)

/-- The registers the map gives (R398). -/
def State.applyMap (s : State) (m : List (Nat × Nat × Nat)) : State :=
  (s.mapOf m).foldl (fun s e =>
    match e.1 with
    | 1 => (s.set F.PGR_POOL_BASE.BASE e.2.2).set F.PGR_POOL_SIZE.SIZE e.2.1
    | 5 => s.set F.DOP_AREA_BASE.BASE e.2.2
    | 6 => s.set F.TRJ_AREA_BASE.BASE e.2.2
    | _ => s) s

/-- A section has been applied. -/
def LoadWork.applied (w : LoadWork) (s : State) (ts : List Touched) (type i : Nat) : LoadWork :=
  ⟨s.inc F.CFG_STAT.SECTS, ts, w.types ++ [(type, i)]⟩

/-- An encrypted section can be decrypted: a root, not TAMPERED, its tag matches (R393). -/
def State.canDecrypt (s : State) (c : CfgSection) : Bool := !c.enc || (s.key.root.isSome && !s.tampered && c.tagOk)

/-- One directory entry (R394, R396, R397, R403). `earlier` are the (TYPE, SECT_ID) before it, `map` the image's areas. -/
def LoadWork.section (w : LoadWork) (i : Nat) (c : CfgSection) (earlier : List (Nat × Nat)) (map : List (Nat × Nat × Nat)) : Except LoadFail LoadWork :=
  if !c.readOk then .error ⟨7, i, 0, 0⟩
  else if !c.hashOk then .error ⟨9, i, 0, 0⟩
  else if !w.s.canDecrypt c then .error ⟨10, i, 0, 0⟩
  else if !knownTypes.contains c.type then
    (if c.optional then .ok { w with s := w.s.cfgWarn i c.type } else .error ⟨11, i, 0, 0⟩)
  else if c.type = 1 ∨ earlier.any (fun e => e.1 == c.type && (!multiTypes.contains c.type || e.2 == c.sectId)) then .error ⟨11, i, 0, 0⟩
  else if c.type = 2 then
    match w.s.mapCheck c.map c.mapOk with
    | some k => .error ⟨k, i, 0, 0⟩
    | none =>
      let s1 := w.s.applyMap c.map
      let s2 := if (s1.mapOf c.map).length < c.map.length then s1.cfgWarn i 2 else s1
      .ok (w.applied s2 w.ts 2 i)
  else match w.s.loadRecs c.type i map false w.ts false c.recs with
    | .ok (s1, ts, _) => .ok (w.applied s1 ts c.type i)
    | .error (12, k, a) => if c.optional then .ok { w with s := w.s.cfgWarn i c.type } else .error ⟨12, i, k, a⟩
    | .error (n, k, a) => .error ⟨n, i, k, a⟩

/-- The directory from entry i on: the work so far, and the failure that ended it. -/
def LoadWork.sections (w : LoadWork) (map : List (Nat × Nat × Nat)) (earlier : List (Nat × Nat)) : Nat → List CfgSection → LoadWork × Option LoadFail
  | _, [] => (w, none)
  | i, c :: t =>
    match w.section i c earlier map with
    | .error f => (w, some f)
    | .ok w1 => w1.sections map ((c.type, c.sectId) :: earlier) (i + 1) t

/-- The map of an image. -/
def imageMap (img : CfgImage) : List (Nat × Nat × Nat) := ((img.sections.find? (fun c => c.type == 2)).map (fun c => c.map)).getD []

/-- A required section or area is absent (R394, R399). -/
def LoadWork.missing (w : LoadWork) (map : List (Nat × Nat × Nat)) : Bool :=
  let has := fun (ty : Nat) => w.types.any (fun e => e.1 == ty)
  let area := fun (a : Nat) => map.any (fun e => e.1 == a)
  !has 2 || !has 0x20 || (has 0x40 && !has 0x41) || !([0, 2, 3, 4].all area) || (has 0x50 && !area 5) ||
  (has 0x51 && w.s.get F.TRJ_CFG.SRC != 0 && !area 6)

/-- The rules across sections, each with the type that it is reported for. -/
def LoadWork.rules (w : LoadWork) (img : CfgImage) : List (Nat × Option Nat) :=
  let has := fun (ty : Nat) => w.types.any (fun e => e.1 == ty)
  let s := w.s
  [(0x10, s.stationCheck), (0x11, s.heatCheck), (0x30, s.motionCheck), (0x20, (s.programSections).map (fun b => b.load)),
   (0x20, firstCode [(0x80000 < s.get F.CYC_HOSTW_BASE.BASE + s.get F.CYC_HOSTW_SIZE.SIZE, 14)]),
   (0x40, s.networkCheck (img.symOk || !has 0x40) img.factors), (0x50, if has 0x50 then s.dispatchCheck else none), (0x51, s.trajCheck),
   (0x60, s.recorderCheck)]

/-- The first rule broken. -/
def LoadWork.broken (w : LoadWork) (img : CfgImage) : Option LoadFail :=
  (w.rules img).findSome? (fun r => r.2.map (fun k => ⟨k, ((w.types.find? (fun e => e.1 == r.1)).map Prod.snd).getD 0xFF, 0, 0⟩))

/-- The load checks over all applied sections (R403, step 3). -/
def LoadWork.judge (w : LoadWork) (img : CfgImage) : Option LoadFail :=
  if w.missing (imageMap img) then some ⟨16, 0xFF, 0, 0⟩
  else match w.s.rangeFail w.ts.reverse with
    | some f => some f
    | none => w.broken img

/-- The full stage (R403, steps 1 to 3): the state with the sections applied so far, and the first failure. -/
def State.fullStage (s : State) (img : CfgImage) : State × Option LoadFail :=
  if !img.sigOk then (s, some ⟨8, 0xFF, 0, 0⟩)
  else if !img.dirOk then (s, some ⟨2, 0xFF, 0, 0⟩)
  else
    let s0 := s.setBit F.CFG_STAT.ENC (img.sections.any (fun c => c.enc))
    match (⟨s0, [], []⟩ : LoadWork).sections (imageMap img) [] 1 (img.sections.drop 1) with
    | (w, some f) => (w.s, some f)
    | (w, none) =>
      let w1 : LoadWork := { w with s := w.s.set F.CYC_BLK_CNT.COUNT w.s.countBlocks }
      (w1.s, w1.judge img)

/-- The full stage can end: DRAM is trained, LOADING, no power-fail warning (R380, R404). -/
def State.atFullStage (s : State) : Bool :=
  s.svc == 3 && s.cfg.trained && !s.bit F.CFG_STAT.FULL_OK && !s.bit F.PWR_STAT.PFW

/-- The pending floor is raised at the first full commit from its slot (R476). -/
def State.raiseFloor (s : State) : State :=
  match s.cfg.pend with
  | some (slot, fl) =>
    if slot = s.get F.CFG_STAT.SLOT then
      let s1 := (s.set F.CFG_FLOOR.GEN (max (s.get F.CFG_FLOOR.GEN) fl)).selTouch
      { s1 with cfg := { s1.cfg with pend := none } }
    else s
  | none => s

/-- FULL_COMMIT (R403). -/
def fullCommit (s : State) : State :=
  match s.cfg.image with
  | none => s
  | some img =>
    if !s.atFullStage then s
    else match s.fullStage img with
      | (_, some _) => s
      | (s1, none) =>
        let s2 := ((s1.set F.CFG_STAT.FULL_OK 1).set F.CYC_PROG_ID.ID img.hdr.id).set F.CFG_LOAD_MS.MS (s.clock.up / 250000)
        ((s2.storeCrcFull).gauntletCopy).raiseFloor

def execFullCommit (dt : Nat) (s : State) : Host.Outcome State Fault Refusal := .next (fullCommit (s.elapse dt)).settle

/-- The sequencer gates every full-set domain (R377); RTB goes OFF with its domain. -/
def State.gateFull (s : State) : State :=
  let s1 := { s with pwr := { s.pwr with queue := s.pwr.queue.filter (fun d => !s.fullSet.contains d) } }
  let s2 := s1.fullSet.foldl State.gateDomain s1
  (if s2.get F.SAF_CX_STAT.CXB = 2 then s2.set F.SAF_CX_STAT.CXB 0 else s2).nextDomain

/-- FULL_LOAD_FAIL (R404). -/
def fullLoadFail (s : State) : State :=
  match s.cfg.image with
  | none => s
  | some img =>
    if !s.atFullStage then s
    else match s.fullStage img with
      | (_, none) => s
      | (s0, some f) =>
        let slot := s.get F.CFG_STAT.SLOT
        let s1 := ((s0.cfgFail f slot).set F.CFG_STAT.HELD 1).rejectSlot slot
        let s2 := (s1.setSvc 5).logData 2 0x121 f.sect (s1.word R.CFG_ERR).toNat 6
        s2.gateFull

def execFullLoadFail (dt : Nat) (s : State) : Host.Outcome State Fault Refusal := .next (fullLoadFail (s.elapse dt)).settle

/-! ### After DRAM training (R373, R477, R484) -/

/-- FIRMWARE_LOAD: both complexes run the stored firmware, or Cap mode is held (R477). -/
def State.firmwareLoad (s : State) (fw : Option Nat) : State :=
  match fw with
  | some g => (s.set F.UPD_FW_GEN.GEN g).set F.UPD_SB_GEN.GEN g
  | none => (((s.set F.UPD_STAT.NOFW 1).flag F.UPD_ERR.NOFW).setSvc 5).gateFull

/-- DRAM_TRAINED: `ow` whether the staged copy passes where the overwrite record is set, `fw` the GEN of the stored image that then verifies. -/
def dramTrained (fw : Option Nat) (ow : Bool) (s : State) : State :=
  if s.svc ≠ 3 ∨ s.cfg.trained ∨ !s.domOn 6 then s
  else
    let s1 := { s with cfg := { s.cfg with trained := true } }
    let s2 := if s1.upd.overwrite && ow then s1.overwritten else s1
    s2.firmwareLoad fw

def execDramTrained (dt : Nat) (fw : Option Nat) (ow : Bool) (s : State) : Host.Outcome State Fault Refusal := .next (dramTrained fw ow (s.elapse dt)).settle

/-! ### Staging (R156, R199, R406) -/

/-- A word of the loop tables; of the variable area. -/
def loopKey (k : Nat) : Bool := tabKey 6 0 ≤ k && k < tabKey 6 0x90000
def varKey (k : Nat) : Bool := tabKey 3 0x300000 ≤ k && k < tabKey 3 0x380000

/-- The machine with its program sections empty, to stage onto. -/
def State.unprogrammed (s : State) : State :=
  let s1 := s.clearWords (fun k => exchangedKey k || loopKey k || varKey k)
  (s1.set F.CYC_HOSTW_BASE.BASE 0).set F.CYC_HOSTW_SIZE.SIZE 0

/-- The program sections of the image onto the scratch machine; the entries passed over with a warning; a code of CYC_EXCH_ERR, or the machine
and the words written. -/
def State.stageSections (s root : State) (ts : List Touched) (skips : List Nat) : Nat → List CfgSection → List Nat × Except Nat (State × List Touched)
  | _, [] => (skips, .ok (s, ts))
  | i, c :: t =>
    if !(c.type == 0x20 || c.type == 0x21 || c.type == 0x22) then s.stageSections root ts skips (i + 1) t
    else if !c.readOk || !c.hashOk || !root.canDecrypt c then (skips, .error 1)
    else match s.loadRecs c.type i [] false ts false c.recs with
      | .ok (s1, ts1, _) => s1.stageSections root ts1 skips (i + 1) t
      | .error (12, _, _) => if c.optional then s.stageSections root ts (skips ++ [i]) (i + 1) t else (skips, .error 7)
      | .error _ => (skips, .error 5)

/-- The migration list (R156): new and old instances of one non-zero TAG and one TYPE. -/
def migrationList (old new : State) : List (Nat × Nat) :=
  let oldTags := old.instances.map (fun j => (old.get (T.CYC_BLK.TAG j), old.get (T.CYC_BLK.TYPE j), j))
  new.instances.filterMap (fun i =>
    let tag := new.get (T.CYC_BLK.TAG i)
    if tag = 0 then none
    else (oldTags.find? (fun e => e.1 == tag && e.2.1 == new.get (T.CYC_BLK.TYPE i))).map (fun e => (i, e.2.2)))

/-- What the scratch machine gives: a code of CYC_EXCH_ERR, or the staged program. -/
def State.stagedFrom (s s1 : State) (ts : List Touched) (id : Nat) : Except Nat Staged :=
  let s2 := s1.set F.CYC_BLK_CNT.COUNT s1.countBlocks
  let bad := 0x80000 < s2.get F.CYC_HOSTW_BASE.BASE + s2.get F.CYC_HOSTW_SIZE.SIZE
  match s2.rangeFail ts.reverse, s2.programSections with
  | some _, _ => .error 5
  | none, some b => .error b.exch
  | none, none =>
    if bad then .error 5
    else .ok
      { id := id
        words := s2.words.filter (fun e => exchangedKey e.1 || loopKey e.1)
        vars := (((ts.map Touched.key).filter varKey).dedup).map (fun k => (k, s2.word k))
        count := s2.get F.CYC_BLK_CNT.COUNT
        hostwBase := s2.get F.CYC_HOSTW_BASE.BASE
        hostwSize := s2.get F.CYC_HOSTW_SIZE.SIZE
        mig := migrationList s s2 }

/-- Staging of an image. -/
def State.stage (s : State) (img : CfgImage) : List Nat × Except Nat Staged :=
  if s.headerCode img.hdr ≠ 0 ∨ !img.sigOk ∨ !img.dirOk then ([], .error 1)
  else match s.unprogrammed.stageSections s [] [] 1 (img.sections.drop 1) with
    | (sk, .error k) => (sk, .error k)
    | (sk, .ok r) => (sk, s.stagedFrom r.1 r.2 img.hdr.id)

/-- EXCH_STAGING_DONE. -/
def exchStaging (img : CfgImage) (s : State) : State :=
  if s.get F.CYC_STAT.EXCH ≠ 1 then s
  else
    let r := s.stage img
    let s1 := r.1.foldl (fun s i => s.cfgWarn i 0x21) s
    match r.2 with
    | .error k => ((s1.set F.CYC_STAT.EXCH 5).set F.CYC_EXCH_ERR.CODE k).flag F.CYC_ERR.EXCH_FAIL
    | .ok g => (({ s1 with cyc := { s1.cyc with staged := some g } }).set F.CYC_STAT.EXCH 2).set F.CYC_EXCH_ID.ID g.id

def execExchStagingDone (dt : Nat) (img : CfgImage) (s : State) : Host.Outcome State Fault Refusal := .next (exchStaging img (s.elapse dt)).settle

end Sys2Proof.Machine
end

