-- ==== Sys2Proof/Machine/FabRx.lean ====
section
/-! DEFINITION. Frames that arrive on a fabric port (chapter 12): checks, forwarding, the duplicate window, delivery and answers, LSAs. -/
namespace Sys2Proof.Machine

/-! ### The window and the response cache (R325 to R327) -/

/-- What the window says of a SEQ. -/
inductive WinVerdict where
  | fresh
  | dup
  | stale
  | full
deriving DecidableEq, Repr

/-- The window of an origin, class and kind of address. -/
def winIs (src cls : Nat) (bcast : Bool) (w : FabWin) : Bool := w.src == src && w.cls == cls && w.bcast == bcast

/-- How far a SEQ lies behind another, modulo 2¹⁶. -/
def seqBehind (newest seq : Nat) : Nat := (newest + 65536 - seq) % 65536

/-- The verdict on a SEQ (R325), without recording it. -/
def State.winLook (s : State) (src cls : Nat) (bcast : Bool) (seq : Nat) : WinVerdict :=
  match s.fab.wins.find? (winIs src cls bcast) with
  | none =>
    if s.fab.wins.length < 1024 ∨ s.fab.wins.any (fun w => s.get F.FAB_RETRY.WIN_HOLD * 250000000 ≤ s.clock.up - w.up) then .fresh else .full
  | some w =>
    let d := seqBehind w.newest seq
    if d = 0 then .dup
    else if 32768 ≤ d then .fresh
    else if 64 < d then .stale
    else if w.seen.contains seq then .dup
    else .fresh

/-- Record a delivered SEQ: the window moves, cached responses that left it are freed (R325, R326). -/
def State.winNote (s : State) (src cls : Nat) (bcast : Bool) (seq : Nat) : State :=
  match s.fab.wins.find? (winIs src cls bcast) with
  | none =>
    let hold := s.get F.FAB_RETRY.WIN_HOLD * 250000000
    let rest := if s.fab.wins.length < 1024 then s.fab.wins
      else match s.fab.wins.find? (fun w => hold ≤ s.clock.up - w.up) with
        | some old => s.fab.wins.filter (fun w => w != old)
        | none => s.fab.wins
    { s with fab := { s.fab with wins := rest ++ [⟨src, cls, bcast, seq, [], s.clock.up⟩] } }
  | some w =>
    let d := seqBehind w.newest seq
    let n := if 32768 ≤ d then seq else w.newest
    let seen := ((if 32768 ≤ d then w.newest :: w.seen else seq :: w.seen).filter (fun q => seqBehind n q ≤ 64))
    let w' := { w with newest := n, seen := seen, up := s.clock.up }
    let cache := if bcast then s.fab.cache
      else s.fab.cache.filter (fun r => !(r.src == src && r.cls == cls && 64 < seqBehind n r.seq && seqBehind n r.seq < 32768))
    { s with fab := { s.fab with wins := s.fab.wins.map (fun x => if winIs src cls bcast x then w' else x), cache := cache } }

/-- A frame has been seen on a window. -/
def State.winTouch (s : State) (src cls : Nat) (bcast : Bool) : State :=
  { s with fab := { s.fab with wins := s.fab.wins.map (fun x => if winIs src cls bcast x then { x with up := s.clock.up } else x) } }

/-- RESPONSE_CACHE_EXPIRY (R326): slots WIN_HOLD after their response are freed. -/
def responseExpiry (s : State) : State :=
  let hold := s.get F.FAB_RETRY.WIN_HOLD * 250000000
  { s with fab := { s.fab with cache := s.fab.cache.filter (fun r => s.clock.up - r.up < hold) } }

def execResponseCacheExpiry (dt : Nat) (s : State) : Host.Outcome State Fault Refusal := .next (responseExpiry (s.elapse dt)).settle

/-! ### Answers (R323, R326, R328) -/

/-- An ACK (kind 3) or RESPONSE (kind 5), in the class of the frame it answers. -/
def State.fabAnswer (s : State) (f : FabFrame) (status : Nat) (data : List Byte) : State :=
  s.fabOriginate (if f.kind = 4 then 5 else 3) f.src f.cls (if f.kind = 4 then f.svc else 0) false
    (leBytes f.seq 2 ++ leBytes f.cls 1 ++ leBytes status 1 ++ (if f.kind = 4 then data else []))

/-- An answer where one is due: a REQUEST, or a unicast frame with ACKREQ. -/
def State.answerDue (s : State) (f : FabFrame) (status : Nat) (data : List Byte) : State :=
  if f.dst ≠ 0xFFF ∧ (f.kind = 4 ∨ f.ackreq) then s.fabAnswer f status data else s

/-- The response is cached; the oldest gives way (R326). -/
def State.cacheResp (s : State) (r : FabResp) : State :=
  let l := if s.fab.cache.length < 256 then s.fab.cache else s.fab.cache.drop 1
  { s with fab := { s.fab with cache := l ++ [r] } }

/-- A trajectory fragment's payload (Table 10.6), and whether it is well formed. -/
def trajOf (b : List Byte) : TrajFragment × Bool :=
  let n := fun (o k : Nat) => leNat ((b.drop o).take k)
  let steps := n 17 1
  (⟨n 0 4, n 4 4, n 8 4, n 12 4, n 16 1, steps, n 18 2, n 20 2,
    (List.range steps).map (fun i => BitVec.ofNat 32 (n (24 + 4 * i) 4))⟩, b.length == 24 + 4 * steps && n 22 2 == 0 && n 18 2 < 512)

/-- A coupling fragment's payload (Table 10.5); none where its length does not fit. -/
def couplingOf (b : List Byte) : Option CouplingFragment :=
  let n := fun (o k : Nat) => leNat ((b.drop o).take k)
  let steps := n 12 1
  let fl := n 9 1
  if b.length = 20 + 4 * steps then
    some ⟨n 0 4, n 4 4, n 8 1, fl % 2 == 1, fl / 2 % 2 == 1, fl / 4 % 2 == 1, n 10 1, n 11 1, steps, n 13 1, BitVec.ofNat 32 (n 16 4),
      (List.range steps).map (fun i => BitVec.ofNat 32 (n (20 + 4 * i) 4))⟩
  else none

/-- The service of a frame runs (R328): none before full service; the fragments' services belong to the hardware. -/
def State.svcRuns (s : State) (f : FabFrame) (rx : FabRx) : Bool :=
  s.bit F.FAB_STAT.SVC && (if f.svc = 1 then s.bit F.DOP_STAT.RUN else if f.svc = 2 then s.bit F.TRJ_STAT.RUN else 16 ≤ f.svc && rx.runs)

/-- A DATA frame is handed to its service. -/
def State.fabDeliver (s : State) (f : FabFrame) : State :=
  match f.svc with
  | 1 => (match couplingOf f.payload with
    | some c => couplingFragment f.src c s
    | none => s)
  | 2 => let t := trajOf f.payload; trajFragment f.src t.1 t.2 s
  | _ => s.emit (.fabUp f)

/-- DATA or REQUEST addressed to the module or broadcast (R325, R326, R328). -/
def State.fabMessage (s : State) (rx : FabRx) (f : FabFrame) : State :=
  let bc := f.dst == 0xFFF
  if !s.svcRuns f rx then s.answerDue f 1 []
  else match s.winLook f.src f.cls bc f.seq with
  | .full => (s.inc F.FAB_WINFULL_CNT.COUNT).flag F.FAB_ERR.WIN_FULL
  | .stale => ((s.winTouch f.src f.cls bc).inc F.FAB_STALE_CNT.COUNT).answerDue f 2 []
  | .dup =>
    let s1 := (s.winTouch f.src f.cls bc).inc F.FAB_DUP_CNT.COUNT
    if f.kind = 4 then
      match s.fab.cache.find? (fun r => r.src == f.src && r.cls == f.cls && r.seq == f.seq) with
      | some r => s1.answerDue f r.status r.data
      | none => s1.answerDue f 2 []
    else s1.answerDue f 0 []
  | .fresh =>
    if rx.busy && 16 ≤ f.svc then s.answerDue f 3 []
    else
      let s1 := s.winNote f.src f.cls bc f.seq
      if f.kind = 4 then
        let s2 := s1.cacheResp ⟨f.src, f.cls, f.seq, 0, rx.data.take 1020, s.clock.up⟩
        (s2.emit (.fabUp f)).answerDue f 0 (rx.data.take 1020)
      else (s1.fabDeliver f).answerDue f 0 []

/-- ACK or RESPONSE (R323): it ends the originator's retries, unless it asks to retry; a RESPONSE is delivered. -/
def State.fabReply (s : State) (f : FabFrame) : State :=
  match s.winLook f.src f.cls (f.dst == 0xFFF) f.seq with
  | .full => (s.inc F.FAB_WINFULL_CNT.COUNT).flag F.FAB_ERR.WIN_FULL
  | .stale => (s.winTouch f.src f.cls (f.dst == 0xFFF)).inc F.FAB_STALE_CNT.COUNT
  | .dup => (s.winTouch f.src f.cls (f.dst == 0xFFF)).inc F.FAB_DUP_CNT.COUNT
  | .fresh =>
    let s1 := s.winNote f.src f.cls (f.dst == 0xFFF) f.seq
    let q := leNat (f.payload.take 2)
    let c := leNat ((f.payload.drop 2).take 1)
    let st := leNat ((f.payload.drop 3).take 1)
    let is := fun (x : FabPend) => x.frame.dst == f.src && x.frame.cls == c && x.frame.seq == q && (x.frame.kind == 4) == (f.kind == 5)
    if s.fab.pend.any is ∧ st ≠ 3 then
      ({ s1 with fab := { s1.fab with pend := s1.fab.pend.filter (fun x => !is x) } }).emit (.fabUp f)
    else s1

/-! ### LSAs (R315) -/

/-- An LSA's payload: DEVID, sequence, ADDR field, links. -/
def lsaOf (b : List Byte) : Nat × Nat × Nat × List (Nat × Nat × Nat) :=
  let n := fun (o k : Nat) => leNat ((b.drop o).take k)
  (n 0 8, n 8 4, n 12 2, (List.range (min (n 14 1) 4)).map (fun i => (n (15 + 5 * i) 2, n (17 + 5 * i) 1, n (18 + 5 * i) 2)))

/-- An LSA is taken and flooded if it is newer (R315, R317). -/
def State.lsaTake (s : State) (p : Nat) (f : FabFrame) : State :=
  let l := lsaOf f.payload
  let devid := l.1
  let known : Bool := match s.fab.lsdb.lookup devid with
    | some e => decide (l.2.1 ≤ e.seq)
    | none => false
  if known ∨ devid = s.devid then s
  else
    let s1 := s.setLsdb (put devid ⟨l.2.1, l.2.2.1, l.2.2.2, s.clock.up⟩ s.fab.lsdb)
    let hc := f.hc + 1
    let s2 := if hc = f.hlim then s1.inc F.FAB_TTL_CNT.COUNT
      else (s1.upPorts.filter (· != p)).foldl (fun s q => s.enqueue q { f with hc := hc }) s1
    s2.addressSeen devid l.2.2.1

/-! ### Forwarding (R309, R317, R319, R322) -/

/-- The egress port of a frame in transit. -/
def State.transitPort (s : State) (f : FabFrame) : Option Nat :=
  if f.pathB then
    let q := f.route / 2 ^ (2 * f.hc) % 4
    if s.fpState q = 3 then some q else none
  else s.routePort f.dst

/-- A unicast in transit, HC already counted: cut through or stored and forwarded. -/
def State.forward (s : State) (rx : FabRx) (f : FabFrame) : State :=
  if f.hc = f.hlim then s.inc F.FAB_TTL_CNT.COUNT
  else match s.transitPort f with
    | none => s.inc F.FAB_NOROUTE_CNT.COUNT
    | some q => if s.cutsThrough q f rx.idle then (s.refill q).transmit q f false else s.enqueue q f

/-- A routed frame (R317). -/
def State.routed (s : State) (rx : FabRx) (f0 : FabFrame) : State :=
  let f := { f0 with hc := f0.hc + 1 }
  let handle := fun (s : State) => if f.kind = 3 ∨ f.kind = 5 then s.fabReply f else s.fabMessage rx f
  if f.dst = 0xFFF then
    if f.src = s.fabAddr then s
    else match s.winLook f.src f.cls true f.seq with
    | .fresh =>
      let s1 := if f.hc = f.hlim then s.inc F.FAB_TTL_CNT.COUNT
        else (s.upPorts.filter (· != rx.port)).foldl (fun s q => s.enqueue q f) s
      if s1.fabLive && s1.svcRuns f rx then handle s1 else s1.winNote f.src f.cls true f.seq
    | _ => if s.fabLive then handle s else s
  else if f.dst = s.fabAddr then (if s.fabLive then handle s else s)
  else s.forward rx f

/-- A frame that fails its check after it was cut through is ended with an inverted FCS (R309). -/
def State.cutAbort (s : State) (rx : FabRx) (f0 : FabFrame) : State :=
  let f := { f0 with hc := f0.hc + 1 }
  if 2 ≤ f.kind ∧ f.kind ≤ 5 ∧ f.dst ≠ 0xFFF ∧ f.dst ≠ s.fabAddr ∧ f.hc ≠ f.hlim then
    match s.transitPort f with
    | some q => if s.cutsThrough q f rx.idle then (s.refill q).transmit q f true else s
    | none => s
  else s

/-- A frame is malformed (R307). -/
def fabMalformed (rx : FabRx) (f : FabFrame) : Bool :=
  rx.version != 1 || 7 ≤ f.kind || !rx.lenOk || 1024 < f.payload.length || !rx.rsvOk || (f.kind == 0 && f.payload.length != 44) ||
    (2 ≤ f.kind && f.kind ≤ 5 && (f.src == 0 || f.dst == 0))

/-- A frame arrives on a port (R306 to R308, R317). -/
def fabArrive (rx : FabRx) (f : FabFrame) (s : State) : State :=
  let p := rx.port
  let st := s.fpState p
  if 4 ≤ p ∨ st = 0 ∨ st = 1 then s
  else if !rx.ours then s.inc F.FAB_FOREIGN_CNT.COUNT
  else if fabMalformed rx f then s.inc F.FAB_FMT_CNT.COUNT
  else
    let x := s.fp p
    let good := if f.kind = 0 then s.fab.khb && rx.tagOk && decide (x.hbRx < f.lctr)
      else st == 3 && x.key && rx.tagOk && decide (x.rx < f.lctr)
    if !good then ((if st = 3 then s.cutAbort rx f else s)).inc (F.PORTn_AUTH_CNT.COUNT p)
    else
      let s1 := s.inc (F.PORTn_RX_CNT.COUNT p)
      if f.kind = 0 then
        let s2 := s1.hatband p f.payload
        s2.setFp p { s2.fp p with hbRx := f.lctr }
      else
        let s2 := s1.setFp p { x with rx := f.lctr }
        if f.kind = 1 then s2.lsaTake p f
        else if f.kind = 6 then s2
        else s2.routed rx f

/-- FAB_FRAME_RECEIVED (R308): a frame of any kind. -/
def execFabFrameReceived (dt : Nat) (rx : FabRx) (f : FabFrame) (s : State) : Host.Outcome State Fault Refusal :=
  .next (fabArrive rx f (s.elapse dt)).settle

/-- A frame of one kind arrives. -/
def fabKind (k : Nat) (rx : FabRx) (f : FabFrame) (s : State) : State := if f.kind = k then fabArrive rx f s else s

/-- HATBAND_RECEIVED (R311). -/
def execHatbandReceived (dt : Nat) (rx : FabRx) (f : FabFrame) (s : State) : Host.Outcome State Fault Refusal :=
  .next (fabKind 0 rx f (s.elapse dt)).settle

/-- LSA_RECEIVED (R315). -/
def execLsaReceived (dt : Nat) (rx : FabRx) (f : FabFrame) (s : State) : Host.Outcome State Fault Refusal :=
  .next (fabKind 1 rx f (s.elapse dt)).settle

/-- FAB_DATA_RECEIVED (R325). -/
def execFabDataReceived (dt : Nat) (rx : FabRx) (f : FabFrame) (s : State) : Host.Outcome State Fault Refusal :=
  .next (fabKind 2 rx f (s.elapse dt)).settle

/-- FAB_ACK_RECEIVED (R323). -/
def execFabAckReceived (dt : Nat) (rx : FabRx) (f : FabFrame) (s : State) : Host.Outcome State Fault Refusal :=
  .next (fabKind 3 rx f (s.elapse dt)).settle

/-- FAB_REQUEST_RECEIVED (R326). -/
def execFabRequestReceived (dt : Nat) (rx : FabRx) (f : FabFrame) (s : State) : Host.Outcome State Fault Refusal :=
  .next (fabKind 4 rx f (s.elapse dt)).settle

/-- FAB_RESPONSE_RECEIVED (R323). -/
def execFabResponseReceived (dt : Nat) (rx : FabRx) (f : FabFrame) (s : State) : Host.Outcome State Fault Refusal :=
  .next (fabKind 5 rx f (s.elapse dt)).settle

end Sys2Proof.Machine
end

