-- ==== Sys2Proof/Machine/Pwr.lean ====
section
/-! DEFINITION. Supply, start and reset (chapter 15): power-on, the sources of a full reset, hold-up, the power-fail warning and the
handing over to full service. -/
namespace Sys2Proof.Machine

/-- Something that acts only while AON is powered. -/
def State.whilePowered (s : State) (f : State → State) : State := if s.powered then f s else s

/-! ### Start and reset (R372, R373, R382 to R385) -/

/-- POWER_ON: AON comes up and start phase 1 begins. The first power-up of the battery domain is itself a power-on reset; a reset
that went before has left its cause. `low`: the cell measures below 2.50 V (R362). -/
def powerOn (low : Bool) (s : State) : State :=
  if s.powered then s
  else
    let s1 := if s.get ⟨R.SYS_RST_CAUSE, 0, 6⟩ = 0 then (s.set F.SYS_RST_CAUSE.POR 1).inc F.SYS_RST_CNT.COUNT else s
    let addr : List Word := [R.SYS_MGT_CFG, R.SYS_MGT_IP4, R.SYS_MGT_IP6_0, R.SYS_MGT_IP6_0 + 4, R.SYS_MGT_IP6_0 + 8, R.SYS_MGT_IP6_0 + 12].map s1.word
    let s2 : State := { s1 with powered := true, clock := { s1.clock with up := 0 }, rtc := { s1.rtc with onCell := false },
                                mgt := { s1.mgt with addr := addr } }
    let s3 := (((s2.setBit F.RTC_STAT.BATLOW low).timLoad).recUp).keyStart
    (s3.startSet 1 s3.capSet).nextDomain

def execPowerOn (dt : Nat) (batLow : Bool) (s : State) : Host.Outcome State Fault Refusal := .next (powerOn batLow (s.elapse dt)).settle

/-- NRESET_ASSERT: a full reset in its own clock, without a save (R384). -/
def nresetAssert (s : State) : State := s.resetBy 2

def execNresetAssert (dt : Nat) (s : State) : Host.Outcome State Fault Refusal := .next (nresetAssert (s.elapse dt)).settle

/-- A write of SYS_RESET (R382, R384): the key starts the saves that precede the reset, any other value sets BADKEY. -/
def sysReset (v : Word) (s : State) : State :=
  if v = 0x5AFE0001#32 then s.startSwReset else s.flag F.SYS_RST_CAUSE.BADKEY

/-- SYS_RESET_SAVE_DONE: the software reset takes place. -/
def sysResetSaveDone (s : State) : State := if s.pwr.swReset then s.resetBy 8 else s

def execSysResetSaveDone (dt : Nat) (s : State) : Host.Outcome State Fault Refusal := .next (sysResetSaveDone (s.elapse dt)).settle

/-- RTA_FAIL_RETRY: the repeat counts as a power-on reset (R372). -/
def rtaFailRetry (s : State) : State := if s.pwr.rtaFailed then s.resetBy 1 else s

def execRtaFailRetry (dt : Nat) (s : State) : Host.Outcome State Fault Refusal := .next (rtaFailRetry (s.elapse dt)).settle

/-! ### Hold-up (R367, R368) -/

/-- HU_MIN_REACHED. -/
def huMinReached (s : State) : State := s.whilePowered fun s => s.set F.PWR_STAT.HU_MIN 1

def execHuMinReached (dt : Nat) (s : State) : Host.Outcome State Fault Refusal := .next (huMinReached (s.elapse dt)).settle

/-- HU_CHARGE_COMPLETE: `mj` is the measured energy; below 400 mJ sets HU_LOW. -/
def huChargeComplete (mj : Nat) (s : State) : State :=
  s.whilePowered fun s =>
    let s1 := (s.set F.PWR_STAT.HU_RDY 1).set F.PWR_HU.MJ (min mj 65535)
    if mj < 400 then s1.flag F.PWR_ERR.HU_LOW else s1

def execHuChargeComplete (dt mj : Nat) (s : State) : Host.Outcome State Fault Refusal := .next (huChargeComplete mj (s.elapse dt)).settle

/-! ### The power-fail warning (R379 to R381, R66, R85, R249, R256, R473) -/

/-- PFW_BEGIN: what starts together in the clock in which the warning begins (R380). -/
def pfwBegin (s : State) : State :=
  if !s.powered || s.bit F.PWR_STAT.PFW then s
  else
    let s1 := (((s.set F.PWR_STAT.PFW 1).flag F.PWR_ERR.PFW).inc F.PWR_PFW_CNT.COUNT).emit (.pin 2 true)
    let s2 := ({ s1 with pwr := { s1.pwr with pfwUp := s1.clock.up } }).saveBoth.onDomain 2 (fun s => s.set F.MTR_STAT.PF_HOLD 1)
    ((s2.nsvShed).dopShed.onDomain 1 (fun s => s.set F.UPD_STAT.PFW_HOLD 1)).startFlush

def execPfwBegin (dt : Nat) (s : State) : Host.Outcome State Fault Refusal := .next (pfwBegin (s.elapse dt)).settle

/-- PFW_END: PWR_PFW_LAST takes the duration, the units resume, an interrupted start goes on. -/
def pfwEnd (s : State) : State :=
  if !s.powered || !s.bit F.PWR_STAT.PFW then s
  else
    let us := min ((s.clock.up - s.pwr.pfwUp) / 250) 0xFFFFFFFF
    let s1 := ((s.set F.PWR_STAT.PFW 0).set F.PWR_PFW_LAST.US us).emit (.pin 2 false)
    let s2 := (((s1.set F.MTR_STAT.PF_HOLD 0).set F.NSV_STAT.SHED 0).dopResume).set F.UPD_STAT.PFW_HOLD 0
    s2.nextDomain

def execPfwEnd (dt : Nat) (s : State) : Host.Outcome State Fault Refusal := .next (pfwEnd (s.elapse dt)).settle

/-- HOLDUP_END: the battery domain moves to the cell, and the module takes a power-on reset (R381). -/
def holdupEnd (s : State) : State := if s.powered then (cellSwitchover s).resetBy 33 else cellSwitchover s

def execHoldupEnd (dt : Nat) (s : State) : Host.Outcome State Fault Refusal := .next (holdupEnd (s.elapse dt)).settle

/-! ### Handing over to full service (R378) -/

/-- The clock of the handover: PGR runs, and the service state becomes FULL. -/
def State.handOver (s : State) : State :=
  ((((s.buildPages).set F.PGR_STAT.RUN 1).set F.PGR_STAT.SCHED 1).setSvc 4).set F.SYS_T_FULL.MS (s.clock.up / 250000)

/-- The units take over, in the order of R378. -/
def State.serveFull (s : State) : State :=
  let s1 := ((s.onDomain 4 State.csbFull).onDomain 5 State.sioFullStart).onDomain 10 State.mpgStart
  let s2 := ((s1.nsvFull).dopFull).trjStart
  (s2.onDomain 12 (fun s => s.set F.FAB_STAT.SVC 1)).showPool

/-- FULL_SERVICE_BEGIN: once the full configuration is committed, with DRAM and PGR running. -/
def fullServiceBegin (s : State) : State :=
  if s.svc = 3 && s.bit F.CFG_STAT.FULL_OK && s.domOn 6 && s.domOn 7 then s.handOver.serveFull else s

def execFullServiceBegin (dt : Nat) (s : State) : Host.Outcome State Fault Refusal := .next (fullServiceBegin (s.elapse dt)).settle

end Sys2Proof.Machine
end

