-- ==== Sys2Proof/Machine/Lio.lean ====
section
/-! DEFINITION. The local inputs (chapter 22): digital inputs with their counters and tasks, auxiliary analogue inputs. -/
namespace Sys2Proof.Machine

/-! ### Digital inputs (R525) -/

/-- DI_LEVEL_CHANGE: the filtered level of an input changes; a rising edge counts, and either edge releases its event tasks. -/
def diLevelChange (k : Nat) (high : Bool) (s : State) : State :=
  if !s.bit F.LIO_STAT.RUN || 32 ≤ k || s.di k == high then s
  else
    let s1 := s.setBit ⟨R.LIO_DI, k, 1⟩ high
    let s2 := if high then s1.addWrap (F.LIO_PCNTn.COUNT k) 1 else s1
    let src := if high then 2 else 3
    s2.releaseWhere (fun s t => s.eventTask t src && s.get (T.PGR_TASK.SRC_IDX t) == k)

def execDiLevelChange (dt line : Nat) (high : Bool) (s : State) : Host.Outcome State Fault Refusal :=
  .next (diLevelChange line high (s.elapse dt)).settle

/-! ### Auxiliary inputs (R521 to R523) -/

/-- The converter's limits by MODE, in 10⁻⁹ V, mA or Ω (R521). -/
def aiLimits (mode : Nat) : Int × Int :=
  match mode with
  | 1 => (-1000000000, 11000000000)
  | 2 => (-1000000000, 25000000000)
  | _ => (0, 2000000000000)

/-- The resistance of a Pt1000 at t µ°C, in 10⁻³⁶ Ω, by the IEC 60751 equations (R523). -/
def rtdOhm (t : Int) : Int :=
  10 ^ 39 + 39083 * t * 10 ^ 26 - 5775 * t ^ 2 * 10 ^ 17 - (if t < 0 then 4183 * (t - 10 ^ 8) * t ^ 3 else 0)

/-- The temperature in whole µ°C below a resistance of num / den nΩ: R523's equations inverted, bit by bit. -/
def rtdInv (num : Int) (den : Nat) : Int :=
  (List.range 30).foldl (fun t k => if rtdOhm (t + 2 ^ (29 - k)) * den ≤ num * 10 ^ 27 then t + 2 ^ (29 - k) else t) (-300000000)

/-- The mean of an input's conversions over 1 ms or 100 ms as a sum and a count, in 10⁻⁹ V, mA or Ω. -/
def State.aiMean (s : State) (a : Nat) : Int × Nat :=
  let l := (s.lio.means.take (if s.bit (F.AIn_CFG.FILT a) then 100 else 1)).map (fun m => m.getD a 0)
  (l.sum, max l.length 1)

/-- AIn_RAW from the mean: in MODE 3 a temperature within 0.001 K of the inverse, its last part free (log entry 2). -/
def State.aiRaw (s : State) (a : Nat) (m : Int × Nat) : Word :=
  if s.get (F.AIn_CFG.MODE a) = 3 then f32bits (FVal.ofQ (rtdInv m.1 m.2 + ((s.free % 1961 : Nat) : Int) - 980) 1000000)
  else f32bits (FVal.ofQ m.1 (m.2 * 10 ^ 9))

/-- An input's validity, made on AIn_RAW as shown, in MODE 3 on the resistance (R522). -/
def State.aiBad (s : State) (a : Nat) (m : Int × Nat) (raw : Word) : Bool :=
  let outside := fun (lo hi : FVal) => (f32val raw).lt lo || hi.lt (f32val raw)
  s.lio.calBad || match s.get (F.AIn_CFG.MODE a) with
    | 0 => true
    | 1 => outside (FVal.ofQ (-5) 10) (FVal.ofQ 105 10)
    | 2 => outside (FVal.ofQ 36 10) (FVal.ofQ 210 10)
    | _ => decide (m.1 < 800000000000 * m.2) || decide (1800000000000 * m.2 < m.1)

/-- An input's validity flag; LIO_ERR.AI_INV is set where it became invalid. -/
def State.aiFlag (s : State) (a : Nat) (bad : Bool) : State :=
  let s1 := s.setBit ⟨R.LIO_AI_INV, a, 1⟩ bad
  if bad && !s.aiInvalid a then s1.flag F.LIO_ERR.AI_INV else s1

/-- One input's update: AIn_RAW, AIn_VAL = GAIN · RAW + OFS in binary32, and its validity. An input that is off shows none. -/
def State.aiUpdate (s : State) (a : Nat) : State :=
  if s.get (F.AIn_CFG.MODE a) = 0 then s.aiFlag a true
  else
    let m := s.aiMean a
    let raw := s.aiRaw a m
    let val := f32add (f32mul (s.getw (F.AIn_GAIN.GAIN a)) raw) (s.getw (F.AIn_OFS.OFS a))
    (((s.nextFree).setw (F.AIn_RAW.RAW a) raw).setw (F.AIn_VAL.VAL a) val).aiFlag a (s.aiBad a m raw)

/-- AI_CONVERSION: `conv` gives each input's 1 ms mean in 10⁻⁹ V, mA or Ω by its MODE (log entry 6); a value beyond the converter's
limits reads as the limit. -/
def aiConversion (conv : List Int) (s : State) : State :=
  if !s.bit F.LIO_STAT.RUN then s
  else
    let clip : List Int := (List.range 16).map (fun a =>
      let l := aiLimits (s.get (F.AIn_CFG.MODE a))
      max l.1 (min l.2 (conv.getD a 0)))
    let s1 := { s with lio := { s.lio with means := (clip :: s.lio.means).take 100 } }
    (List.range 16).foldl State.aiUpdate s1

def execAiConversion (dt : Nat) (conv : List Int) (s : State) : Host.Outcome State Fault Refusal :=
  .next (aiConversion conv (s.elapse dt)).settle

/-- AI_SELF_CHECK: a failure makes every input invalid until a check passes; the flags clear at the next update. -/
def aiSelfCheck (ok : Bool) (s : State) : State :=
  if !s.bit F.LIO_STAT.RUN then s
  else
    let s1 := { s with lio := { s.lio with calBad := !ok } }
    if ok then s1 else (List.range 16).foldl (fun s a => s.aiFlag a true) (s1.flag F.LIO_ERR.CAL_FAIL)

def execAiSelfCheck (dt : Nat) (ok : Bool) (s : State) : Host.Outcome State Fault Refusal := .next (aiSelfCheck ok (s.elapse dt)).settle

end Sys2Proof.Machine
end

