-- ==== Sys2Proof/Machine/Bus.lean ====
section
/-! DEFINITION. Reads of the register space (R5, R9, R10, R12, R504 to R508): which word an address names for a requester, what is
off or absent, read shadows, freezes, data windows. -/
namespace Sys2Proof.Machine

/-! ### Which word an address names for a requester (R506) -/

/-- Registers that each requester holds its own copy of (R506). -/
def perRequester : List Nat := [R.CFG_TAB_ADDR 0, R.CYC_TAB_ADDR 0, R.PGR_TASK_SEL 0, R.PGR_TAB_ADDR 0, R.SIO_WIN_SEL 0, R.SIO_TAB_ADDR 0,
  R.LPE_WIN_SEL 0, R.LPE_TAB_ADDR 0, R.MPG_WIN_SEL 0, R.MPG_TAB_ADDR 0, R.NSV_TAB_ADDR 0, R.NSV_IMG_ADDR 0, R.DOP_TAB_ADDR 0,
  R.DOP_AREA_ADDR 0, R.DOP_NB_SEL 0, R.MTR_HWIN_SEL 0, R.HQC_WIN_SEL 0, R.HQC_TAB_ADDR 0, R.CSB_TAB_ADDR 0, R.FAB_RT_SEL 0,
  R.TRJ_TAB_ADDR 0, R.TRJ_CH_SEL 0, R.SAF_TAB_ADDR 0, R.KEY_TAB_ADDR 0, R.UPD_TAB_ADDR 0, R.REC_TAB_ADDR 0]

/-- The windows: first and last register, and the instance the requester's selection names. -/
def State.windows (s : State) (q : Nat) : List (Nat × Nat × Nat) := [
  (R.MTR_HWINn 0, R.MTR_HWINn 65, q),
  (R.T_STAT 0, R.T_LAST 0, s.get (F.PGR_TASK_SEL.TASK q)),
  (R.SW_STAT 0, R.SW_DUP 0, s.get (F.SIO_WIN_SEL.STN q)),
  (R.LPn_MODE 0, R.LPn_EVAL_NS 0, s.get (F.LPE_WIN_SEL.SLOT q)),
  (R.RA_CMD 0, R.RA_VEL 0, s.get (F.MPG_WIN_SEL.RA q)),
  (R.NB_STAT 0, R.NB_MISS_CNT 0, s.get (F.DOP_NB_SEL.NB q)),
  (R.W_STAT 0, R.W_LATD_HI 0 7, s.get (F.HQC_WIN_SEL.PT q)),
  (R.FAB_RT_ENTRY 0, R.FAB_RT_ROUTE_HI 0, s.get (F.FAB_RT_SEL.DST q)),
  (R.TRJ_CH_STAT 0, R.TRJ_CH_NEXT 0, s.get (F.TRJ_CH_SEL.CH q))]

/-- The word of the store that a register address names for requester q. -/
def State.busKey (s : State) (q a : Nat) : Nat :=
  if perRequester.contains a then a + 0x1000000 * q
  else match (s.windows q).find? (fun w => w.1 ≤ a && a ≤ w.2.1) with
    | some w => a + 0x1000000 * w.2.2
    | none => a

/-! ### What is off (R508) -/

/-- The domain a block's registers live in; none for AON and BAT (Table 15.2). -/
def blockDomain (b : Nat) : Option Nat :=
  match b with
  | 0x03 => some 8
  | 0x04 => some 7
  | 0x05 => some 5
  | 0x06 => some 9
  | 0x07 => some 10
  | 0x08 => some 13
  | 0x09 => some 14
  | 0x0A => some 2
  | 0x0B => some 5
  | 0x0C => some 4
  | 0x0D => some 12
  | 0x11 => some 1
  | 0x12 => some 1
  | _ => none

/-- NSV's and DOP's domains stay accessible while gated between runs, once the full set has started (R508). -/
def State.gatedOnly (s : State) (d : Nat) : Bool :=
  (d == 13 || d == 14) && s.pwr.phase == 3 && (s.svc == 3 || s.svc == 4) && !s.bit (domFailFld d)

/-- A present unit whose domain is off because of Cap mode, a failed start or a held load (R508). -/
def State.blockOff (s : State) (b : Nat) : Bool :=
  match blockDomain b with
  | some d => !s.domOn d && !s.gatedOnly d
  | none => false

/-! ### Shadows and freezes -/

/-- A requester's read shadow of a register. -/
def State.shadow (s : State) (q k : Nat) : Option Word := (s.shadows.find? (fun e => e.1 == q && e.2.1 == k)).map (fun e => e.2.2)
/-- Take or replace a shadow; drop one. -/
def State.dropShadow (s : State) (q k : Nat) : State := { s with shadows := s.shadows.filter (fun e => !(e.1 == q && e.2.1 == k)) }
def State.setShadow (s : State) (q k : Nat) (v : Word) : State :=
  let s1 := s.dropShadow q k
  { s1 with shadows := (q, k, v) :: s1.shadows }

/-- End a requester's freeze of one instance. -/
def State.unfreezeOne (s : State) (q blk inst : Nat) : State :=
  { s with freezes := s.freezes.filter (fun f => !(f.rq == q && f.blk == blk && f.inst == inst)) }

/-- The words that a freeze of an instance holds: a point's latch set (R63), an HQC point's latch set (R84), a slot's window values (R201). -/
def frozenKeys (blk inst : Nat) : List Nat :=
  match blk with
  | 0x0A => ([R.PTn_LATCH_SEQ inst, R.PTn_LATCH_STAT inst, R.PTn_LATCH_SEC inst, R.PTn_LATCH_NS inst] ++
      (List.range 8).flatMap (fun e => [R.PTn_LATD_LO inst e, R.PTn_LATD_HI inst e]))
  | 0x0B => ([R.W_LATCH_SEQ inst, R.W_LATCH_STAT inst] ++ (List.range 8).flatMap (fun e => [R.W_LATD_LO inst e, R.W_LATD_HI inst e]))
  | _ => (List.range 13).map (fun j => R.LPn_MODE inst + 4 * j)

/-- A read that freezes an instance for the requester, or ends the freeze it holds; either answers the frozen word. -/
def State.toggleFreeze (s : State) (q blk inst k : Nat) : State × Word :=
  match s.frozen? q blk inst with
  | some _ => (s.unfreezeOne q blk inst, s.readWord q k)
  | none =>
    ({ s with freezes := ⟨q, blk, inst, (frozenKeys blk inst).map (fun k => (k, s.word k))⟩ :: s.freezes }, s.word k)

/-- 1 ms after a freezing read the freeze ends. -/
def freezeExpiry (q : Rq) (blk inst : Nat) (s : State) : State := s.unfreezeOne q.num blk inst

/-! ### Reads -/

/-- What a read clears: each RC field takes its reset value (R12). -/
def State.readClear (s : State) (k : Nat) : State :=
  ((keyFields k).filter (fun f => f.acc == .rc)).foldl (fun s f => s.set ⟨k, f.lsb, f.width⟩ f.reset) s

/-- A word without its WO fields, which read 0 (R10). -/
def hideWo (k : Nat) (v : Word) : Word :=
  (keyFields k).foldl (fun v f => if f.acc == .wo then insertField v f.lsb f.width 0 else v) v

/-- A read through TAB_DATA: the word at the requester's address, which advances (R506). -/
def State.tabRead (s : State) (af : Fld) (blk : Nat) : State × Word :=
  let a := s.get af / 4 * 4
  (s.advance af, if s.absentTab blk a then 0 else s.word (tabKey blk a))

/-- A read of a word with no rule of its own. -/
def State.plainRead (s : State) (q a : Nat) : State × Word :=
  let k := s.busKey q a
  (s.readClear k, hideWo k (s.readWord q k))

/-- Reading a LO word takes the HI word, 4 above it, into the shadow (R60, R79). -/
def State.readLo (s : State) (q a : Nat) : State × Word :=
  let k := s.busKey q a
  (s.setShadow q (k + 4) (s.readWord q (k + 4)), s.readWord q k)

/-- The next read of that HI word answers the shadow (R60, R210). -/
def State.readHi (s : State) (q a : Nat) : State × Word :=
  let k := s.busKey q a
  match s.shadow q k with
  | some v => (s.dropShadow q k, v)
  | none => (s, s.readWord q k)

/-- A read that answers the shadow, 0 before the first (R334, R357, R509). -/
def State.readShadow (s : State) (q a : Nat) : State × Word := (s, (s.shadow q a).getD 0)

/-- SYS_CAPS0 and SYS_PART are fixed by the variant (R2 to R4). -/
def caps0 (v : Variant) : Word :=
  match v with
  | .zkv4280 => 0x7F#32
  | .zkv4260 => 0x7E#32
  | .zkv4240 => 0#32
def partWord (v : Variant) : Word :=
  match v with
  | .zkv4280 => 0x4280#32
  | .zkv4260 => 0x4260#32
  | .zkv4240 => 0x4240#32

/-- SYS (R509). -/
def State.sysRead (s : State) (rq : Rq) (a : Nat) : State × Word :=
  let q := rq.num
  if a = R.SYS_PART then (s, partWord s.variant)
  else if a = R.SYS_CAPS0 then (s, caps0 s.variant)
  else if a = R.SYS_UP_LO then
    (s.setShadow q R.SYS_UP_HI (BitVec.ofNat 32 (s.upUs / 2 ^ 32)), BitVec.ofNat 32 s.upUs)
  else if a = R.SYS_UP_HI then s.readShadow q a
  else if a = R.SYS_REQ then (s, BitVec.ofNat 32 (q + if s.isActive rq then 8 else 0))
  else s.plainRead q a

/-- PWR: the input voltage is what is measured, a free value (log entry 6); the minimum follows it. -/
def State.pwrRead (s : State) (q a : Nat) : State × Word :=
  let vin := s.free % 65536
  let low := min vin (s.get F.PWR_VIN_MIN.VIN)
  if a = R.PWR_VIN then (((s.nextFree).set F.PWR_VIN_MIN.VIN low), BitVec.ofNat 32 vin)
  else if a = R.PWR_VIN_MIN then (((s.nextFree).set F.PWR_VIN_MIN.VIN 0xFFFF), BitVec.ofNat 32 low)
  else s.plainRead q a

/-- MTR: live totals by their shadows, the latch set by its freeze (R60, R63). -/
def State.mtrRead (s : State) (q a : Nat) : State × Word :=
  let p := (a - R.PTn_CFG 0) / 0x100
  let o := (a - R.PTn_CFG 0) % 0x100
  if a < R.PTn_CFG 0 ∨ 8 ≤ p then s.plainRead q a
  else if o = 0x50 then s.toggleFreeze q 0x0A p a
  else if 0x80 ≤ o ∧ o < 0xC0 then (if o % 8 = 0 then s.readLo q a else s.readHi q a)
  else s.plainRead q a

/-- HQC: the window's totals by their shadows, the latch set by its freeze (R79, R84). -/
def State.hqcRead (s : State) (q a : Nat) : State × Word :=
  if a = R.W_LATCH_SEQ 0 then s.toggleFreeze q 0x0B (s.get (F.HQC_WIN_SEL.PT q)) (s.busKey q a)
  else if a = R.HQC_TAB_DATA then s.tabRead (F.HQC_TAB_ADDR.ADDR q) 11
  else if R.W_LIVE_LO 0 0 ≤ a ∧ a ≤ R.W_LATD_HI 0 7 then (if a % 8 = 0 then s.readLo q a else s.readHi q a)
  else s.plainRead q a

/-- MPG: positions (R210, R219). -/
def State.mpgRead (s : State) (q a : Nat) : State × Word :=
  let o := (a - R.AXn_CFG 0) % 0x80
  if a = R.MPG_TAB_DATA then s.tabRead (F.MPG_TAB_ADDR.ADDR q) 7
  else if a = R.RA_POS 0 then (s, BitVec.ofInt 32 (s.raPos (s.get (F.MPG_WIN_SEL.RA q))))
  else if R.AXn_CFG 0 ≤ a ∧ a < R.AXn_CFG 16 ∧ o = 0x14 then (s.setShadow q (a - 4) (s.word (a - 4)), s.word a)
  else if R.AXn_CFG 0 ≤ a ∧ a < R.AXn_CFG 16 ∧ o = 0x10 then s.readHi q a
  else s.plainRead q a

/-- NSV: the image by its freeze (R244). -/
def State.nsvRead (s : State) (rq : Rq) (a : Nat) : State × Word :=
  if a = R.NSV_SEQ then (nsvSeqRead rq s, s.getw F.NSV_SEQ.SEQ)
  else if a = R.NSV_TAB_DATA then s.tabRead (F.NSV_TAB_ADDR.ADDR rq.num) 8
  else if a = R.NSV_IMG_DATA then (s.advance (F.NSV_IMG_ADDR.ADDR rq.num), s.imgData rq)
  else s.plainRead rq.num a

/-- DOP. -/
def State.dopRead (s : State) (q a : Nat) : State × Word :=
  if a = R.DOP_FC_DATA then (s.addWrap F.DOP_FC_ADDR.ADDR 4, s.getw (dopFld (0x1400000 + s.get F.DOP_FC_ADDR.ADDR / 4 * 4)))
  else if a = R.DOP_TAB_DATA then s.tabRead (F.DOP_TAB_ADDR.ADDR q) 9
  else if a = R.DOP_AREA_DATA then
    (s.addWrap (F.DOP_AREA_ADDR.ADDR q) 4, s.getw (dopFld (s.get (F.DOP_AREA_ADDR.ADDR q) / 4 * 4)))
  else s.plainRead q a

/-- TIM: the clock (R334), the trajectory registers. -/
def State.timRead (s : State) (q a : Nat) : State × Word :=
  if a = R.TIM_NS then
    ((s.setShadow q R.TIM_SEC_LO (BitVec.ofNat 32 s.clock.sec)).setShadow q R.TIM_SEC_HI (BitVec.ofNat 32 (s.clock.sec / 2 ^ 32)),
      BitVec.ofNat 32 s.clock.ns)
  else if a = R.TIM_SEC_LO ∨ a = R.TIM_SEC_HI then s.readShadow q a
  else if a = R.TRJ_TAB_DATA then s.tabRead (F.TRJ_TAB_ADDR.ADDR q) 14
  else s.plainRead q a

/-- RTC: the count (R357). -/
def State.rtcRead (s : State) (q a : Nat) : State × Word :=
  if a = R.RTC_FRAC then
    ((s.setShadow q R.RTC_SEC_LO (BitVec.ofNat 32 s.rtc.sec)).setShadow q R.RTC_SEC_HI (BitVec.ofNat 32 (s.rtc.sec / 2 ^ 32)),
      BitVec.ofNat 32 s.rtcFrac)
  else if a = R.RTC_SEC_LO ∨ a = R.RTC_SEC_HI then s.readShadow q a
  else s.plainRead q a

/-- KEY: the message buffer and the tables. -/
def State.keyRead (s : State) (q a : Nat) : State × Word :=
  if a = R.KEY_MSG_DATA then
    (s.addWrap F.KEY_MSG_ADDR.ADDR 4, s.word (tabKey 17 (0x100000 + s.get F.KEY_MSG_ADDR.ADDR / 4 * 4)))
  else if a = R.KEY_TAB_DATA then s.tabRead (F.KEY_TAB_ADDR.ADDR q) 17
  else s.plainRead q a

/-- UPD: the chunk buffer, the bitmap and header, what is left of probation. -/
def State.updRead (s : State) (q a : Nat) : State × Word :=
  if a = R.UPD_BUF_DATA then
    (s.addWrap F.UPD_BUF_ADDR.ADDR 4, s.word (tabKey 18 (0x100000 + s.get F.UPD_BUF_ADDR.ADDR / 4 * 4)))
  else if a = R.UPD_TAB_DATA then s.tabRead (F.UPD_TAB_ADDR.ADDR q) 18
  else if a = R.UPD_PROB_LEFT then (s, BitVec.ofNat 32 s.probLeft)
  else s.plainRead q a

/-- REC: the cursor window (R500) and the channel table. -/
def State.recRead (s : State) (q a : Nat) : State × Word :=
  if a = R.REC_CUR_DATA then (s.addWrap F.REC_CUR_ADDR.ADDR 4, s.cursorWord (s.get F.REC_CUR_ADDR.ADDR / 4 * 4))
  else if a = R.REC_TAB_DATA then s.tabRead (F.REC_TAB_ADDR.ADDR q) 19
  else s.plainRead q a

/-- The other units: their data windows, and LPn_STAT's freeze (R201). -/
def State.unitRead (s : State) (q a : Nat) : State × Word :=
  if a = R.LPn_STAT 0 then s.toggleFreeze q 6 (s.get (F.LPE_WIN_SEL.SLOT q)) (s.busKey q a)
  else if a = R.CFG_TAB_DATA then s.tabRead (F.CFG_TAB_ADDR.ADDR q) 2
  else if a = R.CYC_TAB_DATA then s.tabRead (F.CYC_TAB_ADDR.ADDR q) 3
  else if a = R.PGR_TAB_DATA then s.tabRead (F.PGR_TAB_ADDR.ADDR q) 4
  else if a = R.SIO_TAB_DATA then s.tabRead (F.SIO_TAB_ADDR.ADDR q) 5
  else if a = R.LPE_TAB_DATA then s.tabRead (F.LPE_TAB_ADDR.ADDR q) 6
  else if a = R.CSB_TAB_DATA then s.tabRead (F.CSB_TAB_ADDR.ADDR q) 12
  else if a = R.SAF_TAB_DATA then s.tabRead (F.SAF_TAB_ADDR.ADDR q) 16
  else s.plainRead q a

/-- A performed read of a register, unit by unit. -/
def State.regRead (s : State) (rq : Rq) (a : Nat) : State × Word :=
  let q := rq.num
  match a / 65536 with
  | 0x00 => s.sysRead rq a
  | 0x01 => s.pwrRead q a
  | 0x07 => s.mpgRead q a
  | 0x08 => s.nsvRead rq a
  | 0x09 => s.dopRead q a
  | 0x0A => s.mtrRead q a
  | 0x0B => s.hqcRead q a
  | 0x0E => s.timRead q a
  | 0x0F => s.rtcRead q a
  | 0x11 => s.keyRead q a
  | 0x12 => s.updRead q a
  | 0x13 => s.recRead q a
  | _ => s.unitRead q a

/-- A complex may read the space while ACTIVE or STANDBY; a KMP session through firmware on the active complex, from Cap-mode
service or bare Cap mode onward and not in TAMPERED (R505, R511). -/
def State.mayAccess (s : State) (rq : Rq) : Bool :=
  s.powered && match rq with
    | .cxA => s.get F.SAF_CX_STAT.CXA == 1 || s.get F.SAF_CX_STAT.CXA == 2
    | .cxB => s.get F.SAF_CX_STAT.CXB == 1 || s.get F.SAF_CX_STAT.CXB == 2
    | .kmp _ => s.activeCx.isSome && s.svc != 0 && !s.tampered

/-- A requester's read of `size` bytes at an address: R9, R504, R5, R508, then the register. -/
def State.busRead (s : State) (rq : Rq) (size a : Nat) : State × Word :=
  if !s.mayAccess rq then (s, 0)
  else if size ≠ 4 ∨ a % 4 ≠ 0 then (s.flag F.SYS_ERR.ALIGN, 0)
  else if 0x140000 ≤ a ∨ s.absentReg a ∨ s.blockOff (a / 65536) then (s, 0)
  else s.regRead rq a

/-- A read, its answer driven outwards. -/
def State.readOut (s : State) (rq : Rq) (size a : Nat) : State :=
  let r := s.busRead rq size a
  r.1.emit (.readData rq.num a r.2)

end Sys2Proof.Machine
end

