-- ==== Sys2Proof/Machine/BusWrite.lean ====
section
/-! DEFINITION. Writes of the register space (R5, R9 to R11, R403, R504 to R508, R536): what refuses a write as a whole, then each
unit's registers with a rule of their own, then the access code of each field. -/
namespace Sys2Proof.Machine

/-! ### Addresses and selections -/

/-- A TAB_ADDR or window address is word-aligned and in one of the ranges given as first and last word. -/
def addrIn (rs : List (Nat × Nat)) (a : Nat) : Bool := a % 4 == 0 && rs.any (fun r => decide (r.1 ≤ a) && decide (a ≤ r.2))

/-- A write of an address register with field f: out of range it is ignored and sets the unit's flag (R5). -/
def State.writeAddr (s : State) (k : Nat) (f err : Fld) (rs : List (Nat × Nat)) (v : Word) : State :=
  if addrIn rs (v.toNat % 2 ^ f.width) then s.writeWord k v else s.flag err

/-- A write of a selection: `ok` says which instances there are. -/
def State.writeSel (s : State) (k : Nat) (f err : Fld) (ok : Nat → Bool) (v : Word) : State :=
  if ok (v.toNat % 2 ^ f.width) then s.writeWord k v else s.flag err

/-! ### Unit by unit -/

/-- SYS. -/
def State.sysWrite (s : State) (k a : Nat) (v : Word) : State :=
  if a = R.SYS_RESET then sysReset v s else s.writeWord k v

/-- CFG: a larger CFG_TAB_ADDR counts as absent space (Table 16.8). -/
def State.cfgWrite (s : State) (q k a : Nat) (v : Word) : State :=
  if a = R.CFG_CTRL then (if v.getLsbD 0 then clrRej s else s)
  else if a = R.CFG_TAB_ADDR 0 then s.writeAddr k (F.CFG_TAB_ADDR.ADDR q) F.SYS_ERR.ABSENT_WR [(0, 0x13FC)] v
  else s.writeWord k v

/-- CYC (R138, R157). -/
def State.cycWrite (s : State) (rq : Rq) (k a : Nat) (v : Word) : State :=
  if a = R.CYC_CTRL then
    let s1 := if v.getLsbD 0 then exchArm s else s
    if v.getLsbD 1 then exchAbort s1 else s1
  else if a = R.CYC_TAB_ADDR 0 then s.writeAddr k (F.CYC_TAB_ADDR.ADDR rq.num) F.CYC_ERR.RANGE [(0, 0x401FFC)] v
  else if a = R.CYC_TAB_DATA then cycTabWrite rq v s
  else s.writeWord k v

/-- PGR (R130). -/
def State.pgrWrite (s : State) (q k a : Nat) (v : Word) : State :=
  if a = R.PGR_TRIG then s.trigTask (v.toNat % 64)
  else if a = R.PGR_TAB_ADDR 0 then s.writeAddr k (F.PGR_TAB_ADDR.ADDR q) F.PGR_ERR.RANGE [(0, 0x3FC), (0x1000, 0x17FC)] v
  else s.writeWord k v

/-- SIO: an address inside an absent station's entry is out of range too (Table 4.9). -/
def State.sioWrite (s : State) (q k a : Nat) (v : Word) : State :=
  if a = R.SIO_CLOSE then sioClose v s
  else if a = R.SIO_WIN_SEL 0 then s.writeSel k (F.SIO_WIN_SEL.STN q) F.SIO_ERR.RANGE s.stnPresent v
  else if a = R.SIO_TAB_ADDR 0 then
    s.writeSel k (F.SIO_TAB_ADDR.ADDR q) F.SIO_ERR.RANGE
      (fun x => addrIn [(0, 0x5FFFC)] x && (decide (0x40000 ≤ x) || s.stnPresent (x / 64))) v
  else s.writeWord k v

/-- A write of LPE_WIN_SEL selects the slot and ends the requester's freeze (R201). -/
def lpeWinSel (q : Rq) (v : Word) (s : State) : State :=
  if s.slotPresent (v.toNat % 4096) then (s.writeWord (R.LPE_WIN_SEL q.num) v).unfreeze q.num 6 else s.flag F.LPE_ERR.RANGE

/-- LPE. -/
def State.lpeWrite (s : State) (rq : Rq) (k a : Nat) (v : Word) : State :=
  if a = R.LPE_WIN_SEL 0 then lpeWinSel rq v s
  else if a = R.LPE_TAB_ADDR 0 then s.writeAddr k (F.LPE_TAB_ADDR.ADDR rq.num) F.LPE_ERR.RANGE [(0, 0x8FFFC)] v
  else if a = R.LPE_TAB_DATA then lpeTabWrite rq v s
  else if a = R.LPE_GRP_RESET then lpeGrpReset v s
  else if a = R.LPn_MODE 0 then lpnModeWrite rq v s
  else if a = R.LPn_SP 0 then lpnSpWrite rq v s
  else if a = R.LPn_MAN 0 then lpnManWrite rq v s
  else if a = R.LPn_FLT 0 then lpnFltWrite rq v s
  else s.writeWord k v

/-- MPG: a local axis' registers. -/
def State.axWrite (s : State) (k a : Nat) (v : Word) : State :=
  let n := (a - R.AXn_CFG 0) / 0x80
  let o := (a - R.AXn_CFG 0) % 0x80
  if o = 4 then axCmdWrite n (v.toNat % 8) s
  else if o = 0xC then axTargetWrite n v s
  else if 0x24 ≤ o ∧ o ≤ 0x34 then axLimitWrite n ((o - 0x24) / 4) v s
  else s.writeWord k v

/-- MPG. -/
def State.mpgWrite (s : State) (rq : Rq) (k a : Nat) (v : Word) : State :=
  if a = R.MPG_TAB_ADDR 0 then s.writeAddr k (F.MPG_TAB_ADDR.ADDR rq.num) F.MPG_ERR.RANGE [(0, 0x2FFC)] v
  else if a = R.MPG_TAB_DATA then mpgTabWrite rq v s
  else if a = R.RA_CMD 0 then raCmdWrite rq (v.toNat % 8) s
  else if a = R.RA_TARGET 0 then raTargetWrite rq v s
  else if R.AXn_CFG 0 ≤ a ∧ a < R.AXn_CFG 16 then s.axWrite k a v
  else s.writeWord k v

/-- NSV (R236, R239). -/
def State.nsvWrite (s : State) (rq : Rq) (k a : Nat) (v : Word) : State :=
  if a = R.NSV_CTRL then
    let s1 := if v.getLsbD 0 then nsvClrBad rq s else s
    if v.getLsbD 1 then nsvThReinit rq s1 else s1
  else if a = R.NSV_TAB_ADDR 0 then s.writeAddr k (F.NSV_TAB_ADDR.ADDR rq.num) F.NSV_ERR.RANGE [(0, 0x10C3FC)] v
  else if a = R.NSV_IMG_ADDR 0 then s.writeAddr k (F.NSV_IMG_ADDR.ADDR rq.num) F.NSV_ERR.RANGE [(0, 0x3A3FC)] v
  else s.writeWord k v

/-- DOP (R256, R262). -/
def State.dopWrite (s : State) (q k a : Nat) (v : Word) : State :=
  if a = R.DOP_CTRL then dopCtrl v s
  else if a = R.DOP_FC_ADDR then s.writeAddr k F.DOP_FC_ADDR.ADDR F.DOP_ERR.RANGE [(0, 0xC3FC)] v
  else if a = R.DOP_FC_DATA then fcData v s
  else if a = R.DOP_TAB_ADDR 0 then s.writeAddr k (F.DOP_TAB_ADDR.ADDR q) F.DOP_ERR.RANGE [(0, 0x803FC)] v
  else if a = R.DOP_AREA_ADDR 0 then s.writeAddr k (F.DOP_AREA_ADDR.ADDR q) F.DOP_ERR.RANGE [(0, 0x1FFFFFFC)] v
  else s.writeWord k v

/-- A write MTR refuses as a whole with MTR_ERR.RANGE (R34, R48, Table 2.8). -/
def State.mtrBadWrite (s : State) (a : Nat) (v : Word) : Bool :=
  let p := (a - R.PTn_CFG 0) / 0x100
  if R.PTn_CFG 0 ≤ a ∧ a < R.PTn_CFG 8 ∧ (a - R.PTn_CFG 0) % 0x100 = 0 then (s.set (F.PTn_CFG.EN p) (v.toNat % 2)).pointUnwired p
  else mtrBadValue a v

/-- MTR. -/
def State.mtrWrite (s : State) (rq : Rq) (k a : Nat) (v : Word) : State :=
  if a = R.MTR_CTRL then (if v.getLsbD 0 then mtrSave s else s)
  else if a = R.MTR_HWIN_SEL 0 then mtrHwinSel rq v s
  else if s.mtrBadWrite a v then s.flag F.MTR_ERR.RANGE
  else s.writeWord k v

/-- HQC. -/
def State.hqcWrite (s : State) (rq : Rq) (k a : Nat) (v : Word) : State :=
  if a = R.HQC_WIN_SEL 0 then hqcWinSel rq v s
  else if a = R.HQC_TAB_ADDR 0 then s.writeAddr k (F.HQC_TAB_ADDR.ADDR rq.num) F.HQC_ERR.RANGE [(0, 0x20AFC)] v
  else s.writeWord k v

/-- CSB and the local inputs (R296, R297). -/
def State.csbWrite (s : State) (q k a : Nat) (v : Word) : State :=
  if a = R.CSB_CTRL then (s.writeWord k v).csbEval
  else if a = R.CSB_CMD then csbCmdWrite v s
  else if a = R.CSB_TAB_ADDR 0 then s.writeAddr k (F.CSB_TAB_ADDR.ADDR q) F.CSB_ERR.RANGE [(0, 0x3FC)] v
  else s.writeWord k v

/-- FAB. -/
def State.fabWrite (s : State) (q k a : Nat) (v : Word) : State :=
  if a = R.FAB_RT_SEL 0 then s.writeSel k (F.FAB_RT_SEL.DST q) F.FAB_ERR.RANGE (fun d => decide (1 ≤ d) && decide (d ≤ 4094)) v
  else s.writeWord k v

/-- TIM (R332, R335, R347, R351) and trajectory application. -/
def State.timWrite (s : State) (q k a : Nat) (v : Word) : State :=
  if a = R.TIM_ADDEND then timAddend v s
  else if a = R.TIM_SET_NS then s.set F.TIM_SET_NS.NS v.toNat
  else if a = R.TIM_SET_SEC_HI then s.set F.TIM_SET_SEC_HI.SEC v.toNat
  else if a = R.TIM_SET_SEC_LO then timSet v s
  else if a = R.TIM_STEP then timStep v s
  else if a = R.TIM_SLEW then timSlew v s
  else if a = R.TIM_ACT_SUBMIT then actionSubmit v s
  else if a = R.TIM_ACT_WDRAW then actionWithdraw v s
  else if a = R.TRJ_TAB_ADDR 0 then s.writeAddr k (F.TRJ_TAB_ADDR.ADDR q) F.TRJ_ERR.RANGE [(0, 0x3FFC)] v
  else s.writeWord k v

/-- An alarm's register by its offset in the alarm: 0 CTRL, 8 to 0x14 the compare value and mask; STAT (4) is plain. -/
def State.almWrite (s : State) (k n o : Nat) (v : Word) : State :=
  match o with
  | 0x00 => alarmWrite n 0 v s
  | 0x08 => alarmWrite n 1 v s
  | 0x0C => alarmWrite n 2 v s
  | 0x10 => alarmWrite n 3 v s
  | 0x14 => alarmWrite n 4 v s
  | _ => s.writeWord k v

/-- RTC (R358, R360, R362, R363). -/
def State.rtcWrite (s : State) (k a : Nat) (v : Word) : State :=
  let w := R.ALMn_CTRL 1 - R.ALMn_CTRL 0
  if a = R.RTC_STAT then rtcOsfClear v s
  else if a = R.RTC_SET_FRAC then rtcSetPart F.RTC_SET_FRAC.FRAC v s
  else if a = R.RTC_SET_SEC_HI then rtcSetPart F.RTC_SET_SEC_HI.SEC v s
  else if a = R.RTC_SET_SEC_LO then rtcSet v s
  else if a = R.RTC_CAL then rtcCal v s
  else if R.ALMn_CTRL 0 ≤ a ∧ a < R.ALMn_CTRL 2 then s.almWrite k ((a - R.ALMn_CTRL 0) / w) ((a - R.ALMn_CTRL 0) % w) v
  else s.writeWord k v

/-- SAF (R417, R429). -/
def State.safWrite (s : State) (rq : Rq) (k a : Nat) (v : Word) : State :=
  if a = R.SAF_CTRL then safeStateRelease v s
  else if a = R.SAF_HBn_RESP 0 then hbResp rq 0 v s
  else if a = R.SAF_HBn_RESP 1 then hbResp rq 1 v s
  else if a = R.SAF_TAB_ADDR 0 then s.writeAddr k (F.SAF_TAB_ADDR.ADDR rq.num) F.SAF_ERR.RANGE [(0, 0x3FC)] v
  else s.writeWord k v

/-- Who started what made KEY or UPD busy (R513). -/
def State.keyOwner (s0 : State) (q : Nat) (s : State) : State :=
  if !s0.bit F.KEY_STAT.BUSY && s.bit F.KEY_STAT.BUSY then { s with mgt := { s.mgt with keyBy := q } } else s
def State.updOwner (s0 : State) (q : Nat) (s : State) : State :=
  if !s0.bit F.UPD_STAT.BUSY && s.bit F.UPD_STAT.BUSY then { s with mgt := { s.mgt with updBy := q } } else s

/-- A write of KEY_TAMP: LAT bits written 1 clear, but for a source still active (Table 18.12). -/
def tampClear (v : Word) (s : State) : State :=
  let lat := s.get F.KEY_TAMP.LAT
  let act := s.get F.KEY_TAMP.ACT
  let clear := v.toNat / 256 % 32
  let kept := (List.range 5).foldl (fun acc b =>
    if lat / 2 ^ b % 2 = 1 ∧ (clear / 2 ^ b % 2 = 0 ∨ act / 2 ^ b % 2 = 1) then acc + 2 ^ b else acc) 0
  s.set F.KEY_TAMP.LAT kept

/-- A write of KEY_MSG_DATA: ignored with KEY_ERR.BUSY while a message is processed (R454). -/
def keyMsgData (v : Word) (s : State) : State :=
  if s.bit F.KEY_STAT.BUSY then s.flag F.KEY_ERR.BUSY
  else (s.setWord (tabKey 17 (0x100000 + s.get F.KEY_MSG_ADDR.ADDR / 4 * 4)) v).addWrap F.KEY_MSG_ADDR.ADDR 4

/-- A write of KEY_CMD (R454, R456). -/
def keyCmd (v : Word) (s : State) : State :=
  let s1 := if v.getLsbD 0 then keyGo s else s
  if v.getLsbD 1 then genDtk s1 else s1

/-- KEY. -/
def State.keyWrite (s : State) (q k a : Nat) (v : Word) : State :=
  if a = R.KEY_CMD then s.keyOwner q (keyCmd v s)
  else if a = R.KEY_MSG_ADDR then s.writeAddr k F.KEY_MSG_ADDR.ADDR F.KEY_ERR.RANGE [(0, 0xFFC)] v
  else if a = R.KEY_MSG_DATA then keyMsgData v s
  else if a = R.KEY_TAMP then tampClear v s
  else if a = R.KEY_TAB_ADDR 0 then s.writeAddr k (F.KEY_TAB_ADDR.ADDR q) F.KEY_ERR.RANGE [(0, 0x607FC)] v
  else s.writeWord k v

/-- A write of UPD_BUF_DATA: ignored with UPD_ERR.RANGE while a command is in progress (R472). -/
def updBufData (v : Word) (s : State) : State :=
  if s.bit F.UPD_STAT.BUSY then s.flag F.UPD_ERR.RANGE
  else (s.setWord (tabKey 18 (0x100000 + s.get F.UPD_BUF_ADDR.ADDR / 4 * 4)) v).addWrap F.UPD_BUF_ADDR.ADDR 4

/-- UPD. -/
def State.updWrite (s : State) (q k a : Nat) (v : Word) : State :=
  if a = R.UPD_CMD then s.updOwner q (updCommand v s)
  else if a = R.UPD_BUF_ADDR then s.writeAddr k F.UPD_BUF_ADDR.ADDR F.UPD_ERR.RANGE [(0, 0x3FC)] v
  else if a = R.UPD_BUF_DATA then updBufData v s
  else if a = R.UPD_TAB_ADDR 0 then s.writeAddr k (F.UPD_TAB_ADDR.ADDR q) F.UPD_ERR.RANGE [(0, 0x2220), (0x4000, 0x43FC)] v
  else s.writeWord k v

/-- REC (R497, R500, R501). -/
def State.recWrite (s : State) (rq : Rq) (k a : Nat) (v : Word) : State :=
  if a = R.REC_CTRL then recFlushWrite v s
  else if a = R.REC_CLEAR then recClear rq v s
  else if a = R.REC_CUR_SEQ then recCursorWrite v s
  else if a = R.REC_CUR_ADDR then s.writeAddr k F.REC_CUR_ADDR.ADDR F.REC_ERR.RANGE [(0, 0xFFC)] v
  else if a = R.REC_TAB_ADDR 0 then s.writeAddr k (F.REC_TAB_ADDR.ADDR rq.num) F.REC_ERR.RANGE [(0, 0xFFFC)] v
  else s.writeWord k v

/-- A performed write of a register, unit by unit; k is the word the address names for the requester. -/
def State.regWrite (s : State) (rq : Rq) (a : Nat) (v : Word) : State :=
  let q := rq.num
  let k := s.busKey q a
  match a / 65536 with
  | 0x00 => s.sysWrite k a v
  | 0x02 => s.cfgWrite q k a v
  | 0x03 => s.cycWrite rq k a v
  | 0x04 => s.pgrWrite q k a v
  | 0x05 => s.sioWrite q k a v
  | 0x06 => s.lpeWrite rq k a v
  | 0x07 => s.mpgWrite rq k a v
  | 0x08 => s.nsvWrite rq k a v
  | 0x09 => s.dopWrite q k a v
  | 0x0A => s.mtrWrite rq k a v
  | 0x0B => s.hqcWrite rq k a v
  | 0x0C => s.csbWrite q k a v
  | 0x0D => s.fabWrite q k a v
  | 0x0E => s.timWrite q k a v
  | 0x0F => s.rtcWrite k a v
  | 0x10 => s.safWrite rq k a v
  | 0x11 => s.keyWrite q k a v
  | 0x12 => s.updWrite q k a v
  | 0x13 => s.recWrite rq k a v
  | _ => s.writeWord k v

/-! ### What refuses a write as a whole -/

/-- Until the full commit only the loader writes the registers and tables of full sections (R403): the words a section names that
hold what a record may write, and the data windows over their tables. -/
def State.fullLocked (s : State) (a : Nat) : Bool :=
  !s.bit F.CFG_STAT.FULL_OK &&
  ((mapRegs.contains a || [0x11, 0x12, 0x13, 0x20, 0x30, 0x40, 0x50, 0x51, 0x60].any (fun ty => regAllowed ty a)) &&
      (hasAcc a .rwl || (a / 65536 == 7 && hasAcc a .rw)) ||
    [R.CYC_TAB_DATA, R.LPE_TAB_DATA, R.MPG_TAB_DATA].contains a)

/-- A write that reaches the register space: the checks in their order, then the register. -/
def State.performWrite (s : State) (rq : Rq) (size a : Nat) (v : Word) : State :=
  if size ≠ 4 ∨ a % 4 ≠ 0 then s.flag F.SYS_ERR.ALIGN
  else if 0x140000 ≤ a then s.flag F.SYS_ERR.UNMAPPED
  else if s.absentReg a then s.flag F.SYS_ERR.ABSENT_WR
  else if s.blockOff (a / 65536) ∨ s.fullLocked a then s.flag F.SYS_ERR.LOCKED_WR
  else s.regWrite rq a v

/-- The requester is the standby complex. -/
def State.isStandby (s : State) (rq : Rq) : Bool :=
  match rq with
  | .cxA => s.get F.SAF_CX_STAT.CXA == 2
  | .cxB => s.get F.SAF_CX_STAT.CXB == 2
  | .kmp _ => false

/-- A write of the standby complex (R505, R479): its heartbeat answers are performed, and its REVERT of an update; in SHADOW and ARMED the
others are diverted and counted, otherwise ignored with STBY_WR, and in the other complex's SAF_HBn_RESP also with HB_WR (R417). -/
def State.standbyWrite (s : State) (rq : Rq) (size a : Nat) (v : Word) : State :=
  let h := s.get F.UPD_STAT.HSTATE
  if a = R.SAF_HBn_RESP (1 - rq.num) ∧ h ≠ 2 ∧ h ≠ 3 then (s.flag F.SYS_ERR.STBY_WR).flag F.SAF_ERR.HB_WR
  else if a = R.SAF_HBn_RESP rq.num ∨ (a = R.UPD_CMD ∧ v.toNat % 16 = 9 ∧ 1 ≤ h ∧ h ≤ 3) then s.performWrite rq size a v
  else if h = 2 ∨ h = 3 then s.inc F.UPD_SHD_WR.COUNT
  else s.flag F.SYS_ERR.STBY_WR

/-- A requester's write of `size` bytes at an address. -/
def State.busWrite (s : State) (rq : Rq) (size a : Nat) (v : Word) : State :=
  if !s.mayAccess rq then s
  else if s.isStandby rq then s.standbyWrite rq size a v
  else s.performWrite rq size a v

end Sys2Proof.Machine
end

