-- ==== Sys2Proof/Machine/RegCmds.lean ====
section
/-! DEFINITION. The commands that are a requester's access to one register: each is a write or a read through the checks of the register
space (R5, R9, R403, R504 to R508), or the end of a freeze. -/
namespace Sys2Proof.Machine

/-- A write of 1 to DOP_CTRL.FC_COMMIT that keeps HOLD. -/
def fcCommitWrite (rq : Rq) (s : State) : State := s.busWrite rq 4 R.DOP_CTRL (BitVec.ofNat 32 (1 + 2 * s.get F.DOP_CTRL.HOLD))

/-- REG_WRITE: a register word that has no row of its own (R536). -/
def execRegWrite (dt : Nat) (rq : Rq) (size : Nat) (addr : Nat) (v : Word) (s : State) : Host.Outcome State Fault Refusal :=
  .next ((s.elapse dt).busWrite rq size addr v).settle

/-- READ_CLEAR: a read of an RC register (R12). -/
def execReadClear (dt : Nat) (rq : Rq) (addr : Nat) (s : State) : Host.Outcome State Fault Refusal :=
  .next ((s.elapse dt).readOut rq 4 addr).settle

/-- TAB_DATA_READ: a read of a data window (R506). -/
def execTabDataRead (dt : Nat) (rq : Rq) (addr : Nat) (s : State) : Host.Outcome State Fault Refusal :=
  .next ((s.elapse dt).readOut rq 4 addr).settle

/-- TIM_NS_READ: TIM_NS (R334). -/
def execTimNsRead (dt : Nat) (rq : Rq) (s : State) : Host.Outcome State Fault Refusal :=
  .next ((s.elapse dt).readOut rq 4 R.TIM_NS).settle

/-- RTC_FRAC_READ: RTC_FRAC (R357). -/
def execRtcFracRead (dt : Nat) (rq : Rq) (s : State) : Host.Outcome State Fault Refusal :=
  .next ((s.elapse dt).readOut rq 4 R.RTC_FRAC).settle

/-- SYS_UP_LO_READ: SYS_UP_LO (R509). -/
def execSysUpLoRead (dt : Nat) (rq : Rq) (s : State) : Host.Outcome State Fault Refusal :=
  .next ((s.elapse dt).readOut rq 4 R.SYS_UP_LO).settle

/-- ENERGY_LO_READ: the LO word of live register e of a point (R60). -/
def execEnergyLoRead (dt : Nat) (rq : Rq) (pt : Nat) (e : Nat) (s : State) : Host.Outcome State Fault Refusal :=
  .next ((s.elapse dt).readOut rq 4 (R.PTn_LIVE_LO (pt % 8) (e % 8))).settle

/-- HQC_LO_READ: the LO word of register e of the window point (R79). -/
def execHqcLoRead (dt : Nat) (rq : Rq) (e : Nat) (s : State) : Host.Outcome State Fault Refusal :=
  .next ((s.elapse dt).readOut rq 4 (R.W_LIVE_LO 0 (e % 8))).settle

/-- AX_POS_FRAC_READ: AXn_POS_FRAC (R210). -/
def execAxPosFracRead (dt : Nat) (rq : Rq) (ax : Nat) (s : State) : Host.Outcome State Fault Refusal :=
  .next ((s.elapse dt).readOut rq 4 (R.AXn_POS_FRAC (ax % 16))).settle

/-- LATCH_SEQ_READ: PTn_LATCH_SEQ (R63). -/
def execLatchSeqRead (dt : Nat) (rq : Rq) (pt : Nat) (s : State) : Host.Outcome State Fault Refusal :=
  .next ((s.elapse dt).readOut rq 4 (R.PTn_LATCH_SEQ (pt % 8))).settle

/-- W_LATCH_SEQ_READ: W_LATCH_SEQ (R84). -/
def execWLatchSeqRead (dt : Nat) (rq : Rq) (s : State) : Host.Outcome State Fault Refusal :=
  .next ((s.elapse dt).readOut rq 4 (R.W_LATCH_SEQ 0)).settle

/-- LPN_STAT_READ: LPn_STAT (R201). -/
def execLpnStatRead (dt : Nat) (rq : Rq) (s : State) : Host.Outcome State Fault Refusal :=
  .next ((s.elapse dt).readOut rq 4 (R.LPn_STAT 0)).settle

/-- NSV_SEQ_READ: NSV_SEQ (R244). -/
def execNsvSeqRead (dt : Nat) (rq : Rq) (s : State) : Host.Outcome State Fault Refusal :=
  .next ((s.elapse dt).readOut rq 4 R.NSV_SEQ).settle

/-- LATCH_FREEZE_EXPIRY: the freeze of a point's latch set ends (R63). -/
def execLatchFreezeExpiry (dt : Nat) (rq : Rq) (pt : Nat) (s : State) : Host.Outcome State Fault Refusal :=
  .next (freezeExpiry rq 0x0A (pt % 8) (s.elapse dt)).settle

/-- W_FREEZE_EXPIRY: the freeze of an HQC point's latch set ends (R84). -/
def execWFreezeExpiry (dt : Nat) (rq : Rq) (pt : Nat) (s : State) : Host.Outcome State Fault Refusal :=
  .next (freezeExpiry rq 0x0B pt (s.elapse dt)).settle

/-- LP_FREEZE_EXPIRY: the freeze of a slot's window values ends (R201). -/
def execLpFreezeExpiry (dt : Nat) (rq : Rq) (slot : Nat) (s : State) : Host.Outcome State Fault Refusal :=
  .next (freezeExpiry rq 6 slot (s.elapse dt)).settle

/-- LPE_TAB_DATA_WRITE: LPE_TAB_DATA (R180). -/
def execLpeTabDataWrite (dt : Nat) (rq : Rq) (v : Word) (s : State) : Host.Outcome State Fault Refusal :=
  .next ((s.elapse dt).busWrite rq 4 R.LPE_TAB_DATA v).settle

/-- MPG_TAB_DATA_WRITE: MPG_TAB_DATA (R222). -/
def execMpgTabDataWrite (dt : Nat) (rq : Rq) (v : Word) (s : State) : Host.Outcome State Fault Refusal :=
  .next ((s.elapse dt).busWrite rq 4 R.MPG_TAB_DATA v).settle

/-- HQC_WIN_SEL_WRITE: HQC_WIN_SEL (R84). -/
def execHqcWinSelWrite (dt : Nat) (rq : Rq) (v : Word) (s : State) : Host.Outcome State Fault Refusal :=
  .next ((s.elapse dt).busWrite rq 4 (R.HQC_WIN_SEL 0) v).settle

/-- LPE_WIN_SEL_WRITE: LPE_WIN_SEL (R201). -/
def execLpeWinSelWrite (dt : Nat) (rq : Rq) (v : Word) (s : State) : Host.Outcome State Fault Refusal :=
  .next ((s.elapse dt).busWrite rq 4 (R.LPE_WIN_SEL 0) v).settle

/-- MTR_HWIN_SEL_WRITE: MTR_HWIN_SEL (R52). -/
def execMtrHwinSelWrite (dt : Nat) (rq : Rq) (v : Word) (s : State) : Host.Outcome State Fault Refusal :=
  .next ((s.elapse dt).busWrite rq 4 (R.MTR_HWIN_SEL 0) v).settle

/-- MTR_SAVE: MTR_CTRL.SAVE (R65). -/
def execMtrSave (dt : Nat) (rq : Rq) (s : State) : Host.Outcome State Fault Refusal :=
  .next ((s.elapse dt).busWrite rq 4 R.MTR_CTRL 1#32).settle

/-- SYS_RESET_WRITE: SYS_RESET (R384). -/
def execSysResetWrite (dt : Nat) (rq : Rq) (v : Word) (s : State) : Host.Outcome State Fault Refusal :=
  .next ((s.elapse dt).busWrite rq 4 R.SYS_RESET v).settle

/-- PGR_TRIG_WRITE: PGR_TRIG (R130). -/
def execPgrTrigWrite (dt : Nat) (rq : Rq) (v : Word) (s : State) : Host.Outcome State Fault Refusal :=
  .next ((s.elapse dt).busWrite rq 4 R.PGR_TRIG v).settle

/-- LPN_MODE_WRITE: LPn_MODE (R177). -/
def execLpnModeWrite (dt : Nat) (rq : Rq) (v : Word) (s : State) : Host.Outcome State Fault Refusal :=
  .next ((s.elapse dt).busWrite rq 4 (R.LPn_MODE 0) v).settle

/-- LPN_SP_WRITE: LPn_SP (R169). -/
def execLpnSpWrite (dt : Nat) (rq : Rq) (v : Word) (s : State) : Host.Outcome State Fault Refusal :=
  .next ((s.elapse dt).busWrite rq 4 (R.LPn_SP 0) v).settle

/-- LPN_MAN_WRITE: LPn_MAN (R169). -/
def execLpnManWrite (dt : Nat) (rq : Rq) (v : Word) (s : State) : Host.Outcome State Fault Refusal :=
  .next ((s.elapse dt).busWrite rq 4 (R.LPn_MAN 0) v).settle

/-- LPE_GRP_RESET_WRITE: LPE_GRP_RESET (R183). -/
def execLpeGrpResetWrite (dt : Nat) (rq : Rq) (v : Word) (s : State) : Host.Outcome State Fault Refusal :=
  .next ((s.elapse dt).busWrite rq 4 R.LPE_GRP_RESET v).settle

/-- LPN_FLT_CLEAR: LPn_FLT (R196). -/
def execLpnFltClear (dt : Nat) (rq : Rq) (v : Word) (s : State) : Host.Outcome State Fault Refusal :=
  .next ((s.elapse dt).busWrite rq 4 (R.LPn_FLT 0) v).settle

/-- AX_TARGET_WRITE: AXn_TARGET (R203). -/
def execAxTargetWrite (dt : Nat) (rq : Rq) (ax : Nat) (v : Word) (s : State) : Host.Outcome State Fault Refusal :=
  .next ((s.elapse dt).busWrite rq 4 (R.AXn_TARGET (ax % 16)) v).settle

/-- RA_TARGET_WRITE: RA_TARGET (R203). -/
def execRaTargetWrite (dt : Nat) (rq : Rq) (v : Word) (s : State) : Host.Outcome State Fault Refusal :=
  .next ((s.elapse dt).busWrite rq 4 (R.RA_TARGET 0) v).settle

/-- AX_LIMIT_WRITE: AXn_VMAX, ACC, DEC, JERK or DEC_EMG (R207). -/
def execAxLimitWrite (dt : Nat) (rq : Rq) (ax : Nat) (which : Nat) (v : Word) (s : State) : Host.Outcome State Fault Refusal :=
  .next ((s.elapse dt).busWrite rq 4 (R.AXn_VMAX (ax % 16) + 4 * (which % 5)) v).settle

/-- AX_ENABLE: AXn_CMD = ENABLE (Table 8.5). -/
def execAxEnable (dt : Nat) (rq : Rq) (ax : Nat) (s : State) : Host.Outcome State Fault Refusal :=
  .next ((s.elapse dt).busWrite rq 4 (R.AXn_CMD (ax % 16)) 1#32).settle

/-- AX_DISABLE: AXn_CMD = DISABLE (Table 8.5). -/
def execAxDisable (dt : Nat) (rq : Rq) (ax : Nat) (s : State) : Host.Outcome State Fault Refusal :=
  .next ((s.elapse dt).busWrite rq 4 (R.AXn_CMD (ax % 16)) 2#32).settle

/-- AX_STOP: AXn_CMD = STOP (Table 8.5). -/
def execAxStop (dt : Nat) (rq : Rq) (ax : Nat) (s : State) : Host.Outcome State Fault Refusal :=
  .next ((s.elapse dt).busWrite rq 4 (R.AXn_CMD (ax % 16)) 3#32).settle

/-- AX_ESTOP: AXn_CMD = ESTOP (Table 8.5). -/
def execAxEstop (dt : Nat) (rq : Rq) (ax : Nat) (s : State) : Host.Outcome State Fault Refusal :=
  .next ((s.elapse dt).busWrite rq 4 (R.AXn_CMD (ax % 16)) 4#32).settle

/-- AX_HOME: AXn_CMD = HOME (Table 8.5). -/
def execAxHome (dt : Nat) (rq : Rq) (ax : Nat) (s : State) : Host.Outcome State Fault Refusal :=
  .next ((s.elapse dt).busWrite rq 4 (R.AXn_CMD (ax % 16)) 5#32).settle

/-- AX_CLR_LIM: AXn_CMD = CLR_LIM (Table 8.5). -/
def execAxClrLim (dt : Nat) (rq : Rq) (ax : Nat) (s : State) : Host.Outcome State Fault Refusal :=
  .next ((s.elapse dt).busWrite rq 4 (R.AXn_CMD (ax % 16)) 6#32).settle

/-- AX_CLR_FLT: AXn_CMD = CLR_FLT (Table 8.5). -/
def execAxClrFlt (dt : Nat) (rq : Rq) (ax : Nat) (s : State) : Host.Outcome State Fault Refusal :=
  .next ((s.elapse dt).busWrite rq 4 (R.AXn_CMD (ax % 16)) 7#32).settle

/-- RA_STOP: RA_CMD = STOP (Table 8.4). -/
def execRaStop (dt : Nat) (rq : Rq) (s : State) : Host.Outcome State Fault Refusal :=
  .next ((s.elapse dt).busWrite rq 4 (R.RA_CMD 0) 3#32).settle

/-- RA_ESTOP: RA_CMD = ESTOP (Table 8.4). -/
def execRaEstop (dt : Nat) (rq : Rq) (s : State) : Host.Outcome State Fault Refusal :=
  .next ((s.elapse dt).busWrite rq 4 (R.RA_CMD 0) 4#32).settle

/-- RA_RESYNC: RA_CMD = RESYNC (Table 8.4). -/
def execRaResync (dt : Nat) (rq : Rq) (s : State) : Host.Outcome State Fault Refusal :=
  .next ((s.elapse dt).busWrite rq 4 (R.RA_CMD 0) 5#32).settle

/-- RA_CLR_FLT: RA_CMD = CLR_FLT (Table 8.4). -/
def execRaClrFlt (dt : Nat) (rq : Rq) (s : State) : Host.Outcome State Fault Refusal :=
  .next ((s.elapse dt).busWrite rq 4 (R.RA_CMD 0) 7#32).settle

/-- CSB_RETURN: CSB_CMD = RETURN (R297). -/
def execCsbReturn (dt : Nat) (rq : Rq) (s : State) : Host.Outcome State Fault Refusal :=
  .next ((s.elapse dt).busWrite rq 4 R.CSB_CMD 1#32).settle

/-- CSB_CLR_FLT: CSB_CMD = CLR_FLT (R297). -/
def execCsbClrFlt (dt : Nat) (rq : Rq) (s : State) : Host.Outcome State Fault Refusal :=
  .next ((s.elapse dt).busWrite rq 4 R.CSB_CMD 2#32).settle

/-- CSB_SHED: CSB_CMD = SHED (R297). -/
def execCsbShed (dt : Nat) (rq : Rq) (grp : Nat) (s : State) : Host.Outcome State Fault Refusal :=
  .next ((s.elapse dt).busWrite rq 4 R.CSB_CMD (BitVec.ofNat 32 (3 + 256 * (grp % 64)))).settle

/-- CSB_RELEASE: CSB_CMD = RELEASE (R297). -/
def execCsbRelease (dt : Nat) (rq : Rq) (grp : Nat) (s : State) : Host.Outcome State Fault Refusal :=
  .next ((s.elapse dt).busWrite rq 4 R.CSB_CMD (BitVec.ofNat 32 (4 + 256 * (grp % 64)))).settle

/-- SIO_CLOSE_WRITE: SIO_CLOSE (R113). -/
def execSioCloseWrite (dt : Nat) (rq : Rq) (v : Word) (s : State) : Host.Outcome State Fault Refusal :=
  .next ((s.elapse dt).busWrite rq 4 R.SIO_CLOSE v).settle

/-- HB_RESP_WRITE: SAF_HBn_RESP (R417). -/
def execHbRespWrite (dt : Nat) (rq : Rq) (cx : Nat) (v : Word) (s : State) : Host.Outcome State Fault Refusal :=
  .next ((s.elapse dt).busWrite rq 4 (R.SAF_HBn_RESP (cx % 2)) v).settle

/-- SAFE_STATE_RELEASE: SAF_CTRL (R429). -/
def execSafeStateRelease (dt : Nat) (rq : Rq) (v : Word) (s : State) : Host.Outcome State Fault Refusal :=
  .next ((s.elapse dt).busWrite rq 4 R.SAF_CTRL v).settle

/-- REC_FLUSH_WRITE: REC_CTRL.FLUSH (R497). -/
def execRecFlushWrite (dt : Nat) (rq : Rq) (v : Word) (s : State) : Host.Outcome State Fault Refusal :=
  .next ((s.elapse dt).busWrite rq 4 R.REC_CTRL v).settle

/-- REC_CURSOR_WRITE: REC_CUR_SEQ (R500). -/
def execRecCursorWrite (dt : Nat) (rq : Rq) (v : Word) (s : State) : Host.Outcome State Fault Refusal :=
  .next ((s.elapse dt).busWrite rq 4 R.REC_CUR_SEQ v).settle

/-- REC_CLEAR_WRITE: REC_CLEAR (R501). -/
def execRecClearWrite (dt : Nat) (rq : Rq) (v : Word) (s : State) : Host.Outcome State Fault Refusal :=
  .next ((s.elapse dt).busWrite rq 4 R.REC_CLEAR v).settle

/-- EXCH_ARM: CYC_CTRL.EXCH_ARM (R157). -/
def execExchArm (dt : Nat) (rq : Rq) (s : State) : Host.Outcome State Fault Refusal :=
  .next ((s.elapse dt).busWrite rq 4 R.CYC_CTRL 1#32).settle

/-- EXCH_ABORT: CYC_CTRL.EXCH_ABORT (R157). -/
def execExchAbort (dt : Nat) (rq : Rq) (s : State) : Host.Outcome State Fault Refusal :=
  .next ((s.elapse dt).busWrite rq 4 R.CYC_CTRL 2#32).settle

/-- CYC_HOST_WRITE: CYC_TAB_DATA (R138). -/
def execCycHostWrite (dt : Nat) (rq : Rq) (v : Word) (s : State) : Host.Outcome State Fault Refusal :=
  .next ((s.elapse dt).busWrite rq 4 R.CYC_TAB_DATA v).settle

/-- ACTION_SUBMIT: TIM_ACT_SUBMIT (R347). -/
def execActionSubmit (dt : Nat) (rq : Rq) (v : Word) (s : State) : Host.Outcome State Fault Refusal :=
  .next ((s.elapse dt).busWrite rq 4 R.TIM_ACT_SUBMIT v).settle

/-- ACTION_WITHDRAW: TIM_ACT_WDRAW (R351). -/
def execActionWithdraw (dt : Nat) (rq : Rq) (v : Word) (s : State) : Host.Outcome State Fault Refusal :=
  .next ((s.elapse dt).busWrite rq 4 R.TIM_ACT_WDRAW v).settle

/-- TIM_ADDEND_WRITE: TIM_ADDEND (R332). -/
def execTimAddendWrite (dt : Nat) (rq : Rq) (v : Word) (s : State) : Host.Outcome State Fault Refusal :=
  .next ((s.elapse dt).busWrite rq 4 R.TIM_ADDEND v).settle

/-- TIM_SLEW_WRITE: TIM_SLEW (R335). -/
def execTimSlewWrite (dt : Nat) (rq : Rq) (v : Word) (s : State) : Host.Outcome State Fault Refusal :=
  .next ((s.elapse dt).busWrite rq 4 R.TIM_SLEW v).settle

/-- TIM_STEP_WRITE: TIM_STEP (R335). -/
def execTimStepWrite (dt : Nat) (rq : Rq) (v : Word) (s : State) : Host.Outcome State Fault Refusal :=
  .next ((s.elapse dt).busWrite rq 4 R.TIM_STEP v).settle

/-- TIM_SET_COMMIT: TIM_SET_SEC_LO (R335). -/
def execTimSetCommit (dt : Nat) (rq : Rq) (v : Word) (s : State) : Host.Outcome State Fault Refusal :=
  .next ((s.elapse dt).busWrite rq 4 R.TIM_SET_SEC_LO v).settle

/-- RTC_SET_WRITE: RTC_SET_SEC_LO (R358). -/
def execRtcSetWrite (dt : Nat) (rq : Rq) (v : Word) (s : State) : Host.Outcome State Fault Refusal :=
  .next ((s.elapse dt).busWrite rq 4 R.RTC_SET_SEC_LO v).settle

/-- RTC_CAL_WRITE: RTC_CAL (R360). -/
def execRtcCalWrite (dt : Nat) (rq : Rq) (v : Word) (s : State) : Host.Outcome State Fault Refusal :=
  .next ((s.elapse dt).busWrite rq 4 R.RTC_CAL v).settle

/-- RTC_OSF_CLEAR: RTC_STAT (R362). -/
def execRtcOsfClear (dt : Nat) (rq : Rq) (v : Word) (s : State) : Host.Outcome State Fault Refusal :=
  .next ((s.elapse dt).busWrite rq 4 R.RTC_STAT v).settle

/-- ALARM_WRITE: an alarm register (R363). -/
def execAlarmWrite (dt : Nat) (rq : Rq) (n : Nat) (which : Nat) (v : Word) (s : State) : Host.Outcome State Fault Refusal :=
  .next ((s.elapse dt).busWrite rq 4 (almReg (n % 2) which) v).settle

/-- DOP_HOLD_WRITE: DOP_CTRL (R256). -/
def execDopHoldWrite (dt : Nat) (rq : Rq) (v : Word) (s : State) : Host.Outcome State Fault Refusal :=
  .next ((s.elapse dt).busWrite rq 4 R.DOP_CTRL v).settle

/-- FC_COMMIT: DOP_CTRL.FC_COMMIT, HOLD kept (R262). -/
def execFcCommit (dt : Nat) (rq : Rq) (s : State) : Host.Outcome State Fault Refusal :=
  .next (fcCommitWrite rq (s.elapse dt)).settle

/-- FC_DATA_WRITE: DOP_FC_DATA (R262). -/
def execFcDataWrite (dt : Nat) (rq : Rq) (v : Word) (s : State) : Host.Outcome State Fault Refusal :=
  .next ((s.elapse dt).busWrite rq 4 R.DOP_FC_DATA v).settle

/-- NSV_CLR_BAD: NSV_CTRL.CLR_BAD (R236). -/
def execNsvClrBad (dt : Nat) (rq : Rq) (s : State) : Host.Outcome State Fault Refusal :=
  .next ((s.elapse dt).busWrite rq 4 R.NSV_CTRL 1#32).settle

/-- NSV_TH_REINIT: NSV_CTRL.TH_REINIT (R239). -/
def execNsvThReinit (dt : Nat) (rq : Rq) (s : State) : Host.Outcome State Fault Refusal :=
  .next ((s.elapse dt).busWrite rq 4 R.NSV_CTRL 2#32).settle

/-- KEY_GO: KEY_CMD.GO (R454). -/
def execKeyGo (dt : Nat) (rq : Rq) (s : State) : Host.Outcome State Fault Refusal :=
  .next ((s.elapse dt).busWrite rq 4 R.KEY_CMD 1#32).settle

/-- GEN_DTK: KEY_CMD.GEN_DTK (R456). -/
def execGenDtk (dt : Nat) (rq : Rq) (s : State) : Host.Outcome State Fault Refusal :=
  .next ((s.elapse dt).busWrite rq 4 R.KEY_CMD 2#32).settle

/-- UPD_OPEN: UPD_CMD = OPEN (Table 19.6). -/
def execUpdOpen (dt : Nat) (rq : Rq) (s : State) : Host.Outcome State Fault Refusal :=
  .next ((s.elapse dt).busWrite rq 4 R.UPD_CMD 1#32).settle

/-- UPD_PUT: UPD_CMD = PUT (Table 19.6). -/
def execUpdPut (dt : Nat) (rq : Rq) (s : State) : Host.Outcome State Fault Refusal :=
  .next ((s.elapse dt).busWrite rq 4 R.UPD_CMD 2#32).settle

/-- UPD_ABORT: UPD_CMD = ABORT (Table 19.6). -/
def execUpdAbort (dt : Nat) (rq : Rq) (s : State) : Host.Outcome State Fault Refusal :=
  .next ((s.elapse dt).busWrite rq 4 R.UPD_CMD 3#32).settle

/-- UPD_INSTALL: UPD_CMD = INSTALL (Table 19.6). -/
def execUpdInstall (dt : Nat) (rq : Rq) (s : State) : Host.Outcome State Fault Refusal :=
  .next ((s.elapse dt).busWrite rq 4 R.UPD_CMD 4#32).settle

/-- UPD_ACTIVATE: UPD_CMD = ACTIVATE (Table 19.6). -/
def execUpdActivate (dt : Nat) (rq : Rq) (s : State) : Host.Outcome State Fault Refusal :=
  .next ((s.elapse dt).busWrite rq 4 R.UPD_CMD 5#32).settle

/-- UPD_STAGE: UPD_CMD = STAGE (Table 19.6). -/
def execUpdStage (dt : Nat) (rq : Rq) (s : State) : Host.Outcome State Fault Refusal :=
  .next ((s.elapse dt).busWrite rq 4 R.UPD_CMD 6#32).settle

/-- UPD_LOAD_SB: UPD_CMD = LOAD_SB (Table 19.6). -/
def execUpdLoadSb (dt : Nat) (rq : Rq) (s : State) : Host.Outcome State Fault Refusal :=
  .next ((s.elapse dt).busWrite rq 4 R.UPD_CMD 7#32).settle

/-- UPD_HANDOVER: UPD_CMD = HANDOVER (Table 19.6). -/
def execUpdHandover (dt : Nat) (rq : Rq) (s : State) : Host.Outcome State Fault Refusal :=
  .next ((s.elapse dt).busWrite rq 4 R.UPD_CMD 8#32).settle

/-- UPD_REVERT: UPD_CMD = REVERT (Table 19.6). -/
def execUpdRevert (dt : Nat) (rq : Rq) (s : State) : Host.Outcome State Fault Refusal :=
  .next ((s.elapse dt).busWrite rq 4 R.UPD_CMD 9#32).settle

/-- UPD_COMMIT: UPD_CMD = COMMIT (Table 19.6). -/
def execUpdCommit (dt : Nat) (rq : Rq) (s : State) : Host.Outcome State Fault Refusal :=
  .next ((s.elapse dt).busWrite rq 4 R.UPD_CMD 10#32).settle

/-- UPD_COLD: UPD_CMD = COLD (Table 19.6). -/
def execUpdCold (dt : Nat) (rq : Rq) (s : State) : Host.Outcome State Fault Refusal :=
  .next ((s.elapse dt).busWrite rq 4 R.UPD_CMD 11#32).settle

/-- CLR_REJ_WRITE: CFG_CTRL.CLR_REJ (R408). -/
def execClrRejWrite (dt : Nat) (rq : Rq) (s : State) : Host.Outcome State Fault Refusal :=
  .next ((s.elapse dt).busWrite rq 4 R.CFG_CTRL 1#32).settle

end Sys2Proof.Machine
end

