-- ==== Sys2Proof/Machine/Kmp.lean ====
section
/-! DEFINITION. The management path: the port (R510), sessions (R511), requests (R512 to R514). -/
namespace Sys2Proof.Machine

/-! ### Sessions (R511) -/

/-- SYS_MGT_STAT.SESS follows the open sessions. -/
def State.showSess (s : State) : State := s.set F.SYS_MGT_STAT.SESS s.kmp.length

/-- A session ends: its window, cache, freezes and shadows with it. -/
def State.kmpClose (s : State) (n : Nat) : State :=
  ({ s.dropRequester (4 + n) with kmp := s.kmp.filter (fun (x : KmpSession) => x.num != n) } : State).showSess

/-- KMP is available: Cap-mode service or bare Cap mode onward, not in TAMPERED, with a complex ACTIVE, on the SIO domain's port. -/
def State.kmpUp (s : State) : Bool :=
  s.powered && s.svc != 0 && !s.tampered && s.activeCx.isSome && s.domOn 5

/-- The hash a client key must have: that of the signer of owner operations in force. -/
def State.ownerHash (s : State) : Option (List Byte) :=
  match s.get F.KEY_STAT.LC with
  | 0 => some s.mkh
  | 1 => some s.mkh
  | 4 => some s.mkh
  | 2 => s.recInForce.map s.okh
  | 3 => s.recInForce.map s.okh
  | _ => none

/-- The server identity: the mitten's key where KEY serves it, else DTK, else BLANK's ephemeral key. `unwrap`: a mitten that is not in a
slot unwraps (log entry 6). -/
def State.serverIdent (s : State) (unwrap : Bool) : State × Nat :=
  let own := s.ownIdent
  match (if s.hasRoot then s.tlsMitten else none) with
  | none => (s, own)
  | some id =>
    let r := s.keyRequest .kmp id 3
    match r.2 with
    | .hit => (r.1, 0)
    | .wait => (r.1, if unwrap then 0 else own)
    | .fail => (r.1, own)

/-- KMP_HANDSHAKE: `tls` says that the client offers what R511 allows and proves its key, `keyHash` is that key's SHA-384. A session takes
the lowest free number. A refused handshake sets KMP_AUTH and logs. -/
def kmpHandshake (console tls : Bool) (keyHash : List Byte) (unwrap : Bool) (s : State) : State :=
  if !s.kmpUp || (!console && !s.bit F.SYS_MGT_STAT.LINK) then s
  else
    match (List.range 4).find? (fun n => s.kmp.all (fun x => x.num != n)) with
    | none => (s.flag F.SYS_ERR.KMP_AUTH).log 0 5 0 4
    | some n =>
      if tls && s.ownerHash == some keyHash then
        let r := s.serverIdent unwrap
        (({ r.1 with kmp := r.1.kmp ++ [(⟨n, console, none, [], r.1.clock.up⟩ : KmpSession)] } : State).showSess).set F.SYS_MGT_STAT.IDENT r.2
      else (s.flag F.SYS_ERR.KMP_AUTH).log 0 5 0 4

def execKmpHandshake (dt : Nat) (console tls : Bool) (keyHash : List Byte) (unwrap : Bool) (s : State) : Host.Outcome State Fault Refusal :=
  .next (kmpHandshake console tls keyHash unwrap (s.elapse dt)).settle

/-- KMP_IDLE_TIMEOUT: a session idle for 300 s is closed. -/
def kmpIdleTimeout (n : Nat) (s : State) : State :=
  if s.kmp.any (fun x => x.num == n && decide (x.last + 75000000000 ≤ s.clock.up)) then s.kmpClose n else s

def execKmpIdleTimeout (dt session : Nat) (s : State) : Host.Outcome State Fault Refusal := .next (kmpIdleTimeout session (s.elapse dt)).settle

/-! ### Requests (R512 to R514) -/

/-- An operation keeps Table 21.4. -/
def KmpOp_ok (o : KmpOp) : Bool :=
  decide (1 ≤ o.op) && decide (o.op ≤ 4) && decide (1 ≤ o.count) && decide (o.count ≤ 256) &&
  (o.data.length == if o.op = 2 ∨ o.op = 4 then o.count else 0) &&
  decide (o.addr + (if o.op ≤ 2 then 4 * (o.count - 1) else 0) ≤ 0xFFFFFC)

/-- A request keeps Table 21.4: `zeros` says that its fixed bytes are 0 and its length fits. -/
def kmpFormat (nops : Nat) (zeros : Bool) (ops : List KmpOp) : Bool :=
  zeros && nops == ops.length && decide (1 ≤ nops) && decide (nops ≤ 16) && ops.all KmpOp_ok &&
  decide ((ops.map (fun o => o.count)).sum ≤ 256)

/-- One word of an operation: an access of its own (R512). -/
def State.kmpWord (s : State) (rq : Rq) (o : KmpOp) (i : Nat) : State × List Word :=
  let a := if o.op ≤ 2 then o.addr + 4 * i else o.addr
  if o.op % 2 = 1 then
    let r := s.busRead rq 4 a
    (r.1, [r.2])
  else (s.busWrite rq 4 a (o.data.getD i 0), [])

/-- KMP_READ, KMP_WRITE, KMP_READ_SAME, KMP_WRITE_SAME: the words of one operation, in order. -/
def State.kmpOp (s : State) (rq : Rq) (o : KmpOp) : State × List Word :=
  (List.range o.count).foldl (fun (acc : State × List Word) i =>
    let r := acc.1.kmpWord rq o i
    (r.1, acc.2 ++ r.2)) (s, [])

/-- The operations of a request, back to back (R513). -/
def State.kmpOps (s : State) (rq : Rq) (ops : List KmpOp) : State × List Word :=
  ops.foldl (fun (acc : State × List Word) o =>
    let r := acc.1.kmpOp rq o
    (r.1, acc.2 ++ r.2)) (s, [])

/-- An operation writes a register. -/
def KmpOp_writes (o : KmpOp) (a : Nat) : Bool :=
  (o.op == 2 && decide (o.addr ≤ a) && decide (a < o.addr + 4 * o.count) && (a - o.addr) % 4 == 0) || (o.op == 4 && o.addr == a)

/-- Another session's message or command is in progress and the request writes KEY_CMD or UPD_CMD (R513). -/
def State.kmpBusy (s : State) (n : Nat) (ops : List KmpOp) : Bool :=
  let other := fun (q : Nat) => decide (4 ≤ q) && q != 4 + n
  ((s.bit F.KEY_STAT.BUSY && other s.mgt.keyBy) || (s.bit F.UPD_STAT.BUSY && other s.mgt.updBy)) &&
    ops.any (fun o => KmpOp_writes o R.KEY_CMD || KmpOp_writes o R.UPD_CMD)

/-- A session's record after a carried-out request: the TAG, and the last 8 responses. -/
def KmpSession_after (x : KmpSession) (tag : Nat) (data : List Word) (done : Nat) : KmpSession :=
  { x with maxTag := some tag, cache := ((tag, 0, done, data) :: x.cache).take 8 }

/-- A new request that keeps the table is carried out and answered; TAG 0xFFFF_FFFF ends the session after its response. -/
def State.kmpCarry (s : State) (n tag : Nat) (ops : List KmpOp) : State :=
  let r := s.kmpOps (.kmp n) ops
  let s1 := r.1.inc F.SYS_KMP_CNT.COUNT
  let s2 := { s1 with kmp := s1.kmp.map (fun (x : KmpSession) => if x.num = n then KmpSession_after x tag r.2 ops.length else x) }
  let s3 := s2.emit (.kmp n tag 0 ops.length r.2)
  if tag = 0xFFFFFFFF then s3.kmpClose n else s3

/-- KMP_REQUEST: duplicates and old TAGs first (R514), then the format (R512), then a busy unit (R513). What is not carried out leaves the
session's TAGs as they are. -/
def kmpRequest (n tag nops : Nat) (zeros : Bool) (ops : List KmpOp) (s : State) : State :=
  match s.kmp.find? (fun x => x.num == n) with
  | none => s
  | some x =>
    if !s.kmpUp then s
    else
      let s1 := { s with kmp := s.kmp.map (fun (y : KmpSession) => if y.num = n then { y with last := s.clock.up } else y) }
      match x.cache.find? (fun e => e.1 == tag) with
      | some e => s1.emit (.kmp n tag e.2.1 e.2.2.1 e.2.2.2)
      | none =>
        let old : Bool := match x.maxTag with
          | some m => decide (tag ≤ m)
          | none => false
        if old then s1.emit (.kmp n tag 2 0 [])
        else if !kmpFormat nops zeros ops then s1.emit (.kmp n tag 1 0 [])
        else if s1.kmpBusy n ops then s1.emit (.kmp n tag 3 0 [])
        else s1.kmpCarry n tag ops

def execKmpRequest (dt session tag nops : Nat) (zeros : Bool) (ops : List KmpOp) (s : State) : Host.Outcome State Fault Refusal :=
  .next (kmpRequest session tag nops zeros ops (s.elapse dt)).settle

/-! ### The management port (R509, R510) -/

/-- The link-local address fe80::/64 whose interface identifier is DEVID with bit 57 inverted. -/
def State.linkLocal (s : State) : Nat := 0xFE80 * 2 ^ 112 + (s.devid ^^^ 2 ^ 57)

/-- The module holds an address on the port: the link-local one, and the static ones in effect. -/
def State.holdsAddr (s : State) (v6 : Bool) (a : Nat) : Bool :=
  let w := fun (i : Nat) => (s.mgt.addr.getD i 0).toNat
  if v6 then a == s.linkLocal || (w 0 / 131072 % 2 == 1 && a == w 2 * 2 ^ 96 + w 3 * 2 ^ 64 + w 4 * 2 ^ 32 + w 5)
  else w 0 / 65536 % 2 == 1 && a == w 1

/-- MGT_PORT_TRAFFIC: ARP (0), neighbour discovery (1) and echo (2) requests for an address the module holds are answered. -/
def mgtTraffic (kind : Nat) (v6 : Bool) (addr : Nat) (s : State) : State :=
  if s.powered && s.domOn 5 && s.bit F.SYS_MGT_STAT.LINK && s.holdsAddr v6 addr then s.emit (.netAnswer 2 kind) else s

def execMgtPortTraffic (dt kind : Nat) (v6 : Bool) (addr : Nat) (s : State) : Host.Outcome State Fault Refusal :=
  .next (mgtTraffic kind v6 addr (s.elapse dt)).settle

/-- MGT_LINK_CHANGE. -/
def mgtLink (up : Bool) (s : State) : State := if s.powered && s.domOn 5 then s.setBit F.SYS_MGT_STAT.LINK up else s

def execMgtLinkChange (dt : Nat) (up : Bool) (s : State) : Host.Outcome State Fault Refusal := .next (mgtLink up (s.elapse dt)).settle

end Sys2Proof.Machine
end

