-- ==== Sys2Proof/Machine/Dispatch.lean ====
section
/-! DEFINITION. The meaning of every command: one arm per constructor, each one call of its meaning. -/
namespace Sys2Proof.Machine

/-- The effect of a command on everything but the queue. -/
def exec (i : Instr) (s : State) : Host.Outcome State Fault Refusal :=
  match i with
  | .regWrite dt rq size addr v => Sys2Proof.Machine.execRegWrite dt rq size addr v s
  | .readClear dt rq addr => Sys2Proof.Machine.execReadClear dt rq addr s
  | .tabDataRead dt rq addr => Sys2Proof.Machine.execTabDataRead dt rq addr s
  | .cycHostWrite dt rq v => Sys2Proof.Machine.execCycHostWrite dt rq v s
  | .lpeTabDataWrite dt rq v => Sys2Proof.Machine.execLpeTabDataWrite dt rq v s
  | .mpgTabDataWrite dt rq v => Sys2Proof.Machine.execMpgTabDataWrite dt rq v s
  | .timNsRead dt rq => Sys2Proof.Machine.execTimNsRead dt rq s
  | .rtcFracRead dt rq => Sys2Proof.Machine.execRtcFracRead dt rq s
  | .sysUpLoRead dt rq => Sys2Proof.Machine.execSysUpLoRead dt rq s
  | .energyLoRead dt rq pt e => Sys2Proof.Machine.execEnergyLoRead dt rq pt e s
  | .hqcLoRead dt rq e => Sys2Proof.Machine.execHqcLoRead dt rq e s
  | .axPosFracRead dt rq ax => Sys2Proof.Machine.execAxPosFracRead dt rq ax s
  | .latchSeqRead dt rq pt => Sys2Proof.Machine.execLatchSeqRead dt rq pt s
  | .latchFreezeExpiry dt rq pt => Sys2Proof.Machine.execLatchFreezeExpiry dt rq pt s
  | .wLatchSeqRead dt rq => Sys2Proof.Machine.execWLatchSeqRead dt rq s
  | .wFreezeExpiry dt rq pt => Sys2Proof.Machine.execWFreezeExpiry dt rq pt s
  | .hqcWinSelWrite dt rq v => Sys2Proof.Machine.execHqcWinSelWrite dt rq v s
  | .lpnStatRead dt rq => Sys2Proof.Machine.execLpnStatRead dt rq s
  | .lpFreezeExpiry dt rq slot => Sys2Proof.Machine.execLpFreezeExpiry dt rq slot s
  | .lpeWinSelWrite dt rq v => Sys2Proof.Machine.execLpeWinSelWrite dt rq v s
  | .nsvSeqRead dt rq => Sys2Proof.Machine.execNsvSeqRead dt rq s
  | .mtrHwinSelWrite dt rq v => Sys2Proof.Machine.execMtrHwinSelWrite dt rq v s
  | .powerOn dt batLow => Sys2Proof.Machine.execPowerOn dt batLow s
  | .nresetAssert dt => Sys2Proof.Machine.execNresetAssert dt s
  | .sysResetWrite dt rq v => Sys2Proof.Machine.execSysResetWrite dt rq v s
  | .sysResetSaveDone dt => Sys2Proof.Machine.execSysResetSaveDone dt s
  | .pwrGapExpiry dt => Sys2Proof.Machine.execPwrGapExpiry dt s
  | .domainPowerGood dt dom => Sys2Proof.Machine.execDomainPowerGood dt dom s
  | .domainFail dt dom => Sys2Proof.Machine.execDomainFail dt dom s
  | .rtaFailRetry dt => Sys2Proof.Machine.execRtaFailRetry dt s
  | .huMinReached dt => Sys2Proof.Machine.execHuMinReached dt s
  | .huChargeComplete dt mj => Sys2Proof.Machine.execHuChargeComplete dt mj s
  | .slotSelect dt i0 i1 ddr mhz => Sys2Proof.Machine.execSlotSelect dt i0 i1 ddr mhz s
  | .capCommit dt => Sys2Proof.Machine.execCapCommit dt s
  | .capStageFail dt => Sys2Proof.Machine.execCapStageFail dt s
  | .dramTrained dt fw ow => Sys2Proof.Machine.execDramTrained dt fw ow s
  | .fullCommit dt => Sys2Proof.Machine.execFullCommit dt s
  | .fullLoadFail dt => Sys2Proof.Machine.execFullLoadFail dt s
  | .fullServiceBegin dt => Sys2Proof.Machine.execFullServiceBegin dt s
  | .loopServiceStart dt => Sys2Proof.Machine.execLoopServiceStart dt s
  | .pfwBegin dt => Sys2Proof.Machine.execPfwBegin dt s
  | .pfwEnd dt => Sys2Proof.Machine.execPfwEnd dt s
  | .holdupEnd dt => Sys2Proof.Machine.execHoldupEnd dt s
  | .strobeIssue dt => Sys2Proof.Machine.execStrobeIssue dt s
  | .islandFrameReceived dt f => Sys2Proof.Machine.execIslandFrameReceived dt f s
  | .frameDeadlineMiss dt isl => Sys2Proof.Machine.execFrameDeadlineMiss dt isl s
  | .islandDown dt isl => Sys2Proof.Machine.execIslandDown dt isl s
  | .islandUp dt isl => Sys2Proof.Machine.execIslandUp dt isl s
  | .pseudoCycle dt isl => Sys2Proof.Machine.execPseudoCycle dt isl s
  | .ptLatch dt pt => Sys2Proof.Machine.execPtLatch dt pt s
  | .aggWindowClose dt isl freq10 harm => Sys2Proof.Machine.execAggWindowClose dt isl freq10 harm s
  | .mtrPeriodicSave dt => Sys2Proof.Machine.execMtrPeriodicSave dt s
  | .mtrSave dt rq => Sys2Proof.Machine.execMtrSave dt rq s
  | .mtrSaveCommit dt => Sys2Proof.Machine.execMtrSaveCommit dt s
  | .hqcSaveCommit dt => Sys2Proof.Machine.execHqcSaveCommit dt s
  | .hqcSaveLate dt => Sys2Proof.Machine.execHqcSaveLate dt s
  | .hqcLocalStep dt pulses => Sys2Proof.Machine.execHqcLocalStep dt pulses s
  | .hqcBillTimeout dt => Sys2Proof.Machine.execHqcBillTimeout dt s
  | .helloReceived dt h nonce => Sys2Proof.Machine.execHelloReceived dt h nonce s
  | .sessionSetupDone dt stn => Sys2Proof.Machine.execSessionSetupDone dt stn s
  | .inputReceived dt h img => Sys2Proof.Machine.execInputReceived dt h img s
  | .watchdogCheck dt stn => Sys2Proof.Machine.execWatchdogCheck dt stn s
  | .watchdogExpiry dt stn => Sys2Proof.Machine.execWatchdogExpiry dt stn s
  | .closeReceived dt h reason => Sys2Proof.Machine.execCloseReceived dt h reason s
  | .sspRequestReceived dt h body status data => Sys2Proof.Machine.execSspRequestReceived dt h body status data s
  | .sspResponseReceived dt h body => Sys2Proof.Machine.execSspResponseReceived dt h body s
  | .sspRequestIssue dt stn body => Sys2Proof.Machine.execSspRequestIssue dt stn body s
  | .setTimingApply dt stn => Sys2Proof.Machine.execSetTimingApply dt stn s
  | .sioCloseWrite dt rq v => Sys2Proof.Machine.execSioCloseWrite dt rq v s
  | .otherTrafficReceived dt port kind => Sys2Proof.Machine.execOtherTrafficReceived dt port kind s
  | .launchFetch dt stn => Sys2Proof.Machine.execLaunchFetch dt stn s
  | .frameLaunch dt stn skew => Sys2Proof.Machine.execFrameLaunch dt stn skew s
  | .prefetchIssue dt => Sys2Proof.Machine.execPrefetchIssue dt s
  | .pageLoadDone dt stn => Sys2Proof.Machine.execPageLoadDone dt stn s
  | .writeBackDone dt stn => Sys2Proof.Machine.execWriteBackDone dt stn s
  | .timedTaskRelease dt task => Sys2Proof.Machine.execTimedTaskRelease dt task s
  | .taskSkipLimit dt task => Sys2Proof.Machine.execTaskSkipLimit dt task s
  | .pgrTrigWrite dt rq v => Sys2Proof.Machine.execPgrTrigWrite dt rq v s
  | .taskDispatch dt reached stall => Sys2Proof.Machine.execTaskDispatch dt reached stall s
  | .regionRequest dt owner gran tag => Sys2Proof.Machine.execRegionRequest dt owner gran tag s
  | .regionRelease dt idx => Sys2Proof.Machine.execRegionRelease dt idx s
  | .regionViolation dt idx rq write => Sys2Proof.Machine.execRegionViolation dt idx rq write s
  | .cycleSnapshot dt => Sys2Proof.Machine.execCycleSnapshot dt s
  | .cycTmaxExpiry dt reached => Sys2Proof.Machine.execCycTmaxExpiry dt reached s
  | .cycOvrLimit dt => Sys2Proof.Machine.execCycOvrLimit dt s
  | .exchArm dt rq => Sys2Proof.Machine.execExchArm dt rq s
  | .exchAbort dt rq => Sys2Proof.Machine.execExchAbort dt rq s
  | .exchStagingDone dt img => Sys2Proof.Machine.execExchStagingDone dt img s
  | .exchangePause dt ok us => Sys2Proof.Machine.execExchangePause dt ok us s
  | .lpeTick dt incomplete stall busy => Sys2Proof.Machine.execLpeTick dt incomplete stall busy s
  | .plausAction dt slot => Sys2Proof.Machine.execPlausAction dt slot s
  | .groupTrip dt grp own => Sys2Proof.Machine.execGroupTrip dt grp own s
  | .lpeDeadline dt => Sys2Proof.Machine.execLpeDeadline dt s
  | .lpeThirdLate dt slot => Sys2Proof.Machine.execLpeThirdLate dt slot s
  | .lpnModeWrite dt rq v => Sys2Proof.Machine.execLpnModeWrite dt rq v s
  | .lpnSpWrite dt rq v => Sys2Proof.Machine.execLpnSpWrite dt rq v s
  | .lpnManWrite dt rq v => Sys2Proof.Machine.execLpnManWrite dt rq v s
  | .lpeGrpResetWrite dt rq v => Sys2Proof.Machine.execLpeGrpResetWrite dt rq v s
  | .lpnFltClear dt rq v => Sys2Proof.Machine.execLpnFltClear dt rq v s
  | .capLoopRun dt => Sys2Proof.Machine.execCapLoopRun dt s
  | .loopTableSwitch dt => Sys2Proof.Machine.execLoopTableSwitch dt s
  | .profileTick dt samples => Sys2Proof.Machine.execProfileTick dt samples s
  | .axTargetWrite dt rq ax v => Sys2Proof.Machine.execAxTargetWrite dt rq ax v s
  | .raTargetWrite dt rq v => Sys2Proof.Machine.execRaTargetWrite dt rq v s
  | .axLimitWrite dt rq ax which v => Sys2Proof.Machine.execAxLimitWrite dt rq ax which v s
  | .axEnable dt rq ax => Sys2Proof.Machine.execAxEnable dt rq ax s
  | .axDisable dt rq ax => Sys2Proof.Machine.execAxDisable dt rq ax s
  | .axStop dt rq ax => Sys2Proof.Machine.execAxStop dt rq ax s
  | .axEstop dt rq ax => Sys2Proof.Machine.execAxEstop dt rq ax s
  | .axHome dt rq ax => Sys2Proof.Machine.execAxHome dt rq ax s
  | .axClrLim dt rq ax => Sys2Proof.Machine.execAxClrLim dt rq ax s
  | .axClrFlt dt rq ax => Sys2Proof.Machine.execAxClrFlt dt rq ax s
  | .raStop dt rq => Sys2Proof.Machine.execRaStop dt rq s
  | .raEstop dt rq => Sys2Proof.Machine.execRaEstop dt rq s
  | .raResync dt rq => Sys2Proof.Machine.execRaResync dt rq s
  | .raClrFlt dt rq => Sys2Proof.Machine.execRaClrFlt dt rq s
  | .limitTrip dt ax plus => Sys2Proof.Machine.execLimitTrip dt ax plus s
  | .homeSignalChange dt ax level => Sys2Proof.Machine.execHomeSignalChange dt ax level s
  | .remoteAxisTick dt => Sys2Proof.Machine.execRemoteAxisTick dt s
  | .nsvWakeRequest dt => Sys2Proof.Machine.execNsvWakeRequest dt s
  | .nsvSolveStart dt => Sys2Proof.Machine.execNsvSolveStart dt s
  | .nsvSolveComplete dt late l0 l1 l2 => Sys2Proof.Machine.execNsvSolveComplete dt late l0 l1 l2 s
  | .imageCurrent dt => Sys2Proof.Machine.execImageCurrent dt s
  | .nsvDeadline dt => Sys2Proof.Machine.execNsvDeadline dt s
  | .modelStale dt => Sys2Proof.Machine.execModelStale dt s
  | .nsvClrBad dt rq => Sys2Proof.Machine.execNsvClrBad dt rq s
  | .nsvThReinit dt rq => Sys2Proof.Machine.execNsvThReinit dt rq s
  | .dopWakeRequest dt => Sys2Proof.Machine.execDopWakeRequest dt s
  | .dopSolveStart dt => Sys2Proof.Machine.execDopSolveStart dt s
  | .dopSolvePhaseDone dt sol => Sys2Proof.Machine.execDopSolvePhaseDone dt sol s
  | .couplingRoundSend dt e => Sys2Proof.Machine.execCouplingRoundSend dt e s
  | .couplingFragmentReceived dt src fr => Sys2Proof.Machine.execCouplingFragmentReceived dt src fr s
  | .roundWaitExpiry dt => Sys2Proof.Machine.execRoundWaitExpiry dt s
  | .finalSolveDone dt sol => Sys2Proof.Machine.execFinalSolveDone dt sol s
  | .dopLate dt => Sys2Proof.Machine.execDopLate dt s
  | .dopHoldWrite dt rq v => Sys2Proof.Machine.execDopHoldWrite dt rq v s
  | .fcCommit dt rq => Sys2Proof.Machine.execFcCommit dt rq s
  | .fcCommitDone dt => Sys2Proof.Machine.execFcCommitDone dt s
  | .fcDataWrite dt rq v => Sys2Proof.Machine.execFcDataWrite dt rq v s
  | .trajFragmentReceived dt src fr wellFormed => Sys2Proof.Machine.execTrajFragmentReceived dt src fr wellFormed s
  | .trajPlanIncomplete dt => Sys2Proof.Machine.execTrajPlanIncomplete dt s
  | .leaderTimeout dt => Sys2Proof.Machine.execLeaderTimeout dt s
  | .sourceQualified dt src0 src1 => Sys2Proof.Machine.execSourceQualified dt src0 src1 s
  | .fiInputChange dt fi level => Sys2Proof.Machine.execFiInputChange dt fi level s
  | .switchConfirmTime dt alt => Sys2Proof.Machine.execSwitchConfirmTime dt alt s
  | .deadTimeExpiry dt alt => Sys2Proof.Machine.execDeadTimeExpiry dt alt s
  | .switchConfirmTimeout dt alt => Sys2Proof.Machine.execSwitchConfirmTimeout dt alt s
  | .recallTimeout dt grp => Sys2Proof.Machine.execRecallTimeout dt grp s
  | .returnTimerExpiry dt => Sys2Proof.Machine.execReturnTimerExpiry dt s
  | .syncWaitExpiry dt => Sys2Proof.Machine.execSyncWaitExpiry dt s
  | .overlapTimeout dt => Sys2Proof.Machine.execOverlapTimeout dt s
  | .restoreGapExpiry dt => Sys2Proof.Machine.execRestoreGapExpiry dt s
  | .csbReturn dt rq => Sys2Proof.Machine.execCsbReturn dt rq s
  | .csbClrFlt dt rq => Sys2Proof.Machine.execCsbClrFlt dt rq s
  | .csbShed dt rq grp => Sys2Proof.Machine.execCsbShed dt rq grp s
  | .csbRelease dt rq grp => Sys2Proof.Machine.execCsbRelease dt rq grp s
  | .foReadbackCheck dt sensed => Sys2Proof.Machine.execFoReadbackCheck dt sensed s
  | .foPulseTest dt fo ch => Sys2Proof.Machine.execFoPulseTest dt fo ch s
  | .foPulseEnd dt fo => Sys2Proof.Machine.execFoPulseEnd dt fo s
  | .foPulseSenseTimeout dt fo => Sys2Proof.Machine.execFoPulseSenseTimeout dt fo s
  | .foFeedbackTimeout dt fo => Sys2Proof.Machine.execFoFeedbackTimeout dt fo s
  | .capDetectorEval dt => Sys2Proof.Machine.execCapDetectorEval dt s
  | .fabFrameReceived dt rx f => Sys2Proof.Machine.execFabFrameReceived dt rx f s
  | .hatbandReceived dt rx f => Sys2Proof.Machine.execHatbandReceived dt rx f s
  | .hatbandInstant dt port => Sys2Proof.Machine.execHatbandInstant dt port s
  | .neighbourLost dt port => Sys2Proof.Machine.execNeighbourLost dt port s
  | .linkSignalLoss dt port => Sys2Proof.Machine.execLinkSignalLoss dt port s
  | .linkSignalUp dt port => Sys2Proof.Machine.execLinkSignalUp dt port s
  | .lsaReceived dt rx f => Sys2Proof.Machine.execLsaReceived dt rx f s
  | .lsaRefreshTimer dt => Sys2Proof.Machine.execLsaRefreshTimer dt s
  | .lsaHoldoffExpiry dt => Sys2Proof.Machine.execLsaHoldoffExpiry dt s
  | .lsaAgeOut dt devid => Sys2Proof.Machine.execLsaAgeOut dt devid s
  | .routeTableLoad dt => Sys2Proof.Machine.execRouteTableLoad dt s
  | .addressClaim dt => Sys2Proof.Machine.execAddressClaim dt s
  | .fabDataSend dt kind dst cls svc ackreq payload => Sys2Proof.Machine.execFabDataSend dt kind dst cls svc ackreq payload s
  | .fabRetryExpiry dt dst cls seq => Sys2Proof.Machine.execFabRetryExpiry dt dst cls seq s
  | .fabDataReceived dt rx f => Sys2Proof.Machine.execFabDataReceived dt rx f s
  | .fabAckReceived dt rx f => Sys2Proof.Machine.execFabAckReceived dt rx f s
  | .fabRequestReceived dt rx f => Sys2Proof.Machine.execFabRequestReceived dt rx f s
  | .fabResponseReceived dt rx f => Sys2Proof.Machine.execFabResponseReceived dt rx f s
  | .egressDequeue dt port => Sys2Proof.Machine.execEgressDequeue dt port s
  | .responseCacheExpiry dt => Sys2Proof.Machine.execResponseCacheExpiry dt s
  | .timAddendWrite dt rq v => Sys2Proof.Machine.execTimAddendWrite dt rq v s
  | .timSlewWrite dt rq v => Sys2Proof.Machine.execTimSlewWrite dt rq v s
  | .slewComplete dt => Sys2Proof.Machine.execSlewComplete dt s
  | .timStepWrite dt rq v => Sys2Proof.Machine.execTimStepWrite dt rq v s
  | .timSetCommit dt rq v => Sys2Proof.Machine.execTimSetCommit dt rq v s
  | .ptpSyncReceived dt h rx => Sys2Proof.Machine.execPtpSyncReceived dt h rx s
  | .ptpFollowUpReceived dt h origin corr egress => Sys2Proof.Machine.execPtpFollowUpReceived dt h origin corr egress s
  | .ptpPdelayReqReceived dt h rx tx => Sys2Proof.Machine.execPtpPdelayReqReceived dt h rx tx s
  | .ptpPdelayRespReceived dt h t2 t3 rx => Sys2Proof.Machine.execPtpPdelayRespReceived dt h t2 t3 rx s
  | .ptpAnnounceReceived dt h a => Sys2Proof.Machine.execPtpAnnounceReceived dt h a s
  | .ptpDelayReqReceived dt h rx => Sys2Proof.Machine.execPtpDelayReqReceived dt h rx s
  | .ptpSyncSend dt port tx => Sys2Proof.Machine.execPtpSyncSend dt port tx s
  | .ptpAnnounceSend dt port => Sys2Proof.Machine.execPtpAnnounceSend dt port s
  | .ptpPdelaySend dt port tx => Sys2Proof.Machine.execPtpPdelaySend dt port tx s
  | .announceTimeout dt port => Sys2Proof.Machine.execAnnounceTimeout dt port s
  | .followUpTimeout dt port => Sys2Proof.Machine.execFollowUpTimeout dt port s
  | .actionSubmit dt rq v => Sys2Proof.Machine.execActionSubmit dt rq v s
  | .actionWithdraw dt rq v => Sys2Proof.Machine.execActionWithdraw dt rq v s
  | .actionExecute dt => Sys2Proof.Machine.execActionExecute dt s
  | .rtcSetWrite dt rq v => Sys2Proof.Machine.execRtcSetWrite dt rq v s
  | .rtcSetTakeEffect dt => Sys2Proof.Machine.execRtcSetTakeEffect dt s
  | .rtcSecondCarry dt => Sys2Proof.Machine.execRtcSecondCarry dt s
  | .rtcTrackCompare dt => Sys2Proof.Machine.execRtcTrackCompare dt s
  | .rtcCalWrite dt rq v => Sys2Proof.Machine.execRtcCalWrite dt rq v s
  | .rtcCalWindow dt => Sys2Proof.Machine.execRtcCalWindow dt s
  | .rtcOscStop dt => Sys2Proof.Machine.execRtcOscStop dt s
  | .rtcOsfClear dt rq v => Sys2Proof.Machine.execRtcOsfClear dt rq v s
  | .cellSwitchover dt => Sys2Proof.Machine.execCellSwitchover dt s
  | .mainSupplyReturn dt => Sys2Proof.Machine.execMainSupplyReturn dt s
  | .alarmWrite dt rq n which v => Sys2Proof.Machine.execAlarmWrite dt rq n which v s
  | .clrRejWrite dt rq => Sys2Proof.Machine.execClrRejWrite dt rq s
  | .gauntletOscCheck dt ok => Sys2Proof.Machine.execGauntletOscCheck dt ok s
  | .lockstepMismatch dt cx tcm => Sys2Proof.Machine.execLockstepMismatch dt cx tcm s
  | .heartbeatChallenge dt => Sys2Proof.Machine.execHeartbeatChallenge dt s
  | .hbRespWrite dt rq cx v => Sys2Proof.Machine.execHbRespWrite dt rq cx v s
  | .gauntletWatchdogExpiry dt => Sys2Proof.Machine.execGauntletWatchdogExpiry dt s
  | .watchdogDeferLimit dt => Sys2Proof.Machine.execWatchdogDeferLimit dt s
  | .sramScrub dt ce ue pass => Sys2Proof.Machine.execSramScrub dt ce ue pass s
  | .dramScrub dt ce ue pass => Sys2Proof.Machine.execDramScrub dt ce ue pass s
  | .regCrcCheck dt diff => Sys2Proof.Machine.execRegCrcCheck dt diff s
  | .monitorTrip dt src idx temp => Sys2Proof.Machine.execMonitorTrip dt src idx temp s
  | .tripStale dt slot => Sys2Proof.Machine.execTripStale dt slot s
  | .safeStateRelease dt rq v => Sys2Proof.Machine.execSafeStateRelease dt rq v s
  | .keyGo dt rq => Sys2Proof.Machine.execKeyGo dt rq s
  | .keyMsgDone dt v => Sys2Proof.Machine.execKeyMsgDone dt v s
  | .debugUnlockExpiry dt => Sys2Proof.Machine.execDebugUnlockExpiry dt s
  | .genDtk dt rq => Sys2Proof.Machine.execGenDtk dt rq s
  | .keyRequest dt user id usage => Sys2Proof.Machine.execKeyRequest dt user id usage s
  | .keyUnwrapDone dt id usage ok ovlOk => Sys2Proof.Machine.execKeyUnwrapDone dt id usage ok ovlOk s
  | .tamper dt act => Sys2Proof.Machine.execTamper dt act s
  | .tamperFuseDone dt => Sys2Proof.Machine.execTamperFuseDone dt s
  | .tamperLogEntry dt act => Sys2Proof.Machine.execTamperLogEntry dt act s
  | .entropyFail dt => Sys2Proof.Machine.execEntropyFail dt s
  | .entropyRetest dt ok => Sys2Proof.Machine.execEntropyRetest dt ok s
  | .updOpen dt rq => Sys2Proof.Machine.execUpdOpen dt rq s
  | .updPut dt rq => Sys2Proof.Machine.execUpdPut dt rq s
  | .updAbort dt rq => Sys2Proof.Machine.execUpdAbort dt rq s
  | .updInstall dt rq => Sys2Proof.Machine.execUpdInstall dt rq s
  | .installDone dt ok => Sys2Proof.Machine.execInstallDone dt ok s
  | .updActivate dt rq => Sys2Proof.Machine.execUpdActivate dt rq s
  | .updStage dt rq => Sys2Proof.Machine.execUpdStage dt rq s
  | .updLoadSb dt rq => Sys2Proof.Machine.execUpdLoadSb dt rq s
  | .standbyReady dt cx => Sys2Proof.Machine.execStandbyReady dt cx s
  | .shadowArmed dt => Sys2Proof.Machine.execShadowArmed dt s
  | .updHandover dt rq => Sys2Proof.Machine.execUpdHandover dt rq s
  | .handoverBoundary dt => Sys2Proof.Machine.execHandoverBoundary dt s
  | .handoverTimeout dt => Sys2Proof.Machine.execHandoverTimeout dt s
  | .mailboxSealed dt => Sys2Proof.Machine.execMailboxSealed dt s
  | .updRevert dt rq => Sys2Proof.Machine.execUpdRevert dt rq s
  | .updCommit dt rq => Sys2Proof.Machine.execUpdCommit dt rq s
  | .probationExpiry dt => Sys2Proof.Machine.execProbationExpiry dt s
  | .overwriteDone dt ok => Sys2Proof.Machine.execOverwriteDone dt ok s
  | .updCold dt rq => Sys2Proof.Machine.execUpdCold dt rq s
  | .uartHeaderFrame dt frame v => Sys2Proof.Machine.execUartHeaderFrame dt frame v s
  | .uartChunkFrame dt frame v => Sys2Proof.Machine.execUartChunkFrame dt frame v s
  | .recChannelSample dt ch => Sys2Proof.Machine.execRecChannelSample dt ch s
  | .recIntervalClose dt => Sys2Proof.Machine.execRecIntervalClose dt s
  | .recFlushTimer dt => Sys2Proof.Machine.execRecFlushTimer dt s
  | .recFlushWrite dt rq v => Sys2Proof.Machine.execRecFlushWrite dt rq v s
  | .recFlushDone dt fails => Sys2Proof.Machine.execRecFlushDone dt fails s
  | .recCursorWrite dt rq v => Sys2Proof.Machine.execRecCursorWrite dt rq v s
  | .recCursorLoadDone dt bad => Sys2Proof.Machine.execRecCursorLoadDone dt bad s
  | .recClearWrite dt rq v => Sys2Proof.Machine.execRecClearWrite dt rq v s
  | .recClearDone dt => Sys2Proof.Machine.execRecClearDone dt s
  | .recArchiveStart dt => Sys2Proof.Machine.execRecArchiveStart dt s
  | .recRegionRetry dt => Sys2Proof.Machine.execRecRegionRetry dt s
  | .kmpHandshake dt console tls keyHash unwrap => Sys2Proof.Machine.execKmpHandshake dt console tls keyHash unwrap s
  | .kmpRequest dt session tag nops zeros ops => Sys2Proof.Machine.execKmpRequest dt session tag nops zeros ops s
  | .kmpIdleTimeout dt session => Sys2Proof.Machine.execKmpIdleTimeout dt session s
  | .diLevelChange dt line high => Sys2Proof.Machine.execDiLevelChange dt line high s
  | .aiConversion dt conv => Sys2Proof.Machine.execAiConversion dt conv s
  | .aiSelfCheck dt ok => Sys2Proof.Machine.execAiSelfCheck dt ok s
  | .crystalRestart dt => Sys2Proof.Machine.execCrystalRestart dt s
  | .tamperSourceChange dt act => Sys2Proof.Machine.execTamperSourceChange dt act s
  | .selectionRecordCommitted dt => Sys2Proof.Machine.execSelectionRecordCommitted dt s
  | .updCommandDone dt v => Sys2Proof.Machine.execUpdCommandDone dt v s
  | .mgtPortTraffic dt kind v6 addr => Sys2Proof.Machine.execMgtPortTraffic dt kind v6 addr s
  | .stationPortLinkChange dt port up => Sys2Proof.Machine.execStationPortLinkChange dt port up s
  | .mgtLinkChange dt up => Sys2Proof.Machine.execMgtLinkChange dt up s
  | .uartBadFrame dt => Sys2Proof.Machine.execUartBadFrame dt s

end Sys2Proof.Machine
end

