-- ==== Sys2Proof/WellFormed.lean ====
section
/-! DEFINITION. When a command is well formed: every operand fits the field, the port or the instance number that carries it in the
spec. The meanings do not rest on it: where the spec says what an operand outside a range does (an error bit, an ignored access), that is
the command's effect. -/
namespace Sys2Proof

/-- A KMP session is numbered 0 to 3 (R511). -/
def Rq.wellFormed : Rq → Bool
  | .cxA => true
  | .cxB => true
  | .kmp n => decide (n < 4)

/-- The header's fields fit Table 4.2. -/
def SspHeader.wellFormed (h : SspHeader) : Bool :=
  decide (h.port < 2) && decide (h.version < 16) && decide (h.type < 16) && decide (h.station < 65536) && decide (h.session < 2 ^ 32) &&
  decide (h.counter < 2 ^ 63) && decide (h.len < 65536) && decide (h.rxSec < 2 ^ 48) && decide (h.rxNs < 10 ^ 9)

/-- The body's fields fit Table 4.3. -/
def SspBody.wellFormed (b : SspBody) : Bool :=
  decide (b.origin < 65536) && decide (b.seq < 65536) && decide (b.cls < 256) && decide (b.op < 256) && decide (b.index < 65536) &&
  decide (b.status < 256) && decide (b.data.length ≤ 240)

/-- The frame's fields fit Table 2.2. -/
def IslandFrame.wellFormed (f : IslandFrame) : Bool :=
  decide (f.isl < 2) && decide (f.seq < 256) && decide (f.status < 16) && decide (f.ftype < 16) && f.samples.length == 8 &&
  f.samples.all (fun x => decide (-0x800000 ≤ x) && decide (x < 0x800000))

/-- The header's fields fit Table 12.2. -/
def FabFrame.wellFormed (f : FabFrame) : Bool :=
  decide (f.kind < 16) && decide (f.cls < 8) && decide (f.dst < 4096) && decide (f.src < 4096) && decide (f.hc < 32) && decide (f.hlim < 32) &&
  decide (f.seq < 65536) && decide (f.route < 2 ^ 64) && decide (f.lctr < 2 ^ 64) && decide (f.svc < 256) && decide (f.payload.length < 65536)

/-- Fabric ports are 0 to 3. -/
def FabRx.wellFormed (r : FabRx) : Bool := decide (r.port < 4) && decide (r.version < 16) && r.idle.all (fun p => decide (p < 4))

/-- PTP ports are 0 to 5 (R338). -/
def PtpHead.wellFormed (h : PtpHead) : Bool := decide (h.port < 6) && decide (h.domain < 256) && decide (h.seq < 65536)

/-- The data set's fields have the widths of IEEE 1588 (R339). -/
def PtpAnnounce.wellFormed (a : PtpAnnounce) : Bool :=
  decide (a.prio1 < 256) && decide (a.cls < 256) && decide (a.accuracy < 256) && decide (a.variance < 65536) && decide (a.prio2 < 256) &&
  decide (a.identity < 2 ^ 64) && decide (a.steps < 65536) && decide (a.sender < 2 ^ 80)

/-- The fragment's fields fit Table 10.5; as many values as steps. -/
def CouplingFragment.wellFormed (c : CouplingFragment) : Bool :=
  decide (c.itie < 2 ^ 32) && decide (c.epoch < 2 ^ 32) && decide (c.iter < 256) && decide (c.k < 256) && decide (c.nv < 256) &&
  decide (c.n < 256) && decide (c.stepMin < 256) && c.values.length == c.n

/-- The fragment's fields fit Table 10.6; as many values as steps. -/
def TrajFragment.wellFormed (t : TrajFragment) : Bool :=
  decide (t.plan < 2 ^ 32) && decide (t.aSec < 2 ^ 32) && decide (t.aNs < 2 ^ 32) && decide (t.b0Sec < 2 ^ 32) && decide (t.stepMin < 256) &&
  decide (t.n < 256) && decide (t.rch < 65536) && decide (t.cnt < 65536) && t.values.length == t.n

/-- A station or a fabric port that exists on some variant. -/
def KeyUser.wellFormed : KeyUser → Bool
  | .sio n => decide (n < 4096)
  | .fab p => decide (p < 4)
  | .kmp => true

/-- The operation's fields fit Table 21.4. -/
def KmpOp.wellFormed (o : KmpOp) : Bool := decide (o.op < 256) && decide (o.count < 65536) && decide (o.addr < 2 ^ 32)

/-- A command whose operands fit. -/
def Instr.wellFormed : Instr → Bool
  | .regWrite _ rq size addr _ => rq.wellFormed && [1, 2, 4].contains size && decide (addr < 0x1000000)
  | .readClear _ rq addr => rq.wellFormed && decide (addr < 0x1000000)
  | .tabDataRead _ rq addr => rq.wellFormed && decide (addr < 0x1000000)
  | .cycHostWrite _ rq _ => rq.wellFormed
  | .lpeTabDataWrite _ rq _ => rq.wellFormed
  | .mpgTabDataWrite _ rq _ => rq.wellFormed
  | .timNsRead _ rq => rq.wellFormed
  | .rtcFracRead _ rq => rq.wellFormed
  | .sysUpLoRead _ rq => rq.wellFormed
  | .energyLoRead _ rq pt e => rq.wellFormed && decide (pt < 8) && decide (e < 8)
  | .hqcLoRead _ rq e => rq.wellFormed && decide (e < 8)
  | .axPosFracRead _ rq ax => rq.wellFormed && decide (ax < 16)
  | .latchSeqRead _ rq pt => rq.wellFormed && decide (pt < 8)
  | .latchFreezeExpiry _ rq pt => rq.wellFormed && decide (pt < 8)
  | .wLatchSeqRead _ rq => rq.wellFormed
  | .wFreezeExpiry _ rq pt => rq.wellFormed && decide (pt < 4128)
  | .hqcWinSelWrite _ rq _ => rq.wellFormed
  | .lpnStatRead _ rq => rq.wellFormed
  | .lpFreezeExpiry _ rq slot => rq.wellFormed && decide (slot < 4096)
  | .lpeWinSelWrite _ rq _ => rq.wellFormed
  | .nsvSeqRead _ rq => rq.wellFormed
  | .mtrHwinSelWrite _ rq _ => rq.wellFormed
  | .powerOn _ _ => true
  | .nresetAssert _ => true
  | .sysResetWrite _ rq _ => rq.wellFormed
  | .sysResetSaveDone _ => true
  | .pwrGapExpiry _ => true
  | .domainPowerGood _ dom => decide (dom < 16)
  | .domainFail _ dom => decide (dom < 16)
  | .rtaFailRetry _ => true
  | .huMinReached _ => true
  | .huChargeComplete _ mj => decide (mj < 65536)
  | .slotSelect _ _ _ _ _ => true
  | .capCommit _ => true
  | .capStageFail _ => true
  | .dramTrained _ _ _ => true
  | .fullCommit _ => true
  | .fullLoadFail _ => true
  | .fullServiceBegin _ => true
  | .loopServiceStart _ => true
  | .pfwBegin _ => true
  | .pfwEnd _ => true
  | .holdupEnd _ => true
  | .strobeIssue _ => true
  | .islandFrameReceived _ f => f.wellFormed
  | .frameDeadlineMiss _ isl => decide (isl < 2)
  | .islandDown _ isl => decide (isl < 2)
  | .islandUp _ isl => decide (isl < 2)
  | .pseudoCycle _ isl => decide (isl < 2)
  | .ptLatch _ pt => decide (pt < 8)
  | .aggWindowClose _ isl _ harm => decide (isl < 2) && harm.all (fun x => x.2.length == 66)
  | .mtrPeriodicSave _ => true
  | .mtrSave _ rq => rq.wellFormed
  | .mtrSaveCommit _ => true
  | .hqcSaveCommit _ => true
  | .hqcSaveLate _ => true
  | .hqcLocalStep _ pulses => pulses.all (fun x => decide (x.1 < 4128))
  | .hqcBillTimeout _ => true
  | .helloReceived _ h _ => h.wellFormed
  | .sessionSetupDone _ stn => decide (stn < 4096)
  | .inputReceived _ h _ => h.wellFormed
  | .watchdogCheck _ stn => decide (stn < 4096)
  | .watchdogExpiry _ stn => decide (stn < 4096)
  | .closeReceived _ h _ => h.wellFormed
  | .sspRequestReceived _ h body _ data => h.wellFormed && body.wellFormed && decide (data.length ≤ 240)
  | .sspResponseReceived _ h body => h.wellFormed && body.wellFormed
  | .sspRequestIssue _ stn body => decide (stn < 4096) && body.wellFormed
  | .setTimingApply _ stn => decide (stn < 4096)
  | .sioCloseWrite _ rq _ => rq.wellFormed
  | .otherTrafficReceived _ port kind => decide (port < 2) && decide (kind < 4)
  | .launchFetch _ stn => decide (stn < 4096)
  | .frameLaunch _ stn _ => decide (stn < 4096)
  | .prefetchIssue _ => true
  | .pageLoadDone _ stn => decide (stn < 4096)
  | .writeBackDone _ stn => decide (stn < 4096)
  | .timedTaskRelease _ task => decide (task < 64)
  | .taskSkipLimit _ task => decide (task < 64)
  | .pgrTrigWrite _ rq _ => rq.wellFormed
  | .taskDispatch _ _ _ => true
  | .regionRequest _ owner _ _ => decide (owner < 2)
  | .regionRelease _ idx => decide (idx < 256)
  | .regionViolation _ idx rq _ => decide (idx < 256) && rq.wellFormed
  | .cycleSnapshot _ => true
  | .cycTmaxExpiry _ _ => true
  | .cycOvrLimit _ => true
  | .exchArm _ rq => rq.wellFormed
  | .exchAbort _ rq => rq.wellFormed
  | .exchStagingDone _ _ => true
  | .exchangePause _ _ _ => true
  | .lpeTick _ _ _ _ => true
  | .plausAction _ slot => decide (slot < 4096)
  | .groupTrip _ grp _ => decide (grp < 256)
  | .lpeDeadline _ => true
  | .lpeThirdLate _ slot => decide (slot < 4096)
  | .lpnModeWrite _ rq _ => rq.wellFormed
  | .lpnSpWrite _ rq _ => rq.wellFormed
  | .lpnManWrite _ rq _ => rq.wellFormed
  | .lpeGrpResetWrite _ rq _ => rq.wellFormed
  | .lpnFltClear _ rq _ => rq.wellFormed
  | .capLoopRun _ => true
  | .loopTableSwitch _ => true
  | .profileTick _ samples => samples.all (fun x => decide (x.1 < 16))
  | .axTargetWrite _ rq ax _ => rq.wellFormed && decide (ax < 16)
  | .raTargetWrite _ rq _ => rq.wellFormed
  | .axLimitWrite _ rq ax which _ => rq.wellFormed && decide (ax < 16) && decide (which < 5)
  | .axEnable _ rq ax => rq.wellFormed && decide (ax < 16)
  | .axDisable _ rq ax => rq.wellFormed && decide (ax < 16)
  | .axStop _ rq ax => rq.wellFormed && decide (ax < 16)
  | .axEstop _ rq ax => rq.wellFormed && decide (ax < 16)
  | .axHome _ rq ax => rq.wellFormed && decide (ax < 16)
  | .axClrLim _ rq ax => rq.wellFormed && decide (ax < 16)
  | .axClrFlt _ rq ax => rq.wellFormed && decide (ax < 16)
  | .raStop _ rq => rq.wellFormed
  | .raEstop _ rq => rq.wellFormed
  | .raResync _ rq => rq.wellFormed
  | .raClrFlt _ rq => rq.wellFormed
  | .limitTrip _ ax _ => decide (ax < 16)
  | .homeSignalChange _ ax _ => decide (ax < 16)
  | .remoteAxisTick _ => true
  | .nsvWakeRequest _ => true
  | .nsvSolveStart _ => true
  | .nsvSolveComplete _ _ _ _ _ => true
  | .imageCurrent _ => true
  | .nsvDeadline _ => true
  | .modelStale _ => true
  | .nsvClrBad _ rq => rq.wellFormed
  | .nsvThReinit _ rq => rq.wellFormed
  | .dopWakeRequest _ => true
  | .dopSolveStart _ => true
  | .dopSolvePhaseDone _ _ => true
  | .couplingRoundSend _ _ => true
  | .couplingFragmentReceived _ src fr => decide (src < 4096) && fr.wellFormed
  | .roundWaitExpiry _ => true
  | .finalSolveDone _ _ => true
  | .dopLate _ => true
  | .dopHoldWrite _ rq _ => rq.wellFormed
  | .fcCommit _ rq => rq.wellFormed
  | .fcCommitDone _ => true
  | .fcDataWrite _ rq _ => rq.wellFormed
  | .trajFragmentReceived _ src fr _ => decide (src < 4096) && fr.wellFormed
  | .trajPlanIncomplete _ => true
  | .leaderTimeout _ => true
  | .sourceQualified _ _ _ => true
  | .fiInputChange _ fi _ => decide (fi < 8)
  | .switchConfirmTime _ _ => true
  | .deadTimeExpiry _ _ => true
  | .switchConfirmTimeout _ _ => true
  | .recallTimeout _ grp => decide (grp < 64)
  | .returnTimerExpiry _ => true
  | .syncWaitExpiry _ => true
  | .overlapTimeout _ => true
  | .restoreGapExpiry _ => true
  | .csbReturn _ rq => rq.wellFormed
  | .csbClrFlt _ rq => rq.wellFormed
  | .csbShed _ rq grp => rq.wellFormed && decide (grp < 64)
  | .csbRelease _ rq grp => rq.wellFormed && decide (grp < 64)
  | .foReadbackCheck _ _ => true
  | .foPulseTest _ fo ch => decide (fo < 8) && decide (ch < 2)
  | .foPulseEnd _ fo => decide (fo < 8)
  | .foPulseSenseTimeout _ fo => decide (fo < 8)
  | .foFeedbackTimeout _ fo => decide (fo < 8)
  | .capDetectorEval _ => true
  | .fabFrameReceived _ rx f => rx.wellFormed && f.wellFormed
  | .hatbandReceived _ rx f => rx.wellFormed && f.wellFormed
  | .hatbandInstant _ port => decide (port < 4)
  | .neighbourLost _ port => decide (port < 4)
  | .linkSignalLoss _ port => decide (port < 4)
  | .linkSignalUp _ port => decide (port < 4)
  | .lsaReceived _ rx f => rx.wellFormed && f.wellFormed
  | .lsaRefreshTimer _ => true
  | .lsaHoldoffExpiry _ => true
  | .lsaAgeOut _ devid => decide (devid < 18446744073709551616)
  | .routeTableLoad _ => true
  | .addressClaim _ => true
  | .fabDataSend _ kind dst cls svc _ payload => decide (kind < 16) && decide (dst < 4096) && decide (cls < 8) && decide (svc < 256) && decide (payload.length ≤ 1024)
  | .fabRetryExpiry _ dst cls seq => decide (dst < 4096) && decide (cls < 8) && decide (seq < 65536)
  | .fabDataReceived _ rx f => rx.wellFormed && f.wellFormed
  | .fabAckReceived _ rx f => rx.wellFormed && f.wellFormed
  | .fabRequestReceived _ rx f => rx.wellFormed && f.wellFormed
  | .fabResponseReceived _ rx f => rx.wellFormed && f.wellFormed
  | .egressDequeue _ port => decide (port < 4)
  | .responseCacheExpiry _ => true
  | .timAddendWrite _ rq _ => rq.wellFormed
  | .timSlewWrite _ rq _ => rq.wellFormed
  | .slewComplete _ => true
  | .timStepWrite _ rq _ => rq.wellFormed
  | .timSetCommit _ rq _ => rq.wellFormed
  | .ptpSyncReceived _ h _ => h.wellFormed
  | .ptpFollowUpReceived _ h _ _ _ => h.wellFormed
  | .ptpPdelayReqReceived _ h _ _ => h.wellFormed
  | .ptpPdelayRespReceived _ h _ _ _ => h.wellFormed
  | .ptpAnnounceReceived _ h a => h.wellFormed && a.wellFormed
  | .ptpDelayReqReceived _ h _ => h.wellFormed
  | .ptpSyncSend _ port _ => decide (port < 6)
  | .ptpAnnounceSend _ port => decide (port < 6)
  | .ptpPdelaySend _ port _ => decide (port < 4)
  | .announceTimeout _ port => decide (port < 4)
  | .followUpTimeout _ port => decide (port < 6)
  | .actionSubmit _ rq _ => rq.wellFormed
  | .actionWithdraw _ rq _ => rq.wellFormed
  | .actionExecute _ => true
  | .rtcSetWrite _ rq _ => rq.wellFormed
  | .rtcSetTakeEffect _ => true
  | .rtcSecondCarry _ => true
  | .rtcTrackCompare _ => true
  | .rtcCalWrite _ rq _ => rq.wellFormed
  | .rtcCalWindow _ => true
  | .rtcOscStop _ => true
  | .rtcOsfClear _ rq _ => rq.wellFormed
  | .cellSwitchover _ => true
  | .mainSupplyReturn _ => true
  | .alarmWrite _ rq n which _ => rq.wellFormed && decide (n < 2) && decide (which < 5)
  | .clrRejWrite _ rq => rq.wellFormed
  | .gauntletOscCheck _ _ => true
  | .lockstepMismatch _ cx _ => decide (cx < 2)
  | .heartbeatChallenge _ => true
  | .hbRespWrite _ rq cx _ => rq.wellFormed && decide (cx < 2)
  | .gauntletWatchdogExpiry _ => true
  | .watchdogDeferLimit _ => true
  | .sramScrub _ _ _ _ => true
  | .dramScrub _ _ _ _ => true
  | .regCrcCheck _ _ => true
  | .monitorTrip _ src _ _ => decide (src < 32)
  | .tripStale _ slot => decide (slot < 4096)
  | .safeStateRelease _ rq _ => rq.wellFormed
  | .keyGo _ rq => rq.wellFormed
  | .keyMsgDone _ _ => true
  | .debugUnlockExpiry _ => true
  | .genDtk _ rq => rq.wellFormed
  | .keyRequest _ user _ _ => user.wellFormed
  | .keyUnwrapDone _ _ _ _ _ => true
  | .tamper _ act => decide (act < 32)
  | .tamperFuseDone _ => true
  | .tamperLogEntry _ act => decide (act < 32)
  | .entropyFail _ => true
  | .entropyRetest _ _ => true
  | .updOpen _ rq => rq.wellFormed
  | .updPut _ rq => rq.wellFormed
  | .updAbort _ rq => rq.wellFormed
  | .updInstall _ rq => rq.wellFormed
  | .installDone _ _ => true
  | .updActivate _ rq => rq.wellFormed
  | .updStage _ rq => rq.wellFormed
  | .updLoadSb _ rq => rq.wellFormed
  | .standbyReady _ cx => decide (cx < 2)
  | .shadowArmed _ => true
  | .updHandover _ rq => rq.wellFormed
  | .handoverBoundary _ => true
  | .handoverTimeout _ => true
  | .mailboxSealed _ => true
  | .updRevert _ rq => rq.wellFormed
  | .updCommit _ rq => rq.wellFormed
  | .probationExpiry _ => true
  | .overwriteDone _ _ => true
  | .updCold _ rq => rq.wellFormed
  | .uartHeaderFrame _ _ _ => true
  | .uartChunkFrame _ _ _ => true
  | .recChannelSample _ ch => decide (ch < 2048)
  | .recIntervalClose _ => true
  | .recFlushTimer _ => true
  | .recFlushWrite _ rq _ => rq.wellFormed
  | .recFlushDone _ _ => true
  | .recCursorWrite _ rq _ => rq.wellFormed
  | .recCursorLoadDone _ _ => true
  | .recClearWrite _ rq _ => rq.wellFormed
  | .recClearDone _ => true
  | .recArchiveStart _ => true
  | .recRegionRetry _ => true
  | .kmpHandshake _ _ _ _ _ => true
  | .kmpRequest _ session tag nops _ ops => decide (session < 4) && decide (tag < 4294967296) && decide (nops < 256) && ops.all KmpOp.wellFormed
  | .kmpIdleTimeout _ session => decide (session < 4)
  | .diLevelChange _ line _ => decide (line < 32)
  | .aiConversion _ conv => conv.length == 16
  | .aiSelfCheck _ _ => true
  | .crystalRestart _ => true
  | .tamperSourceChange _ act => decide (act < 32)
  | .selectionRecordCommitted _ => true
  | .updCommandDone _ _ => true
  | .mgtPortTraffic _ kind _ _ => decide (kind < 3)
  | .stationPortLinkChange _ port _ => decide (port < 2)
  | .mgtLinkChange _ _ => true
  | .uartBadFrame _ => true

/-- The requester a command names: the one whose access it is, or whose freeze or blocked access. -/
def Instr.requester : Instr → Option Rq
  | .regWrite _ rq _ _ _ => some rq
  | .readClear _ rq _ => some rq
  | .tabDataRead _ rq _ => some rq
  | .cycHostWrite _ rq _ => some rq
  | .lpeTabDataWrite _ rq _ => some rq
  | .mpgTabDataWrite _ rq _ => some rq
  | .timNsRead _ rq => some rq
  | .rtcFracRead _ rq => some rq
  | .sysUpLoRead _ rq => some rq
  | .energyLoRead _ rq _ _ => some rq
  | .hqcLoRead _ rq _ => some rq
  | .axPosFracRead _ rq _ => some rq
  | .latchSeqRead _ rq _ => some rq
  | .latchFreezeExpiry _ rq _ => some rq
  | .wLatchSeqRead _ rq => some rq
  | .wFreezeExpiry _ rq _ => some rq
  | .hqcWinSelWrite _ rq _ => some rq
  | .lpnStatRead _ rq => some rq
  | .lpFreezeExpiry _ rq _ => some rq
  | .lpeWinSelWrite _ rq _ => some rq
  | .nsvSeqRead _ rq => some rq
  | .mtrHwinSelWrite _ rq _ => some rq
  | .powerOn _ _ => none
  | .nresetAssert _ => none
  | .sysResetWrite _ rq _ => some rq
  | .sysResetSaveDone _ => none
  | .pwrGapExpiry _ => none
  | .domainPowerGood _ _ => none
  | .domainFail _ _ => none
  | .rtaFailRetry _ => none
  | .huMinReached _ => none
  | .huChargeComplete _ _ => none
  | .slotSelect _ _ _ _ _ => none
  | .capCommit _ => none
  | .capStageFail _ => none
  | .dramTrained _ _ _ => none
  | .fullCommit _ => none
  | .fullLoadFail _ => none
  | .fullServiceBegin _ => none
  | .loopServiceStart _ => none
  | .pfwBegin _ => none
  | .pfwEnd _ => none
  | .holdupEnd _ => none
  | .strobeIssue _ => none
  | .islandFrameReceived _ _ => none
  | .frameDeadlineMiss _ _ => none
  | .islandDown _ _ => none
  | .islandUp _ _ => none
  | .pseudoCycle _ _ => none
  | .ptLatch _ _ => none
  | .aggWindowClose _ _ _ _ => none
  | .mtrPeriodicSave _ => none
  | .mtrSave _ rq => some rq
  | .mtrSaveCommit _ => none
  | .hqcSaveCommit _ => none
  | .hqcSaveLate _ => none
  | .hqcLocalStep _ _ => none
  | .hqcBillTimeout _ => none
  | .helloReceived _ _ _ => none
  | .sessionSetupDone _ _ => none
  | .inputReceived _ _ _ => none
  | .watchdogCheck _ _ => none
  | .watchdogExpiry _ _ => none
  | .closeReceived _ _ _ => none
  | .sspRequestReceived _ _ _ _ _ => none
  | .sspResponseReceived _ _ _ => none
  | .sspRequestIssue _ _ _ => none
  | .setTimingApply _ _ => none
  | .sioCloseWrite _ rq _ => some rq
  | .otherTrafficReceived _ _ _ => none
  | .launchFetch _ _ => none
  | .frameLaunch _ _ _ => none
  | .prefetchIssue _ => none
  | .pageLoadDone _ _ => none
  | .writeBackDone _ _ => none
  | .timedTaskRelease _ _ => none
  | .taskSkipLimit _ _ => none
  | .pgrTrigWrite _ rq _ => some rq
  | .taskDispatch _ _ _ => none
  | .regionRequest _ _ _ _ => none
  | .regionRelease _ _ => none
  | .regionViolation _ _ rq _ => some rq
  | .cycleSnapshot _ => none
  | .cycTmaxExpiry _ _ => none
  | .cycOvrLimit _ => none
  | .exchArm _ rq => some rq
  | .exchAbort _ rq => some rq
  | .exchStagingDone _ _ => none
  | .exchangePause _ _ _ => none
  | .lpeTick _ _ _ _ => none
  | .plausAction _ _ => none
  | .groupTrip _ _ _ => none
  | .lpeDeadline _ => none
  | .lpeThirdLate _ _ => none
  | .lpnModeWrite _ rq _ => some rq
  | .lpnSpWrite _ rq _ => some rq
  | .lpnManWrite _ rq _ => some rq
  | .lpeGrpResetWrite _ rq _ => some rq
  | .lpnFltClear _ rq _ => some rq
  | .capLoopRun _ => none
  | .loopTableSwitch _ => none
  | .profileTick _ _ => none
  | .axTargetWrite _ rq _ _ => some rq
  | .raTargetWrite _ rq _ => some rq
  | .axLimitWrite _ rq _ _ _ => some rq
  | .axEnable _ rq _ => some rq
  | .axDisable _ rq _ => some rq
  | .axStop _ rq _ => some rq
  | .axEstop _ rq _ => some rq
  | .axHome _ rq _ => some rq
  | .axClrLim _ rq _ => some rq
  | .axClrFlt _ rq _ => some rq
  | .raStop _ rq => some rq
  | .raEstop _ rq => some rq
  | .raResync _ rq => some rq
  | .raClrFlt _ rq => some rq
  | .limitTrip _ _ _ => none
  | .homeSignalChange _ _ _ => none
  | .remoteAxisTick _ => none
  | .nsvWakeRequest _ => none
  | .nsvSolveStart _ => none
  | .nsvSolveComplete _ _ _ _ _ => none
  | .imageCurrent _ => none
  | .nsvDeadline _ => none
  | .modelStale _ => none
  | .nsvClrBad _ rq => some rq
  | .nsvThReinit _ rq => some rq
  | .dopWakeRequest _ => none
  | .dopSolveStart _ => none
  | .dopSolvePhaseDone _ _ => none
  | .couplingRoundSend _ _ => none
  | .couplingFragmentReceived _ _ _ => none
  | .roundWaitExpiry _ => none
  | .finalSolveDone _ _ => none
  | .dopLate _ => none
  | .dopHoldWrite _ rq _ => some rq
  | .fcCommit _ rq => some rq
  | .fcCommitDone _ => none
  | .fcDataWrite _ rq _ => some rq
  | .trajFragmentReceived _ _ _ _ => none
  | .trajPlanIncomplete _ => none
  | .leaderTimeout _ => none
  | .sourceQualified _ _ _ => none
  | .fiInputChange _ _ _ => none
  | .switchConfirmTime _ _ => none
  | .deadTimeExpiry _ _ => none
  | .switchConfirmTimeout _ _ => none
  | .recallTimeout _ _ => none
  | .returnTimerExpiry _ => none
  | .syncWaitExpiry _ => none
  | .overlapTimeout _ => none
  | .restoreGapExpiry _ => none
  | .csbReturn _ rq => some rq
  | .csbClrFlt _ rq => some rq
  | .csbShed _ rq _ => some rq
  | .csbRelease _ rq _ => some rq
  | .foReadbackCheck _ _ => none
  | .foPulseTest _ _ _ => none
  | .foPulseEnd _ _ => none
  | .foPulseSenseTimeout _ _ => none
  | .foFeedbackTimeout _ _ => none
  | .capDetectorEval _ => none
  | .fabFrameReceived _ _ _ => none
  | .hatbandReceived _ _ _ => none
  | .hatbandInstant _ _ => none
  | .neighbourLost _ _ => none
  | .linkSignalLoss _ _ => none
  | .linkSignalUp _ _ => none
  | .lsaReceived _ _ _ => none
  | .lsaRefreshTimer _ => none
  | .lsaHoldoffExpiry _ => none
  | .lsaAgeOut _ _ => none
  | .routeTableLoad _ => none
  | .addressClaim _ => none
  | .fabDataSend _ _ _ _ _ _ _ => none
  | .fabRetryExpiry _ _ _ _ => none
  | .fabDataReceived _ _ _ => none
  | .fabAckReceived _ _ _ => none
  | .fabRequestReceived _ _ _ => none
  | .fabResponseReceived _ _ _ => none
  | .egressDequeue _ _ => none
  | .responseCacheExpiry _ => none
  | .timAddendWrite _ rq _ => some rq
  | .timSlewWrite _ rq _ => some rq
  | .slewComplete _ => none
  | .timStepWrite _ rq _ => some rq
  | .timSetCommit _ rq _ => some rq
  | .ptpSyncReceived _ _ _ => none
  | .ptpFollowUpReceived _ _ _ _ _ => none
  | .ptpPdelayReqReceived _ _ _ _ => none
  | .ptpPdelayRespReceived _ _ _ _ _ => none
  | .ptpAnnounceReceived _ _ _ => none
  | .ptpDelayReqReceived _ _ _ => none
  | .ptpSyncSend _ _ _ => none
  | .ptpAnnounceSend _ _ => none
  | .ptpPdelaySend _ _ _ => none
  | .announceTimeout _ _ => none
  | .followUpTimeout _ _ => none
  | .actionSubmit _ rq _ => some rq
  | .actionWithdraw _ rq _ => some rq
  | .actionExecute _ => none
  | .rtcSetWrite _ rq _ => some rq
  | .rtcSetTakeEffect _ => none
  | .rtcSecondCarry _ => none
  | .rtcTrackCompare _ => none
  | .rtcCalWrite _ rq _ => some rq
  | .rtcCalWindow _ => none
  | .rtcOscStop _ => none
  | .rtcOsfClear _ rq _ => some rq
  | .cellSwitchover _ => none
  | .mainSupplyReturn _ => none
  | .alarmWrite _ rq _ _ _ => some rq
  | .clrRejWrite _ rq => some rq
  | .gauntletOscCheck _ _ => none
  | .lockstepMismatch _ _ _ => none
  | .heartbeatChallenge _ => none
  | .hbRespWrite _ rq _ _ => some rq
  | .gauntletWatchdogExpiry _ => none
  | .watchdogDeferLimit _ => none
  | .sramScrub _ _ _ _ => none
  | .dramScrub _ _ _ _ => none
  | .regCrcCheck _ _ => none
  | .monitorTrip _ _ _ _ => none
  | .tripStale _ _ => none
  | .safeStateRelease _ rq _ => some rq
  | .keyGo _ rq => some rq
  | .keyMsgDone _ _ => none
  | .debugUnlockExpiry _ => none
  | .genDtk _ rq => some rq
  | .keyRequest _ _ _ _ => none
  | .keyUnwrapDone _ _ _ _ _ => none
  | .tamper _ _ => none
  | .tamperFuseDone _ => none
  | .tamperLogEntry _ _ => none
  | .entropyFail _ => none
  | .entropyRetest _ _ => none
  | .updOpen _ rq => some rq
  | .updPut _ rq => some rq
  | .updAbort _ rq => some rq
  | .updInstall _ rq => some rq
  | .installDone _ _ => none
  | .updActivate _ rq => some rq
  | .updStage _ rq => some rq
  | .updLoadSb _ rq => some rq
  | .standbyReady _ _ => none
  | .shadowArmed _ => none
  | .updHandover _ rq => some rq
  | .handoverBoundary _ => none
  | .handoverTimeout _ => none
  | .mailboxSealed _ => none
  | .updRevert _ rq => some rq
  | .updCommit _ rq => some rq
  | .probationExpiry _ => none
  | .overwriteDone _ _ => none
  | .updCold _ rq => some rq
  | .uartHeaderFrame _ _ _ => none
  | .uartChunkFrame _ _ _ => none
  | .recChannelSample _ _ => none
  | .recIntervalClose _ => none
  | .recFlushTimer _ => none
  | .recFlushWrite _ rq _ => some rq
  | .recFlushDone _ _ => none
  | .recCursorWrite _ rq _ => some rq
  | .recCursorLoadDone _ _ => none
  | .recClearWrite _ rq _ => some rq
  | .recClearDone _ => none
  | .recArchiveStart _ => none
  | .recRegionRetry _ => none
  | .kmpHandshake _ _ _ _ _ => none
  | .kmpRequest _ _ _ _ _ _ => none
  | .kmpIdleTimeout _ _ => none
  | .diLevelChange _ _ _ => none
  | .aiConversion _ _ => none
  | .aiSelfCheck _ _ => none
  | .crystalRestart _ => none
  | .tamperSourceChange _ _ => none
  | .selectionRecordCommitted _ => none
  | .updCommandDone _ _ => none
  | .mgtPortTraffic _ _ _ _ => none
  | .stationPortLinkChange _ _ _ => none
  | .mgtLinkChange _ _ => none
  | .uartBadFrame _ => none

end Sys2Proof
end

