-- ==== Sys2Proof/Safety.lean ====
section
/-! DEFINITION. What counts as a safe run, and the terms in which statements about the module speak: what a requester reaches, what a
command leaves alone, when the alarm tells the truth, when the stores are in their canonical form. -/
namespace Sys2Proof.Machine

/-- A run of n steps from s ends in a state, not in a fault or a refusal. -/
def SafeRun (n : Nat) (s : State) : Prop := ∃ t, Host.Core.run Sys2Proof.core n s = .next t

/-- A requester's 32-bit access reaches the register at an address: it may access the space (R505, R511), the address is aligned (R9) and in
the space (R504), its unit is present (R5) and on (R508). -/
structure Reads (s : State) (rq : Rq) (a : Nat) : Prop where
  may : s.mayAccess rq = true
  aligned : a % 4 = 0
  inside : a < 0x140000
  present : s.absentReg a = false
  on : s.blockOff (a / 65536) = false

/-- A requester's 32-bit write is performed: it reaches the register, the requester is not the standby complex (R505), and no lock of R403
holds the register. -/
structure Writes (s : State) (rq : Rq) (a : Nat) : Prop where
  reads : Reads s rq a
  notStandby : s.isStandby rq = false
  unlocked : s.fullLocked a = false

/-- The words that follow the alarm's conditions after every command (R430). -/
def alarmKeys : List Nat := [R.SAF_ALARM, R.SAF_STAT]

/-- Every register and table word is as before, except those listed and the alarm's own. -/
def SameWords (ks : List Nat) (s t : State) : Prop := ∀ k, k ∉ ks → k ∉ alarmKeys → t.word k = s.word k

/-- Only words of the store changed, and of them only those listed and the alarm's own: every unit's internal state, both byte memories, the
clock, freezes, shadows, sessions and the queue are as before. What the hardware set in this clock and what went outwards is not restricted. -/
def OnlyWords (ks : List Nat) (s t : State) : Prop :=
  SameWords ks s t ∧ t = { s with words := t.words, hwSet := t.hwSet, emitted := t.emitted }

/-- The byte memories, the clock, the freezes and shadows, the KMP sessions, the variant, the supply and the queue are as before. -/
def SameRest (s t : State) : Prop :=
  t.dram = s.dram ∧ t.cache = s.cache ∧ t.clock = s.clock ∧ t.freezes = s.freezes ∧ t.shadows = s.shadows ∧ t.kmp = s.kmp ∧
    t.variant = s.variant ∧ t.powered = s.powered ∧ t.pending = s.pending

/-- A bit of a field after a requester's write: by its access code, from the bit as it was, the bit written, and whether hardware set it in
this clock (Table 0.3, R11, R536). -/
def bitAfter (c : Acc) (old new hw : Bool) : Bool :=
  match c with
  | .rw => new
  | .w1c => old && (!new || hw)
  | .w1s => old || new
  | _ => old

/-- Two fields of a word share no bit. -/
def FieldDesc.apart (f g : FieldDesc) : Prop := f.lsb + f.width ≤ g.lsb ∨ g.lsb + g.width ≤ f.lsb

/-- The first thing a command drives outwards is the answer w to the requester's read of a. -/
def Answers (t : State) (rq : Rq) (a : Nat) (w : Word) : Prop := t.emitted.head? = some (.readData rq.num a w)

/-- Registers whose fields act by their access codes alone: every unit's error register, the latched faults, the reset causes, the management
addresses, and the plain parameters of actions, RTC and update. -/
def plainRegs : List Nat := [R.SYS_ERR, R.SYS_MGT_CFG, R.SYS_MGT_IP4, R.SYS_MGT_IP6_0, R.SYS_MGT_IP6_1, R.SYS_MGT_IP6_2, R.SYS_MGT_IP6_3,
  R.SYS_RST_CAUSE, R.PWR_ERR, R.CYC_ERR, R.PGR_ERR, R.SIO_ERR, R.LPE_ERR, R.MPG_ERR, R.NSV_ERR, R.DOP_ERR, R.HQC_ERR, R.CSB_ERR,
  R.LIO_ERR, R.FAB_ERR, R.TIM_ERR, R.TIM_UTC_OFS, R.TIM_ACT_NS, R.TIM_ACT_SEC_LO, R.TIM_ACT_SEC_HI, R.TIM_ACT_TGT, R.TIM_ACT_TAG,
  R.TIM_ACT_VAL, R.TRJ_ERR, R.RTC_CFG, R.RTC_ERR, R.SAF_ERR, R.SAF_FLT_LAT, R.KEY_ERR, R.UPD_ERR, R.UPD_CFG, R.UPD_SHADOW_N, R.UPD_PROB_S,
  R.UPD_PROB_MASK, R.UPD_CHK_IDX, R.REC_ERR]

/-- Registers that a read clears and that no rule of their own serves. -/
def rcRegs : List Nat := [R.CYC_MAX, R.CYC_MIN, R.PGR_STALL_MAX, R.LPE_BUSY_MAX, R.NSV_MAX_US, R.DOP_MAX_MS, R.TIM_LQn_SKEW_MAX 0,
  R.TIM_LQn_SKEW_MAX 1]

/-- The TAB_DATA registers: their table's block and their requester's address field. -/
def tabWindows : List (Nat × Nat × (Nat → Fld)) := [
  (R.CFG_TAB_DATA, 2, F.CFG_TAB_ADDR.ADDR), (R.CYC_TAB_DATA, 3, F.CYC_TAB_ADDR.ADDR), (R.PGR_TAB_DATA, 4, F.PGR_TAB_ADDR.ADDR),
  (R.SIO_TAB_DATA, 5, F.SIO_TAB_ADDR.ADDR), (R.LPE_TAB_DATA, 6, F.LPE_TAB_ADDR.ADDR), (R.MPG_TAB_DATA, 7, F.MPG_TAB_ADDR.ADDR),
  (R.NSV_TAB_DATA, 8, F.NSV_TAB_ADDR.ADDR), (R.DOP_TAB_DATA, 9, F.DOP_TAB_ADDR.ADDR), (R.HQC_TAB_DATA, 11, F.HQC_TAB_ADDR.ADDR),
  (R.CSB_TAB_DATA, 12, F.CSB_TAB_ADDR.ADDR), (R.TRJ_TAB_DATA, 14, F.TRJ_TAB_ADDR.ADDR), (R.SAF_TAB_DATA, 16, F.SAF_TAB_ADDR.ADDR),
  (R.KEY_TAB_DATA, 17, F.KEY_TAB_ADDR.ADDR), (R.UPD_TAB_DATA, 18, F.UPD_TAB_ADDR.ADDR), (R.REC_TAB_DATA, 19, F.REC_TAB_ADDR.ADDR)]

/-- The six bits of SAF_ALARM have the values of their conditions (R430, Table 17.6). -/
structure AlarmBits (s : State) : Prop where
  fault : s.bit F.SAF_ALARM.FAULT = s.latchedAlarm
  start : s.bit F.SAF_ALARM.START = (s.svc != 4 && s.bit F.SAF_CFG.START_ALM)
  cfg : s.bit F.SAF_ALARM.CFG = (s.svc == 1 || s.svc == 5)
  tamper : s.bit F.SAF_ALARM.TAMPER = s.tampered
  noAct : s.bit F.SAF_ALARM.NOACT = s.bit F.SAF_CX_STAT.NOACT
  gauntlet : s.bit F.SAF_ALARM.GAUNTLET = !s.bit F.SAF_STAT.GAUNTLET_OK

/-- ALARM_OUT, as SAF_STAT.ALARM shows it, is asserted while any bit of SAF_ALARM is 1, and until the cap commit (R430). -/
def AlarmOut (s : State) : Prop :=
  s.bit F.SAF_STAT.ALARM =
    (s.bit F.SAF_ALARM.FAULT || s.bit F.SAF_ALARM.START || s.bit F.SAF_ALARM.CFG || s.bit F.SAF_ALARM.TAMPER ||
      s.bit F.SAF_ALARM.NOACT || s.bit F.SAF_ALARM.GAUNTLET || !s.saf.capAlarm)

/-- While AON is powered the alarm tells the truth (R430). -/
def AlarmInv (s : State) : Prop := s.powered = true → AlarmBits s ∧ AlarmOut s

/-- What a full reset leaves (R382, R383, R385): AON and every domain off until the start, each word outside the RTC block at its reset value
unless the tables mark it kept, the battery domain and the FRAM as they were, the queues empty, the count of resets up by one, the warning and
no other source than the command's own recorded. -/
structure FullReset (s t : State) : Prop where
  off : t.powered = false
  words : ∀ k, k ∉ [R.SYS_RST_CAUSE, R.SYS_RST_CNT, R.KEY_STAT] → keyBlock k ≠ 0x0F → t.word k = if keptWord k then s.word k else resetWord k
  count : t.get F.SYS_RST_CNT.COUNT = min (s.get F.SYS_RST_CNT.COUNT + 1) 0xFFFFFFFF
  warning : t.bit F.SYS_RST_CAUSE.PFW = s.bit F.PWR_STAT.PFW
  badKey : t.bit F.SYS_RST_CAUSE.BADKEY = false
  lifeCycle : t.get F.KEY_STAT.LC = s.get F.KEY_STAT.LC
  battery : t.mtr.bank0 = s.mtr.bank0 ∧ t.mtr.bank1 = s.mtr.bank1 ∧ t.key.root = s.key.root ∧ t.key.dtk = s.key.dtk ∧ t.key.mark = s.key.mark
  fram : t.mtr.copyA = s.mtr.copyA ∧ t.mtr.copyB = s.mtr.copyB ∧ t.hqc.copyA = s.hqc.copyA ∧ t.hqc.copyB = s.hqc.copyB ∧
    t.cfg.selA = s.cfg.selA ∧ t.cfg.selB = s.cfg.selB
  archive : t.recd.segs = s.recd.segs
  queues : t.tim.actions = [] ∧ t.tim.lq0 = [] ∧ t.tim.lq1 = [] ∧ t.kmp = [] ∧ t.dram = [] ∧ t.cache = []
  rest : t.variant = s.variant ∧ t.pending = s.pending

/-- A station frame passes addressing, checksum and format (R93, R95), but for its length: its port is enabled, a served station's entry names
the port, and version, type and direction are right. -/
structure SspOk (s : State) (h : SspHeader) (type : Nat) : Prop where
  port : s.bit (F.SIO_PORTn_CFG.EN h.port) = true
  sum : h.sumOk = true
  addr : h.addrOk = true
  station : h.station < 4096
  entry : ∃ b, s.stnBase h.station = some b ∧ s.get (entF b T.SIO_STN.PORT) = h.port
  form : h.version = 1 ∧ h.type = type ∧ h.dir = false ∧ h.len = h.udpLen

/-- It comes under the station's live session, with a good tag and a counter that advances (R94, R98). -/
structure SspLive (s : State) (h : SspHeader) : Prop where
  live : (s.stn h.station).session ≠ 0
  same : h.session = (s.stn h.station).session
  tag : h.tagOk = true
  counter : (s.stn h.station).rxCtr < h.counter

/-- A fabric frame of a kind other than a hatband is accepted on its port (R306 to R309): the port is UP with its key, the EtherType and the
form are right, the tag verifies and LCTR advances. -/
structure FabOk (s : State) (rx : FabRx) (f : FabFrame) : Prop where
  port : rx.port < 4
  up : s.fpState rx.port = 3
  ours : rx.ours = true
  form : fabMalformed rx f = false
  key : (s.fp rx.port).key = true
  tag : rx.tagOk = true
  counter : (s.fp rx.port).rx < f.lctr

/-- A hatband is accepted (R310, R311): the port is not OFF and has a signal, K_hb is there, the tag verifies and LCTR advances. -/
structure HatbandOk (s : State) (rx : FabRx) (f : FabFrame) : Prop where
  port : rx.port < 4
  kind : f.kind = 0
  linked : 2 ≤ s.fpState rx.port
  ours : rx.ours = true
  form : fabMalformed rx f = false
  khb : s.fab.khb = true
  tag : rx.tagOk = true
  counter : (s.fp rx.port).hbRx < f.lctr

/-- Words outside some blocks are as before. -/
def SameOutside (bs : List Nat) (s t : State) : Prop := ∀ k, keyBlock k ∉ bs → k ∉ alarmKeys → t.word k = s.word k

/-- The word store and both byte memories are in their canonical form. -/
def StoresCanonical (s : State) : Prop := canon resetWord s.words = true ∧ Memory.wf s.dram ∧ Memory.wf s.cache

end Sys2Proof.Machine
end

