-- ==== Sys2Proof/Certificates/Slice0/Obligations.lean ====
section
/-! DEFINITION. The statements for the provers. Each formalises rules of spec/; its docstring says what. -/
section
open Sys2Proof Sys2Proof.Machine

/-- A step runs the command at the front of the queue on the state with the rest of the queue. For every command c and state s, a step of s with c at the
front of its queue is exec of c on s (whose queue is the rest). On an empty queue a step leaves the state as it is: that idling is the model's own
choice (log entry 8). -/
def Obligations.AStepRunsTheCommandAtTheFront : Prop :=
  (∀ (c : Instr) (s : State), step (s.withCommand c) = exec c s) ∧ (∀ s : State, s.pending = [] → step s = .next s)

/-- No two fields of a register or table word overlap, and every field lies in the word. In every word of the register space and of the table memories, by
whatever key, the fields its tables give lie within 32 bits and share no bit: a write of one field can never reach another. -/
def Obligations.WordFieldsNeverOverlap : Prop :=
  ∀ k : Nat, (keyFields k).Pairwise FieldDesc.apart ∧ ∀ f ∈ keyFields k, f.lsb + f.width ≤ 32 ∧ 0 < f.width

/-- REG_WRITE acts on each field of the word by that field's own access code and on nothing else. For every register that has no rule of its own
(plainRegs: the error registers, the latched faults, the management addresses, the action's and the update's plain parameters), a performed REG_WRITE
answers a next state in which every bit of every field is what its access code makes of the old bit, the written bit and what hardware set in this
clock (RW takes it, W1C clears on 1 unless hardware set it, RO and RC keep theirs), and no other word and nothing else changes (the alarm's words
follow their conditions). -/
def Obligations.AWriteActsFieldByField : Prop :=
  ∀ (s : State) (dt : Nat) (rq : Rq) (a : Nat) (v : Word), a ∈ plainRegs → Writes s rq a →
    ∃ t, exec (.regWrite dt rq 4 a v) s = .next t ∧ OnlyWords [a] (s.elapse dt) t ∧
      ∀ f ∈ keyFields a, ∀ b, f.lsb ≤ b → b < f.lsb + f.width →
        (t.word a).getLsbD b = bitAfter f.acc ((s.word a).getLsbD b) (v.getLsbD b) ((s.elapse dt).justSet a b)

/-- A write that is not performed sets its SYS_ERR bit and changes nothing else. For a requester that may access the space and is not the standby complex:
a narrow or unaligned write sets SYS_ERR.ALIGN; an aligned write from 0x14_0000 up sets UNMAPPED; one to an absent instance sets ABSENT_WR; one to a
block whose domain is off, or to a register the full sections own before the full commit, sets LOCKED_WR. The standby complex outside SHADOW and ARMED
sets STBY_WR on any register but the heartbeat answers and UPD_CMD. In each case no other word and no unit's state changes. -/
def Obligations.AWriteThatIsNotPerformedSetsItsErrorBit : Prop :=
  ∀ (s : State) (dt : Nat) (rq : Rq) (size a : Nat) (v : Word), s.mayAccess rq = true →
    (s.isStandby rq = false → (size ≠ 4 ∨ a % 4 ≠ 0) →
      ∃ t, exec (.regWrite dt rq size a v) s = .next t ∧ t.bit F.SYS_ERR.ALIGN = true ∧ OnlyWords [R.SYS_ERR] (s.elapse dt) t) ∧
    (s.isStandby rq = false → size = 4 → a % 4 = 0 → 0x140000 ≤ a →
      ∃ t, exec (.regWrite dt rq size a v) s = .next t ∧ t.bit F.SYS_ERR.UNMAPPED = true ∧ OnlyWords [R.SYS_ERR] (s.elapse dt) t) ∧
    (s.isStandby rq = false → size = 4 → a % 4 = 0 → a < 0x140000 → s.absentReg a = true →
      ∃ t, exec (.regWrite dt rq size a v) s = .next t ∧ t.bit F.SYS_ERR.ABSENT_WR = true ∧ OnlyWords [R.SYS_ERR] (s.elapse dt) t) ∧
    (s.isStandby rq = false → size = 4 → a % 4 = 0 → a < 0x140000 → s.absentReg a = false →
      (s.blockOff (a / 65536) = true ∨ s.fullLocked a = true) →
      ∃ t, exec (.regWrite dt rq size a v) s = .next t ∧ t.bit F.SYS_ERR.LOCKED_WR = true ∧ OnlyWords [R.SYS_ERR] (s.elapse dt) t) ∧
    (s.isStandby rq = true → a ≠ R.SAF_HBn_RESP 0 → a ≠ R.SAF_HBn_RESP 1 → a ≠ R.UPD_CMD →
      s.get F.UPD_STAT.HSTATE ≠ 2 → s.get F.UPD_STAT.HSTATE ≠ 3 →
      ∃ t, exec (.regWrite dt rq size a v) s = .next t ∧ t.bit F.SYS_ERR.STBY_WR = true ∧ OnlyWords [R.SYS_ERR] (s.elapse dt) t)

/-- READ_CLEAR answers the register's value and returns it to its reset value. A performed read of CYC_MAX, CYC_MIN, PGR_STALL_MAX, LPE_BUSY_MAX,
NSV_MAX_US, DOP_MAX_MS or TIM_LQn_SKEW_MAX answers the word as that requester sees it and leaves each RC field of the register at its reset value;
nothing else changes. A performed read of PWR_VIN_MIN returns it to 0xFFFF and answers no more than it held (the input voltage is sampled at the read,
log entry 2). -/
def Obligations.AReadClearAnswersAndClears : Prop :=
  (∀ (s : State) (dt : Nat) (rq : Rq) (a : Nat), a ∈ rcRegs → Reads s rq a →
    ∃ t, exec (.readClear dt rq a) s = .next t ∧ Answers t rq a (s.readWord rq.num a) ∧
      (∀ f ∈ keyFields a, f.acc = .rc → t.get ⟨a, f.lsb, f.width⟩ = f.reset % 2 ^ f.width) ∧ OnlyWords [a] (s.elapse dt) t) ∧
  (∀ (s : State) (dt : Nat) (rq : Rq), Reads s rq R.PWR_VIN_MIN →
    ∃ t w, exec (.readClear dt rq R.PWR_VIN_MIN) s = .next t ∧ Answers t rq R.PWR_VIN_MIN w ∧ w.toNat ≤ s.get F.PWR_VIN_MIN.VIN ∧
      t.get F.PWR_VIN_MIN.VIN = 0xFFFF ∧ SameWords [R.PWR_VIN_MIN] s t)

/-- TAB_DATA_READ answers the table word at the requester's own address and advances it by 4. For each of the fifteen TAB_DATA registers, a performed read
answers the table word at the requester's own TAB_ADDR (0 in absent space), the address advances by 4, and nothing else changes: no other requester's
address, no table word. -/
def Obligations.ADataWindowReadAnswersAndAdvances : Prop :=
  ∀ (s : State) (dt : Nat) (rq : Rq) (a b : Nat) (af : Nat → Fld), (a, b, af) ∈ tabWindows → Reads s rq a →
    ∃ t, exec (.tabDataRead dt rq a) s = .next t ∧
      Answers t rq a (if s.absentTab b (s.get (af rq.num) / 4 * 4) then 0 else s.word (tabKey b (s.get (af rq.num) / 4 * 4))) ∧
      t.get (af rq.num) = (s.get (af rq.num) + 4) % 2 ^ (af rq.num).width ∧ OnlyWords [(af rq.num).key] (s.elapse dt) t

/-- Reading TIM_NS or RTC_FRAC latches the seconds into that requester's shadow alone. A performed TIM_NS_READ answers module nanoseconds and latches
TIM_SEC_LO and TIM_SEC_HI for the requester; RTC_FRAC_READ does the same with the RTC's fraction and seconds. A read of a seconds register answers the
requester's shadow, 0 where it has none, and changes no shadow. No other requester's shadow changes, and nothing else changes. (A state in which no
read has happened yet holds no shadow.) -/
def Obligations.ClockReadsLatchTheSecondsForTheirRequester : Prop :=
  ∀ (s : State) (dt : Nat) (rq : Rq),
    (Reads s rq R.TIM_NS → ∃ t, exec (.timNsRead dt rq) s = .next t ∧
      Answers t rq R.TIM_NS (BitVec.ofNat 32 (s.elapse dt).clock.ns) ∧
      t.shadow rq.num R.TIM_SEC_LO = some (BitVec.ofNat 32 (s.elapse dt).clock.sec) ∧
      t.shadow rq.num R.TIM_SEC_HI = some (BitVec.ofNat 32 ((s.elapse dt).clock.sec / 2 ^ 32)) ∧
      (∀ q k, q ≠ rq.num → t.shadow q k = s.shadow q k) ∧ SameWords [] s t) ∧
    (Reads s rq R.RTC_FRAC → ∃ t, exec (.rtcFracRead dt rq) s = .next t ∧
      Answers t rq R.RTC_FRAC (BitVec.ofNat 32 (s.elapse dt).rtcFrac) ∧
      t.shadow rq.num R.RTC_SEC_LO = some (BitVec.ofNat 32 (s.elapse dt).rtc.sec) ∧
      t.shadow rq.num R.RTC_SEC_HI = some (BitVec.ofNat 32 ((s.elapse dt).rtc.sec / 2 ^ 32)) ∧
      (∀ q k, q ≠ rq.num → t.shadow q k = s.shadow q k) ∧ SameWords [] s t) ∧
    (∀ a ∈ [R.TIM_SEC_LO, R.TIM_SEC_HI, R.RTC_SEC_LO, R.RTC_SEC_HI], Reads s rq a →
      ∃ t, exec (.readClear dt rq a) s = .next t ∧ Answers t rq a ((s.shadow rq.num a).getD 0) ∧ t.shadows = s.shadows)

/-- Reading the low word of a 64-bit register keeps its high word for that requester's next read. ENERGY_LO_READ, HQC_LO_READ, AX_POS_FRAC_READ and
SYS_UP_LO_READ answer the low word and put the high word into that requester's shadow. The next read of PTn's high word by the requester answers the
shadow and uses it up. No other requester's shadow changes. -/
def Obligations.LowWordReadsKeepTheHighWord : Prop :=
  ∀ (s : State) (dt : Nat) (rq : Rq),
    (∀ pt e, pt < 8 → e < 8 → Reads s rq (R.PTn_LIVE_LO pt e) → ∃ t, exec (.energyLoRead dt rq pt e) s = .next t ∧
      Answers t rq (R.PTn_LIVE_LO pt e) (s.readWord rq.num (R.PTn_LIVE_LO pt e)) ∧
      t.shadow rq.num (R.PTn_LIVE_HI pt e) = some (s.readWord rq.num (R.PTn_LIVE_HI pt e)) ∧
      (∀ q k, q ≠ rq.num → t.shadow q k = s.shadow q k) ∧ SameWords [] s t) ∧
    (∀ pt e w, pt < 8 → e < 8 → Reads s rq (R.PTn_LIVE_HI pt e) → s.shadow rq.num (R.PTn_LIVE_HI pt e) = some w →
      ∃ t, exec (.readClear dt rq (R.PTn_LIVE_HI pt e)) s = .next t ∧ Answers t rq (R.PTn_LIVE_HI pt e) w ∧
        t.shadow rq.num (R.PTn_LIVE_HI pt e) = none) ∧
    (∀ e, e < 8 → Reads s rq (R.W_LIVE_LO 0 e) → ∃ t, exec (.hqcLoRead dt rq e) s = .next t ∧
      Answers t rq (R.W_LIVE_LO 0 e) (s.readWord rq.num (R.W_LIVE_LO (s.get (F.HQC_WIN_SEL.PT rq.num)) e)) ∧
      t.shadow rq.num (R.W_LIVE_HI (s.get (F.HQC_WIN_SEL.PT rq.num)) e) =
        some (s.readWord rq.num (R.W_LIVE_HI (s.get (F.HQC_WIN_SEL.PT rq.num)) e)) ∧
      (∀ q k, q ≠ rq.num → t.shadow q k = s.shadow q k) ∧ SameWords [] s t) ∧
    (∀ ax, ax < 16 → Reads s rq (R.AXn_POS_FRAC ax) → ∃ t, exec (.axPosFracRead dt rq ax) s = .next t ∧
      Answers t rq (R.AXn_POS_FRAC ax) (s.word (R.AXn_POS_FRAC ax)) ∧
      t.shadow rq.num (R.AXn_POS ax) = some (s.word (R.AXn_POS ax)) ∧
      (∀ q k, q ≠ rq.num → t.shadow q k = s.shadow q k) ∧ SameWords [] s t) ∧
    (Reads s rq R.SYS_UP_LO → ∃ t, exec (.sysUpLoRead dt rq) s = .next t ∧
      Answers t rq R.SYS_UP_LO (BitVec.ofNat 32 (s.elapse dt).upUs) ∧
      t.shadow rq.num R.SYS_UP_HI = some (BitVec.ofNat 32 ((s.elapse dt).upUs / 2 ^ 32)) ∧
      (∀ q k, q ≠ rq.num → t.shadow q k = s.shadow q k) ∧ SameWords [] s t)

/-- A freezing read holds the set for its requester; the second read answers the held word and ends the freeze. LATCH_SEQ_READ, W_LATCH_SEQ_READ and
LPN_STAT_READ: where the requester holds no freeze of the instance, the read freezes it for that requester alone and answers the word; where it holds
one, the read ends exactly that freeze. NSV_SEQ_READ freezes the current image buffer, or releases. Other requesters' freezes are untouched, and no
word changes. -/
def Obligations.ALatchSetFreezesForItsReaderAndIsReleasedByTheSecondRead : Prop :=
  ∀ (s : State) (dt : Nat) (rq : Rq),
    (∀ pt, pt < 8 → Reads s rq (R.PTn_LATCH_SEQ pt) → ∃ t, exec (.latchSeqRead dt rq pt) s = .next t ∧ SameWords [] s t ∧
      (s.frozen? rq.num 0x0A pt = none → Answers t rq (R.PTn_LATCH_SEQ pt) (s.word (R.PTn_LATCH_SEQ pt)) ∧
        t.frozen? rq.num 0x0A pt = some ⟨rq.num, 0x0A, pt, (frozenKeys 0x0A pt).map (fun k => (k, s.word k))⟩) ∧
      (s.frozen? rq.num 0x0A pt ≠ none → Answers t rq (R.PTn_LATCH_SEQ pt) (s.readWord rq.num (R.PTn_LATCH_SEQ pt)) ∧
        t.frozen? rq.num 0x0A pt = none) ∧
      (∀ q b i, (q, b, i) ≠ (rq.num, 0x0A, pt) → t.frozen? q b i = s.frozen? q b i)) ∧
    (Reads s rq (R.W_LATCH_SEQ 0) → ∃ t, exec (.wLatchSeqRead dt rq) s = .next t ∧ SameWords [] s t ∧
      (s.frozen? rq.num 0x0B (s.get (F.HQC_WIN_SEL.PT rq.num)) = none → (t.frozen? rq.num 0x0B (s.get (F.HQC_WIN_SEL.PT rq.num))).isSome) ∧
      (s.frozen? rq.num 0x0B (s.get (F.HQC_WIN_SEL.PT rq.num)) ≠ none →
        t.frozen? rq.num 0x0B (s.get (F.HQC_WIN_SEL.PT rq.num)) = none) ∧
      (∀ q b i, (q, b, i) ≠ (rq.num, 0x0B, s.get (F.HQC_WIN_SEL.PT rq.num)) → t.frozen? q b i = s.frozen? q b i)) ∧
    (Reads s rq (R.LPn_STAT 0) → ∃ t, exec (.lpnStatRead dt rq) s = .next t ∧ SameWords [] s t ∧
      (s.frozen? rq.num 6 (s.get (F.LPE_WIN_SEL.SLOT rq.num)) = none → (t.frozen? rq.num 6 (s.get (F.LPE_WIN_SEL.SLOT rq.num))).isSome) ∧
      (s.frozen? rq.num 6 (s.get (F.LPE_WIN_SEL.SLOT rq.num)) ≠ none → t.frozen? rq.num 6 (s.get (F.LPE_WIN_SEL.SLOT rq.num)) = none) ∧
      (∀ q b i, (q, b, i) ≠ (rq.num, 6, s.get (F.LPE_WIN_SEL.SLOT rq.num)) → t.frozen? q b i = s.frozen? q b i)) ∧
    (Reads s rq R.NSV_SEQ → ∃ t, exec (.nsvSeqRead dt rq) s = .next t ∧ SameWords [] s t ∧
      Answers t rq R.NSV_SEQ (s.word R.NSV_SEQ) ∧
      (s.nsv.frozen.lookup rq.num = none → t.nsv.frozen = (rq.num, s.nsv.cur) :: s.nsv.frozen) ∧
      (s.nsv.frozen.lookup rq.num ≠ none → t.nsv.frozen.lookup rq.num = none) ∧ t.nsv.img = s.nsv.img)

/-- Freeze expiries and window selections end a requester's freeze; a selection takes effect for its requester. LATCH_FREEZE_EXPIRY, W_FREEZE_EXPIRY and
LP_FREEZE_EXPIRY end the requester's freeze of the instance and change no word. HQC_WIN_SEL_WRITE and LPE_WIN_SEL_WRITE of a present instance select
it for the requester and end its freezes of the unit; of an absent one they set the unit's RANGE and change nothing else. MTR_HWIN_SEL_WRITE of a
present point selects it and shows, word for word, the last complete harmonic window of the channel to that requester. -/
def Obligations.AFreezeEndsAfterOneMillisecondOrBySelection : Prop :=
  ∀ (s : State) (dt : Nat) (rq : Rq), rq.wellFormed = true →
    (∀ pt, pt < 8 → ∃ t, exec (.latchFreezeExpiry dt rq pt) s = .next t ∧ t.frozen? rq.num 0x0A pt = none ∧ SameWords [] s t ∧
      ∀ q b i, (q, b, i) ≠ (rq.num, 0x0A, pt) → t.frozen? q b i = s.frozen? q b i) ∧
    (∀ pt, ∃ t, exec (.wFreezeExpiry dt rq pt) s = .next t ∧ t.frozen? rq.num 0x0B pt = none ∧ SameWords [] s t ∧
      ∀ q b i, (q, b, i) ≠ (rq.num, 0x0B, pt) → t.frozen? q b i = s.frozen? q b i) ∧
    (∀ slot, ∃ t, exec (.lpFreezeExpiry dt rq slot) s = .next t ∧ t.frozen? rq.num 6 slot = none ∧ SameWords [] s t ∧
      ∀ q b i, (q, b, i) ≠ (rq.num, 6, slot) → t.frozen? q b i = s.frozen? q b i) ∧
    (∀ v, Writes s rq (R.HQC_WIN_SEL 0) →
      ((v.toNat % 8192 < 4128 ∧ (4096 ≤ v.toNat % 8192 ∨ s.stnPresent (v.toNat % 8192) = true)) →
        ∃ t, exec (.hqcWinSelWrite dt rq v) s = .next t ∧ t.get (F.HQC_WIN_SEL.PT rq.num) = v.toNat % 8192 ∧
          SameWords [R.HQC_WIN_SEL rq.num] s t ∧ ∀ i, t.frozen? rq.num 0x0B i = none) ∧
      (¬ (v.toNat % 8192 < 4128 ∧ (4096 ≤ v.toNat % 8192 ∨ s.stnPresent (v.toNat % 8192) = true)) →
        ∃ t, exec (.hqcWinSelWrite dt rq v) s = .next t ∧ t.bit F.HQC_ERR.RANGE = true ∧ OnlyWords [R.HQC_ERR] (s.elapse dt) t)) ∧
    (∀ v, Writes s rq (R.LPE_WIN_SEL 0) →
      (s.slotPresent (v.toNat % 4096) = true →
        ∃ t, exec (.lpeWinSelWrite dt rq v) s = .next t ∧ t.get (F.LPE_WIN_SEL.SLOT rq.num) = v.toNat % 4096 ∧
          SameWords [R.LPE_WIN_SEL rq.num] s t ∧ ∀ i, t.frozen? rq.num 6 i = none) ∧
      (s.slotPresent (v.toNat % 4096) = false →
        ∃ t, exec (.lpeWinSelWrite dt rq v) s = .next t ∧ t.bit F.LPE_ERR.RANGE = true ∧ OnlyWords [R.LPE_ERR] (s.elapse dt) t)) ∧
    (∀ v, Writes s rq (R.MTR_HWIN_SEL 0) →
      (s.ptPresent (v.toNat % 8) = true → v.toNat / 16 % 8 ≠ 7 →
        ∃ t, exec (.mtrHwinSelWrite dt rq v) s = .next t ∧ t.get (F.MTR_HWIN_SEL.PT rq.num) = v.toNat % 8 ∧
          ∀ w, w < 66 → t.word (R.MTR_HWINn w + 0x1000000 * rq.num) =
            (look (fun _ => []) s.mtr.harm (8 * (v.toNat % 8) + v.toNat / 16 % 8)).getD w 0) ∧
      (s.ptPresent (v.toNat % 8) = false →
        ∃ t, exec (.mtrHwinSelWrite dt rq v) s = .next t ∧ t.bit F.MTR_ERR.RANGE = true ∧ OnlyWords [R.MTR_ERR] (s.elapse dt) t))

/-- A write through CYC, LPE or MPG TAB_DATA takes effect only where its rule allows, and the address advances. CYC_HOST_WRITE inside the host-writable
window writes exactly that word of the global variable area, outside it sets CYC_ERR.RANGE. LPE_TAB_DATA_WRITE of an RW coefficient word of a present
slot that is closed, or has a request held, sets LPE_ERR.COEF_REJ and leaves the word; of a slot that is open it writes the word, where the value
fits. MPG_TAB_DATA_WRITE of a word that holds no motion limit writes field by field. The requester's address advances by 4 in every case. -/
def Obligations.TableWritesObeyTheirWindows : Prop :=
  ∀ (s : State) (dt : Nat) (rq : Rq) (v : Word), rq.wellFormed = true →
    (Writes s rq R.CYC_TAB_DATA →
      (0x300000 + s.get F.CYC_HOSTW_BASE.BASE ≤ s.get (F.CYC_TAB_ADDR.ADDR rq.num) / 4 * 4 →
        s.get (F.CYC_TAB_ADDR.ADDR rq.num) / 4 * 4 + 4 ≤ 0x300000 + s.get F.CYC_HOSTW_BASE.BASE + s.get F.CYC_HOSTW_SIZE.SIZE →
        ∃ t, exec (.cycHostWrite dt rq v) s = .next t ∧ t.word (tabKey 3 (s.get (F.CYC_TAB_ADDR.ADDR rq.num) / 4 * 4)) = v ∧
          t.get (F.CYC_TAB_ADDR.ADDR rq.num) = (s.get (F.CYC_TAB_ADDR.ADDR rq.num) + 4) % 2 ^ (F.CYC_TAB_ADDR.ADDR rq.num).width ∧
          OnlyWords [R.CYC_TAB_ADDR rq.num, tabKey 3 (s.get (F.CYC_TAB_ADDR.ADDR rq.num) / 4 * 4)] (s.elapse dt) t) ∧
      ((s.get (F.CYC_TAB_ADDR.ADDR rq.num) / 4 * 4 < 0x300000 + s.get F.CYC_HOSTW_BASE.BASE ∨
        0x300000 + s.get F.CYC_HOSTW_BASE.BASE + s.get F.CYC_HOSTW_SIZE.SIZE < s.get (F.CYC_TAB_ADDR.ADDR rq.num) / 4 * 4 + 4) →
        ∃ t, exec (.cycHostWrite dt rq v) s = .next t ∧ t.bit F.CYC_ERR.RANGE = true ∧
          OnlyWords [R.CYC_TAB_ADDR rq.num, R.CYC_ERR] (s.elapse dt) t)) ∧
    (Writes s rq R.LPE_TAB_DATA → s.get (F.LPE_TAB_ADDR.ADDR rq.num) / 4 * 4 < 0x80000 →
      s.slotPresent (s.get (F.LPE_TAB_ADDR.ADDR rq.num) / 4 * 4 / 128) = true →
      hasAcc (tabKey 6 (s.get (F.LPE_TAB_ADDR.ADDR rq.num) / 4 * 4)) .rw = true →
      (s.coefOpen (s.get (F.LPE_TAB_ADDR.ADDR rq.num) / 4 * 4 / 128) = false →
        ∃ t, exec (.lpeTabDataWrite dt rq v) s = .next t ∧ t.bit F.LPE_ERR.COEF_REJ = true ∧
          OnlyWords [R.LPE_TAB_ADDR rq.num, R.LPE_ERR] (s.elapse dt) t) ∧
      (s.coefOpen (s.get (F.LPE_TAB_ADDR.ADDR rq.num) / 4 * 4 / 128) = true →
        s.bit (T.LPE_SLOT.GRP_EN (s.get (F.LPE_TAB_ADDR.ADDR rq.num) / 4 * 4 / 128)) = false →
        s.coefFits (s.get (F.LPE_TAB_ADDR.ADDR rq.num) / 4 * 4 / 128) (s.get (F.LPE_TAB_ADDR.ADDR rq.num) / 4 * 4 % 128) v = true →
        ∃ t, exec (.lpeTabDataWrite dt rq v) s = .next t ∧
          (∀ f ∈ keyFields (tabKey 6 (s.get (F.LPE_TAB_ADDR.ADDR rq.num) / 4 * 4)), f.acc = .rw → ∀ b, f.lsb ≤ b → b < f.lsb + f.width →
            (t.word (tabKey 6 (s.get (F.LPE_TAB_ADDR.ADDR rq.num) / 4 * 4))).getLsbD b = v.getLsbD b) ∧
          t.get (F.LPE_TAB_ADDR.ADDR rq.num) = (s.get (F.LPE_TAB_ADDR.ADDR rq.num) + 4) % 2 ^ (F.LPE_TAB_ADDR.ADDR rq.num).width ∧
          SameWords [R.LPE_TAB_ADDR rq.num, R.SYS_ERR, tabKey 6 (s.get (F.LPE_TAB_ADDR.ADDR rq.num) / 4 * 4)] s t)) ∧
    (Writes s rq R.MPG_TAB_DATA → 12288 ≤ s.get (F.MPG_TAB_ADDR.ADDR rq.num) / 4 * 4 ∨
        s.get (F.MPG_TAB_ADDR.ADDR rq.num) / 4 * 4 % 48 < 8 ∨ 24 < s.get (F.MPG_TAB_ADDR.ADDR rq.num) / 4 * 4 % 48 →
      ∃ t, exec (.mpgTabDataWrite dt rq v) s = .next t ∧
        t.get (F.MPG_TAB_ADDR.ADDR rq.num) = (s.get (F.MPG_TAB_ADDR.ADDR rq.num) + 4) % 2 ^ (F.MPG_TAB_ADDR.ADDR rq.num).width ∧
        SameWords [R.MPG_TAB_ADDR rq.num, R.SYS_ERR, tabKey 7 (s.get (F.MPG_TAB_ADDR.ADDR rq.num) / 4 * 4)] s t)

/-- State.reset has every word at its reset value, canonical stores, an empty queue, and the alarm's invariant. In State.reset no word differs from its
reset value, the stores are canonical, nothing is queued, AON is not powered, and the invariant of the alarm holds. Where the spec gives no reset
value, the value is the model's (log entries 4 and 5). -/
def Obligations.ResetIsTheFirstPowerUp : Prop :=
  (∀ k, State.reset.word k = resetWord k) ∧ StoresCanonical State.reset ∧ State.reset.pending = [] ∧ State.reset.powered = false ∧
    AlarmInv State.reset

/-- After every step the alarm's bits and ALARM_OUT tell the truth while AON is powered. For every state in which the invariant holds and every step that
answers a next state, whatever the command: while AON is powered, each of the six bits of SAF_ALARM has the value of its condition (a latched source
with ALARM = 1, START_ALM while not in full service, SYS_SVC BARE or CAP_HELD, TAMPERED, NOACT, GAUNTLET_OK = 0), and ALARM_OUT, as SAF_STAT.ALARM
shows it, is asserted while any is set and until the cap commit. -/
def Obligations.EveryStepKeepsTheAlarmTrue : Prop :=
  ∀ s t : State, AlarmInv s → step s = .next t → AlarmInv t

/-- Time runs by 4 ns + TIM_ADDEND × 2⁻³² ns at each clock, in one stretch or in two. Running the clock m + n ticks is running it m and then n, slewing
included; without a slew, n ticks advance module time, counted in 2⁻³² ns, by exactly n × (4 × 2³² + TIM_ADDEND) modulo its 48-bit seconds, with the
nanoseconds below 10⁹ and the fraction below 2³². Uptime advances by n. -/
def Obligations.ModuleTimeRunsExactly : Prop :=
  ∀ (c : Clock) (a : Int), c.ns < 10 ^ 9 → c.frac < 2 ^ 32 → c.sec < 2 ^ 48 → -3435974 ≤ a → a ≤ 3435974 →
    (∀ m n, c.run a (m + n) = (c.run a m).run a n) ∧
    (∀ n, (c.run a n).ns < 10 ^ 9 ∧ (c.run a n).frac < 2 ^ 32 ∧ (c.run a n).sec < 2 ^ 48 ∧ (c.run a n).up = c.up + n) ∧
    (∀ n, c.slewLeft = 0 →
      (((c.run a n).total * 2 ^ 32 + (c.run a n).frac : Nat) : Int) =
        (((c.total * 2 ^ 32 + c.frac : Nat) : Int) + (n : Int) * (4 * 2 ^ 32 + a)) % (2 ^ 48 * 10 ^ 9 * 2 ^ 32))

/-- Each source of the full reset leaves what a full reset leaves, with its own cause recorded. On a powered module: NRESET_ASSERT, HOLDUP_END,
SYS_RESET_SAVE_DONE while a software reset waits, RTA_FAIL_RETRY while RTA has failed, GAUNTLET_WATCHDOG_EXPIRY while armed and CSB not transferring,
and WATCHDOG_DEFER_LIMIT while deferred, make the full reset (FullReset: what is kept, what is cleared). SYS_RST_CAUSE records exactly the source:
NRESET; POR with HU_END; SWRST; POR; WDOG; WDOG. The RTC runs on; at the end of hold-up it moves to the cell. -/
def Obligations.AFullResetKeepsTheBatteryDomainAndClearsTheRest : Prop :=
  ∀ (s : State) (dt : Nat), s.powered = true →
    (∃ t, exec (.nresetAssert dt) s = .next t ∧ FullReset s t ∧ t.get ⟨R.SYS_RST_CAUSE, 0, 4⟩ = 2 ∧ t.bit F.SYS_RST_CAUSE.HU_END = false ∧
      t.rtc = (s.elapse dt).rtc ∧ ∀ k, k < 0x10000000000 → keyBlock k = 0x0F → t.word k = s.word k) ∧
    (∃ t, exec (.holdupEnd dt) s = .next t ∧ FullReset s t ∧ t.get ⟨R.SYS_RST_CAUSE, 0, 4⟩ = 1 ∧ t.bit F.SYS_RST_CAUSE.HU_END = true ∧
      t.rtc.onCell = true ∧ (s.rtc.onCell = false → t.get F.RTC_BKCNT.COUNT = min (s.get F.RTC_BKCNT.COUNT + 1) (2 ^ F.RTC_BKCNT.COUNT.width - 1))) ∧
    (s.pwr.swReset = true → ∃ t, exec (.sysResetSaveDone dt) s = .next t ∧ FullReset s t ∧ t.get ⟨R.SYS_RST_CAUSE, 0, 4⟩ = 8 ∧
      t.bit F.SYS_RST_CAUSE.HU_END = false ∧ t.rtc = (s.elapse dt).rtc) ∧
    (s.pwr.rtaFailed = true → ∃ t, exec (.rtaFailRetry dt) s = .next t ∧ FullReset s t ∧ t.get ⟨R.SYS_RST_CAUSE, 0, 4⟩ = 1 ∧
      t.bit F.SYS_RST_CAUSE.HU_END = false) ∧
    (s.saf.wdArmed = true → csbBusyState (s.get F.CSB_STAT.STATE) = false →
      ∃ t, exec (.gauntletWatchdogExpiry dt) s = .next t ∧ FullReset s t ∧ t.get ⟨R.SYS_RST_CAUSE, 0, 4⟩ = 4) ∧
    (s.saf.wdArmed = true → csbBusyState (s.get F.CSB_STAT.STATE) = true →
      ∃ t, exec (.gauntletWatchdogExpiry dt) s = .next t ∧ t.saf.wdDeferred = true ∧ SameWords [] s t) ∧
    (s.saf.wdDeferred = true → ∃ t, exec (.watchdogDeferLimit dt) s = .next t ∧ FullReset s t ∧ t.get ⟨R.SYS_RST_CAUSE, 0, 4⟩ = 4)

/-- POWER_ON, the SYS_RESET key, the hold-up marks and the power-fail warning. POWER_ON on an unpowered module powers AON, restarts uptime, loads module
time from the RTC and starts the cap set with domain 0. A write of the key to SYS_RESET starts the saves of a software reset, any other value sets
BADKEY. HU_MIN and HU_RDY set, PWR_HU takes the measured energy, and below 400 mJ HU_LOW sets. PFW_BEGIN sets PFW and PWR_ERR.PFW, counts, drives
PFW_OUT and holds MTR's next saves where its domain runs; PFW_END clears them, takes the duration and drives PFW_OUT back. -/
def Obligations.TheSupplyRowsActOnPowerAlone : Prop :=
  ∀ (s : State) (dt : Nat),
    (∀ low, s.powered = false → s.pwr = State.reset.pwr → s.bit F.PWR_STAT.PFW = false → s.get F.KEY_STAT.LC ≠ 5 → s.key.pendRec = none →
      s.key.chkOk = true → ∃ t, exec (.powerOn dt low) s = .next t ∧ t.powered = true ∧ t.clock.up = 0 ∧
        t.clock.sec = ((s.elapse dt).rtc.sec + 946684800) % 2 ^ 48 ∧ t.bit F.TIM_STAT.UNSET = s.bit F.RTC_STAT.OSF ∧
        t.bit F.RTC_STAT.BATLOW = low ∧ t.pwr.waking = some (0, 0) ∧ t.pwr.phase = 1 ∧ t.bit F.PWR_STAT.SEQ = true ∧
        t.bit F.REC_STAT.RUN = true ∧ t.rtc.onCell = false) ∧
    (∀ rq v, Writes s rq R.SYS_RESET →
      (v = 0x5AFE0001#32 → ∃ t, exec (.sysResetWrite dt rq v) s = .next t ∧ t.pwr.swReset = true ∧ t.powered = s.powered ∧
        t.bit F.SYS_RST_CAUSE.BADKEY = s.bit F.SYS_RST_CAUSE.BADKEY) ∧
      (v ≠ 0x5AFE0001#32 → ∃ t, exec (.sysResetWrite dt rq v) s = .next t ∧ t.bit F.SYS_RST_CAUSE.BADKEY = true ∧
        OnlyWords [R.SYS_RST_CAUSE] (s.elapse dt) t)) ∧
    (s.powered = true → ∃ t, exec (.huMinReached dt) s = .next t ∧ t.bit F.PWR_STAT.HU_MIN = true ∧ OnlyWords [R.PWR_STAT] (s.elapse dt) t) ∧
    (∀ mj, s.powered = true → ∃ t, exec (.huChargeComplete dt mj) s = .next t ∧ t.bit F.PWR_STAT.HU_RDY = true ∧ t.get F.PWR_HU.MJ = min mj 65535 ∧
      t.bit F.PWR_ERR.HU_LOW = (decide (mj < 400) || s.bit F.PWR_ERR.HU_LOW) ∧ OnlyWords [R.PWR_STAT, R.PWR_HU, R.PWR_ERR] (s.elapse dt) t) ∧
    (s.powered = true → s.bit F.PWR_STAT.PFW = false → ∃ t, exec (.pfwBegin dt) s = .next t ∧ t.bit F.PWR_STAT.PFW = true ∧ t.bit F.PWR_ERR.PFW = true ∧
      t.get F.PWR_PFW_CNT.COUNT = min (s.get F.PWR_PFW_CNT.COUNT + 1) 0xFFFFFFFF ∧ (s.domOn 2 = true → t.bit F.MTR_STAT.PF_HOLD = true) ∧
      (s.domOn 1 = true → t.bit F.UPD_STAT.PFW_HOLD = true) ∧ (s.bit F.NSV_STAT.RUN = true → t.bit F.NSV_STAT.SHED = true ∧ t.domOn 13 = false) ∧
      (s.bit F.DOP_STAT.RUN = true → t.bit F.DOP_STAT.SHED = true) ∧ Emit.pin 2 true ∈ t.emitted ∧ t.pwr.pfwUp = (s.elapse dt).clock.up) ∧
    (s.powered = true → s.bit F.PWR_STAT.PFW = true → ∃ t, exec (.pfwEnd dt) s = .next t ∧ t.bit F.PWR_STAT.PFW = false ∧
      t.get F.PWR_PFW_LAST.US = min (((s.elapse dt).clock.up - s.pwr.pfwUp) / 250) 0xFFFFFFFF ∧ t.bit F.MTR_STAT.PF_HOLD = false ∧
      t.bit F.NSV_STAT.SHED = false ∧ t.bit F.DOP_STAT.SHED = false ∧ t.bit F.UPD_STAT.PFW_HOLD = false ∧ Emit.pin 2 false ∈ t.emitted ∧
      t.get F.PWR_PFW_CNT.COUNT = s.get F.PWR_PFW_CNT.COUNT)

/-- The sequencer starts the next domain only after a power-good and the gap, and never during a power-fail warning. DOMAIN_POWER_GOOD of the waking
domain sets its PWR_DOM_STAT bit (NSV and DOP are gated again in phase 2) and begins the gap. At PWR_GAP_EXPIRY, with no domain waking and no warning,
the next domain of the queue wakes; with a warning none does; with none left the set is done. DOMAIN_FAIL sets the domain's PWR_DOM_FAIL bit and
PWR_ERR.DOM_FAIL and raises SAF source 22, then the next domain wakes; a failed RTA ends the start. -/
def Obligations.DomainsStartOneAtATimeInOrder : Prop :=
  ∀ (s : State) (dt : Nat),
    (∀ d u, d < 16 → s.pwr.waking = some (d, u) → ∃ t, exec (.domainPowerGood dt d) s = .next t ∧ t.pwr.waking = none ∧ t.pwr.gap = true ∧
      t.pwr.queue = s.pwr.queue ∧ t.domOn d = !((d == 13 || d == 14) && s.pwr.phase == 2) ∧
      ∀ e, e < 16 → e ≠ d → t.domOn e = s.domOn e) ∧
    (s.pwr.gap = true → s.pwr.waking = none →
      (∀ d rest, s.pwr.queue = d :: rest → s.bit F.PWR_STAT.PFW = false → ∃ t, exec (.pwrGapExpiry dt) s = .next t ∧
        t.pwr.waking = some (d, (s.elapse dt).clock.up) ∧ t.pwr.queue = rest ∧ t.pwr.gap = false ∧ t.word R.PWR_DOM_STAT = s.word R.PWR_DOM_STAT) ∧
      (s.bit F.PWR_STAT.PFW = true → ∃ t, exec (.pwrGapExpiry dt) s = .next t ∧ t.pwr.waking = none ∧ t.pwr.queue = s.pwr.queue ∧ t.pwr.gap = false ∧
        SameWords [] s t) ∧
      (s.pwr.queue = [] → s.bit F.PWR_STAT.PFW = false → ∃ t, exec (.pwrGapExpiry dt) s = .next t ∧ t.bit F.PWR_STAT.SEQ = false ∧
        t.pwr.waking = none ∧ t.pwr.gap = false)) ∧
    (∀ d u, 0 < d → d < 16 → s.pwr.waking = some (d, u) → s.pwr.gap = false → ∃ t, exec (.domainFail dt d) s = .next t ∧
      t.bit (domFailFld d) = true ∧ t.bit F.PWR_ERR.DOM_FAIL = true ∧
      (∀ e rest, s.pwr.queue = e :: rest → s.bit F.PWR_STAT.PFW = false → t.pwr.waking = some (e, (s.elapse dt).clock.up) ∧ t.pwr.queue = rest)) ∧
    (∀ u, s.pwr.waking = some (0, u) → ∃ t, exec (.domainFail dt 0) s = .next t ∧ t.bit (domFailFld 0) = true ∧ t.pwr.rtaFailed = true ∧
      t.pwr.waking = none ∧ t.pwr.queue = [])

/-- SLOT_SELECT records both headers and takes the first slot of R401's four choices. With the ROM before its choice: a slot whose header passes shows its
IMG_ID and IMG_GEN, a slot that fails keeps its registers (0 since the reset). The slot taken is the preferred one if it passed and is not rejected,
else the other if it passed and is not rejected, else the preferred if it passed, else the other if it passed; the last two set REJ_USED. With none,
SYS_SVC is BARE and CFG_ERR carries NO_IMAGE, SECT 0xFF, the preferred slot and both codes. Without a valid selection record PREF, the REJ marks and
the floor read 0 and SELINIT is set; of two copies the higher generation is read. What the flash and the cryptography answer are operands (log entry
6). -/
def Obligations.TheRomTakesTheFirstSlotOfTheChoice : Prop :=
  ∀ (s : State) (dt : Nat) (i0 i1 : CfgImage) (ddr : Bool) (mhz : Nat), s.svc = 0 → s.cfg.image = none → s.domOn 0 = true →
    ∃ t, exec (.slotSelect dt i0 i1 ddr mhz) s = .next t ∧
      (let code := fun n => (s.elapse dt).selRead.headerCode (if n = 0 then i0.hdr else i1.hdr)
       let id := fun n => if n = 0 then i0.hdr.id else i1.hdr.id
       let p := t.get F.CFG_SEL.PREF
       let o := 1 - p
       (∀ n, n < 2 → t.get (F.CFG_SLOTn_ID.VALUE n) = if code n = 0 then id n % 2 ^ 32 else s.get (F.CFG_SLOTn_ID.VALUE n)) ∧
       (code p = 0 → t.bit (rejFld p) = false → t.get F.CFG_STAT.SLOT = p ∧ t.bit F.CFG_STAT.REJ_USED = false ∧ t.get F.CFG_ID.VALUE = id p % 2 ^ 32) ∧
       (¬ (code p = 0 ∧ t.bit (rejFld p) = false) → code o = 0 → t.bit (rejFld o) = false →
         t.get F.CFG_STAT.SLOT = o ∧ t.bit F.CFG_STAT.REJ_USED = false ∧ t.get F.CFG_ID.VALUE = id o % 2 ^ 32) ∧
       (code p = 0 → t.bit (rejFld p) = true → ¬ (code o = 0 ∧ t.bit (rejFld o) = false) →
         t.get F.CFG_STAT.SLOT = p ∧ t.bit F.CFG_STAT.REJ_USED = true ∧ t.get F.CFG_ID.VALUE = id p % 2 ^ 32) ∧
       (code p ≠ 0 → code o = 0 → t.bit (rejFld o) = true →
         t.get F.CFG_STAT.SLOT = o ∧ t.bit F.CFG_STAT.REJ_USED = true ∧ t.get F.CFG_ID.VALUE = id o % 2 ^ 32) ∧
       (code p ≠ 0 → code o ≠ 0 → t.svc = 1 ∧ t.cfg.image = none ∧ (s.get F.CFG_ERR.CODE = 0 →
         t.get F.CFG_ERR.CODE = 1 ∧ t.get F.CFG_ERR.SECT = 0xFF ∧ t.get F.CFG_ERR.SLOT = p ∧ t.get F.CFG_ERR_ADDR.KIND = 0 ∧
         t.get F.CFG_ERR_ADDR.ADDR = (code 0 + 256 * code 1) % 2 ^ 24)) ∧
       (s.cfg.selA = none → s.cfg.selB = none → p = 0 ∧ t.bit F.CFG_SEL.REJ0 = false ∧ t.bit F.CFG_SEL.REJ1 = false ∧
         t.get F.CFG_FLOOR.GEN = 0 ∧ t.bit F.CFG_STAT.SELINIT = true) ∧
       (∀ a b, s.cfg.selA = some a → s.cfg.selB = some b → t.get F.CFG_FLOOR.GEN = (if a.gen < b.gen then b.floor else a.floor) % 2 ^ 32 ∧
         p = (if a.gen < b.gen then b.pref else a.pref) % 2 ∧ t.bit F.CFG_STAT.SELINIT = false))

/-- CAP_COMMIT starts Cap-mode service and phase 2; CAP_STAGE_FAIL leaves bare Cap mode with the rule's code. With the ROM before the cap commit: where
the cap section passes, CAP_COMMIT sets CAP_OK, releases ALARM_OUT's start condition, runs the cap loops, writes SYS_T_CAP, and, unless a tamper
halted the start (SYS_SVC then reads CAP), phase 2 starts with the first full-set domain and SYS_SVC reads LOADING. Where it fails a rule,
CAP_STAGE_FAIL enters BARE with the rule's code as the first failure. -/
def Obligations.TheCapStageCommitsOrLeavesTheModuleBare : Prop :=
  ∀ (s : State) (dt : Nat) (img : CfgImage), s.svc = 0 → s.bit F.CFG_STAT.CAP_OK = false → s.domOn 0 = true → s.cfg.image = some img →
    (∀ s1, (s.elapse dt).capStage img = .ok s1 → ∃ t, exec (.capCommit dt) s = .next t ∧ t.bit F.CFG_STAT.CAP_OK = true ∧
      t.bit F.SYS_SVC.CAPLOOP = true ∧ t.saf.capAlarm = true ∧ t.get F.SYS_T_CAP.MS = (s.elapse dt).clock.up / 250000 % 2 ^ 32 ∧
      (s.bit F.SYS_SVC.TSTART = true → t.svc = 2) ∧
      (s.bit F.SYS_SVC.TSTART = false → s.pwr.waking = none → s.pwr.gap = false → s.pwr.queue = [] → s.bit F.PWR_STAT.PFW = false →
        t.svc = 3 ∧ t.pwr.phase = 2 ∧ t.pwr.waking = some (6, (s.elapse dt).clock.up))) ∧
    (∀ f, (s.elapse dt).capStage img = .error f → ∃ t, exec (.capStageFail dt) s = .next t ∧ t.svc = 1 ∧ t.bit F.CFG_STAT.CAP_OK = false ∧
      t.saf.capAlarm = s.saf.capAlarm ∧ (s.get F.CFG_ERR.CODE = 0 → t.get F.CFG_ERR.CODE = f.code % 256 ∧ t.get F.CFG_ERR.SECT = f.sect % 256 ∧
        t.get F.CFG_ERR.SLOT = s.get F.CFG_STAT.SLOT ∧ t.get F.CFG_ERR_ADDR.KIND = f.kind % 16 ∧ t.get F.CFG_ERR_ADDR.ADDR = f.addr % 2 ^ 24))

/-- FULL_COMMIT sets FULL_OK and the program identity; FULL_LOAD_FAIL holds Cap mode, rejects the slot and gates the full set. While LOADING with DRAM
trained and no power-fail warning: where the full stage passes, FULL_COMMIT sets FULL_OK, CYC_PROG_ID and CFG_LOAD_MS; where it fails, FULL_LOAD_FAIL
writes the first failure, sets HELD, marks the slot in use rejected, enters CAP_HELD and gates every full-set domain. DRAM_TRAINED loads the stored
firmware into both complexes, or without one sets NOFW and holds Cap mode. -/
def Obligations.TheFullStageCommitsOrHoldsCapMode : Prop :=
  ∀ (s : State) (dt : Nat),
    (∀ img, s.svc = 3 → s.cfg.trained = true → s.bit F.CFG_STAT.FULL_OK = false → s.bit F.PWR_STAT.PFW = false → s.cfg.image = some img →
      (∀ s1, (s.elapse dt).fullStage img = (s1, none) → ∃ t, exec (.fullCommit dt) s = .next t ∧ t.bit F.CFG_STAT.FULL_OK = true ∧
        t.get F.CYC_PROG_ID.ID = img.hdr.id % 2 ^ 32 ∧ t.get F.CFG_LOAD_MS.MS = (s.elapse dt).clock.up / 250000 % 2 ^ 32) ∧
      (∀ s0 f, (s.elapse dt).fullStage img = (s0, some f) → ∃ t, exec (.fullLoadFail dt) s = .next t ∧ t.svc = 5 ∧ t.bit F.CFG_STAT.HELD = true ∧
        t.bit (rejFld (s.get F.CFG_STAT.SLOT)) = true ∧ t.cfg.dirty = true ∧ (∀ d, d ∈ [6, 7, 8, 9, 10, 13, 14, 15] → s0.domPresent d = true → t.domOn d = false) ∧
        (s0.get F.CFG_ERR.CODE = 0 → t.get F.CFG_ERR.CODE = f.code % 256 ∧ t.get F.CFG_ERR.SECT = f.sect % 256 ∧
          t.get F.CFG_ERR.SLOT = s.get F.CFG_STAT.SLOT))) ∧
    (∀ ow, s.svc = 3 → s.cfg.trained = false → s.domOn 6 = true →
      (∀ g, ∃ t, exec (.dramTrained dt (some g) ow) s = .next t ∧ t.cfg.trained = true ∧ t.get F.UPD_FW_GEN.GEN = g % 2 ^ 32 ∧
        t.get F.UPD_SB_GEN.GEN = g % 2 ^ 32 ∧ t.svc = 3 ∧ (s.upd.overwrite = true → t.upd.overwrite = !ow)) ∧
      (∃ t, exec (.dramTrained dt none ow) s = .next t ∧ t.bit F.UPD_STAT.NOFW = true ∧ t.bit F.UPD_ERR.NOFW = true ∧ t.svc = 5 ∧
        ∀ d, d ∈ [6, 7, 8, 9, 10, 13, 14, 15] → s.domPresent d = true → t.domOn d = false))

/-- The handover to full service, the loops' start, and the selection record's writer. FULL_SERVICE_BEGIN, LOADING with the full commit done and DRAM and
PGR running: PGR runs and schedules, SYS_SVC reads FULL, SYS_T_FULL is written and trajectory application runs. LOOP_SERVICE_START with PGR running:
LPE runs, the cap loops stand still. A CLR_REJ write clears both REJ marks and reads 1 until SELECTION_RECORD_COMMITTED writes the older copy with the
generation + 1. -/
def Obligations.FullServiceBeginsAfterTheFullCommit : Prop :=
  ∀ (s : State) (dt : Nat),
    (s.svc = 3 → s.bit F.CFG_STAT.FULL_OK = true → s.domOn 6 = true → s.domOn 7 = true → ∃ t, exec (.fullServiceBegin dt) s = .next t ∧
      t.svc = 4 ∧ t.bit F.PGR_STAT.RUN = true ∧ t.bit F.PGR_STAT.SCHED = true ∧ t.get F.SYS_T_FULL.MS = (s.elapse dt).clock.up / 250000 % 2 ^ 32 ∧
      t.bit F.TRJ_STAT.RUN = true ∧ t.trj.lastUp = (s.elapse dt).clock.up) ∧
    (s.bit F.PGR_STAT.RUN = true → s.bit F.LPE_STAT.RUN = false → ∃ t, exec (.loopServiceStart dt) s = .next t ∧ t.bit F.LPE_STAT.RUN = true ∧
      t.bit F.SYS_SVC.CAPLOOP = false ∧ t.bit F.LPE_STAT.CAP = false) ∧
    (∀ rq, Writes s rq R.CFG_CTRL → ∃ t, exec (.clrRejWrite dt rq) s = .next t ∧ t.bit F.CFG_SEL.REJ0 = false ∧ t.bit F.CFG_SEL.REJ1 = false ∧
      t.bit F.CFG_CTRL.CLR_REJ = true ∧ t.cfg.dirty = true ∧ t.get F.CFG_SEL.PREF = s.get F.CFG_SEL.PREF ∧ SameWords [R.CFG_CTRL, R.CFG_SEL] s t) ∧
    (s.cfg.dirty = true → ∃ t, exec (.selectionRecordCommitted dt) s = .next t ∧ t.cfg.dirty = false ∧ t.bit F.CFG_CTRL.CLR_REJ = false ∧
      t.cfg.newB = !s.cfg.newB ∧ t.cfg.gen = s.cfg.gen + 1 ∧
      (if s.cfg.newB then t.cfg.selA else t.cfg.selB) = some ⟨s.cfg.gen + 1, s.get F.CFG_SEL.PREF, s.bit F.CFG_SEL.REJ0, s.bit F.CFG_SEL.REJ1,
        s.get F.CFG_FLOOR.GEN, s.cfg.pend⟩ ∧
      (if s.cfg.newB then t.cfg.selB = s.cfg.selB else t.cfg.selA = s.cfg.selA) ∧ SameWords [R.CFG_CTRL] s t)

/-- Strobes, discarded frames, and the loss and return of an island. STROBE_ISSUE counts the strobe and sends it to every present island. A discarded
frame (deadline missed, or CRC or sequence wrong) of a present island whose link is down counts in its counter, holds the samples and starts the run
of good frames anew; of one whose link is up, the third in a row takes the link down with its MTR_ERR bit. ISLAND_DOWN clears LINK, sets the error bit
and INV on every enabled point and suspends accumulation; ISLAND_UP sets LINK. The 32nd good frame in a row brings the link up. A frame without
factory calibration takes it down and sets FCAL. PSEUDO_CYCLE with no reference closes a cycle: frequency 0, the cycle sums restart. -/
def Obligations.IslandsGoDownAndComeUp : Prop :=
  ∀ (s : State) (dt : Nat),
    (∃ t, exec (.strobeIssue dt) s = .next t ∧ t.mtr.strobeSeq = (s.mtr.strobeSeq + 1) % 256 ∧ SameWords [] s t ∧
      (∀ i, i < 2 → s.islPresent i = true → Emit.strobe i ((s.mtr.strobeSeq + 1) % 256) ∈ t.emitted ∧
        (t.isl i).strobes.getLast? = some ((s.mtr.strobeSeq + 1) % 256, (s.elapse dt).clock.sec, (s.elapse dt).clock.ns))) ∧
    (∀ i, i < 2 → s.islPresent i = true → s.bit (F.ISLn_STAT.LINK i) = false →
      ∃ t, exec (.frameDeadlineMiss dt i) s = .next t ∧ t.get (F.ISLn_MISS_CNT.COUNT i) = min (s.get (F.ISLn_MISS_CNT.COUNT i) + 1) 0xFFFFFFFF ∧
        (t.isl i).good = 0 ∧ (t.isl i).held = true ∧ (t.isl i).cal = (s.isl i).cal ∧ SameWords [R.ISLn_MISS_CNT i] s t) ∧
    (∀ i, i < 2 → s.islPresent i = true → s.bit (F.ISLn_STAT.LINK i) = true → 2 ≤ (s.isl i).bad →
      ∃ t, exec (.frameDeadlineMiss dt i) s = .next t ∧ t.bit (F.ISLn_STAT.LINK i) = false ∧
        t.bit (if i = 0 then F.MTR_ERR.LINK0 else F.MTR_ERR.LINK1) = true ∧ (t.isl i).suspended = true) ∧
    (∀ f : IslandFrame, f.isl < 2 → s.islPresent f.isl = true → s.bit (F.ISLn_STAT.LINK f.isl) = false → f.ftype = 1 →
      ((f.crcOk = false ∨ ∀ q ∈ (s.isl f.isl).strobes.head?, q.1 ≠ f.seq) →
        ∃ t, exec (.islandFrameReceived dt f) s = .next t ∧
          t.get (F.ISLn_CRC_CNT.COUNT f.isl) = min (s.get (F.ISLn_CRC_CNT.COUNT f.isl) + 1) 0xFFFFFFFF ∧ (t.isl f.isl).good = 0 ∧
          t.bit (F.ISLn_STAT.LINK f.isl) = false) ∧
      (∀ q rest, f.crcOk = true → (s.isl f.isl).strobes = q :: rest → q.1 = f.seq → f.seq < 256 → f.status / 2 % 2 = 1 → (s.isl f.isl).good + 1 < 32 →
        ∃ t, exec (.islandFrameReceived dt f) s = .next t ∧ (t.isl f.isl).good = (s.isl f.isl).good + 1 ∧ (t.isl f.isl).bad = 0 ∧
          t.bit (F.ISLn_STAT.LINK f.isl) = false ∧ t.get (F.ISLn_STAT.SEQ f.isl) = f.seq ∧ t.bit (F.ISLn_STAT.FCAL f.isl) = true) ∧
      (∀ q rest, f.crcOk = true → (s.isl f.isl).strobes = q :: rest → q.1 = f.seq → f.seq < 256 → f.status / 2 % 2 = 1 → 31 ≤ (s.isl f.isl).good →
        ∃ t, exec (.islandFrameReceived dt f) s = .next t ∧ t.bit (F.ISLn_STAT.LINK f.isl) = true ∧ t.get (F.ISLn_STAT.SEQ f.isl) = f.seq) ∧
      (∀ q rest, f.crcOk = true → (s.isl f.isl).strobes = q :: rest → q.1 = f.seq → f.status / 2 % 2 = 0 →
        ∃ t, exec (.islandFrameReceived dt f) s = .next t ∧ t.bit (F.ISLn_STAT.LINK f.isl) = false ∧ t.bit (F.ISLn_STAT.FCAL f.isl) = false ∧
          t.bit (if f.isl = 0 then F.MTR_ERR.FCAL0 else F.MTR_ERR.FCAL1) = true)) ∧
    (∀ i, i < 2 → s.islPresent i = true → s.bit (F.ISLn_STAT.LINK i) = true → ∃ t, exec (.islandDown dt i) s = .next t ∧
      t.bit (F.ISLn_STAT.LINK i) = false ∧ t.bit (if i = 0 then F.MTR_ERR.LINK0 else F.MTR_ERR.LINK1) = true ∧ (t.isl i).suspended = true ∧
      (t.isl i).downAt = (s.elapse dt).clock.up ∧ ∀ p ∈ s.islPts i, t.bit (F.PTn_STAT.INV p) = true) ∧
    (∀ i, i < 2 → s.islPresent i = true → s.bit (F.ISLn_STAT.LINK i) = false → ∃ t, exec (.islandUp dt i) s = .next t ∧
      t.bit (F.ISLn_STAT.LINK i) = true ∧ (t.isl i).bad = 0 ∧ (t.isl i).suspended = (s.isl i).suspended) ∧
    (∀ i, i < 2 → s.islPresent i = true → s.bit (F.ISLn_STAT.LINK i) = true → s.get (F.ISLn_STAT.REFPH i) = 3 →
      ∃ t, exec (.pseudoCycle dt i) s = .next t ∧ t.get (F.ISLn_FREQ.FREQ i) = 0 ∧ (t.isl i).n = 0 ∧
        (t.isl i).winCycles = (s.isl i).winCycles + 1 ∧ (t.isl i).suspended = false)

/-- PT_LATCH copies the live totals with sequence, instant and status; a window's close advances AGG_SEQ. PT_LATCH of a present, enabled point whose
island is up: each latched register takes its live total, PTn_LATCH_SEQ advances by 1, LATCH_SEC and LATCH_NS take module time, LATCH_STAT shows
VALID, PFR on the first latch after a start, and the interval's REV, DEG, GAP and PSEUDO, which start anew; no word of another point or block changes,
and the live totals stay. AGG_WINDOW_CLOSE of a present island: every enabled point of it has AGG_OK and AGG_SEQ + 1, and the island's window sums
restart. -/
def Obligations.ALatchCopiesTheTotalsInOneClock : Prop :=
  ∀ (s : State) (dt : Nat),
    (∀ p, p < 8 → s.ptPresent p = true → s.bit (F.PTn_CFG.EN p) = true → s.bit (F.ISLn_STAT.LINK (p / 4)) = true →
      ∃ t, exec (.ptLatch dt p) s = .next t ∧
        (∀ e, e < 8 → t.get (F.PTn_LATD_LO.E p e) = (s.pt p).tot.getD e 0 / 65536 % 2 ^ 32 ∧
          t.get (F.PTn_LATD_HI.E p e) = (s.pt p).tot.getD e 0 / 65536 / 2 ^ 32 % 2 ^ 32) ∧
        t.get (F.PTn_LATCH_SEQ.SEQ p) = ((s.pt p).seq + 1) % 2 ^ 32 ∧ (t.pt p).seq = ((s.pt p).seq + 1) % 2 ^ 32 ∧
        t.get (F.PTn_LATCH_SEC.SEC p) = (s.elapse dt).sec32 ∧ t.get (F.PTn_LATCH_NS.NS p) = (s.elapse dt).nsNow % 2 ^ 30 ∧
        t.bit (F.PTn_LATCH_STAT.VALID p) = true ∧ t.bit (F.PTn_LATCH_STAT.PFR p) = (s.pt p).first ∧
        ((s.pt p).rev ≤ 255 → t.bit (F.PTn_LATCH_STAT.REV p) = decide (0 < (s.pt p).rev) ∧ t.get (F.PTn_LATCH_STAT.REV_CNT p) = (s.pt p).rev ∧
          t.bit (F.PTn_LATCH_STAT.DEG p) = (s.pt p).deg ∧ t.bit (F.PTn_LATCH_STAT.GAP p) = (s.pt p).gap ∧
          t.bit (F.PTn_LATCH_STAT.PSEUDO p) = (s.pt p).pseudo ∧ t.get (F.PTn_LATCH_STAT.GAP_CYC p) = min 65535 (s.pt p).gapCyc) ∧
        (t.pt p).tot = (s.pt p).tot ∧ (t.pt p).rev = 0 ∧ (t.pt p).gap = false ∧ (t.pt p).deg = false ∧ (t.pt p).pseudo = false ∧
        (t.pt p).first = false ∧ (∀ q, q ≠ p → t.pt q = s.pt q) ∧
        (∀ k, ¬ (R.PTn_LATCH_SEQ p ≤ k ∧ k ≤ R.PTn_LATCH_NS p) → ¬ (R.PTn_LATD_LO p 0 ≤ k ∧ k ≤ R.PTn_LATD_HI p 7) → k ∉ alarmKeys →
          t.word k = s.word k)) ∧
    (∀ i f h, i < 2 → s.islPresent i = true → ∃ t, exec (.aggWindowClose dt i f h) s = .next t ∧
      (∀ p ∈ s.islPts i, t.bit (F.PTn_STAT.AGG_OK p) = true ∧ t.get (F.PTn_AGG_SEQ.SEQ p) = (s.get (F.PTn_AGG_SEQ.SEQ p) + 1) % 2 ^ 32) ∧
      (t.isl i).winN = 0 ∧ (t.isl i).winCycles = 0 ∧ (t.isl i).sumP = (s.isl i).sumP)

/-- A save captures the totals and starts a new bank; its commit writes the older copy with the next generation. MTR_PERIODIC_SAVE and a performed
MTR_SAVE, with the copies merged and no warning held: with no save in progress MTR captures every point's totals with GEN + 1, turns to the other
residual bank, empty with GEN + 1, and shows SAVE_BUSY, and HQC captures too where it runs; with one in progress the save is queued. While PF_HOLD
neither acts. MTR_SAVE_COMMIT with no save queued writes the capture over the older copy, shows the generation and the copy, empties the bank before,
and SAVE reads 0 again. HQC_SAVE_COMMIT does the like; HQC_SAVE_LATE with a save still in progress sets SAVE_LATE. -/
def Obligations.SavesWriteTheOlderCopy : Prop :=
  ∀ (s : State) (dt : Nat),
    (s.bit F.MTR_STAT.PF_HOLD = false → s.bit F.MTR_STAT.MERGED = true →
      (s.mtr.cap = none →
        (∃ t, exec (.mtrPeriodicSave dt) s = .next t ∧ t.mtr.cap = some (s.get F.MTR_FRAM_GEN.GEN + 1, s.mtrTotals) ∧ t.bit F.MTR_STAT.SAVE_BUSY = true ∧
          t.mtr.cur = 1 - s.mtr.cur ∧ t.mtr.bank = ⟨s.get F.MTR_FRAM_GEN.GEN + 1, [], false, true⟩ ∧ t.mtr.pts = s.mtr.pts ∧
          (s.bit F.HQC_STAT.RUN = true → t.hqc.cap.isSome ∧ t.bit F.HQC_STAT.SAVE_BUSY = true) ∧ SameWords [R.MTR_STAT, R.HQC_STAT] s t) ∧
        (∀ rq, Writes s rq R.MTR_CTRL → ∃ t, exec (.mtrSave dt rq) s = .next t ∧ t.bit F.MTR_CTRL.SAVE = true ∧
          t.mtr.cap = some (s.get F.MTR_FRAM_GEN.GEN + 1, s.mtrTotals) ∧ t.bit F.MTR_STAT.SAVE_BUSY = true ∧
          SameWords [R.MTR_CTRL, R.MTR_STAT, R.HQC_STAT] s t)) ∧
      (s.mtr.cap ≠ none → ∃ t, exec (.mtrPeriodicSave dt) s = .next t ∧ t.mtr = { s.mtr with queued := true } ∧ SameWords [] s t)) ∧
    (s.bit F.MTR_STAT.PF_HOLD = true → (∃ t, exec (.mtrPeriodicSave dt) s = .next t ∧ t.mtr = s.mtr ∧ t.hqc = s.hqc ∧ SameWords [] s t) ∧
      (∀ rq, Writes s rq R.MTR_CTRL → ∃ t, exec (.mtrSave dt rq) s = .next t ∧ t.mtr = s.mtr ∧ t.hqc = s.hqc ∧ SameWords [] s t)) ∧
    (∀ g pts, s.mtr.cap = some (g, pts) → s.mtr.queued = false → ∃ t, exec (.mtrSaveCommit dt) s = .next t ∧ t.mtr.cap = none ∧
      (s.bit F.MTR_STAT.COPY = false → t.mtr.copyB = some ⟨g, pts, true⟩ ∧ t.mtr.copyA = s.mtr.copyA) ∧
      (s.bit F.MTR_STAT.COPY = true → t.mtr.copyA = some ⟨g, pts, true⟩ ∧ t.mtr.copyB = s.mtr.copyB) ∧
      t.bit F.MTR_STAT.COPY = !s.bit F.MTR_STAT.COPY ∧ t.get F.MTR_FRAM_GEN.GEN = g % 2 ^ 32 ∧ t.bit F.MTR_STAT.SAVE_BUSY = false ∧
      t.bit F.MTR_CTRL.SAVE = false ∧ t.mtr.bank = s.mtr.bank ∧ (if s.mtr.cur = 0 then t.mtr.bank1 else t.mtr.bank0) = bankEmpty ∧
      SameWords [R.MTR_CTRL, R.MTR_STAT, R.MTR_FRAM_GEN] s t) ∧
    (∀ c, s.hqc.cap = some c → (∃ t, exec (.hqcSaveCommit dt) s = .next t ∧ t.hqc.cap = none ∧ t.bit F.HQC_STAT.SAVE_BUSY = false ∧
        (s.bit F.HQC_STAT.COPY = false → t.hqc.copyB = some c ∧ t.hqc.copyA = s.hqc.copyA) ∧
        (s.bit F.HQC_STAT.COPY = true → t.hqc.copyA = some c ∧ t.hqc.copyB = s.hqc.copyB) ∧
        t.bit F.HQC_STAT.COPY = !s.bit F.HQC_STAT.COPY ∧ t.get F.HQC_FRAM_GEN.GEN = c.gen % 2 ^ 32 ∧ t.hqc.pts = s.hqc.pts ∧
        SameWords [R.HQC_STAT, R.HQC_FRAM_GEN] s t) ∧
      (∃ t, exec (.hqcSaveLate dt) s = .next t ∧ t.bit F.HQC_ERR.SAVE_LATE = true ∧ OnlyWords [R.HQC_ERR] (s.elapse dt) t))

/-- A local step samples every local point; a billing boundary that falls due latches every enabled point. HQC_LOCAL_STEP while HQC runs: every enabled
local point holds a sample, and one that had none, or whose last step lies at least 1 ms back, has this instant as its last sample's. HQC_BILL_TIMEOUT
with the boundary passed: HQC_BILL_SEQ advances by 1, HQC_BILL_SEC takes the boundary's seconds, the next boundary is one interval on, and each
enabled point's latch set takes the totals as they stood at the boundary with the next sequence and VALID. -/
def Obligations.HeatStepsAndBillingLatches : Prop :=
  ∀ (s : State) (dt : Nat), s.bit F.HQC_STAT.RUN = true →
    (∀ pulses, ∃ t, exec (.hqcLocalStep dt pulses) s = .next t ∧ ∀ m ∈ s.hqcPts, 4096 ≤ m → (t.hqcPt m).has = true ∧
      ((s.hqcPt m).has = false ∨ (s.hqcPt m).up + 250000 ≤ (s.elapse dt).clock.up →
        (t.hqcPt m).time = (s.elapse dt).now ∧ (t.hqcPt m).up = (s.elapse dt).clock.up)) ∧
    (s.hqc.nextB ≤ (s.elapse dt).now → ∃ t, exec (.hqcBillTimeout dt) s = .next t ∧
      t.get F.HQC_BILL_SEQ.SEQ = (s.get F.HQC_BILL_SEQ.SEQ + 1) % 2 ^ 32 ∧ t.get F.HQC_BILL_SEC.SEC = s.hqc.nextB / 10 ^ 9 % 2 ^ 32 ∧
      t.hqc.lastB = s.hqc.nextB ∧ t.hqc.nextB = s.hqc.nextB + s.billNs ∧
      (s.hqcPts.Nodup → ∀ m ∈ s.hqcPts, t.get (F.W_LATCH_SEQ.SEQ m) = ((s.hqcPt m).seq + 1) % 2 ^ 32 ∧
        (t.hqcPt m).snap = none ∧ (t.hqcPt m).first = false ∧ (t.hqcPt m).tot = (s.hqcPt m).tot ∧ t.bit (F.W_LATCH_STAT.VALID m) = true ∧
        ∀ e, e < 5 → t.get (F.W_LATD_LO.E m e) = (match (s.hqcPt m).snap with
          | some c => c.1
          | none => (s.hqcPt m).tot).getD e 0 / 65536 % 2 ^ 32))

/-- A valid HELLO begins a set-up, and its end gives the station a new session. A HELLO that passes the checks, of a station with none in work: with fewer
than 4 set-ups in work and none queued, KEY is asked for K_st; with the key at hand a good tag puts the station in work and a bad one counts in
SIO_AUTH_CNT and sets AUTH; with the key to be unwrapped it waits; without one KEY and CAUSE 6 are set. With 4 in work it is queued, and with 64
queued SETUP_Q sets. SESSION_SETUP_DONE with random bits at hand sends ACCEPT and gives the station a non-zero session, counters 0, state SETUP and
miss count 0, and a station that was UP cause RESTART and a down transition; without random bits the station keeps what it had. -/
def Obligations.AHelloLeadsToASession : Prop :=
  ∀ (s : State) (dt : Nat),
    (∀ h nonce, s.tampered = false → SspOk s h 1 → h.len = 20 → (∀ u ∈ s.sio.setups, u.stn ≠ h.station) → (∀ u ∈ s.sio.queue, u.stn ≠ h.station) →
      (s.sio.setups.length < 4 → s.sio.queue = [] →
        ((s.keyRequest (.sio h.station) (s.stnGet h.station T.SIO_STN.KEY_ID) 1).2 = .hit → h.tagOk = true →
          ∃ t, exec (.helloReceived dt h nonce) s = .next t ∧
            t.sio.setups = s.sio.setups ++ [⟨h.station, h.counter, nonce, true, s.stnGet h.station T.SIO_STN.KEY_ID, false⟩]) ∧
        ((s.keyRequest (.sio h.station) (s.stnGet h.station T.SIO_STN.KEY_ID) 1).2 = .hit → h.tagOk = false →
          ∃ t, exec (.helloReceived dt h nonce) s = .next t ∧ t.sio.setups = s.sio.setups ∧ t.bit F.SIO_ERR.AUTH = true ∧
            t.get F.SIO_AUTH_CNT.COUNT = min (s.get F.SIO_AUTH_CNT.COUNT + 1) 0xFFFFFFFF) ∧
        ((s.keyRequest (.sio h.station) (s.stnGet h.station T.SIO_STN.KEY_ID) 1).2 = .wait →
          ∃ t, exec (.helloReceived dt h nonce) s = .next t ∧
            t.sio.setups = s.sio.setups ++ [⟨h.station, h.counter, nonce, h.tagOk, s.stnGet h.station T.SIO_STN.KEY_ID, true⟩]) ∧
        ((s.keyRequest (.sio h.station) (s.stnGet h.station T.SIO_STN.KEY_ID) 1).2 = .fail →
          ∃ t, exec (.helloReceived dt h nonce) s = .next t ∧ t.sio.setups = s.sio.setups ∧ t.bit F.SIO_ERR.KEY = true ∧
            t.get (F.SW_STAT.CAUSE h.station) = 6)) ∧
      (4 ≤ s.sio.setups.length → s.sio.queue.length < 64 → ∃ t, exec (.helloReceived dt h nonce) s = .next t ∧ t.sio.setups = s.sio.setups ∧
        t.sio.queue = s.sio.queue ++ [⟨h.station, h.counter, nonce, h.tagOk, s.stnGet h.station T.SIO_STN.KEY_ID, false⟩] ∧ SameWords [] s t) ∧
      (4 ≤ s.sio.setups.length → 64 ≤ s.sio.queue.length → ∃ t, exec (.helloReceived dt h nonce) s = .next t ∧ t.sio = s.sio ∧
        t.bit F.SIO_ERR.SETUP_Q = true ∧ SameWords [R.SIO_ERR] s t)) ∧
    (∀ n u, n < 4096 → s.sio.setups.find? (fun v => v.stn == n && !v.needKey) = some u → s.sio.queue = [] →
      (s.bit F.KEY_STAT.ENT_OK = true → ∃ t, exec (.sessionSetupDone dt n) s = .next t ∧ (t.stn n).session ≠ 0 ∧ (t.stn n).rxCtr = 0 ∧
        (t.stn n).rx = [] ∧ (∃ nm, (t.stn n).sess = some (u.keyId, u.nonce, nm)) ∧ t.get (F.SW_SESSION.SESSION n) = (t.stn n).session % 2 ^ 32 ∧
        t.get (F.SW_STAT.STATE n) = 2 ∧ t.get (F.SW_STAT.MISS n) = 0 ∧ t.bit (downFld n) = true ∧ (∀ v ∈ t.sio.setups, v.stn ≠ n) ∧
        (∃ p, Emit.ssp 2 n 0 0 (2 ^ 63 + u.counter) p ∈ t.emitted) ∧
        (s.stnUp n = true → t.get (F.SW_STAT.CAUSE n) = 2 ∧ (t.stn n).withheld = true ∧ t.get (F.SW_DOWN_SEC.SEC n) = (s.elapse dt).sec32)) ∧
      (s.bit F.KEY_STAT.ENT_OK = false → ∃ t, exec (.sessionSetupDone dt n) s = .next t ∧ t.sio.stns = s.sio.stns ∧
        t.word (R.SW_STAT n) = s.word (R.SW_STAT n) ∧ ∀ v ∈ t.sio.setups, v.stn ≠ n))

/-- INPUT_RECEIVED: a frame that passes is counted and taken; one that fails a check counts in its own counter. An INPUT that passes every check counts in
SW_RX_CNT, shows its receive instant and takes the counter; its image becomes the station's last real image, or, while the station is DOWN, waits as
its newest valid one. A checksum or format that fails counts in SIO_FMT_CNT and sets FMT; an unknown session counts in SIO_UNKNOWN_CNT; a bad tag in
SIO_AUTH_CNT with AUTH; a counter that does not advance in SIO_REPLAY_CNT with REPLAY. A frame that fails leaves every station page, receive counter
and session's counter as they were. -/
def Obligations.AnInputIsCheckedBeforeItIsTaken : Prop :=
  ∀ (s : State) (dt : Nat) (h : SspHeader) (img : List Byte),
    (SspOk s h 3 → SspLive s h → h.len = s.stnGet h.station T.SIO_STN.IN_LEN → h.len = img.length →
      ∃ t, exec (.inputReceived dt h img) s = .next t ∧
        t.get (F.SW_RX_CNT.COUNT h.station) = min (s.get (F.SW_RX_CNT.COUNT h.station) + 1) 0xFFFFFFFF ∧
        t.get (F.SW_RX_SEC.SEC h.station) = h.rxSec % 2 ^ 32 ∧ t.get (F.SW_RX_NS.NS h.station) = h.rxNs % 2 ^ 30 ∧
        (t.stn h.station).rxCtr = h.counter ∧ (t.stn h.station).rx = (s.stn h.station).rx ++ [h.rxSec * 10 ^ 9 + h.rxNs] ∧
        (s.get (F.SW_STAT.STATE h.station) ≠ 1 → (t.stn h.station).last = some img ∧ (t.stn h.station).newest = none) ∧
        (s.get (F.SW_STAT.STATE h.station) = 1 → (t.stn h.station).newest.map RxImage.img = some img ∧ t.dram = s.dram ∧ t.cache = s.cache ∧
          t.pgr = s.pgr) ∧ ∀ n, n ≠ h.station → t.stn n = s.stn n) ∧
    (s.bit (F.SIO_PORTn_CFG.EN h.port) = true → h.sumOk = false → ∃ t, exec (.inputReceived dt h img) s = .next t ∧ t.bit F.SIO_ERR.FMT = true ∧
      t.get F.SIO_FMT_CNT.COUNT = min (s.get F.SIO_FMT_CNT.COUNT + 1) 0xFFFFFFFF ∧ OnlyWords [R.SIO_ERR, R.SIO_FMT_CNT] (s.elapse dt) t) ∧
    (SspOk s h 3 → h.len = s.stnGet h.station T.SIO_STN.IN_LEN → h.len = img.length →
      ((s.stn h.station).session = 0 ∨ h.session ≠ (s.stn h.station).session →
        ∃ t, exec (.inputReceived dt h img) s = .next t ∧ t.get F.SIO_UNKNOWN_CNT.COUNT = min (s.get F.SIO_UNKNOWN_CNT.COUNT + 1) 0xFFFFFFFF ∧
          t.dram = s.dram ∧ t.cache = s.cache ∧ SameWords [R.SIO_UNKNOWN_CNT] s t ∧
          ((s.stn h.station).closeHint = none → s.tampered = false → Emit.ssp 7 h.station 0 h.session (2 ^ 63) [1] ∈ t.emitted) ∧
          (∀ u, (s.stn h.station).closeHint = some u → (s.elapse dt).clock.up < u + 250000000 → ∀ p, Emit.ssp 7 h.station 0 h.session (2 ^ 63) p ∉ t.emitted)) ∧
      ((s.stn h.station).session ≠ 0 → h.session = (s.stn h.station).session →
        (h.tagOk = false → ∃ t, exec (.inputReceived dt h img) s = .next t ∧ t.bit F.SIO_ERR.AUTH = true ∧
          t.get F.SIO_AUTH_CNT.COUNT = min (s.get F.SIO_AUTH_CNT.COUNT + 1) 0xFFFFFFFF ∧ OnlyWords [R.SIO_ERR, R.SIO_AUTH_CNT] (s.elapse dt) t) ∧
        (h.tagOk = true → h.counter ≤ (s.stn h.station).rxCtr → ∃ t, exec (.inputReceived dt h img) s = .next t ∧ t.bit F.SIO_ERR.REPLAY = true ∧
          t.get F.SIO_REPLAY_CNT.COUNT = min (s.get F.SIO_REPLAY_CNT.COUNT + 1) 0xFFFFFFFF ∧
          OnlyWords [R.SIO_ERR, R.SIO_REPLAY_CNT] (s.elapse dt) t)))

/-- Watchdog checks, expiry and CLOSE: the miss count, DOWN with its cause, and the return. WATCHDOG_CHECK of a served station in SETUP or UP clears the
miss count where a frame came in the interval (and the station is not taken UP by it) and counts a miss otherwise; the count that reaches the
station's watchdog count takes it DOWN with cause WATCHDOG. With frames in this and the previous interval a station in DOWN or SETUP with a live
session is UP, its launches resume, SUB and SUBFB clear. WATCHDOG_EXPIRY with the count reached is that down: SIO_DOWNn and SUB set; from UP the
instant is recorded and launches are withheld. A valid CLOSE ends the session and takes it DOWN with cause CLOSE; SIO_CLOSE sends CLOSE and takes it
DOWN with its own cause. -/
def Obligations.TheWatchdogTakesAStationDown : Prop :=
  ∀ (s : State) (dt n : Nat), n < 4096 →
    (s.served.contains n = true → (s.get (F.SW_STAT.STATE n) = 2 ∨ s.get (F.SW_STAT.STATE n) = 3) →
      (let ck := (s.elapse dt).checkInstant n
       let p : Int := (s.stn n).period * 1000
       let came := (s.stn n).rx.any (fun t => ck - p < (t : Int) && (t : Int) ≤ ck)
       let before := (s.stn n).rx.any (fun t => ck - 2 * p < (t : Int) && (t : Int) ≤ ck - p)
       let live := decide ((s.stn n).session ≠ 0)
       (came = true → (s.get (F.SW_STAT.STATE n) = 3 ∨ (live && before) = false) → 0 < s.wdCount n → ∃ t, exec (.watchdogCheck dt n) s = .next t ∧
         t.get (F.SW_STAT.MISS n) = 0 ∧ t.get (F.SW_STAT.STATE n) = s.get (F.SW_STAT.STATE n)) ∧
       (came = true → before = true → live = true → s.get (F.SW_STAT.STATE n) = 2 → ∃ t, exec (.watchdogCheck dt n) s = .next t ∧
         t.get (F.SW_STAT.STATE n) = 3 ∧ t.get (F.SW_STAT.MISS n) = 0 ∧ t.bit (F.SW_STAT.SUB n) = false ∧ t.bit (F.SW_STAT.SUBFB n) = false ∧
         t.bit (downFld n) = false ∧ (t.stn n).withheld = false) ∧
       (came = false → min 15 (s.get (F.SW_STAT.MISS n) + 1) < s.wdCount n → ∃ t, exec (.watchdogCheck dt n) s = .next t ∧
         t.get (F.SW_STAT.MISS n) = min 15 (s.get (F.SW_STAT.MISS n) + 1) ∧ t.get (F.SW_STAT.STATE n) = s.get (F.SW_STAT.STATE n)) ∧
       (came = false → s.wdCount n ≤ min 15 (s.get (F.SW_STAT.MISS n) + 1) → ∃ t, exec (.watchdogCheck dt n) s = .next t ∧
         t.get (F.SW_STAT.STATE n) = 1 ∧ t.get (F.SW_STAT.CAUSE n) = 1 ∧ t.bit (downFld n) = true))) ∧
    (s.get (F.SW_STAT.STATE n) = 2 ∨ s.get (F.SW_STAT.STATE n) = 3 → s.wdCount n ≤ s.get (F.SW_STAT.MISS n) →
      ∃ t, exec (.watchdogExpiry dt n) s = .next t ∧ t.get (F.SW_STAT.STATE n) = 1 ∧ t.get (F.SW_STAT.CAUSE n) = 1 ∧ t.bit (downFld n) = true ∧
        t.bit (F.SW_STAT.SUB n) = true ∧ (t.stn n).session = (s.stn n).session ∧
        (s.get (F.SW_STAT.STATE n) = 3 → (t.stn n).withheld = true ∧ t.get (F.SW_DOWN_SEC.SEC n) = (s.elapse dt).sec32 ∧
          t.get (F.SW_DOWN_NS.NS n) = (s.elapse dt).nsNow % 2 ^ 30)) ∧
    (∀ h reason, h.station = n → SspOk s h 7 → SspLive s h → h.len = 1 → (s.get (F.SW_STAT.STATE n) = 2 ∨ s.get (F.SW_STAT.STATE n) = 3) →
      ∃ t, exec (.closeReceived dt h reason) s = .next t ∧ (t.stn n).session = 0 ∧ t.get (F.SW_SESSION.SESSION n) = 0 ∧
        t.get (F.SW_STAT.STATE n) = 1 ∧ t.get (F.SW_STAT.CAUSE n) = 3) ∧
    (∀ rq v, Writes s rq R.SIO_CLOSE → v.toNat % 4096 = n →
      (s.stnPresent n = true → (s.stn n).session ≠ 0 → (s.get (F.SW_STAT.STATE n) = 2 ∨ s.get (F.SW_STAT.STATE n) = 3) →
        ∃ t, exec (.sioCloseWrite dt rq v) s = .next t ∧ (t.stn n).session = 0 ∧ t.get (F.SW_STAT.STATE n) = 1 ∧ t.get (F.SW_STAT.CAUSE n) = 4 ∧
          t.emitted.head? = some (.ssp 7 n 0 (s.stn n).session (2 ^ 63 + (s.stn n).txCtr + 1) (leBytes 2 1))) ∧
      (s.stnPresent n = false → ∃ t, exec (.sioCloseWrite dt rq v) s = .next t ∧ t.bit F.SIO_ERR.RANGE = true ∧
        OnlyWords [R.SIO_ERR] (s.elapse dt) t))

/-- Requests and responses: carried out once, answered from the cache, and set-timing at its instant. With an active complex, a valid REQUEST with a SEQ
new to its origin and class is answered and remembered; one answered before, within 64 of the newest, is answered from the cache and counts in SW_DUP;
one further behind gets STATUS 2. A valid RESPONSE is handed to the issuing firmware. SSP_REQUEST_ISSUE sends under K_sess with the next counter; a
set-timing request that keeps the spacing holds its change, one that does not is handed back with STATUS 4 and nothing is sent. SET_TIMING_APPLY takes
period and phases and clears the miss count. -/
def Obligations.RequestsAreCarriedOutOnce : Prop :=
  ∀ (s : State) (dt : Nat),
    (∀ h b status data, SspOk s h 5 → SspLive s h → 8 ≤ h.len → h.len ≤ 248 → s.activeCx.isSome → b.seq < 65536 →
      (s.get (F.SW_STAT.STATE h.station) = 2 ∨ s.get (F.SW_STAT.STATE h.station) = 3) →
      ((s.stn h.station).newestSeq.find? (fun e => e.1 == b.origin && e.2.1 == b.cls) = none →
        (s.stn h.station).answered.find? (fun e => e.1 == b.origin && e.2.1 == b.cls && e.2.2.1 == b.seq) = none →
        ∃ t, exec (.sspRequestReceived dt h b status data) s = .next t ∧
          t.emitted.head? = some (.ssp 6 h.station 0 (s.stn h.station).session (2 ^ 63 + (s.stn h.station).txCtr + 1) (responseBytes b.origin b.seq status data)) ∧
          (b.origin, b.cls, b.seq, status, data) ∈ (t.stn h.station).answered ∧
          (t.stn h.station).newestSeq.head? = some (b.origin, b.cls, b.seq) ∧ (t.stn h.station).rxCtr = h.counter) ∧
      (∀ m e, (s.stn h.station).newestSeq.find? (fun e => e.1 == b.origin && e.2.1 == b.cls) = some (b.origin, b.cls, m) → m < 65536 →
        (s.stn h.station).answered.find? (fun e => e.1 == b.origin && e.2.1 == b.cls && e.2.2.1 == b.seq) = some e →
        (m + 65536 - b.seq) % 65536 < 64 →
        ∃ t, exec (.sspRequestReceived dt h b status data) s = .next t ∧
          t.emitted.head? = some (.ssp 6 h.station 0 (s.stn h.station).session (2 ^ 63 + (s.stn h.station).txCtr + 1) (responseBytes b.origin b.seq e.2.2.2.1 e.2.2.2.2)) ∧
          t.get (F.SW_DUP.COUNT h.station) = min (s.get (F.SW_DUP.COUNT h.station) + 1) 0xFFFFFFFF ∧ (t.stn h.station).answered = (s.stn h.station).answered) ∧
      (∀ m, (s.stn h.station).newestSeq.find? (fun e => e.1 == b.origin && e.2.1 == b.cls) = some (b.origin, b.cls, m) → m < 65536 →
        64 ≤ (m + 65536 - b.seq) % 65536 → (m + 65536 - b.seq) % 65536 < 32768 →
        ∃ t, exec (.sspRequestReceived dt h b status data) s = .next t ∧
          t.emitted.head? = some (.ssp 6 h.station 0 (s.stn h.station).session (2 ^ 63 + (s.stn h.station).txCtr + 1) (responseBytes b.origin b.seq 2 [])) ∧
          (t.stn h.station).answered = (s.stn h.station).answered)) ∧
    (∀ h b, SspOk s h 6 → SspLive s h → 8 ≤ h.len → h.len ≤ 248 → ∃ t, exec (.sspResponseReceived dt h b) s = .next t ∧
      t.sio.handed = s.sio.handed ++ [b] ∧ (t.stn h.station).rxCtr = h.counter ∧ SameWords [] s t) ∧
    (∀ n b, s.activeCx.isSome → s.tampered = false → (s.stn n).session ≠ 0 → (s.get (F.SW_STAT.STATE n) = 2 ∨ s.get (F.SW_STAT.STATE n) = 3) →
      (¬ (b.cls = 2 ∧ b.op = 4 ∧ b.index = 0) → ∃ t, exec (.sspRequestIssue dt n b) s = .next t ∧
        t.emitted.head? = some (.ssp 5 n 0 (s.stn n).session (2 ^ 63 + (s.stn n).txCtr + 1) (requestBytes { b with origin := 0xFFFF })) ∧
        (t.stn n).txCtr = (s.stn n).txCtr + 1 ∧ (t.stn n).newTiming = (s.stn n).newTiming ∧ SameWords [] s t) ∧
      (∀ p i o sec ns, setTiming? { b with origin := 0xFFFF } = some (p, i, o, sec, ns) → b.data.length = 20 →
        (p ≠ 0 → s.timingOk n p o = true → ∃ t, exec (.sspRequestIssue dt n b) s = .next t ∧ (t.stn n).newTiming = some (p, i, o, sec * 10 ^ 9 + ns) ∧
          (t.stn n).txCtr = (s.stn n).txCtr + 1 ∧ SameWords [] s t) ∧
        (s.timingOk n p o = false → ∃ t, exec (.sspRequestIssue dt n b) s = .next t ∧ t.sio.stns = s.sio.stns ∧
          t.sio.handed = s.sio.handed ++ [{ b with origin := 0xFFFF, status := 4, data := [] }] ∧ SameWords [] s t))) ∧
    (∀ n p i o at_, n < 4096 → (s.stn n).newTiming = some (p, i, o, at_) → ∃ t, exec (.setTimingApply dt n) s = .next t ∧ (t.stn n).period = p ∧
      (t.stn n).inPh = i ∧ (t.stn n).outPh = o ∧ (t.stn n).newTiming = none ∧ t.get (F.SW_STAT.MISS n) = 0)

/-- Launch queues and the station ports' other traffic. LAUNCH_FETCH of a queued frame takes its FLAGS and payload; FRAME_LAUNCH of a fetched one sends it
under K_sess with the next counter; a withheld launch is counted in SW_WITHHELD and not sent. On an enabled port ARP and neighbour discovery are
answered, at most 10 echo requests a second are answered, and anything else counts in SIO_UNKNOWN_CNT; a disabled port answers nothing. A link change
shows in SIO_PORTn_STAT.LINK. -/
def Obligations.QueuedFramesGoOutAtTheirSlots : Prop :=
  ∀ (s : State) (dt : Nat),
    (∀ n, n < 4096 → (s.lq (s.stnGet n T.SIO_STN.PORT)).any (fun l => l.stn == n && l.fetched.isNone) = true →
      ∃ t, exec (.launchFetch dt n) s = .next t ∧ (∀ l ∈ t.lq (s.stnGet n T.SIO_STN.PORT), l.stn = n → l.fetched.isSome) ∧
        (t.lq (s.stnGet n T.SIO_STN.PORT)).length = (s.lq (s.stnGet n T.SIO_STN.PORT)).length ∧ t.sio = s.sio) ∧
    (∀ n skew f, n < 4096 → s.launchHeld n = false → (∃ l ∈ s.lq (s.stnGet n T.SIO_STN.PORT), l.stn = n) →
      (∀ l ∈ s.lq (s.stnGet n T.SIO_STN.PORT), l.stn = n → l.fetched = some f) →
      ∃ t, exec (.frameLaunch dt n skew) s = .next t ∧
        t.emitted.head? = some (.ssp 4 n f.1 (s.stn n).session (2 ^ 63 + (s.stn n).txCtr + 1) f.2.1)) ∧
    (∀ n skew, n < 4096 → (s.stn n).withheld = true → ∃ t, exec (.frameLaunch dt n skew) s = .next t ∧
      t.get (F.SW_WITHHELD.COUNT n) = min (s.get (F.SW_WITHHELD.COUNT n) + 1) 0xFFFFFFFF ∧ t.sio = s.sio ∧
      (∀ a b c d e f, Emit.ssp a b c d e f ∉ t.emitted)) ∧
    (∀ port kind, s.bit (F.SIO_PORTn_CFG.EN port) = true →
      (kind < 2 → ∃ t, exec (.otherTrafficReceived dt port kind) s = .next t ∧ t.emitted.head? = some (.netAnswer port kind) ∧ SameWords [] s t) ∧
      (kind = 2 → ((s.sio.echoes.filter (fun e => (s.elapse dt).clock.up < e.2 + 250000000)).filter (fun e => e.1 == port)).length < 10 →
        ∃ t, exec (.otherTrafficReceived dt port kind) s = .next t ∧ t.emitted.head? = some (.netAnswer port 2) ∧ SameWords [] s t) ∧
      (2 < kind → ∃ t, exec (.otherTrafficReceived dt port kind) s = .next t ∧
        t.get F.SIO_UNKNOWN_CNT.COUNT = min (s.get F.SIO_UNKNOWN_CNT.COUNT + 1) 0xFFFFFFFF ∧ OnlyWords [R.SIO_UNKNOWN_CNT] (s.elapse dt) t)) ∧
    (∀ port kind, s.bit (F.SIO_PORTn_CFG.EN port) = false → ∃ t, exec (.otherTrafficReceived dt port kind) s = .next t ∧ OnlyWords [] (s.elapse dt) t ∧
      ∀ a b, Emit.netAnswer a b ∉ t.emitted) ∧
    (∀ port up, port < 2 → ∃ t, exec (.stationPortLinkChange dt port up) s = .next t ∧ t.bit (F.SIO_PORTn_STAT.LINK port) = up ∧
      OnlyWords [R.SIO_PORTn_STAT port] (s.elapse dt) t)

/-- PREFETCH_ISSUE, PAGE_LOAD_DONE, WRITE_BACK_DONE: the next page ahead is loaded, and no byte seen through PGR changes. PREFETCH_ISSUE, with the pager
running, no LRU_ONLY, fewer than 16 loads in flight and room, starts the load of the next page of the loop engine's ring that is not there, or of the
cycle engine's where the loop engine's ring is empty, and counts it; an entry of a disabled station sets VLIST_BAD; with 16 in flight nothing starts.
PAGE_LOAD_DONE makes the page resident, its waiting writes applied and the page then dirty; WRITE_BACK_DONE takes it from the cache. Over both, every
byte of the page as seen through PGR is as before. -/
def Obligations.PagesMoveWithoutLosingAByte : Prop :=
  ∀ (s : State) (dt : Nat),
    (s.bit F.PGR_STAT.RUN = true → s.bit F.PGR_CFG.LRU_ONLY = false → 0 < s.get F.PGR_CFG.PF_DEPTH →
      ((s.pgr.pages.filter (fun p => p.loading)).length < 16 → (s.pgr.pages.filter (fun p => !p.writing)).length < 1024 →
        ∀ n l, (s.pgr.ringL = n :: l ∨ (s.pgr.ringL = [] ∧ s.pgr.ringC = n :: l)) → s.page? (n % 4096) = none →
          (s.stnPresent (n % 4096) = true → s.bit (T.SIO_STN.EN (n % 4096)) = true → ∃ t, exec (.prefetchIssue dt) s = .next t ∧
            t.pgr.pages = s.pgr.pages ++ [(⟨n % 4096, false, s.pgr.stamp, true, false, []⟩ : Page)] ∧
            t.get F.PGR_PF_CNT.COUNT = min (s.get F.PGR_PF_CNT.COUNT + 1) 0xFFFFFFFF ∧ t.dram = s.dram ∧ t.cache = s.cache) ∧
          (s.bit (T.SIO_STN.EN (n % 4096)) = false → ∃ t, exec (.prefetchIssue dt) s = .next t ∧ t.bit F.PGR_ERR.VLIST_BAD = true)) ∧
      (16 ≤ (s.pgr.pages.filter (fun p => p.loading)).length → ∃ t, exec (.prefetchIssue dt) s = .next t ∧ OnlyWords [] (s.elapse dt) t)) ∧
    (∀ n p, n < 4096 → s.page? n = some p → p.loading = true → Memory.wf s.dram → ∃ t, exec (.pageLoadDone dt n) s = .next t ∧
      t.bit (resFld n) = true ∧ t.resident n = !p.writing ∧ (t.page? n).map Page.waits = some [] ∧
      (t.page? n).map Page.dirty = some (!p.waits.isEmpty) ∧ t.dram = s.dram ∧ ∀ off, off < 4096 → t.pageByte n off = s.pageByte n off) ∧
    (∀ n p, n < 4096 → s.page? n = some p → p.writing = true → p.loading = false → Memory.wf s.cache →
      ∃ t, exec (.writeBackDone dt n) s = .next t ∧ t.page? n = none ∧ (∀ m, m ≠ n → t.page? m = s.page? m) ∧
        ∀ off, off < 4096 → t.pageByte n off = s.pageByte n off)

/-- Timed releases, PGR_TRIG, task dispatch, region requests, releases and violations. A timed task due and idle becomes ready; one still ready or running
is skipped and counted, and the skip that reaches CYC_OVR_LIM raises source 21 once. PGR_TRIG releases an enabled event task with SRC 0, queues one
release while it is busy, counts one beyond as lost, and sets RANGE for any other task. TASK_DISPATCH starts the first ready task, above a running one
only with a higher PRIO, and ends a task that has evaluated its last block. REC's region request is granted the lowest free run, or refused with
ALLOC_QUOTA or ALLOC_FULL; a release frees it; a blocked access sets REGION_VIOL and raises source 23. -/
def Obligations.TasksAreReleasedAndRegionsGranted : Prop :=
  ∀ (s : State) (dt : Nat),
    (∀ n, n < 64 → s.bit F.PGR_STAT.SCHED = true → s.get (T.PGR_TASK.TYPE n) = 2 → s.bit (T.PGR_TASK.EN n) = true →
      (s.get (F.T_STAT.STATE n) = 0 → ∃ t, exec (.timedTaskRelease dt n) s = .next t ∧ t.get (F.T_STAT.STATE n) = 1 ∧
        t.bit (readyFld n) = true ∧ t.pgr.ready = s.pgr.ready ++ [n] ∧ look (fun _ => 0) t.pgr.skips n = 0 ∧ n ∉ t.pgr.skipRaised ∧
        SameWords [(F.T_STAT.STATE n).key, (readyFld n).key] s t) ∧
      (s.get (F.T_STAT.STATE n) ≠ 0 → look (fun _ => 0) s.pgr.skips n + 1 < s.get F.CYC_OVR_LIM.LIM →
        ∃ t, exec (.timedTaskRelease dt n) s = .next t ∧ t.get (F.T_SKIP.COUNT n) = min (s.get (F.T_SKIP.COUNT n) + 1) 0xFFFFFFFF ∧
          t.bit F.PGR_ERR.TASK_SKIP = true ∧ look (fun _ => 0) t.pgr.skips n = look (fun _ => 0) s.pgr.skips n + 1 ∧
          t.pgr.ready = s.pgr.ready ∧ SameWords [R.PGR_ERR, (F.T_SKIP.COUNT n).key] s t) ∧
      (s.get (F.T_STAT.STATE n) ≠ 0 → s.get F.CYC_OVR_LIM.LIM ≤ look (fun _ => 0) s.pgr.skips n + 1 → n ∉ s.pgr.skipRaised →
        ∃ t, exec (.taskSkipLimit dt n) s = .next t ∧ t.bit ⟨R.SAF_FLT_LAT, 21, 1⟩ = true ∧ (21, n) ∈ t.saf.logged ∧ n ∈ t.pgr.skipRaised)) ∧
    (∀ rq v, Writes s rq R.PGR_TRIG →
      (s.eventTask (v.toNat % 64) 0 = true → s.bit F.PGR_STAT.SCHED = true →
        (s.get (F.T_STAT.STATE (v.toNat % 64)) = 0 → ∃ t, exec (.pgrTrigWrite dt rq v) s = .next t ∧
          t.get (F.T_STAT.STATE (v.toNat % 64)) = 1 ∧ t.pgr.ready = s.pgr.ready ++ [v.toNat % 64]) ∧
        (s.get (F.T_STAT.STATE (v.toNat % 64)) ≠ 0 → s.bit (F.T_STAT.PEND (v.toNat % 64)) = false → ∃ t, exec (.pgrTrigWrite dt rq v) s = .next t ∧
          t.bit (F.T_STAT.PEND (v.toNat % 64)) = true ∧ t.pgr = s.pgr ∧ SameWords [(F.T_STAT.STATE (v.toNat % 64)).key] s t) ∧
        (s.get (F.T_STAT.STATE (v.toNat % 64)) ≠ 0 → s.bit (F.T_STAT.PEND (v.toNat % 64)) = true → ∃ t, exec (.pgrTrigWrite dt rq v) s = .next t ∧
          t.get (F.T_LOST.COUNT (v.toNat % 64)) = min (s.get (F.T_LOST.COUNT (v.toNat % 64)) + 1) 0xFFFFFFFF ∧
          t.bit F.PGR_ERR.TASK_LOST = true)) ∧
      (s.eventTask (v.toNat % 64) 0 = false → ∃ t, exec (.pgrTrigWrite dt rq v) s = .next t ∧ t.bit F.PGR_ERR.RANGE = true ∧
        OnlyWords [R.PGR_ERR] (s.elapse dt) t)) ∧
    (∀ n, s.cycLive = true → s.nextReady = some n → n < 64 →
      (s.pgr.stack = [] → ∃ t, exec (.taskDispatch dt (some 0) 0) s = .next t ∧ t.get (F.T_STAT.STATE n) = 2 ∧
        t.pgr.stack = [⟨n, s.get (T.PGR_TASK.FIRST n), (s.elapse dt).clock.up, (s.elapse dt).clock.sec, (s.elapse dt).clock.ns, []⟩] ∧
        t.pgr.ready = s.pgr.ready.filter (· != n)) ∧
      (∀ f below, s.pgr.stack = f :: below → f.task < 64 → f.task ≠ n →
        (s.get (T.PGR_TASK.PRIO f.task) < s.get (T.PGR_TASK.PRIO n) → ∃ t, exec (.taskDispatch dt (some f.next) 0) s = .next t ∧
          t.get (F.T_STAT.STATE n) = 2 ∧ t.get (F.T_STAT.STATE f.task) = 3 ∧ t.pgr.stack.tail = f :: below ∧
          (t.pgr.stack.head?.map RunFrame.task) = some n) ∧
        (s.get (T.PGR_TASK.PRIO n) ≤ s.get (T.PGR_TASK.PRIO f.task) → ∃ t, exec (.taskDispatch dt (some f.next) 0) s = .next t ∧
          t.pgr.stack = f :: below ∧ t.pgr.ready = s.pgr.ready ∧ SameWords [] s t))) ∧
    (∀ f, s.cycLive = true → s.pgr.stack = [f] → s.pgr.ready = [] → 0 < f.task → f.task < 64 → s.taskEnd f.task ≤ f.next →
      s.bit (F.T_STAT.PEND f.task) = false → ∃ t, exec (.taskDispatch dt none 0) s = .next t ∧ t.pgr.stack = [] ∧
        t.get (F.T_STAT.STATE f.task) = 0 ∧ t.get F.CYC_STAT.STATE = 3 ∧
        t.get (F.T_RUNS.COUNT f.task) = min (s.get (F.T_RUNS.COUNT f.task) + 1) 0xFFFFFFFF) ∧
    (∀ gran tag, s.get (F.PGR_USEDn.USED 1) + gran ≤ s.get (F.PGR_QUOTAn.QUOTA 1) →
      (∀ b, s.runFree b gran = true → (∀ c, s.runFree c gran = true → b ≤ c) → (∃ i, i < 256 ∧ ∀ r ∈ s.pgr.regions, r.1 ≠ i) →
        ∃ t i, exec (.regionRequest dt 1 gran tag) s = .next t ∧ i < 256 ∧ (∀ r ∈ s.pgr.regions, r.1 ≠ i) ∧
          t.pgr.regions = s.pgr.regions ++ [(i, 1, b, gran)] ∧ t.get (T.PGR_REG.VALID i) = 1 ∧ t.get (T.PGR_REG.OWNER i) = 1 ∧
          t.recd.granted = true ∧ t.bit F.REC_STAT.CHAN = true) ∧
      ((∀ b, s.runFree b gran = false) → ∃ t, exec (.regionRequest dt 1 gran tag) s = .next t ∧ t.bit F.PGR_ERR.ALLOC_FULL = true ∧
        t.bit F.REC_ERR.ALLOC = true ∧ OnlyWords [R.PGR_ERR, R.REC_ERR, R.REC_STAT] (s.elapse dt) t)) ∧
    (∀ gran tag, s.get (F.PGR_QUOTAn.QUOTA 1) < s.get (F.PGR_USEDn.USED 1) + gran → ∃ t, exec (.regionRequest dt 1 gran tag) s = .next t ∧
      t.bit F.PGR_ERR.ALLOC_QUOTA = true ∧ t.bit F.REC_ERR.ALLOC = true ∧ OnlyWords [R.PGR_ERR, R.REC_ERR, R.REC_STAT] (s.elapse dt) t) ∧
    (∀ i, i < 256 → ∃ t, exec (.regionRelease dt i) s = .next t ∧ t.pgr.regions = s.pgr.regions.filter (fun r => r.1 != i) ∧
      t.get (T.PGR_REG.VALID i) = 0) ∧
    (∀ i rq wr r, s.pgr.regions.find? (fun r => r.1 == i) = some r →
      ((s.isActive rq && !wr) = false → ∃ t, exec (.regionViolation dt i rq wr) s = .next t ∧ t.bit ⟨R.SAF_FLT_LAT, 23, 1⟩ = true ∧
        (23, r.2.1) ∈ t.saf.logged ∧ (wr = false → Answers t rq (r.2.2.1 * 0x10000) 0)) ∧
      (s.isActive rq = true → wr = false → ∃ t, exec (.regionViolation dt i rq wr) s = .next t ∧ OnlyWords [] (s.elapse dt) t))

/-- CYCLE_SNAPSHOT, CYC_TMAX_EXPIRY and CYC_OVR_LIMIT. At the main-task boundary with no task on the stack and no error task flagged, CYCLE_SNAPSHOT
counts CYC_SEQ, takes the instant as the cycle's now, latches the model image, latches for every present station its newest input buffer, and starts
the main task. When CYC_TMAX has passed with the main task alone on the stack the cycle is abandoned: CYC_OVR_CNT, CYC_ERR.OVR and OVR_RUN; while a
task preempts it the abandonment waits; before TMAX nothing happens. When OVR_RUN has reached CYC_OVR_LIM source 19 is raised, once until OVR_RUN is
cleared. -/
def Obligations.ACycleStartsRunsAndOverruns : Prop :=
  ∀ (s : State) (dt : Nat), s.cycLive = true →
    (s.get F.CYC_STAT.EXCH ≠ 3 → s.pgr.stack = [] → s.pgr.flagged = [] → ∃ t, exec (.cycleSnapshot dt) s = .next t ∧
      t.get F.CYC_SEQ.SEQ = (s.get F.CYC_SEQ.SEQ + 1) % 2 ^ 32 ∧ t.get F.CYC_STAT.STATE = 1 ∧ t.get (F.T_STAT.STATE 0) = 2 ∧
      t.pgr.stack = [⟨0, s.get (T.PGR_TASK.FIRST 0), (s.elapse dt).clock.up, (s.elapse dt).clock.sec, (s.elapse dt).clock.ns, []⟩] ∧
      t.cyc.snapUp = (s.elapse dt).clock.up ∧ t.cyc.img = s.nsv.img ∧ t.cyc.cur = s.nsv.cur ∧ t.cyc.usable = s.modelUsable ∧
      t.cyc.running = true ∧ t.cyc.toCopy = s.readSet ∧
      ((∀ p ∈ s.pgr.pages, p.loading = false → p.writing = false → p.waits = []) →
        ∀ n, s.stnPresent n = true → t.latched n = s.newest n)) ∧
    (s.cyc.running = true → (∀ f, s.pgr.stack = [f] → f.task = 0 → s.get F.CYC_TMAX.TMAX * 250 ≤ (s.elapse dt).clock.up - s.cyc.snapUp →
        s.get F.CYC_STAT.OVR_RUN + 1 < s.get F.CYC_OVR_LIM.LIM → s.get F.CYC_STAT.OVR_RUN < 255 → s.pgr.ready = [] →
        s.bit (F.T_STAT.PEND 0) = false →
        ∃ t, exec (.cycTmaxExpiry dt f.next) s = .next t ∧ t.pgr.stack = [] ∧ t.cyc.running = false ∧ t.bit F.CYC_ERR.OVR = true ∧
          t.get F.CYC_OVR_CNT.COUNT = min (s.get F.CYC_OVR_CNT.COUNT + 1) 0xFFFFFFFF ∧
          t.get F.CYC_STAT.OVR_RUN = s.get F.CYC_STAT.OVR_RUN + 1 ∧ t.get F.CYC_STAT.STATE = 3) ∧
      (∀ f g l i, s.pgr.stack = f :: g :: l → s.get F.CYC_TMAX.TMAX * 250 ≤ (s.elapse dt).clock.up - s.cyc.snapUp →
        ∃ t, exec (.cycTmaxExpiry dt i) s = .next t ∧ t.cyc.abandon = true ∧ t.pgr = s.pgr ∧ SameWords [] s t) ∧
      (∀ i, (s.elapse dt).clock.up - s.cyc.snapUp < s.get F.CYC_TMAX.TMAX * 250 → ∃ t, exec (.cycTmaxExpiry dt i) s = .next t ∧
        OnlyWords [] (s.elapse dt) t)) ∧
    (s.get F.CYC_OVR_LIM.LIM ≤ s.get F.CYC_STAT.OVR_RUN → s.get F.CYC_STAT.OVR_RUN ≠ 0 →
      (s.cyc.ovrRaised = false → ∃ t, exec (.cycOvrLimit dt) s = .next t ∧ t.bit F.CYC_ERR.OVR_LIM = true ∧ t.cyc.ovrRaised = true ∧
        t.bit ⟨R.SAF_FLT_LAT, 19, 1⟩ = true) ∧
      (s.cyc.ovrRaised = true → ∃ t, exec (.cycOvrLimit dt) s = .next t ∧ OnlyWords [] (s.elapse dt) t))

/-- The online exchange: staging, EXCH_ARM, ABORT, the pause, the loop table. A staged image that passes shows EXCH STAGED and its identity, one that
fails shows FAILED with its code and EXCH_FAIL. EXCH_ARM arms a staged exchange and ABORT ends a staged or armed one with code 8; at any other time
each sets EXCH_SEQ. The pause of an armed exchange puts the new program in force, shows its identity, its length and the pause, and starts the first
cycle; where a copy or CRC fails the engine halts, the slot is rejected with the other preferred, and source 20 is raised. LOOP_TABLE_SWITCH puts the
staged loop table in force; without one it does nothing. -/
def Obligations.AProgramIsExchangedAtABoundary : Prop :=
  ∀ (s : State) (dt : Nat),
    (∀ img, s.get F.CYC_STAT.EXCH = 1 →
      (∀ g, ((s.elapse dt).stage img).2 = .ok g → ∃ t, exec (.exchStagingDone dt img) s = .next t ∧ t.get F.CYC_STAT.EXCH = 2 ∧
        t.cyc.staged = some g ∧ t.get F.CYC_EXCH_ID.ID = g.id % 2 ^ 32) ∧
      (∀ k, ((s.elapse dt).stage img).2 = .error k → ∃ t, exec (.exchStagingDone dt img) s = .next t ∧ t.get F.CYC_STAT.EXCH = 5 ∧
        t.get F.CYC_EXCH_ERR.CODE = k % 2 ^ F.CYC_EXCH_ERR.CODE.width ∧ t.bit F.CYC_ERR.EXCH_FAIL = true ∧ t.cyc = s.cyc)) ∧
    (∀ rq, Writes s rq R.CYC_CTRL →
      (s.get F.CYC_STAT.EXCH = 2 → ∃ t, exec (.exchArm dt rq) s = .next t ∧ t.get F.CYC_STAT.EXCH = 3 ∧ OnlyWords [R.CYC_STAT] (s.elapse dt) t) ∧
      (s.get F.CYC_STAT.EXCH ≠ 2 → ∃ t, exec (.exchArm dt rq) s = .next t ∧ t.bit F.CYC_ERR.EXCH_SEQ = true ∧ OnlyWords [R.CYC_ERR] (s.elapse dt) t) ∧
      (s.get F.CYC_STAT.EXCH = 2 ∨ s.get F.CYC_STAT.EXCH = 3 → ∃ t, exec (.exchAbort dt rq) s = .next t ∧ t.get F.CYC_STAT.EXCH = 0 ∧
        t.get F.CYC_EXCH_ERR.CODE = 8 ∧ t.cyc.staged = none ∧ SameWords [R.CYC_STAT, R.CYC_EXCH_ERR] s t) ∧
      (s.get F.CYC_STAT.EXCH ≠ 2 → s.get F.CYC_STAT.EXCH ≠ 3 → ∃ t, exec (.exchAbort dt rq) s = .next t ∧ t.bit F.CYC_ERR.EXCH_SEQ = true ∧
        OnlyWords [R.CYC_ERR] (s.elapse dt) t)) ∧
    (∀ g us, s.cyc.staged = some g → s.cycLive = true → s.get F.CYC_STAT.EXCH = 3 → s.pgr.stack = [] →
      (s.pgr.flagged = [] → ∃ t, exec (.exchangePause dt true us) s = .next t ∧ t.get F.CYC_STAT.EXCH = 4 ∧ t.get F.CYC_BLK_CNT.COUNT = g.count % 2 ^ F.CYC_BLK_CNT.COUNT.width ∧
        t.get F.CYC_PROG_ID.ID = g.id % 2 ^ 32 ∧ t.get F.CYC_EXCH_US.US = min us (2 ^ 20 - 1) ∧ t.get F.CYC_STAT.STATE = 1 ∧ t.cyc.staged = none ∧
        t.cyc.snapUp = (s.elapse dt).clock.up ∧ t.lpe.staged.isSome = true ∧ t.pgr.ready = []) ∧
      (∃ t, exec (.exchangePause dt false us) s = .next t ∧ t.get F.CYC_STAT.STATE = 6 ∧ t.get F.CYC_STAT.EXCH = 5 ∧ t.get F.CYC_EXCH_ERR.CODE = 9 ∧
        t.bit F.CYC_ERR.HALT = true ∧ t.get F.CFG_SEL.PREF = s.get F.CFG_STAT.SLOT % 2 ^ F.CFG_SEL.PREF.width ∧ t.cyc.staged = none ∧
        t.bit ⟨R.SAF_FLT_LAT, 20, 1⟩ = true)) ∧
    (s.lpe.staged = none → ∃ t, exec (.loopTableSwitch dt) s = .next t ∧ OnlyWords [] (s.elapse dt) t) ∧
    (∀ tab, s.lpe.staged = some tab → (tab.map Prod.fst).Nodup → (∀ e ∈ tab, e.1 < 0x90000) → ∃ t, exec (.loopTableSwitch dt) s = .next t ∧
      t.lpe.staged = none ∧ t.lpe.late = [] ∧ (∀ e ∈ tab, t.word (tabKey 6 0 + e.1) = e.2) ∧
      (∀ a, a < 0x90000 → a ∉ tab.map Prod.fst → t.word (tabKey 6 0 + a) = resetWord (tabKey 6 0 + a)) ∧
      ∀ n, (T.LPE_SLOT.EN n).key ∉ tab.map (fun e => tabKey 6 0 + e.1) → n < 4096 → t.slot n = slot0)

/-- LPn_MODE, LPn_SP, LPn_MAN, LPE_GRP_RESET and LPn_FLT. A mode request that Table 7.3 lists is held and shown in PEND; any other sets MODE_REJ. A
setpoint write is taken clamped to SP_LO and SP_HI, with SPCLMP telling whether it was; a manual-output write is taken and shown; from a writer that
is not configured either sets WRITER, and a value that is not finite sets RANGE, and no slot changes. A group reset clears the trip bits of the group
and its members unless a member's condition held, which sets RESET_REJ; a group without members sets RANGE. Writing 1 to LPn_FLT.LATE or PLAUS clears
it, and TRIP stays. -/
def Obligations.SlotWritesAreJudgedBeforeTheyAct : Prop :=
  ∀ (s : State) (dt : Nat) (rq : Rq) (v : Word),
    let n := s.get (F.LPE_WIN_SEL.SLOT rq.num)
    (Writes s rq (R.LPn_MODE 0) →
      (s.listsRequest n (v.toNat % 8) = true → ∃ t, exec (.lpnModeWrite dt rq v) s = .next t ∧ (t.slot n).req = some (v.toNat % 8) ∧
        t.bit (F.LPn_STAT.PEND n) = true ∧ (t.slot n).mode = (s.slot n).mode ∧ SameWords [(F.LPn_STAT.PEND n).key] s t) ∧
      (s.listsRequest n (v.toNat % 8) = false → ∃ t, exec (.lpnModeWrite dt rq v) s = .next t ∧ t.bit F.LPE_ERR.MODE_REJ = true ∧
        OnlyWords [R.LPE_ERR] (s.elapse dt) t)) ∧
    (Writes s rq (R.LPn_SP 0) →
      (s.get (T.LPE_SLOT.SP_SRC n) ≠ 0 → ∃ t, exec (.lpnSpWrite dt rq v) s = .next t ∧ t.bit F.LPE_ERR.WRITER = true ∧
        OnlyWords [R.LPE_ERR] (s.elapse dt) t) ∧
      (s.get (T.LPE_SLOT.SP_SRC n) = 0 → (f32val v).notFinite = true → ∃ t, exec (.lpnSpWrite dt rq v) s = .next t ∧
        t.bit F.LPE_ERR.RANGE = true ∧ OnlyWords [R.LPE_ERR] (s.elapse dt) t) ∧
      (s.get (T.LPE_SLOT.SP_SRC n) = 0 → (f32val v).notFinite = false →
        let lo := s.getw (T.LPE_SLOT.SP_LO n)
        let hi := s.getw (T.LPE_SLOT.SP_HI n)
        ((f32val v).lt (f32val lo) = true → ∃ t, exec (.lpnSpWrite dt rq v) s = .next t ∧ (t.slot n).sp = lo ∧
          t.bit (F.LPn_STAT.SPCLMP n) = true) ∧
        ((f32val v).lt (f32val lo) = false → (f32val hi).lt (f32val v) = true → ∃ t, exec (.lpnSpWrite dt rq v) s = .next t ∧
          (t.slot n).sp = hi ∧ t.bit (F.LPn_STAT.SPCLMP n) = true) ∧
        ((f32val v).lt (f32val lo) = false → (f32val hi).lt (f32val v) = false → ∃ t, exec (.lpnSpWrite dt rq v) s = .next t ∧
          t.slot n = { s.slot n with sp := v } ∧ t.bit (F.LPn_STAT.SPCLMP n) = false ∧ SameWords [(F.LPn_STAT.SPCLMP n).key] s t))) ∧
    (Writes s rq (R.LPn_MAN 0) → s.get (T.LPE_SLOT.MAN_SRC n) = 0 → (f32val v).notFinite = false →
      ∃ t, exec (.lpnManWrite dt rq v) s = .next t ∧ t.slot n = { s.slot n with man := v } ∧ t.getw (F.LPn_MAN.VALUE n) = v ∧
        SameWords [(F.LPn_MAN.VALUE n).key] s t) ∧
    (Writes s rq R.LPE_GRP_RESET →
      (s.members (v.toNat % 256) = [] → ∃ t, exec (.lpeGrpResetWrite dt rq v) s = .next t ∧ t.bit F.LPE_ERR.RANGE = true ∧
        OnlyWords [R.LPE_ERR] (s.elapse dt) t) ∧
      (∀ k ∈ s.members (v.toNat % 256), s.bit (T.LPE_SLOT.TRIP_EN k) = true → (s.slot k).tripCond = true →
        ∃ t, exec (.lpeGrpResetWrite dt rq v) s = .next t ∧ t.bit F.LPE_ERR.RESET_REJ = true ∧ OnlyWords [R.LPE_ERR] (s.elapse dt) t) ∧
      (s.members (v.toNat % 256) ≠ [] → (∀ k ∈ s.members (v.toNat % 256), (s.bit (T.LPE_SLOT.TRIP_EN k) && (s.slot k).tripCond) = false ∧
          s.resetHeld k = false) → ∃ t, exec (.lpeGrpResetWrite dt rq v) s = .next t ∧ t.bit (tripFld (v.toNat % 256)) = false ∧
        (∀ k ∈ s.members (v.toNat % 256), t.bit (F.LPn_FLT.TRIP k) = false ∧ t.bit (F.LPn_STAT.TRIP k) = false) ∧ t.lpe = s.lpe)) ∧
    (Writes s rq (R.LPn_FLT 0) → 0 < dt → ∃ t, exec (.lpnFltClear dt rq v) s = .next t ∧
      (∀ f ∈ [F.LPn_FLT.LATE n, F.LPn_FLT.PLAUS n], t.bit f = (s.bit f && !v.getLsbD f.lsb)) ∧
      t.bit (F.LPn_FLT.TRIP n) = s.bit (F.LPn_FLT.TRIP n) ∧
      t.bit (F.LPn_STAT.FAULT n) = (t.bit (F.LPn_FLT.LATE n) || t.bit (F.LPn_FLT.PLAUS n) || t.bit (F.LPn_FLT.TRIP n)))

/-- LPE_TICK, plausibility, group trips, lateness and cap loops. LPE_TICK shows the tick and evaluates what is due: a single slot in OPEN without a
request drives its manual output and shows the tick's instant; not in service it only shows the tick. PLAUS_ACTION at PL_N deviations counts, sets
PL_DEV, and by PL_ACT raises source 15 and puts the slot in SAFE with SAFE_OUT. GROUP_TRIP puts every member in SAFE with the lead's SAFE_OUT and sets
the trip bits, and raises source 16 where its own condition caused it. LPE_DEADLINE marks and counts a late slot; LPE_THIRD_LATE puts it in SAFE and
raises source 14; TRIP_STALE raises source 18 and trips the group. CAP_LOOP_RUN steps every cap loop with feedback, its output within its limits, and
holds one without. -/
def Obligations.TheLoopEngineEvaluatesAtItsTick : Prop :=
  ∀ (s : State) (dt : Nat),
    (∀ late st bu, s.lpe.late = [] → s.pgr.stepReleased = [] → s.bit F.LPE_STAT.RUN = false → ∃ t, exec (.lpeTick dt late st bu) s = .next t ∧
      t.get F.LPE_TICK.TICK = (s.elapse dt).now / 250000 % 2 ^ 32 ∧ t.bit F.LPE_STAT.MODEL = s.modelUsable ∧ t.lpe.slots = s.lpe.slots ∧
      SameWords [R.LPE_TICK, R.LPE_STAT] s t) ∧
    (∀ n st bu, s.lpe.late = [] → s.pgr.stepReleased = [] → s.bit F.LPE_STAT.RUN = true → n < 4096 →
      s.dueOrder ((s.elapse dt).now / 250000) = [n] → s.bit (T.LPE_SLOT.GRP_EN n) = false → (s.slot n).mode = 0 → (s.slot n).req = none →
      ∃ t, exec (.lpeTick dt [] st bu) s = .next t ∧ t.get F.LPE_TICK.TICK = (s.elapse dt).now / 250000 % 2 ^ 32 ∧
        (t.slot n).out = (stageRound (f32val (s.slot n).man) (s.expO n)).1 ∧ (t.slot n).mode = 0 ∧
        t.get (F.LPn_EVAL_NS.NS n) = (s.elapse dt).now / 250000 * 250000 % 10 ^ 9 ∧ (∀ k, k ≠ n → t.slot k = s.slot k)) ∧
    (∀ n, n < 4096 → s.get (T.LPE_SLOT.PL_SRC n) ≠ 0 → (s.slot n).plActed = false → s.get (T.LPE_SLOT.PL_N n) ≤ s.get (F.LPn_STAT.PL_RUN n) →
      (s.get (T.LPE_SLOT.PL_ACT n) = 0 → ∃ t, exec (.plausAction dt n) s = .next t ∧ (t.slot n).plActed = true ∧
        (t.slot n).mode = (s.slot n).mode ∧ t.bit (F.LPn_STAT.PL_DEV n) = true ∧
        t.get (F.LPn_PL_CNT.COUNT n) = min (s.get (F.LPn_PL_CNT.COUNT n) + 1) (2 ^ (F.LPn_PL_CNT.COUNT n).width - 1)) ∧
      (s.get (T.LPE_SLOT.PL_ACT n) = 1 → ∃ t, exec (.plausAction dt n) s = .next t ∧ t.bit ⟨R.SAF_FLT_LAT, 15, 1⟩ = true) ∧
      (s.get (T.LPE_SLOT.PL_ACT n) = 2 → ∃ t, exec (.plausAction dt n) s = .next t ∧ t.bit ⟨R.SAF_FLT_LAT, 15, 1⟩ = true ∧
        (t.slot n).mode = 3 ∧ (t.slot n).out = s.safeOut n)) ∧
    (∀ g lead rest, g < 256 → s.members g = lead :: rest → s.bit (tripFld g) = false →
      (∃ t, exec (.groupTrip dt g false) s = .next t ∧ t.bit (tripFld g) = true ∧
        ∀ k ∈ s.members g, (t.slot k).mode = 3 ∧ (t.slot k).out = s.safeOut lead ∧ t.bit (F.LPn_FLT.TRIP k) = true) ∧
      (∃ t, exec (.groupTrip dt g true) s = .next t ∧ t.bit (tripFld g) = true ∧ t.bit ⟨R.SAF_FLT_LAT, 16, 1⟩ = true ∧
        ∀ k ∈ s.members g, (t.slot k).mode = 3)) ∧
    (∀ n, n < 4096 → s.lpe.late = [n] → s.get (F.LPn_STAT.LATE_RUN n) < 2 → ∃ t, exec (.lpeDeadline dt) s = .next t ∧ t.lpe.late = [] ∧
      t.lpe.slots = s.lpe.slots ∧ t.bit (F.LPn_STAT.LATE n) = true ∧ t.bit F.LPE_ERR.LATE = true ∧
      t.get (F.LPn_STAT.LATE_RUN n) = s.get (F.LPn_STAT.LATE_RUN n) + 1 ∧
      t.get F.LPE_LATE_CNT.COUNT = min (s.get F.LPE_LATE_CNT.COUNT + 1) (2 ^ F.LPE_LATE_CNT.COUNT.width - 1)) ∧
    (∀ n, n < 4096 → s.get (F.LPn_STAT.LATE_RUN n) = 3 → s.bit (F.LPn_FLT.LATE n) = false → s.bit (T.LPE_SLOT.GRP_EN n) = false →
      ∃ t, exec (.lpeThirdLate dt n) s = .next t ∧ (t.slot n).mode = 3 ∧ t.bit ⟨R.SAF_FLT_LAT, 14, 1⟩ = true) ∧
    (∀ n w, s.saf.trips.find? (fun w => w.slot == n) = some w → w.grp < 256 → s.members w.grp ≠ [] → ∃ t, exec (.tripStale dt n) s = .next t ∧
      t.bit ⟨R.SAF_FLT_LAT, 18, 1⟩ = true ∧ t.bit (tripFld w.grp) = true) ∧
    (s.bit F.SYS_SVC.CAPLOOP = true → ∃ t, exec (.capLoopRun dt) s = .next t ∧ ∀ k, k < 64 →
      (s.bit (T.CFG_CLOOP.EN k) = true → s.capFed k = true → (t.capLoop k).ran = true ∧
        (s.geti ⟨(T.CFG_CLOOP.SLOT k).key + 28, 0, 32⟩ ≤ s.geti ⟨(T.CFG_CLOOP.SLOT k).key + 32, 0, 32⟩ →
          s.geti ⟨(T.CFG_CLOOP.SLOT k).key + 28, 0, 32⟩ ≤ (t.capLoop k).out ∧
          (t.capLoop k).out ≤ s.geti ⟨(T.CFG_CLOOP.SLOT k).key + 32, 0, 32⟩)) ∧
      (s.bit (T.CFG_CLOOP.EN k) = false ∨ s.capFed k = false → t.capLoop k = s.capLoop k)) ∧
    (s.bit F.SYS_SVC.CAPLOOP = false → ∃ t, exec (.capLoopRun dt) s = .next t ∧ OnlyWords [] (s.elapse dt) t)

/-- The seven AXn_CMD commands, AXn_TARGET and the limit registers. On a configured axis in service ENABLE sets EN_OUT, rests on the present position and
drives EN; DISABLE at rest releases EN, in motion brakes first; STOP and ESTOP brake at DEC and DEC_EMG into HOLD; HOME is rejected while a limit is
latched, sets the position at once with HMODE 3, and otherwise starts the search with HOMED 0; CLR_LIM clears a latch whose input is inactive and sets
CLR_REJ for an active one; CLR_FLT clears FAULT. An axis that is not ready answers each with CMD_REJ alone. A target from the configured writer waits
for the next profile tick, is held while homing, discarded while disabled, and from another writer sets WRITER. An admissible limit is taken, any
other sets RANGE. -/
def Obligations.AxisCommandsActOnAConfiguredAxis : Prop :=
  ∀ (s : State) (dt : Nat) (rq : Rq) (n : Nat), n < 16 →
    (Writes s rq (R.AXn_CMD n) → s.axPresent n = true →
      (s.axReady n = false → ∀ c ∈ [Instr.axEnable dt rq n, .axDisable dt rq n, .axStop dt rq n, .axEstop dt rq n, .axHome dt rq n, .axClrLim dt rq n,
          .axClrFlt dt rq n], ∃ t, exec c s = .next t ∧ t.bit F.MPG_ERR.CMD_REJ = true ∧ OnlyWords [R.MPG_ERR] (s.elapse dt) t) ∧
      (s.axReady n = true →
        (s.bit (F.AXn_STAT.EN_OUT n) = false → ∃ t, exec (.axEnable dt rq n) s = .next t ∧ t.bit (F.AXn_STAT.EN_OUT n) = true ∧
          t.get (F.AXn_STAT.PSTATE n) = 1 ∧ t.geti (F.AXn_TARGET.TARGET n) = s.geti (F.AXn_POS.POS n) ∧ t.bit (F.AXn_STAT.AT_TGT n) = true ∧
          t.emitted.head? = some (.pin (66 + 3 * n) (s.bit (F.AXn_CFG.EN_POL n))) ∧ SameWords [R.AXn_STAT n, R.AXn_TARGET n] s t) ∧
        (s.bit (F.AXn_STAT.EN_OUT n) = true → s.get (F.AXn_STAT.PSTATE n) ≠ 8 →
          ((s.ax n).v = 0 → (s.ax n).brake = 0 →
            (∃ t, exec (.axDisable dt rq n) s = .next t ∧ t.bit (F.AXn_STAT.EN_OUT n) = false ∧ t.get (F.AXn_STAT.PSTATE n) = 0 ∧
              Emit.pin (66 + 3 * n) (!s.bit (F.AXn_CFG.EN_POL n)) ∈ t.emitted) ∧
            (∃ t, exec (.axStop dt rq n) s = .next t ∧ t.get (F.AXn_STAT.PSTATE n) = 7 ∧ t.bit (F.AXn_STAT.EN_OUT n) = true ∧
              t.geti (F.AXn_TARGET.TARGET n) = s.geti (F.AXn_POS.POS n))) ∧
          ((s.ax n).v ≠ 0 → (s.ax n).brake = 0 →
            (∃ t, exec (.axDisable dt rq n) s = .next t ∧ t.bit (F.AXn_STAT.EN_OUT n) = true ∧ (t.ax n).brake = 5 ∧ (t.ax n).v = (s.ax n).v) ∧
            (∃ t, exec (.axStop dt rq n) s = .next t ∧ t.get (F.AXn_STAT.PSTATE n) = 4 ∧ (t.ax n).brake = 3 ∧ (t.ax n).v = (s.ax n).v) ∧
            (∃ t, exec (.axEstop dt rq n) s = .next t ∧ t.get (F.AXn_STAT.PSTATE n) = 6 ∧ (t.ax n).brake = 4 ∧ t.bit (F.AXn_STAT.EMG n) = true))) ∧
        (s.bit (F.AXn_STAT.LIMP n) = true ∨ s.bit (F.AXn_STAT.LIMN n) = true → ∃ t, exec (.axHome dt rq n) s = .next t ∧
          t.bit F.MPG_ERR.CMD_REJ = true ∧ OnlyWords [R.MPG_ERR] (s.elapse dt) t) ∧
        (s.bit (F.AXn_STAT.LIMP n) = false → s.bit (F.AXn_STAT.LIMN n) = false →
          (s.get (F.AXn_HOME_CFG.HMODE n) = 3 → ∃ t, exec (.axHome dt rq n) s = .next t ∧ t.bit (F.AXn_STAT.HOMED n) = true ∧
            t.geti (F.AXn_POS.POS n) = s.geti (F.AXn_HOME_OFS.POS n) ∧ t.get (F.AXn_POS_FRAC.FRAC n) = 0 ∧ (t.ax n).acc = 0) ∧
          (s.get (F.AXn_HOME_CFG.HMODE n) ≠ 3 → s.bit (F.AXn_STAT.EN_OUT n) = true → ∃ t, exec (.axHome dt rq n) s = .next t ∧
            t.bit (F.AXn_STAT.HOMED n) = false ∧ t.get (F.AXn_STAT.PSTATE n) = 8 ∧ t.get (F.AXn_STAT.HPH n) = 1)) ∧
        (s.bit (F.AXn_STAT.LIMP n) = true → s.bit (F.AXn_STAT.LIMN n) = false →
          ((s.ax n).limP = false → ∃ t, exec (.axClrLim dt rq n) s = .next t ∧ t.bit (F.AXn_STAT.LIMP n) = false ∧
            t.bit ⟨R.MPG_LIM, n, 1⟩ = false ∧ OnlyWords [R.AXn_STAT n, R.MPG_LIM] (s.elapse dt) t) ∧
          ((s.ax n).limP = true → ∃ t, exec (.axClrLim dt rq n) s = .next t ∧ t.bit F.MPG_ERR.CLR_REJ = true ∧
            OnlyWords [R.MPG_ERR] (s.elapse dt) t)) ∧
        (∃ t, exec (.axClrFlt dt rq n) s = .next t ∧ t.bit (F.AXn_STAT.FAULT n) = false ∧ OnlyWords [R.AXn_STAT n] (s.elapse dt) t))) ∧
    (∀ v, Writes s rq (R.AXn_TARGET n) → s.axPresent n = true →
      (s.get (F.AXn_CFG.TGT_SRC n) ≠ 0 → ∃ t, exec (.axTargetWrite dt rq n v) s = .next t ∧ t.bit F.MPG_ERR.WRITER = true ∧
        OnlyWords [R.MPG_ERR] (s.elapse dt) t) ∧
      (s.get (F.AXn_CFG.TGT_SRC n) = 0 → s.bit (F.AXn_STAT.EN_OUT n) = false → ∃ t, exec (.axTargetWrite dt rq n v) s = .next t ∧
        OnlyWords [] (s.elapse dt) t) ∧
      (s.get (F.AXn_CFG.TGT_SRC n) = 0 → s.bit (F.AXn_STAT.EN_OUT n) = true →
        (s.get (F.AXn_STAT.PSTATE n) = 8 → ∃ t, exec (.axTargetWrite dt rq n v) s = .next t ∧ t.ax n = { s.ax n with held := some v.toInt } ∧
          SameWords [] s t) ∧
        (s.get (F.AXn_STAT.PSTATE n) ≠ 8 → ∃ t, exec (.axTargetWrite dt rq n v) s = .next t ∧ t.getw (F.AXn_TARGET.TARGET n) = v ∧
          t.ax n = { s.ax n with fresh := true, want := v.toInt } ∧ SameWords [R.AXn_TARGET n] s t))) ∧
    (∀ w v, w < 5 → Writes s rq (R.AXn_VMAX n + 4 * w) → s.axPresent n = true → (w = 0 → s.get (F.AXn_CFG.VMAX_SRC n) = 0) →
      ((limitOk (w == 3) v = false ∨ (w = 0 ∧ s.rateOk n v = false)) → ∃ t, exec (.axLimitWrite dt rq n w v) s = .next t ∧
        t.bit F.MPG_ERR.RANGE = true ∧ OnlyWords [R.MPG_ERR] (s.elapse dt) t) ∧
      (limitOk (w == 3) v = true → (w = 0 → s.rateOk n v = true) → ∃ t, exec (.axLimitWrite dt rq n w v) s = .next t ∧
        t.getw (axLimitFld n w) = v ∧ t.ax n = { s.ax n with replan := true } ∧ SameWords [(axLimitFld n w).key] s t))

/-- RA_TARGET, the four RA_CMD commands and the 250 us tick of remote axes. On a configured remote axis in service a target from the host's configured
writer is taken; STOP and ESTOP at rest enter HOLD on the present position, in motion brake at DEC and DEC_EMG; RESYNC takes the reported position and
rests there; CLR_FLT clears FAULT; an axis that is not configured answers CMD_REJ. At the tick an axis whose station is not UP holds at rest with
REM_DOWN and PSTATE 7; one at rest on its target stays, AT_TGT set, and before a launch slot it commits its position, which RA_SET shows. -/
def Obligations.RemoteAxesTakeCommandsAndFollowTheirStation : Prop :=
  ∀ (s : State) (dt : Nat) (rq : Rq),
    let r := s.get (F.MPG_WIN_SEL.RA rq.num)
    (∀ v, Writes s rq (R.RA_TARGET 0) → s.get (T.MPG_RA.TGT_SRC r) = 0 → s.bit (T.MPG_RA.EN r) = true →
      ∃ t, exec (.raTargetWrite dt rq v) s = .next t ∧ t.getw (F.RA_TARGET.TARGET r) = v ∧
        t.ra r = { s.ra r with fresh := true, want := v.toInt } ∧ SameWords [(F.RA_TARGET.TARGET r).key] s t) ∧
    (Writes s rq (R.RA_CMD 0) →
      ((s.bit (T.MPG_RA.EN r) && s.bit F.MPG_STAT.RUN) = false → ∀ c ∈ [Instr.raStop dt rq, .raEstop dt rq, .raResync dt rq, .raClrFlt dt rq],
        ∃ t, exec c s = .next t ∧ t.bit F.MPG_ERR.CMD_REJ = true ∧ OnlyWords [R.MPG_ERR] (s.elapse dt) t) ∧
      (s.bit (T.MPG_RA.EN r) = true → s.bit F.MPG_STAT.RUN = true →
        ((s.ra r).v = 0 → (s.ra r).brake = 0 → ∃ t, exec (.raStop dt rq) s = .next t ∧ t.get (raStat F.AXn_STAT.PSTATE r) = 7 ∧
          t.getw (F.RA_TARGET.TARGET r) = BitVec.ofInt 32 (s.ra r).pos) ∧
        ((s.ra r).v ≠ 0 → (s.ra r).brake = 0 →
          (∃ t, exec (.raStop dt rq) s = .next t ∧ t.get (raStat F.AXn_STAT.PSTATE r) = 4 ∧ t.ra r = { s.ra r with brake := 3, fresh := false }) ∧
          (∃ t, exec (.raEstop dt rq) s = .next t ∧ t.get (raStat F.AXn_STAT.PSTATE r) = 6 ∧ t.bit (raStat F.AXn_STAT.EMG r) = true ∧
            t.ra r = { s.ra r with brake := 4, fresh := false })) ∧
        (∃ t, exec (.raResync dt rq) s = .next t ∧ (t.ra r).pos = s.raPos r ∧ (t.ra r).acc = 0 ∧ (t.ra r).v = 0 ∧ (t.ra r).brake = 0 ∧
          t.getw (F.RA_TARGET.TARGET r) = BitVec.ofInt 32 (s.raPos r) ∧ t.get (F.RA_VEL.VEL r) = 0) ∧
        (∃ t, exec (.raClrFlt dt rq) s = .next t ∧ t.bit (raStat F.AXn_STAT.FAULT r) = false ∧ OnlyWords [R.RA_STAT r] (s.elapse dt) t))) ∧
    (s.bit F.MPG_STAT.RUN = true →
      (∀ k ∈ s.raList, s.stnUp (s.get (T.MPG_RA.STATION k)) = false → ∃ t, exec (.remoteAxisTick dt) s = .next t ∧
        t.bit (raStat F.AXn_STAT.REM_DOWN k) = true ∧ t.get (raStat F.AXn_STAT.PSTATE k) = 7 ∧ (t.ra k).v = 0 ∧ (t.ra k).down = true) ∧
      (∀ k sl, s.raList = [k] → s.stnUp (s.get (T.MPG_RA.STATION k)) = true → (s.ra k).down = false → (s.ra k).fresh = false →
        (s.ra k).brake = 0 → (s.ra k).v = 0 → (s.ra k).acc = 0 → s.get (raStat F.AXn_STAT.PSTATE k) = 1 →
        (s.ra k).pos = s.geti (F.RA_TARGET.TARGET k) → s.slotFrom (s.get (T.MPG_RA.STATION k)) ((s.elapse dt).now + 50000) = some sl →
        ∃ t, exec (.remoteAxisTick dt) s = .next t ∧ t.bit (raStat F.AXn_STAT.AT_TGT k) = true ∧ (t.ra k).pos = (s.ra k).pos ∧
          (sl < (s.elapse dt).now + 300000 → t.geti (F.RA_SET.POS k) = (s.ra k).pos) ∧
          ((s.elapse dt).now + 300000 ≤ sl → t.dram = s.dram ∧ t.cache = s.cache))) ∧
    (s.bit F.MPG_STAT.RUN = false → ∃ t, exec (.remoteAxisTick dt) s = .next t ∧ OnlyWords [] (s.elapse dt) t)

/-- PROFILE_TICK, LIMIT_TRIP and HOME_SIGNAL_CHANGE. At a profile tick an axis at rest on its target stays there with AT_TGT and no step; one at rest with
a new target, without soft limits and latched limits, takes it and moves toward it, within VMAX and never past it. A limit trip latches the limit,
sets LIMIT and stops the axis, at once or braking at DEC_EMG as LIM_MODE selects; an unused limit does nothing. While homing on the HOME switch an
active signal brakes the search, its end starts the approach, and the next active one captures the position and brakes; an axis that is not homing
only keeps the level. -/
def Obligations.AxesMoveTowardTheirTargetsAndStopAtLimits : Prop :=
  ∀ (s : State) (dt n : Nat), n < 16 →
    (∀ samples, s.bit F.MPG_STAT.RUN = true → s.axPresent n = true → s.bit (F.AXn_CFG.EN n) = true → s.bit (F.AXn_STAT.EN_OUT n) = true →
      samples.lookup n = none → s.get (F.AXn_STAT.PSTATE n) = 1 → (s.ax n).v = 0 → (s.ax n).a = 0 → (s.ax n).brake = 0 →
      ((s.ax n).fresh = false → (s.ax n).acc = 0 → s.geti (F.AXn_POS.POS n) = s.geti (F.AXn_TARGET.TARGET n) →
        ∃ t, exec (.profileTick dt samples) s = .next t ∧ t.geti (F.AXn_POS.POS n) = s.geti (F.AXn_POS.POS n) ∧
          t.bit (F.AXn_STAT.AT_TGT n) = true ∧ t.get (F.AXn_STAT.PSTATE n) = 1 ∧ ∀ k, Emit.steps n k ∉ t.emitted) ∧
      (∀ w : Int, (s.ax n).fresh = true → (s.ax n).want = w → -(2 ^ 31) ≤ w → w < 2 ^ 31 → s.bit (F.AXn_CFG.SOFT_EN n) = false →
        s.bit (F.AXn_STAT.LIMP n) = false → s.bit (F.AXn_STAT.LIMN n) = false → 0 < (s.axCfg n).vmax → (s.ax n).acc < 2 ^ 48 →
        ∃ t, exec (.profileTick dt samples) s = .next t ∧ t.geti (F.AXn_TARGET.TARGET n) = w ∧ (t.ax n).fresh = false ∧
          (t.ax n).v.natAbs ≤ (s.axCfg n).vmax ∧ min w (s.geti (F.AXn_POS.POS n)) ≤ t.geti (F.AXn_POS.POS n) ∧
          t.geti (F.AXn_POS.POS n) ≤ max w (s.geti (F.AXn_POS.POS n)))) ∧
    (∀ samples, s.bit F.MPG_STAT.RUN = false → ∃ t, exec (.profileTick dt samples) s = .next t ∧ OnlyWords [] (s.elapse dt) t) ∧
    (∀ plus : Bool, let st := if plus then F.AXn_STAT.LIMP n else F.AXn_STAT.LIMN n
      (s.bit (if plus then F.AXn_LIM_CFG.LIMP_EN n else F.AXn_LIM_CFG.LIMN_EN n) = true → s.get (F.AXn_STAT.PSTATE n) ≠ 8 →
        s.get (F.AXn_STAT.PSTATE n) ≠ 0 →
        (s.bit (F.AXn_LIM_CFG.LIM_MODE n) = false → ∃ t, exec (.limitTrip dt n plus) s = .next t ∧ t.bit st = true ∧
          t.bit F.MPG_ERR.LIMIT = true ∧ t.get (F.AXn_STAT.PSTATE n) = 7 ∧ (t.ax n).v = 0 ∧
          t.geti (F.AXn_TARGET.TARGET n) = s.geti (F.AXn_POS.POS n) ∧ t.geti (F.AXn_POS.POS n) = s.geti (F.AXn_POS.POS n)) ∧
        (s.bit (F.AXn_LIM_CFG.LIM_MODE n) = true → (s.ax n).v ≠ 0 → (s.ax n).brake = 0 → ∃ t, exec (.limitTrip dt n plus) s = .next t ∧
          t.bit st = true ∧ t.bit F.MPG_ERR.LIMIT = true ∧ t.get (F.AXn_STAT.PSTATE n) = 6 ∧ (t.ax n).brake = 4 ∧ (t.ax n).v = (s.ax n).v)) ∧
      (s.bit (if plus then F.AXn_LIM_CFG.LIMP_EN n else F.AXn_LIM_CFG.LIMN_EN n) = false → ∃ t, exec (.limitTrip dt n plus) s = .next t ∧
        OnlyWords [] (s.elapse dt) t)) ∧
    (s.get (F.AXn_HOME_CFG.HMODE n) = 0 →
      (s.get (F.AXn_STAT.PSTATE n) = 8 → (s.ax n).brake ≠ 9 →
        (s.get (F.AXn_STAT.HPH n) = 1 → ∃ t, exec (.homeSignalChange dt n true) s = .next t ∧ (t.ax n).brake = 9 ∧ (t.ax n).home = true ∧
          SameWords [] s t) ∧
        (s.get (F.AXn_STAT.HPH n) = 2 → ∃ t, exec (.homeSignalChange dt n false) s = .next t ∧ t.get (F.AXn_STAT.HPH n) = 3 ∧
          (t.ax n).brake = (s.ax n).brake ∧ SameWords [R.AXn_STAT n] s t) ∧
        (s.get (F.AXn_STAT.HPH n) = 3 → ∃ t, exec (.homeSignalChange dt n true) s = .next t ∧ (t.ax n).brake = 9 ∧
          t.geti (F.AXn_HOME_POS.POS n) = s.geti (F.AXn_POS.POS n) ∧ SameWords [R.AXn_HOME_POS n] s t)) ∧
      (s.get (F.AXn_STAT.PSTATE n) ≠ 8 → ∀ l, ∃ t, exec (.homeSignalChange dt n l) s = .next t ∧ (t.ax n).home = l ∧
        (t.ax n).brake = (s.ax n).brake ∧ SameWords [] s t))

/-- NSV's wake, solve start, completion, deadline, image change, staleness, CLR_BAD and TH_REINIT. A wake request in service takes the idle sequencer for
domain 13, and does nothing while NSV is shed. A solve start with the domain on latches the sensors' stations, notes the snapshot and shows SOLVING;
one that falls in the warning is counted in NSV_SHED; CLR_BAD noted before clears the flags. Completion writes the other image with the next sequence,
leaves the current one untouched, shows a converged layer, gates the domain and marks the image ready; the tick makes it current with its sequence.
The deadline abandons a solve with OVR and NSV_STALE. After five periods the model is stale. CLR_BAD and TH_REINIT are noted for the next solve. -/
def Obligations.TheNetworkSolverFollowsItsSchedule : Prop :=
  ∀ (s : State) (dt : Nat),
    (s.bit F.NSV_STAT.RUN = true →
      (s.bit F.NSV_STAT.SHED = false → s.domOn 13 = false → s.bit (domFailFld 13) = false → s.pwr.waking = none → s.pwr.queue = [] →
        s.pwr.gap = false → s.pwr.phase = 3 → s.bit F.PWR_STAT.PFW = false → ∃ t, exec (.nsvWakeRequest dt) s = .next t ∧
          t.pwr.waking = some (13, (s.elapse dt).clock.up) ∧ t.pwr.queue = [] ∧ SameWords [] s t) ∧
      (s.bit F.NSV_STAT.SHED = true → (∃ t, exec (.nsvWakeRequest dt) s = .next t ∧ OnlyWords [] (s.elapse dt) t) ∧
        ∃ t, exec (.nsvSolveStart dt) s = .next t ∧ t.get F.NSV_SHED.COUNT = min (s.get F.NSV_SHED.COUNT + 1) 0xFFFFFFFF ∧
          OnlyWords [R.NSV_SHED] (s.elapse dt) t) ∧
      (s.bit F.NSV_STAT.SHED = false → s.domOn 13 = true → s.bit F.NSV_STAT.SOLVING = false → ∃ t, exec (.nsvSolveStart dt) s = .next t ∧
        t.bit F.NSV_STAT.SOLVING = true ∧ t.nsv.startUp = (s.elapse dt).clock.up ∧ t.nsv.snapSec = (s.elapse dt).sec32 ∧
        t.nsv.snapNs = (s.elapse dt).nsNow ∧ t.nsv.img = s.nsv.img ∧ t.nsv.cur = s.nsv.cur ∧
        t.nsv.latched = s.sensStns.map (fun n => (n, s.newest n, s.bufWseq n (s.newest n))) ∧
        (s.nsv.clrBad = true → t.nsv.bad = [] ∧ t.nsv.clrBad = false ∧ ∀ l, l < 3 → t.get (F.NSV_NETn_STAT.BAD l) = 0))) ∧
    (∀ late l0 l1 l2, s.bit F.NSV_STAT.SOLVING = true → s.nsv.cur ≤ 1 → ∃ t, exec (.nsvSolveComplete dt late l0 l1 l2) s = .next t ∧
      t.bit F.NSV_STAT.SOLVING = false ∧ t.domOn 13 = false ∧ t.nsv.ready = true ∧ t.nsv.cur = s.nsv.cur ∧
      look (fun _ => 0) t.nsv.img ((1 - s.nsv.cur) * 0x100000) = BitVec.ofNat 32 (s.get F.NSV_SEQ.SEQ + 1) ∧
      (∀ off, off < 0x100000 → t.imgWord off = s.imgWord off) ∧
      t.get F.NSV_LAST_US.US = min (((s.elapse dt).clock.up - s.nsv.startUp) / 250) 0xFFFFFFFF ∧
      (s.layerActive 0 = true → s.nsv.granted.contains 0 = true → l0.conv = true → l0.iters ≤ s.get F.NSV_ITER.MAX_IT →
        t.bit (F.NSV_NETn_STAT.CONV 0) = true ∧ t.get (F.NSV_NETn_STAT.NCONV_RUN 0) = 0)) ∧
    (s.nsv.ready = true → ∃ t, exec (.imageCurrent dt) s = .next t ∧ t.nsv.cur = 1 - s.nsv.cur ∧ t.nsv.ready = false ∧
      t.nsv.snapUp = s.nsv.startUp ∧ t.modelUsable = true ∧ t.getw F.NSV_SEQ.SEQ = t.imgWord 0 ∧
      ∀ l, l < 3 → t.get (F.NSV_NETn_STAT.VALID l) = s.nsv.readyValid / 2 ^ l % 2) ∧
    (s.nsv.ready = false → ∃ t, exec (.imageCurrent dt) s = .next t ∧ OnlyWords [] (s.elapse dt) t) ∧
    (s.bit F.NSV_STAT.SOLVING = true → ∃ t, exec (.nsvDeadline dt) s = .next t ∧ t.bit F.NSV_STAT.SOLVING = false ∧ t.bit F.NSV_ERR.OVR = true ∧
      t.get F.NSV_STALE.COUNT = min (s.get F.NSV_STALE.COUNT + 1) 0xFFFFFFFF ∧ OnlyWords [R.NSV_STAT, R.NSV_STALE, R.NSV_ERR] (s.elapse dt) t) ∧
    (s.bit F.NSV_STAT.IMG = true → s.bit F.NSV_STAT.STALE = false →
      (5 * s.get F.NSV_PERIOD.PERIOD * 250000 < (s.elapse dt).clock.up - s.nsv.snapUp → ∃ t, exec (.modelStale dt) s = .next t ∧
        t.bit F.NSV_STAT.STALE = true ∧ t.bit F.NSV_ERR.STALE = true ∧ t.modelUsable = false ∧ t.nsv = s.nsv) ∧
      ((s.elapse dt).clock.up - s.nsv.snapUp ≤ 5 * s.get F.NSV_PERIOD.PERIOD * 250000 → ∃ t, exec (.modelStale dt) s = .next t ∧
        OnlyWords [] (s.elapse dt) t)) ∧
    (∀ rq, Writes s rq R.NSV_CTRL → (∃ t, exec (.nsvClrBad dt rq) s = .next t ∧ t.nsv = { s.nsv with clrBad := true } ∧ SameWords [] s t) ∧
      ∃ t, exec (.nsvThReinit dt rq) s = .next t ∧ t.nsv = { s.nsv with thReinit := true } ∧ SameWords [] s t)

/-- DOP's wake, solve start, phases, results and lateness. A wake request in service takes the idle sequencer for domain 14; on hold or shed it does
nothing. A solve start with the domain on shows SOLVING, its S and one of the first two phases; on hold it does nothing, in the warning it counts in
DOP_SHED_CNT with class 6. At the end of the solve phase coupling follows where an intertie is coupled; with none, and at the end of the final solve,
a converged result is class 1, counts DOP_SEQ and is applied as the plan, one without a solution is class 3, sets NOSOL and leaves plan and sequence;
the domain is gated. DOP_LATE ends the solve with class 5 and no plan. -/
def Obligations.TheDispatchOptimiserRunsItsSolves : Prop :=
  ∀ (s : State) (dt : Nat),
    (s.bit F.DOP_STAT.RUN = true →
      (s.bit F.DOP_STAT.SHED = false → s.bit F.DOP_CTRL.HOLD = false → s.domOn 14 = false → s.bit (domFailFld 14) = false →
        s.domPresent 14 = true → s.pwr.waking = none → s.pwr.queue = [] → s.pwr.gap = false → s.pwr.phase = 3 → s.bit F.PWR_STAT.PFW = false →
        ∃ t, exec (.dopWakeRequest dt) s = .next t ∧ t.pwr.waking = some (14, (s.elapse dt).clock.up) ∧ SameWords [] s t) ∧
      (s.bit F.DOP_CTRL.HOLD = true → ∀ c ∈ [Instr.dopWakeRequest dt, .dopSolveStart dt], ∃ t, exec c s = .next t ∧ OnlyWords [] (s.elapse dt) t) ∧
      (s.bit F.DOP_CTRL.HOLD = false → s.bit F.DOP_STAT.SOLVING = false →
        (s.bit F.DOP_STAT.SHED = true → ∃ t, exec (.dopSolveStart dt) s = .next t ∧ t.get F.DOP_RESULT.CLASS = 6 ∧
          t.get F.DOP_SHED_CNT.COUNT = min (s.get F.DOP_SHED_CNT.COUNT + 1) 0xFFFFFFFF ∧
          OnlyWords [R.DOP_RESULT, R.DOP_SHED_CNT] (s.elapse dt) t) ∧
        (s.bit F.DOP_STAT.SHED = false → s.domOn 14 = true → ∃ t, exec (.dopSolveStart dt) s = .next t ∧ t.bit F.DOP_STAT.SOLVING = true ∧
          (t.get F.DOP_STAT.PHASE = 1 ∨ t.get F.DOP_STAT.PHASE = 2) ∧ t.dop.s = (s.elapse dt).dopS ∧
          t.get F.DOP_S_SEC.SEC = (s.elapse dt).dopS % 2 ^ 32 ∧ t.dop.round = 0 ∧ t.dop.firstOne = false ∧ t.dop.isLocal = s.dop.firstOne))) ∧
    (s.bit F.DOP_STAT.SOLVING = true →
      (s.get F.DOP_STAT.PHASE < 3 → s.coupledNbs ≠ [] → ∀ r, ∃ t, exec (.dopSolvePhaseDone dt r) s = .next t ∧ t.get F.DOP_STAT.PHASE = 3 ∧
        OnlyWords [R.DOP_STAT] (s.elapse dt) t) ∧
      (∀ r, ∀ c ∈ [Instr.dopSolvePhaseDone dt r, .finalSolveDone dt r],
        (c = .dopSolvePhaseDone dt r → s.get F.DOP_STAT.PHASE < 3 ∧ s.coupledNbs = []) →
        (c = .finalSolveDone dt r → s.get F.DOP_STAT.PHASE = 4) →
        (r.conv = true → ∃ t, exec c s = .next t ∧ t.bit F.DOP_STAT.SOLVING = false ∧ t.get F.DOP_RESULT.CLASS = 1 ∧
          t.get F.DOP_SEQ.SEQ = min (s.get F.DOP_SEQ.SEQ + 1) 0xFFFFFFFF ∧ t.bit F.DOP_STAT.PLAN = true ∧ t.domOn 14 = false ∧
          t.trj.buf = 1 - s.trj.buf ∧ t.trj.lastPlan = t.get F.DOP_SEQ.SEQ) ∧
        (r.conv = false → r.infeas = false → r.acc = false → ∃ t, exec c s = .next t ∧ t.bit F.DOP_STAT.SOLVING = false ∧
          t.get F.DOP_RESULT.CLASS = 3 ∧ t.bit F.DOP_ERR.NOSOL = true ∧ t.get F.DOP_SEQ.SEQ = s.get F.DOP_SEQ.SEQ ∧ t.trj = s.trj ∧
          t.get F.DOP_NOSOL_CNT.COUNT = min (s.get F.DOP_NOSOL_CNT.COUNT + 1) 0xFFFFFFFF)) ∧
      (∃ t, exec (.dopLate dt) s = .next t ∧ t.bit F.DOP_STAT.SOLVING = false ∧ t.get F.DOP_RESULT.CLASS = 5 ∧ t.bit F.DOP_ERR.LATE = true ∧
        t.get F.DOP_LATE_CNT.COUNT = min (s.get F.DOP_LATE_CNT.COUNT + 1) 0xFFFFFFFF ∧ t.get F.DOP_SEQ.SEQ = s.get F.DOP_SEQ.SEQ ∧
        t.trj = s.trj ∧ t.domOn 14 = false))

/-- Coupling fragments and rounds, HOLD, the forecast buffer, and the follower's plans. A round's send marks it sent while a neighbour's fragments are
missing; a fragment of a coupled neighbour's present round is kept, one from an unknown node sets NB_CFG; the round wait's end closes a sent round.
HOLD is shown. A forecast word goes to the staging buffer, but during a commit is dropped with FC_BUSY; FC_COMMIT shows, and its end copies the
staging buffer word for word, counts FC_SEQ and clears it. A follower takes its leader's fragments: another sender sets NOLEADER, a malformed one FMT;
the last fragment applies the plan; an incomplete plan is discarded with INCOMPLETE; the timeout shows LEADER_LOST. -/
def Obligations.CouplingRoundsForecastsAndFollowedPlans : Prop :=
  ∀ (s : State) (dt : Nat),
    (s.bit F.DOP_STAT.SOLVING = true → s.get F.DOP_STAT.PHASE = 3 →
      (∀ e, s.dop.sent = false → (∃ j ∈ s.coupledNbs, ((s.dnb j).ofRound s.dop.round false (s.get (T.DOP_NB.NV j))).length ≠ s.get (T.DOP_NB.NV j)) →
        ∃ t, exec (.couplingRoundSend dt e) s = .next t ∧ t.dop.sent = true ∧ t.dop.round = s.dop.round ∧ t.get F.DOP_STAT.PHASE = 3) ∧
      (s.dop.sent = true → ∃ t, exec (.roundWaitExpiry dt) s = .next t ∧ t.dop.round = s.dop.round + 1 ∧ t.dop.sent = false) ∧
      (s.dop.sent = false → ∃ t, exec (.roundWaitExpiry dt) s = .next t ∧ OnlyWords [] (s.elapse dt) t)) ∧
    (s.bit F.DOP_STAT.RUN = true → ∀ src fr,
      ((∀ j ∈ s.dopNbs, s.get (T.DOP_NB.NODE j) ≠ src) → ∃ t, exec (.couplingFragmentReceived dt src fr) s = .next t ∧
        t.bit F.DOP_ERR.NB_CFG = true ∧ OnlyWords [R.DOP_ERR] (s.elapse dt) t) ∧
      (∀ j, s.dopNbs.find? (fun j => s.get (T.DOP_NB.NODE j) == src) = some j → fr.itie = s.get (T.DOP_NB.ITIE_ID j) →
        fr.nv = s.get (T.DOP_NB.NV j) → fr.n = s.dopN → fr.stepMin = s.get F.DOP_STEP.STEP_MIN → fr.rho = s.getw (T.DOP_NB.RHO j) →
        s.bit F.DOP_STAT.SOLVING = true → s.dop.isLocal = false → fr.epoch = s.dop.s % 2 ^ 32 → s.get (F.NB_STAT.STATE j) = 1 →
        (s.dnb j).ended = false → s.dop.sent = false → s.dop.round ≤ fr.iter → fr.done = false →
        (∀ f ∈ (s.dnb j).frags, ¬ (f.iter = fr.iter ∧ f.k = fr.k ∧ f.price = fr.price)) →
        ∃ t, exec (.couplingFragmentReceived dt src fr) s = .next t ∧ t.dnb j = { s.dnb j with frags := (s.dnb j).frags ++ [fr] } ∧
          SameWords [] s t)) ∧
    (s.dopPresent = true →
      (∀ rq v, Writes s rq R.DOP_CTRL → v.getLsbD 0 = false → ∃ t, exec (.dopHoldWrite dt rq v) s = .next t ∧
        t.bit F.DOP_CTRL.HOLD = v.getLsbD 1 ∧ t.bit F.DOP_STAT.HOLD = v.getLsbD 1 ∧ t.bit F.DOP_CTRL.FC_COMMIT = s.bit F.DOP_CTRL.FC_COMMIT ∧
        OnlyWords [R.DOP_CTRL, R.DOP_STAT] (s.elapse dt) t) ∧
      (∀ rq, Writes s rq R.DOP_CTRL → ∃ t, exec (.fcCommit dt rq) s = .next t ∧ t.bit F.DOP_CTRL.FC_COMMIT = true ∧
        t.bit F.DOP_CTRL.HOLD = s.bit F.DOP_CTRL.HOLD ∧ OnlyWords [R.DOP_CTRL, R.DOP_STAT] (s.elapse dt) t) ∧
      (∀ rq v, Writes s rq R.DOP_FC_DATA →
        (s.bit F.DOP_CTRL.FC_COMMIT = false → ∃ t, exec (.fcDataWrite dt rq v) s = .next t ∧
          t.getw (dopFld (0x1400000 + s.get F.DOP_FC_ADDR.ADDR / 4 * 4)) = v ∧
          t.get F.DOP_FC_ADDR.ADDR = (s.get F.DOP_FC_ADDR.ADDR + 4) % 2 ^ F.DOP_FC_ADDR.ADDR.width) ∧
        (s.bit F.DOP_CTRL.FC_COMMIT = true → ∃ t, exec (.fcDataWrite dt rq v) s = .next t ∧ t.bit F.DOP_ERR.FC_BUSY = true ∧
          OnlyWords [R.DOP_ERR, R.DOP_FC_ADDR] (s.elapse dt) t))) ∧
    (s.bit F.DOP_CTRL.FC_COMMIT = true → canon resetWord s.words = true → ∃ t, exec (.fcCommitDone dt) s = .next t ∧
      t.bit F.DOP_CTRL.FC_COMMIT = false ∧ t.bit F.DOP_STAT.FC = true ∧ t.get F.DOP_FC_SEQ.SEQ = (s.get F.DOP_FC_SEQ.SEQ + 1) % 2 ^ 32 ∧
      t.dop.fcSec = some (s.elapse dt).clock.sec ∧
      ∀ o, o < 0xC400 → t.word (dopFld (0x1410000 + o)).key = s.word (dopFld (0x1400000 + o)).key) ∧
    (∀ src fr, s.get F.TRJ_CFG.SRC = 2 → s.bit F.TRJ_STAT.RUN = true →
      (src ≠ s.get F.TRJ_CFG.LEADER → ∀ w, ∃ t, exec (.trajFragmentReceived dt src fr w) s = .next t ∧ t.bit F.TRJ_ERR.NOLEADER = true ∧
        OnlyWords [R.TRJ_ERR] (s.elapse dt) t) ∧
      (src = s.get F.TRJ_CFG.LEADER → ∃ t, exec (.trajFragmentReceived dt src fr false) s = .next t ∧ t.bit F.TRJ_ERR.FMT = true ∧
        OnlyWords [R.TRJ_ERR] (s.elapse dt) t) ∧
      (src = s.get F.TRJ_CFG.LEADER → s.trj.rx = none → (s.bit F.TRJ_STAT.PLAN = false ∨ s.trj.lastPlan < fr.plan) → 2 ≤ fr.n → fr.n ≤ 192 →
        1 ≤ fr.stepMin → fr.stepMin ≤ 60 →
        (1 < fr.cnt → ∃ t p, exec (.trajFragmentReceived dt src fr true) s = .next t ∧ t.trj.rx = some (p, fr.cnt) ∧ p.seq = fr.plan ∧
          p.vals = [(fr.rch, fr.values)] ∧ SameWords [] s t) ∧
        (fr.cnt = 1 → ∃ t, exec (.trajFragmentReceived dt src fr true) s = .next t ∧ t.trj.rx = none ∧ t.trj.buf = 1 - s.trj.buf ∧
          t.trj.lastPlan = fr.plan ∧ t.get F.TRJ_SEQ.PLAN = fr.plan % 2 ^ 32 ∧ t.bit F.TRJ_STAT.PLAN = true ∧
          t.get F.TRJ_RX_CNT.COUNT = min (s.get F.TRJ_RX_CNT.COUNT + 1) 0xFFFFFFFF))) ∧
    (∀ x, s.trj.rx = some x → ∃ t, exec (.trajPlanIncomplete dt) s = .next t ∧ t.trj = { s.trj with rx := none } ∧
      t.bit F.TRJ_ERR.INCOMPLETE = true ∧ SameWords [R.TRJ_ERR] s t) ∧
    (s.get F.TRJ_CFG.SRC = 2 → ∃ t, exec (.leaderTimeout dt) s = .next t ∧ t.bit F.TRJ_STAT.LEADER_LOST = true ∧
      OnlyWords [R.TRJ_STAT] (s.elapse dt) t)

/-- Source states, switch timers, the return, the synchronous wait, BLOCKED and CLR_FLT. With no deferred reset: SOURCE_QUALIFIED makes a qualifying
source HEALTHY; the cap detector's low voltage makes source 0 LOST and opens the primary switch. From OPEN_BOTH a healthy source 0 closes it; DEAD_T
past the confirmed open primary closes the alternate; feedback or BRK_T confirms a closing and ends the transfer in ALTERNATE or NORMAL. The return
timer or RETURN opens the alternate or waits for synchronism; the wait's end returns to ALTERNATE with SYNC_TMO or opens it as RET_OPEN says; RETURN
elsewhere is rejected. A confirmation that fails in FB_T, or an overlap beyond OVL_MAX, blocks the machine and raises source 13; CLR_FLT leaves
BLOCKED by the confirmed positions. -/
def Obligations.TheTransferMachineTakesTableRows : Prop :=
  ∀ (s : State) (dt : Nat), s.saf.wdDeferred = false →
    ∀ n m, s.foRole 1 = some n → s.foRole 2 = some m → s.bit (F.CSB_FOn_CFG.FB_EN n) = false →
    (∀ a b, (s.get F.CSB_STAT.STATE = 1 ∨ s.get F.CSB_STAT.STATE = 10) → s.get F.CSB_STAT.SRC0 = 2 → s.get F.CSB_STAT.SRC1 = 2 →
      ∃ t, exec (.sourceQualified dt a b) s = .next t ∧ t.get F.CSB_STAT.SRC0 = (if a then 3 else 2) ∧
        t.get F.CSB_STAT.SRC1 = (if b then 3 else 2) ∧ t.get F.CSB_STAT.STATE = s.get F.CSB_STAT.STATE ∧ OnlyWords [R.CSB_STAT] (s.elapse dt) t) ∧
    (s.get F.CSB_STAT.STATE = 3 → s.get F.CSB_STAT.SRC0 = 2 → s.mayClose false = true → ∃ t, exec (.sourceQualified dt true false) s = .next t ∧
      t.get F.CSB_STAT.SRC0 = 3 ∧ t.get F.CSB_STAT.STATE = 9 ∧ t.foCmd n = true ∧ t.csb.brk1 = false) ∧
    (s.bit F.CSB_STAT.ROMDET = true → s.bit F.CSB_CFG.ALT_MODE = true → s.islPresent 0 = true → s.csbHas 0 = true →
      (s.get F.CSB_STAT.SRC0 = 2 ∨ s.get F.CSB_STAT.SRC0 = 3) → s.get F.CSB_STAT.STATE = 1 → s.csbW 0 ≤ (s.csbSrc 0).hist.length →
      (meanSquares true (s.winSums 0 7 (s.csbW 0)) (s.csbW 0)).any (msBelow (s.get (F.ISLn_CFG.VNOM 0)) 500) = true →
      ∃ t, exec (.capDetectorEval dt) s = .next t ∧ t.get F.CSB_STAT.SRC0 = 1 ∧ t.bit F.CSB_ERR.LOSS0 = true ∧ t.get F.CSB_STAT.STATE = 2 ∧
        t.foCmd n = false ∧ t.get F.CSB_LOSS_SEC.SEC = (s.elapse dt).sec32) ∧
    (s.bit F.CSB_STAT.ROMDET = false → ∃ t, exec (.capDetectorEval dt) s = .next t ∧ OnlyWords [] (s.elapse dt) t) ∧
    (∀ k l, s.get F.CSB_STAT.STATE = 4 → s.get F.CSB_STAT.SRC1 = 3 → s.bit F.CSB_STAT.ROMDET = true → s.bit F.CSB_CFG.ALT_MODE = false →
      s.csb.recalling = [] → s.bit (F.CSB_FOn_CFG.FB_EN m) = true → s.get (F.CSB_FOn_CFG.FB_IDX m) = k →
      (l == s.bit (F.CSB_FOn_CFG.FB_POL m)) = s.foCmd m → ∃ t, exec (.fiInputChange dt k l) s = .next t ∧ t.fi k = l ∧
        t.get F.CSB_STAT.STATE = 5 ∧ t.get F.CSB_TRF_CNT.COUNT = min (s.get F.CSB_TRF_CNT.COUNT + 1) 0xFFFFFFFF) ∧
    (s.get F.CSB_STAT.STATE = 9 → s.get F.CSB_STAT.SRC0 = 3 → ∃ t, exec (.switchConfirmTime dt false) s = .next t ∧ t.get F.CSB_STAT.STATE = 1 ∧
      t.csb.brk1 = true ∧ t.get F.CSB_TRF_CNT.COUNT = min (s.get F.CSB_TRF_CNT.COUNT + 1) 0xFFFFFFFF) ∧
    (s.bit (F.CSB_FOn_CFG.FB_EN m) = false →
      (s.get F.CSB_STAT.STATE = 2 → s.get F.CSB_STAT.SRC1 = 3 → s.csb.brk1 = true → s.foCmd n = false → s.foCmd m = false →
        ∃ t, exec (.deadTimeExpiry dt false) s = .next t ∧ t.get F.CSB_STAT.STATE = 4 ∧ t.foCmd m = true ∧ t.csb.brk2 = false) ∧
      (s.get F.CSB_STAT.STATE = 5 → s.get F.CSB_STAT.SRC0 = 3 → s.get F.CSB_STAT.SRC1 ≠ 1 → s.bit F.CSB_STAT.ROMDET = false →
        (s.bit F.CSB_CFG.SYNC_EN = false →
          (s.bit F.CSB_CTRL.RET_INH = false → ∃ t, exec (.returnTimerExpiry dt) s = .next t ∧ t.get F.CSB_STAT.STATE = 8 ∧ t.foCmd m = false) ∧
          (∀ rq, Writes s rq R.CSB_CMD → ∃ t, exec (.csbReturn dt rq) s = .next t ∧ t.get F.CSB_STAT.STATE = 8 ∧ t.foCmd m = false)) ∧
        (s.bit F.CSB_CFG.SYNC_EN = true → s.bit F.CSB_CTRL.RET_INH = false → ∃ t, exec (.returnTimerExpiry dt) s = .next t ∧
          t.get F.CSB_STAT.STATE = 6 ∧ t.foCmd m = s.foCmd m)) ∧
      (s.get F.CSB_STAT.STATE = 6 → s.get F.CSB_STAT.SRC0 = 3 → s.get F.CSB_STAT.SRC1 ≠ 1 → s.csb.syncRun < 2 → s.csb.returnCmd = false →
        (s.bit F.CSB_CFG.RET_OPEN = false → ∃ t, exec (.syncWaitExpiry dt) s = .next t ∧ t.get F.CSB_STAT.STATE = 5 ∧
          t.bit F.CSB_ERR.SYNC_TMO = true ∧ t.csb.retDone = false) ∧
        (s.bit F.CSB_CFG.RET_OPEN = true → ∃ t, exec (.syncWaitExpiry dt) s = .next t ∧ t.get F.CSB_STAT.STATE = 8 ∧ t.foCmd m = false))) ∧
    (s.get F.CSB_STAT.SRC0 ≠ 3 → ∃ t, exec (.returnTimerExpiry dt) s = .next t ∧ OnlyWords [] (s.elapse dt) t) ∧
    (∀ alt, (s.awaits alt = true → s.swConfirmed alt = false → ∃ t, exec (.switchConfirmTimeout dt alt) s = .next t ∧
        t.get F.CSB_STAT.STATE = 10 ∧ t.bit F.CSB_ERR.BLOCKED = true ∧ t.bit ⟨R.SAF_FLT_LAT, 13, 1⟩ = true) ∧
      (s.awaits alt = false ∨ s.swConfirmed alt = true → ∃ t, exec (.switchConfirmTimeout dt alt) s = .next t ∧ OnlyWords [] (s.elapse dt) t)) ∧
    (s.get F.CSB_STAT.STATE = 8 → s.csb.after7 = true → s.swConfirmed true = false → ∃ t, exec (.overlapTimeout dt) s = .next t ∧
      t.get F.CSB_STAT.STATE = 10 ∧ t.bit F.CSB_ERR.BLOCKED = true ∧ t.bit ⟨R.SAF_FLT_LAT, 13, 1⟩ = true) ∧
    (∀ rq, Writes s rq R.CSB_CMD →
      ((s.get F.CSB_STAT.STATE ≠ 5 ∨ s.get F.CSB_STAT.SRC0 ≠ 3 ∨ s.bit F.CSB_STAT.ROMDET = true) → ∃ t, exec (.csbReturn dt rq) s = .next t ∧
        t.bit F.CSB_ERR.CMD_REJ = true ∧ OnlyWords [R.CSB_ERR] (s.elapse dt) t) ∧
      (s.get F.CSB_STAT.STATE = 10 → s.swConfirmed false = true → s.swConfirmed true = true → s.swCmd false = true → s.swCmd true = false →
        s.get F.CSB_STAT.SRC0 ≠ 1 → ∃ t, exec (.csbClrFlt dt rq) s = .next t ∧ t.get F.CSB_STAT.STATE = 1) ∧
      (s.get F.CSB_STAT.STATE ≠ 10 → s.get F.CSB_FO_STAT.FLT = 0 → ∃ t, exec (.csbClrFlt dt rq) s = .next t ∧
        t.bit F.CSB_ERR.CMD_REJ = true ∧ t.get F.CSB_STAT.STATE = s.get F.CSB_STAT.STATE) ∧
      (s.get F.CSB_STAT.STATE ≠ 10 → s.get F.CSB_FO_STAT.FLT ≠ 0 → s.csb.mismatch = [] → (∀ k, k < 8 → s.fbWrong k = false) →
        ∃ t, exec (.csbClrFlt dt rq) s = .next t ∧ t.get F.CSB_FO_STAT.FLT = 0 ∧ OnlyWords [R.CSB_FO_STAT] (s.elapse dt) t))

/-- SHED, RELEASE, recall and restoration of load groups; read-back, pulse tests and feedback of fast outputs. SHED switches a class 3 group off in
service, marks it shed and holds it; RELEASE of a held group in NORMAL without a restoration switches it on; either is rejected with CMD_REJ
otherwise. A recall that times out sheds its group with RECALL_TMO; the restoration gap switches the next waiting group on. A channel sensed wrong in
two checks running raises source 10; correct senses clear the record. A pulse test inverts one channel of an output, not the other, and its end
restores it; with TST_DIS none runs; a pulse not sensed raises source 11, a feedback wrong beyond FB_T source 12. -/
def Obligations.LoadGroupsAndFastOutputsAreSupervised : Prop :=
  ∀ (s : State) (dt : Nat),
    (∀ rq g, g < 64 → Writes s rq R.CSB_CMD →
      (s.groups.contains g = true → s.get (T.CSB_GRP.CLASS g) = 3 → s.bit F.CSB_STAT.RUN = true → ∃ t, exec (.csbShed dt rq g) s = .next t ∧
        t.bit (shedFld g) = true ∧ t.bit (onFld g) = false ∧ g ∈ t.csb.held ∧ g ∉ t.csb.waiting) ∧
      ((s.groups.contains g = false ∨ s.get (T.CSB_GRP.CLASS g) ≠ 3 ∨ s.bit F.CSB_STAT.RUN = false) → ∃ t, exec (.csbShed dt rq g) s = .next t ∧
        t.bit F.CSB_ERR.CMD_REJ = true ∧ OnlyWords [R.CSB_ERR] (s.elapse dt) t) ∧
      (s.csb.held.contains g = true → s.get F.CSB_STAT.STATE = 1 → s.bit F.CSB_STAT.RESTORING = false → ∃ t, exec (.csbRelease dt rq g) s = .next t ∧
        t.bit (onFld g) = true ∧ t.bit (shedFld g) = false ∧ g ∉ t.csb.held) ∧
      (s.csb.held.contains g = true → s.get F.CSB_STAT.STATE ≠ 1 → ∃ t, exec (.csbRelease dt rq g) s = .next t ∧ g ∉ t.csb.held ∧ SameWords [] s t) ∧
      (s.csb.held.contains g = false → ∃ t, exec (.csbRelease dt rq g) s = .next t ∧ t.bit F.CSB_ERR.CMD_REJ = true ∧
        OnlyWords [R.CSB_ERR] (s.elapse dt) t)) ∧
    (∀ g, g < 64 → (s.csb.recalling.contains g = true → ∃ t, exec (.recallTimeout dt g) s = .next t ∧ t.bit (shedFld g) = true ∧
        t.bit (onFld g) = false ∧ t.bit F.CSB_ERR.RECALL_TMO = true ∧ g ∉ t.csb.recalling) ∧
      (s.csb.recalling.contains g = false → ∃ t, exec (.recallTimeout dt g) s = .next t ∧ OnlyWords [] (s.elapse dt) t)) ∧
    (∀ g rest, g < 64 → s.csb.waiting = g :: rest → ∃ t, exec (.restoreGapExpiry dt) s = .next t ∧ t.bit (onFld g) = true ∧
      t.bit (shedFld g) = false ∧ t.csb.waiting = rest ∧ t.bit F.CSB_STAT.RESTORING = !rest.isEmpty) ∧
    (∀ sensed, (∀ k, k < 16 → s.csb.test.contains (k / 2, k % 2) = false → (sensed / 2 ^ k % 2 == 1) = s.foChannel (k / 2) (k % 2)) →
      ∃ t, exec (.foReadbackCheck dt sensed) s = .next t ∧ t.csb = { s.csb with mismatch := [] } ∧ SameWords [] s t) ∧
    (∀ sensed k, k < 16 → s.csb.mismatch.contains k = true → s.csb.test.contains (k / 2, k % 2) = false →
      (sensed / 2 ^ k % 2 == 1) ≠ s.foChannel (k / 2) (k % 2) → ∃ t, exec (.foReadbackCheck dt sensed) s = .next t ∧
        t.bit ⟨R.SAF_FLT_LAT, 10, 1⟩ = true ∧ k ∈ t.csb.mismatch) ∧
    (∀ n c, n < 8 → c < 2 → s.get (F.CSB_FOn_CFG.ROLE n) ≠ 0 → (∀ x ∈ s.csb.test, x.1 ≠ n) →
      (s.bit (F.CSB_FOn_CFG.TST_DIS n) = false → ∃ t, exec (.foPulseTest dt n c) s = .next t ∧ t.foChannel n c = !s.foChannel n c ∧
        t.foChannel n (1 - c) = s.foChannel n (1 - c) ∧ SameWords [] s t ∧
        t.emitted.take 2 = [.pin (16 + 2 * n) (t.foChannel n 0), .pin (17 + 2 * n) (t.foChannel n 1)]) ∧
      (s.bit (F.CSB_FOn_CFG.TST_DIS n) = true → ∃ t, exec (.foPulseTest dt n c) s = .next t ∧ OnlyWords [] (s.elapse dt) t)) ∧
    (∀ n c, n < 8 → (n, c) ∈ s.csb.test → ∃ t, exec (.foPulseEnd dt n) s = .next t ∧ (∀ x ∈ t.csb.test, x.1 ≠ n) ∧
      (∀ k, t.foChannel n k = s.foEnergised n) ∧ SameWords [] s t) ∧
    (∀ n, n < 8 → (∃ t, exec (.foPulseSenseTimeout dt n) s = .next t ∧ t.bit ⟨R.SAF_FLT_LAT, 11, 1⟩ = true ∧ (11, n) ∈ t.saf.logged) ∧
      (s.fbWrong n = true → ∃ t, exec (.foFeedbackTimeout dt n) s = .next t ∧ t.bit ⟨R.SAF_FLT_LAT, 12, 1⟩ = true ∧ (12, n) ∈ t.saf.logged) ∧
      (s.fbWrong n = false → ∃ t, exec (.foFeedbackTimeout dt n) s = .next t ∧ OnlyWords [] (s.elapse dt) t))

/-- Hatbands sent, missed and taken; a neighbour adopted, re-heard, lost, or FOREIGN; the checks of an arriving frame. At its instant an UP port sends a
hatband; one heard since the last clears the miss count, none counts a miss, and the third in a row loses the neighbour: port PROBE, its key gone, its
queues flushed and counted. Loss of the signal loses it too; the signal's return probes. An accepted hatband of another FAB_ID makes the port FOREIGN;
one of the neighbour marks it heard and shows its address; one on a probing port adopts when K_fab is in the cache. A frame of another EtherType, of a
bad form, or that fails its check is only counted; a port without a signal takes nothing. -/
def Obligations.PortsAdoptMissAndLoseNeighbours : Prop :=
  ∀ (s : State) (dt p : Nat), p < 4 →
    (s.fpState p = 3 → (s.fp p).heard = true → ∃ t, exec (.hatbandInstant dt p) s = .next t ∧ t.get (F.PORTn_STAT.MISS p) = 0 ∧
      t.fp p = { s.fp p with heard := false, hbTx := (s.fp p).hbTx + 1 } ∧
      t.get (F.PORTn_TX_CNT.COUNT p) = min (s.get (F.PORTn_TX_CNT.COUNT p) + 1) 0xFFFFFFFF ∧
      SameWords [R.PORTn_STAT p, R.PORTn_TX_CNT p] s t ∧
      t.emitted.head? = some (.hatband p ((s.fp p).hbTx + 1) s.addrField ((if s.svc = 4 then 0 else 1) + (if s.dopPresent then 2 else 0) + 4)
        (s.fp p).nonce (s.get F.FAB_LSA_SEQ.SEQ) (s.get (F.PORTn_CFG.COST p)))) ∧
    (s.fpState p = 3 → (s.fp p).heard = false → s.get (F.PORTn_STAT.MISS p) < 2 → ∃ t, exec (.hatbandInstant dt p) s = .next t ∧
      t.get (F.PORTn_STAT.MISS p) = s.get (F.PORTn_STAT.MISS p) + 1 ∧ t.fpState p = 3 ∧
      t.get (F.PORTn_MISS_CNT.COUNT p) = min (s.get (F.PORTn_MISS_CNT.COUNT p) + 1) 0xFFFFFFFF) ∧
    (s.fpState p ≠ 3 → s.fpState p ≠ 2 → ∃ t, exec (.hatbandInstant dt p) s = .next t ∧ OnlyWords [] (s.elapse dt) t) ∧
    (s.fpState p = 3 → 2 ≤ s.get (F.PORTn_STAT.MISS p) → (s.fp p).heard = false → s.portPresent p = true → s.bit (F.PORTn_CFG.EN p) = true →
      s.fab.khb = true → (s.fp p).link = true → ∃ t, exec (.neighbourLost dt p) s = .next t ∧ t.fpState p = 2 ∧ (t.fp p).nb = none ∧
        (t.fp p).key = false ∧ (∀ q ∈ (t.fp p).queues, q = []) ∧ t.get (F.PORTn_DROP_CNT.COUNT p) =
          min (s.get (F.PORTn_DROP_CNT.COUNT p) + ((s.fp p).queues.map List.length).sum) 0xFFFFFFFF) ∧
    (s.fpState p ≠ 3 ∨ s.get (F.PORTn_STAT.MISS p) < 2 ∨ (s.fp p).heard = true → ∃ t, exec (.neighbourLost dt p) s = .next t ∧
      OnlyWords [] (s.elapse dt) t) ∧
    (s.fpState p = 2 ∨ s.fpState p = 3 ∨ s.fpState p = 4 → s.portPresent p = true → s.bit (F.PORTn_CFG.EN p) = true → s.fab.khb = true →
      ∃ t, exec (.linkSignalLoss dt p) s = .next t ∧ t.fpState p = 1 ∧ (t.fp p).link = false ∧ (t.fp p).nb = none ∧ (t.fp p).key = false) ∧
    (s.fpState p ≠ 2 → s.fpState p ≠ 3 → s.fpState p ≠ 4 → ∃ t, exec (.linkSignalLoss dt p) s = .next t ∧
      t.fp p = { s.fp p with link := false } ∧ SameWords [] s t) ∧
    (s.fpState p = 1 → s.portPresent p = true → s.bit (F.PORTn_CFG.EN p) = true → s.fab.khb = true → ∃ t, exec (.linkSignalUp dt p) s = .next t ∧
      t.fpState p = 2 ∧ (t.fp p).link = true ∧ (t.fp p).key = false) ∧
    (s.fpState p ≠ 1 → ∃ t, exec (.linkSignalUp dt p) s = .next t ∧ t.fp p = { s.fp p with link := true } ∧ SameWords [] s t) ∧
    (∀ rx f, HatbandOk s rx f → rx.port = p →
      (leNat ((f.payload.drop 8).take 4) ≠ s.get F.FAB_ID.ID → ∃ t, exec (.hatbandReceived dt rx f) s = .next t ∧ t.fpState p = 4 ∧
        (t.fp p).hbRx = f.lctr ∧ t.get (F.PORTn_RX_CNT.COUNT p) = min (s.get (F.PORTn_RX_CNT.COUNT p) + 1) 0xFFFFFFFF) ∧
      (leNat ((f.payload.drop 8).take 4) = s.get F.FAB_ID.ID →
        (s.fpState p = 3 → (s.fp p).nb = some (leNat ((f.payload.drop 0).take 8), leNat ((f.payload.drop 16).take 16)) →
          ∃ t, exec (.hatbandReceived dt rx f) s = .next t ∧ t.fpState p = 3 ∧ (t.fp p).heard = true ∧ (t.fp p).hbRx = f.lctr ∧
            t.get (F.PORTn_STAT.NB_ADDR p) = leNat ((f.payload.drop 12).take 2) % 4096) ∧
        (∀ id n, s.fpState p = 2 → s.fabKeyId = some id → s.slotOf id = some n → s.get (F.KEY_SLOTn.USAGE n) = 2 →
          ∃ t, exec (.hatbandReceived dt rx f) s = .next t ∧ t.fpState p = 3 ∧ (t.fp p).key = true ∧ (t.fp p).rx = 0 ∧ (t.fp p).heard = true ∧
            (t.fp p).nb = some (leNat ((f.payload.drop 0).take 8), leNat ((f.payload.drop 16).take 16)) ∧ t.get (F.PORTn_STAT.MISS p) = 0 ∧
            t.get (F.PORTn_ADOPT_CNT.COUNT p) = min (s.get (F.PORTn_ADOPT_CNT.COUNT p) + 1) 0xFFFFFFFF))) ∧
    (∀ rx f, rx.port = p →
      (s.fpState p = 0 ∨ s.fpState p = 1 → (∃ t, exec (.fabFrameReceived dt rx f) s = .next t ∧ OnlyWords [] (s.elapse dt) t)) ∧
      (2 ≤ s.fpState p →
        (rx.ours = false → ∃ t, exec (.fabFrameReceived dt rx f) s = .next t ∧ OnlyWords [R.FAB_FOREIGN_CNT] (s.elapse dt) t ∧
          t.get F.FAB_FOREIGN_CNT.COUNT = min (s.get F.FAB_FOREIGN_CNT.COUNT + 1) 0xFFFFFFFF) ∧
        (rx.ours = true → fabMalformed rx f = true → ∃ t, exec (.fabFrameReceived dt rx f) s = .next t ∧
          OnlyWords [R.FAB_FMT_CNT] (s.elapse dt) t ∧ t.get F.FAB_FMT_CNT.COUNT = min (s.get F.FAB_FMT_CNT.COUNT + 1) 0xFFFFFFFF) ∧
        (rx.ours = true → fabMalformed rx f = false → rx.tagOk = false → s.fpState p ≠ 3 → ∃ t, exec (.fabFrameReceived dt rx f) s = .next t ∧
          OnlyWords [R.PORTn_AUTH_CNT p] (s.elapse dt) t ∧
          t.get (F.PORTn_AUTH_CNT.COUNT p) = min (s.get (F.PORTn_AUTH_CNT.COUNT p) + 1) 0xFFFFFFFF)) ∧
      (FabOk s rx f → f.kind = 6 → ∃ t, exec (.fabFrameReceived dt rx f) s = .next t ∧ t.fp p = { s.fp p with rx := f.lctr } ∧
        SameWords [R.PORTn_RX_CNT p] s t))

/-- Advertisements taken, originated and aged; the forwarding table loaded; an address claimed. A newer LSA replaces its node's entry; a known one changes
no entry. The refresh timer originates an LSA with the next sequence, the module's ADDR field and links, unless the hold-off runs, which notes the
change; its expiry sends what waits. An entry that ages out leaves the database, and a configured address in conflict is claimed again as TENT once
nothing holds it. A table load makes exactly the reachable destinations valid, each with the first port and the cost of its shortest path, and shows
the time since the change. A TENT address that stands becomes CLAIMED and is kept in FRAM. -/
def Obligations.LinkStateRoutesAndAddressesFollowTheRules : Prop :=
  ∀ (s : State) (dt : Nat),
    (∀ rx f, FabOk s rx f → f.kind = 1 →
      ((lsaOf f.payload).1 ≠ s.devid → (∀ e, s.fab.lsdb.lookup (lsaOf f.payload).1 = some e → e.seq < (lsaOf f.payload).2.1) →
        ∃ t, exec (.lsaReceived dt rx f) s = .next t ∧ (t.fp rx.port).rx = f.lctr ∧ t.fab.lsdb.lookup (lsaOf f.payload).1 =
          some ⟨(lsaOf f.payload).2.1, (lsaOf f.payload).2.2.1, (lsaOf f.payload).2.2.2, (s.elapse dt).clock.up⟩) ∧
      ((lsaOf f.payload).1 = s.devid ∨ (∃ e, s.fab.lsdb.lookup (lsaOf f.payload).1 = some e ∧ (lsaOf f.payload).2.1 ≤ e.seq) →
        ∃ t, exec (.lsaReceived dt rx f) s = .next t ∧ t.fab.lsdb = s.fab.lsdb ∧ t.fp rx.port = { s.fp rx.port with rx := f.lctr } ∧
          SameWords [R.PORTn_RX_CNT rx.port] s t)) ∧
    (s.fabAddr = 0 ∨ s.bit F.FAB_STAT.RUN = false → ∃ t, exec (.lsaRefreshTimer dt) s = .next t ∧ OnlyWords [] (s.elapse dt) t) ∧
    (s.fabAddr ≠ 0 → s.bit F.FAB_STAT.RUN = true →
      ((∀ u, s.fab.lastLsa = some u → 5000000 ≤ (s.elapse dt).clock.up - u) → ∃ t, exec (.lsaRefreshTimer dt) s = .next t ∧
        t.get F.FAB_LSA_SEQ.SEQ = (s.get F.FAB_LSA_SEQ.SEQ + 1) % 2 ^ 32 ∧ t.fab.lastLsa = some (s.elapse dt).clock.up ∧ t.fab.lsaDue = false ∧
        t.fab.lsdb.lookup s.devid = some ⟨(s.get F.FAB_LSA_SEQ.SEQ + 1) % 2 ^ 32, s.addrField, s.ownLinks, (s.elapse dt).clock.up⟩) ∧
      (∀ u, s.fab.lastLsa = some u → (s.elapse dt).clock.up - u < 5000000 → ∃ t, exec (.lsaRefreshTimer dt) s = .next t ∧
        t.fab = { s.fab with lsaDue := true } ∧ SameWords [] s t) ∧
      (s.fab.lsaDue = true → ∃ t, exec (.lsaHoldoffExpiry dt) s = .next t ∧ t.fab.lsaDue = false ∧
        t.get F.FAB_LSA_SEQ.SEQ = (s.get F.FAB_LSA_SEQ.SEQ + 1) % 2 ^ 32)) ∧
    (s.fab.lsaDue = false → ∃ t, exec (.lsaHoldoffExpiry dt) s = .next t ∧ OnlyWords [] (s.elapse dt) t) ∧
    (∀ d, d ≠ s.devid → s.fab.lsdb.any (fun e => e.1 == d) = true → ∃ t, exec (.lsaAgeOut dt d) s = .next t ∧ t.fab.lsdb.lookup d = none ∧
      (s.get F.FAB_STAT.ADDR_STATE = 3 → (∀ e ∈ s.fab.lsdb, e.1 ≠ d → e.2.addr % 4096 ≠ s.get F.FAB_ADDR.CFG_ADDR) →
        t.fabAddr = s.get F.FAB_ADDR.CFG_ADDR ∧ t.get F.FAB_STAT.ADDR_STATE = 1) ∧
      (s.get F.FAB_STAT.ADDR_STATE ≠ 3 → t.fab.lsdb = s.fab.lsdb.filter (fun e => e.1 != d))) ∧
    (∀ d, d = s.devid ∨ s.fab.lsdb.any (fun e => e.1 == d) = false → ∃ t, exec (.lsaAgeOut dt d) s = .next t ∧ OnlyWords [] (s.elapse dt) t) ∧
    (∃ t, exec (.routeTableLoad dt) s = .next t ∧ t.fab = { s.fab with changeUp := none } ∧
      (∀ u, s.fab.changeUp = some u → t.get F.FAB_CONV_US.US = ((s.elapse dt).clock.up - u) / 250 % 2 ^ 32) ∧
      (s.fabAddr ≠ 0 → ∀ d, d < 4096 →
        (t.bit (F.FAB_RT_ENTRY.VALID d) = ((shortest s.fabAddr (linkEdges s.fab.lsdb)).lookup d).isSome ∧
          ∀ a, (shortest s.fabAddr (linkEdges s.fab.lsdb)).lookup d = some a →
            t.get (F.FAB_RT_ENTRY.PORT d) = a.ports.headD 0 % 4 ∧ t.get (F.FAB_RT_ENTRY.COST d) = min a.cost 65535)) ∧
      (s.fabAddr = 0 → ∀ d, d < 4096 → t.bit (F.FAB_RT_ENTRY.VALID d) = false)) ∧
    (s.get F.FAB_STAT.ADDR_STATE = 1 → ∃ t, exec (.addressClaim dt) s = .next t ∧ t.get F.FAB_STAT.ADDR_STATE = 2 ∧ t.fab.claimed = s.fabAddr ∧
      t.fabAddr = s.fabAddr) ∧
    (s.get F.FAB_STAT.ADDR_STATE ≠ 1 → ∃ t, exec (.addressClaim dt) s = .next t ∧ OnlyWords [] (s.elapse dt) t)

/-- Messages numbered, queued and repeated; delivered at most once; answers end the retries; queues drain by their class. A message with a route is
numbered and queued at its port, kept for its answer where one is due, and counted where no route stands; without a claimed address nothing is sent. A
retry lowers the repeats left; with none left the delivery has failed, is counted and reported. A fresh DATA or REQUEST for the module is handed up
once, its SEQ then a duplicate; a duplicate is counted and not handed up; a full window table counts it. A REQUEST's response is cached until
WIN_HOLD. A fresh ACK or RESPONSE that does not ask to retry ends the wait. Class 7 leaves first when its bucket allows. -/
def Obligations.MessagesAreDeliveredOnceAndAnswered : Prop :=
  ∀ (s : State) (dt : Nat),
    (∀ kind dst cls svc ack pl, (kind = 2 ∨ kind = 4) → dst < 0xFFF → cls < 6 → svc < 256 → pl.length ≤ 1024 → s.fabLive = true →
      (∀ q, s.routePort dst = some q → (s.fp q).queues.length = 8 →
        (((s.fp q).queues.getD cls []).map fabLen).sum + 66 + pl.length ≤ queueCap cls →
        ∃ t, exec (.fabDataSend dt kind dst cls svc ack pl) s = .next t ∧
          (t.fp q).queues.getD cls [] = (s.fp q).queues.getD cls [] ++ [⟨kind, cls, false, false, ack, dst, s.fabAddr, 0, s.get F.FAB_CFG.HLIM,
            look (fun _ => 0) s.fab.seqs (dst * 8 + cls), 0, 0, svc, pl⟩] ∧
          look (fun _ => 0) t.fab.seqs (dst * 8 + cls) = (look (fun _ => 0) s.fab.seqs (dst * 8 + cls) + 1) % 65536 ∧
          t.fab.pend.map (fun x => (x.frame.dst, x.frame.seq, x.left)) = s.fab.pend.map (fun x => (x.frame.dst, x.frame.seq, x.left)) ++
            (if kind = 4 ∨ ack = true then [(dst, look (fun _ => 0) s.fab.seqs (dst * 8 + cls), s.get F.FAB_RETRY.RETRY_N)] else []) ∧
          SameWords [] s t) ∧
      (s.routePort dst = none → ∃ t, exec (.fabDataSend dt kind dst cls svc ack pl) s = .next t ∧ SameWords [R.FAB_NOROUTE_CNT] s t ∧
        t.get F.FAB_NOROUTE_CNT.COUNT = min (s.get F.FAB_NOROUTE_CNT.COUNT + 1) 0xFFFFFFFF)) ∧
    (s.fabLive = false → ∀ kind dst cls svc ack pl, ∃ t, exec (.fabDataSend dt kind dst cls svc ack pl) s = .next t ∧
      OnlyWords [] (s.elapse dt) t) ∧
    (∀ dst cls seq x, s.fab.pend.find? (fun x => x.frame.dst == dst && x.frame.cls == cls && x.frame.seq == seq) = some x →
      (x.left = 0 → ∃ t, exec (.fabRetryExpiry dt dst cls seq) s = .next t ∧ t.bit F.FAB_ERR.NODELIV = true ∧
        t.get F.FAB_NODELIV_CNT.COUNT = min (s.get F.FAB_NODELIV_CNT.COUNT + 1) 0xFFFFFFFF ∧ t.emitted.head? = some (.fabFail dst cls seq) ∧
        t.fab.pend = s.fab.pend.filter (fun x => !(x.frame.dst == dst && x.frame.cls == cls && x.frame.seq == seq))) ∧
      (0 < x.left → ∃ t, exec (.fabRetryExpiry dt dst cls seq) s = .next t ∧
        t.fab.pend.find? (fun x => x.frame.dst == dst && x.frame.cls == cls && x.frame.seq == seq) = some { x with left := x.left - 1 } ∧
        t.bit F.FAB_ERR.NODELIV = s.bit F.FAB_ERR.NODELIV)) ∧
    (∀ rx f, FabOk s rx f → f.dst = s.fabAddr → f.dst ≠ 0xFFF → s.fabLive = true →
      (∀ k, (k = 2 ∨ k = 4) → f.kind = k → 16 ≤ f.svc → rx.runs = true → s.bit F.FAB_STAT.SVC = true →
        ((s.elapse dt).winLook f.src f.cls false f.seq = .fresh → rx.busy = false →
          ∃ t, exec (if k = 2 then .fabDataReceived dt rx f else .fabRequestReceived dt rx f) s = .next t ∧
            t.emitted.head? = some (.fabUp { f with hc := f.hc + 1 }) ∧ t.winLook f.src f.cls false f.seq = .dup ∧
            (k = 4 → t.fab.cache.getLast? = some ⟨f.src, f.cls, f.seq, 0, rx.data.take 1020, (s.elapse dt).clock.up⟩)) ∧
        ((s.elapse dt).winLook f.src f.cls false f.seq = .dup →
          ∃ t, exec (if k = 2 then .fabDataReceived dt rx f else .fabRequestReceived dt rx f) s = .next t ∧ (∀ g, .fabUp g ∉ t.emitted) ∧
            t.get F.FAB_DUP_CNT.COUNT = min (s.get F.FAB_DUP_CNT.COUNT + 1) 0xFFFFFFFF ∧ t.fab.cache = s.fab.cache) ∧
        ((s.elapse dt).winLook f.src f.cls false f.seq = .full →
          ∃ t, exec (if k = 2 then .fabDataReceived dt rx f else .fabRequestReceived dt rx f) s = .next t ∧ (∀ g, .fabUp g ∉ t.emitted) ∧
            t.get F.FAB_WINFULL_CNT.COUNT = min (s.get F.FAB_WINFULL_CNT.COUNT + 1) 0xFFFFFFFF ∧ t.bit F.FAB_ERR.WIN_FULL = true)) ∧
      (∀ k, (k = 3 ∨ k = 5) → f.kind = k → (s.elapse dt).winLook f.src f.cls false f.seq = .fresh →
        leNat ((f.payload.drop 3).take 1) ≠ 3 →
        (∃ x ∈ s.fab.pend, x.frame.dst = f.src ∧ x.frame.cls = leNat ((f.payload.drop 2).take 1) ∧ x.frame.seq = leNat (f.payload.take 2) ∧
          (x.frame.kind = 4 ↔ k = 5)) →
        ∃ t, exec (if k = 3 then .fabAckReceived dt rx f else .fabResponseReceived dt rx f) s = .next t ∧
          t.emitted.head? = some (.fabUp { f with hc := f.hc + 1 }) ∧
          ∀ x ∈ t.fab.pend, ¬ (x.frame.dst = f.src ∧ x.frame.cls = leNat ((f.payload.drop 2).take 1) ∧
            x.frame.seq = leNat (f.payload.take 2) ∧ (x.frame.kind = 4 ↔ k = 5)))) ∧
    (∀ p f rest, p < 4 → s.fpState p = 3 → (s.fp p).queues.length = 8 → (s.fp p).queues.getD 7 [] = f :: rest →
      ((s.elapse dt).refill p).hasTokens p 7 (fabLen f) = true → ∃ t, exec (.egressDequeue dt p) s = .next t ∧
        t.emitted.head? = some (.fab p { f with lctr := (s.fp p).tx + 1 } false) ∧ (t.fp p).queues.getD 7 [] = rest ∧
        (t.fp p).tx = (s.fp p).tx + 1 ∧ SameWords [R.PORTn_TX_CNT p] s t) ∧
    (∀ p, s.fpState p ≠ 3 → ∃ t, exec (.egressDequeue dt p) s = .next t ∧ OnlyWords [] (s.elapse dt) t) ∧
    (∃ t, exec (.responseCacheExpiry dt) s = .next t ∧ SameWords [] s t ∧ 
      t.fab = { s.fab with cache := s.fab.cache.filter (fun r => (s.elapse dt).clock.up - r.up < s.get F.FAB_RETRY.WIN_HOLD * 250000000) })

/-- TIM_ADDEND, TIM_SLEW, TIM_STEP and the set: what each does to module time, and when it is refused. In FREERUN or GRANDMASTER a write of TIM_ADDEND
within 200 ppm takes effect and beyond it sets RANGE; TIM_SLEW starts a slew of 2 500 clocks a nanosecond in its direction, replacing one under way;
TIM_STEP moves module time by its signed nanoseconds; TIM_SET_SEC_LO sets it whole with the staged NS and SEC_HI, unless NS is 10^9 or more. A step or
a set counts in TIM_STEP_CNT, flags TIM_ERR.STEP and LPE_ERR.STEP and clears UNSET. In another SYNC state each write only sets SET_REJ. The end of the
slew clears SLEWING. -/
def Obligations.ModuleTimeIsAdjustedOnlyWhenOpen : Prop :=
  ∀ (s : State) (dt : Nat),
    (∀ rq v,
      (s.timOpen = true →
        (Writes s rq R.TIM_ADDEND →
          (v.toInt.natAbs ≤ 3435974 → ∃ t, exec (.timAddendWrite dt rq v) s = .next t ∧ t.getw F.TIM_ADDEND.ADDEND = v ∧
            OnlyWords [R.TIM_ADDEND] (s.elapse dt) t) ∧
          (3435974 < v.toInt.natAbs → ∃ t, exec (.timAddendWrite dt rq v) s = .next t ∧ t.bit F.TIM_ERR.RANGE = true ∧
            OnlyWords [R.TIM_ERR] (s.elapse dt) t)) ∧
        (Writes s rq R.TIM_SLEW → ∃ t, exec (.timSlewWrite dt rq v) s = .next t ∧
          t.clock = { (s.elapse dt).clock with slewLeft := v.toInt.natAbs * 2500, slewRun := 0, slewNeg := decide (v.toInt < 0) } ∧
          t.bit F.TIM_STAT.SLEWING = decide (v ≠ 0) ∧ SameWords [R.TIM_STAT] s t) ∧
        (Writes s rq R.TIM_STEP → ∃ t, exec (.timStepWrite dt rq v) s = .next t ∧ t.clock = (s.elapse dt).clock.step v.toInt ∧
          t.get F.TIM_STEP_CNT.COUNT = min (s.get F.TIM_STEP_CNT.COUNT + 1) 0xFFFFFFFF ∧ t.bit F.TIM_ERR.STEP = true ∧
          t.bit F.LPE_ERR.STEP = true ∧ t.bit F.TIM_STAT.UNSET = false) ∧
        (Writes s rq R.TIM_SET_SEC_LO →
          (s.get F.TIM_SET_NS.NS < 10 ^ 9 → ∃ t, exec (.timSetCommit dt rq v) s = .next t ∧
            t.clock = { (s.elapse dt).clock with sec := v.toNat + 2 ^ 32 * s.get F.TIM_SET_SEC_HI.SEC, ns := s.get F.TIM_SET_NS.NS, frac := 0 } ∧
            t.get F.TIM_STEP_CNT.COUNT = min (s.get F.TIM_STEP_CNT.COUNT + 1) 0xFFFFFFFF ∧ t.bit F.TIM_ERR.STEP = true ∧
            t.bit F.LPE_ERR.STEP = true ∧ t.bit F.TIM_STAT.UNSET = false) ∧
          (10 ^ 9 ≤ s.get F.TIM_SET_NS.NS → ∃ t, exec (.timSetCommit dt rq v) s = .next t ∧ t.bit F.TIM_ERR.RANGE = true ∧
            OnlyWords [R.TIM_ERR] (s.elapse dt) t))) ∧
      (s.timOpen = false → ∀ c a, ((c = .timAddendWrite dt rq v ∧ a = R.TIM_ADDEND) ∨ (c = .timSlewWrite dt rq v ∧ a = R.TIM_SLEW) ∨
          (c = .timStepWrite dt rq v ∧ a = R.TIM_STEP) ∨ (c = .timSetCommit dt rq v ∧ a = R.TIM_SET_SEC_LO)) → Writes s rq a →
        ∃ t, exec c s = .next t ∧ t.bit F.TIM_ERR.SET_REJ = true ∧ OnlyWords [R.TIM_ERR] (s.elapse dt) t)) ∧
    ((s.elapse dt).clock.slewLeft = 0 → ∃ t, exec (.slewComplete dt) s = .next t ∧ t.bit F.TIM_STAT.SLEWING = false ∧
      OnlyWords [R.TIM_STAT] (s.elapse dt) t) ∧
    ((s.elapse dt).clock.slewLeft ≠ 0 → ∃ t, exec (.slewComplete dt) s = .next t ∧ OnlyWords [] (s.elapse dt) t)

/-- Sync, Follow_Up, link delay, Announce and Delay_Req: what a port takes, answers and sends. On a fabric port that takes part, a message of another
domain or kind is only counted. A Sync on the slave port is stamped and kept (and in transparent mode forwarded), its Follow_Up gives an offset: a
large one steps module time, the sixteenth small one in a row locks; a timeout drops the Sync. Pdelay_Req is answered with both stamps; its response
gives the link delay; Announce qualifies a master at the second; the loss of the parent flags PARENT_LOST. A serving port sends Sync with Follow_Up
and Announce; a station's Delay_Req is answered; an Announce from a station is refused. -/
def Obligations.FabricTimeMessagesAreServedAndTaken : Prop :=
  ∀ (s : State) (dt p : Nat) (h : PtpHead), h.port = p →
    (p < 4 → s.ptpFab p = true →
      (s.ptpIgnored h = true → ∀ c, (∃ rx, c = .ptpSyncReceived dt h rx) ∨ (∃ o q e, c = .ptpFollowUpReceived dt h o q e) ∨
          (∃ rx tx, c = .ptpPdelayReqReceived dt h rx tx) ∨ (∃ a b rx, c = .ptpPdelayRespReceived dt h a b rx) ∨
          (∃ a, c = .ptpAnnounceReceived dt h a) →
        ∃ t, exec c s = .next t ∧ OnlyWords [R.TIM_PTP_IGN_CNT] (s.elapse dt) t ∧
          t.get F.TIM_PTP_IGN_CNT.COUNT = min (s.get F.TIM_PTP_IGN_CNT.COUNT + 1) 0xFFFFFFFF) ∧
      (s.ptpIgnored h = false →
        (∀ rx, s.pstate p = 3 → ∃ t, exec (.ptpSyncReceived dt h rx) s = .next t ∧
          t.ptp p = { s.ptp p with sync := some (h.seq, s.ingress p rx) } ∧ (s.bit F.TIM_CFG.FAB_MODE = false → SameWords [] s t) ∧
          (s.bit F.TIM_CFG.FAB_MODE = true → ∀ q, q < 4 → q ≠ p → s.portPresent q = true → s.fpState q = 3 →
            .ptp q 0 h.seq 0 0 0 ∈ t.emitted)) ∧
        (∀ (o : Nat) (corr : Int) e tm off, s.pstate p = 3 → (s.ptp p).sync = some (h.seq, tm) → s.bit F.TIM_CFG.FAB_MODE = false →
          off = tm * 65536 - ((o : Int) * 65536 + corr + s.appliedDelay p) →
          (off.natAbs ≤ s.get F.TIM_SERVO.STEP_TH * 1000 * 65536 → ∃ t, exec (.ptpFollowUpReceived dt h o corr e) s = .next t ∧
            (t.ptp p).sync = none ∧ t.clock = (s.elapse dt).clock ∧ t.bit F.TIM_STAT.UNSET = false ∧ t.tim.overStep = 0 ∧
            t.tim.inLock = (if off.natAbs ≤ s.get F.TIM_SERVO.LOCK_TH * 10 * 65536 then s.tim.inLock + 1 else 0) ∧
            t.get F.TIM_STAT.SYNC = (if s.get F.TIM_STAT.SYNC = 1 ∧ 16 ≤ t.tim.inLock then 2 else s.get F.TIM_STAT.SYNC)) ∧
          (s.get F.TIM_SERVO.STEP_TH * 1000 * 65536 < off.natAbs → s.get F.TIM_STAT.SYNC = 1 → s.tim.firstOffset = true → off % 65536 = 0 →
            ∃ t, exec (.ptpFollowUpReceived dt h o corr e) s = .next t ∧ t.clock = (s.elapse dt).clock.step (-(off / 65536)) ∧
              t.get F.TIM_STEP_CNT.COUNT = min (s.get F.TIM_STEP_CNT.COUNT + 1) 0xFFFFFFFF ∧ t.tim.firstOffset = false)) ∧
        (∀ o (corr : Int) e, (∀ x, (s.ptp p).sync = some x → x.1 ≠ h.seq) → ∃ t, exec (.ptpFollowUpReceived dt h o corr e) s = .next t ∧
          OnlyWords [] (s.elapse dt) t) ∧
        (∀ rx tx, ∃ t, exec (.ptpPdelayReqReceived dt h rx tx) s = .next t ∧ SameWords [R.PORTn_TX_CNT p] s t ∧ t.emitted.take 2 =
          [.ptp p 3 h.seq 0 (s.ingress p rx / 10 ^ 9).toNat (s.ingress p rx % 10 ^ 9).toNat,
            .ptp p 10 h.seq 0 (s.egress p tx / 10 ^ 9).toNat (s.egress p tx % 10 ^ 9).toNat]) ∧
        (∀ (t2 t3 rx : Nat) t1 (d : Int), (s.ptp p).pd = some (h.seq, t1) → d = (s.ingress p rx - t1) - ((t3 : Int) - (t2 : Int)) →
          -2 ^ 31 ≤ d → d < 2 ^ 31 → ∃ t, exec (.ptpPdelayRespReceived dt h t2 t3 rx) s = .next t ∧ t.ptp p = { s.ptp p with pd := none } ∧
            (t.geti (F.TIM_PORTn_DELAY.NS p) = d / 2 ∨ d % 2 = 1 ∧ t.geti (F.TIM_PORTn_DELAY.NS p) = d / 2 + 1)) ∧
        (∀ t2 t3 rx, (∀ x, (s.ptp p).pd = some x → x.1 ≠ h.seq) → ∃ t, exec (.ptpPdelayRespReceived dt h t2 t3 rx) s = .next t ∧
          OnlyWords [] (s.elapse dt) t) ∧
        (∀ a, a.sender ≠ s.devid → a.steps < 255 →
          (s.tim.masters.lookup p = none → (s.ptp p).once = none → ∃ t, exec (.ptpAnnounceReceived dt h a) s = .next t ∧
            t.ptp p = { s.ptp p with once := some (a.sender, (s.elapse dt).clock.up) } ∧ t.tim.masters = s.tim.masters ∧ SameWords [] s t) ∧
          (∀ u, (s.ptp p).once = some (a.sender, u) → (s.elapse dt).clock.up - u ≤ 1000000000 →
            ∃ t, exec (.ptpAnnounceReceived dt h a) s = .next t ∧ t.tim.masters.lookup p = some a)) ∧
        (∀ a, a.sender = s.devid ∨ 255 ≤ a.steps → ∃ t, exec (.ptpAnnounceReceived dt h a) s = .next t ∧ OnlyWords [] (s.elapse dt) t)) ∧
      (∀ tx, ∃ t, exec (.ptpPdelaySend dt p tx) s = .next t ∧ t.emitted.head? = some (.ptp p 2 (s.ptp p).txPd 0 0 0) ∧
        t.ptp p = { s.ptp p with pd := some ((s.ptp p).txPd, s.egress p tx), txPd := ((s.ptp p).txPd + 1) % 65536 } ∧
        SameWords [R.PORTn_TX_CNT p] s t)) ∧
    (s.ptpStn p = true →
      (∀ a, ∃ t, exec (.ptpAnnounceReceived dt h a) s = .next t ∧ t.bit F.TIM_ERR.ANN_STN = true ∧
        t.get F.TIM_PTP_IGN_CNT.COUNT = min (s.get F.TIM_PTP_IGN_CNT.COUNT + 1) 0xFFFFFFFF ∧
        OnlyWords [R.TIM_ERR, R.TIM_PTP_IGN_CNT] (s.elapse dt) t) ∧
      (s.ptpIgnored h = false → ∀ rx, ∃ t, exec (.ptpDelayReqReceived dt h rx) s = .next t ∧ OnlyWords [] (s.elapse dt) t ∧
        t.emitted.head? = some (.ptp p 9 h.seq 0 (s.ingress p rx / 10 ^ 9).toNat (s.ingress p rx % 10 ^ 9).toNat))) ∧
    (s.serves p = true →
      (∀ tx, ∃ t, exec (.ptpSyncSend dt p tx) s = .next t ∧ t.ptp p = { s.ptp p with txSync := ((s.ptp p).txSync + 1) % 65536 } ∧
        t.emitted.take 2 = [.ptp p 0 (s.ptp p).txSync 0 0 0,
          .ptp p 8 (s.ptp p).txSync 0 (s.egress p tx / 10 ^ 9).toNat (s.egress p tx % 10 ^ 9).toNat]) ∧
      (∃ t, exec (.ptpAnnounceSend dt p) s = .next t ∧ t.ptp p = { s.ptp p with txAnn := ((s.ptp p).txAnn + 1) % 65536 } ∧
        t.emitted.head? = some (.announce p (s.ptp p).txAnn s.announced (s.get F.TIM_UTC_OFS.OFS) (s.bit F.TIM_UTC_OFS.VALID)))) ∧
    (s.serves p = false → (∀ tx, ∃ t, exec (.ptpSyncSend dt p tx) s = .next t ∧ OnlyWords [] (s.elapse dt) t) ∧
      ∃ t, exec (.ptpAnnounceSend dt p) s = .next t ∧ OnlyWords [] (s.elapse dt) t) ∧
    (∃ t, exec (.followUpTimeout dt p) s = .next t ∧ t.ptp p = { s.ptp p with sync := none } ∧ SameWords [] s t) ∧
    (p < 4 → ∃ t, exec (.announceTimeout dt p) s = .next t ∧ t.tim.masters.lookup p = none ∧ t.ptp p = ptpPort0 ∧
      (s.get F.TIM_STAT.SLAVE_PORT = p → t.bit F.TIM_ERR.PARENT_LOST = true ∧
        (t.get F.TIM_STAT.SYNC = 1 ∨ t.get F.TIM_STAT.SYNC = 3 ∨ t.get F.TIM_STAT.SYNC = 4)) ∧
      (s.get F.TIM_STAT.SLAVE_PORT ≠ p → t.bit F.TIM_ERR.PARENT_LOST = s.bit F.TIM_ERR.PARENT_LOST))

/-- What TIM_ACT_RES answers to a submission, and the execution of the first action when its time has come. A submission outside full service answers code
5, with a bad target 4, of a target another writer has 3, past beyond STALE 1 (counted), with 1 024 host actions pending 2; else it is queued by time
behind equal times, with code 0, its handle, and LATE where its time is past. A write without GO does nothing. The first action executes once its time
has come: it leaves the queue and is counted; a setpoint in range is taken by its loop. -/
def Obligations.ScheduledActionsAreTakenAndExecuted : Prop :=
  ∀ (s : State) (dt : Nat),
    (∀ rq v, Writes s rq R.TIM_ACT_SUBMIT →
      (v.getLsbD 0 = false → ∃ t, exec (.actionSubmit dt rq v) s = .next t ∧ OnlyWords [] (s.elapse dt) t) ∧
      (v.getLsbD 0 = true →
        (∀ code, (code = 5 ∧ s.svc ≠ 4 ∨ code = 4 ∧ s.svc = 4 ∧ s.badTarget s.stagedAction = true ∨
            code = 3 ∧ s.svc = 4 ∧ s.badTarget s.stagedAction = false ∧ s.badWriter s.stagedAction = true) →
          ∃ t, exec (.actionSubmit dt rq v) s = .next t ∧ t.get F.TIM_ACT_RES.CODE = code ∧ t.get F.TIM_ACT_RES.HANDLE = 0 ∧
            t.bit F.TIM_ACT_RES.LATE = false ∧ OnlyWords [R.TIM_ACT_RES] (s.elapse dt) t) ∧
        (s.svc = 4 → s.badTarget s.stagedAction = false → s.badWriter s.stagedAction = false →
          (s.stagedAction.at + s.stagedAction.staleNs < (s.elapse dt).now → ∃ t, exec (.actionSubmit dt rq v) s = .next t ∧
            t.get F.TIM_ACT_RES.CODE = 1 ∧ t.get F.TIM_ACT_PAST_CNT.COUNT = min (s.get F.TIM_ACT_PAST_CNT.COUNT + 1) 0xFFFFFFFF ∧
            OnlyWords [R.TIM_ACT_RES, R.TIM_ACT_PAST_CNT] (s.elapse dt) t) ∧
          ((s.elapse dt).now ≤ s.stagedAction.at + s.stagedAction.staleNs →
            (1024 ≤ (s.tim.actions.filter (fun b => b.origin.isNone)).length → ∃ t, exec (.actionSubmit dt rq v) s = .next t ∧
              t.get F.TIM_ACT_RES.CODE = 2 ∧ OnlyWords [R.TIM_ACT_RES] (s.elapse dt) t) ∧
            ((s.tim.actions.filter (fun b => b.origin.isNone)).length < 1024 → ∃ t, exec (.actionSubmit dt rq v) s = .next t ∧
              t.get F.TIM_ACT_RES.CODE = 0 ∧ t.get F.TIM_ACT_RES.HANDLE = s.stagedAction.handle ∧
              t.bit F.TIM_ACT_RES.LATE = decide (s.stagedAction.at < (s.elapse dt).now) ∧ SameWords [R.TIM_ACT_RES, R.TIM_ACT_LVL] s t ∧
              t.tim.actions = insAction { s.stagedAction with late := decide (s.stagedAction.at < (s.elapse dt).now) } s.tim.actions))))) ∧
    (s.tim.actions = [] → ∃ t, exec (.actionExecute dt) s = .next t ∧ OnlyWords [] (s.elapse dt) t) ∧
    (∀ a rest, s.tim.actions = a :: rest →
      ((s.elapse dt).now < a.at → ∃ t, exec (.actionExecute dt) s = .next t ∧ OnlyWords [] (s.elapse dt) t) ∧
      (a.at ≤ (s.elapse dt).now → a.origin = none → ∃ t, exec (.actionExecute dt) s = .next t ∧ t.tim.actions = rest ∧
        t.get F.TIM_ACT_EXEC_CNT.COUNT = min (s.get F.TIM_ACT_EXEC_CNT.COUNT + 1) 0xFFFFFFFF ∧
        t.get F.TIM_ACT_LATE_CNT.COUNT = min (s.get F.TIM_ACT_LATE_CNT.COUNT + a.late.toNat) 0xFFFFFFFF ∧
        (a.kind = 0 → s.get (T.LPE_SLOT.SP_SRC (a.addr % 4096)) = 2 → (f32val a.value).notFinite = false →
          (f32val a.value).lt (f32val (s.getw (T.LPE_SLOT.SP_LO (a.addr % 4096)))) = false →
          (f32val (s.getw (T.LPE_SLOT.SP_HI (a.addr % 4096)))).lt (f32val a.value) = false → (t.slot (a.addr % 4096)).sp = a.value)))

/-- A write of TIM_ACT_WDRAW withdraws the pending host action of its handle, or sets TIM_ERR.WDRAW. Where a host action of the handle is pending, the
write takes it from the queue and nothing else: every other action stays in its place, those of trajectory application too, and no other register
changes but TIM_ACT_LVL. Where none is pending, the write is ignored but for TIM_ERR.WDRAW. An action that executes in the same clock executes, and
the withdrawal that follows sets TIM_ERR.WDRAW. -/
def Obligations.AWithdrawalTakesAPendingActionOrIsFlagged : Prop :=
  ∀ (s : State) (dt : Nat) (rq : Rq) (v : Word),
    (Writes s rq R.TIM_ACT_WDRAW →
      (s.tim.actions.any (fun a => a.origin.isNone && a.handle == v.toNat % 2048) = true → ∃ t, exec (.actionWithdraw dt rq v) s = .next t ∧
        t.tim.actions = s.tim.actions.filter (fun a => !(a.origin.isNone && a.handle == v.toNat % 2048)) ∧ SameWords [R.TIM_ACT_LVL] s t ∧
        (∀ a ∈ s.tim.actions, a.origin.isSome = true → a ∈ t.tim.actions)) ∧
      (s.tim.actions.any (fun a => a.origin.isNone && a.handle == v.toNat % 2048) = false → ∃ t, exec (.actionWithdraw dt rq v) s = .next t ∧
        t.bit F.TIM_ERR.WDRAW = true ∧ OnlyWords [R.TIM_ERR] (s.elapse dt) t)) ∧
    (∀ a rest, s.tim.actions = a :: rest → a.origin = none → a.handle = v.toNat % 2048 → a.at ≤ (s.elapse dt).now →
      (∀ b ∈ rest, b.origin = none → b.handle ≠ a.handle) → ∃ t, exec (.actionExecute dt) s = .next t ∧
        t.get F.TIM_ACT_EXEC_CNT.COUNT = min (s.get F.TIM_ACT_EXEC_CNT.COUNT + 1) 0xFFFFFFFF ∧
        (Writes t rq R.TIM_ACT_WDRAW → ∃ u, exec (.actionWithdraw 0 rq v) t = .next u ∧ u.bit F.TIM_ERR.WDRAW = true ∧
          u.tim.actions = rest))

/-- Carry, set, tracking, calibration, oscillator, backup and alarms of the RTC. A set commits seconds and fraction for the next crystal edge; a set,
calibration or alarm write while one waits is ignored with RTC_ERR.BUSY. The edge takes it, fires an alarm that matches, and marks or catches up one
that a forward step skipped. A carry enters the next second and fires a matching alarm, consuming a one-shot. Tracking commits module time when it
differs by more than 2 LSB. CAL −256 is refused; a window puts the trim in force. A stopped crystal holds the count and sets OSF; it resumes when it
restarts. Clearing OSF re-arms the switch-over stamp; every switch-over counts, the first stamps. A write of an alarm's compare value clears SPENT. -/
def Obligations.TheRtcCountsSetsTracksAndWakesItsAlarms : Prop :=
  ∀ (s : State) (dt : Nat),
    (∀ rq v,
      (s.bit F.RTC_STAT.BUSY = true → ∀ c a, ((c = .rtcSetWrite dt rq v ∧ a = R.RTC_SET_SEC_LO) ∨ (c = .rtcCalWrite dt rq v ∧ a = R.RTC_CAL) ∨
          (∃ n w, n < 2 ∧ w < 5 ∧ c = .alarmWrite dt rq n w v ∧ a = almReg n w)) → Writes s rq a →
        ∃ t, exec c s = .next t ∧ t.bit F.RTC_ERR.BUSY = true ∧ OnlyWords [R.RTC_ERR] (s.elapse dt) t) ∧
      (s.bit F.RTC_STAT.BUSY = false →
        (Writes s rq R.RTC_SET_SEC_LO → ∃ t, exec (.rtcSetWrite dt rq v) s = .next t ∧ t.bit F.RTC_STAT.BUSY = true ∧
          t.rtc = { (s.elapse dt).rtc with
            pend := some ((v.toNat + 2 ^ 32 * s.get F.RTC_SET_SEC_HI.SEC) % 2 ^ 40, s.get F.RTC_SET_FRAC.FRAC) } ∧
          SameWords [R.RTC_SET_SEC_LO, R.RTC_STAT] s t) ∧
        (Writes s rq R.RTC_CAL →
          (v.toNat % 512 = 256 → ∃ t, exec (.rtcCalWrite dt rq v) s = .next t ∧ t.bit F.RTC_ERR.RANGE = true ∧
            OnlyWords [R.RTC_ERR] (s.elapse dt) t) ∧
          (v.toNat % 512 ≠ 256 → ∃ t, exec (.rtcCalWrite dt rq v) s = .next t ∧ t.get F.RTC_CAL.CAL = v.toNat % 512 ∧
            OnlyWords [R.RTC_CAL] (s.elapse dt) t)) ∧
        (∀ n, n < 2 →
          (Writes s rq (R.ALMn_SEC_LO n) → ∃ t, exec (.alarmWrite dt rq n 1 v) s = .next t ∧ t.getw (F.ALMn_SEC_LO.SEC n) = v ∧
            t.bit (F.ALMn_STAT.SPENT n) = false ∧ OnlyWords [R.ALMn_SEC_LO n, R.ALMn_STAT n] (s.elapse dt) t) ∧
          (Writes s rq (R.ALMn_CTRL n) → ∃ t, exec (.alarmWrite dt rq n 0 v) s = .next t ∧ t.bit (F.ALMn_CTRL.EN n) = v.getLsbD 0 ∧
            t.bit (F.ALMn_STAT.SPENT n) = (s.bit (F.ALMn_STAT.SPENT n) && !v.getLsbD 0)))) ∧
      (Writes s rq R.RTC_STAT →
        (v.getLsbD 0 = true → 0 < dt → ∃ t, exec (.rtcOsfClear dt rq v) s = .next t ∧ t.bit F.RTC_STAT.OSF = false ∧
          t.bit F.RTC_BKTS_HI.VALID = false ∧ OnlyWords [R.RTC_STAT, R.RTC_BKTS_HI] (s.elapse dt) t) ∧
        (v.getLsbD 0 = false → ∃ t, exec (.rtcOsfClear dt rq v) s = .next t ∧ OnlyWords [] (s.elapse dt) t))) ∧
    (∀ sec frac, s.rtc.pend = some (sec, frac) → s.rtc.stopped = false → ∃ t, exec (.rtcSetTakeEffect dt) s = .next t ∧
      t.rtc = { (s.elapse dt).rtc with sec := sec, frac := frac, base := (s.elapse dt).rtc.win, pend := none } ∧ t.bit F.RTC_STAT.BUSY = false ∧
      ∀ n, n < 2 → s.bit (F.ALMn_CTRL.EN n) = true →
        (sec ≠ s.rtc.sec → almMatch (s.almSec n) (s.almMask n) sec = true → t.bit (F.ALMn_STAT.FIRED n) = true ∧
          (s.bit (F.ALMn_CTRL.ONESHOT n) = true → t.bit (F.ALMn_STAT.SPENT n) = true ∧ t.bit (F.ALMn_CTRL.EN n) = false)) ∧
        (∀ x, s.rtc.sec < x → x < sec → almMatch (s.almSec n) (s.almMask n) x = true → x < 2 ^ 40 → t.bit (F.ALMn_STAT.SKIP n) = true ∧
          (s.bit (F.ALMn_CTRL.CATCHUP n) = true → t.bit (F.ALMn_STAT.FIRED n) = true))) ∧
    (s.rtc.pend = none ∨ s.rtc.stopped = true → ∃ t, exec (.rtcSetTakeEffect dt) s = .next t ∧ OnlyWords [] (s.elapse dt) t) ∧
    (s.rtc.stopped = false → ∃ t, exec (.rtcSecondCarry dt) s = .next t ∧
      t.rtc = { (s.elapse dt).rtc with sec := (s.rtc.sec + 1) % 2 ^ 40, frac := 0, base := (s.elapse dt).rtc.win } ∧
      SameWords [R.ALMn_STAT 0, R.ALMn_STAT 1, R.ALMn_CTRL 0, R.ALMn_CTRL 1] s t ∧ ∀ n, n < 2 →
        t.bit (F.ALMn_STAT.FIRED n) = (s.bit (F.ALMn_STAT.FIRED n) ||
          s.bit (F.ALMn_CTRL.EN n) && almMatch (s.almSec n) (s.almMask n) ((s.rtc.sec + 1) % 2 ^ 40)) ∧
        (s.bit (F.ALMn_CTRL.EN n) = true → s.bit (F.ALMn_CTRL.ONESHOT n) = true →
          almMatch (s.almSec n) (s.almMask n) ((s.rtc.sec + 1) % 2 ^ 40) = true →
          t.bit (F.ALMn_STAT.SPENT n) = true ∧ t.bit (F.ALMn_CTRL.EN n) = false)) ∧
    (s.rtc.stopped = true → ∃ t, exec (.rtcSecondCarry dt) s = .next t ∧ OnlyWords [] (s.elapse dt) t) ∧
    (∀ d : Int, d = (((s.elapse dt).rtcOfModule.1 * 32768 + (s.elapse dt).rtcOfModule.2 : Nat) : Int) -
        ((s.rtc.sec * 32768 + (s.elapse dt).rtcFrac : Nat) : Int) →
      (s.bit F.RTC_CFG.TRACK = true → s.get F.TIM_STAT.SYNC = 2 ∨ s.get F.TIM_STAT.SYNC = 4 → 2 < d.natAbs →
        ∃ t, exec (.rtcTrackCompare dt) s = .next t ∧ t.rtc = { (s.elapse dt).rtc with pend := some (s.elapse dt).rtcOfModule } ∧
          t.bit F.RTC_STAT.BUSY = true ∧ t.get F.RTC_TRK_CNT.COUNT = min (s.get F.RTC_TRK_CNT.COUNT + 1) 0xFFFFFFFF ∧
          SameWords [R.RTC_STAT, R.RTC_TRK_CNT] s t) ∧
      (s.bit F.RTC_CFG.TRACK = false ∨ s.get F.TIM_STAT.SYNC ∉ [2, 4] ∨ d.natAbs ≤ 2 → ∃ t, exec (.rtcTrackCompare dt) s = .next t ∧
        OnlyWords [] (s.elapse dt) t)) ∧
    (∃ t, exec (.rtcCalWindow dt) s = .next t ∧ SameWords [] s t ∧
      t.rtc = { (s.elapse dt).rtc with frac := (s.elapse dt).rtcFrac, base := 0, win := 0, cal := s.geti F.RTC_CAL.CAL }) ∧
    (∃ t, exec (.rtcOscStop dt) s = .next t ∧ t.bit F.RTC_STAT.OSF = true ∧ t.rtc.stopped = true ∧ t.rtc.sec = s.rtc.sec ∧
      t.rtc.frac = (s.elapse dt).rtcFrac ∧ SameWords [R.RTC_STAT] s t) ∧
    (∃ t, exec (.crystalRestart dt) s = .next t ∧ t.rtc = { (s.elapse dt).rtc with stopped := false } ∧ SameWords [] s t) ∧
    (s.rtc.onCell = false → ∃ t, exec (.cellSwitchover dt) s = .next t ∧ t.rtc = { (s.elapse dt).rtc with onCell := true } ∧
      t.get F.RTC_BKCNT.COUNT = min (s.get F.RTC_BKCNT.COUNT + 1) 0xFFFFFFFF ∧ t.bit F.RTC_BKTS_HI.VALID = true ∧
      (s.bit F.RTC_BKTS_HI.VALID = false → t.get F.RTC_BKTS_SEC.SEC = s.rtc.sec % 2 ^ 32 ∧ t.get F.RTC_BKTS_HI.SEC = s.rtc.sec / 2 ^ 32 % 256 ∧
        t.get F.RTC_BKTS_HI.FRAC = (s.elapse dt).rtcFrac) ∧
      (s.bit F.RTC_BKTS_HI.VALID = true → SameWords [R.RTC_BKCNT] s t)) ∧
    (s.rtc.onCell = true → ∃ t, exec (.cellSwitchover dt) s = .next t ∧ OnlyWords [] (s.elapse dt) t) ∧
    (∃ t, exec (.mainSupplyReturn dt) s = .next t ∧ t.rtc = { (s.elapse dt).rtc with onCell := false } ∧ SameWords [] s t)

/-- Lockstep mismatch, takeover, heartbeat challenges and answers, and the Gauntlet's oscillator check. A mismatch or an uncorrectable TCM error fails a
complex that runs and raises source 1 or 3 with its number; a ready standby takes over, without one NOACT is set and the watchdog armed as WD_DELAY
says; a complex that is OFF or FAILED stays. At the 5 ms instant a complex that answered rightly gets the next challenge of the LFSR, one that missed
two in a row fails with source 2. Only the complex itself answers, rightly or wrongly; another sets HB_WR. A failed oscillator check raises source 24
and stands; a passed one sets GAUNTLET_OK only where none has failed. -/
def Obligations.TheGauntletSupervisesTheComplexes : Prop :=
  ∀ (s : State) (dt : Nat),
    (∀ cx tcm, cx < 2 →
      (s.get (cxFld cx) = 0 ∨ s.get (cxFld cx) = 3 → ∃ t, exec (.lockstepMismatch dt cx false) s = .next t ∧ OnlyWords [] (s.elapse dt) t) ∧
      (s.get (cxFld cx) = 1 ∨ s.get (cxFld cx) = 2 → ∃ t, exec (.lockstepMismatch dt cx tcm) s = .next t ∧ t.get (cxFld cx) = 3 ∧
        t.bit ⟨R.SAF_FLT_LAT, if tcm then 3 else 1, 1⟩ = true ∧ (if tcm then 3 else 1, cx) ∈ t.saf.logged ∧
        t.get F.SAF_ECC_UE.COUNT = min (s.get F.SAF_ECC_UE.COUNT + tcm.toNat) 0xFFFFFFFF ∧
        (s.get (cxFld cx) = 1 → t.kmp = [] ∧
          (s.get (cxFld (1 - cx)) = 2 → s.bit (rdyFld (1 - cx)) = true → t.get (cxFld (1 - cx)) = 1 ∧ t.bit F.SAF_CX_STAT.NOACT = false) ∧
          (s.get (cxFld (1 - cx)) = 0 ∨ s.get (cxFld (1 - cx)) = 3 ∨ s.get (cxFld (1 - cx)) = 2 ∧ s.bit (rdyFld (1 - cx)) = false →
            t.get (cxFld (1 - cx)) = s.get (cxFld (1 - cx)) ∧ t.bit F.SAF_CX_STAT.NOACT = true ∧
            t.saf.wdArmed = decide (s.get F.SAF_CFG.WD_DELAY ≠ 0))))) ∧
    ((∀ n, n < 2 → (s.get (cxFld n) = 1 ∨ s.get (cxFld n) = 2) ∧ ((s.heart n).placed = true → (s.heart n).answered = true ∧ (s.heart n).wrong = false)) →
      ∃ t, exec (.heartbeatChallenge dt) s = .next t ∧ SameWords [R.SAF_HBn_CHAL 0, R.SAF_HBn_CHAL 1] s t ∧ ∀ n, n < 2 →
        t.get (F.SAF_HBn_CHAL.C n) = (lfsrStep (s.heart n).lfsr).toNat ∧
        t.heart n = ⟨lfsrStep (s.heart n).lfsr, false, false, if (s.heart n).placed then 0 else (s.heart n).miss, true⟩) ∧
    (∀ n, n < 2 → (s.get (cxFld n) = 1 ∨ s.get (cxFld n) = 2) → (s.heart n).placed = true → (s.heart n).answered = false ∨ (s.heart n).wrong = true →
      ((s.heart (1 - n)).placed = true → (s.heart (1 - n)).answered = true ∧ (s.heart (1 - n)).wrong = false) →
      (1 ≤ (s.heart n).miss → ∃ t, exec (.heartbeatChallenge dt) s = .next t ∧ t.get (cxFld n) = 3 ∧ t.bit ⟨R.SAF_FLT_LAT, 2, 1⟩ = true ∧
        (2, n) ∈ t.saf.logged) ∧
      ((s.heart n).miss = 0 → ∃ t, exec (.heartbeatChallenge dt) s = .next t ∧ t.get (cxFld n) = s.get (cxFld n) ∧
        (t.heart n).miss = 1)) ∧
    (∀ rq n v, n < 2 → Writes s rq (R.SAF_HBn_RESP n) →
      (rq.num ≠ n → ∃ t, exec (.hbRespWrite dt rq n v) s = .next t ∧ t.bit F.SAF_ERR.HB_WR = true ∧ OnlyWords [R.SAF_ERR] (s.elapse dt) t) ∧
      (rq.num = n → ∃ t, exec (.hbRespWrite dt rq n v) s = .next t ∧ SameWords [] s t ∧
        t.heart n = (if v.toNat / 65536 = s.get (F.SAF_HBn_CHAL.C n) ∧ v.toNat % 65536 = 65535 - s.get (F.SAF_HBn_CHAL.C n)
          then { s.heart n with answered := true } else { s.heart n with wrong := true }))) ∧
    (∃ t, exec (.gauntletOscCheck dt false) s = .next t ∧ t.saf.gFailed = true ∧ t.bit ⟨R.SAF_FLT_LAT, 24, 1⟩ = true ∧ (24, 0) ∈ t.saf.logged) ∧
    (s.saf.gFailed = false → ∃ t, exec (.gauntletOscCheck dt true) s = .next t ∧ t.bit F.SAF_STAT.GAUNTLET_OK = true) ∧
    (s.saf.gFailed = true → ∃ t, exec (.gauntletOscCheck dt true) s = .next t ∧ OnlyWords [] (s.elapse dt) t)

/-- Memory scrubs, the configuration CRC check, the monitors, and the release of a safe state. Corrected errors of a scrub only count and a completed pass
counts; an uncorrectable word counts and raises source 3 with its region, or 4 for DRAM. A differing store CRC raises source 5 with its index, none
does nothing. A clock monitor raises 6, a supply monitor 7 for a domain that is on and nothing for one that is off, a temperature above 120 °C 8; the
temperature is shown. A release clears the safe state's bit where no latched source selects it, and is rejected with REL_REJ where one does. -/
def Obligations.DiagnosticsRaiseTheirSourcesAndSafeStatesAreReleased : Prop :=
  ∀ (s : State) (dt : Nat),
    (∀ ce pass,
      (∃ t, exec (.sramScrub dt ce [] pass) s = .next t ∧ OnlyWords [R.SAF_ECC_CE, R.SAF_SCRUB_S] (s.elapse dt) t ∧
        t.get F.SAF_ECC_CE.COUNT = min (s.get F.SAF_ECC_CE.COUNT + ce) 0xFFFFFFFF ∧
        t.get F.SAF_SCRUB_S.COUNT = min (s.get F.SAF_SCRUB_S.COUNT + pass.toNat) 0xFFFFFFFF) ∧
      (∃ t, exec (.dramScrub dt ce [] pass) s = .next t ∧ OnlyWords [R.SAF_ECC_CE, R.SAF_SCRUB_D] (s.elapse dt) t ∧
        t.get F.SAF_ECC_CE.COUNT = min (s.get F.SAF_ECC_CE.COUNT + ce) 0xFFFFFFFF ∧
        t.get F.SAF_SCRUB_D.COUNT = min (s.get F.SAF_SCRUB_D.COUNT + pass.toNat) 0xFFFFFFFF) ∧
      (∀ r a, 2 ≤ r → ∃ t, exec (.sramScrub dt ce [(r, a)] pass) s = .next t ∧
        t.get F.SAF_ECC_CE.COUNT = min (s.get F.SAF_ECC_CE.COUNT + ce) 0xFFFFFFFF ∧
        t.get F.SAF_ECC_UE.COUNT = min (s.get F.SAF_ECC_UE.COUNT + 1) 0xFFFFFFFF ∧ t.bit ⟨R.SAF_FLT_LAT, 3, 1⟩ = true ∧ (3, r) ∈ t.saf.logged) ∧
      (∀ a, ∃ t, exec (.dramScrub dt ce [a] pass) s = .next t ∧
        t.get F.SAF_ECC_CE.COUNT = min (s.get F.SAF_ECC_CE.COUNT + ce) 0xFFFFFFFF ∧
        t.get F.SAF_ECC_UE.COUNT = min (s.get F.SAF_ECC_UE.COUNT + 1) 0xFFFFFFFF ∧ t.bit ⟨R.SAF_FLT_LAT, 4, 1⟩ = true ∧ (4, 0) ∈ t.saf.logged)) ∧
    (∃ t, exec (.regCrcCheck dt []) s = .next t ∧ OnlyWords [] (s.elapse dt) t) ∧
    (∀ k, k < 3 → ∃ t, exec (.regCrcCheck dt [k]) s = .next t ∧ t.bit ⟨R.SAF_FLT_LAT, 5, 1⟩ = true ∧ (5, k) ∈ t.saf.logged) ∧
    (∀ idx temp,
      (∃ t, exec (.monitorTrip dt 6 idx temp) s = .next t ∧ t.bit ⟨R.SAF_FLT_LAT, 6, 1⟩ = true ∧ (6, idx) ∈ t.saf.logged) ∧
      (idx = 16 ∨ s.get F.PWR_DOM_STAT.ON / 2 ^ idx % 2 = 1 → ∃ t, exec (.monitorTrip dt 7 idx temp) s = .next t ∧
        t.bit ⟨R.SAF_FLT_LAT, 7, 1⟩ = true ∧ (7, idx) ∈ t.saf.logged) ∧
      (idx ≠ 16 → s.get F.PWR_DOM_STAT.ON / 2 ^ idx % 2 = 0 → ∃ t, exec (.monitorTrip dt 7 idx temp) s = .next t ∧ OnlyWords [] (s.elapse dt) t) ∧
      (1200 < temp → temp < 32768 → ∃ t, exec (.monitorTrip dt 8 idx temp) s = .next t ∧ t.geti F.SAF_TEMP.T = temp ∧
        t.bit ⟨R.SAF_FLT_LAT, 8, 1⟩ = true ∧ (8, 0) ∈ t.saf.logged) ∧
      (-32768 ≤ temp → temp ≤ 1200 → ∃ t, exec (.monitorTrip dt 8 idx temp) s = .next t ∧ t.geti F.SAF_TEMP.T = temp ∧
        OnlyWords [R.SAF_TEMP] (s.elapse dt) t)) ∧
    (∀ rq, Writes s rq R.SAF_CTRL →
      (∃ t, exec (.safeStateRelease dt rq 0#32) s = .next t ∧ OnlyWords [] (s.elapse dt) t) ∧
      (∀ k, 1 ≤ k → k ≤ 4 →
        (s.safeHeld k = false → ∃ t, exec (.safeStateRelease dt rq (BitVec.ofNat 32 (2 ^ (k - 1)))) s = .next t ∧
          t.bit ⟨R.SAF_STAT, 3 + k, 1⟩ = false ∧ (k = 1 → t.csb.sf1Off = false)) ∧
        (s.safeHeld k = true → ∃ t, exec (.safeStateRelease dt rq (BitVec.ofNat 32 (2 ^ (k - 1)))) s = .next t ∧
          t.bit F.SAF_ERR.REL_REJ = true ∧ t.bit ⟨R.SAF_STAT, 3 + k, 1⟩ = s.bit ⟨R.SAF_STAT, 3 + k, 1⟩ ∧ OnlyWords [R.SAF_ERR] (s.elapse dt) t)))

/-- GO, the verdict on a key message and its effect, GEN_DTK, unwraps, tamper and its log, and the entropy source. GO makes KEY busy; a second is flagged.
A message ends with the first failing check as code in KEY_RES and KEY_ERR.MSG, its counter kept; one that passes takes its counter and its effect:
MANUFACTURE, PROVISION, COMMISSION and RETURN their life-cycle state and root, DEBUG_UNLOCK the port until its time. GEN_DTK acts once, in BLANK. An
unwrap fills a free slot, or fails. A tamper in an armed state erases root and DTK, marks TAMPERED, drives TAMPER_OUT and logs; a later source logs;
in BLANK TAMPER_OUT only follows; the fuse is recorded. A failed entropy test clears ENT_OK until a retest passes. -/
def Obligations.KeyMessagesAreJudgedInOrderAndTamperErases : Prop :=
  ∀ (s : State) (dt : Nat),
    (∀ rq, Writes s rq R.KEY_CMD →
      (s.bit F.KEY_STAT.BUSY = false → ∃ t, exec (.keyGo dt rq) s = .next t ∧ t.bit F.KEY_STAT.BUSY = true ∧ t.mgt.keyBy = rq.num ∧
        SameWords [R.KEY_STAT] s t) ∧
      (s.bit F.KEY_STAT.BUSY = true → ∃ t, exec (.keyGo dt rq) s = .next t ∧ t.bit F.KEY_ERR.BUSY = true ∧ OnlyWords [R.KEY_ERR] (s.elapse dt) t) ∧
      (s.get F.KEY_STAT.LC ≠ 0 ∨ s.bit F.KEY_STAT.DTK = true → ∃ t, exec (.genDtk dt rq) s = .next t ∧ t.bit F.KEY_ERR.CMD_REJ = true ∧
        OnlyWords [R.KEY_ERR] (s.elapse dt) t) ∧
      (s.get F.KEY_STAT.LC = 0 → s.bit F.KEY_STAT.DTK = false →
        (s.bit F.KEY_STAT.ENT_OK = true → ∃ t, exec (.genDtk dt rq) s = .next t ∧ t.bit F.KEY_STAT.DTK = true ∧ t.key.dtk = some s.free) ∧
        (s.bit F.KEY_STAT.ENT_OK = false → ∃ t, exec (.genDtk dt rq) s = .next t ∧ OnlyWords [] (s.elapse dt) t))) ∧
    (∀ v,
      (s.bit F.KEY_STAT.BUSY = false → ∃ t, exec (.keyMsgDone dt v) s = .next t ∧ OnlyWords [] (s.elapse dt) t) ∧
      (s.bit F.KEY_STAT.BUSY = true → s.msgCode v ≠ 0 → ∃ t, exec (.keyMsgDone dt v) s = .next t ∧ t.get F.KEY_RES.CODE = s.msgCode v ∧
        t.bit F.KEY_RES.DONE = true ∧ t.get F.KEY_RES.OP = s.msgOp ∧ t.bit F.KEY_STAT.BUSY = false ∧ t.bit F.KEY_ERR.MSG = true ∧
        OnlyWords [R.KEY_RES, R.KEY_STAT, R.KEY_ERR] (s.elapse dt) t) ∧
      (s.bit F.KEY_STAT.BUSY = true → s.msgCode v = 0 → ∃ t, exec (.keyMsgDone dt v) s = .next t ∧ t.get F.KEY_RES.CODE = 0 ∧
        t.bit F.KEY_RES.DONE = true ∧ t.bit F.KEY_STAT.BUSY = false ∧ t.get F.KEY_CTR.CTR = s.msgNat 16 4 ∧
        (s.msgOp = 1 → t.get F.KEY_STAT.LC = 1 ∧ t.key.root = some ((v.plain.getD []).take 32) ∧ t.bit F.KEY_STAT.ARMED = true) ∧
        (s.msgOp = 2 → t.get F.KEY_STAT.LC = 2 ∧ t.key.root = some ((v.plain.getD []).take 32)) ∧
        (s.msgOp = 3 → t.get F.KEY_STAT.LC = 3 ∧ t.key.root = s.key.root) ∧
        (s.msgOp = 4 → t.get F.KEY_STAT.LC = 4 ∧ t.key.root = none ∧ t.bit F.KEY_STAT.ROOT = false) ∧
        (s.msgOp = 0x20 → t.get F.KEY_STAT.LC = s.get F.KEY_STAT.LC ∧ t.bit F.KEY_STAT.DEBUG = true ∧
          t.key.debugEnd = some ((s.elapse dt).clock.up + s.msgNat 128 4 * 250000000)))) ∧
    (∀ u, s.key.debugEnd = some u →
      (u ≤ (s.elapse dt).clock.up → ∃ t, exec (.debugUnlockExpiry dt) s = .next t ∧ t.bit F.KEY_STAT.DEBUG = false ∧
        t.key = { s.key with debugEnd := none } ∧ SameWords [R.KEY_STAT] s t) ∧
      ((s.elapse dt).clock.up < u → ∃ t, exec (.debugUnlockExpiry dt) s = .next t ∧ OnlyWords [] (s.elapse dt) t)) ∧
    (s.key.debugEnd = none → ∃ t, exec (.debugUnlockExpiry dt) s = .next t ∧ OnlyWords [] (s.elapse dt) t) ∧
    (∀ id usage,
      (s.key.unwraps.find? (fun w => w.id == id && w.usage == usage) = none → ∀ ok ovl, ∃ t, exec (.keyUnwrapDone dt id usage ok ovl) s = .next t ∧
        OnlyWords [] (s.elapse dt) t) ∧
      (∀ w, s.key.unwraps.find? (fun w => w.id == id && w.usage == usage) = some w → w.users = [.kmp] →
        (∀ n, id < 65536 → usage < 4 → s.mittenUse id true = some (usage, usageLen usage) → s.hasRoot = true → s.slotFree = some n →
          ∃ t, exec (.keyUnwrapDone dt id usage true true) s = .next t ∧ t.get (F.KEY_SLOTn.KEY_ID n) = id ∧ t.bit (F.KEY_SLOTn.VALID n) = true ∧
            t.get (F.KEY_SLOTn.USAGE n) = usage ∧ t.key.unwraps = s.key.unwraps.filter (fun w => !(w.id == id && w.usage == usage))) ∧
        (∃ t, exec (.keyUnwrapDone dt id usage false true) s = .next t ∧
          t.key.unwraps = s.key.unwraps.filter (fun w => !(w.id == id && w.usage == usage)) ∧
          ∀ n, n < 32 → t.word (R.KEY_SLOTn n) = s.word (R.KEY_SLOTn n)))) ∧
    (∀ act,
      (∀ c, c = .tamper dt act ∨ c = .tamperSourceChange dt act → s.bit F.KEY_STAT.ARMED = true → s.get F.KEY_STAT.LC ≠ 5 → s.get F.KEY_STAT.LC ≠ 0 →
        act % 32 ≠ 0 → ∃ t, exec c s = .next t ∧ t.get F.KEY_STAT.LC = 5 ∧ t.bit F.KEY_STAT.ROOT = false ∧ t.bit F.KEY_STAT.DTK = false ∧
          t.key.root = none ∧ t.key.dtk = none ∧ t.key.mark = true ∧ .pin 1 true ∈ t.emitted ∧ (s.powered = true → t.key.fusing = true) ∧
          t.get F.KEY_TLOG_SEQ.SEQ = (s.get F.KEY_TLOG_SEQ.SEQ + 1) % 2 ^ 32 ∧
          t.bit (T.KEY_TLOG.FIRST (s.get F.KEY_TLOG_SEQ.SEQ % 64)) = true ∧ t.get (T.KEY_TLOG.SRC (s.get F.KEY_TLOG_SEQ.SEQ % 64)) = act % 32) ∧
      (s.bit F.KEY_STAT.ARMED = false ∨ s.get F.KEY_STAT.LC = 5 ∨ act % 32 = 0 → ∃ t, exec (.tamper dt act) s = .next t ∧
        OnlyWords [R.KEY_TAMP] (s.elapse dt) t ∧ (s.powered = true → t.get F.KEY_TAMP.ACT = act % 32)) ∧
      (s.get F.KEY_STAT.LC = 0 → ∃ t, exec (.tamperSourceChange dt act) s = .next t ∧ OnlyWords [R.KEY_TAMP] (s.elapse dt) t ∧
        t.emitted.head? = some (.pin 1 (act % 32 != 0))) ∧
      (∀ c, c = .tamperLogEntry dt act ∨ c = .tamperSourceChange dt act → s.get F.KEY_STAT.LC = 5 →
        act % 32 &&& (31 - s.get F.KEY_TAMP.ACT) ≠ 0 → ∃ t, exec c s = .next t ∧ t.get F.KEY_STAT.LC = 5 ∧
          t.get F.KEY_TLOG_SEQ.SEQ = (s.get F.KEY_TLOG_SEQ.SEQ + 1) % 2 ^ 32 ∧
          t.bit (T.KEY_TLOG.FIRST (s.get F.KEY_TLOG_SEQ.SEQ % 64)) = false ∧ t.get (T.KEY_TLOG.SRC (s.get F.KEY_TLOG_SEQ.SEQ % 64)) = act % 32) ∧
      (s.get F.KEY_STAT.LC ≠ 5 → ∃ t, exec (.tamperLogEntry dt act) s = .next t ∧ OnlyWords [] (s.elapse dt) t)) ∧
    (s.key.fusing = true → ∃ t, exec (.tamperFuseDone dt) s = .next t ∧ t.key = { s.key with fusing := false, fuseTamper := true } ∧
      SameWords [] s t) ∧
    (s.key.fusing = false → ∃ t, exec (.tamperFuseDone dt) s = .next t ∧ OnlyWords [] (s.elapse dt) t) ∧
    (∃ t, exec (.entropyFail dt) s = .next t ∧ t.bit F.KEY_STAT.ENT_OK = false ∧ t.bit F.KEY_ERR.ENTROPY = true ∧
      OnlyWords [R.KEY_STAT, R.KEY_ERR] (s.elapse dt) t) ∧
    (∃ t, exec (.entropyRetest dt true) s = .next t ∧ t.bit F.KEY_STAT.ENT_OK = true ∧ OnlyWords [R.KEY_STAT] (s.elapse dt) t) ∧
    (∃ t, exec (.entropyRetest dt false) s = .next t ∧ OnlyWords [] (s.elapse dt) t)

/-- UPD's commands and their results, headers and chunks from the buffer and the UART, install, activate and stage. Every command answers in UPD_RES: 6
during a warning, 32 while one is in progress. OPEN and PUT make UPD busy; their end gives the code of the header's first failing check, opens the
package of a good header, holds a chunk that matches its parent, counts a duplicate or a wrong hash. The UART's frames act likewise and are counted,
bad ones as errors, none while it does not receive. ABORT discards a package before its handover; INSTALL writes the other slot of a complete
configuration and its end makes it INSTALLED with its REJ mark cleared; ACTIVATE makes it preferred; STAGE begins an exchange. In another state each
answers 32. -/
def Obligations.PackagesAreReceivedInstalledAndActivated : Prop :=
  ∀ (s : State) (dt : Nat),
    (∀ rq, Writes s rq R.UPD_CMD →
      (∀ c n, ((c = .updOpen dt rq ∧ n = 1) ∨ (c = .updPut dt rq ∧ n = 2) ∨ (c = .updAbort dt rq ∧ n = 3) ∨ (c = .updInstall dt rq ∧ n = 4) ∨
          (c = .updActivate dt rq ∧ n = 5) ∨ (c = .updStage dt rq ∧ n = 6) ∨ (c = .updLoadSb dt rq ∧ n = 7) ∨ (c = .updHandover dt rq ∧ n = 8) ∨
          (c = .updRevert dt rq ∧ n = 9) ∨ (c = .updCommit dt rq ∧ n = 10) ∨ (c = .updCold dt rq ∧ n = 11)) →
        (s.bit F.UPD_STAT.PFW_HOLD = true ∨ s.bit F.UPD_STAT.BUSY = true) → ∃ t, exec c s = .next t ∧ OnlyWords [R.UPD_RES] (s.elapse dt) t ∧
          t.get F.UPD_RES.CODE = (if s.bit F.UPD_STAT.PFW_HOLD then 6 else 32) ∧ t.bit F.UPD_RES.DONE = true ∧ t.get F.UPD_RES.CMD = n) ∧
      (s.bit F.UPD_STAT.PFW_HOLD = false → s.bit F.UPD_STAT.BUSY = false →
        (∀ c n, ((c = .updOpen dt rq ∧ n = 1) ∨ (c = .updPut dt rq ∧ n = 2)) → ∃ t, exec c s = .next t ∧ t.bit F.UPD_STAT.BUSY = true ∧
          t.upd = { s.upd with work := some n } ∧ t.mgt.updBy = rq.num ∧ SameWords [R.UPD_STAT] s t) ∧
        (s.get F.UPD_STAT.PSTATE ≠ 0 → s.get F.UPD_STAT.HSTATE < 4 → s.upd.sealing = none → ∃ t, exec (.updAbort dt rq) s = .next t ∧
          t.upd.pkg = none ∧ t.upd.chunks = [] ∧ t.get F.UPD_STAT.PSTATE = 0 ∧ t.get F.UPD_STAT.HSTATE = 0 ∧ t.get F.UPD_RES.CODE = 0) ∧
        (s.pkgIs 2 2 = true → ∃ t, exec (.updInstall dt rq) s = .next t ∧ t.bit F.UPD_STAT.BUSY = true ∧ t.upd.work = some 4 ∧
          (s.get F.CYC_STAT.EXCH = 1 → t.get F.CYC_STAT.EXCH = 5 ∧ t.get F.CYC_EXCH_ERR.CODE = 1)) ∧
        (s.pkgIs 2 3 = true → s.upd.slot < 2 → ∃ t, exec (.updActivate dt rq) s = .next t ∧ t.get F.CFG_SEL.PREF = s.upd.slot ∧
          t.cfg.pend = some (s.upd.slot, pkgFloor s.pkgHdr) ∧ t.get F.UPD_RES.CODE = 0 ∧ SameWords [R.CFG_SEL, R.UPD_RES] s t) ∧
        (s.pkgIs 2 3 = true → s.svc = 4 → (s.get F.CYC_STAT.EXCH = 0 ∨ s.get F.CYC_STAT.EXCH = 5) → ∃ t, exec (.updStage dt rq) s = .next t ∧
          t.get F.CYC_STAT.EXCH = 1 ∧ t.get F.UPD_RES.CODE = 0 ∧ OnlyWords [R.CYC_STAT, R.CYC_EXCH_ERR, R.UPD_RES] (s.elapse dt) t) ∧
        (∀ c, (c = .updAbort dt rq ∧ (s.get F.UPD_STAT.PSTATE = 0 ∨ 4 ≤ s.get F.UPD_STAT.HSTATE ∨ s.upd.sealing.isSome = true)) ∨
            (c = .updInstall dt rq ∧ s.pkgIs 2 2 = false) ∨ (c = .updActivate dt rq ∧ s.pkgIs 2 3 = false) ∨
            (c = .updStage dt rq ∧ (s.pkgIs 2 3 = false ∨ s.svc ≠ 4)) → ∃ t, exec c s = .next t ∧ t.get F.UPD_RES.CODE = 32 ∧
          t.bit F.UPD_RES.DONE = true ∧ OnlyWords [R.UPD_RES] (s.elapse dt) t))) ∧
    (∀ v,
      (s.upd.work = some 1 →
        (s.hdrCode s.updBuf v ≠ 0 → ∃ t, exec (.updCommandDone dt v) s = .next t ∧ t.get F.UPD_RES.CODE = s.hdrCode s.updBuf v ∧
          t.get F.UPD_RES.CMD = 1 ∧ t.bit F.UPD_ERR.HDR = true ∧ t.bit F.UPD_STAT.BUSY = false ∧ t.upd = { s.upd with work := none }) ∧
        (s.hdrCode s.updBuf v = 0 → s.pkgOpen = false → v.nandOk = true → ∃ t, exec (.updCommandDone dt v) s = .next t ∧
          t.upd.pkg = some s.updBuf ∧ t.upd.chunks = [] ∧ t.get F.UPD_STAT.PSTATE = 1 ∧ t.get F.UPD_RES.CODE = 0 ∧ t.bit F.UPD_STAT.BUSY = false)) ∧
      (s.upd.work = some 2 →
        (s.pkgOpen = false → ∃ t, exec (.updCommandDone dt v) s = .next t ∧ t.get F.UPD_RES.CODE = 19 ∧ t.upd = { s.upd with work := none }) ∧
        (s.pkgOpen = true → s.get F.UPD_CHK_IDX.IDX < pkgTotal s.pkgHdr →
          (s.chunk? (s.get F.UPD_CHK_IDX.IDX) ≠ none → ∃ t, exec (.updCommandDone dt v) s = .next t ∧ t.get F.UPD_RES.CODE = 16 ∧
            t.get F.UPD_DUP_CNT.COUNT = min (s.get F.UPD_DUP_CNT.COUNT + 1) 0xFFFFFFFF ∧ t.upd = { s.upd with work := none }) ∧
          (∀ r, s.chunk? (s.get F.UPD_CHK_IDX.IDX) = none → s.chunkRef s.pkgHdr (s.get F.UPD_CHK_IDX.IDX) = some r →
            (v.sha ≠ r → ∃ t, exec (.updCommandDone dt v) s = .next t ∧ t.get F.UPD_RES.CODE = 18 ∧ t.bit F.UPD_ERR.CHUNK = true ∧
              t.get F.UPD_HASH_CNT.COUNT = min (s.get F.UPD_HASH_CNT.COUNT + 1) 0xFFFFFFFF ∧ t.upd = { s.upd with work := none }) ∧
            (v.sha = r → chunkPad s.pkgHdr (s.get F.UPD_CHK_IDX.IDX) s.updBuf = true → v.nandOk = true → pkgType s.pkgHdr = 1 →
              ∃ t, exec (.updCommandDone dt v) s = .next t ∧ t.get F.UPD_RES.CODE = 0 ∧
                t.upd.chunks = put (s.get F.UPD_CHK_IDX.IDX) s.updBuf s.upd.chunks ∧
                (pkgTotal s.pkgHdr ≤ t.upd.chunks.length → t.get F.UPD_STAT.PSTATE = 2))))) ∧
      (s.upd.work ≠ some 1 → s.upd.work ≠ some 2 → ∃ t, exec (.updCommandDone dt v) s = .next t ∧ OnlyWords [] (s.elapse dt) t) ∧
      (∀ f, s.uartRx = true →
        (uartOk 1 1024 f = true → s.hdrCode ((f.drop 6).take 1024) v = 0 → s.pkgOpen = false → v.nandOk = true →
          ∃ t, exec (.uartHeaderFrame dt f v) s = .next t ∧ t.upd.pkg = some ((f.drop 6).take 1024) ∧ t.get F.UPD_STAT.PSTATE = 1 ∧
            t.get F.UPD_UART_CNT.COUNT = min (s.get F.UPD_UART_CNT.COUNT + 1) 0xFFFFFFFF) ∧
        (uartOk 1 1024 f = true → s.hdrCode ((f.drop 6).take 1024) v ≠ 0 → ∃ t, exec (.uartHeaderFrame dt f v) s = .next t ∧
          t.bit F.UPD_ERR.HDR = true ∧ OnlyWords [R.UPD_ERR, R.UPD_UART_CNT] (s.elapse dt) t) ∧
        (∀ r, uartOk 2 1032 f = true → s.pkgOpen = true → natAt f 6 4 = pkgId s.pkgHdr → natAt f 10 4 < pkgTotal s.pkgHdr →
          s.chunk? (natAt f 10 4) = none → s.chunkRef s.pkgHdr (natAt f 10 4) = some r → v.sha = r →
          chunkPad s.pkgHdr (natAt f 10 4) ((f.drop 14).take 1024) = true → v.nandOk = true → ∃ t, exec (.uartChunkFrame dt f v) s = .next t ∧
            t.upd.chunks = put (natAt f 10 4) ((f.drop 14).take 1024) s.upd.chunks ∧
            t.get F.UPD_UART_CNT.COUNT = min (s.get F.UPD_UART_CNT.COUNT + 1) 0xFFFFFFFF) ∧
        (∀ c, c = .uartBadFrame dt ∨ (c = .uartHeaderFrame dt f v ∧ uartOk 1 1024 f = false) ∨ (c = .uartChunkFrame dt f v ∧ uartOk 2 1032 f = false) →
          ∃ t, exec c s = .next t ∧ OnlyWords [R.UPD_UART_ERR] (s.elapse dt) t ∧
            t.get F.UPD_UART_ERR.COUNT = min (s.get F.UPD_UART_ERR.COUNT + 1) 0xFFFFFFFF)) ∧
      (∀ f c, s.uartRx = false → c = .uartBadFrame dt ∨ c = .uartHeaderFrame dt f v ∨ c = .uartChunkFrame dt f v →
        ∃ t, exec c s = .next t ∧ OnlyWords [] (s.elapse dt) t)) ∧
    (s.upd.work = some 4 →
      (∃ t, exec (.installDone dt true) s = .next t ∧ t.get F.UPD_STAT.PSTATE = 3 ∧ t.bit F.UPD_STAT.BUSY = false ∧ t.get F.UPD_RES.CODE = 0 ∧
        t.upd.slot = 1 - s.get F.CFG_STAT.SLOT ∧ t.bit (rejFld (1 - s.get F.CFG_STAT.SLOT)) = false ∧ t.cfg.dirty = true) ∧
      (∃ t, exec (.installDone dt false) s = .next t ∧ t.bit F.UPD_ERR.FLASH = true ∧ t.get F.UPD_RES.CODE = 33 ∧ t.bit F.UPD_STAT.BUSY = false ∧
        t.get F.UPD_STAT.PSTATE = s.get F.UPD_STAT.PSTATE)) ∧
    (s.upd.work ≠ some 4 → ∀ ok, ∃ t, exec (.installDone dt ok) s = .next t ∧ OnlyWords [] (s.elapse dt) t)

/-- LOAD_SB, SHADOW, ARMED, the swap, probation, COMMIT, REVERT, the overwrite and COLD. LOAD_SB of a complete firmware package loads the standby; its
readiness begins SHADOW, N boundaries ARMED. HANDOVER, in ARMED, asks for the swap, which takes place at a boundary or its timeout: the complexes
change places and the generations with them. The sealed mailbox counts it and begins probation, or ends a hand-back with the package REJECTED.
Probation's end or COMMIT begins the overwrite; REVERT hands back or rejects. A verified overwrite raises the floor and COMMITS the package, a second
failure flags NAND. COLD overwrites at once, then resets. In another state a command answers 32, an event does nothing. -/
def Obligations.AHandoverSwapsTheComplexesAndIsCommittedOrReverted : Prop :=
  ∀ (s : State) (dt : Nat),
    (∀ rq, Writes s rq R.UPD_CMD → s.bit F.UPD_STAT.PFW_HOLD = false → s.bit F.UPD_STAT.BUSY = false →
      (s.pkgIs 1 2 = true → s.get F.UPD_STAT.HSTATE = 0 →
        (∀ n, s.standby = some n → ∃ t, exec (.updLoadSb dt rq) s = .next t ∧ t.get F.UPD_STAT.HSTATE = 1 ∧ t.get F.UPD_STAT.PSTATE = 3 ∧
          t.bit (rdyFld n) = false ∧ t.get F.UPD_SB_GEN.GEN = pkgGen s.pkgHdr ∧ t.get F.UPD_SHD_CNT.COUNT = 0 ∧ t.get F.UPD_RES.CODE = 0) ∧
        (s.standby = none → ∃ t, exec (.updLoadSb dt rq) s = .next t ∧ t.get F.UPD_RES.CODE = 35 ∧ OnlyWords [R.UPD_RES] (s.elapse dt) t) ∧
        (∃ t, exec (.updCold dt rq) s = .next t ∧ t.bit F.UPD_STAT.BUSY = true ∧ t.upd.work = some 11 ∧ t.upd.overwrite = true ∧
          t.upd.cold = true ∧ t.upd.fails = 0)) ∧
      (s.get F.UPD_STAT.HSTATE = 3 → ∃ t, exec (.updHandover dt rq) s = .next t ∧ t.upd = { s.upd with hoReq := true } ∧
        t.get F.UPD_RES.CODE = 0 ∧ SameWords [R.UPD_RES] s t) ∧
      (s.get F.UPD_STAT.HSTATE = 4 →
        (∃ t, exec (.updCommit dt rq) s = .next t ∧ t.get F.UPD_STAT.HSTATE = 5 ∧ t.upd.overwrite = true ∧ t.upd.probEnd = none ∧
          t.get F.UPD_RES.CODE = 0) ∧
        (∃ t, exec (.updRevert dt rq) s = .next t ∧ t.get F.UPD_STAT.HSTATE = 6 ∧ t.get F.UPD_RES.CODE = 0 ∧
          OnlyWords [R.UPD_STAT, R.UPD_RES] (s.elapse dt) t)) ∧
      (s.get F.UPD_STAT.HSTATE = 1 ∨ s.get F.UPD_STAT.HSTATE = 2 ∨ s.get F.UPD_STAT.HSTATE = 3 ∧ s.upd.sealing = none →
        ∃ t, exec (.updRevert dt rq) s = .next t ∧ t.get F.UPD_STAT.HSTATE = 0 ∧ t.get F.UPD_STAT.PSTATE = 5 ∧ t.bit F.UPD_ERR.PROB_FAIL = true ∧
          t.get F.UPD_RES.CODE = 0) ∧
      (∀ c, (c = .updLoadSb dt rq ∧ (s.pkgIs 1 2 = false ∨ s.get F.UPD_STAT.HSTATE ≠ 0)) ∨
          (c = .updCold dt rq ∧ (s.pkgIs 1 2 = false ∨ s.get F.UPD_STAT.HSTATE ≠ 0)) ∨ (c = .updHandover dt rq ∧ s.get F.UPD_STAT.HSTATE ≠ 3) ∨
          (c = .updCommit dt rq ∧ s.get F.UPD_STAT.HSTATE ≠ 4) ∨
          (c = .updRevert dt rq ∧ (s.get F.UPD_STAT.HSTATE = 0 ∨ 5 ≤ s.get F.UPD_STAT.HSTATE)) →
        ∃ t, exec c s = .next t ∧ t.get F.UPD_RES.CODE = 32 ∧ OnlyWords [R.UPD_RES] (s.elapse dt) t)) ∧
    (∀ n, n < 2 →
      (s.get (cxFld n) = 2 → ∃ t, exec (.standbyReady dt n) s = .next t ∧ t.bit (rdyFld n) = true ∧
        t.get F.UPD_STAT.HSTATE = (if s.get F.UPD_STAT.HSTATE = 1 then 2 else s.get F.UPD_STAT.HSTATE) ∧
        OnlyWords [R.SAF_CX_STAT, R.UPD_STAT] (s.elapse dt) t) ∧
      (s.get (cxFld n) ≠ 2 → ∃ t, exec (.standbyReady dt n) s = .next t ∧ OnlyWords [] (s.elapse dt) t)) ∧
    (s.get F.UPD_STAT.HSTATE = 2 → s.get F.UPD_SHADOW_N.N ≤ s.get F.UPD_SHD_CNT.COUNT → ∃ t, exec (.shadowArmed dt) s = .next t ∧
      t.get F.UPD_STAT.HSTATE = 3 ∧ OnlyWords [R.UPD_STAT] (s.elapse dt) t) ∧
    (s.get F.UPD_STAT.HSTATE ≠ 2 ∨ s.get F.UPD_SHD_CNT.COUNT < s.get F.UPD_SHADOW_N.N → ∃ t, exec (.shadowArmed dt) s = .next t ∧
      OnlyWords [] (s.elapse dt) t) ∧
    (∀ c, c = .handoverBoundary dt ∨ c = .handoverTimeout dt →
      (s.handoverDue = false → ∃ t, exec c s = .next t ∧ OnlyWords [] (s.elapse dt) t) ∧
      (∀ a n, s.handoverDue = true → s.activeCx = some a → s.standby = some n → ∃ t, exec c s = .next t ∧ t.get (cxFld a.num) = 2 ∧
        t.get (cxFld n) = 1 ∧ t.upd.sealing = some (s.elapse dt).clock.up ∧ t.upd.hoReq = false ∧
        t.get F.UPD_FW_GEN.GEN = s.get F.UPD_SB_GEN.GEN ∧ t.get F.UPD_SB_GEN.GEN = s.get F.UPD_FW_GEN.GEN ∧
        (∀ f ∈ t.freezes, f.rq ≠ a.num))) ∧
    (s.upd.sealing = none → ∃ t, exec (.mailboxSealed dt) s = .next t ∧ OnlyWords [] (s.elapse dt) t) ∧
    (∀ b, s.upd.sealing = some b → ∃ t, exec (.mailboxSealed dt) s = .next t ∧ t.upd.sealing = none ∧
      t.get F.UPD_HO_CNT.COUNT = min (s.get F.UPD_HO_CNT.COUNT + 1) 0xFFFFFFFF ∧
      t.get F.UPD_HO_US.US = min (((s.elapse dt).clock.up - b) / 250) 65535 ∧
      (s.get F.UPD_STAT.HSTATE = 6 → t.get F.UPD_STAT.HSTATE = 0 ∧ t.get F.UPD_STAT.PSTATE = 5 ∧ t.bit F.UPD_ERR.PROB_FAIL = true) ∧
      (s.get F.UPD_STAT.HSTATE ≠ 6 → t.get F.UPD_STAT.HSTATE = 4 ∧ t.upd.probEnd = some (b + s.get F.UPD_PROB_S.S * 250000000) ∧
        ∀ n, s.standby = some n → t.bit (rdyFld n) = true)) ∧
    (∀ u, s.upd.probEnd = some u →
      (s.get F.UPD_STAT.HSTATE = 4 → u ≤ (s.elapse dt).clock.up → ∃ t, exec (.probationExpiry dt) s = .next t ∧ t.get F.UPD_STAT.HSTATE = 5 ∧
        t.upd.overwrite = true ∧ t.upd.probEnd = none) ∧
      ((s.elapse dt).clock.up < u → ∃ t, exec (.probationExpiry dt) s = .next t ∧ OnlyWords [] (s.elapse dt) t)) ∧
    (s.get F.UPD_STAT.HSTATE ≠ 4 → ∃ t, exec (.probationExpiry dt) s = .next t ∧ OnlyWords [] (s.elapse dt) t) ∧
    (s.upd.overwrite = true →
      (s.upd.cold = false → s.get F.UPD_STAT.HSTATE = 5 →
        (∃ t, exec (.overwriteDone dt true) s = .next t ∧ t.get F.UPD_STAT.HSTATE = 0 ∧ t.get F.UPD_STAT.PSTATE = 4 ∧ t.upd.pkg = none ∧
          t.upd.overwrite = false ∧ t.get F.UPD_FW_FLOOR.FLOOR = max (s.get F.UPD_FW_FLOOR.FLOOR) (pkgFloor s.pkgHdr) % 64 ∧
          (s.standby ≠ none → t.get F.UPD_SB_GEN.GEN = pkgGen s.pkgHdr)) ∧
        (s.upd.fails = 0 → ∃ t, exec (.overwriteDone dt false) s = .next t ∧ t.upd = { s.upd with fails := 1 } ∧ SameWords [] s t) ∧
        (s.upd.fails ≠ 0 → ∃ t, exec (.overwriteDone dt false) s = .next t ∧ t.bit F.UPD_ERR.NAND = true ∧ OnlyWords [R.UPD_ERR] (s.elapse dt) t)) ∧
      (s.upd.cold = true →
        (∃ t, exec (.overwriteDone dt true) s = .next t ∧ t.get F.UPD_STAT.PSTATE = 4 ∧ t.get F.UPD_RES.CODE = 0 ∧ t.get F.UPD_RES.CMD = 11 ∧
          t.upd.cold = false ∧ t.pwr.swReset = true) ∧
        (s.upd.fails ≠ 0 → ∃ t, exec (.overwriteDone dt false) s = .next t ∧ t.bit F.UPD_ERR.NAND = true ∧ t.get F.UPD_RES.CODE = 34 ∧
          t.bit F.UPD_STAT.BUSY = false))) ∧
    (s.upd.overwrite = false ∨ s.get F.UPD_STAT.HSTATE ≠ 5 ∧ s.upd.cold = false → ∀ ok, ∃ t, exec (.overwriteDone dt ok) s = .next t ∧
      OnlyWords [] (s.elapse dt) t)

/-- Channel samples and interval records, the region, flushes into blocks, the cursor, and clearing. In full service a sample of an enabled channel counts
as valid in its accumulator and bin, or as invalid; an interval over queues an interval record, counts and begins anew. A flush takes every pending
record; while one runs, or during clearing, a further one waits. Its end writes the records in order as a block of the next BSEQ, a block whose
program fails twice is lost and flagged; during clearing the records return to the buffer. The region is asked for again until granted. The cursor
loads its block, marks it gone, or shows its bad CRC. Only KMP with the key clears; then no block is left. The start queues the START event. -/
def Obligations.TheRecorderSamplesFlushesAndArchives : Prop :=
  ∀ (s : State) (dt : Nat),
    (∀ c, s.svc = 4 → s.bit F.REC_STAT.RUN = true → s.bit (T.REC_CH.EN c) = true → s.recd.asked = true → s.recd.granted = true →
      ((s.elapse dt).chanAcc c).fwd = false → (s.elapse dt).intervalOver c = false → ∃ t, exec (.recChannelSample dt c) s = .next t ∧
        SameWords [] s t ∧
        (((s.elapse dt).chanValue c).2 = true → (t.chanAcc c).invalid = ((s.elapse dt).chanAcc c).invalid + 1 ∧
          (t.chanAcc c).count = ((s.elapse dt).chanAcc c).count ∧ (t.chanAcc c).bins = ((s.elapse dt).chanAcc c).bins) ∧
        (((s.elapse dt).chanValue c).2 = false → (t.chanAcc c).invalid = ((s.elapse dt).chanAcc c).invalid ∧
          (t.chanAcc c).count = ((s.elapse dt).chanAcc c).count + 1 ∧
          (t.chanAcc c).sum = f64add ((s.elapse dt).chanAcc c).sum (f64bits (f32val ((s.elapse dt).chanValue c).1)) ∧
          (t.chanAcc c).bins = bump ((s.elapse dt).chanAcc c).bins ((s.elapse dt).binOf c ((s.elapse dt).chanValue c).1))) ∧
    (∀ c, s.svc ≠ 4 ∨ s.bit F.REC_STAT.RUN = false ∨ s.bit (T.REC_CH.EN c) = false → ∃ t, exec (.recChannelSample dt c) s = .next t ∧
      OnlyWords [] (s.elapse dt) t) ∧
    (∀ c a, s.svc = 4 → s.recd.granted = true → s.recd.acc = [(c, a)] → a.fwd = false → (s.elapse dt).intervalOver c = true →
      s.recFill + 192 ≤ 524288 → ∃ t, exec (.recIntervalClose dt) s = .next t ∧
        t.get F.REC_INT_CNT.COUNT = min (s.get F.REC_INT_CNT.COUNT + 1) 0xFFFFFFFF ∧ (t.chanAcc c).count = 0 ∧ (t.chanAcc c).invalid = 0 ∧
        ∃ r ∈ t.recd.pending ++ t.recd.flushing.getD [], r.rseq = (s.recd.rseq + 1) % 2 ^ 32 ∧ r.size = 192) ∧
    (s.svc ≠ 4 ∨ s.recd.granted = false ∨ s.recd.acc = [] → ∃ t, exec (.recIntervalClose dt) s = .next t ∧ OnlyWords [] (s.elapse dt) t) ∧
    (s.bit F.REC_STAT.CLEARING = false → s.recd.flushing = none →
      (s.bit F.REC_STAT.RUN = true → ∃ t, exec (.recFlushTimer dt) s = .next t ∧ t.bit F.REC_STAT.FLUSHING = true ∧ SameWords [R.REC_STAT] s t ∧
        t.recd = { s.recd with flushing := some s.recd.pending, pending := [], lastFlush := (s.elapse dt).clock.up }) ∧
      (∀ rq v, Writes s rq R.REC_CTRL → v.getLsbD 0 = true → ∃ t, exec (.recFlushWrite dt rq v) s = .next t ∧
        t.recd = { s.recd with flushing := some s.recd.pending, pending := [], lastFlush := (s.elapse dt).clock.up } ∧
        t.bit F.REC_STAT.FLUSHING = true ∧ t.bit F.REC_CTRL.FLUSH = true ∧ SameWords [R.REC_STAT, R.REC_CTRL] s t)) ∧
    (s.bit F.REC_STAT.CLEARING = true ∨ s.recd.flushing ≠ none →
      (s.bit F.REC_STAT.RUN = true → ∃ t, exec (.recFlushTimer dt) s = .next t ∧ t.recd = { s.recd with again := true } ∧ SameWords [] s t) ∧
      (∀ rq v, Writes s rq R.REC_CTRL → v.getLsbD 0 = true → ∃ t, exec (.recFlushWrite dt rq v) s = .next t ∧
        t.recd = { s.recd with again := true, waitWrite := true } ∧ t.bit F.REC_CTRL.FLUSH = true ∧ SameWords [R.REC_CTRL] s t)) ∧
    (s.bit F.REC_STAT.RUN = false → ∃ t, exec (.recFlushTimer dt) s = .next t ∧ OnlyWords [] (s.elapse dt) t) ∧
    (∀ rq v, Writes s rq R.REC_CTRL → v.getLsbD 0 = false → ∃ t, exec (.recFlushWrite dt rq v) s = .next t ∧ OnlyWords [] (s.elapse dt) t) ∧
    (∀ rs, s.recd.flushing = some rs →
      (s.bit F.REC_STAT.CLEARING = true → ∀ fails, ∃ t, exec (.recFlushDone dt fails) s = .next t ∧ t.bit F.REC_STAT.FLUSHING = false ∧
        t.recd = { s.recd with pending := rs ++ s.recd.pending, flushing := none, again := true } ∧ SameWords [R.REC_STAT] s t) ∧
      (s.bit F.REC_STAT.CLEARING = false → rs ≠ [] → recBytes rs ≤ 4064 → s.recd.again = false →
        (∃ t, exec (.recFlushDone dt []) s = .next t ∧ t.bit F.REC_STAT.FLUSHING = false ∧ t.recd.flushing = none ∧
          t.recd.pending = s.recd.pending ∧ some ⟨(s.recd.bseq + 1) % 2 ^ 32, rs⟩ ∈ t.recd.segs.flatMap id ∧
          t.get F.REC_BSEQ_LAST.SEQ = (s.recd.bseq + 1) % 2 ^ 32 ∧
          t.get F.REC_BLK_CNT.COUNT = min (s.get F.REC_BLK_CNT.COUNT + 1) 0xFFFFFFFF) ∧
        (∃ t, exec (.recFlushDone dt [2]) s = .next t ∧ t.recd.flushing = none ∧ t.bit F.REC_ERR.NAND = true ∧ t.recd.bseq = s.recd.bseq ∧
          t.get F.REC_NAND_ERR.COUNT = min (s.get F.REC_NAND_ERR.COUNT + 1) 0xFFFFFFFF))) ∧
    (s.recd.flushing = none → ∀ fails, ∃ t, exec (.recFlushDone dt fails) s = .next t ∧ OnlyWords [] (s.elapse dt) t) ∧
    (∀ rq v, Writes s rq R.REC_CUR_SEQ → ∃ t, exec (.recCursorWrite dt rq v) s = .next t ∧ t.getw F.REC_CUR_SEQ.SEQ = v ∧
      t.word R.REC_CUR_STAT = 4#32 ∧ OnlyWords [R.REC_CUR_SEQ, R.REC_CUR_STAT] (s.elapse dt) t) ∧
    (s.bit F.REC_CUR_STAT.BUSY = false → ∀ bad, ∃ t, exec (.recCursorLoadDone dt bad) s = .next t ∧ OnlyWords [] (s.elapse dt) t) ∧
    (s.bit F.REC_CUR_STAT.BUSY = true →
      (∀ b, ((s.recd.segs.flatMap id).filterMap id).find? (fun b => b.bseq == s.get F.REC_CUR_SEQ.SEQ) = some b →
        (∃ t, exec (.recCursorLoadDone dt none) s = .next t ∧ t.recd = { s.recd with cursor := b.bytes } ∧ t.word R.REC_CUR_STAT = 1#32) ∧
        (∀ c, ∃ t, exec (.recCursorLoadDone dt (some c)) s = .next t ∧ t.recd = { s.recd with cursor := c.take 4096 } ∧
          t.word R.REC_CUR_STAT = 8#32)) ∧
      (((s.recd.segs.flatMap id).filterMap id).find? (fun b => b.bseq == s.get F.REC_CUR_SEQ.SEQ) = none → ∀ bad,
        ∃ t, exec (.recCursorLoadDone dt bad) s = .next t ∧ t.recd = { s.recd with cursor := [] } ∧ t.word R.REC_CUR_STAT = 2#32)) ∧
    (∀ rq v, Writes s rq R.REC_CLEAR →
      (4 ≤ rq.num → v = 0x5AFE0C1A#32 → s.bit F.REC_STAT.CLEARING = false → ∃ t, exec (.recClearWrite dt rq v) s = .next t ∧
        t.bit F.REC_STAT.CLEARING = true ∧ OnlyWords [R.REC_STAT] (s.elapse dt) t) ∧
      (rq.num < 4 ∨ v ≠ 0x5AFE0C1A#32 ∨ s.bit F.REC_STAT.CLEARING = true → ∃ t, exec (.recClearWrite dt rq v) s = .next t ∧
        t.bit F.REC_ERR.CLR_REJ = true ∧ OnlyWords [R.REC_ERR] (s.elapse dt) t)) ∧
    (s.bit F.REC_STAT.CLEARING = true → ∃ t, exec (.recClearDone dt) s = .next t ∧ t.recd.segs = [] ∧ t.bit F.REC_STAT.CLEARING = false) ∧
    (s.bit F.REC_STAT.CLEARING = false → ∃ t, exec (.recClearDone dt) s = .next t ∧ OnlyWords [] (s.elapse dt) t) ∧
    (s.bit F.REC_STAT.RUN = true → s.get F.REC_CFG.COAL_MS = 0 → ∃ t, exec (.recArchiveStart dt) s = .next t ∧
      t.get F.REC_BSEQ_LAST.SEQ = s.recd.bseq % 2 ^ 32 ∧ t.get F.REC_RSEQ.SEQ = (s.recd.rseq + 1) % 2 ^ 32 ∧
      t.get F.REC_EVT_CNT.COUNT = min (s.get F.REC_EVT_CNT.COUNT + 1) 0xFFFFFFFF) ∧
    (s.recd.asked = true → s.recd.granted = false → s.svc = 4 →
      (s.get (F.PGR_QUOTAn.QUOTA 1) < s.get (F.PGR_USEDn.USED 1) + s.get F.REC_REG.GRAN → ∃ t, exec (.recRegionRetry dt) s = .next t ∧
        t.recd = s.recd ∧ t.bit F.REC_ERR.ALLOC = true ∧ t.bit F.PGR_ERR.ALLOC_QUOTA = true ∧ t.bit F.REC_STAT.CHAN = false) ∧
      (∀ b i, s.get (F.PGR_USEDn.USED 1) + s.get F.REC_REG.GRAN ≤ s.get (F.PGR_QUOTAn.QUOTA 1) → s.lowestRun (s.get F.REC_REG.GRAN) = some b →
        (List.range 256).find? (fun i => !(s.pgr.regions.any (fun r => r.1 == i))) = some i → ∃ t, exec (.recRegionRetry dt) s = .next t ∧
          t.recd.granted = true ∧ t.bit F.REC_STAT.CHAN = true ∧ t.pgr.regions = s.pgr.regions ++ [(i, 1, b, s.get F.REC_REG.GRAN)])) ∧
    (s.recd.asked = false ∨ s.recd.granted = true ∨ s.svc ≠ 4 → ∃ t, exec (.recRegionRetry dt) s = .next t ∧ OnlyWords [] (s.elapse dt) t)

/-- KMP handshakes, requests with their TAGs, idle sessions, and the management port. A handshake with the owner's key takes the lowest free session
number; a wrong key, or none free, sets KMP_AUTH and opens nothing; while KMP is not available nothing happens. A request of a session repeated by TAG
gets its cached response, an older TAG status 2, a bad form status 1, each with none of its effects; a new one is carried out, counted and its TAG
noted. An idle session is closed with its freezes. The port answers ARP, discovery and echo for an address it holds, and shows its link. -/
def Obligations.ManagementSessionsAreOpenedServedAndClosed : Prop :=
  ∀ (s : State) (dt : Nat),
    (∀ con tls h u,
      (s.kmpUp = false ∨ con = false ∧ s.bit F.SYS_MGT_STAT.LINK = false → ∃ t, exec (.kmpHandshake dt con tls h u) s = .next t ∧
        OnlyWords [] (s.elapse dt) t) ∧
      (s.kmpUp = true → con = true ∨ s.bit F.SYS_MGT_STAT.LINK = true →
        (∀ n, n < 4 → (∀ x ∈ s.kmp, x.num ≠ n) → (∀ m, m < n → ∃ x ∈ s.kmp, x.num = m) → tls = true → s.ownerHash = some h → s.kmp.length < 4 →
          ∃ t, exec (.kmpHandshake dt con tls h u) s = .next t ∧ t.kmp = s.kmp ++ [⟨n, con, none, [], (s.elapse dt).clock.up⟩] ∧
            t.get F.SYS_MGT_STAT.SESS = s.kmp.length + 1) ∧
        ((∀ n, n < 4 → ∃ x ∈ s.kmp, x.num = n) ∨ tls = false ∨ s.ownerHash ≠ some h → ∃ t, exec (.kmpHandshake dt con tls h u) s = .next t ∧
          t.kmp = s.kmp ∧ t.bit F.SYS_ERR.KMP_AUTH = true))) ∧
    (∀ n, (s.kmp.any (fun x => x.num == n && decide (x.last + 75000000000 ≤ (s.elapse dt).clock.up)) = true →
        ∃ t, exec (.kmpIdleTimeout dt n) s = .next t ∧ t.kmp = s.kmp.filter (fun x => x.num != n) ∧ (∀ f ∈ t.freezes, f.rq ≠ 4 + n) ∧
          SameWords [R.SYS_MGT_STAT] s t) ∧
      (s.kmp.any (fun x => x.num == n && decide (x.last + 75000000000 ≤ (s.elapse dt).clock.up)) = false →
        ∃ t, exec (.kmpIdleTimeout dt n) s = .next t ∧ OnlyWords [] (s.elapse dt) t)) ∧
    (∀ n tag nops zeros ops,
      (s.kmp.find? (fun x => x.num == n) = none ∨ s.kmpUp = false → ∃ t, exec (.kmpRequest dt n tag nops zeros ops) s = .next t ∧
        OnlyWords [] (s.elapse dt) t) ∧
      (∀ x, s.kmp.find? (fun x => x.num == n) = some x → s.kmpUp = true →
        (∀ e, x.cache.find? (fun e => e.1 == tag) = some e → ∃ t, exec (.kmpRequest dt n tag nops zeros ops) s = .next t ∧ SameWords [] s t ∧
          t.emitted.head? = some (.kmp n tag e.2.1 e.2.2.1 e.2.2.2)) ∧
        (x.cache.find? (fun e => e.1 == tag) = none →
          (∀ m, x.maxTag = some m → tag ≤ m → ∃ t, exec (.kmpRequest dt n tag nops zeros ops) s = .next t ∧ SameWords [] s t ∧
            t.emitted.head? = some (.kmp n tag 2 0 [])) ∧
          ((∀ m, x.maxTag = some m → m < tag) →
            (kmpFormat nops zeros ops = false → ∃ t, exec (.kmpRequest dt n tag nops zeros ops) s = .next t ∧ SameWords [] s t ∧
              t.emitted.head? = some (.kmp n tag 1 0 [])) ∧
            (∀ o : KmpOp, ops = [o] → nops = 1 → zeros = true → o.op = 1 → o.count = 1 → o.addr = R.SYS_DEVID_LO → o.data = [] →
              Reads s (.kmp n) R.SYS_DEVID_LO → tag < 0xFFFFFFFF → ∃ t, exec (.kmpRequest dt n tag nops zeros ops) s = .next t ∧
                .kmp n tag 0 1 [s.word R.SYS_DEVID_LO] ∈ t.emitted ∧
                t.get F.SYS_KMP_CNT.COUNT = min (s.get F.SYS_KMP_CNT.COUNT + 1) 0xFFFFFFFF ∧
                ∃ y ∈ t.kmp, y.num = n ∧ y.maxTag = some tag ∧ y.cache.head? = some (tag, 0, 1, [s.word R.SYS_DEVID_LO])))))) ∧
    (∀ kind v6 addr,
      (s.powered = true → s.domOn 5 = true → s.bit F.SYS_MGT_STAT.LINK = true → s.holdsAddr v6 addr = true →
        ∃ t, exec (.mgtPortTraffic dt kind v6 addr) s = .next t ∧ t.emitted.head? = some (.netAnswer 2 kind) ∧ OnlyWords [] (s.elapse dt) t) ∧
      (s.powered = false ∨ s.domOn 5 = false ∨ s.bit F.SYS_MGT_STAT.LINK = false ∨ s.holdsAddr v6 addr = false →
        ∃ t, exec (.mgtPortTraffic dt kind v6 addr) s = .next t ∧ (∀ p k, .netAnswer p k ∉ t.emitted) ∧ OnlyWords [] (s.elapse dt) t)) ∧
    (∀ up,
      (s.powered = true → s.domOn 5 = true → ∃ t, exec (.mgtLinkChange dt up) s = .next t ∧ t.bit F.SYS_MGT_STAT.LINK = up ∧
        OnlyWords [R.SYS_MGT_STAT] (s.elapse dt) t) ∧
      (s.powered = false ∨ s.domOn 5 = false → ∃ t, exec (.mgtLinkChange dt up) s = .next t ∧ OnlyWords [] (s.elapse dt) t))

/-- Digital inputs count and release tasks; auxiliary inputs are scaled, judged and checked. While the local inputs run, a changed level shows in LIO_DI,
a rising edge counts in its wrapping counter, and an idle event task of that edge becomes ready; the same level changes nothing. A conversion of a
voltage or current input without filtering shows its value, limited, in AIn_RAW and GAIN times RAW plus OFS in AIn_VAL, and its validity by its range;
an input that is off is invalid. A failed self-check makes every input invalid with CAL_FAIL; a passed one lets the next update judge again. While
they do not run nothing changes. -/
def Obligations.LocalInputsCountReleaseAndScale : Prop :=
  ∀ (s : State) (dt : Nat),
    (s.bit F.LIO_STAT.RUN = false → ∀ c, (∃ k b, c = .diLevelChange dt k b) ∨ (∃ l, c = .aiConversion dt l) ∨ (∃ b, c = .aiSelfCheck dt b) →
      ∃ t, exec c s = .next t ∧ OnlyWords [] (s.elapse dt) t) ∧
    (s.bit F.LIO_STAT.RUN = true →
      (∀ k high, k < 32 →
        (s.di k = high → ∃ t, exec (.diLevelChange dt k high) s = .next t ∧ OnlyWords [] (s.elapse dt) t) ∧
        (s.di k ≠ high → ∃ t, exec (.diLevelChange dt k high) s = .next t ∧ t.di k = high ∧ (∀ j, j < 32 → j ≠ k → t.di j = s.di j) ∧
          t.get (F.LIO_PCNTn.COUNT k) = (s.get (F.LIO_PCNTn.COUNT k) + high.toNat) % 2 ^ 32 ∧
          (∀ n, n < 64 → s.bit F.PGR_STAT.SCHED = true → s.eventTask n (if high then 2 else 3) = true → s.get (T.PGR_TASK.SRC_IDX n) = k →
            s.get (F.T_STAT.STATE n) = 0 → t.get (F.T_STAT.STATE n) = 1 ∧ n ∈ t.pgr.ready) ∧
          ((∀ n, n < 64 → s.eventTask n (if high then 2 else 3) = true → s.get (T.PGR_TASK.SRC_IDX n) ≠ k) →
            OnlyWords [R.LIO_DI, R.LIO_PCNTn k] (s.elapse dt) t))) ∧
      (∀ conv, ∃ t, exec (.aiConversion dt conv) s = .next t ∧ ∀ a, a < 16 →
        (s.get (F.AIn_CFG.MODE a) = 0 → t.aiInvalid a = true ∧ t.getw (F.AIn_RAW.RAW a) = s.getw (F.AIn_RAW.RAW a)) ∧
        (∀ x : Int, (s.get (F.AIn_CFG.MODE a) = 1 ∨ s.get (F.AIn_CFG.MODE a) = 2) → s.bit (F.AIn_CFG.FILT a) = false →
          x = max (aiLimits (s.get (F.AIn_CFG.MODE a))).1 (min (aiLimits (s.get (F.AIn_CFG.MODE a))).2 (conv.getD a 0)) →
          t.getw (F.AIn_RAW.RAW a) = f32bits (FVal.ofQ x (10 ^ 9)) ∧
          t.aiVal a = f32add (f32mul (s.getw (F.AIn_GAIN.GAIN a)) (f32bits (FVal.ofQ x (10 ^ 9)))) (s.getw (F.AIn_OFS.OFS a)) ∧
          t.aiInvalid a = (s.lio.calBad || (if s.get (F.AIn_CFG.MODE a) = 1
            then (f32val (f32bits (FVal.ofQ x (10 ^ 9)))).lt (FVal.ofQ (-5) 10) || (FVal.ofQ 105 10).lt (f32val (f32bits (FVal.ofQ x (10 ^ 9))))
            else (f32val (f32bits (FVal.ofQ x (10 ^ 9)))).lt (FVal.ofQ 36 10) || (FVal.ofQ 210 10).lt (f32val (f32bits (FVal.ofQ x (10 ^ 9)))))))) ∧
      (∃ t, exec (.aiSelfCheck dt true) s = .next t ∧ t.lio.calBad = false ∧ SameWords [] s t) ∧
      (∃ t, exec (.aiSelfCheck dt false) s = .next t ∧ t.lio.calBad = true ∧ t.bit F.LIO_ERR.CAL_FAIL = true ∧ (∀ a, a < 16 → t.aiInvalid a = true)))

end
end

