-- ==== Sys2Proof/Laws/Ops.lean ====
section
/-! SUPPORT. What each named operation over the stores can do: keyed lists, their canonical form, fields of words, byte memories. -/
namespace Sys2Proof.Machine

/-! ### Keyed lists -/

section Lists
variable {α : Type}

@[simp] theorem look_nil (d : Nat → α) (k : Nat) : look d [] k = d k := rfl

theorem look_put_same (d : Nat → α) (k : Nat) (v : α) (m : List (Nat × α)) : look d (put k v m) k = v := by
  induction m with
  | nil => simp [put, look]
  | cons e t ih =>
    obtain ⟨k', v'⟩ := e
    simp only [put]
    split
    · simp [look]
    · split
      · simp [look]
      · simp only [look]
        rw [if_neg (by omega), ih]

theorem look_put_ne (d : Nat → α) {k j : Nat} (h : j ≠ k) (v : α) (m : List (Nat × α)) :
    look d (put k v m) j = look d m j := by
  induction m with
  | nil => simp [put, look, Ne.symm h]
  | cons e t ih =>
    obtain ⟨k', v'⟩ := e
    simp only [put]
    split
    · simp [look, Ne.symm h]
    · split
      · subst k'; simp [look, Ne.symm h]
      · simp only [look, ih]

theorem look_cut_same (d : Nat → α) (k : Nat) (m : List (Nat × α)) : look d (cut k m) k = d k := by
  induction m with
  | nil => rfl
  | cons e t ih =>
    obtain ⟨k', v'⟩ := e
    unfold cut at ih ⊢
    by_cases h : k' = k
    · subst h; simpa using ih
    · rw [List.filter_cons_of_pos (by simpa using h), look, if_neg h, ih]

theorem look_cut_ne (d : Nat → α) {k j : Nat} (h : j ≠ k) (m : List (Nat × α)) : look d (cut k m) j = look d m j := by
  induction m with
  | nil => rfl
  | cons e t ih =>
    obtain ⟨k', v'⟩ := e
    unfold cut at ih ⊢
    by_cases h' : k' = k
    · subst h'; rw [List.filter_cons_of_neg (by simp), ih, look, if_neg (Ne.symm h)]
    · rw [List.filter_cons_of_pos (by simpa using h'), look, look, ih]

theorem put_keys_mem {k j : Nat} {v : α} {m : List (Nat × α)} (h : j ∈ (put k v m).map Prod.fst) :
    j = k ∨ j ∈ m.map Prod.fst := by
  induction m with
  | nil => simpa [put] using h
  | cons e t ih =>
    obtain ⟨k', v'⟩ := e
    simp only [put] at h
    split at h
    · simpa using h
    · split at h
      · next hk => subst hk; simp at h ⊢; tauto
      · simp only [List.map_cons, List.mem_cons] at h ⊢
        rcases h with h | h
        · exact Or.inr (Or.inl h)
        · rcases ih h with h | h
          · exact Or.inl h
          · exact Or.inr (Or.inr h)

theorem put_pairwise (k : Nat) (v : α) (m : List (Nat × α)) (h : (m.map Prod.fst).Pairwise (· < ·)) :
    ((put k v m).map Prod.fst).Pairwise (· < ·) := by
  induction m with
  | nil => simp [put]
  | cons e t ih =>
    obtain ⟨k', v'⟩ := e
    simp only [List.map_cons, List.pairwise_cons] at h
    simp only [put]
    split
    · next hk =>
      simp only [List.map_cons, List.pairwise_cons, List.mem_cons]
      exact ⟨fun j hj => by rcases hj with hj | hj; · omega
                            · have := h.1 j hj; omega, h⟩
    · split
      · next hk => subst hk; simpa using h
      · simp only [List.map_cons, List.pairwise_cons]
        refine ⟨fun j hj => ?_, ih h.2⟩
        rcases put_keys_mem hj with rfl | hj
        · omega
        · exact h.1 j hj

theorem put_vals {k : Nat} {v : α} {m : List (Nat × α)} {e : Nat × α} (h : e ∈ put k v m) : e = (k, v) ∨ e ∈ m := by
  induction m with
  | nil => simpa [put] using h
  | cons e' t ih =>
    obtain ⟨k', v'⟩ := e'
    simp only [put] at h
    split at h
    · simpa using h
    · split at h
      · simp only [List.mem_cons] at h ⊢; tauto
      · simp only [List.mem_cons] at h ⊢
        rcases h with h | h
        · exact Or.inr (Or.inl h)
        · rcases ih h with h | h
          · exact Or.inl h
          · exact Or.inr (Or.inr h)

variable [DecidableEq α]

/-- A key reads what was stored at it, and every other key what it read before. -/
theorem look_store (d : Nat → α) (k j : Nat) (v : α) (m : List (Nat × α)) :
    look d (store d k v m) j = if j = k then v else look d m j := by
  unfold store
  split
  · next h =>
    split
    · next hj => subst hj; rw [look_cut_same, h]
    · next hj => exact look_cut_ne d hj m
  · split
    · next hj => subst hj; exact look_put_same d j v m
    · next hj => exact look_put_ne d hj v m

theorem canon_iff (d : Nat → α) (m : List (Nat × α)) :
    canon d m = true ↔ (m.map Prod.fst).Pairwise (· < ·) ∧ ∀ e ∈ m, e.2 ≠ d e.1 := by
  simp [canon]

theorem canon_nil (d : Nat → α) : canon d [] = true := by simp [canon]

/-- Dropping entries keeps the canonical form. -/
theorem canon_filter (d : Nat → α) (p : Nat × α → Bool) (m : List (Nat × α)) (h : canon d m = true) :
    canon d (m.filter p) = true := by
  rw [canon_iff] at h ⊢
  refine ⟨?_, fun e he => h.2 e (List.mem_of_mem_filter he)⟩
  exact h.1.sublist (List.Sublist.map _ List.filter_sublist)

/-- A store keeps the canonical form. -/
theorem canon_store (d : Nat → α) (k : Nat) (v : α) (m : List (Nat × α)) (h : canon d m = true) :
    canon d (store d k v m) = true := by
  unfold store
  split
  · exact canon_filter d _ m h
  · next hv =>
    rw [canon_iff] at h ⊢
    refine ⟨put_pairwise k v m h.1, fun e he => ?_⟩
    rcases put_vals he with rfl | he
    · exact hv
    · exact h.2 e he

end Lists

/-! ### Byte memories -/

/-- A byte written is read back, and every other byte is as before. -/
theorem memRead_memWrite (m : List Host.Cell) (a b : Nat) (v : Byte) :
    memRead (memWrite m a v) b = if b = a then v else memRead m b := look_store zeroByte a b v m

theorem memWrite_wf (m : List Host.Cell) (a : Nat) (v : Byte) (h : Memory.wf m) : Memory.wf (memWrite m a v) :=
  canon_store zeroByte a v m h

theorem memWriteN_wf (bs : List Byte) (m : List Host.Cell) (a : Nat) (h : Memory.wf m) : Memory.wf (memWriteN m a bs) := by
  induction bs generalizing m a with
  | nil => exact h
  | cons b t ih => exact ih _ _ (memWrite_wf m a b h)

theorem memClear_wf (m : List Host.Cell) (a n : Nat) (h : Memory.wf m) : Memory.wf (memClear m a n) :=
  canon_filter zeroByte _ m h

/-- Bytes outside a run that is written are as before. -/
theorem memRead_memWriteN_of_not_mem (bs : List Byte) (m : List Host.Cell) (a b : Nat) (h : b < a ∨ a + bs.length ≤ b) :
    memRead (memWriteN m a bs) b = memRead m b := by
  induction bs generalizing m a with
  | nil => rfl
  | cons x t ih =>
    simp only [memWriteN, List.length_cons] at h ⊢
    rw [ih _ _ (by omega), memRead_memWrite, if_neg (by omega)]

/-! ### Words and fields -/

/-- A word written is read back, and every other word is as before. -/
theorem State.word_setWord (s : State) (k j : Nat) (v : Word) :
    (s.setWord k v).word j = if j = k then v else s.word j := look_store resetWord k j v s.words

@[simp] theorem State.word_setWord_same (s : State) (k : Nat) (v : Word) : (s.setWord k v).word k = v := by
  simp [State.word_setWord]

theorem State.word_setWord_ne (s : State) {k j : Nat} (v : Word) (h : j ≠ k) : (s.setWord k v).word j = s.word j := by
  simp [State.word_setWord, h]

theorem State.setWord_canon (s : State) (k : Nat) (v : Word) (h : canon resetWord s.words = true) :
    canon resetWord (s.setWord k v).words = true := canon_store resetWord k v s.words h

/-- Bit j of a word with a field replaced. -/
theorem insertField_getLsbD (w : Word) (lsb width v j : Nat) (hj : j < 32) :
    (insertField w lsb width v).getLsbD j =
      if lsb ≤ j ∧ j < lsb + width then v.testBit (j - lsb) else w.getLsbD j := by
  have e1 : ((2 ^ width - 1) * 2 ^ lsb).testBit j = (decide (lsb ≤ j) && decide (j < lsb + width)) := by
    rw [Nat.testBit_mul_two_pow, Nat.testBit_two_pow_sub_one]
    by_cases h : lsb ≤ j
    · simp only [h, decide_true, Bool.true_and]; congr 1; simp only [eq_iff_iff]; omega
    · simp [h]
  have e2 : (v % 2 ^ width * 2 ^ lsb).testBit j = (decide (lsb ≤ j) && (decide (j - lsb < width) && v.testBit (j - lsb))) := by
    rw [Nat.testBit_mul_two_pow, Nat.testBit_mod_two_pow]
  simp only [insertField, BitVec.getLsbD_or, BitVec.getLsbD_and, BitVec.getLsbD_not, BitVec.getLsbD_ofNat, e1, e2, hj, decide_true,
    Bool.true_and]
  by_cases h1 : lsb ≤ j <;> by_cases h2 : j < lsb + width
  · have : j - lsb < width := by omega
    simp [h1, h2, this]
  · have : ¬ j - lsb < width := by omega
    simp [h1, h2, this]
  · simp [h1]
  · simp [h1]

/-- A field of a word with that field replaced. -/
theorem insertField_same (w : Word) (lsb width v : Nat) (h : lsb + width ≤ 32) :
    (insertField w lsb width v).toNat / 2 ^ lsb % 2 ^ width = v % 2 ^ width := by
  apply Nat.eq_of_testBit_eq
  intro i
  simp only [Nat.testBit_mod_two_pow, Nat.testBit_div_two_pow]
  by_cases hi : i < width
  · simp only [hi, decide_true, Bool.true_and]
    rw [BitVec.testBit_toNat, insertField_getLsbD _ _ _ _ _ (by omega), if_pos (by omega)]
    congr 1; omega
  · simp [hi]

/-- A field of a word with another field replaced that does not overlap it. -/
theorem insertField_other (w : Word) (lsb width v l2 w2 : Nat) (h : l2 + w2 ≤ lsb ∨ lsb + width ≤ l2) :
    (insertField w lsb width v).toNat / 2 ^ l2 % 2 ^ w2 = w.toNat / 2 ^ l2 % 2 ^ w2 := by
  apply Nat.eq_of_testBit_eq
  intro i
  simp only [Nat.testBit_mod_two_pow, Nat.testBit_div_two_pow]
  by_cases hi : i < w2
  · simp only [hi, decide_true, Bool.true_and, BitVec.testBit_toNat]
    by_cases h32 : i + l2 < 32
    · rw [insertField_getLsbD _ _ _ _ _ h32, if_neg (by omega)]
    · rw [BitVec.getLsbD_of_ge _ _ (by omega), BitVec.getLsbD_of_ge _ _ (by omega)]
  · simp [hi]

/-- A field that was written reads what was written into it, modulo its width. -/
theorem State.get_set_same (s : State) (f : Fld) (v : Nat) (h : f.lsb + f.width ≤ 32) :
    (s.set f v).get f = v % 2 ^ f.width := by
  simp only [State.get, State.set, State.word_setWord_same]
  exact insertField_same _ _ _ _ h

/-- A field elsewhere, in another word or in other bits of the word, is as before. -/
theorem State.get_set_other (s : State) (f g : Fld) (v : Nat)
    (h : g.key ≠ f.key ∨ g.lsb + g.width ≤ f.lsb ∨ f.lsb + f.width ≤ g.lsb) : (s.set f v).get g = s.get g := by
  simp only [State.get, State.set, State.word_setWord]
  split
  · next hk =>
    rw [insertField_other _ _ _ _ _ _ (h.resolve_left (fun hn => hn hk)), hk]
  · rfl

/-- A word other than the field's is as before. -/
theorem State.word_set_other (s : State) (f : Fld) (v k : Nat) (h : k ≠ f.key) : (s.set f v).word k = s.word k := by
  simp [State.set, State.word_setWord, h]

theorem State.word_flag_other (s : State) (f : Fld) (k : Nat) (h : k ≠ f.key) : (s.flag f).word k = s.word k :=
  s.word_set_other f 1 k h

theorem State.get_flag_other (s : State) (f g : Fld)
    (h : g.key ≠ f.key ∨ g.lsb + g.width ≤ f.lsb ∨ f.lsb + f.width ≤ g.lsb) : (s.flag f).get g = s.get g :=
  s.get_set_other f g 1 h

theorem State.get_flag_same (s : State) (f : Fld) (h : f.lsb + f.width ≤ 32) (hw : 0 < f.width) : (s.flag f).get f = 1 := by
  have := s.get_set_same f 1 h
  rw [Nat.mod_eq_of_lt (by exact Nat.one_lt_two_pow (by omega))] at this
  exact this

theorem State.set_canon (s : State) (f : Fld) (v : Nat) (h : canon resetWord s.words = true) :
    canon resetWord (s.set f v).words = true := s.setWord_canon _ _ h

theorem State.clearWords_canon (s : State) (p : Nat → Bool) (h : canon resetWord s.words = true) :
    canon resetWord (s.clearWords p).words = true := canon_filter resetWord _ _ h

/-- A field's value fits its width. -/
theorem State.get_lt (s : State) (f : Fld) : s.get f < 2 ^ f.width := Nat.mod_lt _ (Nat.two_pow_pos _)

/-! ### Memory at reset -/

theorem reset_dram_wf : Memory.wf State.reset.dram := by decide
theorem reset_cache_wf : Memory.wf State.reset.cache := by decide
theorem reset_words_canon : canon resetWord State.reset.words = true := by decide

end Sys2Proof.Machine
end

