-- ==== Sys2Proof/Laws/State.lean ====
section
/-! SUPPORT. What each named update of the state leaves alone: one lemma per field per update. -/
namespace Sys2Proof.Machine

variable (s : State)

/-! ### State.setWord -/

@[simp] theorem State.setWord_variant (k : Nat) (v : Word) : (s.setWord k v).variant = s.variant := rfl
@[simp] theorem State.setWord_pending (k : Nat) (v : Word) : (s.setWord k v).pending = s.pending := rfl
@[simp] theorem State.setWord_powered (k : Nat) (v : Word) : (s.setWord k v).powered = s.powered := rfl
@[simp] theorem State.setWord_dram (k : Nat) (v : Word) : (s.setWord k v).dram = s.dram := rfl
@[simp] theorem State.setWord_cache (k : Nat) (v : Word) : (s.setWord k v).cache = s.cache := rfl
@[simp] theorem State.setWord_freezes (k : Nat) (v : Word) : (s.setWord k v).freezes = s.freezes := rfl
@[simp] theorem State.setWord_shadows (k : Nat) (v : Word) : (s.setWord k v).shadows = s.shadows := rfl
@[simp] theorem State.setWord_hwSet (k : Nat) (v : Word) : (s.setWord k v).hwSet = s.hwSet := rfl
@[simp] theorem State.setWord_freeCount (k : Nat) (v : Word) : (s.setWord k v).freeCount = s.freeCount := rfl
@[simp] theorem State.setWord_emitted (k : Nat) (v : Word) : (s.setWord k v).emitted = s.emitted := rfl
@[simp] theorem State.setWord_clock (k : Nat) (v : Word) : (s.setWord k v).clock = s.clock := rfl
@[simp] theorem State.setWord_kmp (k : Nat) (v : Word) : (s.setWord k v).kmp = s.kmp := rfl
@[simp] theorem State.setWord_sio (k : Nat) (v : Word) : (s.setWord k v).sio = s.sio := rfl
@[simp] theorem State.setWord_key (k : Nat) (v : Word) : (s.setWord k v).key = s.key := rfl
@[simp] theorem State.setWord_pgr (k : Nat) (v : Word) : (s.setWord k v).pgr = s.pgr := rfl
@[simp] theorem State.setWord_cyc (k : Nat) (v : Word) : (s.setWord k v).cyc = s.cyc := rfl
@[simp] theorem State.setWord_lpe (k : Nat) (v : Word) : (s.setWord k v).lpe = s.lpe := rfl
@[simp] theorem State.setWord_csb (k : Nat) (v : Word) : (s.setWord k v).csb = s.csb := rfl
@[simp] theorem State.setWord_rtc (k : Nat) (v : Word) : (s.setWord k v).rtc = s.rtc := rfl
@[simp] theorem State.setWord_dop (k : Nat) (v : Word) : (s.setWord k v).dop = s.dop := rfl
@[simp] theorem State.setWord_fab (k : Nat) (v : Word) : (s.setWord k v).fab = s.fab := rfl
@[simp] theorem State.setWord_pwr (k : Nat) (v : Word) : (s.setWord k v).pwr = s.pwr := rfl
@[simp] theorem State.setWord_tim (k : Nat) (v : Word) : (s.setWord k v).tim = s.tim := rfl
@[simp] theorem State.setWord_trj (k : Nat) (v : Word) : (s.setWord k v).trj = s.trj := rfl
@[simp] theorem State.setWord_mpg (k : Nat) (v : Word) : (s.setWord k v).mpg = s.mpg := rfl
@[simp] theorem State.setWord_nsv (k : Nat) (v : Word) : (s.setWord k v).nsv = s.nsv := rfl
@[simp] theorem State.setWord_cfg (k : Nat) (v : Word) : (s.setWord k v).cfg = s.cfg := rfl
@[simp] theorem State.setWord_upd (k : Nat) (v : Word) : (s.setWord k v).upd = s.upd := rfl
@[simp] theorem State.setWord_saf (k : Nat) (v : Word) : (s.setWord k v).saf = s.saf := rfl
@[simp] theorem State.setWord_recd (k : Nat) (v : Word) : (s.setWord k v).recd = s.recd := rfl
@[simp] theorem State.setWord_mtr (k : Nat) (v : Word) : (s.setWord k v).mtr = s.mtr := rfl
@[simp] theorem State.setWord_hqc (k : Nat) (v : Word) : (s.setWord k v).hqc = s.hqc := rfl
@[simp] theorem State.setWord_lio (k : Nat) (v : Word) : (s.setWord k v).lio = s.lio := rfl
@[simp] theorem State.setWord_mgt (k : Nat) (v : Word) : (s.setWord k v).mgt = s.mgt := rfl

/-! ### State.set -/

@[simp] theorem State.set_variant (f : Fld) (v : Nat) : (s.set f v).variant = s.variant := rfl
@[simp] theorem State.set_pending (f : Fld) (v : Nat) : (s.set f v).pending = s.pending := rfl
@[simp] theorem State.set_powered (f : Fld) (v : Nat) : (s.set f v).powered = s.powered := rfl
@[simp] theorem State.set_dram (f : Fld) (v : Nat) : (s.set f v).dram = s.dram := rfl
@[simp] theorem State.set_cache (f : Fld) (v : Nat) : (s.set f v).cache = s.cache := rfl
@[simp] theorem State.set_freezes (f : Fld) (v : Nat) : (s.set f v).freezes = s.freezes := rfl
@[simp] theorem State.set_shadows (f : Fld) (v : Nat) : (s.set f v).shadows = s.shadows := rfl
@[simp] theorem State.set_hwSet (f : Fld) (v : Nat) : (s.set f v).hwSet = s.hwSet := rfl
@[simp] theorem State.set_freeCount (f : Fld) (v : Nat) : (s.set f v).freeCount = s.freeCount := rfl
@[simp] theorem State.set_emitted (f : Fld) (v : Nat) : (s.set f v).emitted = s.emitted := rfl
@[simp] theorem State.set_clock (f : Fld) (v : Nat) : (s.set f v).clock = s.clock := rfl
@[simp] theorem State.set_kmp (f : Fld) (v : Nat) : (s.set f v).kmp = s.kmp := rfl
@[simp] theorem State.set_sio (f : Fld) (v : Nat) : (s.set f v).sio = s.sio := rfl
@[simp] theorem State.set_key (f : Fld) (v : Nat) : (s.set f v).key = s.key := rfl
@[simp] theorem State.set_pgr (f : Fld) (v : Nat) : (s.set f v).pgr = s.pgr := rfl
@[simp] theorem State.set_cyc (f : Fld) (v : Nat) : (s.set f v).cyc = s.cyc := rfl
@[simp] theorem State.set_lpe (f : Fld) (v : Nat) : (s.set f v).lpe = s.lpe := rfl
@[simp] theorem State.set_csb (f : Fld) (v : Nat) : (s.set f v).csb = s.csb := rfl
@[simp] theorem State.set_rtc (f : Fld) (v : Nat) : (s.set f v).rtc = s.rtc := rfl
@[simp] theorem State.set_dop (f : Fld) (v : Nat) : (s.set f v).dop = s.dop := rfl
@[simp] theorem State.set_fab (f : Fld) (v : Nat) : (s.set f v).fab = s.fab := rfl
@[simp] theorem State.set_pwr (f : Fld) (v : Nat) : (s.set f v).pwr = s.pwr := rfl
@[simp] theorem State.set_tim (f : Fld) (v : Nat) : (s.set f v).tim = s.tim := rfl
@[simp] theorem State.set_trj (f : Fld) (v : Nat) : (s.set f v).trj = s.trj := rfl
@[simp] theorem State.set_mpg (f : Fld) (v : Nat) : (s.set f v).mpg = s.mpg := rfl
@[simp] theorem State.set_nsv (f : Fld) (v : Nat) : (s.set f v).nsv = s.nsv := rfl
@[simp] theorem State.set_cfg (f : Fld) (v : Nat) : (s.set f v).cfg = s.cfg := rfl
@[simp] theorem State.set_upd (f : Fld) (v : Nat) : (s.set f v).upd = s.upd := rfl
@[simp] theorem State.set_saf (f : Fld) (v : Nat) : (s.set f v).saf = s.saf := rfl
@[simp] theorem State.set_recd (f : Fld) (v : Nat) : (s.set f v).recd = s.recd := rfl
@[simp] theorem State.set_mtr (f : Fld) (v : Nat) : (s.set f v).mtr = s.mtr := rfl
@[simp] theorem State.set_hqc (f : Fld) (v : Nat) : (s.set f v).hqc = s.hqc := rfl
@[simp] theorem State.set_lio (f : Fld) (v : Nat) : (s.set f v).lio = s.lio := rfl
@[simp] theorem State.set_mgt (f : Fld) (v : Nat) : (s.set f v).mgt = s.mgt := rfl

/-! ### State.setBit -/

@[simp] theorem State.setBit_variant (f : Fld) (b : Bool) : (s.setBit f b).variant = s.variant := rfl
@[simp] theorem State.setBit_pending (f : Fld) (b : Bool) : (s.setBit f b).pending = s.pending := rfl
@[simp] theorem State.setBit_powered (f : Fld) (b : Bool) : (s.setBit f b).powered = s.powered := rfl
@[simp] theorem State.setBit_dram (f : Fld) (b : Bool) : (s.setBit f b).dram = s.dram := rfl
@[simp] theorem State.setBit_cache (f : Fld) (b : Bool) : (s.setBit f b).cache = s.cache := rfl
@[simp] theorem State.setBit_freezes (f : Fld) (b : Bool) : (s.setBit f b).freezes = s.freezes := rfl
@[simp] theorem State.setBit_shadows (f : Fld) (b : Bool) : (s.setBit f b).shadows = s.shadows := rfl
@[simp] theorem State.setBit_hwSet (f : Fld) (b : Bool) : (s.setBit f b).hwSet = s.hwSet := rfl
@[simp] theorem State.setBit_freeCount (f : Fld) (b : Bool) : (s.setBit f b).freeCount = s.freeCount := rfl
@[simp] theorem State.setBit_emitted (f : Fld) (b : Bool) : (s.setBit f b).emitted = s.emitted := rfl
@[simp] theorem State.setBit_clock (f : Fld) (b : Bool) : (s.setBit f b).clock = s.clock := rfl
@[simp] theorem State.setBit_kmp (f : Fld) (b : Bool) : (s.setBit f b).kmp = s.kmp := rfl
@[simp] theorem State.setBit_sio (f : Fld) (b : Bool) : (s.setBit f b).sio = s.sio := rfl
@[simp] theorem State.setBit_key (f : Fld) (b : Bool) : (s.setBit f b).key = s.key := rfl
@[simp] theorem State.setBit_pgr (f : Fld) (b : Bool) : (s.setBit f b).pgr = s.pgr := rfl
@[simp] theorem State.setBit_cyc (f : Fld) (b : Bool) : (s.setBit f b).cyc = s.cyc := rfl
@[simp] theorem State.setBit_lpe (f : Fld) (b : Bool) : (s.setBit f b).lpe = s.lpe := rfl
@[simp] theorem State.setBit_csb (f : Fld) (b : Bool) : (s.setBit f b).csb = s.csb := rfl
@[simp] theorem State.setBit_rtc (f : Fld) (b : Bool) : (s.setBit f b).rtc = s.rtc := rfl
@[simp] theorem State.setBit_dop (f : Fld) (b : Bool) : (s.setBit f b).dop = s.dop := rfl
@[simp] theorem State.setBit_fab (f : Fld) (b : Bool) : (s.setBit f b).fab = s.fab := rfl
@[simp] theorem State.setBit_pwr (f : Fld) (b : Bool) : (s.setBit f b).pwr = s.pwr := rfl
@[simp] theorem State.setBit_tim (f : Fld) (b : Bool) : (s.setBit f b).tim = s.tim := rfl
@[simp] theorem State.setBit_trj (f : Fld) (b : Bool) : (s.setBit f b).trj = s.trj := rfl
@[simp] theorem State.setBit_mpg (f : Fld) (b : Bool) : (s.setBit f b).mpg = s.mpg := rfl
@[simp] theorem State.setBit_nsv (f : Fld) (b : Bool) : (s.setBit f b).nsv = s.nsv := rfl
@[simp] theorem State.setBit_cfg (f : Fld) (b : Bool) : (s.setBit f b).cfg = s.cfg := rfl
@[simp] theorem State.setBit_upd (f : Fld) (b : Bool) : (s.setBit f b).upd = s.upd := rfl
@[simp] theorem State.setBit_saf (f : Fld) (b : Bool) : (s.setBit f b).saf = s.saf := rfl
@[simp] theorem State.setBit_recd (f : Fld) (b : Bool) : (s.setBit f b).recd = s.recd := rfl
@[simp] theorem State.setBit_mtr (f : Fld) (b : Bool) : (s.setBit f b).mtr = s.mtr := rfl
@[simp] theorem State.setBit_hqc (f : Fld) (b : Bool) : (s.setBit f b).hqc = s.hqc := rfl
@[simp] theorem State.setBit_lio (f : Fld) (b : Bool) : (s.setBit f b).lio = s.lio := rfl
@[simp] theorem State.setBit_mgt (f : Fld) (b : Bool) : (s.setBit f b).mgt = s.mgt := rfl

/-! ### State.seti -/

@[simp] theorem State.seti_variant (f : Fld) (v : Int) : (s.seti f v).variant = s.variant := rfl
@[simp] theorem State.seti_pending (f : Fld) (v : Int) : (s.seti f v).pending = s.pending := rfl
@[simp] theorem State.seti_powered (f : Fld) (v : Int) : (s.seti f v).powered = s.powered := rfl
@[simp] theorem State.seti_dram (f : Fld) (v : Int) : (s.seti f v).dram = s.dram := rfl
@[simp] theorem State.seti_cache (f : Fld) (v : Int) : (s.seti f v).cache = s.cache := rfl
@[simp] theorem State.seti_freezes (f : Fld) (v : Int) : (s.seti f v).freezes = s.freezes := rfl
@[simp] theorem State.seti_shadows (f : Fld) (v : Int) : (s.seti f v).shadows = s.shadows := rfl
@[simp] theorem State.seti_hwSet (f : Fld) (v : Int) : (s.seti f v).hwSet = s.hwSet := rfl
@[simp] theorem State.seti_freeCount (f : Fld) (v : Int) : (s.seti f v).freeCount = s.freeCount := rfl
@[simp] theorem State.seti_emitted (f : Fld) (v : Int) : (s.seti f v).emitted = s.emitted := rfl
@[simp] theorem State.seti_clock (f : Fld) (v : Int) : (s.seti f v).clock = s.clock := rfl
@[simp] theorem State.seti_kmp (f : Fld) (v : Int) : (s.seti f v).kmp = s.kmp := rfl
@[simp] theorem State.seti_sio (f : Fld) (v : Int) : (s.seti f v).sio = s.sio := rfl
@[simp] theorem State.seti_key (f : Fld) (v : Int) : (s.seti f v).key = s.key := rfl
@[simp] theorem State.seti_pgr (f : Fld) (v : Int) : (s.seti f v).pgr = s.pgr := rfl
@[simp] theorem State.seti_cyc (f : Fld) (v : Int) : (s.seti f v).cyc = s.cyc := rfl
@[simp] theorem State.seti_lpe (f : Fld) (v : Int) : (s.seti f v).lpe = s.lpe := rfl
@[simp] theorem State.seti_csb (f : Fld) (v : Int) : (s.seti f v).csb = s.csb := rfl
@[simp] theorem State.seti_rtc (f : Fld) (v : Int) : (s.seti f v).rtc = s.rtc := rfl
@[simp] theorem State.seti_dop (f : Fld) (v : Int) : (s.seti f v).dop = s.dop := rfl
@[simp] theorem State.seti_fab (f : Fld) (v : Int) : (s.seti f v).fab = s.fab := rfl
@[simp] theorem State.seti_pwr (f : Fld) (v : Int) : (s.seti f v).pwr = s.pwr := rfl
@[simp] theorem State.seti_tim (f : Fld) (v : Int) : (s.seti f v).tim = s.tim := rfl
@[simp] theorem State.seti_trj (f : Fld) (v : Int) : (s.seti f v).trj = s.trj := rfl
@[simp] theorem State.seti_mpg (f : Fld) (v : Int) : (s.seti f v).mpg = s.mpg := rfl
@[simp] theorem State.seti_nsv (f : Fld) (v : Int) : (s.seti f v).nsv = s.nsv := rfl
@[simp] theorem State.seti_cfg (f : Fld) (v : Int) : (s.seti f v).cfg = s.cfg := rfl
@[simp] theorem State.seti_upd (f : Fld) (v : Int) : (s.seti f v).upd = s.upd := rfl
@[simp] theorem State.seti_saf (f : Fld) (v : Int) : (s.seti f v).saf = s.saf := rfl
@[simp] theorem State.seti_recd (f : Fld) (v : Int) : (s.seti f v).recd = s.recd := rfl
@[simp] theorem State.seti_mtr (f : Fld) (v : Int) : (s.seti f v).mtr = s.mtr := rfl
@[simp] theorem State.seti_hqc (f : Fld) (v : Int) : (s.seti f v).hqc = s.hqc := rfl
@[simp] theorem State.seti_lio (f : Fld) (v : Int) : (s.seti f v).lio = s.lio := rfl
@[simp] theorem State.seti_mgt (f : Fld) (v : Int) : (s.seti f v).mgt = s.mgt := rfl

/-! ### State.setw -/

@[simp] theorem State.setw_variant (f : Fld) (v : Word) : (s.setw f v).variant = s.variant := rfl
@[simp] theorem State.setw_pending (f : Fld) (v : Word) : (s.setw f v).pending = s.pending := rfl
@[simp] theorem State.setw_powered (f : Fld) (v : Word) : (s.setw f v).powered = s.powered := rfl
@[simp] theorem State.setw_dram (f : Fld) (v : Word) : (s.setw f v).dram = s.dram := rfl
@[simp] theorem State.setw_cache (f : Fld) (v : Word) : (s.setw f v).cache = s.cache := rfl
@[simp] theorem State.setw_freezes (f : Fld) (v : Word) : (s.setw f v).freezes = s.freezes := rfl
@[simp] theorem State.setw_shadows (f : Fld) (v : Word) : (s.setw f v).shadows = s.shadows := rfl
@[simp] theorem State.setw_hwSet (f : Fld) (v : Word) : (s.setw f v).hwSet = s.hwSet := rfl
@[simp] theorem State.setw_freeCount (f : Fld) (v : Word) : (s.setw f v).freeCount = s.freeCount := rfl
@[simp] theorem State.setw_emitted (f : Fld) (v : Word) : (s.setw f v).emitted = s.emitted := rfl
@[simp] theorem State.setw_clock (f : Fld) (v : Word) : (s.setw f v).clock = s.clock := rfl
@[simp] theorem State.setw_kmp (f : Fld) (v : Word) : (s.setw f v).kmp = s.kmp := rfl
@[simp] theorem State.setw_sio (f : Fld) (v : Word) : (s.setw f v).sio = s.sio := rfl
@[simp] theorem State.setw_key (f : Fld) (v : Word) : (s.setw f v).key = s.key := rfl
@[simp] theorem State.setw_pgr (f : Fld) (v : Word) : (s.setw f v).pgr = s.pgr := rfl
@[simp] theorem State.setw_cyc (f : Fld) (v : Word) : (s.setw f v).cyc = s.cyc := rfl
@[simp] theorem State.setw_lpe (f : Fld) (v : Word) : (s.setw f v).lpe = s.lpe := rfl
@[simp] theorem State.setw_csb (f : Fld) (v : Word) : (s.setw f v).csb = s.csb := rfl
@[simp] theorem State.setw_rtc (f : Fld) (v : Word) : (s.setw f v).rtc = s.rtc := rfl
@[simp] theorem State.setw_dop (f : Fld) (v : Word) : (s.setw f v).dop = s.dop := rfl
@[simp] theorem State.setw_fab (f : Fld) (v : Word) : (s.setw f v).fab = s.fab := rfl
@[simp] theorem State.setw_pwr (f : Fld) (v : Word) : (s.setw f v).pwr = s.pwr := rfl
@[simp] theorem State.setw_tim (f : Fld) (v : Word) : (s.setw f v).tim = s.tim := rfl
@[simp] theorem State.setw_trj (f : Fld) (v : Word) : (s.setw f v).trj = s.trj := rfl
@[simp] theorem State.setw_mpg (f : Fld) (v : Word) : (s.setw f v).mpg = s.mpg := rfl
@[simp] theorem State.setw_nsv (f : Fld) (v : Word) : (s.setw f v).nsv = s.nsv := rfl
@[simp] theorem State.setw_cfg (f : Fld) (v : Word) : (s.setw f v).cfg = s.cfg := rfl
@[simp] theorem State.setw_upd (f : Fld) (v : Word) : (s.setw f v).upd = s.upd := rfl
@[simp] theorem State.setw_saf (f : Fld) (v : Word) : (s.setw f v).saf = s.saf := rfl
@[simp] theorem State.setw_recd (f : Fld) (v : Word) : (s.setw f v).recd = s.recd := rfl
@[simp] theorem State.setw_mtr (f : Fld) (v : Word) : (s.setw f v).mtr = s.mtr := rfl
@[simp] theorem State.setw_hqc (f : Fld) (v : Word) : (s.setw f v).hqc = s.hqc := rfl
@[simp] theorem State.setw_lio (f : Fld) (v : Word) : (s.setw f v).lio = s.lio := rfl
@[simp] theorem State.setw_mgt (f : Fld) (v : Word) : (s.setw f v).mgt = s.mgt := rfl

/-! ### State.inc -/

@[simp] theorem State.inc_variant (f : Fld) : (s.inc f).variant = s.variant := rfl
@[simp] theorem State.inc_pending (f : Fld) : (s.inc f).pending = s.pending := rfl
@[simp] theorem State.inc_powered (f : Fld) : (s.inc f).powered = s.powered := rfl
@[simp] theorem State.inc_dram (f : Fld) : (s.inc f).dram = s.dram := rfl
@[simp] theorem State.inc_cache (f : Fld) : (s.inc f).cache = s.cache := rfl
@[simp] theorem State.inc_freezes (f : Fld) : (s.inc f).freezes = s.freezes := rfl
@[simp] theorem State.inc_shadows (f : Fld) : (s.inc f).shadows = s.shadows := rfl
@[simp] theorem State.inc_hwSet (f : Fld) : (s.inc f).hwSet = s.hwSet := rfl
@[simp] theorem State.inc_freeCount (f : Fld) : (s.inc f).freeCount = s.freeCount := rfl
@[simp] theorem State.inc_emitted (f : Fld) : (s.inc f).emitted = s.emitted := rfl
@[simp] theorem State.inc_clock (f : Fld) : (s.inc f).clock = s.clock := rfl
@[simp] theorem State.inc_kmp (f : Fld) : (s.inc f).kmp = s.kmp := rfl
@[simp] theorem State.inc_sio (f : Fld) : (s.inc f).sio = s.sio := rfl
@[simp] theorem State.inc_key (f : Fld) : (s.inc f).key = s.key := rfl
@[simp] theorem State.inc_pgr (f : Fld) : (s.inc f).pgr = s.pgr := rfl
@[simp] theorem State.inc_cyc (f : Fld) : (s.inc f).cyc = s.cyc := rfl
@[simp] theorem State.inc_lpe (f : Fld) : (s.inc f).lpe = s.lpe := rfl
@[simp] theorem State.inc_csb (f : Fld) : (s.inc f).csb = s.csb := rfl
@[simp] theorem State.inc_rtc (f : Fld) : (s.inc f).rtc = s.rtc := rfl
@[simp] theorem State.inc_dop (f : Fld) : (s.inc f).dop = s.dop := rfl
@[simp] theorem State.inc_fab (f : Fld) : (s.inc f).fab = s.fab := rfl
@[simp] theorem State.inc_pwr (f : Fld) : (s.inc f).pwr = s.pwr := rfl
@[simp] theorem State.inc_tim (f : Fld) : (s.inc f).tim = s.tim := rfl
@[simp] theorem State.inc_trj (f : Fld) : (s.inc f).trj = s.trj := rfl
@[simp] theorem State.inc_mpg (f : Fld) : (s.inc f).mpg = s.mpg := rfl
@[simp] theorem State.inc_nsv (f : Fld) : (s.inc f).nsv = s.nsv := rfl
@[simp] theorem State.inc_cfg (f : Fld) : (s.inc f).cfg = s.cfg := rfl
@[simp] theorem State.inc_upd (f : Fld) : (s.inc f).upd = s.upd := rfl
@[simp] theorem State.inc_saf (f : Fld) : (s.inc f).saf = s.saf := rfl
@[simp] theorem State.inc_recd (f : Fld) : (s.inc f).recd = s.recd := rfl
@[simp] theorem State.inc_mtr (f : Fld) : (s.inc f).mtr = s.mtr := rfl
@[simp] theorem State.inc_hqc (f : Fld) : (s.inc f).hqc = s.hqc := rfl
@[simp] theorem State.inc_lio (f : Fld) : (s.inc f).lio = s.lio := rfl
@[simp] theorem State.inc_mgt (f : Fld) : (s.inc f).mgt = s.mgt := rfl

/-! ### State.addSat -/

@[simp] theorem State.addSat_variant (f : Fld) (n : Nat) : (s.addSat f n).variant = s.variant := rfl
@[simp] theorem State.addSat_pending (f : Fld) (n : Nat) : (s.addSat f n).pending = s.pending := rfl
@[simp] theorem State.addSat_powered (f : Fld) (n : Nat) : (s.addSat f n).powered = s.powered := rfl
@[simp] theorem State.addSat_dram (f : Fld) (n : Nat) : (s.addSat f n).dram = s.dram := rfl
@[simp] theorem State.addSat_cache (f : Fld) (n : Nat) : (s.addSat f n).cache = s.cache := rfl
@[simp] theorem State.addSat_freezes (f : Fld) (n : Nat) : (s.addSat f n).freezes = s.freezes := rfl
@[simp] theorem State.addSat_shadows (f : Fld) (n : Nat) : (s.addSat f n).shadows = s.shadows := rfl
@[simp] theorem State.addSat_hwSet (f : Fld) (n : Nat) : (s.addSat f n).hwSet = s.hwSet := rfl
@[simp] theorem State.addSat_freeCount (f : Fld) (n : Nat) : (s.addSat f n).freeCount = s.freeCount := rfl
@[simp] theorem State.addSat_emitted (f : Fld) (n : Nat) : (s.addSat f n).emitted = s.emitted := rfl
@[simp] theorem State.addSat_clock (f : Fld) (n : Nat) : (s.addSat f n).clock = s.clock := rfl
@[simp] theorem State.addSat_kmp (f : Fld) (n : Nat) : (s.addSat f n).kmp = s.kmp := rfl
@[simp] theorem State.addSat_sio (f : Fld) (n : Nat) : (s.addSat f n).sio = s.sio := rfl
@[simp] theorem State.addSat_key (f : Fld) (n : Nat) : (s.addSat f n).key = s.key := rfl
@[simp] theorem State.addSat_pgr (f : Fld) (n : Nat) : (s.addSat f n).pgr = s.pgr := rfl
@[simp] theorem State.addSat_cyc (f : Fld) (n : Nat) : (s.addSat f n).cyc = s.cyc := rfl
@[simp] theorem State.addSat_lpe (f : Fld) (n : Nat) : (s.addSat f n).lpe = s.lpe := rfl
@[simp] theorem State.addSat_csb (f : Fld) (n : Nat) : (s.addSat f n).csb = s.csb := rfl
@[simp] theorem State.addSat_rtc (f : Fld) (n : Nat) : (s.addSat f n).rtc = s.rtc := rfl
@[simp] theorem State.addSat_dop (f : Fld) (n : Nat) : (s.addSat f n).dop = s.dop := rfl
@[simp] theorem State.addSat_fab (f : Fld) (n : Nat) : (s.addSat f n).fab = s.fab := rfl
@[simp] theorem State.addSat_pwr (f : Fld) (n : Nat) : (s.addSat f n).pwr = s.pwr := rfl
@[simp] theorem State.addSat_tim (f : Fld) (n : Nat) : (s.addSat f n).tim = s.tim := rfl
@[simp] theorem State.addSat_trj (f : Fld) (n : Nat) : (s.addSat f n).trj = s.trj := rfl
@[simp] theorem State.addSat_mpg (f : Fld) (n : Nat) : (s.addSat f n).mpg = s.mpg := rfl
@[simp] theorem State.addSat_nsv (f : Fld) (n : Nat) : (s.addSat f n).nsv = s.nsv := rfl
@[simp] theorem State.addSat_cfg (f : Fld) (n : Nat) : (s.addSat f n).cfg = s.cfg := rfl
@[simp] theorem State.addSat_upd (f : Fld) (n : Nat) : (s.addSat f n).upd = s.upd := rfl
@[simp] theorem State.addSat_saf (f : Fld) (n : Nat) : (s.addSat f n).saf = s.saf := rfl
@[simp] theorem State.addSat_recd (f : Fld) (n : Nat) : (s.addSat f n).recd = s.recd := rfl
@[simp] theorem State.addSat_mtr (f : Fld) (n : Nat) : (s.addSat f n).mtr = s.mtr := rfl
@[simp] theorem State.addSat_hqc (f : Fld) (n : Nat) : (s.addSat f n).hqc = s.hqc := rfl
@[simp] theorem State.addSat_lio (f : Fld) (n : Nat) : (s.addSat f n).lio = s.lio := rfl
@[simp] theorem State.addSat_mgt (f : Fld) (n : Nat) : (s.addSat f n).mgt = s.mgt := rfl

/-! ### State.addWrap -/

@[simp] theorem State.addWrap_variant (f : Fld) (n : Nat) : (s.addWrap f n).variant = s.variant := rfl
@[simp] theorem State.addWrap_pending (f : Fld) (n : Nat) : (s.addWrap f n).pending = s.pending := rfl
@[simp] theorem State.addWrap_powered (f : Fld) (n : Nat) : (s.addWrap f n).powered = s.powered := rfl
@[simp] theorem State.addWrap_dram (f : Fld) (n : Nat) : (s.addWrap f n).dram = s.dram := rfl
@[simp] theorem State.addWrap_cache (f : Fld) (n : Nat) : (s.addWrap f n).cache = s.cache := rfl
@[simp] theorem State.addWrap_freezes (f : Fld) (n : Nat) : (s.addWrap f n).freezes = s.freezes := rfl
@[simp] theorem State.addWrap_shadows (f : Fld) (n : Nat) : (s.addWrap f n).shadows = s.shadows := rfl
@[simp] theorem State.addWrap_hwSet (f : Fld) (n : Nat) : (s.addWrap f n).hwSet = s.hwSet := rfl
@[simp] theorem State.addWrap_freeCount (f : Fld) (n : Nat) : (s.addWrap f n).freeCount = s.freeCount := rfl
@[simp] theorem State.addWrap_emitted (f : Fld) (n : Nat) : (s.addWrap f n).emitted = s.emitted := rfl
@[simp] theorem State.addWrap_clock (f : Fld) (n : Nat) : (s.addWrap f n).clock = s.clock := rfl
@[simp] theorem State.addWrap_kmp (f : Fld) (n : Nat) : (s.addWrap f n).kmp = s.kmp := rfl
@[simp] theorem State.addWrap_sio (f : Fld) (n : Nat) : (s.addWrap f n).sio = s.sio := rfl
@[simp] theorem State.addWrap_key (f : Fld) (n : Nat) : (s.addWrap f n).key = s.key := rfl
@[simp] theorem State.addWrap_pgr (f : Fld) (n : Nat) : (s.addWrap f n).pgr = s.pgr := rfl
@[simp] theorem State.addWrap_cyc (f : Fld) (n : Nat) : (s.addWrap f n).cyc = s.cyc := rfl
@[simp] theorem State.addWrap_lpe (f : Fld) (n : Nat) : (s.addWrap f n).lpe = s.lpe := rfl
@[simp] theorem State.addWrap_csb (f : Fld) (n : Nat) : (s.addWrap f n).csb = s.csb := rfl
@[simp] theorem State.addWrap_rtc (f : Fld) (n : Nat) : (s.addWrap f n).rtc = s.rtc := rfl
@[simp] theorem State.addWrap_dop (f : Fld) (n : Nat) : (s.addWrap f n).dop = s.dop := rfl
@[simp] theorem State.addWrap_fab (f : Fld) (n : Nat) : (s.addWrap f n).fab = s.fab := rfl
@[simp] theorem State.addWrap_pwr (f : Fld) (n : Nat) : (s.addWrap f n).pwr = s.pwr := rfl
@[simp] theorem State.addWrap_tim (f : Fld) (n : Nat) : (s.addWrap f n).tim = s.tim := rfl
@[simp] theorem State.addWrap_trj (f : Fld) (n : Nat) : (s.addWrap f n).trj = s.trj := rfl
@[simp] theorem State.addWrap_mpg (f : Fld) (n : Nat) : (s.addWrap f n).mpg = s.mpg := rfl
@[simp] theorem State.addWrap_nsv (f : Fld) (n : Nat) : (s.addWrap f n).nsv = s.nsv := rfl
@[simp] theorem State.addWrap_cfg (f : Fld) (n : Nat) : (s.addWrap f n).cfg = s.cfg := rfl
@[simp] theorem State.addWrap_upd (f : Fld) (n : Nat) : (s.addWrap f n).upd = s.upd := rfl
@[simp] theorem State.addWrap_saf (f : Fld) (n : Nat) : (s.addWrap f n).saf = s.saf := rfl
@[simp] theorem State.addWrap_recd (f : Fld) (n : Nat) : (s.addWrap f n).recd = s.recd := rfl
@[simp] theorem State.addWrap_mtr (f : Fld) (n : Nat) : (s.addWrap f n).mtr = s.mtr := rfl
@[simp] theorem State.addWrap_hqc (f : Fld) (n : Nat) : (s.addWrap f n).hqc = s.hqc := rfl
@[simp] theorem State.addWrap_lio (f : Fld) (n : Nat) : (s.addWrap f n).lio = s.lio := rfl
@[simp] theorem State.addWrap_mgt (f : Fld) (n : Nat) : (s.addWrap f n).mgt = s.mgt := rfl

/-! ### State.flag -/

@[simp] theorem State.flag_variant (f : Fld) : (s.flag f).variant = s.variant := rfl
@[simp] theorem State.flag_pending (f : Fld) : (s.flag f).pending = s.pending := rfl
@[simp] theorem State.flag_powered (f : Fld) : (s.flag f).powered = s.powered := rfl
@[simp] theorem State.flag_dram (f : Fld) : (s.flag f).dram = s.dram := rfl
@[simp] theorem State.flag_cache (f : Fld) : (s.flag f).cache = s.cache := rfl
@[simp] theorem State.flag_freezes (f : Fld) : (s.flag f).freezes = s.freezes := rfl
@[simp] theorem State.flag_shadows (f : Fld) : (s.flag f).shadows = s.shadows := rfl
@[simp] theorem State.flag_freeCount (f : Fld) : (s.flag f).freeCount = s.freeCount := rfl
@[simp] theorem State.flag_emitted (f : Fld) : (s.flag f).emitted = s.emitted := rfl
@[simp] theorem State.flag_clock (f : Fld) : (s.flag f).clock = s.clock := rfl
@[simp] theorem State.flag_kmp (f : Fld) : (s.flag f).kmp = s.kmp := rfl
@[simp] theorem State.flag_sio (f : Fld) : (s.flag f).sio = s.sio := rfl
@[simp] theorem State.flag_key (f : Fld) : (s.flag f).key = s.key := rfl
@[simp] theorem State.flag_pgr (f : Fld) : (s.flag f).pgr = s.pgr := rfl
@[simp] theorem State.flag_cyc (f : Fld) : (s.flag f).cyc = s.cyc := rfl
@[simp] theorem State.flag_lpe (f : Fld) : (s.flag f).lpe = s.lpe := rfl
@[simp] theorem State.flag_csb (f : Fld) : (s.flag f).csb = s.csb := rfl
@[simp] theorem State.flag_rtc (f : Fld) : (s.flag f).rtc = s.rtc := rfl
@[simp] theorem State.flag_dop (f : Fld) : (s.flag f).dop = s.dop := rfl
@[simp] theorem State.flag_fab (f : Fld) : (s.flag f).fab = s.fab := rfl
@[simp] theorem State.flag_pwr (f : Fld) : (s.flag f).pwr = s.pwr := rfl
@[simp] theorem State.flag_tim (f : Fld) : (s.flag f).tim = s.tim := rfl
@[simp] theorem State.flag_trj (f : Fld) : (s.flag f).trj = s.trj := rfl
@[simp] theorem State.flag_mpg (f : Fld) : (s.flag f).mpg = s.mpg := rfl
@[simp] theorem State.flag_nsv (f : Fld) : (s.flag f).nsv = s.nsv := rfl
@[simp] theorem State.flag_cfg (f : Fld) : (s.flag f).cfg = s.cfg := rfl
@[simp] theorem State.flag_upd (f : Fld) : (s.flag f).upd = s.upd := rfl
@[simp] theorem State.flag_saf (f : Fld) : (s.flag f).saf = s.saf := rfl
@[simp] theorem State.flag_recd (f : Fld) : (s.flag f).recd = s.recd := rfl
@[simp] theorem State.flag_mtr (f : Fld) : (s.flag f).mtr = s.mtr := rfl
@[simp] theorem State.flag_hqc (f : Fld) : (s.flag f).hqc = s.hqc := rfl
@[simp] theorem State.flag_lio (f : Fld) : (s.flag f).lio = s.lio := rfl
@[simp] theorem State.flag_mgt (f : Fld) : (s.flag f).mgt = s.mgt := rfl

/-! ### State.clearWords -/

@[simp] theorem State.clearWords_variant (p : Nat → Bool) : (s.clearWords p).variant = s.variant := rfl
@[simp] theorem State.clearWords_pending (p : Nat → Bool) : (s.clearWords p).pending = s.pending := rfl
@[simp] theorem State.clearWords_powered (p : Nat → Bool) : (s.clearWords p).powered = s.powered := rfl
@[simp] theorem State.clearWords_dram (p : Nat → Bool) : (s.clearWords p).dram = s.dram := rfl
@[simp] theorem State.clearWords_cache (p : Nat → Bool) : (s.clearWords p).cache = s.cache := rfl
@[simp] theorem State.clearWords_freezes (p : Nat → Bool) : (s.clearWords p).freezes = s.freezes := rfl
@[simp] theorem State.clearWords_shadows (p : Nat → Bool) : (s.clearWords p).shadows = s.shadows := rfl
@[simp] theorem State.clearWords_hwSet (p : Nat → Bool) : (s.clearWords p).hwSet = s.hwSet := rfl
@[simp] theorem State.clearWords_freeCount (p : Nat → Bool) : (s.clearWords p).freeCount = s.freeCount := rfl
@[simp] theorem State.clearWords_emitted (p : Nat → Bool) : (s.clearWords p).emitted = s.emitted := rfl
@[simp] theorem State.clearWords_clock (p : Nat → Bool) : (s.clearWords p).clock = s.clock := rfl
@[simp] theorem State.clearWords_kmp (p : Nat → Bool) : (s.clearWords p).kmp = s.kmp := rfl
@[simp] theorem State.clearWords_sio (p : Nat → Bool) : (s.clearWords p).sio = s.sio := rfl
@[simp] theorem State.clearWords_key (p : Nat → Bool) : (s.clearWords p).key = s.key := rfl
@[simp] theorem State.clearWords_pgr (p : Nat → Bool) : (s.clearWords p).pgr = s.pgr := rfl
@[simp] theorem State.clearWords_cyc (p : Nat → Bool) : (s.clearWords p).cyc = s.cyc := rfl
@[simp] theorem State.clearWords_lpe (p : Nat → Bool) : (s.clearWords p).lpe = s.lpe := rfl
@[simp] theorem State.clearWords_csb (p : Nat → Bool) : (s.clearWords p).csb = s.csb := rfl
@[simp] theorem State.clearWords_rtc (p : Nat → Bool) : (s.clearWords p).rtc = s.rtc := rfl
@[simp] theorem State.clearWords_dop (p : Nat → Bool) : (s.clearWords p).dop = s.dop := rfl
@[simp] theorem State.clearWords_fab (p : Nat → Bool) : (s.clearWords p).fab = s.fab := rfl
@[simp] theorem State.clearWords_pwr (p : Nat → Bool) : (s.clearWords p).pwr = s.pwr := rfl
@[simp] theorem State.clearWords_tim (p : Nat → Bool) : (s.clearWords p).tim = s.tim := rfl
@[simp] theorem State.clearWords_trj (p : Nat → Bool) : (s.clearWords p).trj = s.trj := rfl
@[simp] theorem State.clearWords_mpg (p : Nat → Bool) : (s.clearWords p).mpg = s.mpg := rfl
@[simp] theorem State.clearWords_nsv (p : Nat → Bool) : (s.clearWords p).nsv = s.nsv := rfl
@[simp] theorem State.clearWords_cfg (p : Nat → Bool) : (s.clearWords p).cfg = s.cfg := rfl
@[simp] theorem State.clearWords_upd (p : Nat → Bool) : (s.clearWords p).upd = s.upd := rfl
@[simp] theorem State.clearWords_saf (p : Nat → Bool) : (s.clearWords p).saf = s.saf := rfl
@[simp] theorem State.clearWords_recd (p : Nat → Bool) : (s.clearWords p).recd = s.recd := rfl
@[simp] theorem State.clearWords_mtr (p : Nat → Bool) : (s.clearWords p).mtr = s.mtr := rfl
@[simp] theorem State.clearWords_hqc (p : Nat → Bool) : (s.clearWords p).hqc = s.hqc := rfl
@[simp] theorem State.clearWords_lio (p : Nat → Bool) : (s.clearWords p).lio = s.lio := rfl
@[simp] theorem State.clearWords_mgt (p : Nat → Bool) : (s.clearWords p).mgt = s.mgt := rfl

/-! ### State.emit -/

@[simp] theorem State.emit_variant (e : Emit) : (s.emit e).variant = s.variant := rfl
@[simp] theorem State.emit_pending (e : Emit) : (s.emit e).pending = s.pending := rfl
@[simp] theorem State.emit_powered (e : Emit) : (s.emit e).powered = s.powered := rfl
@[simp] theorem State.emit_words (e : Emit) : (s.emit e).words = s.words := rfl
@[simp] theorem State.emit_dram (e : Emit) : (s.emit e).dram = s.dram := rfl
@[simp] theorem State.emit_cache (e : Emit) : (s.emit e).cache = s.cache := rfl
@[simp] theorem State.emit_freezes (e : Emit) : (s.emit e).freezes = s.freezes := rfl
@[simp] theorem State.emit_shadows (e : Emit) : (s.emit e).shadows = s.shadows := rfl
@[simp] theorem State.emit_hwSet (e : Emit) : (s.emit e).hwSet = s.hwSet := rfl
@[simp] theorem State.emit_freeCount (e : Emit) : (s.emit e).freeCount = s.freeCount := rfl
@[simp] theorem State.emit_clock (e : Emit) : (s.emit e).clock = s.clock := rfl
@[simp] theorem State.emit_kmp (e : Emit) : (s.emit e).kmp = s.kmp := rfl
@[simp] theorem State.emit_sio (e : Emit) : (s.emit e).sio = s.sio := rfl
@[simp] theorem State.emit_key (e : Emit) : (s.emit e).key = s.key := rfl
@[simp] theorem State.emit_pgr (e : Emit) : (s.emit e).pgr = s.pgr := rfl
@[simp] theorem State.emit_cyc (e : Emit) : (s.emit e).cyc = s.cyc := rfl
@[simp] theorem State.emit_lpe (e : Emit) : (s.emit e).lpe = s.lpe := rfl
@[simp] theorem State.emit_csb (e : Emit) : (s.emit e).csb = s.csb := rfl
@[simp] theorem State.emit_rtc (e : Emit) : (s.emit e).rtc = s.rtc := rfl
@[simp] theorem State.emit_dop (e : Emit) : (s.emit e).dop = s.dop := rfl
@[simp] theorem State.emit_fab (e : Emit) : (s.emit e).fab = s.fab := rfl
@[simp] theorem State.emit_pwr (e : Emit) : (s.emit e).pwr = s.pwr := rfl
@[simp] theorem State.emit_tim (e : Emit) : (s.emit e).tim = s.tim := rfl
@[simp] theorem State.emit_trj (e : Emit) : (s.emit e).trj = s.trj := rfl
@[simp] theorem State.emit_mpg (e : Emit) : (s.emit e).mpg = s.mpg := rfl
@[simp] theorem State.emit_nsv (e : Emit) : (s.emit e).nsv = s.nsv := rfl
@[simp] theorem State.emit_cfg (e : Emit) : (s.emit e).cfg = s.cfg := rfl
@[simp] theorem State.emit_upd (e : Emit) : (s.emit e).upd = s.upd := rfl
@[simp] theorem State.emit_saf (e : Emit) : (s.emit e).saf = s.saf := rfl
@[simp] theorem State.emit_recd (e : Emit) : (s.emit e).recd = s.recd := rfl
@[simp] theorem State.emit_mtr (e : Emit) : (s.emit e).mtr = s.mtr := rfl
@[simp] theorem State.emit_hqc (e : Emit) : (s.emit e).hqc = s.hqc := rfl
@[simp] theorem State.emit_lio (e : Emit) : (s.emit e).lio = s.lio := rfl
@[simp] theorem State.emit_mgt (e : Emit) : (s.emit e).mgt = s.mgt := rfl

/-! ### State.nextFree -/

@[simp] theorem State.nextFree_variant : (s.nextFree).variant = s.variant := rfl
@[simp] theorem State.nextFree_pending : (s.nextFree).pending = s.pending := rfl
@[simp] theorem State.nextFree_powered : (s.nextFree).powered = s.powered := rfl
@[simp] theorem State.nextFree_words : (s.nextFree).words = s.words := rfl
@[simp] theorem State.nextFree_dram : (s.nextFree).dram = s.dram := rfl
@[simp] theorem State.nextFree_cache : (s.nextFree).cache = s.cache := rfl
@[simp] theorem State.nextFree_freezes : (s.nextFree).freezes = s.freezes := rfl
@[simp] theorem State.nextFree_shadows : (s.nextFree).shadows = s.shadows := rfl
@[simp] theorem State.nextFree_hwSet : (s.nextFree).hwSet = s.hwSet := rfl
@[simp] theorem State.nextFree_emitted : (s.nextFree).emitted = s.emitted := rfl
@[simp] theorem State.nextFree_clock : (s.nextFree).clock = s.clock := rfl
@[simp] theorem State.nextFree_kmp : (s.nextFree).kmp = s.kmp := rfl
@[simp] theorem State.nextFree_sio : (s.nextFree).sio = s.sio := rfl
@[simp] theorem State.nextFree_key : (s.nextFree).key = s.key := rfl
@[simp] theorem State.nextFree_pgr : (s.nextFree).pgr = s.pgr := rfl
@[simp] theorem State.nextFree_cyc : (s.nextFree).cyc = s.cyc := rfl
@[simp] theorem State.nextFree_lpe : (s.nextFree).lpe = s.lpe := rfl
@[simp] theorem State.nextFree_csb : (s.nextFree).csb = s.csb := rfl
@[simp] theorem State.nextFree_rtc : (s.nextFree).rtc = s.rtc := rfl
@[simp] theorem State.nextFree_dop : (s.nextFree).dop = s.dop := rfl
@[simp] theorem State.nextFree_fab : (s.nextFree).fab = s.fab := rfl
@[simp] theorem State.nextFree_pwr : (s.nextFree).pwr = s.pwr := rfl
@[simp] theorem State.nextFree_tim : (s.nextFree).tim = s.tim := rfl
@[simp] theorem State.nextFree_trj : (s.nextFree).trj = s.trj := rfl
@[simp] theorem State.nextFree_mpg : (s.nextFree).mpg = s.mpg := rfl
@[simp] theorem State.nextFree_nsv : (s.nextFree).nsv = s.nsv := rfl
@[simp] theorem State.nextFree_cfg : (s.nextFree).cfg = s.cfg := rfl
@[simp] theorem State.nextFree_upd : (s.nextFree).upd = s.upd := rfl
@[simp] theorem State.nextFree_saf : (s.nextFree).saf = s.saf := rfl
@[simp] theorem State.nextFree_recd : (s.nextFree).recd = s.recd := rfl
@[simp] theorem State.nextFree_mtr : (s.nextFree).mtr = s.mtr := rfl
@[simp] theorem State.nextFree_hqc : (s.nextFree).hqc = s.hqc := rfl
@[simp] theorem State.nextFree_lio : (s.nextFree).lio = s.lio := rfl
@[simp] theorem State.nextFree_mgt : (s.nextFree).mgt = s.mgt := rfl

/-! ### State.elapse -/

@[simp] theorem State.elapse_variant (dt : Nat) : (s.elapse dt).variant = s.variant := rfl
@[simp] theorem State.elapse_pending (dt : Nat) : (s.elapse dt).pending = s.pending := rfl
@[simp] theorem State.elapse_powered (dt : Nat) : (s.elapse dt).powered = s.powered := rfl
@[simp] theorem State.elapse_words (dt : Nat) : (s.elapse dt).words = s.words := rfl
@[simp] theorem State.elapse_dram (dt : Nat) : (s.elapse dt).dram = s.dram := rfl
@[simp] theorem State.elapse_cache (dt : Nat) : (s.elapse dt).cache = s.cache := rfl
@[simp] theorem State.elapse_freezes (dt : Nat) : (s.elapse dt).freezes = s.freezes := rfl
@[simp] theorem State.elapse_shadows (dt : Nat) : (s.elapse dt).shadows = s.shadows := rfl
@[simp] theorem State.elapse_freeCount (dt : Nat) : (s.elapse dt).freeCount = s.freeCount := rfl
@[simp] theorem State.elapse_kmp (dt : Nat) : (s.elapse dt).kmp = s.kmp := rfl
@[simp] theorem State.elapse_sio (dt : Nat) : (s.elapse dt).sio = s.sio := rfl
@[simp] theorem State.elapse_key (dt : Nat) : (s.elapse dt).key = s.key := rfl
@[simp] theorem State.elapse_pgr (dt : Nat) : (s.elapse dt).pgr = s.pgr := rfl
@[simp] theorem State.elapse_cyc (dt : Nat) : (s.elapse dt).cyc = s.cyc := rfl
@[simp] theorem State.elapse_lpe (dt : Nat) : (s.elapse dt).lpe = s.lpe := rfl
@[simp] theorem State.elapse_csb (dt : Nat) : (s.elapse dt).csb = s.csb := rfl
@[simp] theorem State.elapse_dop (dt : Nat) : (s.elapse dt).dop = s.dop := rfl
@[simp] theorem State.elapse_fab (dt : Nat) : (s.elapse dt).fab = s.fab := rfl
@[simp] theorem State.elapse_pwr (dt : Nat) : (s.elapse dt).pwr = s.pwr := rfl
@[simp] theorem State.elapse_tim (dt : Nat) : (s.elapse dt).tim = s.tim := rfl
@[simp] theorem State.elapse_trj (dt : Nat) : (s.elapse dt).trj = s.trj := rfl
@[simp] theorem State.elapse_mpg (dt : Nat) : (s.elapse dt).mpg = s.mpg := rfl
@[simp] theorem State.elapse_nsv (dt : Nat) : (s.elapse dt).nsv = s.nsv := rfl
@[simp] theorem State.elapse_cfg (dt : Nat) : (s.elapse dt).cfg = s.cfg := rfl
@[simp] theorem State.elapse_upd (dt : Nat) : (s.elapse dt).upd = s.upd := rfl
@[simp] theorem State.elapse_saf (dt : Nat) : (s.elapse dt).saf = s.saf := rfl
@[simp] theorem State.elapse_recd (dt : Nat) : (s.elapse dt).recd = s.recd := rfl
@[simp] theorem State.elapse_mtr (dt : Nat) : (s.elapse dt).mtr = s.mtr := rfl
@[simp] theorem State.elapse_hqc (dt : Nat) : (s.elapse dt).hqc = s.hqc := rfl
@[simp] theorem State.elapse_lio (dt : Nat) : (s.elapse dt).lio = s.lio := rfl
@[simp] theorem State.elapse_mgt (dt : Nat) : (s.elapse dt).mgt = s.mgt := rfl

/-! ### State.withCommand -/

@[simp] theorem State.withCommand_variant (c : Instr) : (s.withCommand c).variant = s.variant := rfl
@[simp] theorem State.withCommand_powered (c : Instr) : (s.withCommand c).powered = s.powered := rfl
@[simp] theorem State.withCommand_words (c : Instr) : (s.withCommand c).words = s.words := rfl
@[simp] theorem State.withCommand_dram (c : Instr) : (s.withCommand c).dram = s.dram := rfl
@[simp] theorem State.withCommand_cache (c : Instr) : (s.withCommand c).cache = s.cache := rfl
@[simp] theorem State.withCommand_freezes (c : Instr) : (s.withCommand c).freezes = s.freezes := rfl
@[simp] theorem State.withCommand_shadows (c : Instr) : (s.withCommand c).shadows = s.shadows := rfl
@[simp] theorem State.withCommand_hwSet (c : Instr) : (s.withCommand c).hwSet = s.hwSet := rfl
@[simp] theorem State.withCommand_freeCount (c : Instr) : (s.withCommand c).freeCount = s.freeCount := rfl
@[simp] theorem State.withCommand_emitted (c : Instr) : (s.withCommand c).emitted = s.emitted := rfl
@[simp] theorem State.withCommand_clock (c : Instr) : (s.withCommand c).clock = s.clock := rfl
@[simp] theorem State.withCommand_kmp (c : Instr) : (s.withCommand c).kmp = s.kmp := rfl
@[simp] theorem State.withCommand_sio (c : Instr) : (s.withCommand c).sio = s.sio := rfl
@[simp] theorem State.withCommand_key (c : Instr) : (s.withCommand c).key = s.key := rfl
@[simp] theorem State.withCommand_pgr (c : Instr) : (s.withCommand c).pgr = s.pgr := rfl
@[simp] theorem State.withCommand_cyc (c : Instr) : (s.withCommand c).cyc = s.cyc := rfl
@[simp] theorem State.withCommand_lpe (c : Instr) : (s.withCommand c).lpe = s.lpe := rfl
@[simp] theorem State.withCommand_csb (c : Instr) : (s.withCommand c).csb = s.csb := rfl
@[simp] theorem State.withCommand_rtc (c : Instr) : (s.withCommand c).rtc = s.rtc := rfl
@[simp] theorem State.withCommand_dop (c : Instr) : (s.withCommand c).dop = s.dop := rfl
@[simp] theorem State.withCommand_fab (c : Instr) : (s.withCommand c).fab = s.fab := rfl
@[simp] theorem State.withCommand_pwr (c : Instr) : (s.withCommand c).pwr = s.pwr := rfl
@[simp] theorem State.withCommand_tim (c : Instr) : (s.withCommand c).tim = s.tim := rfl
@[simp] theorem State.withCommand_trj (c : Instr) : (s.withCommand c).trj = s.trj := rfl
@[simp] theorem State.withCommand_mpg (c : Instr) : (s.withCommand c).mpg = s.mpg := rfl
@[simp] theorem State.withCommand_nsv (c : Instr) : (s.withCommand c).nsv = s.nsv := rfl
@[simp] theorem State.withCommand_cfg (c : Instr) : (s.withCommand c).cfg = s.cfg := rfl
@[simp] theorem State.withCommand_upd (c : Instr) : (s.withCommand c).upd = s.upd := rfl
@[simp] theorem State.withCommand_saf (c : Instr) : (s.withCommand c).saf = s.saf := rfl
@[simp] theorem State.withCommand_recd (c : Instr) : (s.withCommand c).recd = s.recd := rfl
@[simp] theorem State.withCommand_mtr (c : Instr) : (s.withCommand c).mtr = s.mtr := rfl
@[simp] theorem State.withCommand_hqc (c : Instr) : (s.withCommand c).hqc = s.hqc := rfl
@[simp] theorem State.withCommand_lio (c : Instr) : (s.withCommand c).lio = s.lio := rfl
@[simp] theorem State.withCommand_mgt (c : Instr) : (s.withCommand c).mgt = s.mgt := rfl

/-! ### What the updates make of the field they change -/

@[simp] theorem State.emit_emitted (e : Emit) : (s.emit e).emitted = s.emitted ++ [e] := rfl
@[simp] theorem State.nextFree_freeCount : s.nextFree.freeCount = s.freeCount + 1 := rfl
@[simp] theorem State.elapse_emitted (dt : Nat) : (s.elapse dt).emitted = [] := rfl
@[simp] theorem State.elapse_hwSet (dt : Nat) : (s.elapse dt).hwSet = if dt = 0 then s.hwSet else [] := rfl
@[simp] theorem State.withCommand_pending (c : Instr) : (s.withCommand c).pending = c :: s.pending := rfl
@[simp] theorem State.flag_hwSet (f : Fld) : (s.flag f).hwSet = (f.key, f.lsb) :: s.hwSet := rfl
@[simp] theorem State.elapse_word (dt k : Nat) : (s.elapse dt).word k = s.word k := rfl
@[simp] theorem State.elapse_get (dt : Nat) (f : Fld) : (s.elapse dt).get f = s.get f := rfl
@[simp] theorem State.elapse_geti (dt : Nat) (f : Fld) : (s.elapse dt).geti f = s.geti f := rfl
@[simp] theorem State.elapse_getw (dt : Nat) (f : Fld) : (s.elapse dt).getw f = s.getw f := rfl
@[simp] theorem State.elapse_bit (dt : Nat) (f : Fld) : (s.elapse dt).bit f = s.bit f := rfl
@[simp] theorem State.emit_word (e : Emit) (k : Nat) : (s.emit e).word k = s.word k := rfl
@[simp] theorem State.emit_get (e : Emit) (f : Fld) : (s.emit e).get f = s.get f := rfl
@[simp] theorem State.emit_bit (e : Emit) (f : Fld) : (s.emit e).bit f = s.bit f := rfl
@[simp] theorem State.nextFree_word (k : Nat) : s.nextFree.word k = s.word k := rfl
@[simp] theorem State.nextFree_get (f : Fld) : s.nextFree.get f = s.get f := rfl
@[simp] theorem State.nextFree_bit (f : Fld) : s.nextFree.bit f = s.bit f := rfl
@[simp] theorem State.withCommand_word (c : Instr) (k : Nat) : (s.withCommand c).word k = s.word k := rfl

end Sys2Proof.Machine
end

