-- ==== Sys2Proof/Laws/Settle.lean ====
section
/-! SUPPORT. What the end of every command can do (R430): the bits of SAF_ALARM, the bit ALARM of SAF_STAT, and the line. -/
namespace Sys2Proof.Machine

variable (s : State)

/-! ### Boolean fields -/

theorem State.word_setBit_other (f : Fld) (b : Bool) (k : Nat) (h : k ≠ f.key) : (s.setBit f b).word k = s.word k :=
  s.word_set_other f b.toNat k h

/-- A Boolean field reads what was written into it. -/
theorem State.bit_setBit_same (f : Fld) (b : Bool) (h : f.lsb + f.width ≤ 32) (hw : 0 < f.width) : (s.setBit f b).bit f = b := by
  unfold State.bit State.setBit
  rw [State.get_set_same s f b.toNat h, Nat.mod_eq_of_lt]
  · cases b <;> rfl
  · have := Nat.one_lt_two_pow (n := f.width) (by omega)
    cases b <;> (simp; try omega)

theorem State.bit_setBit_other (f g : Fld) (b : Bool)
    (h : g.key ≠ f.key ∨ g.lsb + g.width ≤ f.lsb ∨ f.lsb + f.width ≤ g.lsb) : (s.setBit f b).bit g = s.bit g := by
  unfold State.bit State.setBit
  rw [State.get_set_other s f g b.toNat h]

theorem State.get_setBit_other (f g : Fld) (b : Bool)
    (h : g.key ≠ f.key ∨ g.lsb + g.width ≤ f.lsb ∨ f.lsb + f.width ≤ g.lsb) : (s.setBit f b).get g = s.get g :=
  State.get_set_other s f g b.toNat h

/-! ### The alarm -/

/-- Nothing but words, what the hardware set, and the outward record differs. -/
def Shallow (s t : State) : Prop := t = { s with words := t.words, hwSet := t.hwSet, emitted := t.emitted }

theorem Shallow.refl (s : State) : Shallow s s := rfl
theorem Shallow.trans {s t u : State} (h1 : Shallow s t) (h2 : Shallow t u) : Shallow s u := by
  unfold Shallow at *; rw [h2, h1]
theorem Shallow.setWord (s : State) (k : Nat) (v : Word) : Shallow s (s.setWord k v) := rfl
theorem Shallow.set (s : State) (f : Fld) (v : Nat) : Shallow s (s.set f v) := rfl
theorem Shallow.setBit (s : State) (f : Fld) (b : Bool) : Shallow s (s.setBit f b) := rfl
theorem Shallow.flag (s : State) (f : Fld) : Shallow s (s.flag f) := rfl
theorem Shallow.emit (s : State) (e : Emit) : Shallow s (s.emit e) := rfl

theorem Shallow.showAlarm (s : State) (f st c t n g out : Bool) : Shallow s (s.showAlarm f st c t n g out) :=
  .trans (.trans (.trans (.trans (.trans (.trans (.setBit _ _ _) (.setBit _ _ _)) (.setBit _ _ _)) (.setBit _ _ _)) (.setBit _ _ _))
    (.setBit _ _ _)) (.setBit _ _ _)

theorem Shallow.driveAlarm (s : State) (was out : Bool) : Shallow s (s.driveAlarm was out) := by
  unfold State.driveAlarm; split
  · exact .refl s
  · exact .emit s _

/-- The end of a command changes nothing but words and the outward record. -/
theorem Shallow.settle (s : State) : Shallow s s.settle := by
  unfold State.settle; split
  · exact .trans (.showAlarm s ..) (.driveAlarm _ ..)
  · exact .refl s

theorem State.driveAlarm_word (was out : Bool) (k : Nat) : (s.driveAlarm was out).word k = s.word k := by
  unfold State.driveAlarm; split <;> rfl

theorem State.driveAlarm_bit (was out : Bool) (f : Fld) : (s.driveAlarm was out).bit f = s.bit f := by
  unfold State.driveAlarm; split <;> rfl

theorem State.showAlarm_word (f st c t n g out : Bool) (k : Nat) (h : k ∉ alarmKeys) :
    (s.showAlarm f st c t n g out).word k = s.word k := by
  have h1 : k ≠ R.SAF_ALARM := fun e => h (by simp [alarmKeys, e])
  have h2 : k ≠ R.SAF_STAT := fun e => h (by simp [alarmKeys, e])
  unfold State.showAlarm
  rw [State.word_setBit_other _ _ _ _ h2, State.word_setBit_other _ _ _ _ h1, State.word_setBit_other _ _ _ _ h1,
    State.word_setBit_other _ _ _ _ h1, State.word_setBit_other _ _ _ _ h1, State.word_setBit_other _ _ _ _ h1,
    State.word_setBit_other _ _ _ _ h1]

/-- The end of a command changes no word but SAF_ALARM and SAF_STAT. -/
theorem State.settle_word (k : Nat) (h : k ∉ alarmKeys) : s.settle.word k = s.word k := by
  unfold State.settle
  split
  · exact (State.driveAlarm_word _ _ _ _).trans (State.showAlarm_word _ _ _ _ _ _ _ _ _ h)
  · rfl

theorem State.settle_get (f : Fld) (h : f.key ∉ alarmKeys) : s.settle.get f = s.get f := by
  unfold State.get; rw [s.settle_word f.key h]

theorem State.settle_bit (f : Fld) (h : f.key ∉ alarmKeys) : s.settle.bit f = s.bit f := by
  unfold State.bit; rw [s.settle_get f h]

theorem State.settle_getw (f : Fld) (h : f.key ∉ alarmKeys) : s.settle.getw f = s.getw f := by
  unfold State.getw; rw [s.settle_get f h]

/-! ### What the end of a command leaves alone besides -/

@[simp] theorem State.settle_variant : s.settle.variant = s.variant := by rw [Shallow.settle s]
@[simp] theorem State.settle_pending : s.settle.pending = s.pending := by rw [Shallow.settle s]
@[simp] theorem State.settle_powered : s.settle.powered = s.powered := by rw [Shallow.settle s]
@[simp] theorem State.settle_dram : s.settle.dram = s.dram := by rw [Shallow.settle s]
@[simp] theorem State.settle_cache : s.settle.cache = s.cache := by rw [Shallow.settle s]
@[simp] theorem State.settle_freezes : s.settle.freezes = s.freezes := by rw [Shallow.settle s]
@[simp] theorem State.settle_shadows : s.settle.shadows = s.shadows := by rw [Shallow.settle s]
@[simp] theorem State.settle_freeCount : s.settle.freeCount = s.freeCount := by rw [Shallow.settle s]
@[simp] theorem State.settle_clock : s.settle.clock = s.clock := by rw [Shallow.settle s]
@[simp] theorem State.settle_kmp : s.settle.kmp = s.kmp := by rw [Shallow.settle s]
@[simp] theorem State.settle_sio : s.settle.sio = s.sio := by rw [Shallow.settle s]
@[simp] theorem State.settle_key : s.settle.key = s.key := by rw [Shallow.settle s]
@[simp] theorem State.settle_pgr : s.settle.pgr = s.pgr := by rw [Shallow.settle s]
@[simp] theorem State.settle_cyc : s.settle.cyc = s.cyc := by rw [Shallow.settle s]
@[simp] theorem State.settle_lpe : s.settle.lpe = s.lpe := by rw [Shallow.settle s]
@[simp] theorem State.settle_csb : s.settle.csb = s.csb := by rw [Shallow.settle s]
@[simp] theorem State.settle_rtc : s.settle.rtc = s.rtc := by rw [Shallow.settle s]
@[simp] theorem State.settle_dop : s.settle.dop = s.dop := by rw [Shallow.settle s]
@[simp] theorem State.settle_fab : s.settle.fab = s.fab := by rw [Shallow.settle s]
@[simp] theorem State.settle_pwr : s.settle.pwr = s.pwr := by rw [Shallow.settle s]
@[simp] theorem State.settle_tim : s.settle.tim = s.tim := by rw [Shallow.settle s]
@[simp] theorem State.settle_trj : s.settle.trj = s.trj := by rw [Shallow.settle s]
@[simp] theorem State.settle_mpg : s.settle.mpg = s.mpg := by rw [Shallow.settle s]
@[simp] theorem State.settle_nsv : s.settle.nsv = s.nsv := by rw [Shallow.settle s]
@[simp] theorem State.settle_cfg : s.settle.cfg = s.cfg := by rw [Shallow.settle s]
@[simp] theorem State.settle_upd : s.settle.upd = s.upd := by rw [Shallow.settle s]
@[simp] theorem State.settle_saf : s.settle.saf = s.saf := by rw [Shallow.settle s]
@[simp] theorem State.settle_recd : s.settle.recd = s.recd := by rw [Shallow.settle s]
@[simp] theorem State.settle_mtr : s.settle.mtr = s.mtr := by rw [Shallow.settle s]
@[simp] theorem State.settle_hqc : s.settle.hqc = s.hqc := by rw [Shallow.settle s]
@[simp] theorem State.settle_lio : s.settle.lio = s.lio := by rw [Shallow.settle s]
@[simp] theorem State.settle_mgt : s.settle.mgt = s.mgt := by rw [Shallow.settle s]

theorem State.driveAlarm_hwSet (was out : Bool) : (s.driveAlarm was out).hwSet = s.hwSet := by
  unfold State.driveAlarm; split <;> rfl

theorem State.showAlarm_hwSet (f st c t n g out : Bool) : (s.showAlarm f st c t n g out).hwSet = s.hwSet := by
  simp only [State.showAlarm, State.setBit_hwSet]

@[simp] theorem State.settle_hwSet : s.settle.hwSet = s.hwSet := by
  unfold State.settle
  split
  · exact (State.driveAlarm_hwSet ..).trans (State.showAlarm_hwSet ..)
  · rfl

/-- What went outwards before the end of a command stays in front. -/
theorem State.settle_emitted : ∃ l, s.settle.emitted = s.emitted ++ l := by
  have hd (x : State) (was out : Bool) : ∃ l, (x.driveAlarm was out).emitted = x.emitted ++ l := by
    unfold State.driveAlarm; split
    · exact ⟨[], (List.append_nil _).symm⟩
    · exact ⟨_, rfl⟩
  have hs (f st c t n g out : Bool) : (s.showAlarm f st c t n g out).emitted = s.emitted := by
    simp only [State.showAlarm, State.setBit_emitted]
  unfold State.settle
  split
  · obtain ⟨l, hl⟩ := hd (s.showAlarm _ _ _ _ _ _ _) (s.bit F.SAF_STAT.ALARM) _
    exact ⟨l, hl.trans (by rw [hs])⟩
  · exact ⟨[], (List.append_nil _).symm⟩

/-- The answer to a read is the first thing that goes outwards. -/
theorem answers_settle (r : State) (rq : Rq) (a : Nat) (w : Word) (h : r.emitted = []) :
    Answers (r.emit (.readData rq.num a w)).settle rq a w := by
  obtain ⟨l, hl⟩ := (r.emit (.readData rq.num a w)).settle_emitted
  unfold Answers
  rw [hl, State.emit_emitted, h]
  rfl

/-! ### Frames -/

theorem OnlyWords.shallow {ks : List Nat} {s t : State} (h : OnlyWords ks s t) : Shallow s t := h.2

/-- What a command's own effect restricts, the end of the command keeps. -/
theorem OnlyWords.settle {ks : List Nat} {s t : State} (h : OnlyWords ks s t) : OnlyWords ks s t.settle :=
  ⟨fun k h1 h2 => by rw [t.settle_word k h2]; exact h.1 k h1 h2, Shallow.trans h.2 (.settle t)⟩

theorem OnlyWords.refl (ks : List Nat) (s : State) : OnlyWords ks s s := ⟨fun _ _ _ => rfl, rfl⟩

theorem OnlyWords.setWord {ks : List Nat} {s t : State} (h : OnlyWords ks s t) (k : Nat) (v : Word) (hk : k ∈ ks) :
    OnlyWords ks s (t.setWord k v) :=
  ⟨fun j h1 h2 => by rw [t.word_setWord_ne v (fun e => h1 (by rw [e]; exact hk))]; exact h.1 j h1 h2, Shallow.trans h.2 (.setWord t k v)⟩

theorem OnlyWords.set {ks : List Nat} {s t : State} (h : OnlyWords ks s t) (f : Fld) (v : Nat) (hk : f.key ∈ ks) :
    OnlyWords ks s (t.set f v) := h.setWord _ _ hk

theorem OnlyWords.setBit {ks : List Nat} {s t : State} (h : OnlyWords ks s t) (f : Fld) (b : Bool) (hk : f.key ∈ ks) :
    OnlyWords ks s (t.setBit f b) := h.setWord _ _ hk

theorem OnlyWords.flag {ks : List Nat} {s t : State} (h : OnlyWords ks s t) (f : Fld) (hk : f.key ∈ ks) : OnlyWords ks s (t.flag f) :=
  ⟨fun j h1 h2 => by rw [t.word_flag_other f j (fun e => h1 (by rw [e]; exact hk))]; exact h.1 j h1 h2, Shallow.trans h.2 (.flag t f)⟩

theorem OnlyWords.emit {ks : List Nat} {s t : State} (h : OnlyWords ks s t) (e : Emit) : OnlyWords ks s (t.emit e) :=
  ⟨fun j h1 h2 => h.1 j h1 h2, Shallow.trans h.2 (.emit t e)⟩

theorem OnlyWords.mono {ks ks' : List Nat} {s t : State} (h : OnlyWords ks s t) (hs : ∀ k ∈ ks, k ∈ ks') : OnlyWords ks' s t :=
  ⟨fun k h1 h2 => h.1 k (fun hk => h1 (hs k hk)) h2, h.2⟩

end Sys2Proof.Machine
end

