-- ==== Sys2Proof/Laws/Bus.lean ====
section
/-! SUPPORT. What a requester's access can do: once it reaches the register space (R505 to R508) it is the register's own rule. -/
namespace Sys2Proof.Machine

/-! ### Access -/

theorem Reads.elapse {s : State} {rq : Rq} {a : Nat} (h : Reads s rq a) (dt : Nat) : Reads (s.elapse dt) rq a :=
  ⟨h.may, h.aligned, h.inside, h.present, h.on⟩

theorem Writes.elapse {s : State} {rq : Rq} {a : Nat} (h : Writes s rq a) (dt : Nat) : Writes (s.elapse dt) rq a :=
  ⟨h.reads.elapse dt, h.notStandby, h.unlocked⟩

/-- A write that is performed is the register's own rule. -/
theorem State.busWrite_of_writes {s : State} {rq : Rq} {a : Nat} (h : Writes s rq a) (v : Word) :
    s.busWrite rq 4 a v = s.regWrite rq a v := by
  have h1 := h.reads.may
  have h2 := h.reads.aligned
  have h3 := h.reads.inside
  simp [State.busWrite, State.performWrite, h1, h2, h.reads.present, h.reads.on, h.notStandby, h.unlocked, Nat.not_le.mpr h3]

/-- A read that is performed is the register's own rule. -/
theorem State.busRead_of_reads {s : State} {rq : Rq} {a : Nat} (h : Reads s rq a) : s.busRead rq 4 a = s.regRead rq a := by
  have h2 := h.aligned
  have h3 := h.inside
  simp [State.busRead, h.may, h2, h.present, h.on, Nat.not_le.mpr h3]

/-- Its answer goes outwards. -/
theorem State.readOut_of_reads {s : State} {rq : Rq} {a : Nat} (h : Reads s rq a) :
    s.readOut rq 4 a = (s.regRead rq a).1.emit (.readData rq.num a (s.regRead rq a).2) := by
  simp [State.readOut, State.busRead_of_reads h]

/-! ### Which word an address names -/

/-- An address outside the windows and the per-requester registers names its own word. -/
theorem State.busKey_eq (s : State) (q a : Nat) (h1 : perRequester.contains a = false)
    (h2 : ∀ w ∈ s.windows q, ¬ (w.1 ≤ a ∧ a ≤ w.2.1)) : s.busKey q a = a := by
  have h3 : (s.windows q).find? (fun w => w.1 ≤ a && a ≤ w.2.1) = none := by
    rw [List.find?_eq_none]
    intro w hw
    simpa using h2 w hw
  simp only [State.busKey, h1, h3]
  simp

/-! ### Shadows and freezes -/

theorem State.shadow_dropShadow_same (s : State) (q k : Nat) : (s.dropShadow q k).shadow q k = none := by
  simp only [State.shadow, State.dropShadow, Option.map_eq_none_iff, List.find?_eq_none, List.mem_filter]
  rintro e ⟨_, he⟩ hc
  simp_all

theorem State.shadow_dropShadow_ne (s : State) (q k q' k' : Nat) (h : (q', k') ≠ (q, k)) :
    (s.dropShadow q k).shadow q' k' = s.shadow q' k' := by
  simp only [State.shadow, State.dropShadow, List.find?_filter]
  congr 2
  funext e
  simp only [ne_eq, Prod.mk.injEq] at h
  rw [Bool.eq_iff_iff]
  simp only [Bool.and_eq_true, Bool.not_eq_true', Bool.and_eq_false_iff, beq_eq_false_iff_ne, beq_iff_eq, ne_eq, decide_eq_true_eq]
  omega

theorem State.shadow_setShadow_same (s : State) (q k : Nat) (v : Word) : (s.setShadow q k v).shadow q k = some v := by
  simp [State.shadow, State.setShadow]

theorem State.shadow_setShadow_ne (s : State) (q k q' k' : Nat) (v : Word) (h : (q', k') ≠ (q, k)) :
    (s.setShadow q k v).shadow q' k' = s.shadow q' k' := by
  rw [← s.shadow_dropShadow_ne q k q' k' h]
  have : ¬ (q = q' ∧ k = k') := fun hx => h (by rw [hx.1, hx.2])
  simp only [State.shadow, State.setShadow, List.find?_cons]
  split
  · next hc => simp at hc; exact absurd hc this
  · rfl

/-- Ending one freeze leaves the others. -/
theorem State.frozen_unfreezeOne (s : State) (q b i q' b' i' : Nat) :
    (s.unfreezeOne q b i).frozen? q' b' i' = if (q', b', i') = (q, b, i) then none else s.frozen? q' b' i' := by
  simp only [State.frozen?, State.unfreezeOne, List.find?_filter]
  split
  · next h =>
    simp only [Prod.mk.injEq] at h
    obtain ⟨rfl, rfl, rfl⟩ := h
    rw [List.find?_eq_none]
    intro f _ hc
    simp only [Bool.and_eq_true, Bool.not_eq_true', Bool.and_eq_false_iff, beq_eq_false_iff_ne, beq_iff_eq, ne_eq, decide_eq_true_eq] at hc
    omega
  · next h =>
    congr 1
    funext f
    simp only [Prod.mk.injEq] at h
    rw [Bool.eq_iff_iff]
    simp only [Bool.and_eq_true, Bool.not_eq_true', Bool.and_eq_false_iff, beq_eq_false_iff_ne, beq_iff_eq, ne_eq, decide_eq_true_eq]
    omega

/-- Ending a requester's freezes of a unit. -/
theorem State.frozen_unfreeze (s : State) (q b i : Nat) : (s.unfreeze q b).frozen? q b i = none := by
  simp only [State.frozen?, State.unfreeze, List.find?_filter, List.find?_eq_none]
  intro f _
  simp
  tauto

/-- The first and last addresses of the windows. -/
def windowBounds : List (Nat × Nat) := [(R.MTR_HWINn 0, R.MTR_HWINn 65), (R.T_STAT 0, R.T_LAST 0), (R.SW_STAT 0, R.SW_DUP 0),
  (R.LPn_MODE 0, R.LPn_EVAL_NS 0), (R.RA_CMD 0, R.RA_VEL 0), (R.NB_STAT 0, R.NB_MISS_CNT 0), (R.W_STAT 0, R.W_LATD_HI 0 7),
  (R.FAB_RT_ENTRY 0, R.FAB_RT_ROUTE_HI 0), (R.TRJ_CH_STAT 0, R.TRJ_CH_NEXT 0)]

/-- An address that names the same word for every requester. -/
def ownWord (a : Nat) : Bool :=
  !perRequester.contains a && windowBounds.all (fun w => !(decide (w.1 ≤ a) && decide (a ≤ w.2)))

theorem State.busKey_own (s : State) (q a : Nat) (h : ownWord a = true) : s.busKey q a = a := by
  simp only [ownWord, Bool.and_eq_true, Bool.not_eq_true', List.all_eq_true] at h
  refine s.busKey_eq q a h.1 (fun w hw hc => ?_)
  have h2 : (w.1, w.2.1) ∈ windowBounds := by
    simp only [State.windows, List.mem_cons, List.not_mem_nil, or_false] at hw
    rcases hw with rfl | rfl | rfl | rfl | rfl | rfl | rfl | rfl | rfl <;> simp [windowBounds]
  have h3 := h.2 _ h2
  simp [hc.1, hc.2] at h3

/-- A per-requester register names the requester's own copy. -/
theorem State.busKey_per (s : State) (q a : Nat) (h : perRequester.contains a = true) : s.busKey q a = a + 0x1000000 * q := by
  unfold State.busKey; rw [if_pos h]

end Sys2Proof.Machine
end

