-- ==== Sys2Proof/Laws/Access.lean ====
section
/-! SUPPORT. What a write does to a word whose fields act by their access codes (R10, R11, R536). -/
namespace Sys2Proof.Machine

/-- The number whose bits below w are given by p. -/
theorem testBit_foldl_pow (p : Nat → Prop) [DecidablePred p] (w i : Nat) :
    ((List.range w).foldl (fun acc b => if p b then acc + 2 ^ b else acc) 0).testBit i = (decide (i < w) && decide (p i)) ∧
      (List.range w).foldl (fun acc b => if p b then acc + 2 ^ b else acc) 0 < 2 ^ w := by
  induction w generalizing i with
  | zero => simp
  | succ w ih =>
    rw [List.range_succ, List.foldl_append]
    simp only [List.foldl_cons, List.foldl_nil]
    obtain ⟨h1, h2⟩ := ih i
    generalize hX : (List.range w).foldl (fun acc b => if p b then acc + 2 ^ b else acc) 0 = X at h1 h2 ⊢
    split
    · next hp =>
      refine ⟨?_, by omega⟩
      rcases lt_trichotomy i w with hi | hi | hi
      · rw [Nat.add_comm, Nat.testBit_two_pow_add_gt hi, h1]
        simp [hi, Nat.lt_succ_of_lt hi]
      · subst hi
        rw [Nat.add_comm, Nat.testBit_two_pow_add_eq, Nat.testBit_lt_two_pow h2]
        simp [hp]
      · rw [Nat.testBit_lt_two_pow (lt_of_lt_of_le (show X + 2 ^ w < 2 ^ (w + 1) by omega) (Nat.pow_le_pow_right (by omega) hi))]
        simp [show ¬ i < w + 1 by omega]
    · next hp =>
      refine ⟨?_, by omega⟩
      rw [h1]
      by_cases hi : i = w
      · subst hi; simp [hp]
      · simp [show (i < w + 1) = (i < w) by simp only [eq_iff_iff]; omega]

/-- One field of a write: its own bits by its access code, every other bit of the word as before. -/
theorem State.writeField_bit (s : State) (k : Nat) (v : Word) (f : FieldDesc) (j : Nat) (hj : j < 32) :
    ((s.writeField k v f).word k).getLsbD j =
      if f.lsb ≤ j ∧ j < f.lsb + f.width then bitAfter f.acc ((s.word k).getLsbD j) (v.getLsbD j) (s.justSet k j)
      else (s.word k).getLsbD j := by
  have hv (i : Nat) : (v.toNat / 2 ^ f.lsb % 2 ^ f.width).testBit i = (decide (i < f.width) && v.getLsbD (i + f.lsb)) := by
    rw [Nat.testBit_mod_two_pow, Nat.testBit_div_two_pow, BitVec.testBit_toNat]
  have ho (i : Nat) : ((s.word k).toNat / 2 ^ f.lsb % 2 ^ f.width).testBit i =
      (decide (i < f.width) && (s.word k).getLsbD (i + f.lsb)) := by
    rw [Nat.testBit_mod_two_pow, Nat.testBit_div_two_pow, BitVec.testBit_toNat]
  have key (x : Nat) : ((s.set ⟨k, f.lsb, f.width⟩ x).word k).getLsbD j =
      if f.lsb ≤ j ∧ j < f.lsb + f.width then x.testBit (j - f.lsb) else (s.word k).getLsbD j := by
    simp only [State.set, State.word_setWord_same]
    exact insertField_getLsbD _ _ _ _ _ hj
  unfold State.writeField bitAfter
  dsimp only
  by_cases hc : f.lsb ≤ j ∧ j < f.lsb + f.width
  · have e1 : j - f.lsb < f.width := by omega
    have e2 : j - f.lsb + f.lsb = j := by omega
    rw [if_pos hc]
    generalize f.acc = c
    cases c with
    | rw => dsimp only; rw [key, if_pos hc, hv]; simp [e1, e2]
    | w1s => dsimp only; rw [key, if_pos hc, Nat.testBit_or, ho, hv]; simp [e1, e2]
    | w1c =>
      dsimp only
      rw [key, if_pos hc, (testBit_foldl_pow _ _ _).1]
      have a1 := ho (j - f.lsb)
      have a2 := hv (j - f.lsb)
      simp only [e1, e2, decide_true, Bool.true_and] at a1 a2 ⊢
      rw [← a1, ← a2]
      simp only [Nat.testBit_eq_decide_div_mod_eq, show f.lsb + (j - f.lsb) = j by omega]
      cases s.justSet k j <;>
      rcases Nat.mod_two_eq_zero_or_one ((s.word k).toNat / 2 ^ f.lsb % 2 ^ f.width / 2 ^ (j - f.lsb)) with h1 | h1 <;>
      rcases Nat.mod_two_eq_zero_or_one (v.toNat / 2 ^ f.lsb % 2 ^ f.width / 2 ^ (j - f.lsb)) with h2 | h2 <;>
      simp [h1, h2]
    | _ => rfl
  · rw [if_neg hc]
    generalize f.acc = c
    cases c with
    | rw => dsimp only; rw [key, if_neg hc]
    | w1s => dsimp only; rw [key, if_neg hc]
    | w1c => dsimp only; rw [key, if_neg hc]
    | _ => rfl

theorem State.writeField_word_other (s : State) (k j : Nat) (v : Word) (f : FieldDesc) (h : j ≠ k) :
    (s.writeField k v f).word j = s.word j := by
  unfold State.writeField; dsimp only; split <;> first | rfl | exact State.word_set_other _ _ _ _ h

theorem State.writeField_hwSet (s : State) (k : Nat) (v : Word) (f : FieldDesc) : (s.writeField k v f).hwSet = s.hwSet := by
  unfold State.writeField; dsimp only; split <;> rfl

theorem State.writeField_shallow (s : State) (k : Nat) (v : Word) (f : FieldDesc) : Shallow s (s.writeField k v f) := by
  unfold State.writeField; dsimp only; split <;> first | exact .set .. | exact .refl s

theorem State.writeFields_other (fs : List FieldDesc) (s : State) (k j : Nat) (v : Word) (h : j ≠ k) :
    (fs.foldl (fun s f => s.writeField k v f) s).word j = s.word j := by
  induction fs generalizing s with
  | nil => rfl
  | cons f t ih => rw [List.foldl_cons, ih, s.writeField_word_other k j v f h]

theorem State.writeFields_shallow (fs : List FieldDesc) (s : State) (k : Nat) (v : Word) :
    Shallow s (fs.foldl (fun s f => s.writeField k v f) s) := by
  induction fs generalizing s with
  | nil => exact .refl s
  | cons f t ih => exact .trans (s.writeField_shallow k v f) (ih _)

/-- Bits that no field of the list covers are as before. -/
theorem State.writeFields_bit_none (fs : List FieldDesc) (s : State) (k : Nat) (v : Word) (j : Nat) (hj : j < 32)
    (h : ∀ f ∈ fs, ¬ (f.lsb ≤ j ∧ j < f.lsb + f.width)) :
    ((fs.foldl (fun s f => s.writeField k v f) s).word k).getLsbD j = (s.word k).getLsbD j := by
  induction fs generalizing s with
  | nil => rfl
  | cons f t ih =>
    rw [List.foldl_cons, ih _ (fun g hg => h g (List.mem_cons_of_mem _ hg)), s.writeField_bit k v f j hj, if_neg (h f (List.mem_cons_self ..))]

/-- A bit of a field, where no two fields overlap. -/
theorem State.writeFields_bit (fs : List FieldDesc) (s : State) (k : Nat) (v : Word) (f : FieldDesc) (hf : f ∈ fs)
    (hd : fs.Pairwise FieldDesc.apart) (j : Nat) (hj : j < 32) (h1 : f.lsb ≤ j) (h2 : j < f.lsb + f.width) :
    ((fs.foldl (fun s f => s.writeField k v f) s).word k).getLsbD j =
      bitAfter f.acc ((s.word k).getLsbD j) (v.getLsbD j) (s.justSet k j) := by
  induction fs generalizing s with
  | nil => cases hf
  | cons g t ih =>
    rw [List.pairwise_cons] at hd
    rw [List.foldl_cons]
    rcases List.mem_cons.mp hf with rfl | hf
    · rw [State.writeFields_bit_none _ _ _ _ _ hj, s.writeField_bit k v f j hj, if_pos ⟨h1, h2⟩]
      intro g hg hc
      have := hd.1 g hg
      unfold FieldDesc.apart at this
      omega
    · rw [ih _ hf hd.2, s.writeField_bit k v g j hj, if_neg]
      · unfold State.justSet; rw [s.writeField_hwSet]
      · have := hd.1 f hf
        unfold FieldDesc.apart at this
        omega

/-- A word with no RWL field under a requester's write: each field by its own access code. -/
theorem State.writeWord_eq (s : State) (k : Nat) (v : Word) (h : hasAcc k .rwl = false) :
    s.writeWord k v = (keyFields k).foldl (fun s f => s.writeField k v f) s := by
  have : s.wouldChange k v (keyFields k) = false := by
    unfold State.wouldChange
    rw [List.any_eq_false]
    intro f hf hc
    simp only [Bool.and_eq_true] at hc
    unfold hasAcc at h
    rw [List.any_eq_false] at h
    exact h f hf hc.1
  simp [State.writeWord, this]

end Sys2Proof.Machine
end

