-- ==== Sys2Proof/Laws/PerInstr.lean ====
section
/-! SUPPORT. Statements about each command as syntax, one lemma per constructor. -/
namespace Sys2Proof.Laws.Requester

/-- A well-formed command that names a requester names one that exists (R505, R511). -/
def Statement (i : Instr) : Prop := i.wellFormed = true → ∀ q, i.requester = some q → q.wellFormed = true

/-! ### The conjuncts of a well-formedness check -/

theorem and1_0 {a : Bool} (h : a = true) : a = true := h
theorem and2_0 {a b : Bool} (h : (a && b) = true) : a = true := by cases a <;> simp_all
theorem and2_1 {a b : Bool} (h : (a && b) = true) : b = true := by cases b <;> simp_all
theorem and3_0 {a b c : Bool} (h : (a && b && c) = true) : a = true := and2_0 (and2_0 h)
theorem and4_0 {a b c d : Bool} (h : (a && b && c && d) = true) : a = true := and2_0 (and3_0 h)

/-! ### One lemma per command -/

theorem regWrite (dt : Nat) (rq : Rq) (size : Nat) (addr : Nat) (v : Word) : Statement (.regWrite dt rq size addr v) := fun h _ eq => Option.some.inj (show some rq = some _ from eq) ▸ and3_0 (show (rq.wellFormed && [1, 2, 4].contains size && decide (addr < 0x1000000)) = true from h)
theorem readClear (dt : Nat) (rq : Rq) (addr : Nat) : Statement (.readClear dt rq addr) := fun h _ eq => Option.some.inj (show some rq = some _ from eq) ▸ and2_0 (show (rq.wellFormed && decide (addr < 0x1000000)) = true from h)
theorem tabDataRead (dt : Nat) (rq : Rq) (addr : Nat) : Statement (.tabDataRead dt rq addr) := fun h _ eq => Option.some.inj (show some rq = some _ from eq) ▸ and2_0 (show (rq.wellFormed && decide (addr < 0x1000000)) = true from h)
theorem cycHostWrite (dt : Nat) (rq : Rq) (v : Word) : Statement (.cycHostWrite dt rq v) := fun h _ eq => Option.some.inj (show some rq = some _ from eq) ▸ and1_0 (show (rq.wellFormed) = true from h)
theorem lpeTabDataWrite (dt : Nat) (rq : Rq) (v : Word) : Statement (.lpeTabDataWrite dt rq v) := fun h _ eq => Option.some.inj (show some rq = some _ from eq) ▸ and1_0 (show (rq.wellFormed) = true from h)
theorem mpgTabDataWrite (dt : Nat) (rq : Rq) (v : Word) : Statement (.mpgTabDataWrite dt rq v) := fun h _ eq => Option.some.inj (show some rq = some _ from eq) ▸ and1_0 (show (rq.wellFormed) = true from h)
theorem timNsRead (dt : Nat) (rq : Rq) : Statement (.timNsRead dt rq) := fun h _ eq => Option.some.inj (show some rq = some _ from eq) ▸ and1_0 (show (rq.wellFormed) = true from h)
theorem rtcFracRead (dt : Nat) (rq : Rq) : Statement (.rtcFracRead dt rq) := fun h _ eq => Option.some.inj (show some rq = some _ from eq) ▸ and1_0 (show (rq.wellFormed) = true from h)
theorem sysUpLoRead (dt : Nat) (rq : Rq) : Statement (.sysUpLoRead dt rq) := fun h _ eq => Option.some.inj (show some rq = some _ from eq) ▸ and1_0 (show (rq.wellFormed) = true from h)
theorem energyLoRead (dt : Nat) (rq : Rq) (pt : Nat) (e : Nat) : Statement (.energyLoRead dt rq pt e) := fun h _ eq => Option.some.inj (show some rq = some _ from eq) ▸ and3_0 (show (rq.wellFormed && decide (pt < 8) && decide (e < 8)) = true from h)
theorem hqcLoRead (dt : Nat) (rq : Rq) (e : Nat) : Statement (.hqcLoRead dt rq e) := fun h _ eq => Option.some.inj (show some rq = some _ from eq) ▸ and2_0 (show (rq.wellFormed && decide (e < 8)) = true from h)
theorem axPosFracRead (dt : Nat) (rq : Rq) (ax : Nat) : Statement (.axPosFracRead dt rq ax) := fun h _ eq => Option.some.inj (show some rq = some _ from eq) ▸ and2_0 (show (rq.wellFormed && decide (ax < 16)) = true from h)
theorem latchSeqRead (dt : Nat) (rq : Rq) (pt : Nat) : Statement (.latchSeqRead dt rq pt) := fun h _ eq => Option.some.inj (show some rq = some _ from eq) ▸ and2_0 (show (rq.wellFormed && decide (pt < 8)) = true from h)
theorem latchFreezeExpiry (dt : Nat) (rq : Rq) (pt : Nat) : Statement (.latchFreezeExpiry dt rq pt) := fun h _ eq => Option.some.inj (show some rq = some _ from eq) ▸ and2_0 (show (rq.wellFormed && decide (pt < 8)) = true from h)
theorem wLatchSeqRead (dt : Nat) (rq : Rq) : Statement (.wLatchSeqRead dt rq) := fun h _ eq => Option.some.inj (show some rq = some _ from eq) ▸ and1_0 (show (rq.wellFormed) = true from h)
theorem wFreezeExpiry (dt : Nat) (rq : Rq) (pt : Nat) : Statement (.wFreezeExpiry dt rq pt) := fun h _ eq => Option.some.inj (show some rq = some _ from eq) ▸ and2_0 (show (rq.wellFormed && decide (pt < 4128)) = true from h)
theorem hqcWinSelWrite (dt : Nat) (rq : Rq) (v : Word) : Statement (.hqcWinSelWrite dt rq v) := fun h _ eq => Option.some.inj (show some rq = some _ from eq) ▸ and1_0 (show (rq.wellFormed) = true from h)
theorem lpnStatRead (dt : Nat) (rq : Rq) : Statement (.lpnStatRead dt rq) := fun h _ eq => Option.some.inj (show some rq = some _ from eq) ▸ and1_0 (show (rq.wellFormed) = true from h)
theorem lpFreezeExpiry (dt : Nat) (rq : Rq) (slot : Nat) : Statement (.lpFreezeExpiry dt rq slot) := fun h _ eq => Option.some.inj (show some rq = some _ from eq) ▸ and2_0 (show (rq.wellFormed && decide (slot < 4096)) = true from h)
theorem lpeWinSelWrite (dt : Nat) (rq : Rq) (v : Word) : Statement (.lpeWinSelWrite dt rq v) := fun h _ eq => Option.some.inj (show some rq = some _ from eq) ▸ and1_0 (show (rq.wellFormed) = true from h)
theorem nsvSeqRead (dt : Nat) (rq : Rq) : Statement (.nsvSeqRead dt rq) := fun h _ eq => Option.some.inj (show some rq = some _ from eq) ▸ and1_0 (show (rq.wellFormed) = true from h)
theorem mtrHwinSelWrite (dt : Nat) (rq : Rq) (v : Word) : Statement (.mtrHwinSelWrite dt rq v) := fun h _ eq => Option.some.inj (show some rq = some _ from eq) ▸ and1_0 (show (rq.wellFormed) = true from h)
theorem powerOn (dt : Nat) (batLow : Bool) : Statement (.powerOn dt batLow) := fun _ _ eq => nomatch (show (none : Option Rq) = some _ from eq)
theorem nresetAssert (dt : Nat) : Statement (.nresetAssert dt) := fun _ _ eq => nomatch (show (none : Option Rq) = some _ from eq)
theorem sysResetWrite (dt : Nat) (rq : Rq) (v : Word) : Statement (.sysResetWrite dt rq v) := fun h _ eq => Option.some.inj (show some rq = some _ from eq) ▸ and1_0 (show (rq.wellFormed) = true from h)
theorem sysResetSaveDone (dt : Nat) : Statement (.sysResetSaveDone dt) := fun _ _ eq => nomatch (show (none : Option Rq) = some _ from eq)
theorem pwrGapExpiry (dt : Nat) : Statement (.pwrGapExpiry dt) := fun _ _ eq => nomatch (show (none : Option Rq) = some _ from eq)
theorem domainPowerGood (dt : Nat) (dom : Nat) : Statement (.domainPowerGood dt dom) := fun _ _ eq => nomatch (show (none : Option Rq) = some _ from eq)
theorem domainFail (dt : Nat) (dom : Nat) : Statement (.domainFail dt dom) := fun _ _ eq => nomatch (show (none : Option Rq) = some _ from eq)
theorem rtaFailRetry (dt : Nat) : Statement (.rtaFailRetry dt) := fun _ _ eq => nomatch (show (none : Option Rq) = some _ from eq)
theorem huMinReached (dt : Nat) : Statement (.huMinReached dt) := fun _ _ eq => nomatch (show (none : Option Rq) = some _ from eq)
theorem huChargeComplete (dt : Nat) (mj : Nat) : Statement (.huChargeComplete dt mj) := fun _ _ eq => nomatch (show (none : Option Rq) = some _ from eq)
theorem slotSelect (dt : Nat) (i0 : CfgImage) (i1 : CfgImage) (ddr : Bool) (mhz : Nat) : Statement (.slotSelect dt i0 i1 ddr mhz) := fun _ _ eq => nomatch (show (none : Option Rq) = some _ from eq)
theorem capCommit (dt : Nat) : Statement (.capCommit dt) := fun _ _ eq => nomatch (show (none : Option Rq) = some _ from eq)
theorem capStageFail (dt : Nat) : Statement (.capStageFail dt) := fun _ _ eq => nomatch (show (none : Option Rq) = some _ from eq)
theorem dramTrained (dt : Nat) (fw : Option Nat) (ow : Bool) : Statement (.dramTrained dt fw ow) := fun _ _ eq => nomatch (show (none : Option Rq) = some _ from eq)
theorem fullCommit (dt : Nat) : Statement (.fullCommit dt) := fun _ _ eq => nomatch (show (none : Option Rq) = some _ from eq)
theorem fullLoadFail (dt : Nat) : Statement (.fullLoadFail dt) := fun _ _ eq => nomatch (show (none : Option Rq) = some _ from eq)
theorem fullServiceBegin (dt : Nat) : Statement (.fullServiceBegin dt) := fun _ _ eq => nomatch (show (none : Option Rq) = some _ from eq)
theorem loopServiceStart (dt : Nat) : Statement (.loopServiceStart dt) := fun _ _ eq => nomatch (show (none : Option Rq) = some _ from eq)
theorem pfwBegin (dt : Nat) : Statement (.pfwBegin dt) := fun _ _ eq => nomatch (show (none : Option Rq) = some _ from eq)
theorem pfwEnd (dt : Nat) : Statement (.pfwEnd dt) := fun _ _ eq => nomatch (show (none : Option Rq) = some _ from eq)
theorem holdupEnd (dt : Nat) : Statement (.holdupEnd dt) := fun _ _ eq => nomatch (show (none : Option Rq) = some _ from eq)
theorem strobeIssue (dt : Nat) : Statement (.strobeIssue dt) := fun _ _ eq => nomatch (show (none : Option Rq) = some _ from eq)
theorem islandFrameReceived (dt : Nat) (f : IslandFrame) : Statement (.islandFrameReceived dt f) := fun _ _ eq => nomatch (show (none : Option Rq) = some _ from eq)
theorem frameDeadlineMiss (dt : Nat) (isl : Nat) : Statement (.frameDeadlineMiss dt isl) := fun _ _ eq => nomatch (show (none : Option Rq) = some _ from eq)
theorem islandDown (dt : Nat) (isl : Nat) : Statement (.islandDown dt isl) := fun _ _ eq => nomatch (show (none : Option Rq) = some _ from eq)
theorem islandUp (dt : Nat) (isl : Nat) : Statement (.islandUp dt isl) := fun _ _ eq => nomatch (show (none : Option Rq) = some _ from eq)
theorem pseudoCycle (dt : Nat) (isl : Nat) : Statement (.pseudoCycle dt isl) := fun _ _ eq => nomatch (show (none : Option Rq) = some _ from eq)
theorem ptLatch (dt : Nat) (pt : Nat) : Statement (.ptLatch dt pt) := fun _ _ eq => nomatch (show (none : Option Rq) = some _ from eq)
theorem aggWindowClose (dt : Nat) (isl : Nat) (freq10 : Nat) (harm : List (Nat × List Word)) : Statement (.aggWindowClose dt isl freq10 harm) := fun _ _ eq => nomatch (show (none : Option Rq) = some _ from eq)
theorem mtrPeriodicSave (dt : Nat) : Statement (.mtrPeriodicSave dt) := fun _ _ eq => nomatch (show (none : Option Rq) = some _ from eq)
theorem mtrSave (dt : Nat) (rq : Rq) : Statement (.mtrSave dt rq) := fun h _ eq => Option.some.inj (show some rq = some _ from eq) ▸ and1_0 (show (rq.wellFormed) = true from h)
theorem mtrSaveCommit (dt : Nat) : Statement (.mtrSaveCommit dt) := fun _ _ eq => nomatch (show (none : Option Rq) = some _ from eq)
theorem hqcSaveCommit (dt : Nat) : Statement (.hqcSaveCommit dt) := fun _ _ eq => nomatch (show (none : Option Rq) = some _ from eq)
theorem hqcSaveLate (dt : Nat) : Statement (.hqcSaveLate dt) := fun _ _ eq => nomatch (show (none : Option Rq) = some _ from eq)
theorem hqcLocalStep (dt : Nat) (pulses : List (Nat × Nat)) : Statement (.hqcLocalStep dt pulses) := fun _ _ eq => nomatch (show (none : Option Rq) = some _ from eq)
theorem hqcBillTimeout (dt : Nat) : Statement (.hqcBillTimeout dt) := fun _ _ eq => nomatch (show (none : Option Rq) = some _ from eq)
theorem helloReceived (dt : Nat) (h : SspHeader) (nonce : Nat) : Statement (.helloReceived dt h nonce) := fun _ _ eq => nomatch (show (none : Option Rq) = some _ from eq)
theorem sessionSetupDone (dt : Nat) (stn : Nat) : Statement (.sessionSetupDone dt stn) := fun _ _ eq => nomatch (show (none : Option Rq) = some _ from eq)
theorem inputReceived (dt : Nat) (h : SspHeader) (img : List Byte) : Statement (.inputReceived dt h img) := fun _ _ eq => nomatch (show (none : Option Rq) = some _ from eq)
theorem watchdogCheck (dt : Nat) (stn : Nat) : Statement (.watchdogCheck dt stn) := fun _ _ eq => nomatch (show (none : Option Rq) = some _ from eq)
theorem watchdogExpiry (dt : Nat) (stn : Nat) : Statement (.watchdogExpiry dt stn) := fun _ _ eq => nomatch (show (none : Option Rq) = some _ from eq)
theorem closeReceived (dt : Nat) (h : SspHeader) (reason : Nat) : Statement (.closeReceived dt h reason) := fun _ _ eq => nomatch (show (none : Option Rq) = some _ from eq)
theorem sspRequestReceived (dt : Nat) (h : SspHeader) (body : SspBody) (status : Nat) (data : List Byte) : Statement (.sspRequestReceived dt h body status data) := fun _ _ eq => nomatch (show (none : Option Rq) = some _ from eq)
theorem sspResponseReceived (dt : Nat) (h : SspHeader) (body : SspBody) : Statement (.sspResponseReceived dt h body) := fun _ _ eq => nomatch (show (none : Option Rq) = some _ from eq)
theorem sspRequestIssue (dt : Nat) (stn : Nat) (body : SspBody) : Statement (.sspRequestIssue dt stn body) := fun _ _ eq => nomatch (show (none : Option Rq) = some _ from eq)
theorem setTimingApply (dt : Nat) (stn : Nat) : Statement (.setTimingApply dt stn) := fun _ _ eq => nomatch (show (none : Option Rq) = some _ from eq)
theorem sioCloseWrite (dt : Nat) (rq : Rq) (v : Word) : Statement (.sioCloseWrite dt rq v) := fun h _ eq => Option.some.inj (show some rq = some _ from eq) ▸ and1_0 (show (rq.wellFormed) = true from h)
theorem otherTrafficReceived (dt : Nat) (port : Nat) (kind : Nat) : Statement (.otherTrafficReceived dt port kind) := fun _ _ eq => nomatch (show (none : Option Rq) = some _ from eq)
theorem launchFetch (dt : Nat) (stn : Nat) : Statement (.launchFetch dt stn) := fun _ _ eq => nomatch (show (none : Option Rq) = some _ from eq)
theorem frameLaunch (dt : Nat) (stn : Nat) (skew : Nat) : Statement (.frameLaunch dt stn skew) := fun _ _ eq => nomatch (show (none : Option Rq) = some _ from eq)
theorem prefetchIssue (dt : Nat) : Statement (.prefetchIssue dt) := fun _ _ eq => nomatch (show (none : Option Rq) = some _ from eq)
theorem pageLoadDone (dt : Nat) (stn : Nat) : Statement (.pageLoadDone dt stn) := fun _ _ eq => nomatch (show (none : Option Rq) = some _ from eq)
theorem writeBackDone (dt : Nat) (stn : Nat) : Statement (.writeBackDone dt stn) := fun _ _ eq => nomatch (show (none : Option Rq) = some _ from eq)
theorem timedTaskRelease (dt : Nat) (task : Nat) : Statement (.timedTaskRelease dt task) := fun _ _ eq => nomatch (show (none : Option Rq) = some _ from eq)
theorem taskSkipLimit (dt : Nat) (task : Nat) : Statement (.taskSkipLimit dt task) := fun _ _ eq => nomatch (show (none : Option Rq) = some _ from eq)
theorem pgrTrigWrite (dt : Nat) (rq : Rq) (v : Word) : Statement (.pgrTrigWrite dt rq v) := fun h _ eq => Option.some.inj (show some rq = some _ from eq) ▸ and1_0 (show (rq.wellFormed) = true from h)
theorem taskDispatch (dt : Nat) (reached : Option Nat) (stall : Nat) : Statement (.taskDispatch dt reached stall) := fun _ _ eq => nomatch (show (none : Option Rq) = some _ from eq)
theorem regionRequest (dt : Nat) (owner : Nat) (gran : Nat) (tag : Nat) : Statement (.regionRequest dt owner gran tag) := fun _ _ eq => nomatch (show (none : Option Rq) = some _ from eq)
theorem regionRelease (dt : Nat) (idx : Nat) : Statement (.regionRelease dt idx) := fun _ _ eq => nomatch (show (none : Option Rq) = some _ from eq)
theorem regionViolation (dt : Nat) (idx : Nat) (rq : Rq) (write : Bool) : Statement (.regionViolation dt idx rq write) := fun h _ eq => Option.some.inj (show some rq = some _ from eq) ▸ and2_1 (show (decide (idx < 256) && rq.wellFormed) = true from h)
theorem cycleSnapshot (dt : Nat) : Statement (.cycleSnapshot dt) := fun _ _ eq => nomatch (show (none : Option Rq) = some _ from eq)
theorem cycTmaxExpiry (dt : Nat) (reached : Nat) : Statement (.cycTmaxExpiry dt reached) := fun _ _ eq => nomatch (show (none : Option Rq) = some _ from eq)
theorem cycOvrLimit (dt : Nat) : Statement (.cycOvrLimit dt) := fun _ _ eq => nomatch (show (none : Option Rq) = some _ from eq)
theorem exchArm (dt : Nat) (rq : Rq) : Statement (.exchArm dt rq) := fun h _ eq => Option.some.inj (show some rq = some _ from eq) ▸ and1_0 (show (rq.wellFormed) = true from h)
theorem exchAbort (dt : Nat) (rq : Rq) : Statement (.exchAbort dt rq) := fun h _ eq => Option.some.inj (show some rq = some _ from eq) ▸ and1_0 (show (rq.wellFormed) = true from h)
theorem exchStagingDone (dt : Nat) (img : CfgImage) : Statement (.exchStagingDone dt img) := fun _ _ eq => nomatch (show (none : Option Rq) = some _ from eq)
theorem exchangePause (dt : Nat) (ok : Bool) (us : Nat) : Statement (.exchangePause dt ok us) := fun _ _ eq => nomatch (show (none : Option Rq) = some _ from eq)
theorem lpeTick (dt : Nat) (incomplete : List Nat) (stall : Nat) (busy : Nat) : Statement (.lpeTick dt incomplete stall busy) := fun _ _ eq => nomatch (show (none : Option Rq) = some _ from eq)
theorem plausAction (dt : Nat) (slot : Nat) : Statement (.plausAction dt slot) := fun _ _ eq => nomatch (show (none : Option Rq) = some _ from eq)
theorem groupTrip (dt : Nat) (grp : Nat) (own : Bool) : Statement (.groupTrip dt grp own) := fun _ _ eq => nomatch (show (none : Option Rq) = some _ from eq)
theorem lpeDeadline (dt : Nat) : Statement (.lpeDeadline dt) := fun _ _ eq => nomatch (show (none : Option Rq) = some _ from eq)
theorem lpeThirdLate (dt : Nat) (slot : Nat) : Statement (.lpeThirdLate dt slot) := fun _ _ eq => nomatch (show (none : Option Rq) = some _ from eq)
theorem lpnModeWrite (dt : Nat) (rq : Rq) (v : Word) : Statement (.lpnModeWrite dt rq v) := fun h _ eq => Option.some.inj (show some rq = some _ from eq) ▸ and1_0 (show (rq.wellFormed) = true from h)
theorem lpnSpWrite (dt : Nat) (rq : Rq) (v : Word) : Statement (.lpnSpWrite dt rq v) := fun h _ eq => Option.some.inj (show some rq = some _ from eq) ▸ and1_0 (show (rq.wellFormed) = true from h)
theorem lpnManWrite (dt : Nat) (rq : Rq) (v : Word) : Statement (.lpnManWrite dt rq v) := fun h _ eq => Option.some.inj (show some rq = some _ from eq) ▸ and1_0 (show (rq.wellFormed) = true from h)
theorem lpeGrpResetWrite (dt : Nat) (rq : Rq) (v : Word) : Statement (.lpeGrpResetWrite dt rq v) := fun h _ eq => Option.some.inj (show some rq = some _ from eq) ▸ and1_0 (show (rq.wellFormed) = true from h)
theorem lpnFltClear (dt : Nat) (rq : Rq) (v : Word) : Statement (.lpnFltClear dt rq v) := fun h _ eq => Option.some.inj (show some rq = some _ from eq) ▸ and1_0 (show (rq.wellFormed) = true from h)
theorem capLoopRun (dt : Nat) : Statement (.capLoopRun dt) := fun _ _ eq => nomatch (show (none : Option Rq) = some _ from eq)
theorem loopTableSwitch (dt : Nat) : Statement (.loopTableSwitch dt) := fun _ _ eq => nomatch (show (none : Option Rq) = some _ from eq)
theorem profileTick (dt : Nat) (samples : List (Nat × List (Bool × Bool × Bool))) : Statement (.profileTick dt samples) := fun _ _ eq => nomatch (show (none : Option Rq) = some _ from eq)
theorem axTargetWrite (dt : Nat) (rq : Rq) (ax : Nat) (v : Word) : Statement (.axTargetWrite dt rq ax v) := fun h _ eq => Option.some.inj (show some rq = some _ from eq) ▸ and2_0 (show (rq.wellFormed && decide (ax < 16)) = true from h)
theorem raTargetWrite (dt : Nat) (rq : Rq) (v : Word) : Statement (.raTargetWrite dt rq v) := fun h _ eq => Option.some.inj (show some rq = some _ from eq) ▸ and1_0 (show (rq.wellFormed) = true from h)
theorem axLimitWrite (dt : Nat) (rq : Rq) (ax : Nat) (which : Nat) (v : Word) : Statement (.axLimitWrite dt rq ax which v) := fun h _ eq => Option.some.inj (show some rq = some _ from eq) ▸ and3_0 (show (rq.wellFormed && decide (ax < 16) && decide (which < 5)) = true from h)
theorem axEnable (dt : Nat) (rq : Rq) (ax : Nat) : Statement (.axEnable dt rq ax) := fun h _ eq => Option.some.inj (show some rq = some _ from eq) ▸ and2_0 (show (rq.wellFormed && decide (ax < 16)) = true from h)
theorem axDisable (dt : Nat) (rq : Rq) (ax : Nat) : Statement (.axDisable dt rq ax) := fun h _ eq => Option.some.inj (show some rq = some _ from eq) ▸ and2_0 (show (rq.wellFormed && decide (ax < 16)) = true from h)
theorem axStop (dt : Nat) (rq : Rq) (ax : Nat) : Statement (.axStop dt rq ax) := fun h _ eq => Option.some.inj (show some rq = some _ from eq) ▸ and2_0 (show (rq.wellFormed && decide (ax < 16)) = true from h)
theorem axEstop (dt : Nat) (rq : Rq) (ax : Nat) : Statement (.axEstop dt rq ax) := fun h _ eq => Option.some.inj (show some rq = some _ from eq) ▸ and2_0 (show (rq.wellFormed && decide (ax < 16)) = true from h)
theorem axHome (dt : Nat) (rq : Rq) (ax : Nat) : Statement (.axHome dt rq ax) := fun h _ eq => Option.some.inj (show some rq = some _ from eq) ▸ and2_0 (show (rq.wellFormed && decide (ax < 16)) = true from h)
theorem axClrLim (dt : Nat) (rq : Rq) (ax : Nat) : Statement (.axClrLim dt rq ax) := fun h _ eq => Option.some.inj (show some rq = some _ from eq) ▸ and2_0 (show (rq.wellFormed && decide (ax < 16)) = true from h)
theorem axClrFlt (dt : Nat) (rq : Rq) (ax : Nat) : Statement (.axClrFlt dt rq ax) := fun h _ eq => Option.some.inj (show some rq = some _ from eq) ▸ and2_0 (show (rq.wellFormed && decide (ax < 16)) = true from h)
theorem raStop (dt : Nat) (rq : Rq) : Statement (.raStop dt rq) := fun h _ eq => Option.some.inj (show some rq = some _ from eq) ▸ and1_0 (show (rq.wellFormed) = true from h)
theorem raEstop (dt : Nat) (rq : Rq) : Statement (.raEstop dt rq) := fun h _ eq => Option.some.inj (show some rq = some _ from eq) ▸ and1_0 (show (rq.wellFormed) = true from h)
theorem raResync (dt : Nat) (rq : Rq) : Statement (.raResync dt rq) := fun h _ eq => Option.some.inj (show some rq = some _ from eq) ▸ and1_0 (show (rq.wellFormed) = true from h)
theorem raClrFlt (dt : Nat) (rq : Rq) : Statement (.raClrFlt dt rq) := fun h _ eq => Option.some.inj (show some rq = some _ from eq) ▸ and1_0 (show (rq.wellFormed) = true from h)
theorem limitTrip (dt : Nat) (ax : Nat) (plus : Bool) : Statement (.limitTrip dt ax plus) := fun _ _ eq => nomatch (show (none : Option Rq) = some _ from eq)
theorem homeSignalChange (dt : Nat) (ax : Nat) (level : Bool) : Statement (.homeSignalChange dt ax level) := fun _ _ eq => nomatch (show (none : Option Rq) = some _ from eq)
theorem remoteAxisTick (dt : Nat) : Statement (.remoteAxisTick dt) := fun _ _ eq => nomatch (show (none : Option Rq) = some _ from eq)
theorem nsvWakeRequest (dt : Nat) : Statement (.nsvWakeRequest dt) := fun _ _ eq => nomatch (show (none : Option Rq) = some _ from eq)
theorem nsvSolveStart (dt : Nat) : Statement (.nsvSolveStart dt) := fun _ _ eq => nomatch (show (none : Option Rq) = some _ from eq)
theorem nsvSolveComplete (dt : Nat) (late : List Nat) (l0 : NsvLayer) (l1 : NsvLayer) (l2 : NsvLayer) : Statement (.nsvSolveComplete dt late l0 l1 l2) := fun _ _ eq => nomatch (show (none : Option Rq) = some _ from eq)
theorem imageCurrent (dt : Nat) : Statement (.imageCurrent dt) := fun _ _ eq => nomatch (show (none : Option Rq) = some _ from eq)
theorem nsvDeadline (dt : Nat) : Statement (.nsvDeadline dt) := fun _ _ eq => nomatch (show (none : Option Rq) = some _ from eq)
theorem modelStale (dt : Nat) : Statement (.modelStale dt) := fun _ _ eq => nomatch (show (none : Option Rq) = some _ from eq)
theorem nsvClrBad (dt : Nat) (rq : Rq) : Statement (.nsvClrBad dt rq) := fun h _ eq => Option.some.inj (show some rq = some _ from eq) ▸ and1_0 (show (rq.wellFormed) = true from h)
theorem nsvThReinit (dt : Nat) (rq : Rq) : Statement (.nsvThReinit dt rq) := fun h _ eq => Option.some.inj (show some rq = some _ from eq) ▸ and1_0 (show (rq.wellFormed) = true from h)
theorem dopWakeRequest (dt : Nat) : Statement (.dopWakeRequest dt) := fun _ _ eq => nomatch (show (none : Option Rq) = some _ from eq)
theorem dopSolveStart (dt : Nat) : Statement (.dopSolveStart dt) := fun _ _ eq => nomatch (show (none : Option Rq) = some _ from eq)
theorem dopSolvePhaseDone (dt : Nat) (sol : DopSol) : Statement (.dopSolvePhaseDone dt sol) := fun _ _ eq => nomatch (show (none : Option Rq) = some _ from eq)
theorem couplingRoundSend (dt : Nat) (e : List (Nat × List (List Word))) : Statement (.couplingRoundSend dt e) := fun _ _ eq => nomatch (show (none : Option Rq) = some _ from eq)
theorem couplingFragmentReceived (dt : Nat) (src : Nat) (fr : CouplingFragment) : Statement (.couplingFragmentReceived dt src fr) := fun _ _ eq => nomatch (show (none : Option Rq) = some _ from eq)
theorem roundWaitExpiry (dt : Nat) : Statement (.roundWaitExpiry dt) := fun _ _ eq => nomatch (show (none : Option Rq) = some _ from eq)
theorem finalSolveDone (dt : Nat) (sol : DopSol) : Statement (.finalSolveDone dt sol) := fun _ _ eq => nomatch (show (none : Option Rq) = some _ from eq)
theorem dopLate (dt : Nat) : Statement (.dopLate dt) := fun _ _ eq => nomatch (show (none : Option Rq) = some _ from eq)
theorem dopHoldWrite (dt : Nat) (rq : Rq) (v : Word) : Statement (.dopHoldWrite dt rq v) := fun h _ eq => Option.some.inj (show some rq = some _ from eq) ▸ and1_0 (show (rq.wellFormed) = true from h)
theorem fcCommit (dt : Nat) (rq : Rq) : Statement (.fcCommit dt rq) := fun h _ eq => Option.some.inj (show some rq = some _ from eq) ▸ and1_0 (show (rq.wellFormed) = true from h)
theorem fcCommitDone (dt : Nat) : Statement (.fcCommitDone dt) := fun _ _ eq => nomatch (show (none : Option Rq) = some _ from eq)
theorem fcDataWrite (dt : Nat) (rq : Rq) (v : Word) : Statement (.fcDataWrite dt rq v) := fun h _ eq => Option.some.inj (show some rq = some _ from eq) ▸ and1_0 (show (rq.wellFormed) = true from h)
theorem trajFragmentReceived (dt : Nat) (src : Nat) (fr : TrajFragment) (wellFormed : Bool) : Statement (.trajFragmentReceived dt src fr wellFormed) := fun _ _ eq => nomatch (show (none : Option Rq) = some _ from eq)
theorem trajPlanIncomplete (dt : Nat) : Statement (.trajPlanIncomplete dt) := fun _ _ eq => nomatch (show (none : Option Rq) = some _ from eq)
theorem leaderTimeout (dt : Nat) : Statement (.leaderTimeout dt) := fun _ _ eq => nomatch (show (none : Option Rq) = some _ from eq)
theorem sourceQualified (dt : Nat) (src0 : Bool) (src1 : Bool) : Statement (.sourceQualified dt src0 src1) := fun _ _ eq => nomatch (show (none : Option Rq) = some _ from eq)
theorem fiInputChange (dt : Nat) (fi : Nat) (level : Bool) : Statement (.fiInputChange dt fi level) := fun _ _ eq => nomatch (show (none : Option Rq) = some _ from eq)
theorem switchConfirmTime (dt : Nat) (alt : Bool) : Statement (.switchConfirmTime dt alt) := fun _ _ eq => nomatch (show (none : Option Rq) = some _ from eq)
theorem deadTimeExpiry (dt : Nat) (alt : Bool) : Statement (.deadTimeExpiry dt alt) := fun _ _ eq => nomatch (show (none : Option Rq) = some _ from eq)
theorem switchConfirmTimeout (dt : Nat) (alt : Bool) : Statement (.switchConfirmTimeout dt alt) := fun _ _ eq => nomatch (show (none : Option Rq) = some _ from eq)
theorem recallTimeout (dt : Nat) (grp : Nat) : Statement (.recallTimeout dt grp) := fun _ _ eq => nomatch (show (none : Option Rq) = some _ from eq)
theorem returnTimerExpiry (dt : Nat) : Statement (.returnTimerExpiry dt) := fun _ _ eq => nomatch (show (none : Option Rq) = some _ from eq)
theorem syncWaitExpiry (dt : Nat) : Statement (.syncWaitExpiry dt) := fun _ _ eq => nomatch (show (none : Option Rq) = some _ from eq)
theorem overlapTimeout (dt : Nat) : Statement (.overlapTimeout dt) := fun _ _ eq => nomatch (show (none : Option Rq) = some _ from eq)
theorem restoreGapExpiry (dt : Nat) : Statement (.restoreGapExpiry dt) := fun _ _ eq => nomatch (show (none : Option Rq) = some _ from eq)
theorem csbReturn (dt : Nat) (rq : Rq) : Statement (.csbReturn dt rq) := fun h _ eq => Option.some.inj (show some rq = some _ from eq) ▸ and1_0 (show (rq.wellFormed) = true from h)
theorem csbClrFlt (dt : Nat) (rq : Rq) : Statement (.csbClrFlt dt rq) := fun h _ eq => Option.some.inj (show some rq = some _ from eq) ▸ and1_0 (show (rq.wellFormed) = true from h)
theorem csbShed (dt : Nat) (rq : Rq) (grp : Nat) : Statement (.csbShed dt rq grp) := fun h _ eq => Option.some.inj (show some rq = some _ from eq) ▸ and2_0 (show (rq.wellFormed && decide (grp < 64)) = true from h)
theorem csbRelease (dt : Nat) (rq : Rq) (grp : Nat) : Statement (.csbRelease dt rq grp) := fun h _ eq => Option.some.inj (show some rq = some _ from eq) ▸ and2_0 (show (rq.wellFormed && decide (grp < 64)) = true from h)
theorem foReadbackCheck (dt : Nat) (sensed : Nat) : Statement (.foReadbackCheck dt sensed) := fun _ _ eq => nomatch (show (none : Option Rq) = some _ from eq)
theorem foPulseTest (dt : Nat) (fo : Nat) (ch : Nat) : Statement (.foPulseTest dt fo ch) := fun _ _ eq => nomatch (show (none : Option Rq) = some _ from eq)
theorem foPulseEnd (dt : Nat) (fo : Nat) : Statement (.foPulseEnd dt fo) := fun _ _ eq => nomatch (show (none : Option Rq) = some _ from eq)
theorem foPulseSenseTimeout (dt : Nat) (fo : Nat) : Statement (.foPulseSenseTimeout dt fo) := fun _ _ eq => nomatch (show (none : Option Rq) = some _ from eq)
theorem foFeedbackTimeout (dt : Nat) (fo : Nat) : Statement (.foFeedbackTimeout dt fo) := fun _ _ eq => nomatch (show (none : Option Rq) = some _ from eq)
theorem capDetectorEval (dt : Nat) : Statement (.capDetectorEval dt) := fun _ _ eq => nomatch (show (none : Option Rq) = some _ from eq)
theorem fabFrameReceived (dt : Nat) (rx : FabRx) (f : FabFrame) : Statement (.fabFrameReceived dt rx f) := fun _ _ eq => nomatch (show (none : Option Rq) = some _ from eq)
theorem hatbandReceived (dt : Nat) (rx : FabRx) (f : FabFrame) : Statement (.hatbandReceived dt rx f) := fun _ _ eq => nomatch (show (none : Option Rq) = some _ from eq)
theorem hatbandInstant (dt : Nat) (port : Nat) : Statement (.hatbandInstant dt port) := fun _ _ eq => nomatch (show (none : Option Rq) = some _ from eq)
theorem neighbourLost (dt : Nat) (port : Nat) : Statement (.neighbourLost dt port) := fun _ _ eq => nomatch (show (none : Option Rq) = some _ from eq)
theorem linkSignalLoss (dt : Nat) (port : Nat) : Statement (.linkSignalLoss dt port) := fun _ _ eq => nomatch (show (none : Option Rq) = some _ from eq)
theorem linkSignalUp (dt : Nat) (port : Nat) : Statement (.linkSignalUp dt port) := fun _ _ eq => nomatch (show (none : Option Rq) = some _ from eq)
theorem lsaReceived (dt : Nat) (rx : FabRx) (f : FabFrame) : Statement (.lsaReceived dt rx f) := fun _ _ eq => nomatch (show (none : Option Rq) = some _ from eq)
theorem lsaRefreshTimer (dt : Nat) : Statement (.lsaRefreshTimer dt) := fun _ _ eq => nomatch (show (none : Option Rq) = some _ from eq)
theorem lsaHoldoffExpiry (dt : Nat) : Statement (.lsaHoldoffExpiry dt) := fun _ _ eq => nomatch (show (none : Option Rq) = some _ from eq)
theorem lsaAgeOut (dt : Nat) (devid : Nat) : Statement (.lsaAgeOut dt devid) := fun _ _ eq => nomatch (show (none : Option Rq) = some _ from eq)
theorem routeTableLoad (dt : Nat) : Statement (.routeTableLoad dt) := fun _ _ eq => nomatch (show (none : Option Rq) = some _ from eq)
theorem addressClaim (dt : Nat) : Statement (.addressClaim dt) := fun _ _ eq => nomatch (show (none : Option Rq) = some _ from eq)
theorem fabDataSend (dt : Nat) (kind : Nat) (dst : Nat) (cls : Nat) (svc : Nat) (ackreq : Bool) (payload : List Byte) : Statement (.fabDataSend dt kind dst cls svc ackreq payload) := fun _ _ eq => nomatch (show (none : Option Rq) = some _ from eq)
theorem fabRetryExpiry (dt : Nat) (dst : Nat) (cls : Nat) (seq : Nat) : Statement (.fabRetryExpiry dt dst cls seq) := fun _ _ eq => nomatch (show (none : Option Rq) = some _ from eq)
theorem fabDataReceived (dt : Nat) (rx : FabRx) (f : FabFrame) : Statement (.fabDataReceived dt rx f) := fun _ _ eq => nomatch (show (none : Option Rq) = some _ from eq)
theorem fabAckReceived (dt : Nat) (rx : FabRx) (f : FabFrame) : Statement (.fabAckReceived dt rx f) := fun _ _ eq => nomatch (show (none : Option Rq) = some _ from eq)
theorem fabRequestReceived (dt : Nat) (rx : FabRx) (f : FabFrame) : Statement (.fabRequestReceived dt rx f) := fun _ _ eq => nomatch (show (none : Option Rq) = some _ from eq)
theorem fabResponseReceived (dt : Nat) (rx : FabRx) (f : FabFrame) : Statement (.fabResponseReceived dt rx f) := fun _ _ eq => nomatch (show (none : Option Rq) = some _ from eq)
theorem egressDequeue (dt : Nat) (port : Nat) : Statement (.egressDequeue dt port) := fun _ _ eq => nomatch (show (none : Option Rq) = some _ from eq)
theorem responseCacheExpiry (dt : Nat) : Statement (.responseCacheExpiry dt) := fun _ _ eq => nomatch (show (none : Option Rq) = some _ from eq)
theorem timAddendWrite (dt : Nat) (rq : Rq) (v : Word) : Statement (.timAddendWrite dt rq v) := fun h _ eq => Option.some.inj (show some rq = some _ from eq) ▸ and1_0 (show (rq.wellFormed) = true from h)
theorem timSlewWrite (dt : Nat) (rq : Rq) (v : Word) : Statement (.timSlewWrite dt rq v) := fun h _ eq => Option.some.inj (show some rq = some _ from eq) ▸ and1_0 (show (rq.wellFormed) = true from h)
theorem slewComplete (dt : Nat) : Statement (.slewComplete dt) := fun _ _ eq => nomatch (show (none : Option Rq) = some _ from eq)
theorem timStepWrite (dt : Nat) (rq : Rq) (v : Word) : Statement (.timStepWrite dt rq v) := fun h _ eq => Option.some.inj (show some rq = some _ from eq) ▸ and1_0 (show (rq.wellFormed) = true from h)
theorem timSetCommit (dt : Nat) (rq : Rq) (v : Word) : Statement (.timSetCommit dt rq v) := fun h _ eq => Option.some.inj (show some rq = some _ from eq) ▸ and1_0 (show (rq.wellFormed) = true from h)
theorem ptpSyncReceived (dt : Nat) (h : PtpHead) (rx : Nat) : Statement (.ptpSyncReceived dt h rx) := fun _ _ eq => nomatch (show (none : Option Rq) = some _ from eq)
theorem ptpFollowUpReceived (dt : Nat) (h : PtpHead) (origin : Nat) (corr : Int) (egress : List (Nat × Nat)) : Statement (.ptpFollowUpReceived dt h origin corr egress) := fun _ _ eq => nomatch (show (none : Option Rq) = some _ from eq)
theorem ptpPdelayReqReceived (dt : Nat) (h : PtpHead) (rx : Nat) (tx : Nat) : Statement (.ptpPdelayReqReceived dt h rx tx) := fun _ _ eq => nomatch (show (none : Option Rq) = some _ from eq)
theorem ptpPdelayRespReceived (dt : Nat) (h : PtpHead) (t2 : Nat) (t3 : Nat) (rx : Nat) : Statement (.ptpPdelayRespReceived dt h t2 t3 rx) := fun _ _ eq => nomatch (show (none : Option Rq) = some _ from eq)
theorem ptpAnnounceReceived (dt : Nat) (h : PtpHead) (a : PtpAnnounce) : Statement (.ptpAnnounceReceived dt h a) := fun _ _ eq => nomatch (show (none : Option Rq) = some _ from eq)
theorem ptpDelayReqReceived (dt : Nat) (h : PtpHead) (rx : Nat) : Statement (.ptpDelayReqReceived dt h rx) := fun _ _ eq => nomatch (show (none : Option Rq) = some _ from eq)
theorem ptpSyncSend (dt : Nat) (port : Nat) (tx : Nat) : Statement (.ptpSyncSend dt port tx) := fun _ _ eq => nomatch (show (none : Option Rq) = some _ from eq)
theorem ptpAnnounceSend (dt : Nat) (port : Nat) : Statement (.ptpAnnounceSend dt port) := fun _ _ eq => nomatch (show (none : Option Rq) = some _ from eq)
theorem ptpPdelaySend (dt : Nat) (port : Nat) (tx : Nat) : Statement (.ptpPdelaySend dt port tx) := fun _ _ eq => nomatch (show (none : Option Rq) = some _ from eq)
theorem announceTimeout (dt : Nat) (port : Nat) : Statement (.announceTimeout dt port) := fun _ _ eq => nomatch (show (none : Option Rq) = some _ from eq)
theorem followUpTimeout (dt : Nat) (port : Nat) : Statement (.followUpTimeout dt port) := fun _ _ eq => nomatch (show (none : Option Rq) = some _ from eq)
theorem actionSubmit (dt : Nat) (rq : Rq) (v : Word) : Statement (.actionSubmit dt rq v) := fun h _ eq => Option.some.inj (show some rq = some _ from eq) ▸ and1_0 (show (rq.wellFormed) = true from h)
theorem actionWithdraw (dt : Nat) (rq : Rq) (v : Word) : Statement (.actionWithdraw dt rq v) := fun h _ eq => Option.some.inj (show some rq = some _ from eq) ▸ and1_0 (show (rq.wellFormed) = true from h)
theorem actionExecute (dt : Nat) : Statement (.actionExecute dt) := fun _ _ eq => nomatch (show (none : Option Rq) = some _ from eq)
theorem rtcSetWrite (dt : Nat) (rq : Rq) (v : Word) : Statement (.rtcSetWrite dt rq v) := fun h _ eq => Option.some.inj (show some rq = some _ from eq) ▸ and1_0 (show (rq.wellFormed) = true from h)
theorem rtcSetTakeEffect (dt : Nat) : Statement (.rtcSetTakeEffect dt) := fun _ _ eq => nomatch (show (none : Option Rq) = some _ from eq)
theorem rtcSecondCarry (dt : Nat) : Statement (.rtcSecondCarry dt) := fun _ _ eq => nomatch (show (none : Option Rq) = some _ from eq)
theorem rtcTrackCompare (dt : Nat) : Statement (.rtcTrackCompare dt) := fun _ _ eq => nomatch (show (none : Option Rq) = some _ from eq)
theorem rtcCalWrite (dt : Nat) (rq : Rq) (v : Word) : Statement (.rtcCalWrite dt rq v) := fun h _ eq => Option.some.inj (show some rq = some _ from eq) ▸ and1_0 (show (rq.wellFormed) = true from h)
theorem rtcCalWindow (dt : Nat) : Statement (.rtcCalWindow dt) := fun _ _ eq => nomatch (show (none : Option Rq) = some _ from eq)
theorem rtcOscStop (dt : Nat) : Statement (.rtcOscStop dt) := fun _ _ eq => nomatch (show (none : Option Rq) = some _ from eq)
theorem rtcOsfClear (dt : Nat) (rq : Rq) (v : Word) : Statement (.rtcOsfClear dt rq v) := fun h _ eq => Option.some.inj (show some rq = some _ from eq) ▸ and1_0 (show (rq.wellFormed) = true from h)
theorem cellSwitchover (dt : Nat) : Statement (.cellSwitchover dt) := fun _ _ eq => nomatch (show (none : Option Rq) = some _ from eq)
theorem mainSupplyReturn (dt : Nat) : Statement (.mainSupplyReturn dt) := fun _ _ eq => nomatch (show (none : Option Rq) = some _ from eq)
theorem alarmWrite (dt : Nat) (rq : Rq) (n : Nat) (which : Nat) (v : Word) : Statement (.alarmWrite dt rq n which v) := fun h _ eq => Option.some.inj (show some rq = some _ from eq) ▸ and3_0 (show (rq.wellFormed && decide (n < 2) && decide (which < 5)) = true from h)
theorem clrRejWrite (dt : Nat) (rq : Rq) : Statement (.clrRejWrite dt rq) := fun h _ eq => Option.some.inj (show some rq = some _ from eq) ▸ and1_0 (show (rq.wellFormed) = true from h)
theorem gauntletOscCheck (dt : Nat) (ok : Bool) : Statement (.gauntletOscCheck dt ok) := fun _ _ eq => nomatch (show (none : Option Rq) = some _ from eq)
theorem lockstepMismatch (dt : Nat) (cx : Nat) (tcm : Bool) : Statement (.lockstepMismatch dt cx tcm) := fun _ _ eq => nomatch (show (none : Option Rq) = some _ from eq)
theorem heartbeatChallenge (dt : Nat) : Statement (.heartbeatChallenge dt) := fun _ _ eq => nomatch (show (none : Option Rq) = some _ from eq)
theorem hbRespWrite (dt : Nat) (rq : Rq) (cx : Nat) (v : Word) : Statement (.hbRespWrite dt rq cx v) := fun h _ eq => Option.some.inj (show some rq = some _ from eq) ▸ and2_0 (show (rq.wellFormed && decide (cx < 2)) = true from h)
theorem gauntletWatchdogExpiry (dt : Nat) : Statement (.gauntletWatchdogExpiry dt) := fun _ _ eq => nomatch (show (none : Option Rq) = some _ from eq)
theorem watchdogDeferLimit (dt : Nat) : Statement (.watchdogDeferLimit dt) := fun _ _ eq => nomatch (show (none : Option Rq) = some _ from eq)
theorem sramScrub (dt : Nat) (ce : Nat) (ue : List (Nat × Nat)) (pass : Bool) : Statement (.sramScrub dt ce ue pass) := fun _ _ eq => nomatch (show (none : Option Rq) = some _ from eq)
theorem dramScrub (dt : Nat) (ce : Nat) (ue : List Nat) (pass : Bool) : Statement (.dramScrub dt ce ue pass) := fun _ _ eq => nomatch (show (none : Option Rq) = some _ from eq)
theorem regCrcCheck (dt : Nat) (diff : List Nat) : Statement (.regCrcCheck dt diff) := fun _ _ eq => nomatch (show (none : Option Rq) = some _ from eq)
theorem monitorTrip (dt : Nat) (src : Nat) (idx : Nat) (temp : Int) : Statement (.monitorTrip dt src idx temp) := fun _ _ eq => nomatch (show (none : Option Rq) = some _ from eq)
theorem tripStale (dt : Nat) (slot : Nat) : Statement (.tripStale dt slot) := fun _ _ eq => nomatch (show (none : Option Rq) = some _ from eq)
theorem safeStateRelease (dt : Nat) (rq : Rq) (v : Word) : Statement (.safeStateRelease dt rq v) := fun h _ eq => Option.some.inj (show some rq = some _ from eq) ▸ and1_0 (show (rq.wellFormed) = true from h)
theorem keyGo (dt : Nat) (rq : Rq) : Statement (.keyGo dt rq) := fun h _ eq => Option.some.inj (show some rq = some _ from eq) ▸ and1_0 (show (rq.wellFormed) = true from h)
theorem keyMsgDone (dt : Nat) (v : KeyVerdict) : Statement (.keyMsgDone dt v) := fun _ _ eq => nomatch (show (none : Option Rq) = some _ from eq)
theorem debugUnlockExpiry (dt : Nat) : Statement (.debugUnlockExpiry dt) := fun _ _ eq => nomatch (show (none : Option Rq) = some _ from eq)
theorem genDtk (dt : Nat) (rq : Rq) : Statement (.genDtk dt rq) := fun h _ eq => Option.some.inj (show some rq = some _ from eq) ▸ and1_0 (show (rq.wellFormed) = true from h)
theorem keyRequest (dt : Nat) (user : KeyUser) (id : Nat) (usage : Nat) : Statement (.keyRequest dt user id usage) := fun _ _ eq => nomatch (show (none : Option Rq) = some _ from eq)
theorem keyUnwrapDone (dt : Nat) (id : Nat) (usage : Nat) (ok : Bool) (ovlOk : Bool) : Statement (.keyUnwrapDone dt id usage ok ovlOk) := fun _ _ eq => nomatch (show (none : Option Rq) = some _ from eq)
theorem tamper (dt : Nat) (act : Nat) : Statement (.tamper dt act) := fun _ _ eq => nomatch (show (none : Option Rq) = some _ from eq)
theorem tamperFuseDone (dt : Nat) : Statement (.tamperFuseDone dt) := fun _ _ eq => nomatch (show (none : Option Rq) = some _ from eq)
theorem tamperLogEntry (dt : Nat) (act : Nat) : Statement (.tamperLogEntry dt act) := fun _ _ eq => nomatch (show (none : Option Rq) = some _ from eq)
theorem entropyFail (dt : Nat) : Statement (.entropyFail dt) := fun _ _ eq => nomatch (show (none : Option Rq) = some _ from eq)
theorem entropyRetest (dt : Nat) (ok : Bool) : Statement (.entropyRetest dt ok) := fun _ _ eq => nomatch (show (none : Option Rq) = some _ from eq)
theorem updOpen (dt : Nat) (rq : Rq) : Statement (.updOpen dt rq) := fun h _ eq => Option.some.inj (show some rq = some _ from eq) ▸ and1_0 (show (rq.wellFormed) = true from h)
theorem updPut (dt : Nat) (rq : Rq) : Statement (.updPut dt rq) := fun h _ eq => Option.some.inj (show some rq = some _ from eq) ▸ and1_0 (show (rq.wellFormed) = true from h)
theorem updAbort (dt : Nat) (rq : Rq) : Statement (.updAbort dt rq) := fun h _ eq => Option.some.inj (show some rq = some _ from eq) ▸ and1_0 (show (rq.wellFormed) = true from h)
theorem updInstall (dt : Nat) (rq : Rq) : Statement (.updInstall dt rq) := fun h _ eq => Option.some.inj (show some rq = some _ from eq) ▸ and1_0 (show (rq.wellFormed) = true from h)
theorem installDone (dt : Nat) (ok : Bool) : Statement (.installDone dt ok) := fun _ _ eq => nomatch (show (none : Option Rq) = some _ from eq)
theorem updActivate (dt : Nat) (rq : Rq) : Statement (.updActivate dt rq) := fun h _ eq => Option.some.inj (show some rq = some _ from eq) ▸ and1_0 (show (rq.wellFormed) = true from h)
theorem updStage (dt : Nat) (rq : Rq) : Statement (.updStage dt rq) := fun h _ eq => Option.some.inj (show some rq = some _ from eq) ▸ and1_0 (show (rq.wellFormed) = true from h)
theorem updLoadSb (dt : Nat) (rq : Rq) : Statement (.updLoadSb dt rq) := fun h _ eq => Option.some.inj (show some rq = some _ from eq) ▸ and1_0 (show (rq.wellFormed) = true from h)
theorem standbyReady (dt : Nat) (cx : Nat) : Statement (.standbyReady dt cx) := fun _ _ eq => nomatch (show (none : Option Rq) = some _ from eq)
theorem shadowArmed (dt : Nat) : Statement (.shadowArmed dt) := fun _ _ eq => nomatch (show (none : Option Rq) = some _ from eq)
theorem updHandover (dt : Nat) (rq : Rq) : Statement (.updHandover dt rq) := fun h _ eq => Option.some.inj (show some rq = some _ from eq) ▸ and1_0 (show (rq.wellFormed) = true from h)
theorem handoverBoundary (dt : Nat) : Statement (.handoverBoundary dt) := fun _ _ eq => nomatch (show (none : Option Rq) = some _ from eq)
theorem handoverTimeout (dt : Nat) : Statement (.handoverTimeout dt) := fun _ _ eq => nomatch (show (none : Option Rq) = some _ from eq)
theorem mailboxSealed (dt : Nat) : Statement (.mailboxSealed dt) := fun _ _ eq => nomatch (show (none : Option Rq) = some _ from eq)
theorem updRevert (dt : Nat) (rq : Rq) : Statement (.updRevert dt rq) := fun h _ eq => Option.some.inj (show some rq = some _ from eq) ▸ and1_0 (show (rq.wellFormed) = true from h)
theorem updCommit (dt : Nat) (rq : Rq) : Statement (.updCommit dt rq) := fun h _ eq => Option.some.inj (show some rq = some _ from eq) ▸ and1_0 (show (rq.wellFormed) = true from h)
theorem probationExpiry (dt : Nat) : Statement (.probationExpiry dt) := fun _ _ eq => nomatch (show (none : Option Rq) = some _ from eq)
theorem overwriteDone (dt : Nat) (ok : Bool) : Statement (.overwriteDone dt ok) := fun _ _ eq => nomatch (show (none : Option Rq) = some _ from eq)
theorem updCold (dt : Nat) (rq : Rq) : Statement (.updCold dt rq) := fun h _ eq => Option.some.inj (show some rq = some _ from eq) ▸ and1_0 (show (rq.wellFormed) = true from h)
theorem uartHeaderFrame (dt : Nat) (frame : List Byte) (v : UpdVerdict) : Statement (.uartHeaderFrame dt frame v) := fun _ _ eq => nomatch (show (none : Option Rq) = some _ from eq)
theorem uartChunkFrame (dt : Nat) (frame : List Byte) (v : UpdVerdict) : Statement (.uartChunkFrame dt frame v) := fun _ _ eq => nomatch (show (none : Option Rq) = some _ from eq)
theorem recChannelSample (dt : Nat) (ch : Nat) : Statement (.recChannelSample dt ch) := fun _ _ eq => nomatch (show (none : Option Rq) = some _ from eq)
theorem recIntervalClose (dt : Nat) : Statement (.recIntervalClose dt) := fun _ _ eq => nomatch (show (none : Option Rq) = some _ from eq)
theorem recFlushTimer (dt : Nat) : Statement (.recFlushTimer dt) := fun _ _ eq => nomatch (show (none : Option Rq) = some _ from eq)
theorem recFlushWrite (dt : Nat) (rq : Rq) (v : Word) : Statement (.recFlushWrite dt rq v) := fun h _ eq => Option.some.inj (show some rq = some _ from eq) ▸ and1_0 (show (rq.wellFormed) = true from h)
theorem recFlushDone (dt : Nat) (fails : List Nat) : Statement (.recFlushDone dt fails) := fun _ _ eq => nomatch (show (none : Option Rq) = some _ from eq)
theorem recCursorWrite (dt : Nat) (rq : Rq) (v : Word) : Statement (.recCursorWrite dt rq v) := fun h _ eq => Option.some.inj (show some rq = some _ from eq) ▸ and1_0 (show (rq.wellFormed) = true from h)
theorem recCursorLoadDone (dt : Nat) (bad : Option (List Byte)) : Statement (.recCursorLoadDone dt bad) := fun _ _ eq => nomatch (show (none : Option Rq) = some _ from eq)
theorem recClearWrite (dt : Nat) (rq : Rq) (v : Word) : Statement (.recClearWrite dt rq v) := fun h _ eq => Option.some.inj (show some rq = some _ from eq) ▸ and1_0 (show (rq.wellFormed) = true from h)
theorem recClearDone (dt : Nat) : Statement (.recClearDone dt) := fun _ _ eq => nomatch (show (none : Option Rq) = some _ from eq)
theorem recArchiveStart (dt : Nat) : Statement (.recArchiveStart dt) := fun _ _ eq => nomatch (show (none : Option Rq) = some _ from eq)
theorem recRegionRetry (dt : Nat) : Statement (.recRegionRetry dt) := fun _ _ eq => nomatch (show (none : Option Rq) = some _ from eq)
theorem kmpHandshake (dt : Nat) (console : Bool) (tls : Bool) (keyHash : List Byte) (unwrap : Bool) : Statement (.kmpHandshake dt console tls keyHash unwrap) := fun _ _ eq => nomatch (show (none : Option Rq) = some _ from eq)
theorem kmpRequest (dt : Nat) (session : Nat) (tag : Nat) (nops : Nat) (zeros : Bool) (ops : List KmpOp) : Statement (.kmpRequest dt session tag nops zeros ops) := fun _ _ eq => nomatch (show (none : Option Rq) = some _ from eq)
theorem kmpIdleTimeout (dt : Nat) (session : Nat) : Statement (.kmpIdleTimeout dt session) := fun _ _ eq => nomatch (show (none : Option Rq) = some _ from eq)
theorem diLevelChange (dt : Nat) (line : Nat) (high : Bool) : Statement (.diLevelChange dt line high) := fun _ _ eq => nomatch (show (none : Option Rq) = some _ from eq)
theorem aiConversion (dt : Nat) (conv : List Int) : Statement (.aiConversion dt conv) := fun _ _ eq => nomatch (show (none : Option Rq) = some _ from eq)
theorem aiSelfCheck (dt : Nat) (ok : Bool) : Statement (.aiSelfCheck dt ok) := fun _ _ eq => nomatch (show (none : Option Rq) = some _ from eq)
theorem crystalRestart (dt : Nat) : Statement (.crystalRestart dt) := fun _ _ eq => nomatch (show (none : Option Rq) = some _ from eq)
theorem tamperSourceChange (dt : Nat) (act : Nat) : Statement (.tamperSourceChange dt act) := fun _ _ eq => nomatch (show (none : Option Rq) = some _ from eq)
theorem selectionRecordCommitted (dt : Nat) : Statement (.selectionRecordCommitted dt) := fun _ _ eq => nomatch (show (none : Option Rq) = some _ from eq)
theorem updCommandDone (dt : Nat) (v : UpdVerdict) : Statement (.updCommandDone dt v) := fun _ _ eq => nomatch (show (none : Option Rq) = some _ from eq)
theorem mgtPortTraffic (dt : Nat) (kind : Nat) (v6 : Bool) (addr : Nat) : Statement (.mgtPortTraffic dt kind v6 addr) := fun _ _ eq => nomatch (show (none : Option Rq) = some _ from eq)
theorem stationPortLinkChange (dt : Nat) (port : Nat) (up : Bool) : Statement (.stationPortLinkChange dt port up) := fun _ _ eq => nomatch (show (none : Option Rq) = some _ from eq)
theorem mgtLinkChange (dt : Nat) (up : Bool) : Statement (.mgtLinkChange dt up) := fun _ _ eq => nomatch (show (none : Option Rq) = some _ from eq)
theorem uartBadFrame (dt : Nat) : Statement (.uartBadFrame dt) := fun _ _ eq => nomatch (show (none : Option Rq) = some _ from eq)

end Sys2Proof.Laws.Requester
end

