-- ==== Sys2Proof/Laws/Raise.lean ====
section
/-! SUPPORT. What logging an event, releasing event tasks, tripping a group, entering a safe state and raising a SAF source can do (R130, R183,
R425 to R428, R487): only words of PGR, LPE, MPG, CSB, SAF, UPD and REC change, and only those units' own state besides the station pages. -/
namespace Sys2Proof.Machine

/-- The blocks some of whose words raising a source can change. -/
def raiseBlocks : List Nat := [4, 6, 7, 12, 16, 18, 19]

/-- Words of SAF that raising a source does not change. -/
def raiseKept : List Nat := [R.SAF_CX_STAT, R.SAF_CFG, R.SAF_ECC_CE, R.SAF_ECC_UE, R.SAF_SCRUB_S, R.SAF_SCRUB_D, R.SAF_TEMP, R.SAF_CRC_CAP,
  R.SAF_CRC_FULL, R.SAF_HBn_CHAL 0, R.SAF_HBn_CHAL 1]

/-- Raising a source can change the word. -/
abbrev raiseHits (k : Nat) : Prop := keyBlock k ∈ raiseBlocks ∧ k ∉ raiseKept

theorem raiseKept_block : ∀ k ∈ raiseKept, keyBlock k = 16 := by decide

theorem raiseHits_of {k b : Nat} (h : keyBlock k = b) (hb : b ∈ raiseBlocks) (h16 : b ≠ 16) : raiseHits k :=
  ⟨h ▸ hb, fun hk => h16 (h ▸ raiseKept_block k hk)⟩

/-- Only words of some blocks changed, and only the state of PGR, LPE, MPG, CSB, SAF and REC and the station pages. -/
structure RaiseOnly (s t : State) : Prop where
  words : ∀ k, ¬ raiseHits k → t.word k = s.word k
  rest : t = { s with words := t.words, dram := t.dram, cache := t.cache, hwSet := t.hwSet, freeCount := t.freeCount,
                      emitted := t.emitted, pgr := t.pgr, lpe := t.lpe, csb := t.csb, saf := t.saf, recd := t.recd, mpg := t.mpg }

theorem RaiseOnly.refl (s : State) : RaiseOnly s s := ⟨fun _ _ => rfl, rfl⟩

theorem RaiseOnly.trans {s t u : State} (h1 : RaiseOnly s t) (h2 : RaiseOnly t u) : RaiseOnly s u :=
  ⟨fun k h => (h2.words k h).trans (h1.words k h), by rw [h2.rest, h1.rest]⟩

/-- A state that differs only in what raising may change beside the words. -/
theorem RaiseOnly.of_rest {s t : State} (hw : t.words = s.words)
    (h : t = { s with words := t.words, dram := t.dram, cache := t.cache, hwSet := t.hwSet, freeCount := t.freeCount,
                      emitted := t.emitted, pgr := t.pgr, lpe := t.lpe, csb := t.csb, saf := t.saf, recd := t.recd, mpg := t.mpg }) :
    RaiseOnly s t := ⟨fun k _ => by unfold State.word; rw [hw], h⟩

theorem RaiseOnly.recd (s : State) (x : RecSt) : RaiseOnly s { s with recd := x } := .of_rest rfl rfl
theorem RaiseOnly.pgr (s : State) (x : PgrSt) : RaiseOnly s { s with pgr := x } := .of_rest rfl rfl
theorem RaiseOnly.csb (s : State) (x : CsbSt) : RaiseOnly s { s with csb := x } := .of_rest rfl rfl
theorem RaiseOnly.setSlot (s : State) (n : Nat) (x : Slot) : RaiseOnly s (s.setSlot n x) := .of_rest rfl rfl
theorem RaiseOnly.saf (s : State) (x : SafSt) : RaiseOnly s { s with saf := x } := .of_rest rfl rfl

theorem RaiseOnly.setWord (s : State) (k : Nat) (v : Word) (h : raiseHits k) : RaiseOnly s (s.setWord k v) :=
  ⟨fun j hj => s.word_setWord_ne v (fun e => hj (by rw [e]; exact h)), rfl⟩

theorem RaiseOnly.set (s : State) (f : Fld) (v : Nat) (h : raiseHits f.key) : RaiseOnly s (s.set f v) := .setWord s _ _ h
theorem RaiseOnly.setBit (s : State) (f : Fld) (b : Bool) (h : raiseHits f.key) : RaiseOnly s (s.setBit f b) := .set s _ _ h
theorem RaiseOnly.inc (s : State) (f : Fld) (h : raiseHits f.key) : RaiseOnly s (s.inc f) := .set s _ _ h
theorem RaiseOnly.flag (s : State) (f : Fld) (h : raiseHits f.key) : RaiseOnly s (s.flag f) :=
  ⟨fun j hj => s.word_flag_other f j (fun e => hj (by rw [e]; exact h)), rfl⟩

/-- A step repeated over a list. -/
theorem RaiseOnly.foldl {α : Type} (f : State → α → State) (l : List α) (h : ∀ s, ∀ a ∈ l, RaiseOnly s (f s a)) (s : State) :
    RaiseOnly s (l.foldl f s) := by
  induction l generalizing s with
  | nil => exact .refl s
  | cons a t ih =>
    exact (h s a (List.mem_cons_self ..)).trans (ih (fun s b hb => h s b (List.mem_cons_of_mem a hb)) (f s a))

/-- A window or per-instance key of an instance below 2¹⁶ stays in its block. -/
theorem keyBlock_window (k n : Nat) (hk : k < 0x1000000) (hn : n < 65536) : keyBlock (k + 0x1000000 * n) = k / 0x10000 := by
  unfold keyBlock
  rw [if_pos (by omega)]
  omega

/-! ### Records -/

theorem State.showFill_raise (s : State) : RaiseOnly s s.showFill := .set s _ _ (by decide)

theorem State.startFlush_raise (s : State) : RaiseOnly s s.startFlush := by
  unfold State.startFlush
  split
  · exact .of_rest rfl rfl
  · split
    · exact .of_rest rfl rfl
    · exact (RaiseOnly.recd s _).trans (.set _ F.REC_STAT.FLUSHING _ (by decide))

theorem State.fitRecord_raise (r : RecRecord) (n : Nat) (s : State) : RaiseOnly s (s.fitRecord r n) := by
  induction n generalizing s with
  | zero => exact .refl s
  | succ n ih =>
    unfold State.fitRecord
    split
    · exact .of_rest rfl rfl
    · have h1 : RaiseOnly s ((s.inc F.REC_DROP_CNT.COUNT).flag F.REC_ERR.DROP) := (RaiseOnly.inc s _ (by decide)).trans (.flag _ _ (by decide))
      dsimp only
      split
      · exact (h1.trans (.recd _ _)).trans (ih _)
      · exact h1

theorem State.queueRecord_raise (mk : Nat → RecRecord) (s : State) : RaiseOnly s (s.queueRecord mk) := by
  have h1 : RaiseOnly s (({ s with recd := { s.recd with rseq := (s.recd.rseq + 1) % 2 ^ 32 } }).set F.REC_RSEQ.SEQ ((s.recd.rseq + 1) % 2 ^ 32)) :=
    (RaiseOnly.recd s _).trans (.set _ F.REC_RSEQ.SEQ _ (by decide))
  have h2 (n : Nat) := (h1.trans (State.fitRecord_raise (mk ((s.recd.rseq + 1) % 2 ^ 32)) n _)).trans (State.showFill_raise _)
  unfold State.queueRecord
  dsimp only
  split
  · exact (h2 _).trans (State.startFlush_raise _)
  · exact h2 _

theorem State.logData_raise (s : State) (src code index data sev : Nat) : RaiseOnly s (s.logData src code index data sev) := by
  unfold State.logData
  split
  · exact .refl s
  · split
    · exact (RaiseOnly.recd s _).trans (.inc _ F.REC_COAL_CNT.COUNT (by decide))
    · exact (State.queueRecord_raise _ s).trans (.inc _ _ (by decide))

/-- A logged event changes only REC (R487). -/
theorem State.log_raise (s : State) (src code index sev : Nat) : RaiseOnly s (s.log src code index sev) :=
  (State.logData_raise s ..).trans (.of_rest rfl rfl)

/-! ### Event tasks -/

theorem State.releaseEvent_raise (s : State) (t : Nat) (h : t < 64) : RaiseOnly s (s.releaseEvent t) := by
  have ht (k : Nat) (hk : k < 0x1000000) : keyBlock (k + 0x1000000 * t) = k / 0x10000 := keyBlock_window k t hk (by omega)
  have hs : raiseHits (F.T_STAT.STATE t).key := raiseHits_of (k := 0x040100 + 0x1000000 * t) (ht _ (by decide)) (by decide) (by decide)
  have hl : raiseHits (F.T_LOST.COUNT t).key := raiseHits_of (k := 0x04010C + 0x1000000 * t) (ht _ (by decide)) (by decide) (by decide)
  have hr : raiseHits (readyFld t).key := by
    have : t / 32 = 0 ∨ t / 32 = 1 := by omega
    rcases this with e | e <;> (simp only [readyFld, R.PGR_READYn, e]; decide)
  unfold State.releaseEvent
  split
  · exact .refl s
  · split
    · exact ((RaiseOnly.pgr s _).trans (.set _ _ _ hs)).trans (.set _ _ _ hr)
    · split
      · exact .set _ _ _ hs
      · exact (RaiseOnly.inc _ _ hl).trans (.flag _ _ (by decide))

theorem State.releaseWhere_raise (s : State) (p : State → Nat → Bool) : RaiseOnly s (s.releaseWhere p) := by
  refine RaiseOnly.foldl _ _ (fun s t ht => ?_) s
  split
  · exact State.releaseEvent_raise s t (List.mem_range.mp ht)
  · exact .refl s

/-! ### Station pages, targets, slots -/

theorem State.updPage_raise (s : State) (stn : Nat) (f : Page → Page) : RaiseOnly s (s.updPage stn f) := .of_rest rfl rfl

theorem State.pageWrite_raise (s : State) (stn off : Nat) (bs : List Byte) : RaiseOnly s (s.pageWrite stn off bs) := by
  unfold State.pageWrite
  dsimp only
  split
  · split
    · exact State.updPage_raise s _ _
    · exact .of_rest rfl rfl
  · exact .of_rest rfl rfl

theorem State.outField_raise (s : State) (stn ofs dt : Nat) (n : Num) : RaiseOnly s (s.outField stn ofs dt n) :=
  ((State.pageWrite_raise s ..).trans (State.pageWrite_raise _ ..)).trans (State.pageWrite_raise _ ..)

theorem State.writeTarget_raise (s : State) (n src : Nat) (v : Int) (h : n < 512) : RaiseOnly s (s.writeTarget n src v) := by
  unfold State.writeTarget
  split
  · rename_i hn
    split
    · exact .flag _ _ (by decide)
    · split
      · exact .refl s
      · split
        · exact .of_rest rfl rfl
        · refine (RaiseOnly.set s _ _ ?_).trans (.of_rest rfl rfl)
          interval_cases n <;> decide
  · dsimp only
    split
    · exact .flag _ _ (by decide)
    · split
      · exact .refl s
      · refine (RaiseOnly.set s _ _ ?_).trans (.of_rest rfl rfl)
        exact raiseHits_of (k := 0x070108 + 0x1000000 * (n - 16)) (keyBlock_window _ _ (by decide) (by omega)) (by decide) (by decide)

theorem State.commitLoop_raise (s : State) (n : Nat) (m : Int) : RaiseOnly s (s.commitLoop n m) := by
  unfold State.commitLoop
  dsimp only
  split
  · exact State.outField_raise s ..
  · exact State.writeTarget_raise s _ _ _ (Nat.mod_lt _ (by decide))
  · exact .refl s

theorem lpn_block {n k : Nat} (hn : n < 4096) (hk : k < 0x1000000) (h6 : k / 0x10000 = 6) : raiseHits (k + 0x1000000 * n) :=
  raiseHits_of (b := 6) (by rw [keyBlock_window k n hk (by omega), h6]) (by decide) (by decide)

theorem lpe_block {k : Nat} (h : k < 0x10000) : raiseHits (0x060000 + k) :=
  raiseHits_of (b := 6) (by unfold keyBlock; rw [if_pos (by omega)]; omega) (by decide) (by decide)

theorem State.putMode_raise (s : State) (n m : Nat) (h : n < 4096) : RaiseOnly s (s.putMode n m) :=
  (((RaiseOnly.setSlot s n _).trans (.set _ (F.LPn_MODE.MODE n) _ (lpn_block h (k := 0x060100) (by decide) (by decide)))).trans
    (.set _ (F.LPn_STAT.MODE n) _ (lpn_block h (k := 0x060104) (by decide) (by decide)))).trans (.set _ F.LPE_STAT.CLOSED _ (by decide))

theorem State.enterSafe_raise (s : State) (n : Nat) (m : Int) (h : n < 4096) : RaiseOnly s (s.enterSafe n m) :=
  ((RaiseOnly.setSlot s n _).trans (State.putMode_raise _ n 3 h)).trans
    (.set _ (F.LPn_OUT.VALUE n) _ (lpn_block h (k := 0x060118) (by decide) (by decide)))

theorem State.updFlt_raise (s : State) (n : Nat) (h : n < 4096) : RaiseOnly s (s.updFlt n) := by
  refine (RaiseOnly.setBit s _ _ (lpn_block h (by decide) (by decide))).trans (.setBit _ _ _ ?_)
  have := lpe_block (k := 0x400 + 0x4 * (n / 32)) (by omega)
  rwa [← Nat.add_assoc] at this

theorem State.slotPresent_lt {s : State} {n : Nat} (h : s.slotPresent n = true) : n < 4096 := by
  unfold State.slotPresent at h
  simp only [Bool.and_eq_true, decide_eq_true_eq] at h
  exact h.1

theorem State.members_lt {s : State} {g n : Nat} (h : n ∈ s.members g) : n < 4096 := by
  unfold State.members State.enabledSlots at h
  exact State.slotPresent_lt (List.mem_filter.mp (List.mem_filter.mp h).1).2

/-- A group's trip changes only PGR's pages, MPG's targets and LPE (R183). -/
theorem State.tripGroup_raise (s : State) (g : Nat) (hg : g < 4096) : RaiseOnly s (s.tripGroup g) := by
  unfold State.tripGroup
  have hm : ∀ n ∈ s.members g, n < 4096 := fun n h => State.members_lt h
  split
  · exact .refl s
  · rename_i lead rest e
    rw [e] at hm
    refine ((State.commitLoop_raise s lead _).trans (RaiseOnly.foldl _ _ (fun s n hn => ?_) _)).trans (.set _ _ _ ?_)
    · have h := hm n hn
      exact (((State.enterSafe_raise s n _ h).trans (.flag _ _ (lpn_block h (by decide) (by decide)))).trans
        (.set _ _ _ (lpn_block h (by decide) (by decide)))).trans (State.updFlt_raise _ n h)
    · have := lpe_block (k := 0x40 + 0x4 * (g / 32)) (by omega)
      rwa [← Nat.add_assoc] at this

/-! ### Safe states and sources -/

theorem RaiseOnly.emit (s : State) (e : Emit) : RaiseOnly s (s.emit e) := .of_rest rfl rfl

theorem State.driveFo_raise (s : State) (n : Nat) : RaiseOnly s (s.driveFo n) := (RaiseOnly.emit s _).trans (.emit _ _)

theorem State.safe1_raise (s : State) : RaiseOnly s s.safe1 := by
  have h1 : RaiseOnly s (if s.get F.CSB_STAT.STATE = 0 then s else (s.set F.CSB_STAT.STATE 10).flag F.CSB_ERR.BLOCKED) := by
    split
    · exact .refl s
    · exact (RaiseOnly.set s _ _ (by decide)).trans (.flag _ _ (by decide))
  unfold State.safe1
  dsimp only
  split
  · refine (h1.trans (.csb _ _)).trans (RaiseOnly.foldl _ _ (fun s n _ => ?_) _)
    split
    · exact State.driveFo_raise s n
    · exact .refl s
  · exact h1

theorem State.get_lt_of (s : State) (f : Fld) {w b : Nat} (h : f.width ≤ w) (hb : 2 ^ w ≤ b) : s.get f < b :=
  Nat.lt_of_lt_of_le (s.get_lt f) (Nat.le_trans (Nat.pow_le_pow_right (by decide) h) hb)

theorem State.safetyGroups_lt {s : State} {k g : Nat} (h : g ∈ s.safetyGroups k) : g < 4096 := by
  unfold State.safetyGroups at h
  obtain ⟨n, _, rfl⟩ := List.mem_map.mp (List.mem_dedup.mp h)
  exact s.get_lt_of (T.LPE_SLOT.GRP n) (w := 12) (show (8 : Nat) ≤ 12 by decide) (by decide)

theorem State.enterSafeState_raise (s : State) (k : Nat) : RaiseOnly s (s.enterSafeState k) := by
  unfold State.enterSafeState
  dsimp only
  split
  · exact .refl s
  · have h1 : RaiseOnly s (s.set ⟨R.SAF_STAT, 3 + k, 1⟩ 1) := .set s _ _ (by show raiseHits R.SAF_STAT; decide)
    split
    · exact h1.trans (State.safe1_raise _)
    · exact h1.trans (RaiseOnly.foldl _ _ (fun s g hg => State.tripGroup_raise s g (State.safetyGroups_lt hg)) _)
    · exact h1.trans (RaiseOnly.foldl _ _ (fun s g hg => State.tripGroup_raise s g (State.safetyGroups_lt hg)) _)
    · exact h1

theorem State.showAlarm_raise (s : State) (f st c t n g out : Bool) : RaiseOnly s (s.showAlarm f st c t n g out) :=
  ((((((RaiseOnly.setBit s _ _ (by decide)).trans (.setBit _ _ _ (by decide))).trans (.setBit _ _ _ (by decide))).trans
    (.setBit _ _ _ (by decide))).trans (.setBit _ _ _ (by decide))).trans (.setBit _ _ _ (by decide))).trans (.setBit _ _ _ (by decide))

theorem State.driveAlarm_raise (s : State) (was out : Bool) : RaiseOnly s (s.driveAlarm was out) := by
  unfold State.driveAlarm
  split
  · exact .refl s
  · exact .emit s _

theorem State.updAlarm_raise (s : State) : RaiseOnly s s.updAlarm :=
  (State.showAlarm_raise s ..).trans (State.driveAlarm_raise _ ..)

theorem State.settle_raise (s : State) : RaiseOnly s s.settle := by
  unfold State.settle
  split
  · exact State.updAlarm_raise s
  · exact .refl s

theorem State.probationFault_raise (s : State) (src idx : Nat) : RaiseOnly s (s.probationFault src idx) := by
  have h (c : Bool) : RaiseOnly s (if c = true then s.set F.UPD_STAT.HSTATE 6 else s) := by
    split
    · exact .set s _ _ (by decide)
    · exact .refl s
  exact h _

theorem safLog_block (e o : Nat) (he : e < 64) (ho : o < 16) : raiseHits (tabKey 16 (o + 16 * e)) := by
  have h1 : keyBlock (tabKey 16 (o + 16 * e)) = 16 := by unfold keyBlock tabKey; rw [if_neg (by omega)]; omega
  refine ⟨by rw [h1]; decide, fun h => ?_⟩
  have h2 : ∀ k ∈ raiseKept, k < 0x1000000 := by decide
  have := h2 _ h
  unfold tabKey at this
  omega

theorem State.logFault_raise (s : State) (src idx safe : Nat) (a b c : Bool) : RaiseOnly s (s.logFault src idx safe a b c) := by
  have he : (s.get F.SAF_LOG_SEQ.SEQ + 1) % 2 ^ 32 % 64 < 64 := Nat.mod_lt _ (by decide)
  unfold State.logFault
  dsimp only
  exact ((((((RaiseOnly.set s _ _ (by decide)).trans (.set _ _ _ (safLog_block _ 0 he (by decide)))).trans
    (.set _ _ _ (safLog_block _ 4 he (by decide)))).trans (.setWord _ _ _ (safLog_block _ 8 he (by decide)))).trans
    (.setWord _ _ _ (safLog_block _ 12 he (by decide)))).trans (State.log_raise _ ..)).trans (State.releaseWhere_raise _ _)

theorem State.raiseWith_raise (s : State) (src idx : Nat) (takeover wdog : Bool) : RaiseOnly s (s.raiseWith src idx takeover wdog) := by
  have h1 : RaiseOnly s (s.flag ⟨R.SAF_FLT_LAT, src, 1⟩) := .flag s _ (by show raiseHits R.SAF_FLT_LAT; decide)
  have h2 (mask : Nat) (x : State) : RaiseOnly x ([1, 2, 3, 4].foldl (fun s k => if mask / 2 ^ (k - 1) % 2 = 1 then s.enterSafeState k else s) x) := by
    refine RaiseOnly.foldl _ _ (fun s k _ => ?_) x
    split
    · exact State.enterSafeState_raise s k
    · exact .refl s
  have h3 (mask : Nat) := ((h1.trans (h2 mask _)).trans (State.updAlarm_raise _)).trans (State.probationFault_raise _ src idx)
  unfold State.raiseWith
  dsimp only
  split
  · exact h3 _
  · exact ((h3 _).trans (RaiseOnly.saf _ _)).trans (State.logFault_raise ..)

/-- Raising a SAF source changes only words of PGR, LPE, MPG, CSB, SAF (those of raiseKept apart), UPD and REC, and only those units' state and the station pages. -/
theorem State.raise_raise (s : State) (src idx : Nat) : RaiseOnly s (s.raise src idx) := State.raiseWith_raise s src idx false false

theorem State.lpeFault_raise (s : State) (src idx : Nat) : RaiseOnly s (s.lpeFault src idx) :=
  ((RaiseOnly.flag s _ (by decide)).trans (.inc _ _ (by decide))).trans (State.raise_raise _ src idx)

end Sys2Proof.Machine
end

