-- ==== Sys2Proof/Tests/Slice0.lean ====
section
/-! SUPPORT. Our own tests: ill-formed commands are refused by `wellFormed`, a few steps on small states, and for every statement a witness
that its hypotheses can be met. -/
namespace Sys2Proof.Tests

set_option Elab.async false

open Sys2Proof Sys2Proof.Machine

/-! ### Operands that are all zero, and well formed -/

def hdr0 : SspHeader := ⟨0, false, false, 0, 0, 0, 0, 0, false, 0, 0, 0, false, 0, 0⟩
def body0 : SspBody := ⟨0, 0, 0, 0, 0, 0, []⟩
def isf0 : IslandFrame := ⟨0, 0, 0, 0, List.replicate 8 0, false, [], []⟩
def frm0 : FabFrame := ⟨0, 0, false, false, false, 0, 0, 0, 0, 0, 0, 0, 0, []⟩
def rx0 : FabRx := ⟨0, false, 0, false, false, false, [], false, false, []⟩
def ph0 : PtpHead := ⟨0, false, 0, 0⟩
def ann0 : PtpAnnounce := ⟨0, 0, 0, 0, 0, 0, 0, 0⟩
def cf0 : CouplingFragment := ⟨0, 0, 0, false, false, false, 0, 0, 0, 0, 0, []⟩
def tf0 : TrajFragment := ⟨0, 0, 0, 0, 0, 0, 0, 0, []⟩

/-! ### Ill-formed commands, one for each check -/

set_option maxRecDepth 20000 in
theorem test_ill_formed_parts :
    ([{ hdr0 with version := 16 }, { hdr0 with type := 16 }, { hdr0 with station := 65536 }, { hdr0 with session := 2 ^ 32 },
      { hdr0 with counter := 2 ^ 63 }, { hdr0 with len := 65536 }, { hdr0 with rxSec := 2 ^ 48 }, { hdr0 with rxNs := 10 ^ 9 }].all
        (fun h => !h.wellFormed)) = true ∧
    ([{ body0 with origin := 65536 }, { body0 with cls := 256 }, { body0 with op := 256 }, { body0 with index := 65536 },
      { body0 with status := 256 }, { body0 with data := List.replicate 241 0 }].all (fun b => !b.wellFormed)) = true ∧
    ([{ isf0 with seq := 256 }, { isf0 with status := 16 }, { isf0 with ftype := 16 }, { isf0 with samples := [] },
      { isf0 with samples := 0x800000 :: List.replicate 7 0 }].all (fun f => !f.wellFormed)) = true ∧
    ([{ frm0 with cls := 8 }, { frm0 with dst := 4096 }, { frm0 with src := 4096 }, { frm0 with hc := 32 }, { frm0 with hlim := 32 },
      { frm0 with seq := 65536 }, { frm0 with route := 2 ^ 64 }, { frm0 with lctr := 2 ^ 64 }, { frm0 with svc := 256 }].all
        (fun f => !f.wellFormed)) = true := by decide

theorem test_ill_formed_more :
    ([{ rx0 with version := 16 }, { rx0 with idle := [4] }].all (fun r => !r.wellFormed)) = true ∧
    ([{ ph0 with domain := 256 }, { ph0 with seq := 65536 }].all (fun h => !h.wellFormed)) = true ∧
    ([{ ann0 with prio1 := 256 }, { ann0 with accuracy := 256 }, { ann0 with variance := 65536 }, { ann0 with prio2 := 256 },
      { ann0 with identity := 2 ^ 64 }, { ann0 with steps := 65536 }, { ann0 with sender := 2 ^ 80 }].all (fun a => !a.wellFormed)) = true ∧
    ([{ cf0 with itie := 2 ^ 32 }, { cf0 with epoch := 2 ^ 32 }, { cf0 with iter := 256 }, { cf0 with k := 256 }, { cf0 with nv := 256 },
      { cf0 with stepMin := 256 }, { cf0 with n := 256, values := List.replicate 256 0 }].all (fun c => !c.wellFormed)) = true ∧
    ([{ tf0 with plan := 2 ^ 32 }, { tf0 with aSec := 2 ^ 32 }, { tf0 with aNs := 2 ^ 32 }, { tf0 with b0Sec := 2 ^ 32 },
      { tf0 with stepMin := 256 }, { tf0 with rch := 65536 }, { tf0 with cnt := 65536 }].all (fun t => !t.wellFormed)) = true ∧
    (([.sio 4096, .fab 4] : List KeyUser).all (fun u => !u.wellFormed)) = true ∧
    (([⟨256, 0, 0, []⟩, ⟨0, 65536, 0, []⟩, ⟨0, 0, 2 ^ 32, []⟩] : List KmpOp).all (fun o => !o.wellFormed)) = true ∧
    (([.aggWindowClose 0 0 0 [(0, [])], .hqcLocalStep 0 [(4128, 0)], .profileTick 0 [(16, [])], .kmpRequest 0 4 0 0 false [],
      .kmpRequest 0 0 (2 ^ 32) 0 false [], .kmpRequest 0 0 0 256 false []] : List Instr).all (fun i => !i.wellFormed)) = true := by decide

theorem test_ill_formed_1 : (([.regWrite 0 (.kmp 4) 4 0 0, .regWrite 0 .cxA 3 0 0, .regWrite 0 .cxA 4 0x1000000 0, .readClear 0 (.kmp 4) 0, .readClear 0 .cxA 0x1000000,
     .tabDataRead 0 (.kmp 4) 0, .tabDataRead 0 .cxA 0x1000000, .cycHostWrite 0 (.kmp 4) 0, .lpeTabDataWrite 0 (.kmp 4) 0,
     .mpgTabDataWrite 0 (.kmp 4) 0, .timNsRead 0 (.kmp 4), .rtcFracRead 0 (.kmp 4), .sysUpLoRead 0 (.kmp 4), .energyLoRead 0 (.kmp 4) 0 0,
     .energyLoRead 0 .cxA 8 0, .energyLoRead 0 .cxA 0 8, .hqcLoRead 0 (.kmp 4) 0, .hqcLoRead 0 .cxA 8, .axPosFracRead 0 (.kmp 4) 0,
     .axPosFracRead 0 .cxA 16, .latchSeqRead 0 (.kmp 4) 0, .latchSeqRead 0 .cxA 8] : List Instr).all (fun i => !i.wellFormed)) = true := by decide

theorem test_ill_formed_2 : (([.latchFreezeExpiry 0 (.kmp 4) 0, .latchFreezeExpiry 0 .cxA 8, .wLatchSeqRead 0 (.kmp 4), .wFreezeExpiry 0 (.kmp 4) 0,
     .wFreezeExpiry 0 .cxA 4128, .hqcWinSelWrite 0 (.kmp 4) 0, .lpnStatRead 0 (.kmp 4), .lpFreezeExpiry 0 (.kmp 4) 0, .lpFreezeExpiry 0 .cxA 4096,
     .lpeWinSelWrite 0 (.kmp 4) 0, .nsvSeqRead 0 (.kmp 4), .mtrHwinSelWrite 0 (.kmp 4) 0, .sysResetWrite 0 (.kmp 4) 0, .domainPowerGood 0 16,
     .domainFail 0 16, .huChargeComplete 0 65536, .islandFrameReceived 0 { isf0 with isl := 2 }, .frameDeadlineMiss 0 2, .islandDown 0 2,
     .islandUp 0 2, .pseudoCycle 0 2, .ptLatch 0 8] : List Instr).all (fun i => !i.wellFormed)) = true := by decide

set_option maxRecDepth 20000 in
theorem test_ill_formed_3 : (([.aggWindowClose 0 2 0 [], .mtrSave 0 (.kmp 4), .helloReceived 0 { hdr0 with port := 2 } 0, .sessionSetupDone 0 4096,
     .inputReceived 0 { hdr0 with port := 2 } [], .watchdogCheck 0 4096, .watchdogExpiry 0 4096, .closeReceived 0 { hdr0 with port := 2 } 0,
     .sspRequestReceived 0 { hdr0 with port := 2 } body0 0 [], .sspRequestReceived 0 hdr0 { body0 with seq := 65536 } 0 [],
     .sspRequestReceived 0 hdr0 body0 0 (List.replicate 241 0), .sspResponseReceived 0 { hdr0 with port := 2 } body0,
     .sspResponseReceived 0 hdr0 { body0 with seq := 65536 }, .sspRequestIssue 0 4096 body0, .sspRequestIssue 0 0 { body0 with seq := 65536 },
     .setTimingApply 0 4096, .sioCloseWrite 0 (.kmp 4) 0, .otherTrafficReceived 0 2 0, .otherTrafficReceived 0 0 4, .launchFetch 0 4096,
     .frameLaunch 0 4096 0, .pageLoadDone 0 4096] : List Instr).all (fun i => !i.wellFormed)) = true := by decide

theorem test_ill_formed_4 : (([.writeBackDone 0 4096, .timedTaskRelease 0 64, .taskSkipLimit 0 64, .pgrTrigWrite 0 (.kmp 4) 0, .regionRequest 0 2 0 0, .regionRelease 0 256,
     .regionViolation 0 256 .cxA false, .regionViolation 0 0 (.kmp 4) false, .exchArm 0 (.kmp 4), .exchAbort 0 (.kmp 4), .plausAction 0 4096,
     .groupTrip 0 256 false, .lpeThirdLate 0 4096, .lpnModeWrite 0 (.kmp 4) 0, .lpnSpWrite 0 (.kmp 4) 0, .lpnManWrite 0 (.kmp 4) 0,
     .lpeGrpResetWrite 0 (.kmp 4) 0, .lpnFltClear 0 (.kmp 4) 0, .axTargetWrite 0 (.kmp 4) 0 0, .axTargetWrite 0 .cxA 16 0,
     .raTargetWrite 0 (.kmp 4) 0, .axLimitWrite 0 (.kmp 4) 0 0 0] : List Instr).all (fun i => !i.wellFormed)) = true := by decide

theorem test_ill_formed_5 : (([.axLimitWrite 0 .cxA 16 0 0, .axLimitWrite 0 .cxA 0 5 0, .axEnable 0 (.kmp 4) 0, .axEnable 0 .cxA 16, .axDisable 0 (.kmp 4) 0,
     .axDisable 0 .cxA 16, .axStop 0 (.kmp 4) 0, .axStop 0 .cxA 16, .axEstop 0 (.kmp 4) 0, .axEstop 0 .cxA 16, .axHome 0 (.kmp 4) 0,
     .axHome 0 .cxA 16, .axClrLim 0 (.kmp 4) 0, .axClrLim 0 .cxA 16, .axClrFlt 0 (.kmp 4) 0, .axClrFlt 0 .cxA 16, .raStop 0 (.kmp 4),
     .raEstop 0 (.kmp 4), .raResync 0 (.kmp 4), .raClrFlt 0 (.kmp 4), .limitTrip 0 16 false, .homeSignalChange 0 16 false] : List Instr).all (fun i => !i.wellFormed)) = true := by decide

theorem test_ill_formed_6 : (([.nsvClrBad 0 (.kmp 4), .nsvThReinit 0 (.kmp 4), .couplingFragmentReceived 0 4096 cf0, .couplingFragmentReceived 0 0 { cf0 with n := 1 },
     .dopHoldWrite 0 (.kmp 4) 0, .fcCommit 0 (.kmp 4), .fcDataWrite 0 (.kmp 4) 0, .trajFragmentReceived 0 4096 tf0 false,
     .trajFragmentReceived 0 0 { tf0 with n := 1 } false, .fiInputChange 0 8 false, .recallTimeout 0 64, .csbReturn 0 (.kmp 4),
     .csbClrFlt 0 (.kmp 4), .csbShed 0 (.kmp 4) 0, .csbShed 0 .cxA 64, .csbRelease 0 (.kmp 4) 0, .csbRelease 0 .cxA 64, .foPulseTest 0 8 0,
     .foPulseTest 0 0 2, .foPulseEnd 0 8, .foPulseSenseTimeout 0 8, .foFeedbackTimeout 0 8] : List Instr).all (fun i => !i.wellFormed)) = true := by decide

set_option maxRecDepth 20000 in
theorem test_ill_formed_7 : (([.fabFrameReceived 0 { rx0 with port := 4 } frm0, .fabFrameReceived 0 rx0 { frm0 with kind := 16 },
     .hatbandReceived 0 { rx0 with port := 4 } frm0, .hatbandReceived 0 rx0 { frm0 with kind := 16 }, .hatbandInstant 0 4, .neighbourLost 0 4,
     .linkSignalLoss 0 4, .linkSignalUp 0 4, .lsaReceived 0 { rx0 with port := 4 } frm0, .lsaReceived 0 rx0 { frm0 with kind := 16 },
     .lsaAgeOut 0 18446744073709551616, .fabDataSend 0 16 0 0 0 false [], .fabDataSend 0 0 4096 0 0 false [], .fabDataSend 0 0 0 8 0 false [],
     .fabDataSend 0 0 0 0 256 false [], .fabDataSend 0 0 0 0 0 false (List.replicate 1025 0), .fabRetryExpiry 0 4096 0 0, .fabRetryExpiry 0 0 8 0,
     .fabRetryExpiry 0 0 0 65536, .fabDataReceived 0 { rx0 with port := 4 } frm0, .fabDataReceived 0 rx0 { frm0 with kind := 16 },
     .fabAckReceived 0 { rx0 with port := 4 } frm0] : List Instr).all (fun i => !i.wellFormed)) = true := by decide

theorem test_ill_formed_8 : (([.fabAckReceived 0 rx0 { frm0 with kind := 16 }, .fabRequestReceived 0 { rx0 with port := 4 } frm0,
     .fabRequestReceived 0 rx0 { frm0 with kind := 16 }, .fabResponseReceived 0 { rx0 with port := 4 } frm0,
     .fabResponseReceived 0 rx0 { frm0 with kind := 16 }, .egressDequeue 0 4, .timAddendWrite 0 (.kmp 4) 0, .timSlewWrite 0 (.kmp 4) 0,
     .timStepWrite 0 (.kmp 4) 0, .timSetCommit 0 (.kmp 4) 0, .ptpSyncReceived 0 { ph0 with port := 6 } 0,
     .ptpFollowUpReceived 0 { ph0 with port := 6 } 0 0 [], .ptpPdelayReqReceived 0 { ph0 with port := 6 } 0 0,
     .ptpPdelayRespReceived 0 { ph0 with port := 6 } 0 0 0, .ptpAnnounceReceived 0 { ph0 with port := 6 } ann0,
     .ptpAnnounceReceived 0 ph0 { ann0 with cls := 256 }, .ptpDelayReqReceived 0 { ph0 with port := 6 } 0, .ptpSyncSend 0 6 0,
     .ptpAnnounceSend 0 6, .ptpPdelaySend 0 4 0, .announceTimeout 0 4, .followUpTimeout 0 6] : List Instr).all (fun i => !i.wellFormed)) = true := by decide

theorem test_ill_formed_9 : (([.actionSubmit 0 (.kmp 4) 0, .actionWithdraw 0 (.kmp 4) 0, .rtcSetWrite 0 (.kmp 4) 0, .rtcCalWrite 0 (.kmp 4) 0, .rtcOsfClear 0 (.kmp 4) 0,
     .alarmWrite 0 (.kmp 4) 0 0 0, .alarmWrite 0 .cxA 2 0 0, .alarmWrite 0 .cxA 0 5 0, .clrRejWrite 0 (.kmp 4), .lockstepMismatch 0 2 false,
     .hbRespWrite 0 (.kmp 4) 0 0, .hbRespWrite 0 .cxA 2 0, .monitorTrip 0 32 0 0, .tripStale 0 4096, .safeStateRelease 0 (.kmp 4) 0,
     .keyGo 0 (.kmp 4), .genDtk 0 (.kmp 4), .keyRequest 0 (.fab 4) 0 0, .tamper 0 32, .tamperLogEntry 0 32, .updOpen 0 (.kmp 4), .updPut 0 (.kmp 4)] : List Instr).all (fun i => !i.wellFormed)) = true := by decide

theorem test_ill_formed_10 : (([.updAbort 0 (.kmp 4), .updInstall 0 (.kmp 4), .updActivate 0 (.kmp 4), .updStage 0 (.kmp 4), .updLoadSb 0 (.kmp 4), .standbyReady 0 2,
     .updHandover 0 (.kmp 4), .updRevert 0 (.kmp 4), .updCommit 0 (.kmp 4), .updCold 0 (.kmp 4), .recChannelSample 0 2048,
     .recFlushWrite 0 (.kmp 4) 0, .recCursorWrite 0 (.kmp 4) 0, .recClearWrite 0 (.kmp 4) 0, .kmpRequest 0 4 0 0 false [],
     .kmpRequest 0 0 4294967296 0 false [], .kmpRequest 0 0 0 256 false [], .kmpRequest 0 0 0 0 false [⟨256, 0, 0, []⟩], .kmpIdleTimeout 0 4,
     .diLevelChange 0 32 false, .aiConversion 0 [], .tamperSourceChange 0 32] : List Instr).all (fun i => !i.wellFormed)) = true := by decide

theorem test_ill_formed_11 : (([.mgtPortTraffic 0 3 false 0, .stationPortLinkChange 0 2 false] : List Instr).all (fun i => !i.wellFormed)) = true := by decide

theorem test_well_formed_1 : (([.regWrite 0 .cxA 4 0 0, .readClear 0 .cxA 0, .tabDataRead 0 .cxA 0, .cycHostWrite 0 .cxA 0, .lpeTabDataWrite 0 .cxA 0,
     .mpgTabDataWrite 0 .cxA 0, .timNsRead 0 .cxA, .rtcFracRead 0 .cxA, .sysUpLoRead 0 .cxA, .energyLoRead 0 .cxA 0 0, .hqcLoRead 0 .cxA 0,
     .axPosFracRead 0 .cxA 0, .latchSeqRead 0 .cxA 0, .latchFreezeExpiry 0 .cxA 0, .wLatchSeqRead 0 .cxA, .wFreezeExpiry 0 .cxA 0,
     .hqcWinSelWrite 0 .cxA 0, .lpnStatRead 0 .cxA, .lpFreezeExpiry 0 .cxA 0, .lpeWinSelWrite 0 .cxA 0, .nsvSeqRead 0 .cxA,
     .mtrHwinSelWrite 0 .cxA 0, .sysResetWrite 0 .cxA 0, .domainPowerGood 0 0, .domainFail 0 0, .huChargeComplete 0 0, .islandFrameReceived 0 isf0,
     .frameDeadlineMiss 0 0, .islandDown 0 0, .islandUp 0 0] : List Instr).all Instr.wellFormed) = true := by decide

theorem test_well_formed_2 : (([.pseudoCycle 0 0, .ptLatch 0 0, .aggWindowClose 0 0 0 [], .mtrSave 0 .cxA, .hqcLocalStep 0 [], .helloReceived 0 hdr0 0, .sessionSetupDone 0 0,
     .inputReceived 0 hdr0 [], .watchdogCheck 0 0, .watchdogExpiry 0 0, .closeReceived 0 hdr0 0, .sspRequestReceived 0 hdr0 body0 0 [],
     .sspResponseReceived 0 hdr0 body0, .sspRequestIssue 0 0 body0, .setTimingApply 0 0, .sioCloseWrite 0 .cxA 0, .otherTrafficReceived 0 0 0,
     .launchFetch 0 0, .frameLaunch 0 0 0, .pageLoadDone 0 0, .writeBackDone 0 0, .timedTaskRelease 0 0, .taskSkipLimit 0 0,
     .pgrTrigWrite 0 .cxA 0, .regionRequest 0 0 0 0, .regionRelease 0 0, .regionViolation 0 0 .cxA false, .exchArm 0 .cxA, .exchAbort 0 .cxA,
     .plausAction 0 0] : List Instr).all Instr.wellFormed) = true := by decide

theorem test_well_formed_3 : (([.groupTrip 0 0 false, .lpeThirdLate 0 0, .lpnModeWrite 0 .cxA 0, .lpnSpWrite 0 .cxA 0, .lpnManWrite 0 .cxA 0, .lpeGrpResetWrite 0 .cxA 0,
     .lpnFltClear 0 .cxA 0, .profileTick 0 [], .axTargetWrite 0 .cxA 0 0, .raTargetWrite 0 .cxA 0, .axLimitWrite 0 .cxA 0 0 0, .axEnable 0 .cxA 0,
     .axDisable 0 .cxA 0, .axStop 0 .cxA 0, .axEstop 0 .cxA 0, .axHome 0 .cxA 0, .axClrLim 0 .cxA 0, .axClrFlt 0 .cxA 0, .raStop 0 .cxA,
     .raEstop 0 .cxA, .raResync 0 .cxA, .raClrFlt 0 .cxA, .limitTrip 0 0 false, .homeSignalChange 0 0 false, .nsvClrBad 0 .cxA,
     .nsvThReinit 0 .cxA, .couplingFragmentReceived 0 0 cf0, .dopHoldWrite 0 .cxA 0, .fcCommit 0 .cxA, .fcDataWrite 0 .cxA 0] : List Instr).all Instr.wellFormed) = true := by decide

theorem test_well_formed_4 : (([.trajFragmentReceived 0 0 tf0 false, .fiInputChange 0 0 false, .recallTimeout 0 0, .csbReturn 0 .cxA, .csbClrFlt 0 .cxA, .csbShed 0 .cxA 0,
     .csbRelease 0 .cxA 0, .foPulseTest 0 0 0, .foPulseEnd 0 0, .foPulseSenseTimeout 0 0, .foFeedbackTimeout 0 0, .fabFrameReceived 0 rx0 frm0,
     .hatbandReceived 0 rx0 frm0, .hatbandInstant 0 0, .neighbourLost 0 0, .linkSignalLoss 0 0, .linkSignalUp 0 0, .lsaReceived 0 rx0 frm0,
     .lsaAgeOut 0 0, .fabDataSend 0 0 0 0 0 false [], .fabRetryExpiry 0 0 0 0, .fabDataReceived 0 rx0 frm0, .fabAckReceived 0 rx0 frm0,
     .fabRequestReceived 0 rx0 frm0, .fabResponseReceived 0 rx0 frm0, .egressDequeue 0 0, .timAddendWrite 0 .cxA 0, .timSlewWrite 0 .cxA 0,
     .timStepWrite 0 .cxA 0, .timSetCommit 0 .cxA 0] : List Instr).all Instr.wellFormed) = true := by decide

theorem test_well_formed_5 : (([.ptpSyncReceived 0 ph0 0, .ptpFollowUpReceived 0 ph0 0 0 [], .ptpPdelayReqReceived 0 ph0 0 0, .ptpPdelayRespReceived 0 ph0 0 0 0,
     .ptpAnnounceReceived 0 ph0 ann0, .ptpDelayReqReceived 0 ph0 0, .ptpSyncSend 0 0 0, .ptpAnnounceSend 0 0, .ptpPdelaySend 0 0 0,
     .announceTimeout 0 0, .followUpTimeout 0 0, .actionSubmit 0 .cxA 0, .actionWithdraw 0 .cxA 0, .rtcSetWrite 0 .cxA 0, .rtcCalWrite 0 .cxA 0,
     .rtcOsfClear 0 .cxA 0, .alarmWrite 0 .cxA 0 0 0, .clrRejWrite 0 .cxA, .lockstepMismatch 0 0 false, .hbRespWrite 0 .cxA 0 0,
     .monitorTrip 0 0 0 0, .tripStale 0 0, .safeStateRelease 0 .cxA 0, .keyGo 0 .cxA, .genDtk 0 .cxA, .keyRequest 0 .kmp 0 0, .tamper 0 0,
     .tamperLogEntry 0 0, .updOpen 0 .cxA, .updPut 0 .cxA] : List Instr).all Instr.wellFormed) = true := by decide

theorem test_well_formed_6 : (([.updAbort 0 .cxA, .updInstall 0 .cxA, .updActivate 0 .cxA, .updStage 0 .cxA, .updLoadSb 0 .cxA, .standbyReady 0 0, .updHandover 0 .cxA,
     .updRevert 0 .cxA, .updCommit 0 .cxA, .updCold 0 .cxA, .recChannelSample 0 0, .recFlushWrite 0 .cxA 0, .recCursorWrite 0 .cxA 0,
     .recClearWrite 0 .cxA 0, .kmpRequest 0 0 0 0 false [], .kmpIdleTimeout 0 0, .diLevelChange 0 0 false, .aiConversion 0 (List.replicate 16 0),
     .tamperSourceChange 0 0, .mgtPortTraffic 0 0 false 0, .stationPortLinkChange 0 0 false] : List Instr).all Instr.wellFormed) = true := by decide

/-! ### Witnesses: states and operands that meet the hypotheses of each statement

`run l` is a powered module in full service with every unit running, complex A ACTIVE and B STANDBY and ready, and the fields of `l` set. -/

/-- Set fields of a state. -/
def sets (s : State) (l : List (Fld × Nat)) : State := l.foldl (fun s e => s.set e.1 e.2) s

def run (l : List (Fld × Nat)) : State :=
  sets { State.reset with powered := true, pwr := { State.reset.pwr with phase := 3 } } ([(F.SAF_CX_STAT.CXA, 1), (F.SAF_CX_STAT.CXB, 2),
    (F.SAF_CX_STAT.RDYB, 1), (F.PWR_DOM_STAT.ON, 0xFFFF), (F.SYS_SVC.STATE, 4), (F.CFG_STAT.CAP_OK, 1), (F.CFG_STAT.FULL_OK, 1),
    (F.PGR_STAT.RUN, 1), (F.PGR_STAT.SCHED, 1), (F.LPE_STAT.RUN, 1), (F.MPG_STAT.RUN, 1), (F.NSV_STAT.RUN, 1), (F.DOP_STAT.RUN, 1),
    (F.HQC_STAT.RUN, 1), (F.CSB_STAT.RUN, 1), (F.LIO_STAT.RUN, 1), (F.FAB_STAT.RUN, 1), (F.TRJ_STAT.RUN, 1), (F.REC_STAT.RUN, 1),
    (F.MTR_STAT.MERGED, 1), (F.KEY_STAT.ENT_OK, 1), (F.KEY_STAT.LC, 3), (F.SAF_STAT.GAUNTLET_OK, 1)] ++ l)

/-- `Reads` and `Writes` as Booleans. -/
def canRead (s : State) (rq : Rq) (a : Nat) : Bool :=
  s.mayAccess rq && (a % 4 == 0 && (decide (a < 0x140000) && (!s.absentReg a && !s.blockOff (a / 65536))))
def canWrite (s : State) (rq : Rq) (a : Nat) : Bool := canRead s rq a && (!s.isStandby rq && !s.fullLocked a)

theorem reads_of {s : State} {rq : Rq} {a : Nat} (h : canRead s rq a = true) : Reads s rq a := by
  simp [canRead] at h; exact ⟨h.1, h.2.1, h.2.2.1, h.2.2.2.1, h.2.2.2.2⟩
theorem writes_of {s : State} {rq : Rq} {a : Nat} (h : canWrite s rq a = true) : Writes s rq a := by
  simp [canWrite] at h; exact ⟨reads_of h.1, h.2.1, h.2.2⟩

theorem witness_AStepRunsTheCommandAtTheFront : State.reset.pending = [] := by decide

theorem witness_AWriteActsFieldByField :
    (∃ (s : State) (rq : Rq) (a : Nat), a ∈ plainRegs ∧ Writes s rq a) ∧
    (∃ (s : State) (rq : Rq), R.REC_ERR ∈ plainRegs ∧ Writes s rq R.REC_ERR) :=
  ⟨⟨run [], .cxA, R.SYS_ERR, by decide, writes_of (by decide +kernel)⟩, run [], .kmp 3, by decide, writes_of (by decide +kernel)⟩

theorem witness_AWriteThatIsNotPerformedSetsItsErrorBit :
    ((run []).mayAccess .cxA = true ∧ (run []).isStandby .cxA = false ∧ (2 ≠ 4 ∨ R.SYS_ERR % 4 ≠ 0) ∧ (4 ≠ 4 ∨ 0x13FFFD % 4 ≠ 0)) ∧
    (0x140000 % 4 = 0 ∧ 0x140000 ≤ 0x140000 ∧ 0x13FFFC < 0x140000) ∧
    (∃ s : State, s.mayAccess .cxA = true ∧ s.isStandby .cxA = false ∧ s.absentReg (R.AXn_CFG 8) = true ∧ s.absentReg (R.AXn_CFG 7) = false ∧
      R.AXn_CFG 8 % 4 = 0 ∧ R.AXn_CFG 8 < 0x140000) ∧
    (∃ s : State, s.mayAccess .cxA = true ∧ s.isStandby .cxA = false ∧ s.absentReg R.MTR_ERR = false ∧ s.blockOff (R.MTR_ERR / 65536) = true ∧
      s.absentReg (R.AXn_VMAX 0) = false ∧ s.fullLocked (R.AXn_VMAX 0) = true) ∧
    (∃ s : State, s.mayAccess .cxB = true ∧ s.isStandby .cxB = true ∧ R.SYS_ERR ≠ R.SAF_HBn_RESP 0 ∧ R.SYS_ERR ≠ R.SAF_HBn_RESP 1 ∧
      R.SYS_ERR ≠ R.UPD_CMD ∧ s.get F.UPD_STAT.HSTATE ≠ 2 ∧ s.get F.UPD_STAT.HSTATE ≠ 3) := by
  refine ⟨by decide +kernel, by decide, ⟨{ run [] with variant := .zkv4240 }, by decide +kernel⟩,
    ⟨run [(F.PWR_DOM_STAT.ON, 1), (F.CFG_STAT.FULL_OK, 0)], by decide +kernel⟩, run [(F.UPD_STAT.HSTATE, 4)], by decide +kernel⟩

theorem witness_AReadClearAnswersAndClears :
    (∃ (s : State) (rq : Rq), Reads s rq (R.TIM_LQn_SKEW_MAX 1) ∧ R.TIM_LQn_SKEW_MAX 1 ∈ rcRegs ∧ R.CYC_MAX ∈ rcRegs ∧ Reads s rq R.CYC_MAX ∧
      Reads s rq R.PWR_VIN_MIN) :=
  ⟨run [], .cxB, reads_of (by decide +kernel), by decide, by decide, reads_of (by decide +kernel), reads_of (by decide +kernel)⟩

theorem witness_ADataWindowReadAnswersAndAdvances :
    (∃ (s : State) (rq : Rq), (R.CFG_TAB_DATA, 2, F.CFG_TAB_ADDR.ADDR) ∈ tabWindows ∧ Reads s rq R.CFG_TAB_DATA ∧
      s.absentTab 2 (s.get (F.CFG_TAB_ADDR.ADDR rq.num) / 4 * 4) = false) ∧
    (∃ (s : State) (rq : Rq), (R.MPG_TAB_DATA, 7, F.MPG_TAB_ADDR.ADDR) ∈ tabWindows ∧ Reads s rq R.MPG_TAB_DATA) := by
  refine ⟨⟨run [(F.CFG_TAB_ADDR.ADDR 0, 0x1FC)], .cxA, by simp [tabWindows], reads_of (by decide +kernel), by decide +kernel⟩,
    run [], .kmp 0, by simp [tabWindows], reads_of (by decide +kernel)⟩

theorem witness_ClockReadsLatchTheSecondsForTheirRequester :
    (∃ (s : State) (rq : Rq), Reads s rq R.TIM_NS ∧ Reads s rq R.RTC_FRAC ∧ R.RTC_SEC_HI ∈ [R.TIM_SEC_LO, R.TIM_SEC_HI, R.RTC_SEC_LO, R.RTC_SEC_HI] ∧
      Reads s rq R.RTC_SEC_HI ∧ s.shadow rq.num R.RTC_SEC_HI = some 5) :=
  ⟨{ run [] with shadows := [(0, R.RTC_SEC_HI, 5)] }, .cxA, reads_of (by decide +kernel), reads_of (by decide +kernel), by decide,
    reads_of (by decide +kernel), by decide +kernel⟩

theorem witness_LowWordReadsKeepTheHighWord :
    (∃ (s : State) (rq : Rq), Reads s rq (R.PTn_LIVE_LO 7 7) ∧ Reads s rq (R.PTn_LIVE_HI 7 7) ∧ s.shadow rq.num (R.PTn_LIVE_HI 7 7) = some 9 ∧
      Reads s rq (R.W_LIVE_LO 0 7) ∧ Reads s rq (R.AXn_POS_FRAC 15) ∧ Reads s rq R.SYS_UP_LO) :=
  ⟨{ run [] with shadows := [(4, R.PTn_LIVE_HI 7 7, 9)] }, .kmp 0, reads_of (by decide +kernel), reads_of (by decide +kernel), by decide +kernel,
    reads_of (by decide +kernel), reads_of (by decide +kernel), reads_of (by decide +kernel)⟩

theorem witness_ALatchSetFreezesForItsReaderAndIsReleasedByTheSecondRead :
    (∃ (s : State) (rq : Rq), Reads s rq (R.PTn_LATCH_SEQ 7) ∧ s.frozen? rq.num 0x0A 7 = none ∧ Reads s rq (R.W_LATCH_SEQ 0) ∧
      s.frozen? rq.num 0x0B (s.get (F.HQC_WIN_SEL.PT rq.num)) = none ∧ Reads s rq (R.LPn_STAT 0) ∧
      s.frozen? rq.num 6 (s.get (F.LPE_WIN_SEL.SLOT rq.num)) = none ∧ Reads s rq R.NSV_SEQ ∧ s.nsv.frozen.lookup rq.num = none) ∧
    (∃ (s : State) (rq : Rq), Reads s rq (R.PTn_LATCH_SEQ 0) ∧ s.frozen? rq.num 0x0A 0 ≠ none ∧ Reads s rq (R.W_LATCH_SEQ 0) ∧
      s.frozen? rq.num 0x0B (s.get (F.HQC_WIN_SEL.PT rq.num)) ≠ none ∧ Reads s rq (R.LPn_STAT 0) ∧
      s.frozen? rq.num 6 (s.get (F.LPE_WIN_SEL.SLOT rq.num)) ≠ none ∧ Reads s rq R.NSV_SEQ ∧ s.nsv.frozen.lookup rq.num ≠ none) :=
  ⟨⟨run [], .cxA, reads_of (by decide +kernel), by decide +kernel, reads_of (by decide +kernel), by decide +kernel, reads_of (by decide +kernel),
      by decide +kernel, reads_of (by decide +kernel), by decide +kernel⟩,
    { run [] with
      freezes := [⟨0, 0x0A, 0, []⟩, ⟨0, 0x0B, 0, []⟩, ⟨0, 6, 0, []⟩], nsv := { (run []).nsv with frozen := [(0, 1)] } }, .cxA,
    reads_of (by decide +kernel), by decide +kernel, reads_of (by decide +kernel), by decide +kernel, reads_of (by decide +kernel),
      by decide +kernel, reads_of (by decide +kernel), by decide +kernel⟩

theorem witness_AFreezeEndsAfterOneMillisecondOrBySelection :
    (Rq.kmp 3).wellFormed = true ∧
    (∃ (s : State) (rq : Rq) (v w : Word), Writes s rq (R.HQC_WIN_SEL 0) ∧
      (v.toNat % 8192 < 4128 ∧ (4096 ≤ v.toNat % 8192 ∨ s.stnPresent (v.toNat % 8192) = true)) ∧
      ¬ (w.toNat % 8192 < 4128 ∧ (4096 ≤ w.toNat % 8192 ∨ s.stnPresent (w.toNat % 8192) = true))) ∧
    (∃ (s : State) (rq : Rq) (v w : Word), Writes s rq (R.LPE_WIN_SEL 0) ∧ s.slotPresent (v.toNat % 4096) = true ∧
      s.slotPresent (w.toNat % 4096) = false) ∧
    (∃ (s : State) (rq : Rq) (v w : Word), Writes s rq (R.MTR_HWIN_SEL 0) ∧ s.ptPresent (v.toNat % 8) = true ∧ v.toNat / 16 % 8 ≠ 7 ∧
      s.ptPresent (w.toNat % 8) = false) :=
  ⟨by decide, ⟨run [], .kmp 3, 4127#32, 4128#32, writes_of (by decide +kernel), by decide +kernel, by decide +kernel⟩,
    ⟨{ run [] with variant := .zkv4240 }, .cxA, 0#32, 4095#32, writes_of (by decide +kernel), by decide +kernel, by decide +kernel⟩,
    { run [] with variant := .zkv4240 }, .cxA, 0x63#32, 4#32, writes_of (by decide +kernel), by decide +kernel, by decide +kernel, by decide +kernel⟩

theorem witness_TableWritesObeyTheirWindows :
    (∃ (s : State) (rq : Rq), rq.wellFormed = true ∧ Writes s rq R.CYC_TAB_DATA ∧
      0x300000 + s.get F.CYC_HOSTW_BASE.BASE ≤ s.get (F.CYC_TAB_ADDR.ADDR rq.num) / 4 * 4 ∧
      s.get (F.CYC_TAB_ADDR.ADDR rq.num) / 4 * 4 + 4 ≤ 0x300000 + s.get F.CYC_HOSTW_BASE.BASE + s.get F.CYC_HOSTW_SIZE.SIZE) ∧
    (∃ (s : State) (rq : Rq), rq.wellFormed = true ∧ Writes s rq R.CYC_TAB_DATA ∧
      (s.get (F.CYC_TAB_ADDR.ADDR rq.num) / 4 * 4 < 0x300000 + s.get F.CYC_HOSTW_BASE.BASE ∨
        0x300000 + s.get F.CYC_HOSTW_BASE.BASE + s.get F.CYC_HOSTW_SIZE.SIZE < s.get (F.CYC_TAB_ADDR.ADDR rq.num) / 4 * 4 + 4)) ∧
    (∃ (s : State) (rq : Rq), rq.wellFormed = true ∧ Writes s rq R.LPE_TAB_DATA ∧ s.get (F.LPE_TAB_ADDR.ADDR rq.num) / 4 * 4 < 0x80000 ∧
      s.slotPresent (s.get (F.LPE_TAB_ADDR.ADDR rq.num) / 4 * 4 / 128) = true ∧
      hasAcc (tabKey 6 (s.get (F.LPE_TAB_ADDR.ADDR rq.num) / 4 * 4)) .rw = true ∧
      s.coefOpen (s.get (F.LPE_TAB_ADDR.ADDR rq.num) / 4 * 4 / 128) = false) ∧
    (∃ (s : State) (rq : Rq) (v : Word), rq.wellFormed = true ∧ Writes s rq R.LPE_TAB_DATA ∧ s.get (F.LPE_TAB_ADDR.ADDR rq.num) / 4 * 4 < 0x80000 ∧
      s.slotPresent (s.get (F.LPE_TAB_ADDR.ADDR rq.num) / 4 * 4 / 128) = true ∧
      hasAcc (tabKey 6 (s.get (F.LPE_TAB_ADDR.ADDR rq.num) / 4 * 4)) .rw = true ∧
      s.coefOpen (s.get (F.LPE_TAB_ADDR.ADDR rq.num) / 4 * 4 / 128) = true ∧
      s.bit (T.LPE_SLOT.GRP_EN (s.get (F.LPE_TAB_ADDR.ADDR rq.num) / 4 * 4 / 128)) = false ∧
      s.coefFits (s.get (F.LPE_TAB_ADDR.ADDR rq.num) / 4 * 4 / 128) (s.get (F.LPE_TAB_ADDR.ADDR rq.num) / 4 * 4 % 128) v = true) ∧
    (∃ (s : State) (rq : Rq), Writes s rq R.MPG_TAB_DATA ∧ (12288 ≤ s.get (F.MPG_TAB_ADDR.ADDR rq.num) / 4 * 4 ∨
      s.get (F.MPG_TAB_ADDR.ADDR rq.num) / 4 * 4 % 48 < 8 ∨ 24 < s.get (F.MPG_TAB_ADDR.ADDR rq.num) / 4 * 4 % 48)) :=
  ⟨⟨run [(F.CYC_HOSTW_SIZE.SIZE, 4), (F.CYC_TAB_ADDR.ADDR 0, 0x300000)], .cxA, by decide, writes_of (by decide +kernel), by decide +kernel⟩,
    ⟨run [(F.CYC_HOSTW_SIZE.SIZE, 4), (F.CYC_TAB_ADDR.ADDR 0, 0x300004)], .cxA, by decide, writes_of (by decide +kernel), by decide +kernel⟩,
    ⟨{ run [(F.LPE_TAB_ADDR.ADDR 4, 4095 * 128 + 16)] with
        lpe := { State.reset.lpe with slots := [(4095, { (run []).slot 0 with mode := 1 })] } }, .kmp 0, by decide, writes_of (by decide +kernel),
      by decide +kernel, by decide +kernel⟩,
    ⟨run [(F.LPE_TAB_ADDR.ADDR 4, 16)], .kmp 0, 0#32, by decide, writes_of (by decide +kernel), by decide +kernel, by decide +kernel⟩,
    run [(F.MPG_TAB_ADDR.ADDR 0, 12288)], .cxA, writes_of (by decide +kernel), by decide +kernel⟩

theorem witness_EveryStepKeepsTheAlarmTrue :
    ∃ s t : State, s.powered = true ∧ AlarmInv s ∧ s.pending = [.huMinReached 0] ∧ step s = .next t :=
  ⟨{ run [(F.SAF_STAT.ALARM, 1), (⟨R.SAF_ALARM, 0, 32⟩, 0)] with pending := [.huMinReached 0] }, _, by decide +kernel,
    fun _ => ⟨⟨by decide +kernel, by decide +kernel, by decide +kernel, by decide +kernel, by decide +kernel, by decide +kernel⟩,
      by unfold AlarmOut; decide +kernel⟩, by decide +kernel, rfl⟩

theorem witness_ModuleTimeRunsExactly :
    ∃ (c : Clock) (a : Int), c.ns < 10 ^ 9 ∧ c.frac < 2 ^ 32 ∧ c.sec < 2 ^ 48 ∧ -3435974 ≤ a ∧ a ≤ 3435974 ∧ c.slewLeft = 0 :=
  ⟨⟨2 ^ 48 - 1, 10 ^ 9 - 1, 2 ^ 32 - 1, 0, 0, false, 7⟩, 3435974, by decide⟩

theorem witness_AFullResetKeepsTheBatteryDomainAndClearsTheRest :
    (∃ s : State, s.powered = true ∧ s.rtc.onCell = false ∧ s.pwr.swReset = true ∧ s.pwr.rtaFailed = true ∧ s.saf.wdArmed = true ∧
      csbBusyState (s.get F.CSB_STAT.STATE) = false ∧ s.saf.wdDeferred = true ∧ 0x0F < 0x10000000000 ∧ keyBlock R.RTC_SEC_LO = 0x0F) ∧
    (∃ s : State, s.powered = true ∧ s.saf.wdArmed = true ∧ csbBusyState (s.get F.CSB_STAT.STATE) = true) :=
  ⟨⟨{ run [(F.CSB_STAT.STATE, 1)] with pwr := ⟨none, false, [], 3, 0, true, true⟩, saf := { State.reset.saf with wdArmed := true, wdDeferred := true } },
      by decide +kernel⟩,
    { run [(F.CSB_STAT.STATE, 2)] with saf := { State.reset.saf with wdArmed := true } }, by decide +kernel⟩

theorem witness_TheSupplyRowsActOnPowerAlone :
    (∃ s : State, s.powered = false ∧ s.pwr = State.reset.pwr ∧ s.bit F.PWR_STAT.PFW = false ∧ s.get F.KEY_STAT.LC ≠ 5 ∧ s.key.pendRec = none ∧
      s.key.chkOk = true) ∧
    (∃ (s : State) (rq : Rq) (v : Word), Writes s rq R.SYS_RESET ∧ v ≠ 0x5AFE0001#32 ∧ 0x5AFE0001#32 = 0x5AFE0001#32 ∧ s.powered = true ∧
      s.bit F.PWR_STAT.PFW = false ∧ s.domOn 2 = true ∧ s.domOn 1 = true ∧ s.bit F.NSV_STAT.RUN = true ∧ s.bit F.DOP_STAT.RUN = true) ∧
    (∃ s : State, s.powered = true ∧ s.bit F.PWR_STAT.PFW = true) :=
  ⟨⟨State.reset, by decide +kernel⟩, ⟨run [], .cxA, 0#32, writes_of (by decide +kernel), by decide +kernel⟩,
    run [(F.PWR_STAT.PFW, 1)], by decide +kernel⟩

theorem witness_DomainsStartOneAtATimeInOrder :
    (∃ s : State, s.pwr.waking = some (15, 0) ∧ 15 < 16 ∧ s.pwr.gap = false ∧ s.pwr.queue = [13] ∧ s.bit F.PWR_STAT.PFW = false) ∧
    (∃ s : State, s.pwr.gap = true ∧ s.pwr.waking = none ∧ s.pwr.queue = [7] ∧ s.bit F.PWR_STAT.PFW = false) ∧
    (∃ s : State, s.pwr.gap = true ∧ s.pwr.waking = none ∧ s.bit F.PWR_STAT.PFW = true) ∧
    (∃ s : State, s.pwr.gap = true ∧ s.pwr.waking = none ∧ s.pwr.queue = [] ∧ s.bit F.PWR_STAT.PFW = false) ∧
    (∃ s : State, s.pwr.waking = some (0, 0)) :=
  ⟨⟨{ run [] with pwr := ⟨some (15, 0), false, [13], 3, 0, false, false⟩ }, by decide +kernel⟩,
    ⟨{ run [] with pwr := ⟨none, true, [7], 2, 0, false, false⟩ }, by decide +kernel⟩,
    ⟨{ run [(F.PWR_STAT.PFW, 1)] with pwr := ⟨none, true, [7], 2, 0, false, false⟩ }, by decide +kernel⟩,
    ⟨{ run [] with pwr := ⟨none, true, [], 2, 0, false, false⟩ }, by decide +kernel⟩,
    { run [] with pwr := ⟨some (0, 0), false, [], 1, 0, false, false⟩ }, rfl⟩

/-- A small image: a cap section with phases for CSB, the map of the DRAM areas, a program section with the main task alone. -/
def secOf (ty : Nat) (recs : List CfgRec) (map : List (Nat × Nat × Nat)) : CfgSection := ⟨ty, 0, false, false, true, true, true, recs, map, true⟩
def imgW : CfgImage :=
  ⟨⟨true, true, 0, 0, 7, 0, 1#8 :: List.replicate 47 0#8, true⟩, true, true,
    [secOf 1 [.reg R.CSB_CFG 0x12] [], secOf 2 [] [(0, 256, 0), (2, 8, 256), (3, 1, 264), (4, 128, 272)],
      secOf 0x20 [.tab 4 0 [5#32, 0#32, 0#32, 0#32]] []], true, []⟩
/-- An image whose cap section breaks a rule of CSB and whose header does not verify. -/
def imgBad : CfgImage := { imgW with hdr := { imgW.hdr with capSigOk := false }, sections := [secOf 1 [] []], sigOk := false }
/-- A module whose CKH is programmed, before the ROM's choice. -/
def start (l : List (Fld × Nat)) : State :=
  sets { State.reset with powered := true } ([(⟨tabKey 17 0x60630, 0, 32⟩, 1), (⟨tabKey 17 0x60660, 0, 32⟩, 1), (F.KEY_STAT.LC, 3),
    (F.PWR_DOM_STAT.ON, 0xFFFF)] ++ l)

theorem witness_TheRomTakesTheFirstSlotOfTheChoice :
    (∃ s : State, s.svc = 0 ∧ s.cfg.image = none ∧ s.domOn 0 = true ∧ s.cfg.selA = none ∧ s.cfg.selB = none) ∧
    (∃ (s : State) (a b : SelRec), s.svc = 0 ∧ s.cfg.image = none ∧ s.domOn 0 = true ∧ s.cfg.selA = some a ∧ s.cfg.selB = some b) ∧
    (start []).selRead.headerCode imgW.hdr = 0 ∧ (start []).selRead.headerCode imgBad.hdr ≠ 0 ∧ (start []).bit (rejFld 0) = false ∧
    (start [(rejFld 0, 1)]).bit (rejFld 0) = true :=
  ⟨⟨start [], by decide +kernel⟩,
    ⟨{ start [] with cfg := { State.reset.cfg with selA := some ⟨1, 0, true, false, 0, none⟩, selB := some ⟨2, 1, false, false, 0, none⟩ } }, _, _,
      by decide +kernel, by decide +kernel, by decide +kernel, rfl, rfl⟩, by decide +kernel, by decide +kernel, by decide +kernel, by decide +kernel⟩

theorem isOk_of {α β : Type} {x : Except α β} (h : x.toOption.isSome = true) : ∃ b, x = .ok b := by
  cases x with
  | ok b => exact ⟨b, rfl⟩
  | error a => simp [Except.toOption] at h
theorem isError_of {α β : Type} {x : Except α β} (h : x.toOption.isSome = false) : ∃ a, x = .error a := by
  cases x with
  | ok b => simp [Except.toOption] at h
  | error a => exact ⟨a, rfl⟩

theorem witness_TheCapStageCommitsOrLeavesTheModuleBare :
    (∃ (s : State) (img : CfgImage), s.svc = 0 ∧ s.bit F.CFG_STAT.CAP_OK = false ∧ s.domOn 0 = true ∧ s.cfg.image = some img ∧
      s.bit F.SYS_SVC.TSTART = false ∧ s.pwr.waking = none ∧ s.pwr.gap = false ∧ s.pwr.queue = [] ∧ s.bit F.PWR_STAT.PFW = false ∧
      ∃ s1, (s.elapse 0).capStage img = .ok s1) ∧
    (∃ (s : State) (img : CfgImage), s.svc = 0 ∧ s.bit F.CFG_STAT.CAP_OK = false ∧ s.domOn 0 = true ∧ s.cfg.image = some img ∧
      s.bit F.SYS_SVC.TSTART = true ∧ ∃ f, (s.elapse 0).capStage img = .error f) :=
  ⟨⟨{ start [] with cfg := { State.reset.cfg with image := some imgW } }, imgW, by decide +kernel, by decide +kernel, by decide +kernel, rfl,
      by decide +kernel, by decide +kernel, by decide +kernel, by decide +kernel, by decide +kernel, isOk_of (by decide +kernel)⟩,
    { start [(F.SYS_SVC.TSTART, 1)] with cfg := { State.reset.cfg with image := some imgBad } }, imgBad, by decide +kernel, by decide +kernel,
      by decide +kernel, rfl, by decide +kernel, isError_of (by decide +kernel)⟩

theorem pair_of {α β : Type} {x : α × β} {b : β} (h : x.2 = b) : x = (x.1, b) := by rw [← h]
/-- A module that loads an image. -/
def loading (img : CfgImage) : State :=
  { start [(F.SYS_SVC.STATE, 3)] with cfg := { State.reset.cfg with image := some img, trained := true } }

theorem witness_TheFullStageCommitsOrHoldsCapMode :
    (∃ (s : State) (img : CfgImage) (s1 : State), s.svc = 3 ∧ s.cfg.trained = true ∧ s.bit F.CFG_STAT.FULL_OK = false ∧
      s.bit F.PWR_STAT.PFW = false ∧ s.cfg.image = some img ∧ (s.elapse 0).fullStage img = (s1, none)) ∧
    (∃ (s : State) (img : CfgImage) (s0 : State) (f : LoadFail), s.svc = 3 ∧ s.cfg.trained = true ∧ s.bit F.CFG_STAT.FULL_OK = false ∧
      s.bit F.PWR_STAT.PFW = false ∧ s.cfg.image = some img ∧ (s.elapse 0).fullStage img = (s0, some f) ∧ s0.domPresent 15 = true ∧
      s0.get F.CFG_ERR.CODE = 0) ∧
    (∃ s : State, s.svc = 3 ∧ s.cfg.trained = false ∧ s.domOn 6 = true ∧ s.upd.overwrite = true ∧ s.domPresent 15 = true) := by
  refine ⟨⟨loading imgW, imgW, ((loading imgW).elapse 0).fullStage imgW |>.1, by decide +kernel, rfl, by decide +kernel, by decide +kernel, rfl,
      pair_of (by decide +kernel)⟩,
    ⟨loading imgBad, imgBad, ((loading imgBad).elapse 0).fullStage imgBad |>.1, ⟨8, 0xFF, 0, 0⟩, by decide +kernel, rfl, by decide +kernel,
      by decide +kernel, rfl, pair_of (by decide +kernel), by decide +kernel, by decide +kernel⟩,
    { start [(F.SYS_SVC.STATE, 3)] with upd := { upd0 with overwrite := true } }, by decide +kernel⟩

theorem witness_FullServiceBeginsAfterTheFullCommit :
    (∃ s : State, s.svc = 3 ∧ s.bit F.CFG_STAT.FULL_OK = true ∧ s.domOn 6 = true ∧ s.domOn 7 = true) ∧
    (∃ s : State, s.bit F.PGR_STAT.RUN = true ∧ s.bit F.LPE_STAT.RUN = false) ∧
    (∃ (s : State) (rq : Rq), Writes s rq R.CFG_CTRL ∧ s.cfg.dirty = true) :=
  ⟨⟨run [(F.SYS_SVC.STATE, 3)], by decide +kernel⟩, ⟨run [(F.LPE_STAT.RUN, 0)], by decide +kernel⟩,
    { run [] with cfg := { State.reset.cfg with dirty := true } }, .kmp 0, writes_of (by decide +kernel), by decide +kernel⟩

def withIsl (s : State) (i : Nat) (x : IslSt) : State := { s with mtr := { s.mtr with isl := [(i, x)] } }

theorem witness_IslandsGoDownAndComeUp :
    (∃ s : State, s.islPresent 1 = true ∧ s.bit (F.ISLn_STAT.LINK 1) = true ∧ 2 ≤ (s.isl 1).bad ∧ s.get (F.ISLn_STAT.REFPH 1) = 3) ∧
    (∃ (s : State) (f : IslandFrame) (q : Nat × Nat × Nat), f.isl < 2 ∧ s.islPresent f.isl = true ∧ s.bit (F.ISLn_STAT.LINK f.isl) = false ∧
      f.ftype = 1 ∧ f.crcOk = true ∧ (s.isl f.isl).strobes = [q] ∧ q.1 = f.seq ∧ f.seq < 256 ∧ f.status / 2 % 2 = 1 ∧ (s.isl f.isl).good + 1 < 32) ∧
    (∃ (s : State) (f : IslandFrame) (q : Nat × Nat × Nat), f.isl < 2 ∧ s.islPresent f.isl = true ∧ s.bit (F.ISLn_STAT.LINK f.isl) = false ∧
      f.ftype = 1 ∧ f.crcOk = true ∧ (s.isl f.isl).strobes = [q] ∧ q.1 = f.seq ∧ f.seq < 256 ∧ f.status / 2 % 2 = 1 ∧ 31 ≤ (s.isl f.isl).good) ∧
    (∃ (s : State) (f : IslandFrame) (q : Nat × Nat × Nat), f.isl < 2 ∧ s.islPresent f.isl = true ∧ s.bit (F.ISLn_STAT.LINK f.isl) = false ∧
      f.ftype = 1 ∧ f.crcOk = true ∧ (s.isl f.isl).strobes = [q] ∧ q.1 = f.seq ∧ f.status / 2 % 2 = 0) ∧
    (∃ (s : State) (f : IslandFrame), f.isl < 2 ∧ s.islPresent f.isl = true ∧ s.bit (F.ISLn_STAT.LINK f.isl) = false ∧ f.ftype = 1 ∧
      f.crcOk = true ∧ ∀ q ∈ (s.isl f.isl).strobes.head?, q.1 ≠ f.seq) :=
  ⟨⟨withIsl (run [(F.ISLn_STAT.LINK 1, 1), (F.ISLn_STAT.REFPH 1, 3)]) 1 { isl0 with bad := 2 }, by decide +kernel⟩,
    ⟨withIsl (run []) 1 { isl0 with strobes := [(255, 0, 0)], good := 30 }, { isf0 with isl := 1, ftype := 1, crcOk := true, seq := 255, status := 2 },
      (255, 0, 0), by decide +kernel⟩,
    ⟨withIsl (run []) 0 { isl0 with strobes := [(0, 0, 0)], good := 31 }, { isf0 with ftype := 1, crcOk := true, status := 2 }, (0, 0, 0), by decide +kernel⟩,
    ⟨withIsl (run []) 0 { isl0 with strobes := [(0, 0, 0)] }, { isf0 with ftype := 1, crcOk := true }, (0, 0, 0), by decide +kernel⟩,
    withIsl (run []) 0 { isl0 with strobes := [(1, 0, 0)] }, { isf0 with ftype := 1, crcOk := true }, by decide +kernel⟩

theorem witness_ALatchCopiesTheTotalsInOneClock :
    (∃ s : State, s.ptPresent 7 = true ∧ s.bit (F.PTn_CFG.EN 7) = true ∧ s.bit (F.ISLn_STAT.LINK (7 / 4)) = true ∧ (s.pt 7).rev ≤ 255) ∧
    (∃ s : State, s.islPresent 1 = true) :=
  ⟨⟨{ run [(F.PTn_CFG.EN 7, 1), (F.ISLn_STAT.LINK 1, 1)] with mtr := { State.reset.mtr with pts := [(7, { pt0 with rev := 255 })] } }, by decide +kernel⟩,
    run [], by decide +kernel⟩

theorem witness_SavesWriteTheOlderCopy :
    (∃ (s : State) (rq : Rq), s.bit F.MTR_STAT.PF_HOLD = false ∧ s.bit F.MTR_STAT.MERGED = true ∧ s.mtr.cap = none ∧ Writes s rq R.MTR_CTRL ∧
      s.bit F.HQC_STAT.RUN = true) ∧
    (∃ (s : State) (pts : List (List Nat × Nat)), s.bit F.MTR_STAT.PF_HOLD = false ∧ s.bit F.MTR_STAT.MERGED = true ∧ s.mtr.cap ≠ none ∧
      s.mtr.cap = some (5, pts) ∧ s.mtr.queued = false ∧ s.bit F.MTR_STAT.COPY = true ∧ s.hqc.cap.isSome = true ∧ s.bit F.HQC_STAT.COPY = true) ∧
    (∃ (s : State) (pts : List (List Nat × Nat)), s.mtr.cap = some (5, pts) ∧ s.mtr.queued = false ∧ s.bit F.MTR_STAT.COPY = false ∧
      s.hqc.cap.isSome = true ∧ s.bit F.HQC_STAT.COPY = false) ∧
    (∃ (s : State) (rq : Rq), s.bit F.MTR_STAT.PF_HOLD = true ∧ Writes s rq R.MTR_CTRL) :=
  let saving (l : List (Fld × Nat)) : State :=
    { run l with mtr := { State.reset.mtr with cap := some (5, []) }, hqc := { State.reset.hqc with cap := some ⟨3, [], true⟩ } }
  ⟨⟨run [], .cxA, by decide +kernel, by decide +kernel, by decide +kernel, writes_of (by decide +kernel), by decide +kernel⟩,
    ⟨saving [(F.MTR_STAT.COPY, 1), (F.HQC_STAT.COPY, 1)], [], by decide +kernel⟩, ⟨saving [], [], by decide +kernel⟩,
    run [(F.MTR_STAT.PF_HOLD, 1)], .kmp 0, by decide +kernel, writes_of (by decide +kernel)⟩

theorem witness_HeatStepsAndBillingLatches :
    (∃ s : State, s.bit F.HQC_STAT.RUN = true ∧ 4096 ∈ s.hqcPts ∧ (s.hqcPt 4096).has = false ∧ s.hqc.nextB ≤ (s.elapse 0).now ∧ s.hqcPts.Nodup) ∧
    (∃ s : State, s.bit F.HQC_STAT.RUN = true ∧ 4127 ∈ s.hqcPts ∧ (s.hqcPt 4127).up + 250000 ≤ (s.elapse 250000).clock.up) :=
  ⟨⟨run [(T.HQC_PT.EN 4096, 1)], by decide +kernel⟩,
    { run [(T.HQC_PT.EN 4127, 1)] with hqc := { State.reset.hqc with pts := [(4127, { hqc0 with has := true })] } }, by decide +kernel⟩

/-- A module that serves station 4095 alone, with its session state. -/
def serving (x : Stn) (l : List (Fld × Nat)) : State :=
  let s := run ([(F.SIO_STAT.FULL, 1), (F.SIO_PORTn_CFG.EN 0, 1), (T.SIO_STN.EN 4095, 1), (T.SIO_STN.PERIOD 4095, 4), (T.SIO_STN.KEY_ID 4095, 77),
    (F.SIO_WD_MISS.MISS, 3)] ++ l)
  { s with sio := { s.sio with stns := [(4095, x)] } }
/-- A frame of that station, under session 5 with counter 1. -/
def ssp (type len : Nat) : SspHeader := ⟨0, true, true, 1, type, 0, 4095, 5, false, 1, len, len, true, 0, 0⟩
def stnLive : Stn := { stn0 with session := 5, period := 1000 }

theorem ssp_ok {s : State} {h : SspHeader} {type : Nat} (b : Nat) (hc : s.bit (F.SIO_PORTn_CFG.EN h.port) = true ∧ h.sumOk = true ∧ h.addrOk = true ∧
    h.station < 4096 ∧ s.stnBase h.station = some b ∧ s.get (entF b T.SIO_STN.PORT) = h.port ∧ h.version = 1 ∧ h.type = type ∧ h.dir = false ∧
    h.len = h.udpLen) : SspOk s h type :=
  ⟨hc.1, hc.2.1, hc.2.2.1, hc.2.2.2.1, ⟨b, hc.2.2.2.2.1, hc.2.2.2.2.2.1⟩, hc.2.2.2.2.2.2.1, hc.2.2.2.2.2.2.2⟩
theorem ssp_live {s : State} {h : SspHeader} (hc : (s.stn h.station).session ≠ 0 ∧ h.session = (s.stn h.station).session ∧ h.tagOk = true ∧
    (s.stn h.station).rxCtr < h.counter) : SspLive s h := ⟨hc.1, hc.2.1, hc.2.2.1, hc.2.2.2⟩

theorem witness_AHelloLeadsToASession_1 :
    (∃ (s : State) (h : SspHeader), s.tampered = false ∧ SspOk s h 1 ∧ h.len = 20 ∧ (∀ u ∈ s.sio.setups, u.stn ≠ h.station) ∧
      (∀ u ∈ s.sio.queue, u.stn ≠ h.station) ∧ s.sio.setups.length < 4 ∧ s.sio.queue = [] ∧ h.tagOk = true ∧
      (s.keyRequest (.sio h.station) (s.stnGet h.station T.SIO_STN.KEY_ID) 1).2 = .hit) ∧
    (∃ (s : State) (h : SspHeader), s.tampered = false ∧ SspOk s h 1 ∧ h.len = 20 ∧ (∀ u ∈ s.sio.setups, u.stn ≠ h.station) ∧
      (∀ u ∈ s.sio.queue, u.stn ≠ h.station) ∧ s.sio.setups.length < 4 ∧ s.sio.queue = [] ∧ h.tagOk = false ∧
      (s.keyRequest (.sio h.station) (s.stnGet h.station T.SIO_STN.KEY_ID) 1).2 = .hit) ∧
    (∃ (s : State) (h : SspHeader), s.tampered = false ∧ SspOk s h 1 ∧ h.len = 20 ∧ (∀ u ∈ s.sio.setups, u.stn ≠ h.station) ∧
      (∀ u ∈ s.sio.queue, u.stn ≠ h.station) ∧ s.sio.setups.length < 4 ∧ s.sio.queue = [] ∧
      (s.keyRequest (.sio h.station) (s.stnGet h.station T.SIO_STN.KEY_ID) 1).2 = .wait) ∧
    (∃ (s : State) (h : SspHeader), s.tampered = false ∧ SspOk s h 1 ∧ h.len = 20 ∧ (∀ u ∈ s.sio.setups, u.stn ≠ h.station) ∧
      (∀ u ∈ s.sio.queue, u.stn ≠ h.station) ∧ s.sio.setups.length < 4 ∧ s.sio.queue = [] ∧
      (s.keyRequest (.sio h.station) (s.stnGet h.station T.SIO_STN.KEY_ID) 1).2 = .fail) :=
  let cached := serving stn0 [(F.KEY_SLOTn.VALID 31, 1), (F.KEY_SLOTn.KEY_ID 31, 77), (F.KEY_SLOTn.USAGE 31, 1)]
  let waiting := { serving stn0 [] with key := { key0 with unwraps := [⟨77, 1, []⟩] } }
  ⟨⟨cached, ssp 1 20, by decide +kernel, ssp_ok (tabKey 5 (64 * 4095)) (by decide +kernel), by decide +kernel⟩,
    ⟨cached, { ssp 1 20 with tagOk := false }, by decide +kernel, ssp_ok (tabKey 5 (64 * 4095)) (by decide +kernel), by decide +kernel⟩,
    ⟨waiting, ssp 1 20, by decide +kernel, ssp_ok (tabKey 5 (64 * 4095)) (by decide +kernel), by decide +kernel⟩,
    serving stn0 [], ssp 1 20, by decide +kernel, ssp_ok (tabKey 5 (64 * 4095)) (by decide +kernel), by decide +kernel⟩

theorem witness_AHelloLeadsToASession_2 :
    (∃ (s : State) (h : SspHeader), s.tampered = false ∧ SspOk s h 1 ∧ h.len = 20 ∧ (∀ u ∈ s.sio.setups, u.stn ≠ h.station) ∧
      (∀ u ∈ s.sio.queue, u.stn ≠ h.station) ∧ 4 ≤ s.sio.setups.length ∧ s.sio.queue.length = 63) ∧
    (∃ (s : State) (h : SspHeader), s.tampered = false ∧ SspOk s h 1 ∧ h.len = 20 ∧ (∀ u ∈ s.sio.setups, u.stn ≠ h.station) ∧
      (∀ u ∈ s.sio.queue, u.stn ≠ h.station) ∧ 4 ≤ s.sio.setups.length ∧ 64 ≤ s.sio.queue.length) ∧
    (∃ (s : State) (n : Nat) (u : Setup), n < 4096 ∧ s.sio.setups.find? (fun v => v.stn == n && !v.needKey) = some u ∧ s.sio.queue = [] ∧
      s.bit F.KEY_STAT.ENT_OK = true ∧ s.stnUp n = true) ∧
    (∃ (s : State) (n : Nat) (u : Setup), n < 4096 ∧ s.sio.setups.find? (fun v => v.stn == n && !v.needKey) = some u ∧ s.sio.queue = [] ∧
      s.bit F.KEY_STAT.ENT_OK = false) :=
  let four : List Setup := [⟨0, 0, 0, true, 1, true⟩, ⟨1, 0, 0, true, 1, true⟩, ⟨2, 0, 0, true, 1, true⟩, ⟨3, 0, 0, true, 1, true⟩]
  let full (n : Nat) : State := { serving stn0 [] with sio := ⟨[], four, (List.range n).map (fun k => ⟨4 + k, 0, 0, true, 1, false⟩), [], []⟩ }
  let done (l : List (Fld × Nat)) : State := { serving stn0 l with sio := ⟨[], [⟨4095, 0, 0, true, 77, false⟩], [], [], []⟩ }
  ⟨⟨full 63, ssp 1 20, by decide +kernel, ssp_ok (tabKey 5 (64 * 4095)) (by decide +kernel), by decide +kernel⟩,
    ⟨full 64, ssp 1 20, by decide +kernel, ssp_ok (tabKey 5 (64 * 4095)) (by decide +kernel), by decide +kernel⟩,
    ⟨done [(F.SW_STAT.STATE 4095, 3)], 4095, ⟨4095, 0, 0, true, 77, false⟩, by decide +kernel⟩,
    done [(F.KEY_STAT.ENT_OK, 0)], 4095, ⟨4095, 0, 0, true, 77, false⟩, by decide +kernel⟩

theorem witness_AnInputIsCheckedBeforeItIsTaken :
    (∃ (s : State) (h : SspHeader) (img : List Byte), SspOk s h 3 ∧ SspLive s h ∧ h.len = s.stnGet h.station T.SIO_STN.IN_LEN ∧ h.len = img.length ∧
      s.get (F.SW_STAT.STATE h.station) ≠ 1) ∧
    (∃ (s : State) (h : SspHeader) (img : List Byte), SspOk s h 3 ∧ SspLive s h ∧ h.len = s.stnGet h.station T.SIO_STN.IN_LEN ∧ h.len = img.length ∧
      s.get (F.SW_STAT.STATE h.station) = 1) ∧
    (∃ (s : State) (h : SspHeader), s.bit (F.SIO_PORTn_CFG.EN h.port) = true ∧ h.sumOk = false) ∧
    (∃ (s : State) (h : SspHeader) (img : List Byte), SspOk s h 3 ∧ h.len = s.stnGet h.station T.SIO_STN.IN_LEN ∧ h.len = img.length ∧
      h.session ≠ (s.stn h.station).session ∧ (s.stn h.station).closeHint = none ∧ s.tampered = false) ∧
    (∃ (s : State) (h : SspHeader) (img : List Byte) (u : Nat), SspOk s h 3 ∧ h.len = s.stnGet h.station T.SIO_STN.IN_LEN ∧ h.len = img.length ∧
      (s.stn h.station).session = 0 ∧ (s.stn h.station).closeHint = some u ∧ (s.elapse 249999999).clock.up < u + 250000000) ∧
    (∃ (s : State) (h : SspHeader) (img : List Byte), SspOk s h 3 ∧ h.len = s.stnGet h.station T.SIO_STN.IN_LEN ∧ h.len = img.length ∧
      (s.stn h.station).session ≠ 0 ∧ h.session = (s.stn h.station).session ∧ h.tagOk = false) ∧
    (∃ (s : State) (h : SspHeader) (img : List Byte), SspOk s h 3 ∧ h.len = s.stnGet h.station T.SIO_STN.IN_LEN ∧ h.len = img.length ∧
      (s.stn h.station).session ≠ 0 ∧ h.session = (s.stn h.station).session ∧ h.tagOk = true ∧ h.counter ≤ (s.stn h.station).rxCtr) :=
  let k := tabKey 5 (64 * 4095)
  ⟨⟨serving stnLive [(T.SIO_STN.IN_LEN 4095, 2), (F.SW_STAT.STATE 4095, 3)], ssp 3 2, [1, 2], ssp_ok k (by decide +kernel), ssp_live (by decide +kernel),
      by decide +kernel⟩,
    ⟨serving stnLive [(T.SIO_STN.IN_LEN 4095, 2), (F.SW_STAT.STATE 4095, 1)], ssp 3 2, [1, 2], ssp_ok k (by decide +kernel), ssp_live (by decide +kernel),
      by decide +kernel⟩,
    ⟨serving stnLive [], { ssp 3 2 with sumOk := false }, by decide +kernel⟩,
    ⟨serving stnLive [(T.SIO_STN.IN_LEN 4095, 2)], { ssp 3 2 with session := 6 }, [1, 2], ssp_ok k (by decide +kernel), by decide +kernel⟩,
    ⟨serving { stn0 with closeHint := some 0 } [(T.SIO_STN.IN_LEN 4095, 2)], ssp 3 2, [1, 2], 0, ssp_ok k (by decide +kernel), by decide +kernel⟩,
    ⟨serving stnLive [(T.SIO_STN.IN_LEN 4095, 2)], { ssp 3 2 with tagOk := false }, [1, 2], ssp_ok k (by decide +kernel), by decide +kernel⟩,
    serving { stnLive with rxCtr := 1 } [(T.SIO_STN.IN_LEN 4095, 2)], ssp 3 2, [1, 2], ssp_ok k (by decide +kernel), by decide +kernel⟩

theorem witness_TheWatchdogTakesAStationDown_1 :
    let came := fun (s : State) (n : Nat) => (s.stn n).rx.any (fun t => s.checkInstant n - (s.stn n).period * 1000 < (t : Int) && (t : Int) ≤ s.checkInstant n)
    let before := fun (s : State) (n : Nat) => (s.stn n).rx.any (fun t => s.checkInstant n - 2 * ((s.stn n).period * 1000) < (t : Int) &&
      (t : Int) ≤ s.checkInstant n - (s.stn n).period * 1000)
    (∃ s : State, s.served.contains 4095 = true ∧ s.get (F.SW_STAT.STATE 4095) = 3 ∧ came s 4095 = true ∧ 0 < s.wdCount 4095) ∧
    (∃ s : State, s.served.contains 4095 = true ∧ s.get (F.SW_STAT.STATE 4095) = 2 ∧ came s 4095 = true ∧ before s 4095 = true ∧
      (s.stn 4095).session ≠ 0) ∧
    (∃ s : State, s.served.contains 4095 = true ∧ s.get (F.SW_STAT.STATE 4095) = 3 ∧ came s 4095 = false ∧
      min 15 (s.get (F.SW_STAT.MISS 4095) + 1) < s.wdCount 4095) ∧
    (∃ s : State, s.served.contains 4095 = true ∧ s.get (F.SW_STAT.STATE 4095) = 3 ∧ came s 4095 = false ∧
      s.wdCount 4095 ≤ min 15 (s.get (F.SW_STAT.MISS 4095) + 1)) :=
  let at_ (s : State) : State := { s with clock := { s.clock with sec := 1 } }
  ⟨⟨at_ (serving { stnLive with rx := [999125000] } [(F.SW_STAT.STATE 4095, 3)]), by decide +kernel⟩,
    ⟨at_ (serving { stnLive with rx := [998125000, 999125000] } [(F.SW_STAT.STATE 4095, 2)]), by decide +kernel⟩,
    ⟨at_ (serving stnLive [(F.SW_STAT.STATE 4095, 3), (F.SW_STAT.MISS 4095, 1)]), by decide +kernel⟩,
    at_ (serving stnLive [(F.SW_STAT.STATE 4095, 3), (F.SW_STAT.MISS 4095, 2)]), by decide +kernel⟩

theorem witness_TheWatchdogTakesAStationDown_2 :
    (∃ s : State, s.get (F.SW_STAT.STATE 4095) = 3 ∧ s.wdCount 4095 ≤ s.get (F.SW_STAT.MISS 4095)) ∧
    (∃ (s : State) (h : SspHeader), h.station = 4095 ∧ SspOk s h 7 ∧ SspLive s h ∧ h.len = 1 ∧ s.get (F.SW_STAT.STATE 4095) = 2) ∧
    (∃ (s : State) (rq : Rq) (v : Word), Writes s rq R.SIO_CLOSE ∧ v.toNat % 4096 = 4095 ∧ s.stnPresent 4095 = true ∧ (s.stn 4095).session ≠ 0 ∧
      s.get (F.SW_STAT.STATE 4095) = 3) ∧
    (∃ (s : State) (rq : Rq) (v : Word), Writes s rq R.SIO_CLOSE ∧ v.toNat % 4096 = 4095 ∧ s.stnPresent 4095 = false) :=
  ⟨⟨serving stnLive [(F.SW_STAT.STATE 4095, 3), (F.SW_STAT.MISS 4095, 3)], by decide +kernel⟩,
    ⟨serving stnLive [(F.SW_STAT.STATE 4095, 2)], ssp 7 1, rfl, ssp_ok (tabKey 5 (64 * 4095)) (by decide +kernel), ssp_live (by decide +kernel),
      by decide +kernel⟩,
    ⟨serving stnLive [(F.SW_STAT.STATE 4095, 3)], .cxA, 4095#32, writes_of (by decide +kernel), by decide +kernel⟩,
    { run [] with variant := .zkv4240 }, .cxA, 4095#32, writes_of (by decide +kernel), by decide +kernel⟩

theorem witness_RequestsAreCarriedOutOnce :
    (∃ (s : State) (h : SspHeader) (b : SspBody), SspOk s h 5 ∧ SspLive s h ∧ 8 ≤ h.len ∧ h.len ≤ 248 ∧ s.activeCx.isSome ∧ b.seq < 65536 ∧
      s.get (F.SW_STAT.STATE h.station) = 3 ∧ (s.stn h.station).newestSeq.find? (fun e => e.1 == b.origin && e.2.1 == b.cls) = none ∧
      (s.stn h.station).answered.find? (fun e => e.1 == b.origin && e.2.1 == b.cls && e.2.2.1 == b.seq) = none) ∧
    (∃ (s : State) (h : SspHeader) (b : SspBody) (m : Nat) (e : Nat × Nat × Nat × Nat × List Byte), SspOk s h 5 ∧ SspLive s h ∧ 8 ≤ h.len ∧
      h.len ≤ 248 ∧ s.activeCx.isSome ∧ b.seq < 65536 ∧ s.get (F.SW_STAT.STATE h.station) = 3 ∧
      (s.stn h.station).newestSeq.find? (fun e => e.1 == b.origin && e.2.1 == b.cls) = some (b.origin, b.cls, m) ∧ m < 65536 ∧
      (s.stn h.station).answered.find? (fun e => e.1 == b.origin && e.2.1 == b.cls && e.2.2.1 == b.seq) = some e ∧
      (m + 65536 - b.seq) % 65536 < 64) ∧
    (∃ (s : State) (h : SspHeader) (b : SspBody) (m : Nat), SspOk s h 5 ∧ SspLive s h ∧ 8 ≤ h.len ∧ h.len ≤ 248 ∧ s.activeCx.isSome ∧
      b.seq < 65536 ∧ s.get (F.SW_STAT.STATE h.station) = 3 ∧
      (s.stn h.station).newestSeq.find? (fun e => e.1 == b.origin && e.2.1 == b.cls) = some (b.origin, b.cls, m) ∧ m < 65536 ∧
      64 ≤ (m + 65536 - b.seq) % 65536 ∧ (m + 65536 - b.seq) % 65536 < 32768) ∧
    (∃ (s : State) (h : SspHeader), SspOk s h 6 ∧ SspLive s h ∧ 8 ≤ h.len ∧ h.len ≤ 248) ∧
    (∃ (s : State) (b : SspBody), s.activeCx.isSome ∧ s.tampered = false ∧ (s.stn 4095).session ≠ 0 ∧ s.get (F.SW_STAT.STATE 4095) = 3 ∧
      ¬ (b.cls = 2 ∧ b.op = 4 ∧ b.index = 0)) ∧
    (∃ (s : State) (b : SspBody), s.activeCx.isSome ∧ s.tampered = false ∧ (s.stn 4095).session ≠ 0 ∧ s.get (F.SW_STAT.STATE 4095) = 3 ∧
      setTiming? { b with origin := 0xFFFF } = some (1000, 0, 0, 0, 0) ∧ b.data.length = 20 ∧ s.timingOk 4095 1000 0 = true) ∧
    (∃ (s : State) (b : SspBody) (p i o sec ns : Nat), s.activeCx.isSome ∧ s.tampered = false ∧ (s.stn 4095).session ≠ 0 ∧
      s.get (F.SW_STAT.STATE 4095) = 3 ∧ setTiming? { b with origin := 0xFFFF } = some (p, i, o, sec, ns) ∧ b.data.length = 20 ∧
      s.timingOk 4095 p o = false) ∧
    (∃ s : State, (s.stn 4095).newTiming = some (1, 2, 3, 4)) :=
  let k := tabKey 5 (64 * 4095)
  let up : List (Fld × Nat) := [(F.SW_STAT.STATE 4095, 3)]
  let seen : Stn := { stnLive with answered := [(1, 2, 10, 0, [7])], newestSeq := [(1, 2, 73)] }
  let req (seq : Nat) : SspBody := { body0 with origin := 1, cls := 2, seq := seq }
  let timing : SspBody := { body0 with cls := 2, op := 4, data := [0xE8, 3] ++ List.replicate 18 0 }
  ⟨⟨serving stnLive up, ssp 5 248, req 65535, ssp_ok k (by decide +kernel), ssp_live (by decide +kernel), by decide +kernel⟩,
    ⟨serving seen up, ssp 5 8, req 10, 73, _, ssp_ok k (by decide +kernel), ssp_live (by decide +kernel), by decide +kernel, by decide +kernel,
      by decide +kernel, by decide +kernel, by decide +kernel, by decide +kernel, by decide +kernel, rfl, by decide +kernel⟩,
    ⟨serving seen up, ssp 5 8, req 9, 73, ssp_ok k (by decide +kernel), ssp_live (by decide +kernel), by decide +kernel⟩,
    ⟨serving seen up, ssp 6 8, ssp_ok k (by decide +kernel), ssp_live (by decide +kernel), by decide +kernel⟩,
    ⟨serving stnLive up, req 0, by decide +kernel⟩, ⟨serving stnLive up, timing, by decide +kernel⟩,
    ⟨let s := serving stnLive (up ++ [(T.SIO_STN.EN 0, 1), (T.SIO_STN.PERIOD 0, 4)]); { s with sio := { s.sio with stns := [(0, stnLive), (4095, stnLive)] } },
      timing, 1000, 0, 0, 0, 0, by decide +kernel⟩,
    serving { stnLive with newTiming := some (1, 2, 3, 4) } [], by decide +kernel⟩

theorem witness_QueuedFramesGoOutAtTheirSlots :
    (∃ s : State, (s.lq (s.stnGet 4095 T.SIO_STN.PORT)).any (fun l => l.stn == 4095 && l.fetched.isNone) = true) ∧
    (∃ (s : State) (f : Nat × List Byte × Nat), s.launchHeld 4095 = false ∧ (∃ l ∈ s.lq (s.stnGet 4095 T.SIO_STN.PORT), l.stn = 4095) ∧
      (∀ l ∈ s.lq (s.stnGet 4095 T.SIO_STN.PORT), l.stn = 4095 → l.fetched = some f)) ∧
    (∃ s : State, (s.stn 4095).withheld = true ∧ s.bit (F.SIO_PORTn_CFG.EN 0) = true ∧ s.bit (F.SIO_PORTn_CFG.EN 1) = false ∧
      ((s.sio.echoes.filter (fun e => (s.elapse 0).clock.up < e.2 + 250000000)).filter (fun e => e.1 == 0)).length = 9) :=
  ⟨⟨{ serving stnLive [] with tim := { State.reset.tim with lq0 := [⟨4095, 0, 0, none⟩] } }, by decide +kernel⟩,
    ⟨{ serving stnLive [] with tim := { State.reset.tim with lq0 := [⟨4095, 0, 0, some (0, [], 0)⟩] } }, (0, [], 0), by decide +kernel⟩,
    { serving stnLive [] with sio := { State.reset.sio with stns := [(4095, { stnLive with withheld := true })], echoes := List.replicate 9 (0, 0) } },
    by decide +kernel⟩

def withPgr (s : State) (f : PgrSt → PgrSt) : State := { s with pgr := f s.pgr }

theorem witness_PagesMoveWithoutLosingAByte :
    (∃ s : State, s.bit F.PGR_STAT.RUN = true ∧ s.bit F.PGR_CFG.LRU_ONLY = false ∧ 0 < s.get F.PGR_CFG.PF_DEPTH ∧
      (s.pgr.pages.filter (fun p => p.loading)).length = 15 ∧ (s.pgr.pages.filter (fun p => !p.writing)).length < 1024 ∧
      s.pgr.ringL = [4095] ∧ s.page? (4095 % 4096) = none ∧ s.stnPresent (4095 % 4096) = true ∧ s.bit (T.SIO_STN.EN (4095 % 4096)) = true) ∧
    (∃ s : State, s.bit F.PGR_STAT.RUN = true ∧ s.bit F.PGR_CFG.LRU_ONLY = false ∧ 0 < s.get F.PGR_CFG.PF_DEPTH ∧
      (s.pgr.pages.filter (fun p => p.loading)).length < 16 ∧ (s.pgr.pages.filter (fun p => !p.writing)).length < 1024 ∧
      s.pgr.ringL = [] ∧ s.pgr.ringC = [4095] ∧ s.page? (4095 % 4096) = none ∧ s.bit (T.SIO_STN.EN (4095 % 4096)) = false) ∧
    (∃ s : State, s.bit F.PGR_STAT.RUN = true ∧ s.bit F.PGR_CFG.LRU_ONLY = false ∧ 0 < s.get F.PGR_CFG.PF_DEPTH ∧
      16 ≤ (s.pgr.pages.filter (fun p => p.loading)).length) ∧
    (∃ (s : State) (p : Page), s.page? 4095 = some p ∧ p.loading = true ∧ p.waits ≠ [] ∧ Memory.wf s.dram) ∧
    (∃ (s : State) (p : Page), s.page? 4095 = some p ∧ p.writing = true ∧ p.loading = false ∧ Memory.wf s.cache) :=
  let loads (n : Nat) : List Page := (List.range n).map (fun k => (⟨k, false, 0, true, false, []⟩ : Page))
  let cfg : List (Fld × Nat) := [(F.PGR_CFG.LRU_ONLY, 0), (F.PGR_CFG.PF_DEPTH, 1)]
  ⟨⟨withPgr (run (cfg ++ [(T.SIO_STN.EN 4095, 1)])) (fun p => { p with pages := loads 15, ringL := [4095] }), by decide +kernel⟩,
    ⟨withPgr (run cfg) (fun p => { p with ringC := [4095] }), by decide +kernel⟩,
    ⟨withPgr (run cfg) (fun p => { p with pages := loads 16 }), by decide +kernel⟩,
    ⟨{ withPgr (run []) (fun p => { p with pages := [⟨4095, false, 0, true, false, [(16777215, 3)]⟩] }) with dram := [(16777215, 7)] }, _, rfl, rfl,
      by decide +kernel, by decide +kernel⟩,
    { withPgr (run []) (fun p => { p with pages := [⟨4095, true, 0, false, true, []⟩] }) with cache := [(16777215, 7)] }, _, rfl, rfl, rfl,
      by decide +kernel⟩

theorem witness_TasksAreReleasedAndRegionsGranted_1 :
    (∃ s : State, s.bit F.PGR_STAT.SCHED = true ∧ s.get (T.PGR_TASK.TYPE 63) = 2 ∧ s.bit (T.PGR_TASK.EN 63) = true ∧
      s.get (F.T_STAT.STATE 63) = 0) ∧
    (∃ s : State, s.bit F.PGR_STAT.SCHED = true ∧ s.get (T.PGR_TASK.TYPE 63) = 2 ∧ s.bit (T.PGR_TASK.EN 63) = true ∧
      s.get (F.T_STAT.STATE 63) ≠ 0 ∧ look (fun _ => 0) s.pgr.skips 63 + 1 < s.get F.CYC_OVR_LIM.LIM) ∧
    (∃ s : State, s.bit F.PGR_STAT.SCHED = true ∧ s.get (T.PGR_TASK.TYPE 63) = 2 ∧ s.bit (T.PGR_TASK.EN 63) = true ∧
      s.get (F.T_STAT.STATE 63) ≠ 0 ∧ s.get F.CYC_OVR_LIM.LIM ≤ look (fun _ => 0) s.pgr.skips 63 + 1 ∧ 63 ∉ s.pgr.skipRaised) ∧
    (∃ (s : State) (rq : Rq) (v : Word), Writes s rq R.PGR_TRIG ∧ s.eventTask (v.toNat % 64) 0 = true ∧ s.bit F.PGR_STAT.SCHED = true ∧
      s.get (F.T_STAT.STATE (v.toNat % 64)) = 0) ∧
    (∃ (s : State) (rq : Rq) (v : Word), Writes s rq R.PGR_TRIG ∧ s.eventTask (v.toNat % 64) 0 = true ∧ s.bit F.PGR_STAT.SCHED = true ∧
      s.get (F.T_STAT.STATE (v.toNat % 64)) ≠ 0 ∧ s.bit (F.T_STAT.PEND (v.toNat % 64)) = false) ∧
    (∃ (s : State) (rq : Rq) (v : Word), Writes s rq R.PGR_TRIG ∧ s.eventTask (v.toNat % 64) 0 = true ∧ s.bit F.PGR_STAT.SCHED = true ∧
      s.get (F.T_STAT.STATE (v.toNat % 64)) ≠ 0 ∧ s.bit (F.T_STAT.PEND (v.toNat % 64)) = true) ∧
    (∃ (s : State) (rq : Rq) (v : Word), Writes s rq R.PGR_TRIG ∧ s.eventTask (v.toNat % 64) 0 = false) :=
  let timed : List (Fld × Nat) := [(T.PGR_TASK.TYPE 63, 2), (T.PGR_TASK.EN 63, 1), (F.CYC_OVR_LIM.LIM, 3)]
  let event : List (Fld × Nat) := [(T.PGR_TASK.TYPE 63, 3), (T.PGR_TASK.EN 63, 1)]
  ⟨⟨run timed, by decide +kernel⟩,
    ⟨withPgr (run (timed ++ [(F.T_STAT.STATE 63, 1)])) (fun p => { p with skips := [(63, 1)] }), by decide +kernel⟩,
    ⟨withPgr (run (timed ++ [(F.T_STAT.STATE 63, 1)])) (fun p => { p with skips := [(63, 2)] }), by decide +kernel⟩,
    ⟨run event, .cxA, 63#32, writes_of (by decide +kernel), by decide +kernel⟩,
    ⟨run (event ++ [(F.T_STAT.STATE 63, 2)]), .cxA, 63#32, writes_of (by decide +kernel), by decide +kernel⟩,
    ⟨run (event ++ [(F.T_STAT.STATE 63, 2), (F.T_STAT.PEND 63, 1)]), .cxA, 63#32, writes_of (by decide +kernel), by decide +kernel⟩,
    run [], .cxA, 63#32, writes_of (by decide +kernel), by decide +kernel⟩

theorem witness_TasksAreReleasedAndRegionsGranted_2 :
    (∃ s : State, s.cycLive = true ∧ s.nextReady = some 63 ∧ s.pgr.stack = []) ∧
    (∃ (s : State) (f : RunFrame), s.cycLive = true ∧ s.nextReady = some 63 ∧ s.pgr.stack = [f] ∧ f.task < 64 ∧ f.task ≠ 63 ∧
      s.get (T.PGR_TASK.PRIO f.task) < s.get (T.PGR_TASK.PRIO 63)) ∧
    (∃ (s : State) (f : RunFrame), s.cycLive = true ∧ s.nextReady = some 63 ∧ s.pgr.stack = [f] ∧ f.task < 64 ∧ f.task ≠ 63 ∧
      s.get (T.PGR_TASK.PRIO 63) ≤ s.get (T.PGR_TASK.PRIO f.task)) ∧
    (∃ (s : State) (f : RunFrame), s.cycLive = true ∧ s.pgr.stack = [f] ∧ s.pgr.ready = [] ∧ 0 < f.task ∧ f.task < 64 ∧ s.taskEnd f.task ≤ f.next ∧
      s.bit (F.T_STAT.PEND f.task) = false) ∧
    (∃ (s : State) (b : Nat), s.get (F.PGR_USEDn.USED 1) + 3 ≤ s.get (F.PGR_QUOTAn.QUOTA 1) ∧ s.runFree b 3 = true ∧
      (∀ c, s.runFree c 3 = true → b ≤ c) ∧ (∃ i, i < 256 ∧ ∀ r ∈ s.pgr.regions, r.1 ≠ i)) ∧
    (∃ s : State, s.get (F.PGR_USEDn.USED 1) + 3 ≤ s.get (F.PGR_QUOTAn.QUOTA 1) ∧ ∀ b, s.runFree b 3 = false) ∧
    (∃ s : State, s.get (F.PGR_QUOTAn.QUOTA 1) < s.get (F.PGR_USEDn.USED 1) + 3) ∧
    (∃ (s : State) (r : Nat × Nat × Nat × Nat), s.pgr.regions.find? (fun r => r.1 == 255) = some r ∧ (s.isActive (.kmp 0) && !false) = false ∧
      s.isActive .cxA = true) := by
  let f : RunFrame := ⟨1, 5, 0, 0, 0, []⟩
  let prio (a b : Nat) : List (Fld × Nat) := [(T.PGR_TASK.PRIO 1, a), (T.PGR_TASK.PRIO 63, b)]
  let pool (n : Nat) : State := withPgr (run [(F.PGR_QUOTAn.QUOTA 1, 3), (F.PGR_POOL_BASE.BASE, 300), (F.PGR_POOL_SIZE.SIZE, n)]) (fun p => p)
  have hp : ∀ n, (n = 3 ∨ n = 2) → (pool n).get F.PGR_POOL_BASE.BASE = 300 ∧ (pool n).get F.PGR_POOL_SIZE.SIZE = n := by
    rintro n (rfl | rfl) <;> decide +kernel
  refine ⟨⟨withPgr (run []) (fun p => { p with ready := [63] }), by decide +kernel⟩,
    ⟨withPgr (run (prio 1 2)) (fun p => { p with ready := [63], stack := [f] }), f, by decide +kernel⟩,
    ⟨withPgr (run (prio 2 2)) (fun p => { p with ready := [63], stack := [f] }), f, by decide +kernel⟩,
    ⟨withPgr (run [(T.PGR_TASK.LAST 1, 4)]) (fun p => { p with stack := [f] }), f, by decide +kernel⟩,
    ⟨pool 3, 300, by decide +kernel, by decide +kernel, fun c hc => ?_, 255, by decide +kernel⟩,
    ⟨pool 2, by decide +kernel, fun b => ?_⟩, ⟨run [(F.PGR_QUOTAn.QUOTA 1, 2)], by decide +kernel⟩,
    withPgr (run []) (fun p => { p with regions := [(255, 1, 0, 1)] }), _, rfl, by decide +kernel, by decide +kernel⟩
  · simp only [State.runFree, (hp 3 (.inl rfl)).1, Bool.and_eq_true, decide_eq_true_eq] at hc; exact hc.1.1
  · simp only [State.runFree, (hp 2 (.inr rfl)).1, (hp 2 (.inr rfl)).2, Bool.and_eq_false_iff, decide_eq_false_iff_not]; omega

theorem witness_ACycleStartsRunsAndOverruns :
    (∃ s : State, s.cycLive = true ∧ s.get F.CYC_STAT.EXCH ≠ 3 ∧ s.pgr.stack = [] ∧ s.pgr.flagged = [] ∧
      (∀ p ∈ s.pgr.pages, p.loading = false → p.writing = false → p.waits = []) ∧ s.stnPresent 4095 = true) ∧
    (∃ (s : State) (f : RunFrame), s.cycLive = true ∧ s.cyc.running = true ∧ s.pgr.stack = [f] ∧ f.task = 0 ∧
      s.get F.CYC_TMAX.TMAX * 250 ≤ (s.elapse 2500).clock.up - s.cyc.snapUp ∧ s.get F.CYC_STAT.OVR_RUN + 1 < s.get F.CYC_OVR_LIM.LIM ∧
      s.get F.CYC_STAT.OVR_RUN < 255 ∧ s.pgr.ready = [] ∧ s.bit (F.T_STAT.PEND 0) = false) ∧
    (∃ (s : State) (f g : RunFrame), s.cycLive = true ∧ s.cyc.running = true ∧ s.pgr.stack = [f, g] ∧
      s.get F.CYC_TMAX.TMAX * 250 ≤ (s.elapse 2500).clock.up - s.cyc.snapUp) ∧
    (∃ s : State, s.cycLive = true ∧ s.cyc.running = true ∧ (s.elapse 2499).clock.up - s.cyc.snapUp < s.get F.CYC_TMAX.TMAX * 250) ∧
    (∃ s : State, s.cycLive = true ∧ s.get F.CYC_OVR_LIM.LIM ≤ s.get F.CYC_STAT.OVR_RUN ∧ s.get F.CYC_STAT.OVR_RUN ≠ 0 ∧ s.cyc.ovrRaised = false) ∧
    (∃ s : State, s.cycLive = true ∧ s.get F.CYC_OVR_LIM.LIM ≤ s.get F.CYC_STAT.OVR_RUN ∧ s.get F.CYC_STAT.OVR_RUN ≠ 0 ∧ s.cyc.ovrRaised = true) :=
  let f (t : Nat) : RunFrame := ⟨t, 0, 0, 0, 0, []⟩
  let going (l : List (Fld × Nat)) (st : List RunFrame) (raised : Bool) : State :=
    { withPgr (run ([(F.CYC_TMAX.TMAX, 10), (F.CYC_OVR_LIM.LIM, 3)] ++ l)) (fun p => { p with stack := st }) with
      cyc := { cyc0 with running := true, ovrRaised := raised } }
  ⟨⟨run [], by decide +kernel⟩, ⟨going [(F.CYC_STAT.OVR_RUN, 1)] [f 0] false, f 0, by decide +kernel⟩,
    ⟨going [] [f 63, f 0] false, f 63, f 0, by decide +kernel⟩, ⟨going [] [f 0] false, by decide +kernel⟩,
    ⟨going [(F.CYC_STAT.OVR_RUN, 3)] [] false, by decide +kernel⟩, going [(F.CYC_STAT.OVR_RUN, 3)] [] true, by decide +kernel⟩

theorem witness_AProgramIsExchangedAtABoundary :
    (∃ (s : State) (img : CfgImage), s.get F.CYC_STAT.EXCH = 1 ∧ ∃ g, ((s.elapse 0).stage img).2 = .ok g) ∧
    (∃ (s : State) (img : CfgImage), s.get F.CYC_STAT.EXCH = 1 ∧ ∃ k, ((s.elapse 0).stage img).2 = .error k) ∧
    (∃ (s : State) (rq : Rq), Writes s rq R.CYC_CTRL ∧ s.get F.CYC_STAT.EXCH = 2) ∧
    (∃ (s : State) (rq : Rq), Writes s rq R.CYC_CTRL ∧ s.get F.CYC_STAT.EXCH ≠ 2 ∧ s.get F.CYC_STAT.EXCH = 3) ∧
    (∃ (s : State) (rq : Rq), Writes s rq R.CYC_CTRL ∧ s.get F.CYC_STAT.EXCH ≠ 2 ∧ s.get F.CYC_STAT.EXCH ≠ 3) ∧
    (∃ (s : State) (g : Staged), s.cyc.staged = some g ∧ s.cycLive = true ∧ s.get F.CYC_STAT.EXCH = 3 ∧ s.pgr.stack = [] ∧ s.pgr.flagged = [] ∧
      s.lpe.staged = none) ∧
    (∃ (s : State) (tab : List (Nat × Word)), s.lpe.staged = some tab ∧ (tab.map Prod.fst).Nodup ∧ (∀ e ∈ tab, e.1 < 0x90000) ∧
      0x8FFFC < 0x90000 ∧ 0x8FFFC ∉ tab.map Prod.fst ∧ (T.LPE_SLOT.EN 4095).key ∉ tab.map (fun e => tabKey 6 0 + e.1)) :=
  let staging : State := { start [(F.CYC_STAT.EXCH, 1)] with powered := true }
  ⟨⟨staging, imgW, by decide +kernel, isOk_of (by decide +kernel)⟩, ⟨staging, imgBad, by decide +kernel, isError_of (by decide +kernel)⟩,
    ⟨run [(F.CYC_STAT.EXCH, 2)], .cxA, writes_of (by decide +kernel), by decide +kernel⟩,
    ⟨run [(F.CYC_STAT.EXCH, 3)], .cxA, writes_of (by decide +kernel), by decide +kernel⟩,
    ⟨run [(F.CYC_STAT.EXCH, 4)], .cxA, writes_of (by decide +kernel), by decide +kernel⟩,
    ⟨{ run [(F.CYC_STAT.EXCH, 3)] with cyc := { cyc0 with staged := some ⟨7, [], [], 0, 0, 0, []⟩ } }, _, rfl, by decide +kernel⟩,
    { run [] with lpe := { State.reset.lpe with staged := some [(0, 1), (0x8FFF8, 2)] } }, _, rfl, by decide +kernel⟩

def withSlot (s : State) (n : Nat) (x : Slot) : State := { s with lpe := { s.lpe with slots := [(n, x)] } }
/-- Slot 4095 enabled, in the group 255 of which it is the one member, and selected by complex A. -/
def grp255 : List (Fld × Nat) := [(T.LPE_SLOT.EN 4095, 1), (T.LPE_SLOT.GRP_EN 4095, 1), (T.LPE_SLOT.GRP 4095, 255), (T.LPE_SLOT.TRIP_EN 4095, 1)]

theorem witness_SlotWritesAreJudgedBeforeTheyAct :
    (∃ (s : State) (rq : Rq) (v w : Word), Writes s rq (R.LPn_MODE 0) ∧ s.listsRequest (s.get (F.LPE_WIN_SEL.SLOT rq.num)) (v.toNat % 8) = true ∧
      s.listsRequest (s.get (F.LPE_WIN_SEL.SLOT rq.num)) (w.toNat % 8) = false) ∧
    (∃ (s : State) (rq : Rq), Writes s rq (R.LPn_SP 0) ∧ s.get (T.LPE_SLOT.SP_SRC (s.get (F.LPE_WIN_SEL.SLOT rq.num))) ≠ 0) ∧
    (∃ (s : State) (rq : Rq) (v : Word), Writes s rq (R.LPn_SP 0) ∧ s.get (T.LPE_SLOT.SP_SRC (s.get (F.LPE_WIN_SEL.SLOT rq.num))) = 0 ∧
      (f32val v).notFinite = true) ∧
    (∃ (s : State) (rq : Rq) (v w x : Word), Writes s rq (R.LPn_SP 0) ∧ s.get (T.LPE_SLOT.SP_SRC (s.get (F.LPE_WIN_SEL.SLOT rq.num))) = 0 ∧
      (f32val v).notFinite = false ∧ (f32val v).lt (f32val (s.getw (T.LPE_SLOT.SP_LO (s.get (F.LPE_WIN_SEL.SLOT rq.num))))) = true ∧
      (f32val w).notFinite = false ∧ (f32val w).lt (f32val (s.getw (T.LPE_SLOT.SP_LO (s.get (F.LPE_WIN_SEL.SLOT rq.num))))) = false ∧
      (f32val (s.getw (T.LPE_SLOT.SP_HI (s.get (F.LPE_WIN_SEL.SLOT rq.num))))).lt (f32val w) = true ∧
      (f32val x).notFinite = false ∧ (f32val x).lt (f32val (s.getw (T.LPE_SLOT.SP_LO (s.get (F.LPE_WIN_SEL.SLOT rq.num))))) = false ∧
      (f32val (s.getw (T.LPE_SLOT.SP_HI (s.get (F.LPE_WIN_SEL.SLOT rq.num))))).lt (f32val x) = false) ∧
    (∃ (s : State) (rq : Rq) (v : Word), Writes s rq (R.LPn_MAN 0) ∧ s.get (T.LPE_SLOT.MAN_SRC (s.get (F.LPE_WIN_SEL.SLOT rq.num))) = 0 ∧
      (f32val v).notFinite = false) ∧
    (∃ (s : State) (rq : Rq) (v : Word), Writes s rq R.LPE_GRP_RESET ∧ s.members (v.toNat % 256) = []) ∧
    (∃ (s : State) (rq : Rq) (v : Word), Writes s rq R.LPE_GRP_RESET ∧ 4095 ∈ s.members (v.toNat % 256) ∧ s.bit (T.LPE_SLOT.TRIP_EN 4095) = true ∧
      (s.slot 4095).tripCond = true) ∧
    (∃ (s : State) (rq : Rq) (v : Word), Writes s rq R.LPE_GRP_RESET ∧ s.members (v.toNat % 256) ≠ [] ∧
      (∀ k ∈ s.members (v.toNat % 256), (s.bit (T.LPE_SLOT.TRIP_EN k) && (s.slot k).tripCond) = false ∧ s.resetHeld k = false)) ∧
    (∃ (s : State) (rq : Rq), Writes s rq (R.LPn_FLT 0) ∧ 0 < 1) :=
  let sel : Fld × Nat := (F.LPE_WIN_SEL.SLOT 0, 4095)
  ⟨⟨run [sel], .cxA, 1#32, 7#32, writes_of (by decide +kernel), by decide +kernel⟩,
    ⟨run [sel, (T.LPE_SLOT.SP_SRC 4095, 1)], .cxA, writes_of (by decide +kernel), by decide +kernel⟩,
    ⟨run [sel], .cxA, 0x7F800000#32, writes_of (by decide +kernel), by decide +kernel⟩,
    ⟨run [sel, (T.LPE_SLOT.SP_LO 4095, 0x3F800000), (T.LPE_SLOT.SP_HI 4095, 0x40000000)], .cxA, 0#32, 0x40400000#32, 0x3F800000#32,
      writes_of (by decide +kernel), by decide +kernel⟩,
    ⟨run [sel], .cxA, 0#32, writes_of (by decide +kernel), by decide +kernel⟩,
    ⟨run [], .cxA, 255#32, writes_of (by decide +kernel), by decide +kernel⟩,
    ⟨withSlot (run grp255) 4095 { slot0 with tripCond := true }, .cxA, 255#32, writes_of (by decide +kernel), by decide +kernel⟩,
    ⟨run grp255, .cxA, 255#32, writes_of (by decide +kernel), by decide +kernel⟩, run [], .kmp 0, writes_of (by decide +kernel), by decide⟩

theorem witness_TheLoopEngineEvaluatesAtItsTick :
    (∃ s : State, s.lpe.late = [] ∧ s.pgr.stepReleased = [] ∧ s.bit F.LPE_STAT.RUN = false ∧ s.bit F.SYS_SVC.CAPLOOP = false) ∧
    (∃ s : State, s.lpe.late = [] ∧ s.pgr.stepReleased = [] ∧ s.bit F.LPE_STAT.RUN = true ∧ s.dueOrder ((s.elapse 0).now / 250000) = [4095] ∧
      s.bit (T.LPE_SLOT.GRP_EN 4095) = false ∧ (s.slot 4095).mode = 0 ∧ (s.slot 4095).req = none) ∧
    (∀ a, a < 3 → ∃ s : State, s.get (T.LPE_SLOT.PL_SRC 4095) ≠ 0 ∧ (s.slot 4095).plActed = false ∧
      s.get (T.LPE_SLOT.PL_N 4095) ≤ s.get (F.LPn_STAT.PL_RUN 4095) ∧ s.get (T.LPE_SLOT.PL_ACT 4095) = a) ∧
    (∃ s : State, s.members 255 = [4095] ∧ s.bit (tripFld 255) = false) ∧
    (∃ s : State, s.lpe.late = [4095] ∧ s.get (F.LPn_STAT.LATE_RUN 4095) < 2) ∧
    (∃ s : State, s.get (F.LPn_STAT.LATE_RUN 4095) = 3 ∧ s.bit (F.LPn_FLT.LATE 4095) = false ∧ s.bit (T.LPE_SLOT.GRP_EN 4095) = false) ∧
    (∃ (s : State) (w : TripCopy), s.saf.trips.find? (fun w => w.slot == 4095) = some w ∧ w.grp < 256 ∧ s.members w.grp ≠ []) ∧
    (∃ s : State, s.bit F.SYS_SVC.CAPLOOP = true ∧ s.bit (T.CFG_CLOOP.EN 63) = true ∧ s.capFed 63 = true ∧
      s.geti ⟨(T.CFG_CLOOP.SLOT 63).key + 28, 0, 32⟩ ≤ s.geti ⟨(T.CFG_CLOOP.SLOT 63).key + 32, 0, 32⟩ ∧ s.bit (T.CFG_CLOOP.EN 0) = false) := by
  refine ⟨⟨run [(F.LPE_STAT.RUN, 0)], by decide +kernel⟩, ⟨run [(T.LPE_SLOT.EN 4095, 1), (T.LPE_SLOT.PERIOD 4095, 1)], by decide +kernel⟩,
    fun a ha => ⟨run [(T.LPE_SLOT.PL_SRC 4095, 1), (T.LPE_SLOT.PL_ACT 4095, a), (T.LPE_SLOT.PL_N 4095, 2), (F.LPn_STAT.PL_RUN 4095, 2)], ?_⟩,
    ⟨run grp255, by decide +kernel⟩, ⟨{ run [(F.LPn_STAT.LATE_RUN 4095, 1)] with lpe := { State.reset.lpe with late := [4095] } }, by decide +kernel⟩,
    ⟨run [(F.LPn_STAT.LATE_RUN 4095, 3)], by decide +kernel⟩,
    ⟨{ run grp255 with saf := { State.reset.saf with trips := [⟨4095, 255, 0, 0, 1, 0⟩] } }, _, rfl, by decide +kernel, by decide +kernel⟩,
    run [(F.SYS_SVC.CAPLOOP, 1), (T.CFG_CLOOP.EN 63, 1), (F.SW_STAT.STATE 0, 3)], by decide +kernel⟩
  have h : a = 0 ∨ a = 1 ∨ a = 2 := by omega
  rcases h with rfl | rfl | rfl <;> decide +kernel

def withAx (s : State) (n : Nat) (x : Ax) : State := { s with mpg := { s.mpg with axes := [(n, x)] } }
/-- Axis 15 configured and enabled. -/
def axis (l : List (Fld × Nat)) : State := run ([(F.AXn_CFG.EN 15, 1), (F.AXn_STAT.EN_OUT 15, 1)] ++ l)

theorem witness_AxisCommandsActOnAConfiguredAxis_1 :
    (∃ (s : State) (rq : Rq), Writes s rq (R.AXn_CMD 15) ∧ s.axPresent 15 = true ∧ s.axReady 15 = false) ∧
    (∃ (s : State) (rq : Rq), Writes s rq (R.AXn_CMD 15) ∧ s.axPresent 15 = true ∧ s.axReady 15 = true ∧ s.bit (F.AXn_STAT.EN_OUT 15) = false) ∧
    (∃ (s : State) (rq : Rq), Writes s rq (R.AXn_CMD 15) ∧ s.axPresent 15 = true ∧ s.axReady 15 = true ∧ s.bit (F.AXn_STAT.EN_OUT 15) = true ∧
      s.get (F.AXn_STAT.PSTATE 15) ≠ 8 ∧ (s.ax 15).v = 0 ∧ (s.ax 15).brake = 0) ∧
    (∃ (s : State) (rq : Rq), Writes s rq (R.AXn_CMD 15) ∧ s.axPresent 15 = true ∧ s.axReady 15 = true ∧ s.bit (F.AXn_STAT.EN_OUT 15) = true ∧
      s.get (F.AXn_STAT.PSTATE 15) ≠ 8 ∧ (s.ax 15).v ≠ 0 ∧ (s.ax 15).brake = 0) ∧
    (∃ (s : State) (rq : Rq), Writes s rq (R.AXn_CMD 15) ∧ s.axPresent 15 = true ∧ s.axReady 15 = true ∧ s.bit (F.AXn_STAT.LIMP 15) = true ∧
      s.bit (F.AXn_STAT.LIMN 15) = false ∧ (s.ax 15).limP = false) ∧
    (∃ (s : State) (rq : Rq), Writes s rq (R.AXn_CMD 15) ∧ s.axPresent 15 = true ∧ s.axReady 15 = true ∧ s.bit (F.AXn_STAT.LIMP 15) = true ∧
      s.bit (F.AXn_STAT.LIMN 15) = false ∧ (s.ax 15).limP = true) ∧
    (∃ (s : State) (rq : Rq), Writes s rq (R.AXn_CMD 15) ∧ s.axPresent 15 = true ∧ s.axReady 15 = true ∧ s.bit (F.AXn_STAT.LIMP 15) = false ∧
      s.bit (F.AXn_STAT.LIMN 15) = false ∧ s.get (F.AXn_HOME_CFG.HMODE 15) = 3) ∧
    (∃ (s : State) (rq : Rq), Writes s rq (R.AXn_CMD 15) ∧ s.axPresent 15 = true ∧ s.axReady 15 = true ∧ s.bit (F.AXn_STAT.LIMP 15) = false ∧
      s.bit (F.AXn_STAT.LIMN 15) = false ∧ s.get (F.AXn_HOME_CFG.HMODE 15) ≠ 3 ∧ s.bit (F.AXn_STAT.EN_OUT 15) = true) :=
  ⟨⟨run [], .cxA, writes_of (by decide +kernel), by decide +kernel⟩,
    ⟨axis [(F.AXn_STAT.EN_OUT 15, 0)], .cxA, writes_of (by decide +kernel), by decide +kernel⟩,
    ⟨axis [(F.AXn_STAT.PSTATE 15, 1)], .cxA, writes_of (by decide +kernel), by decide +kernel⟩,
    ⟨withAx (axis [(F.AXn_STAT.PSTATE 15, 2)]) 15 { ax0 with v := -7 }, .cxA, writes_of (by decide +kernel), by decide +kernel⟩,
    ⟨axis [(F.AXn_STAT.LIMP 15, 1)], .cxA, writes_of (by decide +kernel), by decide +kernel⟩,
    ⟨withAx (axis [(F.AXn_STAT.LIMP 15, 1)]) 15 { ax0 with limP := true }, .cxA, writes_of (by decide +kernel), by decide +kernel⟩,
    ⟨axis [(F.AXn_HOME_CFG.HMODE 15, 3)], .cxA, writes_of (by decide +kernel), by decide +kernel⟩,
    axis [(F.AXn_HOME_CFG.HMODE 15, 2)], .cxA, writes_of (by decide +kernel), by decide +kernel⟩

theorem witness_AxisCommandsActOnAConfiguredAxis_2 :
    (∃ (s : State) (rq : Rq), Writes s rq (R.AXn_TARGET 15) ∧ s.axPresent 15 = true ∧ s.get (F.AXn_CFG.TGT_SRC 15) ≠ 0) ∧
    (∃ (s : State) (rq : Rq), Writes s rq (R.AXn_TARGET 15) ∧ s.axPresent 15 = true ∧ s.get (F.AXn_CFG.TGT_SRC 15) = 0 ∧
      s.bit (F.AXn_STAT.EN_OUT 15) = false) ∧
    (∃ (s : State) (rq : Rq), Writes s rq (R.AXn_TARGET 15) ∧ s.axPresent 15 = true ∧ s.get (F.AXn_CFG.TGT_SRC 15) = 0 ∧
      s.bit (F.AXn_STAT.EN_OUT 15) = true ∧ s.get (F.AXn_STAT.PSTATE 15) = 8) ∧
    (∃ (s : State) (rq : Rq), Writes s rq (R.AXn_TARGET 15) ∧ s.axPresent 15 = true ∧ s.get (F.AXn_CFG.TGT_SRC 15) = 0 ∧
      s.bit (F.AXn_STAT.EN_OUT 15) = true ∧ s.get (F.AXn_STAT.PSTATE 15) ≠ 8) ∧
    (∃ (s : State) (rq : Rq) (v w x : Word), Writes s rq (R.AXn_VMAX 15 + 4 * 0) ∧ Writes s rq (R.AXn_VMAX 15 + 4 * 4) ∧ s.axPresent 15 = true ∧
      s.get (F.AXn_CFG.VMAX_SRC 15) = 0 ∧ limitOk (0 == 3) v = true ∧ s.rateOk 15 v = true ∧ limitOk (4 == 3) w = false ∧
      limitOk (0 == 3) x = true ∧ s.rateOk 15 x = false) :=
  ⟨⟨run [(F.AXn_CFG.TGT_SRC 15, 1)], .cxA, writes_of (by decide +kernel), by decide +kernel⟩,
    ⟨run [], .cxA, writes_of (by decide +kernel), by decide +kernel⟩,
    ⟨axis [(F.AXn_STAT.PSTATE 15, 8)], .cxA, writes_of (by decide +kernel), by decide +kernel⟩,
    ⟨axis [(F.AXn_STAT.PSTATE 15, 1)], .cxA, writes_of (by decide +kernel), by decide +kernel⟩,
    axis [(F.AXn_PULSE.STEP_W 15, 50)], .cxA, 0x49742400#32, 0#32, 0x49742410#32, writes_of (by decide +kernel), writes_of (by decide +kernel),
      by decide +kernel⟩

theorem witness_RemoteAxesTakeCommandsAndFollowTheirStation :
    (∃ (s : State) (rq : Rq), s.get (F.MPG_WIN_SEL.RA rq.num) = 255 ∧ Writes s rq (R.RA_TARGET 0) ∧ s.get (T.MPG_RA.TGT_SRC 255) = 0 ∧
      s.bit (T.MPG_RA.EN 255) = true ∧ Writes s rq (R.RA_CMD 0) ∧ s.bit F.MPG_STAT.RUN = true ∧ (s.ra 255).v = 0 ∧ (s.ra 255).brake = 0) ∧
    (∃ (s : State) (rq : Rq), Writes s rq (R.RA_CMD 0) ∧ s.bit (T.MPG_RA.EN 255) = true ∧ s.bit F.MPG_STAT.RUN = true ∧ (s.ra 255).v ≠ 0 ∧
      (s.ra 255).brake = 0) ∧
    (∃ (s : State) (rq : Rq), Writes s rq (R.RA_CMD 0) ∧ (s.bit (T.MPG_RA.EN 255) && s.bit F.MPG_STAT.RUN) = false) ∧
    (∃ s : State, s.bit F.MPG_STAT.RUN = true ∧ 255 ∈ s.raList ∧ s.stnUp (s.get (T.MPG_RA.STATION 255)) = false) ∧
    (∃ (s : State) (sl : Nat), s.bit F.MPG_STAT.RUN = true ∧ s.raList = [255] ∧ s.stnUp (s.get (T.MPG_RA.STATION 255)) = true ∧
      (s.ra 255).down = false ∧ (s.ra 255).fresh = false ∧ (s.ra 255).brake = 0 ∧ (s.ra 255).v = 0 ∧ (s.ra 255).acc = 0 ∧
      s.get (raStat F.AXn_STAT.PSTATE 255) = 1 ∧ (s.ra 255).pos = s.geti (F.RA_TARGET.TARGET 255) ∧
      s.slotFrom (s.get (T.MPG_RA.STATION 255)) ((s.elapse 0).now + 50000) = some sl ∧ sl < (s.elapse 0).now + 300000) ∧
    (∃ (s : State) (sl : Nat), s.slotFrom 9 ((s.elapse 0).now + 50000) = some sl ∧ (s.elapse 0).now + 300000 ≤ sl) ∧
    (∃ s : State, s.bit F.MPG_STAT.RUN = false) :=
  let ra (l : List (Fld × Nat)) (x : Ax) : State :=
    let s := run ([(F.MPG_WIN_SEL.RA 0, 255), (T.MPG_RA.EN 255, 1), (T.MPG_RA.STATION 255, 9)] ++ l)
    { s with mpg := { s.mpg with ras := [(255, x)] }, sio := { s.sio with stns := [(9, { stn0 with period := 1000, outPh := 299 })] } }
  ⟨⟨ra [] ax0, .cxA, by decide +kernel, writes_of (by decide +kernel), by decide +kernel, by decide +kernel, writes_of (by decide +kernel),
      by decide +kernel⟩,
    ⟨ra [] { ax0 with v := 1 }, .cxA, writes_of (by decide +kernel), by decide +kernel⟩,
    ⟨run [], .cxA, writes_of (by decide +kernel), by decide +kernel⟩, ⟨ra [] ax0, by decide +kernel⟩,
    ⟨ra [(F.SW_STAT.STATE 9, 3), (raStat F.AXn_STAT.PSTATE 255, 1)] ax0, 299000, by decide +kernel⟩,
    ⟨{ ra [] ax0 with sio := { State.reset.sio with stns := [(9, { stn0 with period := 1000, outPh := 300 })] } }, 300000, by decide +kernel⟩,
    run [(F.MPG_STAT.RUN, 0)], by decide +kernel⟩

theorem witness_AxesMoveTowardTheirTargetsAndStopAtLimits_1 :
    (∃ s : State, s.bit F.MPG_STAT.RUN = true ∧ s.axPresent 15 = true ∧ s.bit (F.AXn_CFG.EN 15) = true ∧ s.bit (F.AXn_STAT.EN_OUT 15) = true ∧
      ([] : List (Nat × Bool × Bool × Bool)).lookup 15 = none ∧ s.get (F.AXn_STAT.PSTATE 15) = 1 ∧ (s.ax 15).v = 0 ∧ (s.ax 15).a = 0 ∧
      (s.ax 15).brake = 0 ∧ (s.ax 15).fresh = false ∧ (s.ax 15).acc = 0 ∧ s.geti (F.AXn_POS.POS 15) = s.geti (F.AXn_TARGET.TARGET 15)) ∧
    (∃ s : State, s.bit F.MPG_STAT.RUN = true ∧ s.axPresent 15 = true ∧ s.bit (F.AXn_CFG.EN 15) = true ∧ s.bit (F.AXn_STAT.EN_OUT 15) = true ∧
      s.get (F.AXn_STAT.PSTATE 15) = 1 ∧ (s.ax 15).v = 0 ∧ (s.ax 15).a = 0 ∧ (s.ax 15).brake = 0 ∧ (s.ax 15).fresh = true ∧
      (s.ax 15).want = -2147483648 ∧ s.bit (F.AXn_CFG.SOFT_EN 15) = false ∧ s.bit (F.AXn_STAT.LIMP 15) = false ∧
      s.bit (F.AXn_STAT.LIMN 15) = false ∧ 0 < (s.axCfg 15).vmax ∧ (s.ax 15).acc < 2 ^ 48) ∧
    (∃ s : State, s.bit F.MPG_STAT.RUN = false) :=
  ⟨⟨axis [(F.AXn_STAT.PSTATE 15, 1)], by decide +kernel⟩,
    ⟨withAx (axis [(F.AXn_STAT.PSTATE 15, 1), (F.AXn_VMAX.VALUE 15, 0x49742400)]) 15 { ax0 with fresh := true, want := -2147483648, acc := 2 ^ 48 - 1 },
      by decide +kernel⟩,
    run [(F.MPG_STAT.RUN, 0)], by decide +kernel⟩

theorem witness_AxesMoveTowardTheirTargetsAndStopAtLimits_2 :
    (∃ s : State, s.bit (F.AXn_LIM_CFG.LIMP_EN 15) = true ∧ s.bit (F.AXn_LIM_CFG.LIMN_EN 15) = true ∧ s.get (F.AXn_STAT.PSTATE 15) ≠ 8 ∧
      s.get (F.AXn_STAT.PSTATE 15) ≠ 0 ∧ s.bit (F.AXn_LIM_CFG.LIM_MODE 15) = false) ∧
    (∃ s : State, s.bit (F.AXn_LIM_CFG.LIMP_EN 15) = true ∧ s.get (F.AXn_STAT.PSTATE 15) ≠ 8 ∧ s.get (F.AXn_STAT.PSTATE 15) ≠ 0 ∧
      s.bit (F.AXn_LIM_CFG.LIM_MODE 15) = true ∧ (s.ax 15).v ≠ 0 ∧ (s.ax 15).brake = 0) ∧
    (∃ s : State, s.bit (F.AXn_LIM_CFG.LIMP_EN 15) = false ∧ s.bit (F.AXn_LIM_CFG.LIMN_EN 15) = false) ∧
    (∀ p, (p = 1 ∨ p = 2 ∨ p = 3) → ∃ s : State, s.get (F.AXn_HOME_CFG.HMODE 15) = 0 ∧ s.get (F.AXn_STAT.PSTATE 15) = 8 ∧ (s.ax 15).brake ≠ 9 ∧
      s.get (F.AXn_STAT.HPH 15) = p) ∧
    (∃ s : State, s.get (F.AXn_HOME_CFG.HMODE 15) = 0 ∧ s.get (F.AXn_STAT.PSTATE 15) ≠ 8) := by
  refine ⟨⟨axis [(F.AXn_LIM_CFG.LIMP_EN 15, 1), (F.AXn_LIM_CFG.LIMN_EN 15, 1), (F.AXn_STAT.PSTATE 15, 2)], by decide +kernel⟩,
    ⟨withAx (axis [(F.AXn_LIM_CFG.LIMP_EN 15, 1), (F.AXn_LIM_CFG.LIM_MODE 15, 1), (F.AXn_STAT.PSTATE 15, 2)]) 15 { ax0 with v := 1 }, by decide +kernel⟩,
    ⟨axis [], by decide +kernel⟩, fun p hp => ⟨axis [(F.AXn_STAT.PSTATE 15, 8), (F.AXn_STAT.HPH 15, p)], ?_⟩, axis [], by decide +kernel⟩
  rcases hp with rfl | rfl | rfl <;> decide +kernel

def sol0 : DopSol := ⟨true, false, false, 0, 0, [], [], []⟩

theorem witness_TheNetworkSolverFollowsItsSchedule :
    (∃ s : State, s.bit F.NSV_STAT.RUN = true ∧ s.bit F.NSV_STAT.SHED = false ∧ s.domOn 13 = false ∧ s.bit (domFailFld 13) = false ∧
      s.pwr.waking = none ∧ s.pwr.queue = [] ∧ s.pwr.gap = false ∧ s.pwr.phase = 3 ∧ s.bit F.PWR_STAT.PFW = false) ∧
    (∃ s : State, s.bit F.NSV_STAT.RUN = true ∧ s.bit F.NSV_STAT.SHED = true) ∧
    (∃ s : State, s.bit F.NSV_STAT.RUN = true ∧ s.bit F.NSV_STAT.SHED = false ∧ s.domOn 13 = true ∧ s.bit F.NSV_STAT.SOLVING = false ∧
      s.nsv.clrBad = true) ∧
    (∃ (s : State) (l0 : NsvLayer), s.bit F.NSV_STAT.SOLVING = true ∧ s.nsv.cur ≤ 1 ∧ s.layerActive 0 = true ∧ s.nsv.granted.contains 0 = true ∧
      l0.conv = true ∧ l0.iters ≤ s.get F.NSV_ITER.MAX_IT) ∧
    (∃ s : State, s.nsv.ready = true) ∧ (∃ s : State, s.nsv.ready = false) ∧
    (∃ s : State, s.bit F.NSV_STAT.IMG = true ∧ s.bit F.NSV_STAT.STALE = false ∧
      5 * s.get F.NSV_PERIOD.PERIOD * 250000 < (s.elapse 1250001).clock.up - s.nsv.snapUp ∧
      (s.elapse 1250000).clock.up - s.nsv.snapUp ≤ 5 * s.get F.NSV_PERIOD.PERIOD * 250000) ∧
    (∃ (s : State) (rq : Rq), Writes s rq R.NSV_CTRL) :=
  ⟨⟨run [(F.PWR_DOM_STAT.ON, 0xDFFF)], by decide +kernel⟩, ⟨run [(F.NSV_STAT.SHED, 1)], by decide +kernel⟩,
    ⟨{ run [] with nsv := { nsv0 with clrBad := true } }, by decide +kernel⟩,
    ⟨{ run [(F.NSV_STAT.SOLVING, 1), (⟨tabKey 8 0x80000, 0, 2⟩, 1), (F.NSV_ITER.MAX_IT, 4)] with nsv := { nsv0 with cur := 1, granted := [0] } },
      ⟨true, 4, [], [], []⟩, by decide +kernel⟩,
    ⟨{ run [] with nsv := { nsv0 with ready := true } }, rfl⟩, ⟨run [], by decide +kernel⟩,
    ⟨run [(F.NSV_STAT.IMG, 1), (F.NSV_PERIOD.PERIOD, 1)], by decide +kernel⟩, run [], .cxA, writes_of (by decide +kernel)⟩

theorem witness_TheDispatchOptimiserRunsItsSolves :
    (∃ s : State, s.bit F.DOP_STAT.RUN = true ∧ s.bit F.DOP_STAT.SHED = false ∧ s.bit F.DOP_CTRL.HOLD = false ∧ s.domOn 14 = false ∧
      s.bit (domFailFld 14) = false ∧ s.domPresent 14 = true ∧ s.pwr.waking = none ∧ s.pwr.queue = [] ∧ s.pwr.gap = false ∧ s.pwr.phase = 3 ∧
      s.bit F.PWR_STAT.PFW = false) ∧
    (∃ s : State, s.bit F.DOP_STAT.RUN = true ∧ s.bit F.DOP_CTRL.HOLD = true) ∧
    (∃ s : State, s.bit F.DOP_STAT.RUN = true ∧ s.bit F.DOP_CTRL.HOLD = false ∧ s.bit F.DOP_STAT.SOLVING = false ∧ s.bit F.DOP_STAT.SHED = true) ∧
    (∃ s : State, s.bit F.DOP_STAT.RUN = true ∧ s.bit F.DOP_CTRL.HOLD = false ∧ s.bit F.DOP_STAT.SOLVING = false ∧ s.bit F.DOP_STAT.SHED = false ∧
      s.domOn 14 = true) ∧
    (∃ s : State, s.bit F.DOP_STAT.SOLVING = true ∧ s.get F.DOP_STAT.PHASE = 2 ∧ s.coupledNbs ≠ []) ∧
    (∃ (s : State) (r : DopSol), s.bit F.DOP_STAT.SOLVING = true ∧ s.get F.DOP_STAT.PHASE = 2 ∧ s.coupledNbs = [] ∧ r.conv = true) ∧
    (∃ (s : State) (r : DopSol), s.bit F.DOP_STAT.SOLVING = true ∧ s.get F.DOP_STAT.PHASE = 4 ∧ r.conv = false ∧ r.infeas = false ∧ r.acc = false) :=
  ⟨⟨run [(F.PWR_DOM_STAT.ON, 0xBFFF)], by decide +kernel⟩, ⟨run [(F.DOP_CTRL.HOLD, 1)], by decide +kernel⟩,
    ⟨run [(F.DOP_STAT.SHED, 1)], by decide +kernel⟩, ⟨run [], by decide +kernel⟩,
    ⟨run [(F.DOP_STAT.SOLVING, 1), (F.DOP_STAT.PHASE, 2), (T.DOP_NB.EN 15, 1), (F.NB_STAT.STATE 15, 1)], by decide +kernel⟩,
    ⟨run [(F.DOP_STAT.SOLVING, 1), (F.DOP_STAT.PHASE, 2)], sol0, by decide +kernel⟩,
    run [(F.DOP_STAT.SOLVING, 1), (F.DOP_STAT.PHASE, 4)], { sol0 with conv := false }, by decide +kernel⟩

theorem witness_CouplingRoundsForecastsAndFollowedPlans_1 :
    (∃ s : State, s.bit F.DOP_STAT.SOLVING = true ∧ s.get F.DOP_STAT.PHASE = 3 ∧ s.dop.sent = false ∧
      ∃ j ∈ s.coupledNbs, ((s.dnb j).ofRound s.dop.round false (s.get (T.DOP_NB.NV j))).length ≠ s.get (T.DOP_NB.NV j)) ∧
    (∃ s : State, s.bit F.DOP_STAT.SOLVING = true ∧ s.get F.DOP_STAT.PHASE = 3 ∧ s.dop.sent = true) ∧
    (∃ (s : State) (src : Nat), s.bit F.DOP_STAT.RUN = true ∧ ∀ j ∈ s.dopNbs, s.get (T.DOP_NB.NODE j) ≠ src) ∧
    (∃ (s : State) (src j : Nat) (fr : CouplingFragment), s.bit F.DOP_STAT.RUN = true ∧
      s.dopNbs.find? (fun j => s.get (T.DOP_NB.NODE j) == src) = some j ∧ fr.itie = s.get (T.DOP_NB.ITIE_ID j) ∧ fr.nv = s.get (T.DOP_NB.NV j) ∧
      fr.n = s.dopN ∧ fr.stepMin = s.get F.DOP_STEP.STEP_MIN ∧ fr.rho = s.getw (T.DOP_NB.RHO j) ∧ s.bit F.DOP_STAT.SOLVING = true ∧
      s.dop.isLocal = false ∧ fr.epoch = s.dop.s % 2 ^ 32 ∧ s.get (F.NB_STAT.STATE j) = 1 ∧ (s.dnb j).ended = false ∧ s.dop.sent = false ∧
      s.dop.round ≤ fr.iter ∧ fr.done = false ∧ (∀ f ∈ (s.dnb j).frags, ¬ (f.iter = fr.iter ∧ f.k = fr.k ∧ f.price = fr.price))) ∧
    (∃ (s : State) (rq : Rq), s.dopPresent = true ∧ Writes s rq R.DOP_CTRL ∧ (2#32).getLsbD 0 = false ∧ Writes s rq R.DOP_FC_DATA ∧
      s.bit F.DOP_CTRL.FC_COMMIT = false) ∧
    (∃ (s : State) (rq : Rq), s.dopPresent = true ∧ Writes s rq R.DOP_FC_DATA ∧ s.bit F.DOP_CTRL.FC_COMMIT = true ∧
      canon resetWord s.words = true) :=
  let nb (l : List (Fld × Nat)) : State := run ([(F.DOP_STAT.SOLVING, 1), (F.DOP_STAT.PHASE, 3), (T.DOP_NB.EN 15, 1), (T.DOP_NB.NODE 15, 4094),
    (T.DOP_NB.NV 15, 1), (F.NB_STAT.STATE 15, 1)] ++ l)
  let fr (s : State) : CouplingFragment := { cf0 with
    itie := s.get (T.DOP_NB.ITIE_ID 15), nv := 1, n := s.dopN, stepMin := s.get F.DOP_STEP.STEP_MIN, rho := s.getw (T.DOP_NB.RHO 15),
    values := List.replicate s.dopN 0 }
  ⟨⟨nb [], by decide +kernel⟩, ⟨{ nb [] with dop := { State.reset.dop with sent := true } }, by decide +kernel⟩, ⟨nb [], 4095, by decide +kernel⟩,
    ⟨nb [], 4094, 15, fr (nb []), by decide +kernel⟩,
    ⟨run [], .cxA, by decide +kernel, writes_of (by decide +kernel), by decide, writes_of (by decide +kernel), by decide +kernel⟩,
    run [(F.DOP_CTRL.FC_COMMIT, 1)], .cxA, by decide +kernel, writes_of (by decide +kernel), by decide +kernel, by decide +kernel⟩

theorem witness_CouplingRoundsForecastsAndFollowedPlans_2 :
    (∃ (s : State) (src : Nat), s.get F.TRJ_CFG.SRC = 2 ∧ s.bit F.TRJ_STAT.RUN = true ∧ src ≠ s.get F.TRJ_CFG.LEADER) ∧
    (∃ (s : State) (src : Nat) (fr : TrajFragment), s.get F.TRJ_CFG.SRC = 2 ∧ s.bit F.TRJ_STAT.RUN = true ∧ src = s.get F.TRJ_CFG.LEADER ∧
      s.trj.rx = none ∧ s.bit F.TRJ_STAT.PLAN = false ∧ 2 ≤ fr.n ∧ fr.n ≤ 192 ∧ 1 ≤ fr.stepMin ∧ fr.stepMin ≤ 60 ∧ 1 < fr.cnt) ∧
    (∃ (s : State) (src : Nat) (fr : TrajFragment), s.get F.TRJ_CFG.SRC = 2 ∧ s.bit F.TRJ_STAT.RUN = true ∧ src = s.get F.TRJ_CFG.LEADER ∧
      s.trj.rx = none ∧ s.bit F.TRJ_STAT.PLAN = true ∧ s.trj.lastPlan < fr.plan ∧ 2 ≤ fr.n ∧ fr.n ≤ 192 ∧ 1 ≤ fr.stepMin ∧ fr.stepMin ≤ 60 ∧
      fr.cnt = 1) ∧
    (∃ (s : State) (x : TrjPlan × Nat), s.trj.rx = some x) :=
  let fol (l : List (Fld × Nat)) : State := run ([(F.TRJ_CFG.SRC, 2), (F.TRJ_CFG.LEADER, 9)] ++ l)
  ⟨⟨fol [], 8, by decide +kernel⟩,
    ⟨fol [], 9, { tf0 with n := 192, stepMin := 60, cnt := 2, values := List.replicate 192 0 }, by decide +kernel⟩,
    ⟨fol [(F.TRJ_STAT.PLAN, 1)], 9, { tf0 with plan := 1, n := 2, stepMin := 1, cnt := 1, values := [0, 0] }, by decide +kernel⟩,
    { fol [] with trj := { State.reset.trj with rx := some (⟨1, 0, 0, 1, 2, []⟩, 2) } }, _, rfl⟩

/-- Switch outputs 0 (primary) and 1 (alternate), in the state st of the machine with the sources' states a and b. -/
def csb (st a b : Nat) (l : List (Fld × Nat)) (f : CsbSt → CsbSt) : State :=
  let s := run ([(F.CSB_FOn_CFG.ROLE 0, 1), (F.CSB_FOn_CFG.ROLE 1, 2), (F.CSB_STAT.STATE, st), (F.CSB_STAT.SRC0, a), (F.CSB_STAT.SRC1, b)] ++ l)
  { s with csb := f s.csb }
/-- The premises of every clause of the transfer machine's statement. -/
def csbBase (s : State) : Bool :=
  !s.saf.wdDeferred && s.foRole 1 == some 0 && s.foRole 2 == some 1 && !s.bit (F.CSB_FOn_CFG.FB_EN 0)

theorem witness_TheTransferMachineTakesTableRows_1 :
    (∃ s : State, csbBase s = true ∧ s.get F.CSB_STAT.STATE = 1 ∧ s.get F.CSB_STAT.SRC0 = 2 ∧ s.get F.CSB_STAT.SRC1 = 2) ∧
    (∃ s : State, csbBase s = true ∧ s.get F.CSB_STAT.STATE = 3 ∧ s.get F.CSB_STAT.SRC0 = 2 ∧ s.mayClose false = true) ∧
    (∃ s : State, csbBase s = true ∧ s.bit F.CSB_STAT.ROMDET = true ∧ s.bit F.CSB_CFG.ALT_MODE = true ∧ s.islPresent 0 = true ∧
      s.csbHas 0 = true ∧ s.get F.CSB_STAT.SRC0 = 3 ∧ s.get F.CSB_STAT.STATE = 1 ∧ s.csbW 0 ≤ (s.csbSrc 0).hist.length ∧
      (meanSquares true (s.winSums 0 7 (s.csbW 0)) (s.csbW 0)).any (msBelow (s.get (F.ISLn_CFG.VNOM 0)) 500) = true) ∧
    (∃ s : State, csbBase s = true ∧ s.bit F.CSB_STAT.ROMDET = false) ∧
    (∃ s : State, csbBase s = true ∧ s.get F.CSB_STAT.STATE = 4 ∧ s.get F.CSB_STAT.SRC1 = 3 ∧ s.bit F.CSB_STAT.ROMDET = true ∧
      s.bit F.CSB_CFG.ALT_MODE = false ∧ s.csb.recalling = [] ∧ s.bit (F.CSB_FOn_CFG.FB_EN 1) = true ∧ s.get (F.CSB_FOn_CFG.FB_IDX 1) = 7 ∧
      (false == s.bit (F.CSB_FOn_CFG.FB_POL 1)) = s.foCmd 1) ∧
    (∃ s : State, csbBase s = true ∧ s.get F.CSB_STAT.STATE = 9 ∧ s.get F.CSB_STAT.SRC0 = 3) :=
  ⟨⟨csb 1 2 2 [] id, by decide +kernel⟩, ⟨csb 3 2 1 [] (fun c => { c with brk2 := true, dead2 := true }), by decide +kernel⟩,
    ⟨csb 1 3 1 [(F.CSB_STAT.ROMDET, 1), (F.CSB_CFG.ALT_MODE, 1), (F.CSB_CFG.PH0, 7), (F.ISLn_CFG.VNOM 0, 2300)]
      (fun c => { c with src0 := { csbSrc0 with hist := List.replicate 320 (0, 0, 0) } }), by decide +kernel⟩,
    ⟨csb 1 3 1 [] id, by decide +kernel⟩,
    ⟨csb 4 1 3 [(F.CSB_STAT.ROMDET, 1), (F.CSB_FOn_CFG.FB_EN 1, 1), (F.CSB_FOn_CFG.FB_IDX 1, 7), (F.CSB_FOn_CFG.FB_POL 1, 1)] id, by decide +kernel⟩,
    csb 9 3 1 [] id, by decide +kernel⟩

theorem witness_TheTransferMachineTakesTableRows_2 :
    (∃ s : State, csbBase s = true ∧ s.bit (F.CSB_FOn_CFG.FB_EN 1) = false ∧ s.get F.CSB_STAT.STATE = 2 ∧ s.get F.CSB_STAT.SRC1 = 3 ∧
      s.csb.brk1 = true ∧ s.foCmd 0 = false ∧ s.foCmd 1 = false) ∧
    (∃ (s : State) (rq : Rq), csbBase s = true ∧ s.bit (F.CSB_FOn_CFG.FB_EN 1) = false ∧ s.get F.CSB_STAT.STATE = 5 ∧ s.get F.CSB_STAT.SRC0 = 3 ∧
      s.get F.CSB_STAT.SRC1 ≠ 1 ∧ s.bit F.CSB_STAT.ROMDET = false ∧ s.bit F.CSB_CFG.SYNC_EN = false ∧ s.bit F.CSB_CTRL.RET_INH = false ∧
      Writes s rq R.CSB_CMD) ∧
    (∃ s : State, csbBase s = true ∧ s.bit (F.CSB_FOn_CFG.FB_EN 1) = false ∧ s.get F.CSB_STAT.STATE = 5 ∧ s.get F.CSB_STAT.SRC0 = 3 ∧
      s.get F.CSB_STAT.SRC1 ≠ 1 ∧ s.bit F.CSB_STAT.ROMDET = false ∧ s.bit F.CSB_CFG.SYNC_EN = true ∧ s.bit F.CSB_CTRL.RET_INH = false) ∧
    (∀ o, o = false ∨ o = true → ∃ s : State, csbBase s = true ∧ s.bit (F.CSB_FOn_CFG.FB_EN 1) = false ∧ s.get F.CSB_STAT.STATE = 6 ∧
      s.get F.CSB_STAT.SRC0 = 3 ∧ s.get F.CSB_STAT.SRC1 ≠ 1 ∧ s.csb.syncRun < 2 ∧ s.csb.returnCmd = false ∧ s.bit F.CSB_CFG.RET_OPEN = o) ∧
    (∃ s : State, csbBase s = true ∧ s.get F.CSB_STAT.SRC0 ≠ 3) := by
  refine ⟨⟨csb 2 1 3 [(F.CSB_FO_STAT.CMD, 0)] (fun c => { c with brk1 := true }), by decide +kernel⟩,
    ⟨csb 5 3 3 [] id, .cxA, by decide +kernel, by decide +kernel, by decide +kernel, by decide +kernel, by decide +kernel, by decide +kernel,
      by decide +kernel, by decide +kernel, writes_of (by decide +kernel)⟩,
    ⟨csb 5 3 3 [(F.CSB_CFG.SYNC_EN, 1)] id, by decide +kernel⟩,
    fun o ho => ⟨csb 6 3 3 [(F.CSB_CFG.RET_OPEN, o.toNat)] (fun c => { c with syncRun := 1 }), ?_⟩, csb 1 2 3 [] id, by decide +kernel⟩
  rcases ho with rfl | rfl <;> decide +kernel

theorem witness_TheTransferMachineTakesTableRows_3 :
    (∃ s : State, csbBase s = true ∧ s.awaits true = true ∧ s.swConfirmed true = false) ∧
    (∃ s : State, csbBase s = true ∧ s.awaits false = false) ∧
    (∃ s : State, csbBase s = true ∧ s.get F.CSB_STAT.STATE = 8 ∧ s.csb.after7 = true ∧ s.swConfirmed true = false) ∧
    (∃ (s : State) (rq : Rq), csbBase s = true ∧ Writes s rq R.CSB_CMD ∧ s.get F.CSB_STAT.STATE ≠ 5 ∧ s.get F.CSB_STAT.STATE ≠ 10 ∧
      s.get F.CSB_FO_STAT.FLT = 0) ∧
    (∃ (s : State) (rq : Rq), csbBase s = true ∧ Writes s rq R.CSB_CMD ∧ s.get F.CSB_STAT.STATE = 10 ∧ s.swConfirmed false = true ∧
      s.swConfirmed true = true ∧ s.swCmd false = true ∧ s.swCmd true = false ∧ s.get F.CSB_STAT.SRC0 ≠ 1) ∧
    (∃ (s : State) (rq : Rq), csbBase s = true ∧ Writes s rq R.CSB_CMD ∧ s.get F.CSB_STAT.STATE ≠ 10 ∧ s.get F.CSB_FO_STAT.FLT ≠ 0 ∧
      s.csb.mismatch = [] ∧ ∀ k, k < 8 → s.fbWrong k = false) :=
  ⟨⟨csb 4 1 3 [] (fun c => { c with brk2 := false }), by decide +kernel⟩, ⟨csb 1 3 3 [] id, by decide +kernel⟩,
    ⟨csb 8 3 3 [] (fun c => { c with brk2 := false, after7 := true }), by decide +kernel⟩,
    ⟨csb 1 3 3 [] id, .cxA, by decide +kernel, writes_of (by decide +kernel), by decide +kernel⟩,
    ⟨csb 10 3 3 [(F.CSB_FO_STAT.CMD, 1)] (fun c => { c with brk1 := true, brk2 := true }), .cxA, by decide +kernel, writes_of (by decide +kernel),
      by decide +kernel⟩,
    csb 1 3 3 [(F.CSB_FO_STAT.FLT, 128)] id, .cxA, by decide +kernel, writes_of (by decide +kernel), by decide +kernel⟩

theorem witness_LoadGroupsAndFastOutputsAreSupervised_1 :
    (∃ (s : State) (rq : Rq), Writes s rq R.CSB_CMD ∧ s.groups.contains 63 = true ∧ s.get (T.CSB_GRP.CLASS 63) = 3 ∧ s.bit F.CSB_STAT.RUN = true) ∧
    (∃ (s : State) (rq : Rq), Writes s rq R.CSB_CMD ∧ s.groups.contains 63 = false ∧ s.csb.held.contains 63 = false) ∧
    (∃ (s : State) (rq : Rq), Writes s rq R.CSB_CMD ∧ s.csb.held.contains 63 = true ∧ s.get F.CSB_STAT.STATE = 1 ∧
      s.bit F.CSB_STAT.RESTORING = false) ∧
    (∃ (s : State) (rq : Rq), Writes s rq R.CSB_CMD ∧ s.csb.held.contains 63 = true ∧ s.get F.CSB_STAT.STATE ≠ 1) ∧
    (∃ s : State, s.csb.recalling.contains 63 = true) ∧ (∃ s : State, s.csb.recalling.contains 63 = false) ∧
    (∃ s : State, s.csb.waiting = [63]) :=
  ⟨⟨csb 1 3 3 [(T.CSB_GRP.EN 63, 1), (T.CSB_GRP.CLASS 63, 3)] id, .cxA, writes_of (by decide +kernel), by decide +kernel⟩,
    ⟨csb 1 3 3 [] id, .cxA, writes_of (by decide +kernel), by decide +kernel⟩,
    ⟨csb 1 3 3 [] (fun c => { c with held := [63] }), .cxA, writes_of (by decide +kernel), by decide +kernel⟩,
    ⟨csb 5 3 3 [] (fun c => { c with held := [63] }), .cxA, writes_of (by decide +kernel), by decide +kernel⟩,
    ⟨csb 1 3 3 [] (fun c => { c with recalling := [63] }), by decide +kernel⟩, ⟨csb 1 3 3 [] id, by decide +kernel⟩,
    csb 1 3 3 [] (fun c => { c with waiting := [63] }), rfl⟩

theorem witness_LoadGroupsAndFastOutputsAreSupervised_2 :
    (∃ (s : State) (sensed : Nat), ∀ k, k < 16 → s.csb.test.contains (k / 2, k % 2) = false →
      (sensed / 2 ^ k % 2 == 1) = s.foChannel (k / 2) (k % 2)) ∧
    (∃ (s : State) (sensed : Nat), s.csb.mismatch.contains 15 = true ∧ s.csb.test.contains (15 / 2, 15 % 2) = false ∧
      (sensed / 2 ^ 15 % 2 == 1) ≠ s.foChannel (15 / 2) (15 % 2)) ∧
    (∃ s : State, s.get (F.CSB_FOn_CFG.ROLE 7) ≠ 0 ∧ (∀ x ∈ s.csb.test, x.1 ≠ 7) ∧ s.bit (F.CSB_FOn_CFG.TST_DIS 7) = false) ∧
    (∃ s : State, s.get (F.CSB_FOn_CFG.ROLE 7) ≠ 0 ∧ (∀ x ∈ s.csb.test, x.1 ≠ 7) ∧ s.bit (F.CSB_FOn_CFG.TST_DIS 7) = true) ∧
    (∃ s : State, (7, 1) ∈ s.csb.test) ∧ (∃ s : State, s.fbWrong 7 = true) ∧ (∃ s : State, s.fbWrong 7 = false) :=
  ⟨⟨csb 1 3 3 [(F.CSB_FO_STAT.CMD, 1)] (fun c => { c with chanOn := true }), 3, by decide +kernel⟩,
    ⟨csb 1 3 3 [] (fun c => { c with mismatch := [15] }), 32768, by decide +kernel⟩,
    ⟨csb 1 3 3 [(F.CSB_FOn_CFG.ROLE 7, 4)] id, by decide +kernel⟩,
    ⟨csb 1 3 3 [(F.CSB_FOn_CFG.ROLE 7, 4), (F.CSB_FOn_CFG.TST_DIS 7, 1)] id, by decide +kernel⟩,
    ⟨csb 1 3 3 [] (fun c => { c with test := [(7, 1)] }), by decide +kernel⟩,
    ⟨csb 1 3 3 [(F.CSB_FOn_CFG.FB_EN 7, 1)] id, by decide +kernel⟩, csb 1 3 3 [] id, by decide +kernel⟩

/-- Fabric port 3 in a state of Table 12.1, with what it holds. -/
def fabAt (st : Nat) (l : List (Fld × Nat)) (x : FabPort) (f : FabSt → FabSt) : State :=
  let s := run ([(F.PORTn_STAT.STATE 3, st), (F.PORTn_CFG.EN 3, 1), (F.FAB_STAT.SVC, 1)] ++ l)
  { s with fab := f { s.fab with khb := true, ports := [(3, x)] } }
def fpUp : FabPort := { fabPort0 with link := true, key := true }
/-- A good frame on port 3. -/
def rx3 : FabRx := { rx0 with port := 3, ours := true, version := 1, lenOk := true, rsvOk := true, tagOk := true, runs := true }
def frame (kind : Nat) (payload : List Byte) : FabFrame := { frm0 with kind := kind, src := 7, dst := 5, svc := 16, lctr := 1, payload := payload }

theorem fab_ok {s : State} {rx : FabRx} {f : FabFrame} (h : rx.port < 4 ∧ s.fpState rx.port = 3 ∧ rx.ours = true ∧ fabMalformed rx f = false ∧
    (s.fp rx.port).key = true ∧ rx.tagOk = true ∧ (s.fp rx.port).rx < f.lctr) : FabOk s rx f :=
  ⟨h.1, h.2.1, h.2.2.1, h.2.2.2.1, h.2.2.2.2.1, h.2.2.2.2.2.1, h.2.2.2.2.2.2⟩
theorem hatband_ok {s : State} {rx : FabRx} {f : FabFrame} (h : rx.port < 4 ∧ f.kind = 0 ∧ 2 ≤ s.fpState rx.port ∧ rx.ours = true ∧
    fabMalformed rx f = false ∧ s.fab.khb = true ∧ rx.tagOk = true ∧ (s.fp rx.port).hbRx < f.lctr) : HatbandOk s rx f :=
  ⟨h.1, h.2.1, h.2.2.1, h.2.2.2.1, h.2.2.2.2.1, h.2.2.2.2.2.1, h.2.2.2.2.2.2.1, h.2.2.2.2.2.2.2⟩

theorem witness_PortsAdoptMissAndLoseNeighbours_1 :
    (∃ s : State, s.fpState 3 = 3 ∧ (s.fp 3).heard = true) ∧
    (∃ s : State, s.fpState 3 = 3 ∧ (s.fp 3).heard = false ∧ s.get (F.PORTn_STAT.MISS 3) < 2) ∧
    (∃ s : State, s.fpState 3 ≠ 3 ∧ s.fpState 3 ≠ 2 ∧ s.fpState 3 ≠ 4 ∧ s.fpState 3 ≠ 1) ∧
    (∃ s : State, s.fpState 3 = 3 ∧ 2 ≤ s.get (F.PORTn_STAT.MISS 3) ∧ (s.fp 3).heard = false ∧ s.portPresent 3 = true ∧
      s.bit (F.PORTn_CFG.EN 3) = true ∧ s.fab.khb = true ∧ (s.fp 3).link = true) ∧
    (∃ s : State, s.fpState 3 = 4 ∧ s.portPresent 3 = true ∧ s.bit (F.PORTn_CFG.EN 3) = true ∧ s.fab.khb = true) ∧
    (∃ s : State, s.fpState 3 = 1 ∧ s.portPresent 3 = true ∧ s.bit (F.PORTn_CFG.EN 3) = true ∧ s.fab.khb = true) :=
  ⟨⟨fabAt 3 [] { fpUp with heard := true } id, by decide +kernel⟩, ⟨fabAt 3 [(F.PORTn_STAT.MISS 3, 1)] fpUp id, by decide +kernel⟩,
    ⟨fabAt 5 [] fpUp id, by decide +kernel⟩, ⟨fabAt 3 [(F.PORTn_STAT.MISS 3, 2)] fpUp id, by decide +kernel⟩,
    ⟨fabAt 4 [] fpUp id, by decide +kernel⟩, fabAt 1 [] fpUp id, by decide +kernel⟩

theorem witness_PortsAdoptMissAndLoseNeighbours_2 :
    (∃ (s : State) (rx : FabRx) (f : FabFrame), HatbandOk s rx f ∧ rx.port = 3 ∧ leNat ((f.payload.drop 8).take 4) ≠ s.get F.FAB_ID.ID) ∧
    (∃ (s : State) (rx : FabRx) (f : FabFrame), HatbandOk s rx f ∧ rx.port = 3 ∧ leNat ((f.payload.drop 8).take 4) = s.get F.FAB_ID.ID ∧
      s.fpState 3 = 3 ∧ (s.fp 3).nb = some (leNat ((f.payload.drop 0).take 8), leNat ((f.payload.drop 16).take 16))) ∧
    (∃ (s : State) (rx : FabRx) (f : FabFrame) (id n : Nat), HatbandOk s rx f ∧ rx.port = 3 ∧
      leNat ((f.payload.drop 8).take 4) = s.get F.FAB_ID.ID ∧ s.fpState 3 = 2 ∧ s.fabKeyId = some id ∧ s.slotOf id = some n ∧
      s.get (F.KEY_SLOTn.USAGE n) = 2) ∧
    (∃ (s : State) (rx : FabRx), rx.port = 3 ∧ s.fpState 3 = 0) ∧ (∃ (s : State) (rx : FabRx), rx.port = 3 ∧ 2 ≤ s.fpState 3 ∧ rx.ours = false) ∧
    (∃ (s : State) (rx : FabRx) (f : FabFrame), rx.port = 3 ∧ 2 ≤ s.fpState 3 ∧ rx.ours = true ∧ fabMalformed rx f = true) ∧
    (∃ (s : State) (rx : FabRx) (f : FabFrame), rx.port = 3 ∧ 2 ≤ s.fpState 3 ∧ rx.ours = true ∧ fabMalformed rx f = false ∧ rx.tagOk = false ∧
      s.fpState 3 ≠ 3) ∧
    (∃ (s : State) (rx : FabRx) (f : FabFrame), rx.port = 3 ∧ FabOk s rx f ∧ f.kind = 6) :=
  let hb : FabFrame := frame 0 (List.replicate 44 0)
  ⟨⟨fabAt 2 [(F.FAB_ID.ID, 1)] fpUp id, rx3, hb, hatband_ok (by decide +kernel), by decide +kernel⟩,
    ⟨fabAt 3 [] { fpUp with nb := some (0, 0) } id, rx3, hb, hatband_ok (by decide +kernel), by decide +kernel⟩,
    ⟨fabAt 2 [(⟨tabKey 17 64, 0, 32⟩, 0x20009), (F.KEY_SLOTn.VALID 31, 1), (F.KEY_SLOTn.KEY_ID 31, 9), (F.KEY_SLOTn.USAGE 31, 2)] fpUp id,
      rx3, hb, 9, 31, hatband_ok (by decide +kernel), by decide +kernel⟩,
    ⟨fabAt 0 [] fabPort0 id, rx3, by decide +kernel⟩, ⟨fabAt 2 [] fpUp id, { rx3 with ours := false }, by decide +kernel⟩,
    ⟨fabAt 2 [] fpUp id, { rx3 with version := 2 }, hb, by decide +kernel⟩, ⟨fabAt 2 [] fpUp id, { rx3 with tagOk := false }, hb, by decide +kernel⟩,
    fabAt 3 [] fpUp id, rx3, frame 6 [], rfl, fab_ok (by decide +kernel), by decide⟩

theorem witness_LinkStateRoutesAndAddressesFollowTheRules_1 :
    (∃ (s : State) (rx : FabRx) (f : FabFrame), FabOk s rx f ∧ f.kind = 1 ∧ (lsaOf f.payload).1 ≠ s.devid ∧
      s.fab.lsdb.lookup (lsaOf f.payload).1 = some ⟨3, 0, [], 0⟩ ∧ 3 < (lsaOf f.payload).2.1) ∧
    (∃ (s : State) (rx : FabRx) (f : FabFrame), FabOk s rx f ∧ f.kind = 1 ∧
      s.fab.lsdb.lookup (lsaOf f.payload).1 = some ⟨4, 0, [], 0⟩ ∧ (lsaOf f.payload).2.1 ≤ 4) ∧
    (∃ s : State, s.fabAddr = 0) ∧
    (∃ s : State, s.fabAddr ≠ 0 ∧ s.bit F.FAB_STAT.RUN = true ∧ s.fab.lastLsa = none ∧ s.fab.lsaDue = true) ∧
    (∃ (s : State) (u : Nat), s.fabAddr ≠ 0 ∧ s.bit F.FAB_STAT.RUN = true ∧ s.fab.lastLsa = some u ∧ (s.elapse 4999999).clock.up - u < 5000000 ∧
      5000000 ≤ (s.elapse 5000000).clock.up - u ∧ s.fab.lsaDue = false) :=
  let f : FabFrame := frame 1 ([1, 0, 0, 0, 0, 0, 0, 0, 4, 0, 0, 0, 0, 0, 0])
  let known (n : Nat) : State := fabAt 3 [] fpUp (fun x => { x with lsdb := [(1, ⟨n, 0, [], 0⟩)] })
  let mine (g : FabSt → FabSt) : State := fabAt 3 [(F.FAB_ADDR.ADDR, 5)] fpUp g
  ⟨⟨known 3, rx3, f, fab_ok (by decide +kernel), by decide +kernel⟩, ⟨known 4, rx3, f, fab_ok (by decide +kernel), by decide +kernel⟩,
    ⟨known 4, by decide +kernel⟩, ⟨mine (fun x => { x with lsaDue := true }), by decide +kernel⟩,
    mine (fun x => { x with lastLsa := some 0 }), 0, by decide +kernel⟩

theorem witness_LinkStateRoutesAndAddressesFollowTheRules_2 :
    (∃ s : State, 1 ≠ s.devid ∧ s.fab.lsdb.any (fun e => e.1 == 1) = true ∧ s.get F.FAB_STAT.ADDR_STATE = 3 ∧
      ∀ e ∈ s.fab.lsdb, e.1 ≠ 1 → e.2.addr % 4096 ≠ s.get F.FAB_ADDR.CFG_ADDR) ∧
    (∃ s : State, 1 ≠ s.devid ∧ s.fab.lsdb.any (fun e => e.1 == 1) = true ∧ s.get F.FAB_STAT.ADDR_STATE ≠ 3) ∧
    (∃ s : State, s.fab.lsdb.any (fun e => e.1 == 1) = false) ∧
    (∃ (s : State) (a : Path), s.fabAddr ≠ 0 ∧ s.fab.changeUp = some 0 ∧ (shortest s.fabAddr (linkEdges s.fab.lsdb)).lookup 4094 = some a) ∧
    (∃ s : State, s.fabAddr = 0) ∧ (∃ s : State, s.get F.FAB_STAT.ADDR_STATE = 1) ∧ (∃ s : State, s.get F.FAB_STAT.ADDR_STATE ≠ 1) := by
  let db (l : List (Fld × Nat)) (d : List (Nat × LsaEntry)) : State := fabAt 3 l fpUp (fun x => { x with lsdb := d, changeUp := some 0 })
  have h : ((shortest 5 (linkEdges [(0, ⟨1, 5, [(4094, 3, 1)], 0⟩), (1, ⟨1, 4094, [(5, 0, 1)], 0⟩)])).lookup 4094).isSome = true := by decide +kernel
  obtain ⟨a, ha⟩ := Option.isSome_iff_exists.mp h
  refine ⟨⟨db [(F.FAB_STAT.ADDR_STATE, 3), (F.FAB_ADDR.CFG_ADDR, 5)] [(1, ⟨1, 5, [], 0⟩), (2, ⟨1, 6, [], 0⟩)], by decide +kernel⟩,
    ⟨db [(F.FAB_STAT.ADDR_STATE, 2)] [(1, ⟨1, 5, [], 0⟩)], by decide +kernel⟩, ⟨db [] [], by decide +kernel⟩,
    ⟨db [(F.FAB_ADDR.ADDR, 5)] [(0, ⟨1, 5, [(4094, 3, 1)], 0⟩), (1, ⟨1, 4094, [(5, 0, 1)], 0⟩)], a, by decide +kernel, rfl, ?_⟩,
    ⟨db [] [], by decide +kernel⟩, ⟨db [(F.FAB_STAT.ADDR_STATE, 1)] [], by decide +kernel⟩, db [(F.FAB_STAT.ADDR_STATE, 2)] [], by decide +kernel⟩
  have h5 : (db [(F.FAB_ADDR.ADDR, 5)] [(0, ⟨1, 5, [(4094, 3, 1)], 0⟩), (1, ⟨1, 4094, [(5, 0, 1)], 0⟩)]).fabAddr = 5 := by decide +kernel
  rw [h5]; exact ha

/-- Port 3 UP, the module's address 5 claimed, a route to 4094 by it. -/
def routed (l : List (Fld × Nat)) (x : FabPort) (g : FabSt → FabSt) : State :=
  fabAt 3 ([(F.FAB_ADDR.ADDR, 5), (F.FAB_STAT.ADDR_STATE, 2), (F.FAB_RT_ENTRY.VALID 4094, 1), (F.FAB_RT_ENTRY.PORT 4094, 3), (F.FAB_RES.RES7, 10)] ++ l) x g
def waitFor (kind left : Nat) : FabPend := ⟨{ frm0 with kind := kind, dst := 7, seq := 9 }, left⟩

theorem witness_MessagesAreDeliveredOnceAndAnswered_1 :
    (∃ (s : State) (q : Nat), s.fabLive = true ∧ s.routePort 4094 = some q ∧ (s.fp q).queues.length = 8 ∧
      (((s.fp q).queues.getD 5 []).map fabLen).sum + 66 + (List.replicate 1024 (0#8)).length ≤ queueCap 5) ∧
    (∃ s : State, s.fabLive = true ∧ s.routePort 4093 = none) ∧ (∃ s : State, s.fabLive = false) ∧
    (∃ (s : State) (x : FabPend), s.fab.pend.find? (fun x => x.frame.dst == 7 && x.frame.cls == 0 && x.frame.seq == 9) = some x ∧ x.left = 0) ∧
    (∃ (s : State) (x : FabPend), s.fab.pend.find? (fun x => x.frame.dst == 7 && x.frame.cls == 0 && x.frame.seq == 9) = some x ∧ 0 < x.left) :=
  ⟨⟨routed [] fpUp id, 3, by decide +kernel⟩, ⟨routed [] fpUp id, by decide +kernel⟩, ⟨fabAt 3 [] fpUp id, by decide +kernel⟩,
    ⟨routed [] fpUp (fun x => { x with pend := [waitFor 4 0] }), waitFor 4 0, by decide +kernel⟩,
    routed [] fpUp (fun x => { x with pend := [waitFor 4 1] }), waitFor 4 1, by decide +kernel⟩

theorem witness_MessagesAreDeliveredOnceAndAnswered_2 :
    (∀ k, k = 2 ∨ k = 4 → ∃ (s : State) (rx : FabRx) (f : FabFrame), FabOk s rx f ∧ f.dst = s.fabAddr ∧ f.dst ≠ 0xFFF ∧ s.fabLive = true ∧
      f.kind = k ∧ 16 ≤ f.svc ∧ rx.runs = true ∧ s.bit F.FAB_STAT.SVC = true ∧ (s.elapse 0).winLook f.src f.cls false f.seq = .fresh ∧
      rx.busy = false) ∧
    (∃ (s : State) (rx : FabRx) (f : FabFrame), FabOk s rx f ∧ f.dst = s.fabAddr ∧ f.dst ≠ 0xFFF ∧ s.fabLive = true ∧ f.kind = 4 ∧ 16 ≤ f.svc ∧
      rx.runs = true ∧ s.bit F.FAB_STAT.SVC = true ∧ (s.elapse 0).winLook f.src f.cls false f.seq = .dup) ∧
    (∃ (s : State) (rx : FabRx) (f : FabFrame), FabOk s rx f ∧ f.dst = s.fabAddr ∧ f.dst ≠ 0xFFF ∧ s.fabLive = true ∧ f.kind = 2 ∧ 16 ≤ f.svc ∧
      rx.runs = true ∧ s.bit F.FAB_STAT.SVC = true ∧ (s.elapse 0).winLook f.src f.cls false f.seq = .full) ∧
    (∀ k, k = 3 ∨ k = 5 → ∃ (s : State) (rx : FabRx) (f : FabFrame), FabOk s rx f ∧ f.dst = s.fabAddr ∧ f.dst ≠ 0xFFF ∧ s.fabLive = true ∧
      f.kind = k ∧ (s.elapse 0).winLook f.src f.cls false f.seq = .fresh ∧ leNat ((f.payload.drop 3).take 1) ≠ 3 ∧
      (∃ x ∈ s.fab.pend, x.frame.dst = f.src ∧ x.frame.cls = leNat ((f.payload.drop 2).take 1) ∧ x.frame.seq = leNat (f.payload.take 2) ∧
        (x.frame.kind = 4 ↔ k = 5))) ∧
    (∃ (s : State) (f : FabFrame), s.fpState 3 = 3 ∧ (s.fp 3).queues.length = 8 ∧ (s.fp 3).queues.getD 7 [] = [f] ∧
      ((s.elapse 1320).refill 3).hasTokens 3 7 (fabLen f) = true) ∧
    (∃ s : State, s.fpState 3 ≠ 3) := by
  refine ⟨fun k hk => ⟨routed [] fpUp id, rx3, frame k [], ?_⟩,
    ⟨routed [] fpUp (fun x => { x with wins := [⟨7, 0, false, 0, [], 0⟩] }), rx3, frame 4 [], fab_ok (by decide +kernel), by decide +kernel⟩,
    ⟨routed [(F.FAB_RETRY.WIN_HOLD, 1)] fpUp (fun x => { x with wins := List.replicate 1024 ⟨8, 0, false, 0, [], 0⟩ }), rx3, frame 2 [],
      fab_ok (by decide +kernel), by decide +kernel⟩,
    fun k hk => ⟨routed [] fpUp (fun x => { x with pend := [waitFor (if k = 5 then 4 else 2) 1] }), rx3, frame k [9, 0, 0, 0], ?_⟩,
    ⟨routed [] { fpUp with queues := [[], [], [], [], [], [], [], [frame 2 []]] } id, frame 2 [], by decide +kernel⟩,
    fabAt 2 [] fpUp id, by decide +kernel⟩ <;>
  (rcases hk with rfl | rfl <;> exact ⟨fab_ok (by decide +kernel), by decide +kernel⟩)

/-- Module time in a SYNC state. -/
def timAt (sync : Nat) (l : List (Fld × Nat)) : State := run ([(F.TIM_STAT.SYNC, sync)] ++ l)

theorem witness_ModuleTimeIsAdjustedOnlyWhenOpen :
    (∀ a, a = R.TIM_ADDEND ∨ a = R.TIM_SLEW ∨ a = R.TIM_STEP ∨ a = R.TIM_SET_SEC_LO →
      ∃ (s : State) (rq : Rq), s.timOpen = true ∧ Writes s rq a ∧ s.get F.TIM_SET_NS.NS < 10 ^ 9) ∧
    (∃ (s : State) (rq : Rq), s.timOpen = true ∧ Writes s rq R.TIM_SET_SEC_LO ∧ 10 ^ 9 ≤ s.get F.TIM_SET_NS.NS) ∧
    ((3435974#32).toInt.natAbs ≤ 3435974 ∧ 3435974 < (3435975#32).toInt.natAbs) ∧
    (∀ a, a = R.TIM_ADDEND ∨ a = R.TIM_SLEW ∨ a = R.TIM_STEP ∨ a = R.TIM_SET_SEC_LO →
      ∃ (s : State) (rq : Rq), s.timOpen = false ∧ Writes s rq a) ∧
    (∃ s : State, (s.elapse 2500).clock.slewLeft = 0 ∧ (s.elapse 2499).clock.slewLeft ≠ 0) := by
  refine ⟨fun a ha => ⟨timAt 4 [(F.TIM_SET_NS.NS, 999999999)], .cxA, by decide +kernel, writes_of ?_, by decide +kernel⟩,
    ⟨timAt 0 [(F.TIM_SET_NS.NS, 1000000000)], .cxA, by decide +kernel, writes_of (by decide +kernel), by decide +kernel⟩, by decide,
    fun a ha => ⟨timAt 2 [], .cxA, by decide +kernel, writes_of ?_⟩,
    { timAt 0 [] with clock := { State.reset.clock with slewLeft := 2500 } }, by decide +kernel⟩ <;>
  (rcases ha with rfl | rfl | rfl | rfl <;> decide +kernel)

/-- Fabric port 3 takes part in PTP in a port state; station port 5 is a PTP master. -/
def ptpAt (pstate sync : Nat) (l : List (Fld × Nat)) (x : PtpPort) (f : TimSt → TimSt) : State :=
  let s := timAt sync ([(F.TIM_PORTn_CFG.PTP_EN 3, 1), (F.TIM_PORTn_CFG.PTP_EN 2, 1), (F.PORTn_STAT.STATE 3, 3), (F.PORTn_STAT.STATE 2, 3),
    (F.TIM_PORTn_STAT.PSTATE 3, pstate), (F.TIM_CFG.STN_MASTER, 1), (F.TIM_PORTn_CFG.PTP_EN 5, 1)] ++ l)
  { s with tim := f { s.tim with ports := [(3, x)] } }
def head3 : PtpHead := { ph0 with port := 3, supported := true, seq := 77 }

theorem witness_FabricTimeMessagesAreServedAndTaken_1 :
    (∃ (s : State) (h : PtpHead), h.port = 3 ∧ s.ptpFab 3 = true ∧ s.ptpIgnored h = true) ∧
    (∀ b, b = true ∨ b = false → ∃ (s : State) (h : PtpHead), h.port = 3 ∧ s.ptpFab 3 = true ∧ s.ptpIgnored h = false ∧ s.pstate 3 = 3 ∧
      s.bit F.TIM_CFG.FAB_MODE = b ∧ s.portPresent 2 = true ∧ s.fpState 2 = 3) ∧
    (∃ (s : State) (h : PtpHead) (o : Nat) (corr : Int) (tm off : Int), h.port = 3 ∧ s.ptpFab 3 = true ∧ s.ptpIgnored h = false ∧ s.pstate 3 = 3 ∧
      (s.ptp 3).sync = some (h.seq, tm) ∧ s.bit F.TIM_CFG.FAB_MODE = false ∧ off = tm * 65536 - ((o : Int) * 65536 + corr + s.appliedDelay 3) ∧
      off.natAbs ≤ s.get F.TIM_SERVO.STEP_TH * 1000 * 65536) ∧
    (∃ (s : State) (h : PtpHead) (o : Nat) (corr : Int) (tm off : Int), h.port = 3 ∧ s.ptpFab 3 = true ∧ s.ptpIgnored h = false ∧ s.pstate 3 = 3 ∧
      (s.ptp 3).sync = some (h.seq, tm) ∧ s.bit F.TIM_CFG.FAB_MODE = false ∧ off = tm * 65536 - ((o : Int) * 65536 + corr + s.appliedDelay 3) ∧
      s.get F.TIM_SERVO.STEP_TH * 1000 * 65536 < off.natAbs ∧ s.get F.TIM_STAT.SYNC = 1 ∧ s.tim.firstOffset = true ∧ off % 65536 = 0) ∧
    (∃ (s : State) (h : PtpHead), h.port = 3 ∧ s.ptpFab 3 = true ∧ s.ptpIgnored h = false ∧ ∀ x, (s.ptp 3).sync = some x → x.1 ≠ h.seq) ∧
    (∃ (s : State) (h : PtpHead) (t1 d : Int) (t2 t3 rx : Nat), h.port = 3 ∧ s.ptpFab 3 = true ∧ s.ptpIgnored h = false ∧
      (s.ptp 3).pd = some (h.seq, t1) ∧ d = (s.ingress 3 rx - t1) - ((t3 : Int) - (t2 : Int)) ∧ -2 ^ 31 ≤ d ∧ d < 2 ^ 31) ∧
    (∃ (s : State) (h : PtpHead), h.port = 3 ∧ s.ptpFab 3 = true ∧ s.ptpIgnored h = false ∧ ∀ x, (s.ptp 3).pd = some x → x.1 ≠ h.seq) := by
  refine ⟨⟨ptpAt 3 1 [] ptpPort0 id, { head3 with domain := 1 }, by decide +kernel⟩,
    fun b hb => ⟨ptpAt 3 1 [(F.TIM_CFG.FAB_MODE, b.toNat)] ptpPort0 id, head3, ?_⟩,
    ⟨ptpAt 3 1 [(F.TIM_SERVO.STEP_TH, 1)] { ptpPort0 with sync := some (77, 1000) } id, head3, 0, 0, 1000, 65536000, by decide +kernel⟩,
    ⟨ptpAt 3 1 [(F.TIM_SERVO.STEP_TH, 1)] { ptpPort0 with sync := some (77, 1001) } id, head3, 0, 0, 1001, 65601536, by decide +kernel⟩,
    ⟨ptpAt 3 1 [] ptpPort0 id, head3, by decide +kernel, by decide +kernel, by decide +kernel, fun x h => by simp [State.ptp, ptpAt, look, ptpPort0] at h⟩,
    ⟨ptpAt 3 1 [] { ptpPort0 with pd := some (77, 1000) } id, head3, 1000, 2 ^ 31 - 1, 10, 20, 2 ^ 31 + 1009 + 176, by decide +kernel⟩,
    ptpAt 3 1 [] ptpPort0 id, head3, by decide +kernel, by decide +kernel, by decide +kernel, fun x h => by simp [State.ptp, ptpAt, look, ptpPort0] at h⟩
  rcases hb with rfl | rfl <;> decide +kernel

theorem witness_FabricTimeMessagesAreServedAndTaken_2 :
    (∃ (s : State) (h : PtpHead) (a : PtpAnnounce), h.port = 3 ∧ s.ptpFab 3 = true ∧ s.ptpIgnored h = false ∧ a.sender ≠ s.devid ∧ a.steps < 255 ∧
      s.tim.masters.lookup 3 = none ∧ (s.ptp 3).once = none) ∧
    (∃ (s : State) (h : PtpHead) (a : PtpAnnounce) (u : Nat), h.port = 3 ∧ s.ptpFab 3 = true ∧ s.ptpIgnored h = false ∧ a.sender ≠ s.devid ∧
      a.steps < 255 ∧ (s.ptp 3).once = some (a.sender, u) ∧ (s.elapse 1000000000).clock.up - u ≤ 1000000000) ∧
    (∃ (s : State) (h : PtpHead) (a : PtpAnnounce), h.port = 3 ∧ s.ptpFab 3 = true ∧ s.ptpIgnored h = false ∧ (a.sender = s.devid ∨ 255 ≤ a.steps)) ∧
    (∃ (s : State) (h : PtpHead), h.port = 5 ∧ s.ptpStn 5 = true ∧ s.ptpIgnored h = false) ∧
    (∃ s : State, s.serves 3 = true) ∧ (∃ s : State, s.serves 5 = true) ∧ (∃ s : State, s.serves 3 = false) ∧
    (∃ s : State, s.get F.TIM_STAT.SLAVE_PORT = 3) ∧ (∃ s : State, s.get F.TIM_STAT.SLAVE_PORT ≠ 3) :=
  ⟨⟨ptpAt 3 1 [] ptpPort0 id, head3, { ann0 with sender := 9, steps := 254 }, by decide +kernel⟩,
    ⟨ptpAt 3 1 [] { ptpPort0 with once := some (9, 0) } id, head3, { ann0 with sender := 9 }, 0, by decide +kernel⟩,
    ⟨ptpAt 3 1 [] ptpPort0 id, head3, { ann0 with sender := 9, steps := 255 }, by decide +kernel⟩,
    ⟨ptpAt 3 1 [] ptpPort0 id, { head3 with port := 5 }, by decide +kernel⟩, ⟨ptpAt 2 1 [] ptpPort0 id, by decide +kernel⟩,
    ⟨ptpAt 2 1 [] ptpPort0 id, by decide +kernel⟩, ⟨ptpAt 3 1 [] ptpPort0 id, by decide +kernel⟩,
    ⟨ptpAt 3 1 [(F.TIM_STAT.SLAVE_PORT, 3)] ptpPort0 id, by decide +kernel⟩, ptpAt 3 1 [(F.TIM_STAT.SLAVE_PORT, 2)] ptpPort0 id, by decide +kernel⟩

/-- A staged setpoint action for slot 0 of the host at 5 s, with a queue. -/
def actAt (l : List (Fld × Nat)) (q : List Action) : State :=
  let s := run ([(T.LPE_SLOT.EN 0, 1), (T.LPE_SLOT.SP_SRC 0, 2), (F.TIM_ACT_SEC_LO.TIME, 5), (F.TIM_ACT_TAG.STALE, 1)] ++ l)
  { s with tim := { s.tim with actions := q }, clock := { s.clock with sec := 5 } }
def act0 : Action := ⟨1, 5, 0, 0, 0, 0, false, 0, 0, 1, false, none⟩

theorem witness_ScheduledActionsAreTakenAndExecuted_1 :
    (∃ (s : State) (rq : Rq), Writes s rq R.TIM_ACT_SUBMIT ∧ s.svc ≠ 4) ∧
    (∃ (s : State) (rq : Rq), Writes s rq R.TIM_ACT_SUBMIT ∧ s.svc = 4 ∧ s.badTarget s.stagedAction = true) ∧
    (∃ (s : State) (rq : Rq), Writes s rq R.TIM_ACT_SUBMIT ∧ s.svc = 4 ∧ s.badTarget s.stagedAction = false ∧ s.badWriter s.stagedAction = true) ∧
    (∃ (s : State) (rq : Rq), Writes s rq R.TIM_ACT_SUBMIT ∧ s.svc = 4 ∧ s.badTarget s.stagedAction = false ∧ s.badWriter s.stagedAction = false ∧
      s.stagedAction.at + s.stagedAction.staleNs < (s.elapse 250001).now) ∧
    (∃ (s : State) (rq : Rq), Writes s rq R.TIM_ACT_SUBMIT ∧ s.svc = 4 ∧ s.badTarget s.stagedAction = false ∧ s.badWriter s.stagedAction = false ∧
      (s.elapse 250000).now ≤ s.stagedAction.at + s.stagedAction.staleNs ∧ 1024 ≤ (s.tim.actions.filter (fun b => b.origin.isNone)).length) ∧
    (∃ (s : State) (rq : Rq), Writes s rq R.TIM_ACT_SUBMIT ∧ s.svc = 4 ∧ s.badTarget s.stagedAction = false ∧ s.badWriter s.stagedAction = false ∧
      (s.elapse 250000).now ≤ s.stagedAction.at + s.stagedAction.staleNs ∧ (s.tim.actions.filter (fun b => b.origin.isNone)).length < 1024) ∧
    ((1#32).getLsbD 0 = true ∧ (0#32).getLsbD 0 = false) :=
  ⟨⟨actAt [(F.SYS_SVC.STATE, 3)] [], .cxA, writes_of (by decide +kernel), by decide +kernel⟩,
    ⟨actAt [(T.LPE_SLOT.EN 0, 0)] [], .cxA, writes_of (by decide +kernel), by decide +kernel⟩,
    ⟨actAt [(T.LPE_SLOT.SP_SRC 0, 1)] [], .cxA, writes_of (by decide +kernel), by decide +kernel⟩,
    ⟨actAt [] [], .cxA, writes_of (by decide +kernel), by decide +kernel⟩,
    ⟨actAt [] (List.replicate 1024 act0), .cxA, writes_of (by decide +kernel), by decide +kernel⟩,
    ⟨actAt [] (List.replicate 1023 act0), .cxA, writes_of (by decide +kernel), by decide +kernel⟩, by decide⟩

theorem witness_ScheduledActionsAreTakenAndExecuted_2 :
    (∃ s : State, s.tim.actions = []) ∧
    (∃ (s : State) (a : Action) (rest : List Action), s.tim.actions = a :: rest ∧ (s.elapse 249).now < a.at) ∧
    (∃ (s : State) (a : Action) (rest : List Action), s.tim.actions = a :: rest ∧ a.at ≤ (s.elapse 250).now ∧ a.origin = none ∧ a.kind = 0 ∧
      s.get (T.LPE_SLOT.SP_SRC (a.addr % 4096)) = 2 ∧ (f32val a.value).notFinite = false ∧
      (f32val a.value).lt (f32val (s.getw (T.LPE_SLOT.SP_LO (a.addr % 4096)))) = false ∧
      (f32val (s.getw (T.LPE_SLOT.SP_HI (a.addr % 4096)))).lt (f32val a.value) = false) :=
  ⟨⟨actAt [] [], rfl⟩, ⟨actAt [] [{ act0 with ns := 1000 }], { act0 with ns := 1000 }, [], rfl, by decide +kernel⟩,
    actAt [(T.LPE_SLOT.SP_HI 0, 0x3F800000)] [{ act0 with ns := 1000, value := 0x3F800000 }], { act0 with ns := 1000, value := 0x3F800000 }, [],
      rfl, by decide +kernel⟩

theorem witness_AWithdrawalTakesAPendingActionOrIsFlagged :
    (∃ (s : State) (rq : Rq) (v : Word), Writes s rq R.TIM_ACT_WDRAW ∧
      s.tim.actions.any (fun a => a.origin.isNone && a.handle == v.toNat % 2048) = true ∧ ∃ a ∈ s.tim.actions, a.origin.isSome = true) ∧
    (∃ (s : State) (rq : Rq) (v : Word), Writes s rq R.TIM_ACT_WDRAW ∧
      s.tim.actions.any (fun a => a.origin.isNone && a.handle == v.toNat % 2048) = false) ∧
    (∃ (s : State) (v : Word) (a : Action) (rest : List Action), s.tim.actions = a :: rest ∧ a.origin = none ∧ a.handle = v.toNat % 2048 ∧
      a.at ≤ (s.elapse 0).now ∧ ∀ b ∈ rest, b.origin = none → b.handle ≠ a.handle) :=
  ⟨⟨actAt [] [act0, { act0 with handle := 9, origin := some (0, 0) }], .cxA, 1#32, writes_of (by decide +kernel), by decide +kernel⟩,
    ⟨actAt [] [act0], .cxA, 2#32, writes_of (by decide +kernel), by decide +kernel⟩,
    actAt [] [act0, { act0 with handle := 2 }], 1#32, act0, [{ act0 with handle := 2 }], rfl, by decide +kernel⟩


/-- The RTC's count. -/
def rtcAt (l : List (Fld × Nat)) (f : RtcSt → RtcSt) : State := let s := run l; { s with rtc := f s.rtc }

theorem witness_TheRtcCountsSetsTracksAndWakesItsAlarms_1 :
    (∀ a, a = R.RTC_SET_SEC_LO ∨ a = R.RTC_CAL ∨ a = almReg 1 0 ∨ a = almReg 1 4 ∨ a = almReg 0 1 → ∀ b, b = true ∨ b = false →
      ∃ (s : State) (rq : Rq), s.bit F.RTC_STAT.BUSY = b ∧ Writes s rq a) ∧
    ((0x100#32).toNat % 512 = 256 ∧ (0x0FF#32).toNat % 512 ≠ 256) ∧
    (∀ n, n < 2 → ∃ (s : State) (rq : Rq), s.bit F.RTC_STAT.BUSY = false ∧ Writes s rq (R.ALMn_SEC_LO n) ∧ Writes s rq (R.ALMn_CTRL n)) ∧
    (∃ (s : State) (rq : Rq), Writes s rq R.RTC_STAT) ∧ ((1#32).getLsbD 0 = true ∧ (2#32).getLsbD 0 = false) := by
  refine ⟨fun a ha b hb => ⟨rtcAt [(F.RTC_STAT.BUSY, b.toNat)] id, .cxA, ?_, writes_of ?_⟩, by decide,
    fun n hn => ⟨rtcAt [] id, .cxA, by decide +kernel, writes_of ?_, writes_of ?_⟩, ⟨rtcAt [] id, .cxA, writes_of (by decide +kernel)⟩, by decide⟩
  · rcases hb with rfl | rfl <;> decide +kernel
  · rcases hb with rfl | rfl <;> rcases ha with rfl | rfl | rfl | rfl | rfl <;> decide +kernel
  · match n, hn with
    | 0, _ => decide +kernel
    | 1, _ => decide +kernel
  · match n, hn with
    | 0, _ => decide +kernel
    | 1, _ => decide +kernel

theorem witness_TheRtcCountsSetsTracksAndWakesItsAlarms_2 :
    (∃ (s : State) (sec frac : Nat), s.rtc.pend = some (sec, frac) ∧ s.rtc.stopped = false ∧ s.bit (F.ALMn_CTRL.EN 1) = true ∧ sec ≠ s.rtc.sec ∧
      almMatch (s.almSec 1) (s.almMask 1) sec = true ∧ s.bit (F.ALMn_CTRL.ONESHOT 1) = true) ∧
    (∃ (s : State) (sec frac x : Nat), s.rtc.pend = some (sec, frac) ∧ s.rtc.stopped = false ∧ s.bit (F.ALMn_CTRL.EN 0) = true ∧
      s.rtc.sec < x ∧ x < sec ∧ almMatch (s.almSec 0) (s.almMask 0) x = true ∧ x < 2 ^ 40 ∧ s.bit (F.ALMn_CTRL.CATCHUP 0) = true) ∧
    (∃ s : State, s.rtc.pend = none) ∧ (∃ s : State, s.rtc.stopped = true) ∧
    (∃ s : State, s.rtc.stopped = false ∧ s.bit (F.ALMn_CTRL.EN 1) = true ∧ s.bit (F.ALMn_CTRL.ONESHOT 1) = true ∧
      almMatch (s.almSec 1) (s.almMask 1) ((s.rtc.sec + 1) % 2 ^ 40) = true) ∧
    (∃ (s : State) (d : Int), d = (((s.elapse 0).rtcOfModule.1 * 32768 + (s.elapse 0).rtcOfModule.2 : Nat) : Int) -
        ((s.rtc.sec * 32768 + (s.elapse 0).rtcFrac : Nat) : Int) ∧ s.bit F.RTC_CFG.TRACK = true ∧ s.get F.TIM_STAT.SYNC = 4 ∧ d.natAbs = 3) ∧
    (∃ (s : State) (d : Int), d = (((s.elapse 0).rtcOfModule.1 * 32768 + (s.elapse 0).rtcOfModule.2 : Nat) : Int) -
        ((s.rtc.sec * 32768 + (s.elapse 0).rtcFrac : Nat) : Int) ∧ s.bit F.RTC_CFG.TRACK = true ∧ s.get F.TIM_STAT.SYNC = 4 ∧ d.natAbs = 2) ∧
    (∃ s : State, s.rtc.onCell = false ∧ s.bit F.RTC_BKTS_HI.VALID = false) ∧ (∃ s : State, s.rtc.onCell = false ∧ s.bit F.RTC_BKTS_HI.VALID = true) ∧
    (∃ s : State, s.rtc.onCell = true) :=
  let alarm (n : Nat) : List (Fld × Nat) := [(F.ALMn_CTRL.EN n, 1), (F.ALMn_CTRL.ONESHOT n, 1), (F.ALMn_CTRL.CATCHUP n, 1),
    (F.ALMn_SEC_LO.SEC n, 0), (F.ALMn_SEC_HI.SEC n, 1)]
  let track (f : Nat) : State :=
    let s := rtcAt [(F.RTC_CFG.TRACK, 1), (F.TIM_STAT.SYNC, 4)] (fun r => { r with sec := 0, frac := f })
    { s with clock := { s.clock with sec := 946684800, ns := 0 } }
  ⟨⟨rtcAt (alarm 1) (fun r => { r with pend := some (2 ^ 32, 0) }), 2 ^ 32, 0, by decide +kernel⟩,
    ⟨rtcAt (alarm 0) (fun r => { r with pend := some (2 ^ 40 - 1, 0) }), 2 ^ 40 - 1, 0, 2 ^ 32, by decide +kernel⟩,
    ⟨rtcAt [] id, by decide +kernel⟩, ⟨rtcAt [] (fun r => { r with stopped := true }), by decide +kernel⟩,
    ⟨rtcAt (alarm 1) (fun r => { r with sec := 2 ^ 32 - 1 }), by decide +kernel⟩, ⟨track 3, -3, by decide +kernel⟩, ⟨track 2, -2, by decide +kernel⟩,
    ⟨rtcAt [] id, by decide +kernel⟩, ⟨rtcAt [(F.RTC_BKTS_HI.VALID, 1)] id, by decide +kernel⟩,
    rtcAt [] (fun r => { r with onCell := true }), by decide +kernel⟩


/-- Complex A in a state, B in another. -/
def cxAt (a b : Nat) (l : List (Fld × Nat)) (f : SafSt → SafSt) : State :=
  let s := run ([(F.SAF_CX_STAT.CXA, a), (F.SAF_CX_STAT.CXB, b)] ++ l)
  { s with saf := f s.saf }
def beat (answered wrong : Bool) (miss : Nat) : Heart := ⟨0xACE1#16, answered, wrong, miss, true⟩

theorem witness_TheGauntletSupervisesTheComplexes_1 :
    (∃ s : State, s.get (cxFld 0) = 0) ∧ (∃ s : State, s.get (cxFld 1) = 3) ∧ (∃ s : State, s.get (cxFld 1) = 2) ∧
    (∃ s : State, s.get (cxFld 0) = 1 ∧ s.get (cxFld (1 - 0)) = 2 ∧ s.bit (rdyFld (1 - 0)) = true) ∧
    (∃ s : State, s.get (cxFld 0) = 1 ∧ s.get (cxFld (1 - 0)) = 2 ∧ s.bit (rdyFld (1 - 0)) = false) ∧
    (∃ s : State, s.get (cxFld 1) = 1 ∧ s.get (cxFld (1 - 1)) = 3) ∧
    (∃ s : State, ∀ n, n < 2 →
      (s.get (cxFld n) = 1 ∨ s.get (cxFld n) = 2) ∧ ((s.heart n).placed = true → (s.heart n).answered = true ∧ (s.heart n).wrong = false)) ∧
    (∃ s : State, (s.get (cxFld 1) = 1 ∨ s.get (cxFld 1) = 2) ∧ (s.heart 1).placed = true ∧ (s.heart 1).answered = false ∧
      ((s.heart (1 - 1)).placed = true → (s.heart (1 - 1)).answered = true ∧ (s.heart (1 - 1)).wrong = false) ∧ 1 ≤ (s.heart 1).miss) ∧
    (∃ s : State, (s.get (cxFld 0) = 1 ∨ s.get (cxFld 0) = 2) ∧ (s.heart 0).placed = true ∧ (s.heart 0).wrong = true ∧
      ((s.heart (1 - 0)).placed = true → (s.heart (1 - 0)).answered = true ∧ (s.heart (1 - 0)).wrong = false) ∧ (s.heart 0).miss = 0) :=
  ⟨⟨cxAt 0 1 [] id, by decide +kernel⟩, ⟨cxAt 1 3 [] id, by decide +kernel⟩, ⟨cxAt 1 2 [] id, by decide +kernel⟩,
    ⟨cxAt 1 2 [] id, by decide +kernel⟩, ⟨cxAt 1 2 [(F.SAF_CX_STAT.RDYB, 0)] id, by decide +kernel⟩, ⟨cxAt 3 1 [] id, by decide +kernel⟩,
    ⟨cxAt 1 2 [] (fun x => { x with hbA := beat true false 1 }), by decide +kernel⟩,
    ⟨cxAt 1 2 [] (fun x => { x with hbA := beat true false 1, hbB := beat false false 1 }), by decide +kernel⟩,
    cxAt 1 2 [] (fun x => { x with hbA := beat true true 0 }), by decide +kernel⟩

theorem witness_TheGauntletSupervisesTheComplexes_2 :
    (∃ (s : State) (rq : Rq), Writes s rq (R.SAF_HBn_RESP 1) ∧ rq.num ≠ 1) ∧ (∃ (s : State) (rq : Rq), Writes s rq (R.SAF_HBn_RESP 0) ∧ rq.num = 0) ∧
    (∃ (s : State) (v : Word), v.toNat / 65536 = s.get (F.SAF_HBn_CHAL.C 0) ∧ v.toNat % 65536 = 65535 - s.get (F.SAF_HBn_CHAL.C 0)) ∧
    (∃ s : State, s.saf.gFailed = true) ∧ (∃ s : State, s.saf.gFailed = false) :=
  ⟨⟨cxAt 1 2 [] id, .cxA, writes_of (by decide +kernel), by decide⟩, ⟨cxAt 1 2 [] id, .cxA, writes_of (by decide +kernel), rfl⟩,
    ⟨cxAt 1 2 [(F.SAF_HBn_CHAL.C 0, 0x1234)] id, 0x1234EDCB#32, by decide +kernel⟩,
    ⟨cxAt 1 2 [] (fun x => { x with gFailed := true }), rfl⟩, cxAt 1 2 [] id, by decide +kernel⟩

theorem witness_DiagnosticsRaiseTheirSourcesAndSafeStatesAreReleased :
    (∃ s : State, s.get F.PWR_DOM_STAT.ON / 2 ^ 7 % 2 = 1) ∧ (∃ s : State, s.get F.PWR_DOM_STAT.ON / 2 ^ 7 % 2 = 0) ∧
    (∃ (s : State) (rq : Rq), Writes s rq R.SAF_CTRL ∧ s.safeHeld 4 = false) ∧
    (∃ (s : State) (rq : Rq), Writes s rq R.SAF_CTRL ∧ s.safeHeld 1 = true) :=
  ⟨⟨cxAt 1 2 [] id, by decide +kernel⟩, ⟨cxAt 1 2 [(F.PWR_DOM_STAT.ON, 0xFF7F)] id, by decide +kernel⟩,
    ⟨cxAt 1 2 [] id, .cxA, writes_of (by decide +kernel), by decide +kernel⟩,
    cxAt 1 2 [(F.SAF_FLT_LAT.LAT, 2 ^ 31), (F.SAFn_CFG.SAFE 31, 1)] id, .cxA, writes_of (by decide +kernel), by decide +kernel⟩


/-- KEY in a life-cycle state, with a key update message in its buffer: operation, counter, payload bytes from 128 on. -/
def keyAt (lc op ctr : Nat) (payload : List Byte) (l : List (Fld × Nat)) (f : KeySt → KeySt) : State :=
  let s := run ([(F.KEY_STAT.LC, lc), (⟨tabKey 17 0x60660, 0, 1⟩, 1)] ++ l)
  { (s.setTabBytes 17 msgBase (leBytes 0x4B555044 4 ++ [1, BitVec.ofNat 8 op] ++ leBytes ((opLen op).getD 0) 2 ++ leBytes 0 8 ++ leBytes ctr 4 ++
    List.replicate 108 0 ++ payload)) with key := f s.key }
def verdict : KeyVerdict := ⟨List.replicate 48 0, true, some [], true⟩

theorem witness_KeyMessagesAreJudgedInOrderAndTamperErases_1 :
    (∀ b, b = true ∨ b = false → ∃ (s : State) (rq : Rq), Writes s rq R.KEY_CMD ∧ s.bit F.KEY_STAT.BUSY = b ∧ s.get F.KEY_STAT.LC = 0 ∧
      s.bit F.KEY_STAT.DTK = false ∧ s.bit F.KEY_STAT.ENT_OK = b) ∧
    (∃ (s : State) (rq : Rq), Writes s rq R.KEY_CMD ∧ s.get F.KEY_STAT.LC ≠ 0) ∧
    (∃ (s : State) (rq : Rq), Writes s rq R.KEY_CMD ∧ s.bit F.KEY_STAT.DTK = true) ∧
    (∃ (s : State) (v : KeyVerdict), s.bit F.KEY_STAT.BUSY = true ∧ s.msgCode v ≠ 0) ∧
    (∃ (s : State) (v : KeyVerdict), s.bit F.KEY_STAT.BUSY = true ∧ s.msgCode v = 0 ∧ s.msgOp = 1) ∧
    (∃ (s : State) (v : KeyVerdict), s.bit F.KEY_STAT.BUSY = true ∧ s.msgCode v = 0 ∧ s.msgOp = 2) ∧
    (∃ (s : State) (v : KeyVerdict), s.bit F.KEY_STAT.BUSY = true ∧ s.msgCode v = 0 ∧ s.msgOp = 3) ∧
    (∃ (s : State) (v : KeyVerdict), s.bit F.KEY_STAT.BUSY = true ∧ s.msgCode v = 0 ∧ s.msgOp = 4) ∧
    (∃ (s : State) (v : KeyVerdict), s.bit F.KEY_STAT.BUSY = true ∧ s.msgCode v = 0 ∧ s.msgOp = 0x20) := by
  let busy : List (Fld × Nat) := [(F.KEY_STAT.BUSY, 1)]
  refine ⟨fun b hb => ⟨keyAt 0 3 1 [] [(F.KEY_STAT.BUSY, b.toNat), (F.KEY_STAT.ENT_OK, b.toNat)] id, .cxA, writes_of ?_, ?_⟩,
    ⟨keyAt 3 3 1 [] [] id, .cxA, writes_of (by decide +kernel), by decide +kernel⟩,
    ⟨keyAt 0 3 1 [] [(F.KEY_STAT.DTK, 1)] id, .cxA, writes_of (by decide +kernel), by decide +kernel⟩,
    ⟨keyAt 2 3 0 [] busy id, verdict, by decide +kernel⟩, ⟨keyAt 0 1 1 [] busy (fun k => { k with dtk := some 0 }), verdict, by decide +kernel⟩,
    ⟨keyAt 1 2 1 [] busy (fun k => { k with dtk := some 0 }), verdict, by decide +kernel⟩, ⟨keyAt 2 3 1 [] busy id, verdict, by decide +kernel⟩,
    ⟨keyAt 3 4 1 [] busy id, verdict, by decide +kernel⟩, keyAt 4 0x20 1 (leBytes 86400 4) busy id, verdict, by decide +kernel⟩ <;>
  (rcases hb with rfl | rfl <;> decide +kernel)

theorem witness_KeyMessagesAreJudgedInOrderAndTamperErases_2 :
    (∃ (s : State) (u : Nat), s.key.debugEnd = some u ∧ u ≤ (s.elapse 1).clock.up ∧ (s.elapse 0).clock.up < u) ∧ (∃ s : State, s.key.debugEnd = none) ∧
    (∃ s : State, s.key.unwraps.find? (fun w => w.id == 9 && w.usage == 3) = none) ∧
    (∃ (s : State) (w : Unwrap) (n : Nat), s.key.unwraps.find? (fun w => w.id == 9 && w.usage == 3) = some w ∧ w.users = [.kmp] ∧
      s.mittenUse 9 true = some (3, usageLen 3) ∧ s.hasRoot = true ∧ s.slotFree = some n) ∧
    (∃ s : State, s.bit F.KEY_STAT.ARMED = true ∧ s.get F.KEY_STAT.LC ≠ 5 ∧ s.get F.KEY_STAT.LC ≠ 0 ∧ s.powered = true) ∧
    (∃ s : State, s.bit F.KEY_STAT.ARMED = false ∧ s.get F.KEY_STAT.LC = 0) ∧
    (∃ (s : State) (act : Nat), s.get F.KEY_STAT.LC = 5 ∧ act % 32 &&& (31 - s.get F.KEY_TAMP.ACT) ≠ 0) ∧
    (∃ s : State, s.key.fusing = true) ∧ (∃ s : State, s.key.fusing = false) :=
  ⟨⟨keyAt 4 3 1 [] [] (fun k => { k with debugEnd := some 1 }), 1, by decide +kernel⟩, ⟨keyAt 3 3 1 [] [] id, rfl⟩, ⟨keyAt 3 3 1 [] [] id, rfl⟩,
    ⟨keyAt 3 3 1 [] [(F.KEY_STAT.ROOT, 1), (⟨tabKey 17 0x50000, 0, 32⟩, 9 + 65536 * 3 + 16777216 * 48)] (fun k => { k with unwraps := [⟨9, 3, [.kmp]⟩] }),
      ⟨9, 3, [.kmp]⟩, 0, by decide +kernel⟩,
    ⟨keyAt 3 3 1 [] [(F.KEY_STAT.ARMED, 1)] id, by decide +kernel⟩, ⟨keyAt 0 3 1 [] [] id, by decide +kernel⟩,
    ⟨keyAt 5 3 1 [] [(F.KEY_TAMP.ACT, 15)] id, 16, by decide +kernel⟩, ⟨keyAt 3 3 1 [] [] (fun k => { k with fusing := true }), rfl⟩,
    keyAt 3 3 1 [] [] id, rfl⟩


/-- A package header of Table 19.2: type, LEN, and DATA and TREE with one level. -/
def pkgHead (type len d : Nat) : List Byte :=
  leBytes 0x4B5A5550 4 ++ [1, BitVec.ofNat 8 type, 0, 0] ++ leBytes 7 4 ++ leBytes 0 4 ++ leBytes 0 4 ++ leBytes 0 8 ++ leBytes len 4 ++ leBytes d 4 ++
    leBytes 1 4 ++ [1] ++ List.replicate 983 0
/-- UPD with a header in its buffer, PSTATE and HSTATE. -/
def updAt (pst hst : Nat) (l : List (Fld × Nat)) (f : UpdSt → UpdSt) : State :=
  let s := run ([(F.UPD_STAT.PSTATE, pst), (F.UPD_STAT.HSTATE, hst)] ++ l)
  { (s.setTabBytes 18 0x100000 ((pkgHead 1 1024 1).take 44)) with upd := f s.upd }
def updV : UpdVerdict := ⟨List.replicate 48 0, true, List.replicate 48 0, true, ⟨true, true, 0, 0, 1, 1024, List.replicate 48 0, true⟩⟩
def withPkg (type : Nat) (x : UpdSt) : UpdSt := { x with pkg := some (pkgHead type 1024 1) }
/-- A frame of the UART. -/
def uartFrame (t : Byte) (p : List Byte) : List Byte :=
  [0x5A, 0xA5] ++ ([t, 0] ++ leBytes p.length 2 ++ p) ++ leBytes (crc32c ([t, 0] ++ leBytes p.length 2 ++ p)).toNat 4

theorem witness_PackagesAreReceivedInstalledAndActivated_1 :
    (∃ (s : State) (rq : Rq), Writes s rq R.UPD_CMD ∧ s.bit F.UPD_STAT.PFW_HOLD = true) ∧
    (∃ (s : State) (rq : Rq), Writes s rq R.UPD_CMD ∧ s.bit F.UPD_STAT.BUSY = true ∧ s.bit F.UPD_STAT.PFW_HOLD = false) ∧
    (∃ (s : State) (rq : Rq), Writes s rq R.UPD_CMD ∧ s.bit F.UPD_STAT.PFW_HOLD = false ∧ s.bit F.UPD_STAT.BUSY = false ∧
      s.get F.UPD_STAT.PSTATE ≠ 0 ∧ s.get F.UPD_STAT.HSTATE < 4 ∧ s.upd.sealing = none) ∧
    (∃ (s : State) (rq : Rq), Writes s rq R.UPD_CMD ∧ s.bit F.UPD_STAT.PFW_HOLD = false ∧ s.bit F.UPD_STAT.BUSY = false ∧ s.pkgIs 2 2 = true ∧
      s.get F.CYC_STAT.EXCH = 1) ∧
    (∀ e, e = 0 ∨ e = 5 → ∃ (s : State) (rq : Rq), Writes s rq R.UPD_CMD ∧ s.bit F.UPD_STAT.PFW_HOLD = false ∧ s.bit F.UPD_STAT.BUSY = false ∧
      s.pkgIs 2 3 = true ∧ s.upd.slot < 2 ∧ s.svc = 4 ∧ s.get F.CYC_STAT.EXCH = e) ∧
    (∃ (s : State) (rq : Rq), Writes s rq R.UPD_CMD ∧ s.bit F.UPD_STAT.PFW_HOLD = false ∧ s.bit F.UPD_STAT.BUSY = false ∧
      s.get F.UPD_STAT.PSTATE = 0 ∧ s.pkgIs 2 2 = false ∧ s.pkgIs 2 3 = false) ∧
    (∃ (s : State) (v : UpdVerdict), s.upd.work = some 1 ∧ s.hdrCode s.updBuf v ≠ 0) ∧
    (∃ (s : State) (v : UpdVerdict), s.upd.work = some 1 ∧ s.hdrCode s.updBuf v = 0 ∧ s.pkgOpen = false ∧ v.nandOk = true) := by
  refine ⟨⟨updAt 0 0 [(F.UPD_STAT.PFW_HOLD, 1)] id, .cxA, writes_of (by decide +kernel), by decide +kernel⟩,
    ⟨updAt 0 0 [(F.UPD_STAT.BUSY, 1)] id, .cxA, writes_of (by decide +kernel), by decide +kernel⟩,
    ⟨updAt 5 3 [] id, .cxA, writes_of (by decide +kernel), by decide +kernel⟩,
    ⟨updAt 2 0 [(F.CYC_STAT.EXCH, 1)] (withPkg 2), .cxA, writes_of (by decide +kernel), by decide +kernel⟩,
    fun e he => ⟨updAt 3 0 [(F.CYC_STAT.EXCH, e)] (fun x => { withPkg 2 x with slot := 1 }), .cxA, writes_of ?_, ?_⟩,
    ⟨updAt 0 0 [] id, .cxA, writes_of (by decide +kernel), by decide +kernel⟩,
    ⟨updAt 0 0 [] (fun x => { x with work := some 1 }), { updV with sigOk := false }, by decide +kernel⟩,
    updAt 0 0 [] (fun x => { x with work := some 1 }), updV, by decide +kernel⟩ <;>
  (rcases he with rfl | rfl <;> decide +kernel)

theorem witness_PackagesAreReceivedInstalledAndActivated_2 :
    (∃ s : State, s.upd.work = some 2 ∧ s.pkgOpen = false) ∧
    (∃ s : State, s.upd.work = some 2 ∧ s.pkgOpen = true ∧ s.get F.UPD_CHK_IDX.IDX < pkgTotal s.pkgHdr ∧ s.chunk? (s.get F.UPD_CHK_IDX.IDX) ≠ none) ∧
    (∃ (s : State) (v : UpdVerdict) (r : List Byte), s.upd.work = some 2 ∧ s.pkgOpen = true ∧ s.get F.UPD_CHK_IDX.IDX < pkgTotal s.pkgHdr ∧
      s.chunk? (s.get F.UPD_CHK_IDX.IDX) = none ∧ s.chunkRef s.pkgHdr (s.get F.UPD_CHK_IDX.IDX) = some r ∧ v.sha ≠ r) ∧
    (∃ (s : State) (v : UpdVerdict) (r : List Byte), s.upd.work = some 2 ∧ s.pkgOpen = true ∧ s.get F.UPD_CHK_IDX.IDX < pkgTotal s.pkgHdr ∧
      s.chunk? (s.get F.UPD_CHK_IDX.IDX) = none ∧ s.chunkRef s.pkgHdr (s.get F.UPD_CHK_IDX.IDX) = some r ∧ v.sha = r ∧
      chunkPad s.pkgHdr (s.get F.UPD_CHK_IDX.IDX) s.updBuf = true ∧ v.nandOk = true ∧ pkgType s.pkgHdr = 1) ∧
    (∃ s : State, s.upd.work = none) ∧ (∃ s : State, s.upd.work = some 4) ∧ (∃ s : State, s.uartRx = false) :=
  ⟨⟨updAt 0 0 [] (fun x => { x with work := some 2 }), by decide +kernel⟩,
    ⟨updAt 1 0 [] (fun x => { withPkg 1 x with work := some 2, chunks := [(0, [])] }), by decide +kernel⟩,
    ⟨updAt 1 0 [] (fun x => { withPkg 1 x with work := some 2 }), { updV with sha := [] }, List.replicate 48 0, by decide +kernel⟩,
    ⟨updAt 1 0 [(F.UPD_CHK_IDX.IDX, 1)] (fun x => { withPkg 1 x with work := some 2, chunks := [(0, List.replicate 1024 0)] }), updV,
      List.replicate 48 0, by decide +kernel⟩,
    ⟨updAt 0 0 [] id, rfl⟩, ⟨updAt 0 0 [] (fun x => { x with work := some 4 }), rfl⟩, updAt 0 0 [(F.UPD_STAT.PFW_HOLD, 1)] id, by decide +kernel⟩

set_option maxRecDepth 100000 in
theorem witness_PackagesAreReceivedInstalledAndActivated_3 :
    (∃ (s : State) (f : List Byte) (v : UpdVerdict), s.uartRx = true ∧ uartOk 1 1024 f = true ∧ s.hdrCode ((f.drop 6).take 1024) v = 0 ∧
      s.pkgOpen = false ∧ v.nandOk = true) ∧
    (∃ (s : State) (f : List Byte) (v : UpdVerdict), s.uartRx = true ∧ uartOk 1 1024 f = true ∧ s.hdrCode ((f.drop 6).take 1024) v ≠ 0) ∧
    (∃ (s : State) (f : List Byte) (v : UpdVerdict) (r : List Byte), s.uartRx = true ∧ uartOk 2 1032 f = true ∧ s.pkgOpen = true ∧
      natAt f 6 4 = pkgId s.pkgHdr ∧ natAt f 10 4 < pkgTotal s.pkgHdr ∧ s.chunk? (natAt f 10 4) = none ∧
      s.chunkRef s.pkgHdr (natAt f 10 4) = some r ∧ v.sha = r ∧ chunkPad s.pkgHdr (natAt f 10 4) ((f.drop 14).take 1024) = true ∧ v.nandOk = true) ∧
    (∃ f : List Byte, uartOk 1 1024 f = false ∧ uartOk 2 1032 f = false) :=
  ⟨⟨updAt 0 0 [(F.UPD_CFG.UART_EN, 1)] id, uartFrame 1 (pkgHead 1 1024 1), updV, by decide +kernel⟩,
    ⟨updAt 0 0 [(F.UPD_CFG.UART_EN, 1)] id, uartFrame 1 (pkgHead 3 1024 1), updV, by decide +kernel⟩,
    ⟨updAt 1 0 [(F.UPD_CFG.UART_EN, 1)] (withPkg 1), uartFrame 2 (leBytes 7 4 ++ leBytes 0 4 ++ List.replicate 1024 0), updV, List.replicate 48 0,
      by decide +kernel⟩,
    [], by decide +kernel⟩

theorem witness_AHandoverSwapsTheComplexesAndIsCommittedOrReverted_1 :
    (∃ (s : State) (rq : Rq), Writes s rq R.UPD_CMD ∧ s.bit F.UPD_STAT.PFW_HOLD = false ∧ s.bit F.UPD_STAT.BUSY = false ∧ s.pkgIs 1 2 = true ∧
      s.get F.UPD_STAT.HSTATE = 0 ∧ s.standby = some 1) ∧
    (∃ (s : State) (rq : Rq), Writes s rq R.UPD_CMD ∧ s.bit F.UPD_STAT.PFW_HOLD = false ∧ s.bit F.UPD_STAT.BUSY = false ∧ s.pkgIs 1 2 = true ∧
      s.get F.UPD_STAT.HSTATE = 0 ∧ s.standby = none) ∧
    (∀ h, h < 7 → ∃ (s : State) (rq : Rq), Writes s rq R.UPD_CMD ∧ s.bit F.UPD_STAT.PFW_HOLD = false ∧ s.bit F.UPD_STAT.BUSY = false ∧
      s.pkgIs 1 2 = false ∧ s.get F.UPD_STAT.HSTATE = h ∧ s.upd.sealing = none) ∧
    (∃ s : State, s.get (cxFld 1) = 2) ∧ (∃ s : State, s.get (cxFld 0) ≠ 2) ∧
    (∃ s : State, s.get F.UPD_STAT.HSTATE = 2 ∧ s.get F.UPD_SHADOW_N.N ≤ s.get F.UPD_SHD_CNT.COUNT) ∧
    (∃ s : State, s.get F.UPD_STAT.HSTATE = 2 ∧ s.get F.UPD_SHD_CNT.COUNT < s.get F.UPD_SHADOW_N.N) ∧
    (∃ s : State, s.handoverDue = false) ∧
    (∃ (s : State) (a : Rq) (n : Nat), s.handoverDue = true ∧ s.activeCx = some a ∧ s.standby = some n ∧ s.get F.UPD_STAT.HSTATE = 3) ∧
    (∃ (s : State) (a : Rq) (n : Nat), s.handoverDue = true ∧ s.activeCx = some a ∧ s.standby = some n ∧ s.get F.UPD_STAT.HSTATE = 6) := by
  refine ⟨⟨updAt 2 0 [] (withPkg 1), .cxA, writes_of (by decide +kernel), by decide +kernel⟩,
    ⟨updAt 2 0 [(F.SAF_CX_STAT.CXB, 3)] (withPkg 1), .cxA, writes_of (by decide +kernel), by decide +kernel⟩,
    fun h hh => ⟨updAt 3 h [] (withPkg 1), .cxA, writes_of ?_, ?_⟩, ⟨updAt 0 0 [] id, by decide +kernel⟩, ⟨updAt 0 0 [] id, by decide +kernel⟩,
    ⟨updAt 3 2 [(F.UPD_SHADOW_N.N, 3), (F.UPD_SHD_CNT.COUNT, 3)] id, by decide +kernel⟩,
    ⟨updAt 3 2 [(F.UPD_SHADOW_N.N, 3), (F.UPD_SHD_CNT.COUNT, 2)] id, by decide +kernel⟩, ⟨updAt 3 3 [] id, by decide +kernel⟩,
    ⟨updAt 3 3 [] (fun x => { x with hoReq := true }), .cxA, 1, by decide +kernel⟩, updAt 3 6 [] id, .cxA, 1, by decide +kernel⟩ <;>
  (match h, hh with
    | 0, _ => decide +kernel
    | 1, _ => decide +kernel
    | 2, _ => decide +kernel
    | 3, _ => decide +kernel
    | 4, _ => decide +kernel
    | 5, _ => decide +kernel
    | 6, _ => decide +kernel)

theorem witness_AHandoverSwapsTheComplexesAndIsCommittedOrReverted_2 :
    (∃ s : State, s.upd.sealing = none) ∧ (∃ s : State, s.upd.sealing = some 0 ∧ s.get F.UPD_STAT.HSTATE = 6) ∧
    (∃ s : State, s.upd.sealing = some 0 ∧ s.get F.UPD_STAT.HSTATE = 3 ∧ s.standby = some 1) ∧
    (∃ s : State, s.upd.probEnd = some 10 ∧ s.get F.UPD_STAT.HSTATE = 4 ∧ 10 ≤ (s.elapse 10).clock.up ∧ (s.elapse 9).clock.up < 10) ∧
    (∃ s : State, s.get F.UPD_STAT.HSTATE ≠ 4) ∧
    (∃ s : State, s.upd.overwrite = true ∧ s.upd.cold = false ∧ s.get F.UPD_STAT.HSTATE = 5 ∧ s.standby ≠ none ∧ s.upd.fails = 0) ∧
    (∃ s : State, s.upd.overwrite = true ∧ s.upd.cold = false ∧ s.get F.UPD_STAT.HSTATE = 5 ∧ s.upd.fails ≠ 0) ∧
    (∃ s : State, s.upd.overwrite = true ∧ s.upd.cold = true ∧ s.upd.fails ≠ 0) ∧ (∃ s : State, s.upd.overwrite = false) ∧
    (∃ s : State, s.upd.overwrite = true ∧ s.get F.UPD_STAT.HSTATE ≠ 5 ∧ s.upd.cold = false) :=
  ⟨⟨updAt 0 0 [] id, rfl⟩, ⟨updAt 3 6 [] (fun x => { x with sealing := some 0 }), by decide +kernel⟩,
    ⟨updAt 3 3 [] (fun x => { x with sealing := some 0 }), by decide +kernel⟩, ⟨updAt 3 4 [] (fun x => { x with probEnd := some 10 }), by decide +kernel⟩,
    ⟨updAt 3 3 [] id, by decide +kernel⟩, ⟨updAt 3 5 [] (fun x => { withPkg 1 x with overwrite := true }), by decide +kernel⟩,
    ⟨updAt 3 5 [] (fun x => { withPkg 1 x with overwrite := true, fails := 1 }), by decide +kernel⟩,
    ⟨updAt 3 0 [] (fun x => { withPkg 1 x with overwrite := true, cold := true, fails := 1 }), by decide +kernel⟩, ⟨updAt 3 0 [] id, rfl⟩,
    updAt 3 0 [] (fun x => { withPkg 1 x with overwrite := true }), by decide +kernel⟩


/-- The recorder with its region granted and one record held. -/
def recAt (l : List (Fld × Nat)) (f : RecSt → RecSt) : State :=
  let s := run l
  { s with recd := f { s.recd with asked := true, granted := true } }
def event0 : RecRecord := .event 1 0 0 0 0 0 0 0 0 0

theorem witness_TheRecorderSamplesFlushesAndArchives_1 :
    (∃ s : State, s.svc = 4 ∧ s.bit F.REC_STAT.RUN = true ∧ s.bit (T.REC_CH.EN 127) = true ∧ s.recd.asked = true ∧ s.recd.granted = true ∧
      ((s.elapse 0).chanAcc 127).fwd = false ∧ (s.elapse 0).intervalOver 127 = false ∧ ((s.elapse 0).chanValue 127).2 = true) ∧
    (∃ s : State, s.svc = 4 ∧ s.bit F.REC_STAT.RUN = true ∧ s.bit (T.REC_CH.EN 0) = true ∧ s.recd.asked = true ∧ s.recd.granted = true ∧
      ((s.elapse 0).chanAcc 0).fwd = false ∧ (s.elapse 0).intervalOver 0 = false ∧ ((s.elapse 0).chanValue 0).2 = false) ∧
    (∃ s : State, s.bit (T.REC_CH.EN 0) = false) ∧
    (∃ (s : State) (a : RecAcc), s.svc = 4 ∧ s.recd.granted = true ∧ s.recd.acc = [(127, a)] ∧ a.fwd = false ∧
      (s.elapse 250000000).intervalOver 127 = true ∧ s.recFill + 192 ≤ 524288) ∧
    (∃ s : State, s.recd.acc = []) ∧
    (∀ b, b = true ∨ b = false → ∃ (s : State) (rq : Rq), s.bit F.REC_STAT.CLEARING = false ∧ s.recd.flushing = none ∧ s.bit F.REC_STAT.RUN = b ∧
      Writes s rq R.REC_CTRL) ∧
    (∃ s : State, s.bit F.REC_STAT.CLEARING = true ∧ s.bit F.REC_STAT.RUN = true) ∧
    (∃ (s : State) (rq : Rq), s.recd.flushing ≠ none ∧ s.bit F.REC_STAT.RUN = true ∧ Writes s rq R.REC_CTRL) := by
  let acc (a : RecAcc) (x : RecSt) : RecSt := { x with acc := [(127, a)] }
  let on (c src : Nat) : List (Fld × Nat) := [(T.REC_CH.EN c, 1), (T.REC_CH.SRC c, src), (T.REC_CH.INTERVAL c, 1)]
  refine ⟨⟨recAt (on 127 0) id, by decide +kernel⟩, ⟨recAt (on 0 7) id, by decide +kernel⟩, ⟨recAt [] id, by decide +kernel⟩,
    ⟨recAt (on 127 0) (acc (recAcc0 0 false)), recAcc0 0 false, by decide +kernel⟩, ⟨recAt [] id, rfl⟩,
    fun b hb => ⟨recAt [(F.REC_STAT.RUN, b.toNat)] id, .cxA, ?_, rfl, ?_, writes_of ?_⟩, ⟨recAt [(F.REC_STAT.CLEARING, 1)] id, by decide +kernel⟩,
    recAt [] (fun x => { x with flushing := some [] }), .cxA, by decide +kernel, by decide +kernel, writes_of (by decide +kernel)⟩ <;>
  (rcases hb with rfl | rfl <;> decide +kernel)

theorem witness_TheRecorderSamplesFlushesAndArchives_2 :
    (∃ (s : State) (rs : List RecRecord), s.recd.flushing = some rs ∧ s.bit F.REC_STAT.CLEARING = true) ∧
    (∃ (s : State) (rs : List RecRecord), s.recd.flushing = some rs ∧ s.bit F.REC_STAT.CLEARING = false ∧ rs ≠ [] ∧ recBytes rs ≤ 4064 ∧
      s.recd.again = false) ∧
    (∃ s : State, s.recd.flushing = none) ∧ (∃ (s : State) (rq : Rq), Writes s rq R.REC_CUR_SEQ) ∧ (∃ s : State, s.bit F.REC_CUR_STAT.BUSY = false) ∧
    (∃ (s : State) (b : ArchBlock), s.bit F.REC_CUR_STAT.BUSY = true ∧
      ((s.recd.segs.flatMap id).filterMap id).find? (fun b => b.bseq == s.get F.REC_CUR_SEQ.SEQ) = some b) ∧
    (∃ s : State, s.bit F.REC_CUR_STAT.BUSY = true ∧
      ((s.recd.segs.flatMap id).filterMap id).find? (fun b => b.bseq == s.get F.REC_CUR_SEQ.SEQ) = none) ∧
    (∃ (s : State) (rq : Rq), Writes s rq R.REC_CLEAR ∧ 4 ≤ rq.num ∧ s.bit F.REC_STAT.CLEARING = false) ∧
    (∃ (s : State) (rq : Rq), Writes s rq R.REC_CLEAR ∧ rq.num < 4) ∧ (∃ s : State, s.bit F.REC_STAT.CLEARING = true) ∧
    (∃ s : State, s.bit F.REC_STAT.RUN = true ∧ s.get F.REC_CFG.COAL_MS = 0) :=
  let one : RecSt → RecSt := fun x => { x with segs := [[some ⟨5, [event0]⟩, none]] }
  ⟨⟨recAt [(F.REC_STAT.CLEARING, 1)] (fun x => { x with flushing := some [event0] }), [event0], by decide +kernel⟩,
    ⟨recAt [] (fun x => { x with flushing := some (List.replicate 127 event0) }), List.replicate 127 event0, by decide +kernel⟩,
    ⟨recAt [] id, rfl⟩, ⟨recAt [] id, .cxA, writes_of (by decide +kernel)⟩, ⟨recAt [] id, by decide +kernel⟩,
    ⟨recAt [(F.REC_CUR_STAT.BUSY, 1), (F.REC_CUR_SEQ.SEQ, 5)] one, ⟨5, [event0]⟩, by decide +kernel⟩,
    ⟨recAt [(F.REC_CUR_STAT.BUSY, 1), (F.REC_CUR_SEQ.SEQ, 6)] one, by decide +kernel⟩,
    ⟨recAt [] id, .kmp 0, writes_of (by decide +kernel), by decide +kernel⟩, ⟨recAt [] id, .cxA, writes_of (by decide +kernel), by decide +kernel⟩,
    ⟨recAt [(F.REC_STAT.CLEARING, 1)] id, by decide +kernel⟩, recAt [(F.REC_CFG.COAL_MS, 0)] id, by decide +kernel⟩

theorem witness_TheRecorderSamplesFlushesAndArchives_3 :
    (∃ s : State, s.recd.asked = true ∧ s.recd.granted = false ∧ s.svc = 4 ∧
      s.get (F.PGR_QUOTAn.QUOTA 1) < s.get (F.PGR_USEDn.USED 1) + s.get F.REC_REG.GRAN) ∧
    (∃ (s : State) (b i : Nat), s.recd.asked = true ∧ s.recd.granted = false ∧ s.svc = 4 ∧
      s.get (F.PGR_USEDn.USED 1) + s.get F.REC_REG.GRAN ≤ s.get (F.PGR_QUOTAn.QUOTA 1) ∧ s.lowestRun (s.get F.REC_REG.GRAN) = some b ∧
      (List.range 256).find? (fun i => !(s.pgr.regions.any (fun r => r.1 == i))) = some i) ∧
    (∃ s : State, s.recd.granted = true) :=
  let wait : RecSt → RecSt := fun x => { x with granted := false }
  ⟨⟨recAt [(F.PGR_QUOTAn.QUOTA 1, 3), (F.REC_REG.GRAN, 4)] wait, by decide +kernel⟩,
    ⟨recAt [(F.PGR_QUOTAn.QUOTA 1, 4), (F.REC_REG.GRAN, 4), (F.PGR_POOL_SIZE.SIZE, 4)] wait, 0, 0, by decide +kernel⟩, recAt [] id, rfl⟩


/-- KMP sessions; the management port with an address. -/
def kmpAt (l : List (Fld × Nat)) (k : List KmpSession) : State :=
  let s := run ([(F.SYS_MGT_STAT.LINK, 1), (⟨tabKey 17 0x60660, 0, 1⟩, 1)] ++ l)
  { s with kmp := k, mgt := { s.mgt with addr := [65536#32, 0x0A000001#32] } }
def session (n : Nat) (tag : Option Nat) : KmpSession := ⟨n, false, tag, tag.toList.map (fun t => (t, 0, 1, [])), 0⟩

theorem witness_ManagementSessionsAreOpenedServedAndClosed_1 :
    (∃ s : State, s.kmpUp = false) ∧ (∃ s : State, s.kmpUp = true ∧ s.bit F.SYS_MGT_STAT.LINK = false) ∧
    (∃ (s : State) (h : List Byte), s.kmpUp = true ∧ s.bit F.SYS_MGT_STAT.LINK = true ∧ (∀ x ∈ s.kmp, x.num ≠ 3) ∧
      (∀ m, m < 3 → ∃ x ∈ s.kmp, x.num = m) ∧ s.ownerHash = some h ∧ s.kmp.length < 4) ∧
    (∃ s : State, s.kmpUp = true ∧ s.bit F.SYS_MGT_STAT.LINK = true ∧ ∀ n, n < 4 → ∃ x ∈ s.kmp, x.num = n) ∧
    (∃ (s : State) (h : List Byte), s.kmpUp = true ∧ s.bit F.SYS_MGT_STAT.LINK = true ∧ s.ownerHash ≠ some h) ∧
    (∃ s : State, s.kmp.any (fun x => x.num == 3 && decide (x.last + 75000000000 ≤ (s.elapse 75000000000).clock.up)) = true) ∧
    (∃ s : State, s.kmp.any (fun x => x.num == 3 && decide (x.last + 75000000000 ≤ (s.elapse 74999999999).clock.up)) = false) :=
  let three := [session 0 none, session 1 none, session 2 none]
  ⟨⟨kmpAt [(F.SYS_SVC.STATE, 0)] [], by decide +kernel⟩, ⟨kmpAt [(F.SYS_MGT_STAT.LINK, 0)] [], by decide +kernel⟩,
    ⟨kmpAt [] three, List.replicate 48 0, by decide +kernel⟩, ⟨kmpAt [] (three ++ [session 3 none]), by decide +kernel⟩,
    ⟨kmpAt [] [], [], by decide +kernel⟩, ⟨kmpAt [] [session 3 none], by decide +kernel⟩, kmpAt [] [session 3 none], by decide +kernel⟩

theorem witness_ManagementSessionsAreOpenedServedAndClosed_2 :
    (∃ s : State, s.kmp.find? (fun x => x.num == 0) = none) ∧
    (∃ (s : State) (x : KmpSession) (e : Nat × Nat × Nat × List Word), s.kmp.find? (fun x => x.num == 0) = some x ∧ s.kmpUp = true ∧
      x.cache.find? (fun e => e.1 == 5) = some e) ∧
    (∃ (s : State) (x : KmpSession), s.kmp.find? (fun x => x.num == 0) = some x ∧ s.kmpUp = true ∧ x.cache.find? (fun e => e.1 == 4) = none ∧
      x.maxTag = some 5) ∧
    (∃ (s : State) (x : KmpSession), s.kmp.find? (fun x => x.num == 0) = some x ∧ s.kmpUp = true ∧
      x.cache.find? (fun e => e.1 == 6) = none ∧ x.maxTag = some 5 ∧ Reads s (.kmp 0) R.SYS_DEVID_LO) ∧
    (kmpFormat 17 true [] = false) ∧
    (∃ s : State, s.powered = true ∧ s.domOn 5 = true ∧ s.bit F.SYS_MGT_STAT.LINK = true ∧ s.holdsAddr false 0x0A000001 = true) ∧
    (∃ s : State, s.holdsAddr false 0x0A000002 = false) ∧ (∃ s : State, s.domOn 5 = false) :=
  ⟨⟨kmpAt [] [], rfl⟩, ⟨kmpAt [] [session 0 (some 5)], session 0 (some 5), (5, 0, 1, []), by decide +kernel⟩,
    ⟨kmpAt [] [session 0 (some 5)], session 0 (some 5), by decide +kernel⟩,
    ⟨kmpAt [] [session 0 (some 5)], session 0 (some 5), by decide +kernel, by decide +kernel, by decide +kernel, rfl, reads_of (by decide +kernel)⟩,
    by decide, ⟨kmpAt [] [], by decide +kernel⟩, ⟨kmpAt [] [], by decide +kernel⟩, kmpAt [(F.PWR_DOM_STAT.ON, 0)] [], by decide +kernel⟩

theorem witness_LocalInputsCountReleaseAndScale :
    (∃ s : State, s.bit F.LIO_STAT.RUN = false) ∧
    (∃ s : State, s.bit F.LIO_STAT.RUN = true ∧ s.di 31 = false ∧ s.bit F.PGR_STAT.SCHED = true ∧ s.eventTask 63 2 = true ∧
      s.get (T.PGR_TASK.SRC_IDX 63) = 31 ∧ s.get (F.T_STAT.STATE 63) = 0) ∧
    (∃ s : State, s.bit F.LIO_STAT.RUN = true ∧ ∀ n, n < 64 → s.eventTask n 2 = true → s.get (T.PGR_TASK.SRC_IDX n) ≠ 31) ∧
    (∃ s : State, s.bit F.LIO_STAT.RUN = true ∧ s.get (F.AIn_CFG.MODE 15) = 0 ∧ s.get (F.AIn_CFG.MODE 0) = 1 ∧ s.bit (F.AIn_CFG.FILT 0) = false ∧
      s.get (F.AIn_CFG.MODE 1) = 2 ∧ s.bit (F.AIn_CFG.FILT 1) = false) :=
  ⟨⟨run [(F.LIO_STAT.RUN, 0)], by decide +kernel⟩,
    ⟨run [(T.PGR_TASK.TYPE 63, 3), (T.PGR_TASK.EN 63, 1), (T.PGR_TASK.SRC 63, 2), (T.PGR_TASK.SRC_IDX 63, 31)], by decide +kernel⟩,
    ⟨run [], by decide +kernel⟩, run [(F.AIn_CFG.MODE 0, 1), (F.AIn_CFG.MODE 1, 2)], by decide +kernel⟩


/-! ### One step on a small state, or one operation, at values of the spec's worked examples or at a boundary -/

/-- The state a command answers. -/
def after (c : Instr) (s : State) : State :=
  match exec c s with
  | .next t => t
  | _ => s

/-- R5's example: a ZKV-4260 has no DOP; a write there has no effect and sets SYS_ERR.ABSENT_WR. -/
theorem test_absent_unit : let t := after (.regWrite 1 .cxA 4 0x090000 1) { run [] with variant := .zkv4260 }
    t.bit F.SYS_ERR.ABSENT_WR = true ∧ t.word 0x090000 = (run []).word 0x090000 := by decide +kernel

/-- Chapter 12's example: next hop 40 for copy A, node 41 for copy B, whose ROUTE is 9. -/
theorem test_disjoint_routes :
    let l (a : Nat) (ls : List (Nat × Nat)) : Nat × LsaEntry := (a, ⟨1, a, ls.map (fun x => (x.1, x.2, 10)), 0⟩)
    let es := linkEdges [l 33 [(40, 0), (41, 1)], l 40 [(33, 2), (44, 1), (41, 3)], l 41 [(33, 3), (44, 2), (40, 1)], l 44 [(40, 0), (41, 3)]]
    ((shortest 33 es).lookup 44).any (fun a => a.nodes == [40, 44] && ((disjointPath 33 es 44 a).any (fun b =>
      b.2 && b.1.nodes == [41, 44] && routeBits b.1.ports == 9))) = true := by decide +kernel

/-- Chapter 13's example: the Pdelay exchange gives 9 996 ns. -/
theorem test_link_delay :
    let s := ptpAt 3 1 [] { ptpPort0 with pd := some (77, 500000000100) } id
    (after (.ptpPdelayRespReceived 1 head3 500000010112 500000030112 (500000040092 + 176)) s).word (R.TIM_PORTn_DELAY 3) = 0x270C#32 := by
  decide +kernel

/-- A step of −1 ns from a whole second (R335). -/
theorem test_step_back : (after (.timStepWrite 0 .cxA 0xFFFFFFFF) { timAt 0 [] with clock := { State.reset.clock with sec := 5 } }).clock =
    { State.reset.clock with sec := 4, ns := 999999999 } := by decide +kernel

/-- Chapter 14's example: a forward step over both alarms (R363), then a carry into 800 000 128. -/
def twoAlarms (sec : Nat) (p : Option (Nat × Nat)) : State :=
  rtcAt [(⟨R.ALMn_SEC_LO 0, 0, 32⟩, 0x2FAF0832), (⟨R.ALMn_CTRL 0, 0, 32⟩, 7), (⟨R.ALMn_MASK_LO 1, 0, 32⟩, 0xFFFFFFC0), (⟨R.ALMn_MASK_HI 1, 0, 32⟩, 0xFF),
    (⟨R.ALMn_CTRL 1, 0, 32⟩, 1)] (fun r => { r with sec := sec, frac := 0x4000, pend := p })
theorem test_alarms_skipped : let t := after (.rtcSetTakeEffect 0) (twoAlarms 800000010 (some (800000110, 0x4000)))
    t.word (R.ALMn_STAT 0) = 7#32 ∧ t.word (R.ALMn_CTRL 0) = 6#32 ∧ t.word (R.ALMn_STAT 1) = 2#32 := by decide +kernel
theorem test_alarm_at_carry : (after (.rtcSecondCarry 0) (twoAlarms 800000127 none)).word (R.ALMn_STAT 1) = 1#32 := by decide +kernel
theorem test_rtc_wraps : (after (.rtcSecondCarry 0) (rtcAt [] (fun r => { r with sec := 2 ^ 40 - 1 }))).rtc.sec = 0 := by decide +kernel

/-- Chapter 17's example: a lockstep mismatch in the ACTIVE complex A. -/
theorem test_takeover :
    let s := { cxAt 1 2 [(F.SAF_LOG_SEQ.SEQ, 16)] id with clock := { State.reset.clock with sec := 5000 } }
    let t := after (.lockstepMismatch 0 0 false) s
    t.word R.SAF_CX_STAT = 0x13#32 ∧ t.get F.SAF_LOG_SEQ.SEQ = 17 ∧ t.word (tabKey 16 0x114) = 0x1388#32 ∧ t.word (tabKey 16 0x11C) = 0x03000001#32 ∧
      t.get F.SAF_FLT_LAT.LAT = 2 ∧ t.word R.SAF_ALARM = 1#32 := by decide +kernel

/-- Chapter 19's example: the tree of a million bytes. -/
theorem test_hash_tree : treeL 977 = 3 ∧ treeBase 977 3 0 = 67 ∧ treeAt 977 3 567 = (0, 500) ∧ treeAt 977 3 36 = (1, 31) ∧ treeAt 977 3 2 = (2, 1) := by
  decide +kernel

/-- R417: the register shifts left and bit 0 takes bits 15, 13, 12 and 10. -/
theorem test_lfsr : lfsrStep 0xACE1#16 = 0x59C3#16 := by decide
/-- CRC-32C of the nine digits. -/
theorem test_crc32c : crc32c [0x31, 0x32, 0x33, 0x34, 0x35, 0x36, 0x37, 0x38, 0x39] = 0xE3069283#32 := by decide +kernel
/-- binary32: round to nearest, ties to even; an overflow is an infinity. -/
theorem test_binary32 : f32add 0x3F800000#32 0x33800000#32 = 0x3F800000#32 ∧ f32add 0x3F800001#32 0x33800000#32 = 0x3F800002#32 ∧
    f32mul 0x7F7FFFFF#32 0x40000000#32 = 0x7F800000#32 ∧ f32mul 0xBF800000#32 0x40400000#32 = 0xC0400000#32 := by decide +kernel

/-- A rising edge counts modulo 2³² (R525); a second report of the level changes nothing. -/
theorem test_di_counter_wraps : let t := after (.diLevelChange 1 31 true) (run [(F.LIO_PCNTn.COUNT 31, 0xFFFFFFFF)])
    t.get (F.LIO_PCNTn.COUNT 31) = 0 ∧ t.word R.LIO_DI = 0x80000000#32 := by decide +kernel

/-- A second GO while KEY is busy is flagged (R454). -/
theorem test_second_go : let s := after (.keyGo 1 .cxA) (run [])
    s.bit F.KEY_STAT.BUSY = true ∧ (after (.keyGo 1 .cxA) s).bit F.KEY_ERR.BUSY = true := by decide +kernel

/-- The step runs the front command and drops it from the queue; an empty queue idles. -/
theorem test_queue : (match step { run [] with pending := [.crystalRestart 0, .rtcOscStop 0] } with
    | .next t => t.pending == [.rtcOscStop 0]
    | _ => false) = true ∧ (match step State.reset with
    | .next t => t == State.reset
    | _ => false) = true := by decide +kernel

end Sys2Proof.Tests
end

section
/-! The access codes of Table 0.3 on the registers that no rule of their own serves (spec/00_scope.md: R5, R9 to R12; spec/21_register_space.md:
R504, R505, R508, R536): a performed write (O3), a write that is not performed (O4), a read that clears (O5). -/
namespace Sys2Proof.Machine

/-! ### The listed registers -/

/-- The fields lie in the word and share no bit. -/
def FieldsFit (fs : List FieldDesc) : Prop := fs.Pairwise FieldDesc.apart ∧ ∀ f ∈ fs, f.lsb + f.width ≤ 32

theorem fieldsFit_of_mem_plainRegs : ∀ a ∈ plainRegs, FieldsFit (keyFields a) := by
  unfold FieldsFit FieldDesc.apart
  decide +kernel

theorem fieldsFit_of_mem_rcRegs : ∀ a ∈ rcRegs, FieldsFit (keyFields a) := by
  unfold FieldsFit FieldDesc.apart
  decide +kernel

theorem plainRegs_ownWord : ∀ a ∈ plainRegs, ownWord a = true := by decide +kernel
theorem plainRegs_noRwl : ∀ a ∈ plainRegs, hasAcc a .rwl = false := by decide +kernel
theorem plainRegs_notAlarm : ∀ a ∈ plainRegs, a ∉ alarmKeys := by decide
theorem rcRegs_ownWord : ∀ a ∈ rcRegs, ownWord a = true := by decide +kernel
theorem rcRegs_noWo : ∀ a ∈ rcRegs, hasAcc a .wo = false := by decide +kernel
theorem rcRegs_notAlarm : ∀ a ∈ rcRegs, a ∉ alarmKeys := by decide

/-! ### A performed write (R10, R11, R536) -/

/-- No unit's own rules name a register of plainRegs: each unit's write ends at the access codes of the word's fields. -/
theorem State.regWrite_plain (s : State) (rq : Rq) (v : Word) {a : Nat} (ha : a ∈ plainRegs) : s.regWrite rq a v = s.writeWord a v := by
  have h : s.regWrite rq a v = s.writeWord (s.busKey rq.num a) v := by
    fin_cases ha <;> rfl
  rw [h, s.busKey_own _ _ (plainRegs_ownWord a ha)]

/-- A write of a word with no RWL field changes that word alone. -/
theorem State.writeWord_onlyWords (s : State) (k : Nat) (v : Word) (h : hasAcc k .rwl = false) : OnlyWords [k] s (s.writeWord k v) := by
  rw [s.writeWord_eq k v h]
  exact ⟨fun j hj _ => State.writeFields_other _ s k j v (by simpa using hj), State.writeFields_shallow _ s k v⟩

/-- A bit of a field after a write of its word. -/
theorem State.writeWord_bit (s : State) (k : Nat) (v : Word) (h : hasAcc k .rwl = false) (hfit : FieldsFit (keyFields k))
    {f : FieldDesc} (hf : f ∈ keyFields k) {b : Nat} (h1 : f.lsb ≤ b) (h2 : b < f.lsb + f.width) :
    ((s.writeWord k v).word k).getLsbD b = bitAfter f.acc ((s.word k).getLsbD b) (v.getLsbD b) (s.justSet k b) := by
  obtain ⟨hapart, hin⟩ := hfit
  rw [s.writeWord_eq k v h]
  exact State.writeFields_bit _ s k v f hf hapart b (Nat.lt_of_lt_of_le h2 (hin f hf)) h1 h2

/-- REG_WRITE of a plain register is the write of its word. -/
theorem exec_regWrite_plain {s : State} {rq : Rq} {a : Nat} (ha : a ∈ plainRegs) (h : Writes s rq a) (dt : Nat) (v : Word) :
    exec (.regWrite dt rq 4 a v) s = .next ((s.elapse dt).writeWord a v).settle := by
  change Host.Outcome.next ((s.elapse dt).busWrite rq 4 a v).settle = _
  rw [State.busWrite_of_writes (h.elapse dt), State.regWrite_plain _ rq v ha]

/-- Settles O3: the write is writeWord on the register's own word, whose fields share no bit. -/
theorem aWriteActsFieldByField : Obligations.AWriteActsFieldByField := by
  intro s dt rq a v ha hw
  have hrwl := plainRegs_noRwl a ha
  refine ⟨_, exec_regWrite_plain ha hw dt v, ((s.elapse dt).writeWord_onlyWords a v hrwl).settle, fun f hf b h1 h2 => ?_⟩
  rw [State.settle_word _ a (plainRegs_notAlarm a ha)]
  exact (s.elapse dt).writeWord_bit a v hrwl (fieldsFit_of_mem_plainRegs a ha) hf h1 h2

/-! ### A write that is not performed (R5, R9, R504, R505, R508) -/

section NotPerformed
variable {s : State} {rq : Rq} {size a : Nat}

theorem State.busWrite_of_notStandby (hm : s.mayAccess rq = true) (hs : s.isStandby rq = false) (v : Word) :
    s.busWrite rq size a v = s.performWrite rq size a v := by
  simp [State.busWrite, hm, hs]

theorem State.performWrite_misaligned (h : size ≠ 4 ∨ a % 4 ≠ 0) (v : Word) :
    s.performWrite rq size a v = s.flag F.SYS_ERR.ALIGN := by
  unfold State.performWrite
  rw [if_pos h]

theorem State.performWrite_unmapped (h4 : size = 4) (ha : a % 4 = 0) (h : 0x140000 ≤ a) (v : Word) :
    s.performWrite rq size a v = s.flag F.SYS_ERR.UNMAPPED := by
  unfold State.performWrite
  rw [if_neg (by omega), if_pos h]

theorem State.performWrite_absent (h4 : size = 4) (ha : a % 4 = 0) (hin : a < 0x140000) (h : s.absentReg a = true) (v : Word) :
    s.performWrite rq size a v = s.flag F.SYS_ERR.ABSENT_WR := by
  unfold State.performWrite
  rw [if_neg (by omega), if_neg (by omega), if_pos h]

theorem State.performWrite_locked (h4 : size = 4) (ha : a % 4 = 0) (hin : a < 0x140000) (hp : s.absentReg a = false)
    (h : s.blockOff (a / 65536) = true ∨ s.fullLocked a = true) (v : Word) :
    s.performWrite rq size a v = s.flag F.SYS_ERR.LOCKED_WR := by
  unfold State.performWrite
  rw [if_neg (by omega), if_neg (by omega), if_neg (by simp [hp]), if_pos h]

/-- The standby complex's write of a register that is not among its exceptions, outside SHADOW and ARMED. -/
theorem State.busWrite_ignored (hm : s.mayAccess rq = true) (hs : s.isStandby rq = true) (h0 : a ≠ R.SAF_HBn_RESP 0)
    (h1 : a ≠ R.SAF_HBn_RESP 1) (hc : a ≠ R.UPD_CMD) (h2 : s.get F.UPD_STAT.HSTATE ≠ 2) (h3 : s.get F.UPD_STAT.HSTATE ≠ 3) (v : Word) :
    s.busWrite rq size a v = s.flag F.SYS_ERR.STBY_WR := by
  have hresp : a ≠ R.SAF_HBn_RESP rq.num ∧ a ≠ R.SAF_HBn_RESP (1 - rq.num) := by
    cases rq with
    | cxA => exact ⟨h0, h1⟩
    | cxB => exact ⟨h1, h0⟩
    | kmp n => cases hs
  simp only [State.busWrite, hm, hs, State.standbyWrite, hresp.1, hresp.2, hc, h2, h3, Bool.not_true, Bool.false_eq_true, if_true,
    false_and, or_self, if_false]

end NotPerformed

/-- A one-bit field that the hardware sets reads 1. -/
theorem State.bit_flag_same (s : State) (f : Fld) (hw : f.width = 1) (hl : f.lsb < 32) : (s.flag f).bit f = true := by
  unfold State.bit
  rw [s.get_flag_same f (by omega) (by omega)]
  rfl

/-- A REG_WRITE that does no more than set a bit of SYS_ERR. -/
theorem exec_regWrite_sysErr {s : State} {dt : Nat} {rq : Rq} {size a : Nat} {v : Word} (lsb : Nat) (hl : lsb < 32)
    (h : (s.elapse dt).busWrite rq size a v = (s.elapse dt).flag ⟨R.SYS_ERR, lsb, 1⟩) :
    ∃ t, exec (.regWrite dt rq size a v) s = .next t ∧ t.bit ⟨R.SYS_ERR, lsb, 1⟩ = true ∧ OnlyWords [R.SYS_ERR] (s.elapse dt) t := by
  refine ⟨((s.elapse dt).flag ⟨R.SYS_ERR, lsb, 1⟩).settle, ?_, ?_, (OnlyWords.flag (.refl _ _) _ (List.mem_singleton_self R.SYS_ERR)).settle⟩
  · change Host.Outcome.next ((s.elapse dt).busWrite rq size a v).settle = _
    rw [h]
  · rw [State.settle_bit _ _ (show R.SYS_ERR ∉ alarmKeys by decide)]
    exact State.bit_flag_same _ _ rfl hl

/-- Settles O4: in each case the bus does no more than set the bit of SYS_ERR. -/
theorem aWriteThatIsNotPerformedSetsItsErrorBit : Obligations.AWriteThatIsNotPerformedSetsItsErrorBit := by
  intro s dt rq size a v hm
  have hm' : (s.elapse dt).mayAccess rq = true := hm
  have hperf (hs : s.isStandby rq = false) : (s.elapse dt).busWrite rq size a v = (s.elapse dt).performWrite rq size a v :=
    State.busWrite_of_notStandby hm' hs v
  refine ⟨fun hs h => exec_regWrite_sysErr 1 (by decide) ?_, fun hs h4 ha h => exec_regWrite_sysErr 3 (by decide) ?_,
    fun hs h4 ha hin h => exec_regWrite_sysErr 0 (by decide) ?_, fun hs h4 ha hin hp h => exec_regWrite_sysErr 2 (by decide) ?_,
    fun hs h0 h1 hc h2 h3 => exec_regWrite_sysErr 4 (by decide) ?_⟩
  · exact (hperf hs).trans (State.performWrite_misaligned h v)
  · exact (hperf hs).trans (State.performWrite_unmapped h4 ha h v)
  · exact (hperf hs).trans (State.performWrite_absent (s := s.elapse dt) h4 ha hin h v)
  · exact (hperf hs).trans (State.performWrite_locked (s := s.elapse dt) h4 ha hin hp h v)
  · exact State.busWrite_ignored hm' hs h0 h1 hc h2 h3 v

/-! ### A read that clears (R12) -/

/-- One field of a word returned to its reset value. -/
def State.resetField (k : Nat) (s : State) (f : FieldDesc) : State := s.set ⟨k, f.lsb, f.width⟩ f.reset

theorem State.readClear_eq (s : State) (k : Nat) :
    s.readClear k = ((keyFields k).filter (fun f => f.acc == .rc)).foldl (State.resetField k) s := rfl

theorem OnlyWords.resetFields (fs : List FieldDesc) (k : Nat) {s t : State} (h : OnlyWords [k] s t) :
    OnlyWords [k] s (fs.foldl (State.resetField k) t) := by
  induction fs generalizing t with
  | nil => exact h
  | cons f fs ih => exact ih (h.set _ _ (List.mem_singleton_self k))

/-- Resetting fields leaves a field that shares no bit with them. -/
theorem State.get_resetFields_apart (fs : List FieldDesc) (k : Nat) (f : FieldDesc) (h : ∀ g ∈ fs, FieldDesc.apart f g) (s : State) :
    (fs.foldl (State.resetField k) s).get ⟨k, f.lsb, f.width⟩ = s.get ⟨k, f.lsb, f.width⟩ := by
  induction fs generalizing s with
  | nil => rfl
  | cons g fs ih =>
    rw [List.foldl_cons, ih (fun x hx => h x (List.mem_cons_of_mem g hx))]
    exact s.get_set_other _ _ _ (Or.inr (h g (List.mem_cons_self ..)))

/-- Of fields that share no bit each reads its reset value once all are reset. -/
theorem State.get_resetFields_mem (fs : List FieldDesc) (k : Nat) (hfit : FieldsFit fs) {f : FieldDesc} (hf : f ∈ fs) (s : State) :
    (fs.foldl (State.resetField k) s).get ⟨k, f.lsb, f.width⟩ = f.reset % 2 ^ f.width := by
  obtain ⟨hapart, hin⟩ := hfit
  induction fs generalizing s with
  | nil => cases hf
  | cons g fs ih =>
    obtain ⟨hg, hfs⟩ := List.pairwise_cons.mp hapart
    rw [List.foldl_cons]
    rcases List.mem_cons.mp hf with rfl | hf
    · rw [State.get_resetFields_apart fs k f hg]
      exact s.get_set_same _ _ (hin f (List.mem_cons_self ..))
    · exact ih hf _ hfs (fun x hx => hin x (List.mem_cons_of_mem g hx))

theorem State.resetFields_emitted (fs : List FieldDesc) (k : Nat) (s : State) :
    (fs.foldl (State.resetField k) s).emitted = s.emitted := by
  induction fs generalizing s with
  | nil => rfl
  | cons f fs ih => exact (ih _).trans (s.set_emitted _ _)

theorem State.readClear_emitted (s : State) (k : Nat) : (s.readClear k).emitted = s.emitted :=
  State.resetFields_emitted _ k s

theorem State.readClear_onlyWords (s : State) (k : Nat) : OnlyWords [k] s (s.readClear k) :=
  OnlyWords.resetFields _ k (.refl [k] s)

/-- An RC field of a word that was read reads its reset value. -/
theorem State.get_readClear (s : State) (k : Nat) (hfit : FieldsFit (keyFields k)) {f : FieldDesc} (hf : f ∈ keyFields k)
    (hrc : f.acc = .rc) : (s.readClear k).get ⟨k, f.lsb, f.width⟩ = f.reset % 2 ^ f.width := by
  obtain ⟨hapart, hin⟩ := hfit
  rw [s.readClear_eq k]
  exact State.get_resetFields_mem _ k ⟨hapart.filter _, fun g hg => hin g (List.mem_of_mem_filter hg)⟩
    (List.mem_filter.mpr ⟨hf, by simp [hrc]⟩) s

/-- A word with no WO field is read as it is. -/
theorem hideWo_eq_self (k : Nat) (v : Word) (h : hasAcc k .wo = false) : hideWo k v = v := by
  have hfs : ∀ f ∈ keyFields k, (f.acc == .wo) = false := by simpa [hasAcc] using h
  have hfold : ∀ fs : List FieldDesc, (∀ f ∈ fs, (f.acc == .wo) = false) →
      fs.foldl (fun v f => if f.acc == .wo then insertField v f.lsb f.width 0 else v) v = v := by
    intro fs hfs
    induction fs with
    | nil => rfl
    | cons f fs ih =>
      rw [List.foldl_cons, hfs f (List.mem_cons_self ..), if_neg Bool.false_ne_true]
      exact ih (fun g hg => hfs g (List.mem_cons_of_mem f hg))
  exact hfold _ hfs

/-- No unit's own rules name a register of rcRegs: each unit's read ends at the clearing of the word's RC fields. -/
theorem State.regRead_rc (s : State) (rq : Rq) {a : Nat} (ha : a ∈ rcRegs) :
    s.regRead rq a = (s.readClear a, s.readWord rq.num a) := by
  have h : s.regRead rq a = s.plainRead rq.num a := by
    fin_cases ha <;> rfl
  rw [h]
  simp only [State.plainRead]
  rw [s.busKey_own _ _ (rcRegs_ownWord a ha), hideWo_eq_self a _ (rcRegs_noWo a ha)]

/-- READ_CLEAR is the register's own rule, its answer driven outwards. -/
theorem exec_readClear_of_reads {s : State} {rq : Rq} {a : Nat} (h : Reads s rq a) (dt : Nat) :
    exec (.readClear dt rq a) s =
      .next (((s.elapse dt).regRead rq a).1.emit (.readData rq.num a ((s.elapse dt).regRead rq a).2)).settle := by
  change Host.Outcome.next ((s.elapse dt).readOut rq 4 a).settle = _
  rw [State.readOut_of_reads (h.elapse dt)]

/-- The input voltage is sampled at the read, and the minimum starts afresh. -/
theorem State.regRead_vinMin (s : State) (rq : Rq) :
    s.regRead rq R.PWR_VIN_MIN =
      (s.nextFree.set F.PWR_VIN_MIN.VIN 0xFFFF, BitVec.ofNat 32 (min (s.free % 65536) (s.get F.PWR_VIN_MIN.VIN))) := rfl

/-- A performed READ_CLEAR of a register of rcRegs. -/
theorem exec_readClear_rc {s : State} {rq : Rq} {a : Nat} (ha : a ∈ rcRegs) (h : Reads s rq a) (dt : Nat) :
    ∃ t, exec (.readClear dt rq a) s = .next t ∧ Answers t rq a (s.readWord rq.num a) ∧
      (∀ f ∈ keyFields a, f.acc = .rc → t.get ⟨a, f.lsb, f.width⟩ = f.reset % 2 ^ f.width) ∧ OnlyWords [a] (s.elapse dt) t := by
  have hemit : ((s.elapse dt).readClear a).emitted = [] := (s.elapse dt).readClear_emitted a
  refine ⟨_, exec_readClear_of_reads h dt, ?_, fun f hf hrc => ?_, ?_⟩ <;> rw [State.regRead_rc _ rq ha]
  · exact answers_settle _ rq a _ hemit
  · rw [State.settle_get _ _ (rcRegs_notAlarm a ha)]
    exact (s.elapse dt).get_readClear a (fieldsFit_of_mem_rcRegs a ha) hf hrc
  · exact (((s.elapse dt).readClear_onlyWords a).emit _).settle

/-- A performed READ_CLEAR of PWR_VIN_MIN. -/
theorem exec_readClear_vinMin {s : State} {rq : Rq} (h : Reads s rq R.PWR_VIN_MIN) (dt : Nat) :
    ∃ t w, exec (.readClear dt rq R.PWR_VIN_MIN) s = .next t ∧ Answers t rq R.PWR_VIN_MIN w ∧ w.toNat ≤ s.get F.PWR_VIN_MIN.VIN ∧
      t.get F.PWR_VIN_MIN.VIN = 0xFFFF ∧ SameWords [R.PWR_VIN_MIN] s t := by
  have hkey : R.PWR_VIN_MIN ∉ alarmKeys := by decide
  refine ⟨_, _, exec_readClear_of_reads h dt, answers_settle _ rq _ _ rfl, ?_, ?_, fun k hk hal => ?_⟩ <;> rw [State.regRead_vinMin]
  · rw [BitVec.toNat_ofNat]
    exact (Nat.mod_le _ _).trans (Nat.min_le_right _ _)
  · rw [State.settle_get _ _ hkey, State.emit_get, State.get_set_same _ _ _ (by decide)]
    rfl
  · rw [State.settle_word _ k hal, State.emit_word, State.word_set_other _ _ _ k (List.ne_of_not_mem_cons hk), State.nextFree_word,
      State.elapse_word]

/-- Settles O5: a register of rcRegs reads as its word with the RC fields cleared after; PWR_VIN_MIN has its own rule. -/
theorem aReadClearAnswersAndClears : Obligations.AReadClearAnswersAndClears :=
  ⟨fun _ dt _ _ ha h => exec_readClear_rc ha h dt, fun _ dt _ h => exec_readClear_vinMin h dt⟩

end Sys2Proof.Machine
end

section
/-! NSV's schedule: the wake (R29, R232), the solve start with its snapshot, CLR_BAD and the warning (R232, R236, R249),
and the rows of its tables. -/
namespace Sys2Proof.Machine

/-! ### Counters and bits -/

/-- A counter that was incremented. -/
theorem State.get_inc_same (s : State) (f : Fld) (h : f.lsb + f.width ≤ 32) : (s.inc f).get f = min (s.get f + 1) (2 ^ f.width - 1) := by
  have hpos := Nat.two_pow_pos f.width
  unfold State.inc
  rw [s.get_set_same f _ h, Nat.mod_eq_of_lt (by omega)]

/-- Each layer has a status word of its own. -/
theorem layerStat_ne {l m : Nat} (h : l ≠ m) : R.NSV_NETn_STAT l ≠ R.NSV_NETn_STAT m := by
  unfold R.NSV_NETn_STAT
  omega

/-- A field of each layer's status, written for all three. -/
theorem State.get_setLayers {f : Nat → Fld} (hkey : ∀ l m, l ≠ m → (f l).key ≠ (f m).key) (hfit : ∀ l, (f l).lsb + (f l).width ≤ 32)
    (v : Nat → Nat) (s : State) {l : Nat} (hl : l < 3) :
    ([0, 1, 2].foldl (fun s l => s.set (f l) (v l)) s).get (f l) = v l % 2 ^ (f l).width := by
  have hother (s : State) {l m : Nat} (h : l ≠ m) (x : Nat) : (s.set (f m) x).get (f l) = s.get (f l) :=
    s.get_set_other _ _ x (.inl (hkey l m h))
  simp only [List.foldl_cons, List.foldl_nil]
  interval_cases l
  · rw [hother _ (by decide), hother _ (by decide), State.get_set_same _ _ _ (hfit 0)]
  · rw [hother _ (by decide), State.get_set_same _ _ _ (hfit 1)]
  · rw [State.get_set_same _ _ _ (hfit 2)]

/-! ### The rows of NSV's tables -/

section Lists
variable {α β : Type}

theorem filterMap_put (f : Nat × α → Option β) (k : Nat) (h : ∀ x, f (k, x) = none) (v : α) (m : List (Nat × α)) :
    (put k v m).filterMap f = m.filterMap f := by
  induction m with
  | nil => simp [put, h]
  | cons e m ih =>
    obtain ⟨k', v'⟩ := e
    unfold put
    split
    · simp [h]
    · split
      · next hk => subst hk; simp [h]
      · simp only [List.filterMap_cons, ih]

theorem filterMap_cut (f : Nat × α → Option β) (k : Nat) (h : ∀ x, f (k, x) = none) (m : List (Nat × α)) :
    (cut k m).filterMap f = m.filterMap f := by
  unfold cut
  rw [List.filterMap_filter]
  refine List.filterMap_congr (fun e _ => ?_)
  split
  · rfl
  · next hk =>
    obtain ⟨k', x⟩ := e
    have : k' = k := by simpa using hk
    rw [this, h]

/-- Storing at a key whose entries are dropped. -/
theorem filterMap_store [DecidableEq α] (d : Nat → α) (f : Nat × α → Option β) (k : Nat) (h : ∀ x, f (k, x) = none) (v : α)
    (m : List (Nat × α)) : (store d k v m).filterMap f = m.filterMap f := by
  unfold store
  split
  · exact filterMap_cut f k h m
  · exact filterMap_put f k h v m

end Lists

/-- A row's index is below the table's count. -/
theorem State.usedRows_lt {s : State} {base stride cnt width i : Nat} (h : i ∈ s.usedRows base stride cnt width) : i < cnt := by
  unfold State.usedRows at h
  obtain ⟨e, -, he⟩ := List.mem_filterMap.mp h
  simp only [Option.ite_none_right_eq_some, Bool.and_eq_true, decide_eq_true_eq] at he
  obtain ⟨⟨⟨⟨hlo, hhi⟩, _⟩, _⟩, hi⟩ := he
  rw [← Option.some.inj hi]
  exact Nat.div_lt_of_lt_mul (by omega)

/-- NSV's table memories hold the same rows and the same words. -/
structure SameTables (s t : State) : Prop where
  rows : ∀ base stride cnt width, t.usedRows base stride cnt width = s.usedRows base stride cnt width
  words : ∀ k, tabKey 8 0 ≤ k → t.word k = s.word k

theorem SameTables.refl (s : State) : SameTables s s := ⟨fun _ _ _ _ => rfl, fun _ _ => rfl⟩

theorem SameTables.nsv {s t : State} (h : SameTables s t) (x : NsvSt) : SameTables s { t with nsv := x } := ⟨h.rows, h.words⟩

theorem SameTables.trans {s t u : State} (h1 : SameTables s t) (h2 : SameTables t u) : SameTables s u :=
  ⟨fun b st c w => (h2.rows b st c w).trans (h1.rows b st c w), fun k hk => (h2.words k hk).trans (h1.words k hk)⟩

/-- A register's field is in no table. -/
theorem SameTables.set {s t : State} (h : SameTables s t) (f : Fld) (v : Nat) (hf : f.key < tabKey 8 0) : SameTables s (t.set f v) := by
  refine ⟨fun base stride cnt width => .trans ?_ (h.rows base stride cnt width), fun k hk => ?_⟩
  · refine filterMap_store resetWord _ f.key (fun x => ?_) _ t.words
    have : ¬ tabKey 8 base ≤ f.key := by unfold tabKey at *; omega
    simp [this]
  · rw [t.word_set_other f v k (by omega), h.words k hk]

theorem SameTables.flag {s t : State} (h : SameTables s t) (f : Fld) (hf : f.key < tabKey 8 0) : SameTables s (t.flag f) :=
  ⟨(h.set f 1 hf).rows, (h.set f 1 hf).words⟩

theorem SameTables.get {s t : State} (h : SameTables s t) (f : Fld) (hf : tabKey 8 0 ≤ f.key) : t.get f = s.get f := by
  unfold State.get
  rw [h.words f.key hf]

theorem SameTables.sensStns {s t : State} (h : SameTables s t) : t.sensStns = s.sensStns := by
  have hsrc (j : Nat) : t.get (T.NSV_SENS.SRC j) = s.get (T.NSV_SENS.SRC j) := h.get _ (Nat.le_add_right_of_le (by decide))
  have haddr (j : Nat) : t.get (T.NSV_SENS.ADDR j) = s.get (T.NSV_SENS.ADDR j) := h.get _ (Nat.le_add_right_of_le (by decide))
  simp only [State.sensStns, State.nsvSensors, h.rows, hsrc, haddr]

theorem SameTables.layerActive {s t : State} (h : SameTables s t) (l : Nat) : t.layerActive l = s.layerActive l := by
  simp only [State.layerActive, State.nsvBuses, State.nsvNodes, h.rows]

/-! ### The wake (R29, R232) -/

/-- The idle sequencer takes a domain that is off at once. -/
theorem State.wakeDomain_idle {s : State} {d : Nat} (hon : s.domOn d = false) (hfail : s.bit (domFailFld d) = false)
    (hpres : s.domPresent d = true) (hw : s.pwr.waking = none) (hq : s.pwr.queue = []) (hgap : s.pwr.gap = false) (hphase : s.pwr.phase ≠ 2)
    (hpfw : s.bit F.PWR_STAT.PFW = false) :
    s.wakeDomain d = { s with pwr := { s.pwr with waking := some (d, s.clock.up), queue := [] } } := by
  have hpfw' (x : PwrSt) : ({ s with pwr := x } : State).bit F.PWR_STAT.PFW = false := hpfw
  rcases eq_or_ne d 13 with rfl | hd
  · simp [State.wakeDomain, State.nextDomain, hon, hfail, hpres, hw, hq, hgap, hphase, hpfw']
  · simp [State.wakeDomain, State.nextDomain, hon, hfail, hpres, hw, hq, hgap, hphase, hpfw', hd]

theorem domPresent_nsv (s : State) : s.domPresent 13 = true := by simp [State.domPresent]

theorem nsvWake_idle {s : State} (hrun : s.bit F.NSV_STAT.RUN = true) (hshed : s.bit F.NSV_STAT.SHED = false) :
    nsvWake s = s.wakeDomain 13 := by
  simp [nsvWake, hrun, hshed]

theorem nsvWake_shed {s : State} (hshed : s.bit F.NSV_STAT.SHED = true) : nsvWake s = s := by
  simp [nsvWake, hshed]

/-! ### The solve start (R232, R236, R249) -/

/-- CLR_BAD, where it was noted, takes effect (R236). -/
def State.takeClrBad (s : State) : State :=
  if s.nsv.clrBad then
    [0, 1, 2].foldl (fun s l => s.set (F.NSV_NETn_STAT.BAD l) 0) { s with nsv := { s.nsv with bad := [], badRun := [], clrBad := false } }
  else s

/-- The instants of the snapshot are noted and SOLVING shows. -/
def State.showSolving (s : State) : State :=
  ({ s with nsv := { s.nsv with startUp := s.clock.up, snapSec := s.sec32, snapNs := s.nsNow } }).set F.NSV_STAT.SOLVING 1

theorem nsvSolveStart_shed {s : State} (hrun : s.bit F.NSV_STAT.RUN = true) (hshed : s.bit F.NSV_STAT.SHED = true) :
    nsvSolveStart s = s.inc F.NSV_SHED.COUNT := by
  simp [nsvSolveStart, hrun, hshed]

theorem nsvSolveStart_eq {s : State} (hrun : s.bit F.NSV_STAT.RUN = true) (hshed : s.bit F.NSV_STAT.SHED = false) (hon : s.domOn 13 = true)
    (hidle : s.bit F.NSV_STAT.SOLVING = false) : nsvSolveStart s = s.takeClrBad.showSolving.nsvGather := by
  simp only [nsvSolveStart, hrun, hshed, hon, hidle, Bool.not_true, Bool.false_eq_true, Bool.or_false, if_false]
  rfl

/-- Taking measurements changes nothing but the values taken. -/
theorem State.foldl_takeMeas (z : State → Nat → Option Word) (js : List Nat) (s : State) : ∃ m l,
    js.foldl (fun s j => s.takeMeas j (z s j)) s = { s with nsv := { s.nsv with meas := m, lastZ := l } } := by
  induction js generalizing s with
  | nil => exact ⟨s.nsv.meas, s.nsv.lastZ, rfl⟩
  | cons j js ih =>
    obtain ⟨m, l, h⟩ := ih (s.takeMeas j (z s j))
    refine ⟨m, l, h.trans ?_⟩
    unfold State.takeMeas
    split <;> rfl

/-- NSV_GATHER latches the stations' newest buffers, and changes nothing else but the values taken (R232). -/
theorem State.nsvGather_eq (s : State) : ∃ m l, s.nsvGather = { s with nsv := { s.nsv with
    latched := s.sensStns.map (fun n => (n, s.newest n, s.bufWseq n (s.newest n))), meas := m, lastZ := l } } := by
  obtain ⟨m, l, h⟩ := State.foldl_takeMeas (fun s j => s.sensZ j (s.latchedBuf j)) s.nsvSensors
    { s with nsv := { s.nsv with latched := s.sensStns.map (fun n => (n, s.newest n, s.bufWseq n (s.newest n))), meas := [] } }
  exact ⟨m, l, h⟩

theorem State.takeClrBad_sameTables (s : State) : SameTables s s.takeClrBad := by
  unfold State.takeClrBad
  split
  · exact ((((SameTables.refl s).nsv _).set _ _ (by decide)).set _ _ (by decide)).set (F.NSV_NETn_STAT.BAD 2) _ (by decide)
  · exact .refl s

/-- Before the gathering the stations' pages, the images and the clock stand as they did. -/
theorem State.showSolving_latches (s : State) :
    s.takeClrBad.showSolving.sensStns.map (fun n => (n, s.takeClrBad.showSolving.newest n,
      s.takeClrBad.showSolving.bufWseq n (s.takeClrBad.showSolving.newest n))) =
      s.sensStns.map (fun n => (n, s.newest n, s.bufWseq n (s.newest n))) := by
  have ht : SameTables s s.takeClrBad.showSolving :=
    (s.takeClrBad_sameTables.nsv _).set F.NSV_STAT.SOLVING 1 (by decide)
  rw [ht.sensStns]
  unfold State.takeClrBad
  split <;> rfl

/-- What a solve start leaves in NSV's own state, beside the latched buffers and the values taken. -/
theorem State.showSolving_nsv (s : State) : s.takeClrBad.showSolving.nsv =
    { s.takeClrBad.nsv with startUp := s.clock.up, snapSec := s.sec32, snapNs := s.nsNow } := by
  unfold State.takeClrBad
  split <;> rfl

theorem State.takeClrBad_nsv (s : State) : s.takeClrBad.nsv.img = s.nsv.img ∧ s.takeClrBad.nsv.cur = s.nsv.cur := by
  unfold State.takeClrBad
  split <;> exact ⟨rfl, rfl⟩

theorem State.takeClrBad_noted {s : State} (h : s.nsv.clrBad = true) :
    s.takeClrBad.nsv.bad = [] ∧ s.takeClrBad.nsv.clrBad = false ∧ ∀ l, l < 3 → s.takeClrBad.get (F.NSV_NETn_STAT.BAD l) = 0 := by
  unfold State.takeClrBad
  rw [if_pos h]
  exact ⟨rfl, rfl, fun l hl => State.get_setLayers (fun _ _ h => layerStat_ne h) (fun _ => show 16 + 8 ≤ 32 by decide) (fun _ => 0) _ hl⟩

end Sys2Proof.Machine
end

section
/-! What each part of a solve leaves alone (R232 to R242): one lemma per part of the completion. -/
namespace Sys2Proof.Machine

/-! ### What the steps of a solve leave alone (R233 to R242) -/

/-- Two fields share no bit. -/
abbrev Apart (g f : Fld) : Prop := g.key ≠ f.key ∨ g.lsb + g.width ≤ f.lsb ∨ f.lsb + f.width ≤ g.lsb

/-- A step of a solve: the listed fields and what logging changes apart, every field is as before; so are the clock, the schedule, the regions
held and the image that consumers read. -/
structure SolveOnly (fs : List Fld) (s t : State) : Prop where
  fields : ∀ g : Fld, ¬ raiseHits g.key → (∀ f ∈ fs, Apart g f) → t.get g = s.get g
  clock : t.clock = s.clock
  cur : t.nsv.cur = s.nsv.cur
  startUp : t.nsv.startUp = s.nsv.startUp
  granted : t.nsv.granted = s.nsv.granted
  image : s.nsv.cur ≤ 1 → ∀ off, off < 0x100000 → t.imgWord off = s.imgWord off

namespace SolveOnly
variable {fs : List Fld} {s t u : State}

theorem refl (fs : List Fld) (s : State) : SolveOnly fs s s := ⟨fun _ _ _ => rfl, rfl, rfl, rfl, rfl, fun _ _ _ => rfl⟩

theorem trans (h1 : SolveOnly fs s t) (h2 : SolveOnly fs t u) : SolveOnly fs s u where
  fields g hg ha := (h2.fields g hg ha).trans (h1.fields g hg ha)
  clock := h2.clock.trans h1.clock
  cur := h2.cur.trans h1.cur
  startUp := h2.startUp.trans h1.startUp
  granted := h2.granted.trans h1.granted
  image hc off ho := (h2.image (h1.cur ▸ hc) off ho).trans (h1.image hc off ho)

theorem mono {gs : List Fld} (h : SolveOnly fs s t) (hs : fs ⊆ gs) : SolveOnly gs s t :=
  ⟨fun g hg ha => h.fields g hg (fun f hf => ha f (hs hf)), h.clock, h.cur, h.startUp, h.granted, h.image⟩

/-- A flag of a field apart from the listed ones. -/
theorem bit (h : SolveOnly fs s t) (g : Fld) (hg : ¬ raiseHits g.key) (ha : ∀ f ∈ fs, Apart g f) : t.bit g = s.bit g := by
  unfold State.bit
  rw [h.fields g hg ha]

theorem set (h : SolveOnly fs s t) (f : Fld) (v : Nat) (hf : f ∈ fs) : SolveOnly fs s (t.set f v) :=
  ⟨fun g hg ha => (t.get_set_other f g v (ha f hf)).trans (h.fields g hg ha), h.clock, h.cur, h.startUp, h.granted, h.image⟩

theorem flag (h : SolveOnly fs s t) (f : Fld) (hf : f ∈ fs) : SolveOnly fs s (t.flag f) :=
  ⟨fun g hg ha => (t.get_flag_other f g (ha f hf)).trans (h.fields g hg ha), h.clock, h.cur, h.startUp, h.granted, h.image⟩

/-- NSV's own state but for its schedule, with the words of the image that consumers read. -/
theorem nsv (h : SolveOnly fs s t) {x : NsvSt}
    (hi : t.nsv.cur ≤ 1 → ∀ off, off < 0x100000 → look (fun _ => 0) x.img (x.cur * 0x100000 + off) = t.imgWord off)
    (hc : x.cur = t.nsv.cur := by rfl) (hs : x.startUp = t.nsv.startUp := by rfl) (hg : x.granted = t.nsv.granted := by rfl) :
    SolveOnly fs s { t with nsv := x } :=
  ⟨h.fields, h.clock, hc.trans h.cur, hs.trans h.startUp, hg.trans h.granted,
    fun hs1 off ho => (hi (h.cur ▸ hs1) off ho).trans (h.image hs1 off ho)⟩

/-- NSV's measurements, flags and thermal state. -/
theorem workspace (h : SolveOnly fs s t) {x : NsvSt} (hi : x.img = t.nsv.img := by rfl) (hc : x.cur = t.nsv.cur := by rfl)
    (hs : x.startUp = t.nsv.startUp := by rfl) (hg : x.granted = t.nsv.granted := by rfl) : SolveOnly fs s { t with nsv := x } :=
  h.nsv (fun _ _ _ => by rw [hi, hc]; rfl) hc hs hg

theorem pwr (h : SolveOnly fs s t) (x : PwrSt) : SolveOnly fs s { t with pwr := x } := ⟨h.fields, h.clock, h.cur, h.startUp, h.granted, h.image⟩

/-- A logged event. -/
theorem raise (h : SolveOnly fs s t) (hr : RaiseOnly t u) : SolveOnly fs s u where
  fields g hg ha := (show u.get g = t.get g by unfold State.get; rw [hr.words g.key hg]).trans (h.fields g hg ha)
  clock := (show u.clock = t.clock by rw [hr.rest]).trans h.clock
  cur := (show u.nsv.cur = t.nsv.cur by rw [hr.rest]).trans h.cur
  startUp := (show u.nsv.startUp = t.nsv.startUp by rw [hr.rest]).trans h.startUp
  granted := (show u.nsv.granted = t.nsv.granted by rw [hr.rest]).trans h.granted
  image hc off ho := (show u.imgWord off = t.imgWord off by rw [hr.rest]; rfl).trans (h.image hc off ho)

/-- A word of the image being written: the other buffer. -/
theorem setNext (h : SolveOnly fs s t) (off : Nat) (v : Word) (hoff : off < 0x100000) : SolveOnly fs s (t.setNext off v) :=
  h.nsv fun hc off' hoff' => by
    have hne : t.nsv.cur * 0x100000 + off' ≠ (1 - t.nsv.cur) * 0x100000 + off := by omega
    exact (look_store _ _ _ v t.nsv.img).trans (if_neg hne)

theorem ite {c : Prop} [Decidable c] (h1 : SolveOnly fs s t) (h2 : SolveOnly fs s u) : SolveOnly fs s (if c then t else u) := by
  split
  · exact h1
  · exact h2

/-- A step repeated over a list. -/
theorem foldl {α : Type} {f : State → α → State} {l : List α} (h : SolveOnly fs s t) (hf : ∀ u, ∀ a ∈ l, SolveOnly fs u (f u a)) :
    SolveOnly fs s (l.foldl f t) := by
  induction l generalizing t with
  | nil => exact h
  | cons a l ih => exact ih (h.trans (hf t a (List.mem_cons_self ..))) (fun u b hb => hf u b (List.mem_cons_of_mem a hb))

/-- A step repeated over a list, with what it carries along. -/
theorem foldl_fst {α β : Type} {f : State × β → α → State × β} (l : List α) {x : State × β} (h : SolveOnly fs s x.1)
    (hf : ∀ x a, SolveOnly fs x.1 (f x a).1) : SolveOnly fs s (l.foldl f x).1 := by
  induction l generalizing x with
  | nil => exact h
  | cons a l ih => exact ih (h.trans (hf x a))

end SolveOnly

/-! ### Gathering late, and the buffer to write (R232, R241, R244) -/

/-- The fields that a late read and a lost freeze change. -/
def gatherFlds : List Fld := [F.NSV_LATE_RD.COUNT, F.NSV_ERR.FREEZE_LOST]

/-- A late read changes nothing, or counts and takes measurements anew. -/
theorem State.nsvLate_cases (s : State) (stn : Nat) : s.nsvLate stn = s ∨ ∃ m l,
    s.nsvLate stn = { s.inc F.NSV_LATE_RD.COUNT with nsv := { s.nsv with meas := m, lastZ := l } } := by
  unfold State.nsvLate
  split
  · split
    · exact .inl rfl
    · obtain ⟨m, l, h⟩ := State.foldl_takeMeas (fun s j => s.sensZ j (s.newest stn))
        (s.nsvSensors.filter (fun j => s.get (T.NSV_SENS.SRC j) == 1 && s.get (T.NSV_SENS.ADDR j) / 4096 == stn)) (s.inc F.NSV_LATE_RD.COUNT)
      exact .inr ⟨m, l, h⟩
  · exact .inl rfl

theorem State.nsvLate_only (s : State) (stn : Nat) : SolveOnly gatherFlds s (s.nsvLate stn) ∧ SameTables s (s.nsvLate stn) := by
  rcases s.nsvLate_cases stn with h | ⟨m, l, h⟩ <;> rw [h]
  · exact ⟨.refl _ s, .refl s⟩
  · exact ⟨((SolveOnly.refl _ s).set F.NSV_LATE_RD.COUNT _ (by decide)).workspace,
      ((SameTables.refl s).set F.NSV_LATE_RD.COUNT _ (by decide)).nsv _⟩

/-- A key that a filter on keys keeps reads as before. -/
theorem look_filter {α : Type} (d : Nat → α) (p : Nat → Bool) {k : Nat} (h : p k = true) (m : List (Nat × α)) :
    look d (m.filter (fun e => p e.1)) k = look d m k := by
  induction m with
  | nil => rfl
  | cons e m ih =>
    obtain ⟨k', v⟩ := e
    rw [List.filter_cons]
    split
    · simp only [look, ih]
    · next hp =>
      have hne : k' ≠ k := fun e => hp (e ▸ h)
      rw [ih, look, if_neg hne]

theorem State.openBuffer_only (s : State) : SolveOnly gatherFlds s s.openBuffer ∧ SameTables s s.openBuffer := by
  have hi (hc : s.nsv.cur ≤ 1) (off : Nat) (ho : off < 0x100000) :
      look (fun _ => 0) (s.nsv.img.filter (fun e => e.1 / 0x100000 != 1 - s.nsv.cur)) (s.nsv.cur * 0x100000 + off) = s.imgWord off := by
    refine look_filter _ (fun k => k / 0x100000 != 1 - s.nsv.cur) ?_ _
    simp only [bne_iff_ne]
    omega
  unfold State.openBuffer
  dsimp only
  split
  · exact ⟨(SolveOnly.nsv (.refl gatherFlds s) hi).flag _ (by decide), ((SameTables.refl s).nsv _).flag _ (by decide)⟩
  · exact ⟨(SolveOnly.refl _ s).nsv hi, (SameTables.refl s).nsv _⟩

/-- The late buffers read, and the other image opened. -/
theorem State.openLate_only (late : List Nat) (s : State) :
    SolveOnly gatherFlds s (late.foldl State.nsvLate s).openBuffer ∧ SameTables s (late.foldl State.nsvLate s).openBuffer := by
  induction late generalizing s with
  | nil => exact s.openBuffer_only
  | cons stn late ih =>
    obtain ⟨h1, h2⟩ := s.nsvLate_only stn
    obtain ⟨h3, h4⟩ := ih (s.nsvLate stn)
    exact ⟨h1.trans h3, h2.trans h4⟩

/-! ### Elements of the model and their words of an image (Table 9.5) -/

theorem State.nsvSensors_lt {s : State} {j : Nat} (h : j ∈ s.nsvSensors) : j < 16384 := State.usedRows_lt h
theorem State.nsvBuses_lt {s : State} {u : Nat} (h : u ∈ s.nsvBuses) : u < 256 := State.usedRows_lt h
theorem State.nsvEBranches_lt {s : State} {e : Nat} (h : e ∈ s.nsvEBranches) : e < 384 := State.usedRows_lt h

theorem State.imgNode_lt {s : State} {l n : Nat} (h : n ∈ s.nsvNodes l) : imgNode n < 0x39000 := by
  have : n < 8192 := State.usedRows_lt (List.mem_of_mem_filter h)
  unfold imgNode
  split <;> omega

theorem State.imgBranch_lt {s : State} {l b : Nat} (h : b ∈ s.nsvBranches l) : imgBranch b < 0x39000 := by
  have : b < 12288 := State.usedRows_lt (List.mem_of_mem_filter h)
  unfold imgBranch
  split <;> omega

/-! ### Convergence (R235) -/

/-- The fields that tell a layer's convergence. -/
def convFlds (l : Nat) : List Fld :=
  [F.NSV_NETn_STAT.CONV l, F.NSV_NETn_STAT.ITER l, F.NSV_NETn_STAT.NCONV_RUN l, F.NSV_NCONV.COUNT, F.NSV_ERR.NCONV]

section Steps
variable {fs : List Fld} {s t : State}

theorem SolveOnly.layerResult (h : SolveOnly fs s t) (l : Nat) (r : NsvLayer) (conv : Bool) : SolveOnly fs s (t.layerResult l r conv) := by
  unfold State.layerResult
  split
  · refine (h.foldl fun u b hb => ?_).foldl fun u e he => ?_
    · have := State.nsvBuses_lt hb
      exact ((SolveOnly.refl fs u).setNext _ _ (by omega)).setNext _ _ (by omega)
    · have := State.nsvEBranches_lt he
      exact ((SolveOnly.refl fs u).setNext _ _ (by omega)).setNext _ _ (by omega)
  · refine (h.foldl fun u n hn => ?_).foldl fun u b hb => ?_
    · have := State.imgNode_lt hn
      exact (SolveOnly.refl fs u).setNext _ _ (by omega)
    · have := State.imgBranch_lt hb
      exact (SolveOnly.refl fs u).setNext _ _ (by omega)

theorem SolveOnly.layerConv (h : SolveOnly fs s t) (l : Nat) (r : NsvLayer) (hfs : convFlds l ⊆ fs) : SolveOnly fs s (t.layerConv l r).1 := by
  simp only [convFlds, List.cons_subset] at hfs
  obtain ⟨hconv, hiter, hrun, hcnt, herr, -⟩ := hfs
  unfold State.layerConv
  split
  · exact (h.set _ _ hconv).layerResult l r false
  · dsimp only
    split
    · exact (((h.set _ _ hiter).set _ _ hconv).set _ _ hrun).layerResult l r true
    · exact (((((h.set _ _ hiter).set _ _ hconv).set _ _ hrun).set _ _ hcnt).flag _ herr).layerResult l r false

/-- No logged event shows in a layer's status. -/
theorem layerStat_kept {l : Nat} (hl : l < 3) : ¬ raiseHits (R.NSV_NETn_STAT l) := by
  interval_cases l <;> decide

/-- A layer that converges shows it. -/
theorem State.layerConv_converged {l : Nat} (hl : l < 3) {r : NsvLayer} (hactive : s.layerActive l = true)
    (hheld : s.nsv.granted.contains (2 * l) = true) (hconv : r.conv = true) (hiters : r.iters ≤ s.get F.NSV_ITER.MAX_IT) :
    (s.layerConv l r).1.bit (F.NSV_NETn_STAT.CONV l) = true ∧ (s.layerConv l r).1.get (F.NSV_NETn_STAT.NCONV_RUN l) = 0 := by
  have hres := (SolveOnly.refl [] (((s.set (F.NSV_NETn_STAT.ITER l) r.iters).setBit (F.NSV_NETn_STAT.CONV l) true).set
    (F.NSV_NETn_STAT.NCONV_RUN l) 0)).layerResult l r true
  have he : (s.layerConv l r).1 = (((s.set (F.NSV_NETn_STAT.ITER l) r.iters).setBit (F.NSV_NETn_STAT.CONV l) true).set
      (F.NSV_NETn_STAT.NCONV_RUN l) 0).layerResult l r true := by
    unfold State.layerConv
    rw [if_neg (by simp only [hactive, hheld]; simp)]
    simp only [hconv, hiters, Bool.true_and, decide_true, if_true]
    rfl
  rw [he]
  refine ⟨(hres.bit (F.NSV_NETn_STAT.CONV l) (layerStat_kept hl) (by simp)).trans ?_,
    (hres.fields (F.NSV_NETn_STAT.NCONV_RUN l) (layerStat_kept hl) (by simp)).trans ?_⟩
  · refine (State.bit_setBit_other _ (F.NSV_NETn_STAT.NCONV_RUN l) (F.NSV_NETn_STAT.CONV l) false (.inr (.inl (show 5 + 1 ≤ 7 by decide)))).trans ?_
    exact State.bit_setBit_same _ _ _ (show 5 + 1 ≤ 32 by decide) (show 0 < 1 by decide)
  · exact State.get_set_same _ _ _ (show 7 + 3 ≤ 32 by decide)

/-! ### Transport (R237, R239) -/

theorem SolveOnly.mixNode (h : SolveOnly fs s t) (x : Transit) (n : Nat) : SolveOnly fs s (t.mixNode x n).1 := by
  unfold State.mixNode
  split
  · exact h
  · exact h.workspace

theorem SolveOnly.outletOf (h : SolveOnly fs s t) (x : Transit) (sec : D) (b : Nat) (tin : D) : SolveOnly fs s (t.outletOf x sec b tin).1 := by
  unfold State.outletOf
  dsimp only
  split
  · split
    · exact h.workspace
    · exact h.workspace
  · split
    · exact h
    · split
      · split
        · exact h
        · split <;> exact h
      · exact h

theorem SolveOnly.advanceBranch (h : SolveOnly fs s t) (x : Transit) (sec : D) (b : Nat) (broken : Bool) :
    SolveOnly fs s (t.advanceBranch x sec b broken).1 := by
  have hmix : SolveOnly fs s (if broken then (t, x) else t.mixNode x (t.inNode x b)).1 := by
    split
    · exact h
    · exact h.mixNode x _
  exact (hmix.outletOf _ sec b _).workspace

theorem SolveOnly.advanceAll (sec : D) (fuel : Nat) (h : SolveOnly fs s t) (x : Transit) : SolveOnly fs s (t.advanceAll x sec fuel).1 := by
  induction fuel generalizing t x with
  | zero => exact h
  | succ fuel ih =>
    unfold State.advanceAll
    split
    · exact h
    · split
      · exact ih (h.advanceBranch ..) _
      · exact ih (h.advanceBranch ..) _

theorem SolveOnly.coldStart (h : SolveOnly fs s t) (l : Nat) (hfs : F.NSV_ERR.TH_REINIT ∈ fs) : SolveOnly fs s (t.coldStart l) := by
  unfold State.coldStart
  refine SolveOnly.flag (.workspace ((h.foldl fun u n _ => ?_).foldl fun u b _ => ?_)) _ hfs
  · exact (SolveOnly.refl fs u).workspace
  · exact .ite (SolveOnly.workspace (.workspace (.refl fs u))) (.workspace (.refl fs u))

theorem SolveOnly.transport (h : SolveOnly fs s t) (l : Nat) (flows : List (Nat × Word)) (reinit : Bool) (hfs : F.NSV_ERR.TH_REINIT ∈ fs) :
    SolveOnly fs s (t.transport l flows reinit).1 := by
  unfold State.transport
  dsimp only
  split
  · split
    · exact (h.coldStart l hfs).workspace
    · refine SolveOnly.workspace (.workspace (.foldl_fst _ (h.advanceAll _ _ _) fun y n => ?_))
      exact (SolveOnly.refl fs y.1).mixNode y.2 n
  · exact (h.coldStart l hfs).workspace

theorem SolveOnly.writeTemps (h : SolveOnly fs s t) (l : Nat) : SolveOnly fs s (t.writeTemps l) := by
  unfold State.writeTemps
  refine (h.foldl fun u n hn => ?_).foldl fun u b hb => ?_
  · have := State.imgNode_lt hn
    exact (SolveOnly.refl fs u).setNext _ _ (by omega)
  · have := State.imgBranch_lt hb
    exact (SolveOnly.refl fs u).setNext _ _ (by omega)

theorem SolveOnly.layerTransport (h : SolveOnly fs s t) (l : Nat) (reinit : Bool) (hfs : [F.NSV_ERR.TH_REINIT, F.NSV_NETn_STAT.THERM l] ⊆ fs) :
    SolveOnly fs s (t.layerTransport l reinit).1 := by
  unfold State.layerTransport
  split
  · exact ((h.transport l _ reinit (hfs (by simp))).set (F.NSV_NETn_STAT.THERM l) _ (hfs (by simp))).writeTemps l
  · exact h

/-! ### Bad data (R236) -/

theorem SolveOnly.badTest (h : SolveOnly fs s t) (l : Nat) (pred : Nat → Word) (hfs : [F.NSV_ERR.BAD, F.NSV_NETn_STAT.BAD l] ⊆ fs) :
    SolveOnly fs s (t.badTest l pred) := by
  unfold State.badTest
  split
  · exact h
  · refine SolveOnly.set (.foldl (h.foldl fun u e _ => ?_) fun u e _ => ?_) _ _ (hfs (by simp))
    · exact .ite (.refl fs u) (.ite (.workspace (.refl fs u)) (.workspace (.refl fs u)))
    · exact ((SolveOnly.refl fs u).workspace.flag _ (hfs (by simp))).raise (State.log_raise ..)

end Steps

end Sys2Proof.Machine
end

section
/-! The completion of a solve (R233 to R241): the parts in their order, the image's header (Table 9.5), the times shown, the domain gated. -/
namespace Sys2Proof.Machine

/-! ### The end of a solve (R233, R241, Table 9.5) -/

section
variable {fs : List Fld} {s t : State}

/-- The bits that show which of NSV's and DOP's domains run. -/
def awakeFlds : List Fld := [F.NSV_STAT.AWAKE, F.DOP_STAT.AWAKE]

theorem SolveOnly.showAwake (h : SolveOnly fs s t) (hfs : awakeFlds ⊆ fs) : SolveOnly fs s t.showAwake :=
  (h.set F.NSV_STAT.AWAKE _ (hfs (by decide))).set F.DOP_STAT.AWAKE _ (hfs (by decide))

theorem SolveOnly.gateDomain (h : SolveOnly fs s t) (d : Nat) (hfs : domFld d :: awakeFlds ⊆ fs) : SolveOnly fs s (t.gateDomain d) :=
  ((h.pwr _).set (domFld d) 0 (hfs (List.mem_cons_self ..))).showAwake (List.subset_of_cons_subset hfs)

/-- A gated domain does not run. -/
theorem State.gateDomain_off (s : State) {d : Nat} (hd : d < 32) : (s.gateDomain d).domOn d = false := by
  have hkept : ¬ raiseHits (domFld d).key := show ¬ raiseHits R.PWR_DOM_STAT by decide
  have hapart : ∀ f ∈ awakeFlds, Apart (domFld d) f := by
    simp [awakeFlds, Apart, domFld]
  exact (((SolveOnly.refl awakeFlds _).showAwake (List.Subset.refl _)).bit (domFld d) hkept hapart).trans
    (State.bit_setBit_same _ (domFld d) false (show d + 1 ≤ 32 from hd) Nat.one_pos)

/-- SOLVING ends, and the domain is gated. -/
def State.endSolve (s : State) : State := (s.set F.NSV_STAT.SOLVING 0).gateDomain 13

theorem State.endSolve_nsv (s : State) : s.endSolve.nsv = s.nsv := rfl

/-- The fields that the end of a solve changes. -/
def endFlds : List Fld := F.NSV_STAT.SOLVING :: domFld 13 :: awakeFlds

theorem SolveOnly.endSolve (h : SolveOnly fs s t) (hfs : endFlds ⊆ fs) : SolveOnly fs s t.endSolve :=
  (h.set F.NSV_STAT.SOLVING 0 (hfs (List.mem_cons_self ..))).gateDomain 13 (List.subset_of_cons_subset hfs)

theorem State.endSolve_solving (s : State) : s.endSolve.bit F.NSV_STAT.SOLVING = false :=
  (((SolveOnly.refl (domFld 13 :: awakeFlds) _).gateDomain 13 (List.Subset.refl _)).bit F.NSV_STAT.SOLVING (by decide) (by decide)).trans
    (s.bit_setBit_same F.NSV_STAT.SOLVING false (by decide) (by decide))

/-! ### The image's header (Table 9.5) -/

/-- The header's words from the start of the image being written. -/
def State.writeHeader (s : State) (hdr : List Nat) : State := hdr.zipIdx.foldl (fun s e => s.setNext (4 * e.2) (BitVec.ofNat 32 e.1)) s

theorem SolveOnly.writeHeader (h : SolveOnly fs s t) {hdr : List Nat} (hlen : hdr.length ≤ 0x40000) : SolveOnly fs s (t.writeHeader hdr) :=
  h.foldl fun u e he => by
    have := List.snd_lt_of_mem_zipIdx he
    exact (SolveOnly.refl fs u).setNext _ _ (by omega)

theorem State.nextWord_congr (hi : t.nsv.img = s.nsv.img) (hc : t.nsv.cur = s.nsv.cur) (off : Nat) : t.nextWord off = s.nextWord off := by
  unfold State.nextWord
  rw [hi, hc]

theorem State.nextWord_setNext (s : State) (off off' : Nat) (v : Word) :
    (s.setNext off v).nextWord off' = if off' = off then v else s.nextWord off' :=
  (look_store _ _ _ v s.nsv.img).trans (if_congr Nat.add_left_cancel_iff rfl rfl)

/-- Word 0 of the image is the first of its header. -/
theorem State.writeHeader_first (s : State) (x : Nat) (hdr : List Nat) : (s.writeHeader (x :: hdr)).nextWord 0 = BitVec.ofNat 32 x := by
  have hrest (l : List Nat) (n : Nat) (u : State) :
      ((l.zipIdx (n + 1)).foldl (fun s e => s.setNext (4 * e.2) (BitVec.ofNat 32 e.1)) u).nextWord 0 = u.nextWord 0 := by
    induction l generalizing n u with
    | nil => rfl
    | cons y l ih => rw [List.zipIdx_cons, List.foldl_cons, ih, State.nextWord_setNext, if_neg (by omega)]
  unfold State.writeHeader
  rw [List.zipIdx_cons, List.foldl_cons, hrest, State.nextWord_setNext]
  exact if_pos rfl

/-- The clocks of a solve in microseconds. -/
def State.solveUs (s : State) : Nat := (s.clock.up - s.nsv.startUp) / 250

/-- The header of Table 9.5: the next sequence number, the snapshot's time, the solve's time, the flags and iterations, the bad sensors and the
period. -/
def State.imageHeader (s : State) (flags : Nat) : List Nat :=
  [(s.get F.NSV_SEQ.SEQ + 1) % 2 ^ 32, s.nsv.snapSec, s.nsv.snapNs, s.solveUs, flags, s.nsv.bad.length, s.get F.NSV_PERIOD.PERIOD]

/-- The header is written and the image waits for its tick. -/
def State.readyImage (s : State) (valid flags : Nat) : State :=
  let sH := s.writeHeader (s.imageHeader flags)
  { sH with nsv := { sH.nsv with ready := true, readyValid := valid } }

theorem State.readyImage_nsv (s : State) (valid flags : Nat) : (s.readyImage valid flags).nsv =
    { (s.writeHeader (s.imageHeader flags)).nsv with ready := true, readyValid := valid } := by
  unfold State.readyImage
  rfl

theorem State.readyImage_seq (s : State) (valid flags : Nat) :
    (s.readyImage valid flags).nextWord 0 = BitVec.ofNat 32 (s.get F.NSV_SEQ.SEQ + 1) := by
  have hnext : (s.readyImage valid flags).nextWord 0 = (s.writeHeader (s.imageHeader flags)).nextWord 0 := by
    rw [State.nextWord, State.readyImage_nsv, State.nextWord]
  rw [hnext, State.imageHeader, State.writeHeader_first]
  exact BitVec.eq_of_toNat_eq (by rw [BitVec.toNat_ofNat, BitVec.toNat_ofNat, Nat.mod_mod])

theorem SolveOnly.readyImage (h : SolveOnly fs s t) (valid flags : Nat) : SolveOnly fs s (t.readyImage valid flags) :=
  (h.writeHeader (hdr := t.imageHeader flags) (show 7 ≤ 0x40000 by decide)).workspace

/-- The longest and the last time of a solve show. -/
def State.showTimes (s : State) (us : Nat) : State :=
  (s.set F.NSV_LAST_US.US (min us 0xFFFFFFFF)).set F.NSV_MAX_US.US (max (s.get F.NSV_MAX_US.US) (min us 0xFFFFFFFF))

/-- The fields that show the times of a solve. -/
def timeFlds : List Fld := [F.NSV_LAST_US.US, F.NSV_MAX_US.US]

theorem State.showTimes_nsv (s : State) (us : Nat) : (s.showTimes us).nsv = s.nsv := rfl

theorem SolveOnly.showTimes (h : SolveOnly fs s t) (us : Nat) (hfs : timeFlds ⊆ fs) : SolveOnly fs s (t.showTimes us) :=
  (h.set F.NSV_LAST_US.US _ (hfs (by decide))).set F.NSV_MAX_US.US _ (hfs (by decide))

theorem State.showTimes_last (s : State) (us : Nat) : (s.showTimes us).get F.NSV_LAST_US.US = min us 0xFFFFFFFF := by
  unfold State.showTimes
  rw [State.get_set_other _ _ _ _ (by decide), State.get_set_same _ _ _ (by decide), Nat.mod_eq_of_lt]
  exact Nat.lt_of_le_of_lt (Nat.min_le_right _ _) (by decide)

end

/-! ### Completion (R233 to R241) -/

/-- The fields that transport and the bad-data test change. -/
def testFlds : List Fld := [F.NSV_ERR.TH_REINIT, F.NSV_ERR.BAD, F.NSV_NETn_STAT.THERM 0, F.NSV_NETn_STAT.THERM 1, F.NSV_NETn_STAT.BAD 0,
  F.NSV_NETn_STAT.BAD 1, F.NSV_NETn_STAT.BAD 2]

/-- The fields that a solve changes after layer 0's convergence. -/
def laterFlds : List Fld := convFlds 1 ++ convFlds 2 ++ testFlds ++ timeFlds ++ endFlds

/-- The late buffers read, the other image opened and layer 0 solved. -/
def State.solveLayer0 (s : State) (late : List Nat) (l0 : NsvLayer) : State := ((late.foldl State.nsvLate s).openBuffer.layerConv 0 l0).1

/-- A completed solve: the results of the other layers, transport and the tests, then the header, the times and the end. -/
theorem nsvSolveComplete_eq {s : State} (hsolve : s.bit F.NSV_STAT.SOLVING = true) (late : List Nat) (l0 l1 l2 : NsvLayer) :
    ∃ u valid flags, SolveOnly laterFlds (s.solveLayer0 late l0) u ∧
      nsvSolveComplete late l0 l1 l2 s = ((u.readyImage valid flags).showTimes u.solveUs).endSolve := by
  unfold nsvSolveComplete
  rw [if_neg (by simp [hsolve])]
  extract_lets sg c0 c1 c2 reinit t0 t1 _ _ sT preds ends endOf sP sB us valid conv flags its
  refine ⟨sB, valid, flags + 256 * its, ?_, rfl⟩
  have hc : SolveOnly laterFlds c0.1 c2.1 := ((SolveOnly.refl _ c0.1).layerConv 1 l1 (by decide)).layerConv 2 l2 (by decide)
  have ht : SolveOnly laterFlds c0.1 t1.1 := (hc.layerTransport 0 reinit (by decide)).layerTransport 1 reinit (by decide)
  clear_value t1
  have hT : SolveOnly laterFlds c0.1 sT := ht.workspace
  have hP : SolveOnly laterFlds c0.1 sP := hT.foldl fun u j hj => by
    have := State.nsvSensors_lt hj
    exact .ite (((SolveOnly.refl _ u).setNext _ _ (by omega)).setNext _ _ (by omega)) ((SolveOnly.refl _ u).setNext _ _ (by omega))
  exact hP.foldl fun u l hl => .ite ((SolveOnly.refl _ u).badTest l _ (by fin_cases hl <;> decide)) (.refl _ u)

/-- Layer 0's solve changes only what a late read, a lost freeze and its convergence show. -/
theorem State.solveLayer0_only (s : State) (late : List Nat) (l0 : NsvLayer) : SolveOnly (gatherFlds ++ convFlds 0) s (s.solveLayer0 late l0) :=
  ((s.openLate_only late).1.mono (List.subset_append_left ..)).layerConv 0 l0 (List.subset_append_right ..)

/-- An active layer 0 that holds its region and converges shows it. -/
theorem State.solveLayer0_converged {s : State} (late : List Nat) {l0 : NsvLayer} (hactive : s.layerActive 0 = true)
    (hheld : s.nsv.granted.contains 0 = true) (hconv : l0.conv = true) (hiters : l0.iters ≤ s.get F.NSV_ITER.MAX_IT) :
    (s.solveLayer0 late l0).bit (F.NSV_NETn_STAT.CONV 0) = true ∧ (s.solveLayer0 late l0).get (F.NSV_NETn_STAT.NCONV_RUN 0) = 0 := by
  obtain ⟨hg, ht⟩ := s.openLate_only late
  refine State.layerConv_converged (by decide) ((ht.layerActive 0).trans hactive) (by rw [hg.granted]; exact hheld) hconv ?_
  rwa [hg.fields F.NSV_ITER.MAX_IT (by decide) (by decide)]

/-- Completion writes the other image and leaves the current one (R233, R235, R241). -/
theorem nsvSolveComplete_done {s : State} (hsolve : s.bit F.NSV_STAT.SOLVING = true) (hcur : s.nsv.cur ≤ 1) (late : List Nat)
    (l0 l1 l2 : NsvLayer) :
    let t := nsvSolveComplete late l0 l1 l2 s
    t.bit F.NSV_STAT.SOLVING = false ∧ t.domOn 13 = false ∧ t.nsv.ready = true ∧ t.nsv.cur = s.nsv.cur ∧
      look (fun _ => 0) t.nsv.img ((1 - s.nsv.cur) * 0x100000) = BitVec.ofNat 32 (s.get F.NSV_SEQ.SEQ + 1) ∧
      (∀ off, off < 0x100000 → t.imgWord off = s.imgWord off) ∧ t.get F.NSV_LAST_US.US = min s.solveUs 0xFFFFFFFF ∧
      (s.layerActive 0 = true → s.nsv.granted.contains 0 = true → l0.conv = true → l0.iters ≤ s.get F.NSV_ITER.MAX_IT →
        t.bit (F.NSV_NETn_STAT.CONV 0) = true ∧ t.get (F.NSV_NETn_STAT.NCONV_RUN 0) = 0) := by
  intro t
  obtain ⟨u, valid, flags, hu, he⟩ := nsvSolveComplete_eq hsolve late l0 l1 l2
  have hlater : SolveOnly laterFlds (s.solveLayer0 late l0) t := by
    rw [show t = _ from he]
    exact ((hu.readyImage valid flags).showTimes u.solveUs (by decide)).endSolve (by decide)
  have hearly := s.solveLayer0_only late l0
  have hnsv : t.nsv = (u.readyImage valid flags).nsv := by
    rw [show t = _ from he, State.endSolve_nsv, State.showTimes_nsv]
  have hcurT : t.nsv.cur = s.nsv.cur := hlater.cur.trans hearly.cur
  have hseq : u.get F.NSV_SEQ.SEQ = s.get F.NSV_SEQ.SEQ :=
    (hu.fields _ (by decide) (by decide)).trans (hearly.fields _ (by decide) (by decide))
  have hus : u.solveUs = s.solveUs := by
    unfold State.solveUs
    rw [hu.clock, hu.startUp, hearly.clock, hearly.startUp]
  refine ⟨?_, ?_, ?_, hcurT, ?_, fun off ho => ?_, ?_, fun hactive hheld hconv hiters => ?_⟩
  · exact (congrArg (State.bit · F.NSV_STAT.SOLVING) he).trans (State.endSolve_solving _)
  · exact (congrArg (State.domOn · 13) he).trans (State.gateDomain_off _ (by decide))
  · exact (congrArg NsvSt.ready hnsv).trans (by rw [State.readyImage_nsv])
  · have hword : t.nextWord 0 = BitVec.ofNat 32 (u.get F.NSV_SEQ.SEQ + 1) :=
      (State.nextWord_congr (congrArg NsvSt.img hnsv) (congrArg NsvSt.cur hnsv) 0).trans (State.readyImage_seq u valid flags)
    rwa [State.nextWord, Nat.add_zero, hcurT, hseq] at hword
  · exact (hlater.image (hearly.cur ▸ hcur) off ho).trans (hearly.image hcur off ho)
  · rw [← hus, show t = _ from he,
      ((SolveOnly.refl endFlds _).endSolve (List.Subset.refl _)).fields F.NSV_LAST_US.US (by decide) (by decide)]
    exact State.showTimes_last _ _
  · obtain ⟨hc, hr⟩ := State.solveLayer0_converged late hactive hheld hconv hiters
    exact ⟨(hlater.bit _ (by decide) (by decide)).trans hc, (hlater.fields _ (by decide) (by decide)).trans hr⟩

end Sys2Proof.Machine
end

section
/-! The image that becomes current or stale (R21, R241, R243), the deadline (R245), CLR_BAD and TH_REINIT (R236, R239),
and each command as NSV's own rule. -/
namespace Sys2Proof.Machine

/-! ### The image becomes current, or stale (R21, R241, R243) -/

/-- A word written into a whole register is read back. -/
theorem State.getw_setw_same (s : State) (k : Nat) (v : Word) : (s.setw ⟨k, 0, 32⟩ v).getw ⟨k, 0, 32⟩ = v := by
  unfold State.getw State.setw
  rw [s.get_set_same _ _ (show 0 + 32 ≤ 32 by decide)]
  exact BitVec.eq_of_toNat_eq (by simp [v.isLt])

theorem imageCurrent_waits {s : State} (h : s.nsv.ready = false) : imageCurrent s = s := by
  simp [imageCurrent, h]

/-- The images change places. -/
def State.swapImages (s : State) : State :=
  { s with nsv := { s.nsv with ready := false, cur := 1 - s.nsv.cur, snapUp := s.nsv.startUp, published := true } }

/-- The layers' validity shows. -/
def State.showValid (s : State) (v : Nat) : State := [0, 1, 2].foldl (fun s l => s.set (F.NSV_NETn_STAT.VALID l) (v / 2 ^ l)) s

/-- The sequence number and the snapshot's time show, and the model is usable. -/
def State.showImage (s : State) : State :=
  let s3 := ((s.setw F.NSV_SEQ.SEQ (s.imgWord 0)).setw F.NSV_SNAP_SEC.SEC (s.imgWord 4)).setw F.NSV_SNAP_NS.NS (s.imgWord 8)
  (s3.setBit F.NSV_STAT.IMG true).setBit F.NSV_STAT.STALE false

theorem imageCurrent_ready {s : State} (h : s.nsv.ready = true) : imageCurrent s = (s.swapImages.showValid s.nsv.readyValid).showImage := by
  unfold imageCurrent
  rw [if_neg (by simp [h])]
  rfl

theorem State.showImage_nsv (s : State) : s.showImage.nsv = s.nsv := rfl
theorem State.showValid_nsv (s : State) (v : Nat) : (s.showValid v).nsv = s.nsv := rfl

theorem State.showImage_usable (s : State) : s.showImage.modelUsable = true := by
  unfold State.modelUsable State.showImage
  rw [State.bit_setBit_same _ _ _ (by decide) (by decide), State.bit_setBit_other _ _ _ _ (by decide),
    State.bit_setBit_same _ _ _ (by decide) (by decide)]
  rfl

theorem State.showImage_seq (s : State) : s.showImage.getw F.NSV_SEQ.SEQ = s.imgWord 0 := by
  refine Eq.trans ?_ (s.getw_setw_same R.NSV_SEQ (s.imgWord 0))
  unfold State.getw State.showImage
  dsimp only
  rw [State.get_setBit_other _ _ _ _ (by decide), State.get_setBit_other _ _ _ _ (by decide)]
  exact congrArg _ ((State.get_set_other _ _ _ _ (by decide)).trans (State.get_set_other _ _ _ _ (by decide)))

theorem State.showImage_valid (s : State) {l : Nat} (hl : l < 3) :
    s.showImage.get (F.NSV_NETn_STAT.VALID l) = s.get (F.NSV_NETn_STAT.VALID l) := by
  have hkeys : ∀ k ∈ [R.NSV_STAT, R.NSV_SNAP_NS, R.NSV_SNAP_SEC, R.NSV_SEQ], R.NSV_NETn_STAT l ≠ k := by
    interval_cases l <;> decide
  simp only [List.forall_mem_cons] at hkeys
  obtain ⟨hstat, hns, hsec, hseq, -⟩ := hkeys
  unfold State.showImage State.setw
  rw [State.get_setBit_other _ _ _ _ (.inl hstat), State.get_setBit_other _ _ _ _ (.inl hstat), State.get_set_other _ _ _ _ (.inl hns),
    State.get_set_other _ _ _ _ (.inl hsec), State.get_set_other _ _ _ _ (.inl hseq)]

theorem State.showValid_valid (s : State) (v : Nat) {l : Nat} (hl : l < 3) :
    (s.showValid v).get (F.NSV_NETn_STAT.VALID l) = v / 2 ^ l % 2 :=
  State.get_setLayers (fun _ _ h => layerStat_ne h) (fun _ => show 6 + 1 ≤ 32 by decide) (fun l => v / 2 ^ l) s hl

/-- The model is stale from now on: shown, flagged and logged. -/
theorem modelStale_old {s : State} (himg : s.bit F.NSV_STAT.IMG = true) (hfresh : s.bit F.NSV_STAT.STALE = false)
    (hage : 5 * s.get F.NSV_PERIOD.PERIOD * 250000 < s.clock.up - s.nsv.snapUp) :
    modelStale s = ((s.setBit F.NSV_STAT.STALE true).flag F.NSV_ERR.STALE).log 8 0 0 4 := by
  unfold modelStale
  rw [if_pos (by simp [himg, hfresh, hage])]
  rfl

theorem modelStale_young {s : State} (hage : s.clock.up - s.nsv.snapUp ≤ 5 * s.get F.NSV_PERIOD.PERIOD * 250000) : modelStale s = s := by
  unfold modelStale
  rw [if_neg (by simp [hage])]

/-- A logged event shows in no bit of NSV's registers. -/
theorem State.log_bit_kept (s : State) (src code index sev : Nat) (f : Fld) (hf : ¬ raiseHits f.key) :
    (s.log src code index sev).bit f = s.bit f := by
  unfold State.bit State.get
  rw [(s.log_raise src code index sev).words f.key hf]

/-! ### The deadline (R245) -/

theorem nsvDeadline_solving {s : State} (h : s.bit F.NSV_STAT.SOLVING = true) :
    nsvDeadline s = ((s.setBit F.NSV_STAT.SOLVING false).inc F.NSV_STALE.COUNT).flag F.NSV_ERR.OVR := by
  unfold nsvDeadline
  rw [if_pos h]
  rfl

/-! ### CLR_BAD and TH_REINIT (R236, R239) -/

/-- A performed write of NSV_CTRL is NSV's own rule. -/
theorem busWrite_nsvCtrl {s : State} {rq : Rq} (h : Writes s rq R.NSV_CTRL) (v : Word) :
    s.busWrite rq 4 R.NSV_CTRL v = s.nsvWrite rq (s.busKey rq.num R.NSV_CTRL) R.NSV_CTRL v :=
  State.busWrite_of_writes h v

/-! ### The commands -/

theorem exec_nsvWakeRequest (dt : Nat) (s : State) : exec (.nsvWakeRequest dt) s = .next (nsvWake (s.elapse dt)).settle := rfl
theorem exec_nsvSolveStart (dt : Nat) (s : State) : exec (.nsvSolveStart dt) s = .next (nsvSolveStart (s.elapse dt)).settle := rfl
theorem exec_nsvSolveComplete (dt : Nat) (late : List Nat) (l0 l1 l2 : NsvLayer) (s : State) :
    exec (.nsvSolveComplete dt late l0 l1 l2) s = .next (nsvSolveComplete late l0 l1 l2 (s.elapse dt)).settle := rfl
theorem exec_imageCurrent (dt : Nat) (s : State) : exec (.imageCurrent dt) s = .next (imageCurrent (s.elapse dt)).settle := rfl
theorem exec_nsvDeadline (dt : Nat) (s : State) : exec (.nsvDeadline dt) s = .next (nsvDeadline (s.elapse dt)).settle := rfl
theorem exec_modelStale (dt : Nat) (s : State) : exec (.modelStale dt) s = .next (modelStale (s.elapse dt)).settle := rfl
theorem exec_nsvClrBad {s : State} {rq : Rq} (h : Writes s rq R.NSV_CTRL) (dt : Nat) :
    exec (.nsvClrBad dt rq) s = .next (nsvClrBad rq (s.elapse dt)).settle :=
  congrArg (fun x : State => Host.Outcome.next x.settle) (busWrite_nsvCtrl (h.elapse dt) 1#32)
theorem exec_nsvThReinit {s : State} {rq : Rq} (h : Writes s rq R.NSV_CTRL) (dt : Nat) :
    exec (.nsvThReinit dt rq) s = .next (nsvThReinit rq (s.elapse dt)).settle :=
  congrArg (fun x : State => Host.Outcome.next x.settle) (busWrite_nsvCtrl (h.elapse dt) 2#32)

/-- A command without effect changes nothing but the alarm's words. -/
theorem exec_idle {c : Instr} {s t : State} {dt : Nat} (he : exec c s = .next t.settle) (ht : t = s.elapse dt) :
    ∃ u, exec c s = .next u ∧ OnlyWords [] (s.elapse dt) u := ⟨_, he, by rw [ht]; exact (OnlyWords.refl [] _).settle⟩

end Sys2Proof.Machine
end

section
/-! The network solver follows its schedule (O40): each command's outcome. -/
namespace Sys2Proof.Machine

section
variable {s : State} {dt : Nat}

/-- A wake request takes the idle sequencer (R29, R232). -/
theorem exec_nsvWakeRequest_idle (hrun : s.bit F.NSV_STAT.RUN = true) (hshed : s.bit F.NSV_STAT.SHED = false) (hon : s.domOn 13 = false)
    (hfail : s.bit (domFailFld 13) = false) (hw : s.pwr.waking = none) (hq : s.pwr.queue = []) (hgap : s.pwr.gap = false)
    (hphase : s.pwr.phase = 3) (hpfw : s.bit F.PWR_STAT.PFW = false) : ∃ t, exec (.nsvWakeRequest dt) s = .next t ∧
      t.pwr.waking = some (13, (s.elapse dt).clock.up) ∧ t.pwr.queue = [] ∧ SameWords [] s t := by
  have he : nsvWake (s.elapse dt) = _ := (nsvWake_idle (s := s.elapse dt) hrun hshed).trans
    (State.wakeDomain_idle (s := s.elapse dt) hon hfail (domPresent_nsv s) hw hq hgap (by simp [hphase]) hpfw)
  refine ⟨_, exec_nsvWakeRequest dt s, ?_, ?_, fun k _ hal => (State.settle_word _ k hal).trans ?_⟩ <;> rw [he]
  · rw [State.settle_pwr]
  · rw [State.settle_pwr]
  · rfl

/-- A solve start that falls in the warning is counted (R249). -/
theorem exec_nsvSolveStart_shed (hrun : s.bit F.NSV_STAT.RUN = true) (hshed : s.bit F.NSV_STAT.SHED = true) :
    ∃ t, exec (.nsvSolveStart dt) s = .next t ∧ t.get F.NSV_SHED.COUNT = min (s.get F.NSV_SHED.COUNT + 1) 0xFFFFFFFF ∧
      OnlyWords [R.NSV_SHED] (s.elapse dt) t := by
  have he : nsvSolveStart (s.elapse dt) = (s.elapse dt).inc F.NSV_SHED.COUNT := nsvSolveStart_shed hrun hshed
  refine ⟨_, exec_nsvSolveStart dt s, ?_, ?_⟩ <;> rw [he]
  · rw [State.settle_get _ _ (by decide)]
    exact State.get_inc_same _ _ (by decide)
  · exact ((OnlyWords.refl _ _).set F.NSV_SHED.COUNT _ (by decide)).settle

/-- A solve start with the domain on takes the snapshot (R232, R236). -/
theorem exec_nsvSolveStart_on (hrun : s.bit F.NSV_STAT.RUN = true) (hshed : s.bit F.NSV_STAT.SHED = false) (hon : s.domOn 13 = true)
    (hidle : s.bit F.NSV_STAT.SOLVING = false) : ∃ t, exec (.nsvSolveStart dt) s = .next t ∧
      t.bit F.NSV_STAT.SOLVING = true ∧ t.nsv.startUp = (s.elapse dt).clock.up ∧ t.nsv.snapSec = (s.elapse dt).sec32 ∧
      t.nsv.snapNs = (s.elapse dt).nsNow ∧ t.nsv.img = s.nsv.img ∧ t.nsv.cur = s.nsv.cur ∧
      t.nsv.latched = s.sensStns.map (fun n => (n, s.newest n, s.bufWseq n (s.newest n))) ∧
      (s.nsv.clrBad = true → t.nsv.bad = [] ∧ t.nsv.clrBad = false ∧ ∀ l, l < 3 → t.get (F.NSV_NETn_STAT.BAD l) = 0) := by
  obtain ⟨m, l, hg⟩ := (s.elapse dt).takeClrBad.showSolving.nsvGather_eq
  have he := (nsvSolveStart_eq (s := s.elapse dt) hrun hshed hon hidle).trans hg
  obtain ⟨himg, hcur⟩ := (s.elapse dt).takeClrBad_nsv
  refine ⟨_, exec_nsvSolveStart dt s, ?_, ?_⟩ <;> rw [he]
  · rw [State.settle_bit _ _ (by decide)]
    exact State.bit_setBit_same _ F.NSV_STAT.SOLVING true (by decide) (by decide)
  · rw [State.settle_nsv]
    dsimp only
    rw [State.showSolving_nsv, State.showSolving_latches]
    refine ⟨rfl, rfl, rfl, himg, hcur, rfl, fun hclr => ?_⟩
    obtain ⟨hbad, hnoted, hflags⟩ := State.takeClrBad_noted (s := s.elapse dt) hclr
    refine ⟨hbad, hnoted, fun l hl => ?_⟩
    have hkeys : R.NSV_NETn_STAT l ∉ alarmKeys ∧ R.NSV_NETn_STAT l ≠ R.NSV_STAT := by
      interval_cases l <;> decide
    rw [State.settle_get _ _ hkeys.1]
    exact (State.get_set_other _ F.NSV_STAT.SOLVING _ 1 (.inl hkeys.2)).trans (hflags l hl)

/-- The completion of a solve (R233, R235, R241). -/
theorem exec_nsvSolveComplete_solving (late : List Nat) (l0 l1 l2 : NsvLayer) (hsolve : s.bit F.NSV_STAT.SOLVING = true)
    (hcur : s.nsv.cur ≤ 1) : ∃ t, exec (.nsvSolveComplete dt late l0 l1 l2) s = .next t ∧
      t.bit F.NSV_STAT.SOLVING = false ∧ t.domOn 13 = false ∧ t.nsv.ready = true ∧ t.nsv.cur = s.nsv.cur ∧
      look (fun _ => 0) t.nsv.img ((1 - s.nsv.cur) * 0x100000) = BitVec.ofNat 32 (s.get F.NSV_SEQ.SEQ + 1) ∧
      (∀ off, off < 0x100000 → t.imgWord off = s.imgWord off) ∧
      t.get F.NSV_LAST_US.US = min (((s.elapse dt).clock.up - s.nsv.startUp) / 250) 0xFFFFFFFF ∧
      (s.layerActive 0 = true → s.nsv.granted.contains 0 = true → l0.conv = true → l0.iters ≤ s.get F.NSV_ITER.MAX_IT →
        t.bit (F.NSV_NETn_STAT.CONV 0) = true ∧ t.get (F.NSV_NETn_STAT.NCONV_RUN 0) = 0) := by
  refine ⟨_, exec_nsvSolveComplete dt late l0 l1 l2 s, ?_⟩
  rw [State.settle_bit _ _ (by decide), State.domOn, State.settle_bit _ _ (by decide), State.settle_nsv, State.settle_get _ _ (by decide),
    State.settle_bit _ _ (by decide), State.settle_get _ _ (by decide)]
  simp only [State.imgWord, State.settle_nsv]
  exact nsvSolveComplete_done (s := s.elapse dt) hsolve hcur late l0 l1 l2

/-- The tick makes a completed image current (R21, R241). -/
theorem exec_imageCurrent_ready (hready : s.nsv.ready = true) : ∃ t, exec (.imageCurrent dt) s = .next t ∧ t.nsv.cur = 1 - s.nsv.cur ∧
      t.nsv.ready = false ∧ t.nsv.snapUp = s.nsv.startUp ∧ t.modelUsable = true ∧ t.getw F.NSV_SEQ.SEQ = t.imgWord 0 ∧
      ∀ l, l < 3 → t.get (F.NSV_NETn_STAT.VALID l) = s.nsv.readyValid / 2 ^ l % 2 := by
  have he : imageCurrent (s.elapse dt) = ((s.elapse dt).swapImages.showValid s.nsv.readyValid).showImage := imageCurrent_ready hready
  refine ⟨_, exec_imageCurrent dt s, ?_⟩
  rw [he, State.modelUsable, State.settle_bit _ _ (by decide), State.settle_bit _ _ (by decide), State.settle_getw _ _ (by decide),
    State.showImage_seq, State.settle_nsv]
  refine ⟨rfl, rfl, rfl, State.showImage_usable _, ?_, fun l hl => ?_⟩
  · simp only [State.imgWord, State.settle_nsv, State.showImage_nsv]
  · have hkey : R.NSV_NETn_STAT l ∉ alarmKeys := by
      interval_cases l <;> decide
    rw [State.settle_get _ _ hkey, State.showImage_valid _ hl, State.showValid_valid _ _ hl]

/-- The deadline abandons a solve (R245). -/
theorem exec_nsvDeadline_solving (hsolve : s.bit F.NSV_STAT.SOLVING = true) : ∃ t, exec (.nsvDeadline dt) s = .next t ∧
      t.bit F.NSV_STAT.SOLVING = false ∧ t.bit F.NSV_ERR.OVR = true ∧
      t.get F.NSV_STALE.COUNT = min (s.get F.NSV_STALE.COUNT + 1) 0xFFFFFFFF ∧
      OnlyWords [R.NSV_STAT, R.NSV_STALE, R.NSV_ERR] (s.elapse dt) t := by
  have he : nsvDeadline (s.elapse dt) = _ := nsvDeadline_solving hsolve
  refine ⟨_, exec_nsvDeadline dt s, ?_, ?_, ?_, ?_⟩ <;> rw [he]
  · rw [State.settle_bit _ _ (by decide)]
    unfold State.bit
    rw [State.get_flag_other _ _ _ (by decide), State.inc, State.get_set_other _ _ _ _ (by decide)]
    exact State.bit_setBit_same _ F.NSV_STAT.SOLVING false (by decide) (by decide)
  · rw [State.settle_bit _ _ (by decide)]
    exact State.bit_flag_same _ _ rfl (by decide)
  · rw [State.settle_get _ _ (by decide), State.get_flag_other _ _ _ (by decide), State.get_inc_same _ _ (by decide),
      State.get_setBit_other _ _ _ _ (by decide)]
    rfl
  · exact ((((OnlyWords.refl _ _).setBit F.NSV_STAT.SOLVING false (by decide)).set F.NSV_STALE.COUNT _ (by decide)).flag F.NSV_ERR.OVR
      (by decide)).settle

/-- After five periods the model is stale (R243). -/
theorem exec_modelStale_old (himg : s.bit F.NSV_STAT.IMG = true) (hfresh : s.bit F.NSV_STAT.STALE = false)
    (hage : 5 * s.get F.NSV_PERIOD.PERIOD * 250000 < (s.elapse dt).clock.up - s.nsv.snapUp) : ∃ t, exec (.modelStale dt) s = .next t ∧
      t.bit F.NSV_STAT.STALE = true ∧ t.bit F.NSV_ERR.STALE = true ∧ t.modelUsable = false ∧ t.nsv = s.nsv := by
  have he : modelStale (s.elapse dt) = _ := modelStale_old himg hfresh hage
  have hstale : ((((s.elapse dt).setBit F.NSV_STAT.STALE true).flag F.NSV_ERR.STALE).log 8 0 0 4).bit F.NSV_STAT.STALE = true := by
    rw [State.log_bit_kept _ _ _ _ _ _ (by decide)]
    unfold State.bit
    rw [State.get_flag_other _ _ _ (by decide)]
    exact State.bit_setBit_same _ F.NSV_STAT.STALE true (by decide) (by decide)
  refine ⟨_, exec_modelStale dt s, ?_, ?_, ?_, ?_⟩ <;> rw [he]
  · rw [State.settle_bit _ _ (by decide), hstale]
  · rw [State.settle_bit _ _ (by decide), State.log_bit_kept _ _ _ _ _ _ (by decide)]
    exact State.bit_flag_same _ _ rfl (by decide)
  · rw [State.modelUsable, State.settle_bit _ F.NSV_STAT.STALE (by decide), hstale, Bool.not_true, Bool.and_false]
  · rw [State.settle_nsv, (State.log_raise _ 8 0 0 4).rest]
    rfl

end

/-- Settles O40: each command by its own rule; completion by what every part of a solve leaves alone. -/
theorem theNetworkSolverFollowsItsSchedule : Obligations.TheNetworkSolverFollowsItsSchedule := by
  intro s dt
  refine ⟨fun hrun => ⟨exec_nsvWakeRequest_idle hrun, fun hshed => ⟨?_, exec_nsvSolveStart_shed hrun hshed⟩, exec_nsvSolveStart_on hrun⟩,
    exec_nsvSolveComplete_solving, exec_imageCurrent_ready, fun hwaits => ?_, exec_nsvDeadline_solving,
    fun himg hfresh => ⟨exec_modelStale_old himg hfresh, fun hage => ?_⟩, fun rq hw => ⟨?_, ?_⟩⟩
  · exact exec_idle (exec_nsvWakeRequest dt s) (nsvWake_shed (s := s.elapse dt) hshed)
  · exact exec_idle (exec_imageCurrent dt s) (imageCurrent_waits (s := s.elapse dt) hwaits)
  · exact exec_idle (exec_modelStale dt s) (modelStale_young hage)
  · exact ⟨_, exec_nsvClrBad hw dt, State.settle_nsv _, fun k _ hal => State.settle_word _ k hal⟩
  · exact ⟨_, exec_nsvThReinit hw dt, State.settle_nsv _, fun k _ hal => State.settle_word _ k hal⟩

end Sys2Proof.Machine
end

section
/-! What several of metering's commands share: a read of a low word (R60, R79, R210, R509), a write of a selection (R5, R52, R84, R201), the words
that a command leaves alone, a command that does no more than set an error bit. -/
namespace Sys2Proof.Machine

/-! ### What the end of a command leaves alone -/

theorem SameWords.refl (ks : List Nat) (s : State) : SameWords ks s s := fun _ _ _ => rfl

theorem SameWords.trans {ks : List Nat} {s t u : State} (h1 : SameWords ks s t) (h2 : SameWords ks t u) : SameWords ks s u :=
  fun k hk hal => (h2 k hk hal).trans (h1 k hk hal)

theorem SameWords.mono {ks ks' : List Nat} {s t : State} (h : SameWords ks s t) (hs : ks ⊆ ks') : SameWords ks' s t :=
  fun k hk hal => h k (fun hin => hk (hs hin)) hal

theorem SameWords.set {ks : List Nat} {s t : State} (h : SameWords ks s t) (f : Fld) (v : Nat) (hf : f.key ∈ ks) : SameWords ks s (t.set f v) :=
  fun k hk hal => (t.word_set_other f v k (fun e => hk (e ▸ hf))).trans (h k hk hal)

theorem SameWords.settle {ks : List Nat} {s t : State} (h : SameWords ks s t) : SameWords ks s t.settle :=
  fun k hk hal => (t.settle_word k hal).trans (h k hk hal)

/-- A field of a word that is not among those listed. -/
theorem SameWords.get {ks : List Nat} {s t : State} (h : SameWords ks s t) (f : Fld) (hf : f.key ∉ ks) (hal : f.key ∉ alarmKeys) :
    t.get f = s.get f := by
  unfold State.get
  rw [h _ hf hal]

theorem State.settle_shadow (s : State) (q k : Nat) : s.settle.shadow q k = s.shadow q k := by simp only [State.shadow, State.settle_shadows]

theorem State.settle_frozen (s : State) (q b i : Nat) : s.settle.frozen? q b i = s.frozen? q b i := by
  simp only [State.frozen?, State.settle_freezes]

/-- A command that does no more than set an error bit. -/
theorem exec_setsFlag {c : Instr} {s u : State} {dt : Nat} {f : Fld} (he : exec c s = .next u.settle) (hu : u = (s.elapse dt).flag f)
    (hw : f.width = 1) (hl : f.lsb < 32) (hal : f.key ∉ alarmKeys) :
    ∃ t, exec c s = .next t ∧ t.bit f = true ∧ OnlyWords [f.key] (s.elapse dt) t := by
  subst hu
  refine ⟨_, he, ?_, ((OnlyWords.refl _ _).flag f (List.mem_singleton_self _)).settle⟩
  rw [State.settle_bit _ _ hal]
  exact State.bit_flag_same _ _ hw hl

/-! ### The registers that an address names -/

theorem State.regRead_mtr (s : State) (rq : Rq) {a : Nat} (h : a / 65536 = 0x0A) : s.regRead rq a = s.mtrRead rq.num a := by
  simp only [State.regRead, h]

theorem liveLo_ownWord : ∀ p, p < 8 → ∀ e, e < 8 → ownWord (R.PTn_LIVE_LO p e) = true := by decide +kernel
theorem liveHi_ownWord : ∀ p, p < 8 → ∀ e, e < 8 → ownWord (R.PTn_LIVE_HI p e) = true := by decide +kernel

/-- The live totals of HQC's window are those of the point that the requester selected (R84). -/
theorem State.busKey_hqcLive (s : State) (q : Nat) {e : Nat} (he : e < 8) :
    s.busKey q (R.W_LIVE_LO 0 e) = R.W_LIVE_LO (s.get (F.HQC_WIN_SEL.PT q)) e := by
  have hper : perRequester.contains (R.W_LIVE_LO 0 e) = false := by
    interval_cases e <;> rfl
  have hfind : (s.windows q).find? (fun w => w.1 ≤ R.W_LIVE_LO 0 e && R.W_LIVE_LO 0 e ≤ w.2.1) =
      some (R.W_STAT 0, R.W_LATD_HI 0 7, s.get (F.HQC_WIN_SEL.PT q)) := by
    interval_cases e <;> rfl
  unfold State.busKey
  rw [hper, hfind]
  rfl

/-! ### Low words -/

/-- The live totals of point p lie at offsets 0x80 to 0xBF of its registers (R60). -/
theorem State.mtrRead_live (s : State) (q : Nat) {p o : Nat} (hp : p < 8) (h0 : 0x80 ≤ o) (h1 : o < 0xC0) :
    s.mtrRead q (R.PTn_CFG p + o) = if o % 8 = 0 then s.readLo q (R.PTn_CFG p + o) else s.readHi q (R.PTn_CFG p + o) := by
  have hpt : (R.PTn_CFG p + o - R.PTn_CFG 0) / 0x100 = p := by unfold R.PTn_CFG; omega
  have hofs : (R.PTn_CFG p + o - R.PTn_CFG 0) % 0x100 = o := by unfold R.PTn_CFG; omega
  have hin : ¬ (R.PTn_CFG p + o < R.PTn_CFG 0 ∨ 8 ≤ p) := by unfold R.PTn_CFG; omega
  unfold State.mtrRead
  simp only [hpt, hofs]
  rw [if_neg hin, if_neg (by omega), if_pos ⟨h0, h1⟩]

theorem liveLo_eq (p e : Nat) : R.PTn_LIVE_LO p e = R.PTn_CFG p + (0x80 + 8 * e) := by unfold R.PTn_LIVE_LO R.PTn_CFG; omega
theorem liveHi_eq (p e : Nat) : R.PTn_LIVE_HI p e = R.PTn_CFG p + (0x84 + 8 * e) := by unfold R.PTn_LIVE_HI R.PTn_CFG; omega

/-- Energy register e of point p: reading its low word takes the high word (R60). -/
theorem State.regRead_liveLo (s : State) (rq : Rq) {p e : Nat} (hp : p < 8) (he : e < 8) :
    s.regRead rq (R.PTn_LIVE_LO p e) = (s.setShadow rq.num (R.PTn_LIVE_HI p e) (s.readWord rq.num (R.PTn_LIVE_HI p e)),
      s.readWord rq.num (R.PTn_LIVE_LO p e)) := by
  have hlo : s.mtrRead rq.num (R.PTn_LIVE_LO p e) = s.readLo rq.num (R.PTn_LIVE_LO p e) := by
    rw [liveLo_eq, s.mtrRead_live _ hp (by omega) (by omega), if_pos (by omega)]
  have hhi : R.PTn_LIVE_LO p e + 4 = R.PTn_LIVE_HI p e := by unfold R.PTn_LIVE_LO R.PTn_LIVE_HI; omega
  rw [s.regRead_mtr rq (by unfold R.PTn_LIVE_LO; omega), hlo]
  simp only [State.readLo]
  rw [s.busKey_own _ _ (liveLo_ownWord p hp e he), hhi]

/-- Reading the high word uses up the shadow (R60). -/
theorem State.regRead_liveHi (s : State) (rq : Rq) {p e : Nat} (hp : p < 8) (he : e < 8) {w : Word}
    (hw : s.shadow rq.num (R.PTn_LIVE_HI p e) = some w) :
    s.regRead rq (R.PTn_LIVE_HI p e) = (s.dropShadow rq.num (R.PTn_LIVE_HI p e), w) := by
  have hhi : s.mtrRead rq.num (R.PTn_LIVE_HI p e) = s.readHi rq.num (R.PTn_LIVE_HI p e) := by
    rw [liveHi_eq, s.mtrRead_live _ hp (by omega) (by omega), if_neg (by omega)]
  rw [s.regRead_mtr rq (by unfold R.PTn_LIVE_HI; omega), hhi]
  simp only [State.readHi]
  rw [s.busKey_own _ _ (liveHi_ownWord p hp e he), hw]

/-- Register e of the point in HQC's window (R79). -/
theorem State.regRead_hqcLo (s : State) (rq : Rq) {e : Nat} (he : e < 8) :
    s.regRead rq (R.W_LIVE_LO 0 e) =
      (s.setShadow rq.num (R.W_LIVE_HI (s.get (F.HQC_WIN_SEL.PT rq.num)) e)
        (s.readWord rq.num (R.W_LIVE_HI (s.get (F.HQC_WIN_SEL.PT rq.num)) e)),
      s.readWord rq.num (R.W_LIVE_LO (s.get (F.HQC_WIN_SEL.PT rq.num)) e)) := by
  have hlo : s.regRead rq (R.W_LIVE_LO 0 e) = s.readLo rq.num (R.W_LIVE_LO 0 e) := by
    interval_cases e <;> rfl
  have hhi (i : Nat) : R.W_LIVE_LO i e + 4 = R.W_LIVE_HI i e := by unfold R.W_LIVE_LO R.W_LIVE_HI; omega
  rw [hlo]
  simp only [State.readLo]
  rw [s.busKey_hqcLive _ he, hhi]

/-- The fraction of a local axis' position takes its whole part (R210). -/
theorem State.regRead_axPosFrac (s : State) (rq : Rq) {n : Nat} (hn : n < 16) :
    s.regRead rq (R.AXn_POS_FRAC n) = (s.setShadow rq.num (R.AXn_POS n) (s.word (R.AXn_POS n)), s.word (R.AXn_POS_FRAC n)) := by
  interval_cases n <;> rfl

/-- The low word of the uptime takes its high word (R509). -/
theorem State.regRead_upLo (s : State) (rq : Rq) :
    s.regRead rq R.SYS_UP_LO = (s.setShadow rq.num R.SYS_UP_HI (BitVec.ofNat 32 (s.upUs / 2 ^ 32)), BitVec.ofNat 32 s.upUs) := rfl

/-- A performed read that answers a low word and takes the high word into the requester's shadow of k. -/
theorem exec_lowWordRead {c : Instr} {s : State} {dt : Nat} {rq : Rq} {a k : Nat} {lo hi : Word} (h : Reads s rq a)
    (he : exec c s = .next ((s.elapse dt).readOut rq 4 a).settle)
    (hread : (s.elapse dt).regRead rq a = ((s.elapse dt).setShadow rq.num k hi, lo)) :
    ∃ t, exec c s = .next t ∧ Answers t rq a lo ∧ t.shadow rq.num k = some hi ∧
      (∀ q j, q ≠ rq.num → t.shadow q j = s.shadow q j) ∧ SameWords [] s t := by
  rw [State.readOut_of_reads (h.elapse dt), hread] at he
  refine ⟨_, he, answers_settle _ rq a lo rfl, ?_, fun q j hq => ?_, SameWords.settle (fun _ _ _ => rfl)⟩ <;> rw [State.settle_shadow]
  · exact State.shadow_setShadow_same _ _ _ _
  · exact State.shadow_setShadow_ne _ _ _ _ _ _ (fun e => hq (congrArg Prod.fst e))

/-- A performed read of the high word of an energy register whose low word the requester read before (R60). -/
theorem exec_readClear_liveHi {s : State} {dt : Nat} {rq : Rq} {p e : Nat} {w : Word} (hp : p < 8) (he : e < 8)
    (h : Reads s rq (R.PTn_LIVE_HI p e)) (hw : s.shadow rq.num (R.PTn_LIVE_HI p e) = some w) :
    ∃ t, exec (.readClear dt rq (R.PTn_LIVE_HI p e)) s = .next t ∧ Answers t rq (R.PTn_LIVE_HI p e) w ∧
      t.shadow rq.num (R.PTn_LIVE_HI p e) = none := by
  have hread := (s.elapse dt).regRead_liveHi rq hp he hw
  refine ⟨_, exec_readClear_of_reads h dt, ?_, ?_⟩ <;> rw [hread]
  · exact answers_settle _ rq _ w rfl
  · rw [State.settle_shadow]
    exact State.shadow_dropShadow_same _ _ _

/-- Settles O8: each unit's low word sets the shadow of the word above it; MTR's high word answers the shadow. -/
theorem lowWordReadsKeepTheHighWord : Obligations.LowWordReadsKeepTheHighWord := by
  intro s dt rq
  refine ⟨fun p e hp he h => exec_lowWordRead h ?_ ((s.elapse dt).regRead_liveLo rq hp he),
    fun p e w hp he h hw => exec_readClear_liveHi hp he h hw,
    fun e he h => exec_lowWordRead h ?_ ((s.elapse dt).regRead_hqcLo rq he),
    fun n hn h => exec_lowWordRead h ?_ ((s.elapse dt).regRead_axPosFrac rq hn),
    fun h => exec_lowWordRead h rfl ((s.elapse dt).regRead_upLo rq)⟩
  · change Host.Outcome.next ((s.elapse dt).readOut rq 4 (R.PTn_LIVE_LO (p % 8) (e % 8))).settle = _
    rw [Nat.mod_eq_of_lt hp, Nat.mod_eq_of_lt he]
  · change Host.Outcome.next ((s.elapse dt).readOut rq 4 (R.W_LIVE_LO 0 (e % 8))).settle = _
    rw [Nat.mod_eq_of_lt he]
  · change Host.Outcome.next ((s.elapse dt).readOut rq 4 (R.AXn_POS_FRAC (n % 16))).settle = _
    rw [Nat.mod_eq_of_lt hn]

end Sys2Proof.Machine
end

section
/-! The freezes of latch sets and windows (R63, R84, R201) and the selections that end them or show a window (R5, R52): O10. -/
namespace Sys2Proof.Machine

/-! ### A selection's register (R506) -/

theorem Rq.num_lt {q : Rq} (h : q.wellFormed = true) : q.num < 8 := by
  cases q with
  | cxA => decide
  | cxB => decide
  | kmp n => exact Nat.add_lt_add_left (of_decide_eq_true h) 4

/-- A requester's copy of a register has the register's fields. -/
theorem keyFields_copy {a q : Nat} (ha : a < 0x1000000) (hq : q < 8) : keyFields (a + 0x1000000 * q) = keyFields a := by
  unfold keyFields
  rw [if_pos (by omega), if_pos (by omega), Nat.add_mul_mod_self_left]

/-- A register whose field f takes what a requester writes, and that holds nothing a lock protects. -/
structure Selects (k : Nat) (f : FieldDesc) : Prop where
  field : f ∈ keyFields k
  acc : f.acc = .rw
  fit : FieldsFit (keyFields k)
  noRwl : hasAcc k .rwl = false

theorem Selects.copy {a q : Nat} {f : FieldDesc} (h : Selects a f) (ha : a < 0x1000000) (hq : q < 8) : Selects (a + 0x1000000 * q) f := by
  obtain ⟨hf, hrw, hfit, hrwl⟩ := h
  have hk := keyFields_copy ha hq
  exact ⟨hk ▸ hf, hrw, hk ▸ hfit, by unfold hasAcc; rw [hk]; exact hrwl⟩

theorem hqcWinSel_selects : Selects (R.HQC_WIN_SEL 0) ⟨0, 13, .rw, 0⟩ :=
  ⟨by decide +kernel, rfl, by unfold FieldsFit FieldDesc.apart; decide +kernel, by decide +kernel⟩
theorem lpeWinSel_selects : Selects (R.LPE_WIN_SEL 0) ⟨0, 12, .rw, 0⟩ :=
  ⟨by decide +kernel, rfl, by unfold FieldsFit FieldDesc.apart; decide +kernel, by decide +kernel⟩
theorem mtrHwinSel_selects : Selects (R.MTR_HWIN_SEL 0) ⟨0, 3, .rw, 0⟩ :=
  ⟨by decide +kernel, rfl, by unfold FieldsFit FieldDesc.apart; decide +kernel, by decide +kernel⟩

/-- An RW field of a word that a requester wrote reads what was written into it. -/
theorem State.get_writeWord_rw (s : State) (v : Word) {k : Nat} {f : FieldDesc} (h : Selects k f) :
    (s.writeWord k v).get ⟨k, f.lsb, f.width⟩ = v.toNat / 2 ^ f.lsb % 2 ^ f.width := by
  obtain ⟨hf, hrw, hfit, hrwl⟩ := h
  have hin := hfit.2 f hf
  apply Nat.eq_of_testBit_eq
  intro i
  simp only [State.get, Nat.testBit_mod_two_pow, Nat.testBit_div_two_pow, BitVec.testBit_toNat]
  by_cases hi : i < f.width
  · rw [s.writeWord_bit k v hrwl hfit hf (by omega) (by omega), hrw]
    rfl
  · simp only [hi, decide_false, Bool.false_and]

/-- What a requester writes into its copy of a selection is selected; no other word changes. -/
theorem State.writeWord_selects (s : State) (v : Word) {a q w : Nat} (h : Selects a ⟨0, w, .rw, 0⟩) (ha : a < 0x1000000) (hq : q < 8) :
    (s.writeWord (a + 0x1000000 * q) v).get ⟨a + 0x1000000 * q, 0, w⟩ = v.toNat % 2 ^ w ∧
      SameWords [a + 0x1000000 * q] s (s.writeWord (a + 0x1000000 * q) v) := by
  have hsel := h.copy ha hq
  have hget := s.get_writeWord_rw v hsel
  simp only [Nat.pow_zero, Nat.div_one] at hget
  exact ⟨hget, (s.writeWord_onlyWords _ v hsel.noRwl).1⟩

theorem notAlarm_copy {a q : Nat} (h1 : a < 0x1000000) (h : a < R.SAF_STAT ∨ 1 ≤ q) : a + 0x1000000 * q ∉ alarmKeys := by
  simp only [alarmKeys, R.SAF_ALARM, R.SAF_STAT, List.mem_cons, List.not_mem_nil, or_false] at h ⊢
  omega

/-! ### The end of a freeze (R63, R84, R201) -/

/-- A command that ends one freeze. -/
theorem exec_unfreezeOne {c : Instr} {s u : State} {dt q b i : Nat} (he : exec c s = .next u.settle) (hu : u = (s.elapse dt).unfreezeOne q b i) :
    ∃ t, exec c s = .next t ∧ t.frozen? q b i = none ∧ SameWords [] s t ∧
      ∀ q' b' i', (q', b', i') ≠ (q, b, i) → t.frozen? q' b' i' = s.frozen? q' b' i' := by
  subst hu
  refine ⟨_, he, ?_, SameWords.settle (fun _ _ _ => rfl), fun q' b' i' hne => ?_⟩ <;> rw [State.settle_frozen, State.frozen_unfreezeOne]
  · exact if_pos rfl
  · exact if_neg hne

/-- A command that writes a selection of a unit and ends the requester's freezes of it. -/
theorem exec_selects {c : Instr} {s u : State} {dt a q w b : Nat} {v : Word} (he : exec c s = .next u.settle)
    (hu : u = ((s.elapse dt).writeWord (a + 0x1000000 * q) v).unfreeze q b) (hsel : Selects a ⟨0, w, .rw, 0⟩) (ha : a < R.SAF_STAT) (hq : q < 8) :
    ∃ t, exec c s = .next t ∧ t.get ⟨a + 0x1000000 * q, 0, w⟩ = v.toNat % 2 ^ w ∧ SameWords [a + 0x1000000 * q] s t ∧
      ∀ i, t.frozen? q b i = none := by
  subst hu
  have ha' : a < 0x1000000 := lt_trans ha (by decide)
  obtain ⟨hget, hwords⟩ := (s.elapse dt).writeWord_selects v hsel ha' hq
  refine ⟨_, he, ?_, SameWords.settle hwords, fun i => ?_⟩
  · rw [State.settle_get _ _ (notAlarm_copy ha' (.inl ha))]
    exact hget
  · rw [State.settle_frozen]
    exact State.frozen_unfreeze _ q b i

/-! ### The writes of the selections -/

section Writes
variable {s : State} {rq : Rq} {v : Word}

theorem hqcWinSel_present (h : v.toNat % 8192 < 4128 ∧ (4096 ≤ v.toNat % 8192 ∨ s.stnPresent (v.toNat % 8192) = true)) :
    hqcWinSel rq v s = (s.writeWord (R.HQC_WIN_SEL rq.num) v).unfreeze rq.num 0x0B := if_pos h

theorem hqcWinSel_absent (h : ¬ (v.toNat % 8192 < 4128 ∧ (4096 ≤ v.toNat % 8192 ∨ s.stnPresent (v.toNat % 8192) = true))) :
    hqcWinSel rq v s = s.flag F.HQC_ERR.RANGE := if_neg h

theorem lpeWinSel_present (h : s.slotPresent (v.toNat % 4096) = true) :
    lpeWinSel rq v s = (s.writeWord (R.LPE_WIN_SEL rq.num) v).unfreeze rq.num 6 := if_pos h

theorem lpeWinSel_absent (h : s.slotPresent (v.toNat % 4096) = false) : lpeWinSel rq v s = s.flag F.LPE_ERR.RANGE :=
  if_neg (Bool.not_eq_true _ ▸ h)

theorem mtrHwinSel_absent (h : s.ptPresent (v.toNat % 8) = false) : mtrHwinSel rq v s = s.flag F.MTR_ERR.RANGE :=
  if_pos (congrArg (!·) h)

theorem exec_hqcWinSelWrite (h : Writes s rq (R.HQC_WIN_SEL 0)) (dt : Nat) (v : Word) :
    exec (.hqcWinSelWrite dt rq v) s = .next (hqcWinSel rq v (s.elapse dt)).settle :=
  congrArg (fun x : State => Host.Outcome.next x.settle) (State.busWrite_of_writes (h.elapse dt) v)

theorem exec_lpeWinSelWrite (h : Writes s rq (R.LPE_WIN_SEL 0)) (dt : Nat) (v : Word) :
    exec (.lpeWinSelWrite dt rq v) s = .next (lpeWinSel rq v (s.elapse dt)).settle :=
  congrArg (fun x : State => Host.Outcome.next x.settle) (State.busWrite_of_writes (h.elapse dt) v)

theorem exec_mtrHwinSelWrite (h : Writes s rq (R.MTR_HWIN_SEL 0)) (dt : Nat) (v : Word) :
    exec (.mtrHwinSelWrite dt rq v) s = .next (mtrHwinSel rq v (s.elapse dt)).settle :=
  congrArg (fun x : State => Host.Outcome.next x.settle) (State.busWrite_of_writes (h.elapse dt) v)

end Writes

/-! ### The harmonic window (R52) -/

/-- Write w of n words, each with a key of its own. -/
def State.setWords (s : State) (key : Nat → Nat) (val : Nat → Word) (n : Nat) : State :=
  (List.range n).foldl (fun s w => s.setWord (key w) (val w)) s

theorem State.setWords_succ (s : State) (key : Nat → Nat) (val : Nat → Word) (n : Nat) :
    s.setWords key val (n + 1) = (s.setWords key val n).setWord (key n) (val n) := by
  simp only [State.setWords, List.range_succ, List.foldl_append, List.foldl_cons, List.foldl_nil]

theorem State.word_setWords_other (s : State) {key : Nat → Nat} (val : Nat → Word) {k : Nat} (h : ∀ w, k ≠ key w) (n : Nat) :
    (s.setWords key val n).word k = s.word k := by
  induction n with
  | zero => rfl
  | succ n ih => rw [State.setWords_succ, State.word_setWord_ne _ _ (h n), ih]

theorem State.word_setWords_same (s : State) {key : Nat → Nat} (hkey : Function.Injective key) (val : Nat → Word) {w n : Nat} (h : w < n) :
    (s.setWords key val n).word (key w) = val w := by
  induction n with
  | zero => exact absurd h (Nat.not_lt_zero w)
  | succ n ih =>
    rw [State.setWords_succ, State.word_setWord]
    rcases Nat.lt_succ_iff_lt_or_eq.mp h with hlt | rfl
    · rw [if_neg (fun e => hlt.ne (hkey e)), ih hlt]
    · rw [if_pos rfl]

/-- The last complete window of a channel, as it is shown. -/
def State.harmonics (s : State) (v : Word) : List Word :=
  if v.toNat / 16 % 8 = 7 then [] else look (fun _ => []) s.mtr.harm (8 * (v.toNat % 8) + v.toNat / 16 % 8)

theorem mtrHwinSel_present {s : State} {q : Rq} {v : Word} (h : s.ptPresent (v.toNat % 8) = true) :
    mtrHwinSel q v s = (s.writeWord (R.MTR_HWIN_SEL q.num) v).setWords (fun w => R.MTR_HWINn w + 0x1000000 * q.num)
      (fun w => (s.harmonics v).getD w 0) 66 := by
  unfold mtrHwinSel
  simp only [h, Bool.not_true, Bool.false_eq_true, if_false]
  rfl

/-- A selection of a present point shows the channel's window word for word. -/
theorem exec_mtrHwinSelWrite_present {s : State} {rq : Rq} {v : Word} (hq : rq.num < 8) (h : Writes s rq (R.MTR_HWIN_SEL 0))
    (hpt : s.ptPresent (v.toNat % 8) = true) (hch : v.toNat / 16 % 8 ≠ 7) (dt : Nat) :
    ∃ t, exec (.mtrHwinSelWrite dt rq v) s = .next t ∧ t.get (F.MTR_HWIN_SEL.PT rq.num) = v.toNat % 8 ∧
      ∀ w, w < 66 → t.word (R.MTR_HWINn w + 0x1000000 * rq.num) =
        (look (fun _ => []) s.mtr.harm (8 * (v.toNat % 8) + v.toNat / 16 % 8)).getD w 0 := by
  have hinj : Function.Injective (fun w => R.MTR_HWINn w + 0x1000000 * rq.num) := by
    intro a b hab
    simp only [R.MTR_HWINn] at hab
    omega
  have hsel : ∀ w, R.MTR_HWIN_SEL rq.num ≠ R.MTR_HWINn w + 0x1000000 * rq.num := by
    intro w
    unfold R.MTR_HWIN_SEL R.MTR_HWINn
    omega
  have hharm : s.harmonics v = look (fun _ => []) s.mtr.harm (8 * (v.toNat % 8) + v.toNat / 16 % 8) := if_neg hch
  refine ⟨_, exec_mtrHwinSelWrite h dt v, ?_, fun w hw => ?_⟩ <;> rw [mtrHwinSel_present (s := s.elapse dt) hpt]
  · rw [State.settle_get _ _ (notAlarm_copy (a := R.MTR_HWIN_SEL 0) (by decide) (.inl (by decide)))]
    unfold State.get
    rw [State.word_setWords_other _ _ hsel]
    exact ((s.elapse dt).writeWord_selects v mtrHwinSel_selects (by decide) hq).1
  · have hw' : R.MTR_HWINn w < R.SAF_STAT := by unfold R.MTR_HWINn R.SAF_STAT; omega
    rw [State.settle_word _ _ (notAlarm_copy (lt_trans hw' (by decide)) (.inl hw')), ← hharm]
    exact State.word_setWords_same _ hinj _ hw

/-- Settles O10: an expiry is the end of one freeze; a selection writes the requester's copy and ends its freezes, or shows the window. -/
theorem aFreezeEndsAfterOneMillisecondOrBySelection : Obligations.AFreezeEndsAfterOneMillisecondOrBySelection := by
  intro s dt rq hwf
  have hq := Rq.num_lt hwf
  refine ⟨fun p hp => exec_unfreezeOne (dt := dt) rfl ?_, fun p => exec_unfreezeOne (dt := dt) rfl rfl,
    fun slot => exec_unfreezeOne (dt := dt) rfl rfl, fun v h => ⟨fun hok => ?_, fun hno => ?_⟩, fun v h => ⟨fun hok => ?_, fun hno => ?_⟩,
    fun v h => ⟨fun hpt hch => exec_mtrHwinSelWrite_present hq h hpt hch dt, fun hno => ?_⟩⟩
  · change (s.elapse dt).unfreezeOne rq.num 0x0A (p % 8) = _
    rw [Nat.mod_eq_of_lt hp]
  · exact exec_selects (exec_hqcWinSelWrite h dt v) (hqcWinSel_present hok) hqcWinSel_selects (by decide) hq
  · exact exec_setsFlag (exec_hqcWinSelWrite h dt v) (hqcWinSel_absent hno) rfl (by decide) (by decide)
  · exact exec_selects (exec_lpeWinSelWrite h dt v) (lpeWinSel_present hok) lpeWinSel_selects (by decide) hq
  · exact exec_setsFlag (exec_lpeWinSelWrite h dt v) (lpeWinSel_absent hno) rfl (by decide) (by decide)
  · exact exec_setsFlag (exec_mtrHwinSelWrite h dt v) (mtrHwinSel_absent hno) rfl (by decide) (by decide)

end Sys2Proof.Machine
end

section
/-! The saves of the metering and heat records (R65, R66, R85; O24): a save starts, is queued or is held back; its commit writes the older copy.
That a save PF_HOLD holds back leaves every word, MTR_CTRL.SAVE among them, is the model's own choice. -/
namespace Sys2Proof.Machine

variable {s : State} {dt : Nat}

/-! ### The record's banks and copies (R65) -/

@[simp] theorem MtrSt.setBank_cap (m : MtrSt) (b : MtrBank) : (m.setBank b).cap = m.cap := by unfold MtrSt.setBank; split <;> rfl
@[simp] theorem MtrSt.setBank_cur (m : MtrSt) (b : MtrBank) : (m.setBank b).cur = m.cur := by unfold MtrSt.setBank; split <;> rfl
@[simp] theorem MtrSt.setBank_pts (m : MtrSt) (b : MtrBank) : (m.setBank b).pts = m.pts := by unfold MtrSt.setBank; split <;> rfl

/-- The bank in use is the one that was set. -/
@[simp] theorem MtrSt.bank_setBank (m : MtrSt) (b : MtrBank) : (m.setBank b).bank = b := by
  unfold MtrSt.bank
  rw [MtrSt.setBank_cur]
  unfold MtrSt.setBank
  split
  · rfl
  · rfl

/-- The capture c over a copy. -/
def MtrSt.overCopy (m : MtrSt) (toB : Bool) (c : MtrCopy) : MtrSt := if toB then { m with copyB := some c } else { m with copyA := some c }

theorem MtrSt.overCopy_cur (m : MtrSt) (toB : Bool) (c : MtrCopy) : (m.overCopy toB c).cur = m.cur := by cases toB <;> rfl
theorem MtrSt.overCopy_bank (m : MtrSt) (toB : Bool) (c : MtrCopy) : (m.overCopy toB c).bank = m.bank := by cases toB <;> rfl

/-- The bank not in use, emptied; no capture is left. -/
def MtrSt.endSave (m : MtrSt) : MtrSt :=
  { (if m.cur = 0 then { m with bank1 := bankEmpty } else { m with bank0 := bankEmpty } : MtrSt) with cap := none, queued := false }

theorem MtrSt.endSave_cap (m : MtrSt) : m.endSave.cap = none := rfl
theorem MtrSt.endSave_copyA (m : MtrSt) : m.endSave.copyA = m.copyA := by unfold MtrSt.endSave; split <;> rfl
theorem MtrSt.endSave_copyB (m : MtrSt) : m.endSave.copyB = m.copyB := by unfold MtrSt.endSave; split <;> rfl

theorem MtrSt.endSave_bank (m : MtrSt) : m.endSave.bank = m.bank := by
  unfold MtrSt.bank MtrSt.endSave
  by_cases h : m.cur = 0
  · simp only [h, if_true]
  · simp only [h, if_false]

theorem MtrSt.endSave_other (m : MtrSt) : (if m.cur = 0 then m.endSave.bank1 else m.endSave.bank0) = bankEmpty := by
  unfold MtrSt.endSave
  by_cases h : m.cur = 0
  · simp only [h, if_true]
  · simp only [h, if_false]

/-- A one-bit field that is not 1 is 0. -/
theorem State.get_beq_zero (s : State) (f : Fld) (hw : f.width = 1) : (s.get f == 0) = !s.bit f := by
  have hlt := s.get_lt f
  rw [hw] at hlt
  unfold State.bit
  generalize s.get f = x at hlt
  interval_cases x <;> rfl

/-! ### A save starts (R65, R85) -/

/-- MTR with its totals captured, on the other bank. -/
def State.mtrCaptured (s : State) : MtrSt :=
  ({ s.mtr with cap := some (s.get F.MTR_FRAM_GEN.GEN + 1, s.mtrTotals), cur := 1 - s.mtr.cur }).setBank
    ⟨s.get F.MTR_FRAM_GEN.GEN + 1, [], false, true⟩

theorem State.mtrStartSave_idle (h : s.mtr.cap = none) : s.mtrStartSave = ({ s with mtr := s.mtrCaptured }).set F.MTR_STAT.SAVE_BUSY 1 := by
  unfold State.mtrStartSave
  rw [h]
  rfl

theorem State.mtrStartSave_busy (h : s.mtr.cap ≠ none) : s.mtrStartSave = { s with mtr := { s.mtr with queued := true } } :=
  if_pos (Option.isSome_iff_ne_none.mpr h)

theorem State.hqcSave_mtr (s : State) : s.hqcSave.mtr = s.mtr := by unfold State.hqcSave; split <;> rfl

theorem State.hqcSave_words (s : State) : SameWords [R.HQC_STAT] s s.hqcSave := by
  unfold State.hqcSave
  split
  · exact SameWords.set (fun _ _ _ => rfl) _ _ (List.mem_singleton_self _)
  · exact .refl _ s

/-- HQC captures where it runs. -/
theorem State.hqcSave_running (h : s.bit F.HQC_STAT.RUN = true) :
    s.hqcSave.hqc.cap.isSome = true ∧ s.hqcSave.bit F.HQC_STAT.SAVE_BUSY = true := by
  rw [State.hqcSave, if_pos h]
  exact ⟨rfl, State.bit_setBit_same _ F.HQC_STAT.SAVE_BUSY true (by decide) (by decide)⟩

/-- A save has started in t: MTR has captured the totals of s and shows it, and HQC has where it runs. -/
structure SaveStarted (s t : State) : Prop where
  cap : t.mtr.cap = some (s.get F.MTR_FRAM_GEN.GEN + 1, s.mtrTotals)
  busy : t.bit F.MTR_STAT.SAVE_BUSY = true
  cur : t.mtr.cur = 1 - s.mtr.cur
  bank : t.mtr.bank = ⟨s.get F.MTR_FRAM_GEN.GEN + 1, [], false, true⟩
  pts : t.mtr.pts = s.mtr.pts
  hqc : s.bit F.HQC_STAT.RUN = true → t.hqc.cap.isSome = true ∧ t.bit F.HQC_STAT.SAVE_BUSY = true
  words : SameWords [R.MTR_STAT, R.HQC_STAT] s t

theorem SaveStarted.settle {t : State} (h : SaveStarted s t) : SaveStarted s t.settle where
  cap := by rw [t.settle_mtr, h.cap]
  busy := by rw [t.settle_bit _ (by decide), h.busy]
  cur := by rw [t.settle_mtr, h.cur]
  bank := by rw [t.settle_mtr, h.bank]
  pts := by rw [t.settle_mtr, h.pts]
  hqc hrun := by
    rw [t.settle_hqc, t.settle_bit F.HQC_STAT.SAVE_BUSY (by decide)]
    exact h.hqc hrun
  words := h.words.settle

/-- A save of both records, none being in progress. -/
theorem State.saveBoth_starts (hmerged : s.bit F.MTR_STAT.MERGED = true) (hcap : s.mtr.cap = none) : SaveStarted s s.saveBoth := by
  have hsave : s.saveBoth = (({ s with mtr := s.mtrCaptured }).set F.MTR_STAT.SAVE_BUSY 1).hqcSave := by
    rw [State.saveBoth, hmerged, hcap, ← State.mtrStartSave_idle hcap]
    rfl
  have hstart : SameWords [R.MTR_STAT] s (({ s with mtr := s.mtrCaptured }).set F.MTR_STAT.SAVE_BUSY 1) :=
    SameWords.set (fun _ _ _ => rfl) _ _ (List.mem_singleton_self _)
  rw [hsave]
  refine ⟨?_, ?_, ?_, ?_, ?_, fun hrun => ?_, (hstart.mono (by simp)).trans ((State.hqcSave_words _).mono (by simp))⟩
  · rw [State.hqcSave_mtr, State.set_mtr]
    exact MtrSt.setBank_cap _ _
  · unfold State.bit
    rw [(State.hqcSave_words _).get _ (by decide) (by decide)]
    exact State.bit_setBit_same _ F.MTR_STAT.SAVE_BUSY true (by decide) (by decide)
  · rw [State.hqcSave_mtr, State.set_mtr]
    exact MtrSt.setBank_cur _ _
  · rw [State.hqcSave_mtr, State.set_mtr]
    exact MtrSt.bank_setBank _ _
  · rw [State.hqcSave_mtr, State.set_mtr]
    exact MtrSt.setBank_pts _ _
  · refine State.hqcSave_running ?_
    unfold State.bit
    rw [hstart.get _ (by decide) (by decide)]
    exact hrun

/-- With a save in progress the next one is queued. -/
theorem State.saveBoth_queues (hmerged : s.bit F.MTR_STAT.MERGED = true) (hcap : s.mtr.cap ≠ none) :
    s.saveBoth = { s with mtr := { s.mtr with queued := true } } := by
  rw [State.saveBoth, hmerged, Bool.not_true, if_neg Bool.false_ne_true, if_pos (Option.isSome_iff_ne_none.mpr hcap), State.mtrStartSave_busy hcap]

/-! ### MTR_PERIODIC_SAVE and MTR_SAVE (R65, R66) -/

theorem mtrPeriodicSave_held (h : s.bit F.MTR_STAT.PF_HOLD = true) : mtrPeriodicSave s = s := if_pos h

theorem mtrPeriodicSave_free (h : s.bit F.MTR_STAT.PF_HOLD = false) : mtrPeriodicSave s = s.saveBoth := by
  rw [mtrPeriodicSave, h, if_neg Bool.false_ne_true]

theorem mtrSave_held (h : s.bit F.MTR_STAT.PF_HOLD = true) : mtrSave s = s := by
  rw [mtrSave, h]
  rfl

theorem mtrSave_free (h : s.bit F.MTR_STAT.PF_HOLD = false) (hmerged : s.bit F.MTR_STAT.MERGED = true) :
    mtrSave s = (s.set F.MTR_CTRL.SAVE 1).saveBoth := by
  rw [mtrSave, h, hmerged]
  rfl

theorem exec_mtrPeriodicSave (dt : Nat) (s : State) : exec (.mtrPeriodicSave dt) s = .next (mtrPeriodicSave (s.elapse dt)).settle := rfl

theorem exec_mtrSave {rq : Rq} (h : Writes s rq R.MTR_CTRL) (dt : Nat) : exec (.mtrSave dt rq) s = .next (mtrSave (s.elapse dt)).settle :=
  congrArg (fun x : State => Host.Outcome.next x.settle) (State.busWrite_of_writes (h.elapse dt) 1#32)

/-- A command that PF_HOLD holds back. -/
theorem exec_saveHeld {c : Instr} {u : State} (he : exec c s = .next u.settle) (hu : u = s.elapse dt) :
    ∃ t, exec c s = .next t ∧ t.mtr = s.mtr ∧ t.hqc = s.hqc ∧ SameWords [] s t := by
  subst hu
  exact ⟨_, he, State.settle_mtr _, State.settle_hqc _, SameWords.settle (fun _ _ _ => rfl)⟩

theorem exec_mtrPeriodicSave_starts (hfree : s.bit F.MTR_STAT.PF_HOLD = false) (hmerged : s.bit F.MTR_STAT.MERGED = true)
    (hcap : s.mtr.cap = none) : ∃ t, exec (.mtrPeriodicSave dt) s = .next t ∧ SaveStarted s t := by
  refine ⟨_, exec_mtrPeriodicSave dt s, ?_⟩
  rw [mtrPeriodicSave_free (s := s.elapse dt) hfree]
  obtain ⟨cap, busy, cur, bank, pts, hqc, words⟩ := (State.saveBoth_starts (s := s.elapse dt) hmerged hcap).settle
  exact ⟨cap, busy, cur, bank, pts, hqc, words⟩

theorem exec_mtrPeriodicSave_queues (hfree : s.bit F.MTR_STAT.PF_HOLD = false) (hmerged : s.bit F.MTR_STAT.MERGED = true)
    (hcap : s.mtr.cap ≠ none) :
    ∃ t, exec (.mtrPeriodicSave dt) s = .next t ∧ t.mtr = { s.mtr with queued := true } ∧ SameWords [] s t := by
  refine ⟨_, exec_mtrPeriodicSave dt s, ?_⟩
  rw [mtrPeriodicSave_free (s := s.elapse dt) hfree, State.saveBoth_queues (s := s.elapse dt) hmerged hcap]
  exact ⟨State.settle_mtr _, SameWords.settle (fun _ _ _ => rfl)⟩

/-- A performed MTR_SAVE starts a save, and SAVE reads 1. -/
theorem exec_mtrSave_starts {rq : Rq} (hfree : s.bit F.MTR_STAT.PF_HOLD = false) (hmerged : s.bit F.MTR_STAT.MERGED = true)
    (hcap : s.mtr.cap = none) (h : Writes s rq R.MTR_CTRL) :
    ∃ t, exec (.mtrSave dt rq) s = .next t ∧ t.bit F.MTR_CTRL.SAVE = true ∧
      t.mtr.cap = some (s.get F.MTR_FRAM_GEN.GEN + 1, s.mtrTotals) ∧ t.bit F.MTR_STAT.SAVE_BUSY = true ∧
      SameWords [R.MTR_CTRL, R.MTR_STAT, R.HQC_STAT] s t := by
  have hkept (f : Fld) (hf : f.key ≠ R.MTR_CTRL) : ((s.elapse dt).set F.MTR_CTRL.SAVE 1).get f = s.get f :=
    State.get_set_other _ _ _ _ (.inl hf)
  have hmerged' : ((s.elapse dt).set F.MTR_CTRL.SAVE 1).bit F.MTR_STAT.MERGED = true := by
    unfold State.bit
    rw [hkept _ (by decide)]
    exact hmerged
  have hset : SameWords [R.MTR_CTRL] s ((s.elapse dt).set F.MTR_CTRL.SAVE 1) :=
    SameWords.set (fun _ _ _ => rfl) _ _ (List.mem_singleton_self _)
  have hstarted := (State.saveBoth_starts hmerged' hcap).settle
  refine ⟨_, exec_mtrSave h dt, ?_⟩
  rw [mtrSave_free (s := s.elapse dt) hfree hmerged]
  refine ⟨?_, ?_, hstarted.busy, (hset.mono (by simp)).trans (hstarted.words.mono (by simp))⟩
  · unfold State.bit
    rw [hstarted.words.get _ (by decide) (by decide)]
    exact State.bit_setBit_same _ F.MTR_CTRL.SAVE true (by decide) (by decide)
  · rw [hstarted.cap, hkept _ (by decide)]
    rfl

/-! ### What a commit shows (R65, R85) -/

/-- A record's commit in its registers: generation g, the copy that holds it, no save in progress. -/
def State.showCommit (s : State) (gen copy busy : Fld) (g : Nat) (toB : Bool) : State := ((s.set gen g).setBit copy toB).set busy 0

section ShowCommit
variable {gen copy busy : Fld} (g : Nat) (toB : Bool)

theorem State.showCommit_words (s : State) {ks : List Nat} (hgen : gen.key ∈ ks) (hcopy : copy.key ∈ ks) (hbusy : busy.key ∈ ks) :
    SameWords ks s (s.showCommit gen copy busy g toB) := (((SameWords.refl ks s).set gen g hgen).set copy toB.toNat hcopy).set busy 0 hbusy

theorem State.showCommit_gen (s : State) (hfit : gen.lsb + gen.width ≤ 32) (hcopy : Apart gen copy) (hbusy : Apart gen busy) :
    (s.showCommit gen copy busy g toB).get gen = g % 2 ^ gen.width := by
  unfold State.showCommit
  rw [State.get_set_other _ _ _ _ hbusy, State.get_setBit_other _ _ _ _ hcopy]
  exact State.get_set_same _ gen g hfit

theorem State.showCommit_copy (s : State) (hfit : copy.lsb + copy.width ≤ 32) (hw : 0 < copy.width) (hbusy : Apart copy busy) :
    (s.showCommit gen copy busy g toB).bit copy = toB := by
  unfold State.showCommit State.bit
  rw [State.get_set_other _ _ _ _ hbusy]
  exact State.bit_setBit_same _ copy toB hfit hw

theorem State.showCommit_busy (s : State) (hfit : busy.lsb + busy.width ≤ 32) (hw : 0 < busy.width) :
    (s.showCommit gen copy busy g toB).bit busy = false := State.bit_setBit_same _ busy false hfit hw

end ShowCommit

/-! ### MTR_SAVE_COMMIT (R65) -/

/-- The metering record's commit: SAVE reads 0 again besides. -/
def State.showMtrCommit (s : State) (g : Nat) (toB : Bool) : State :=
  (s.showCommit F.MTR_FRAM_GEN.GEN F.MTR_STAT.COPY F.MTR_STAT.SAVE_BUSY g toB).set F.MTR_CTRL.SAVE 0

theorem mtrSaveCommit_alone {g : Nat} {pts : List (List Nat × Nat)} (hcap : s.mtr.cap = some (g, pts)) (hq : s.mtr.queued = false) :
    mtrSaveCommit s =
      ({ s with mtr := (s.mtr.overCopy (!s.bit F.MTR_STAT.COPY) ⟨g, pts, true⟩).endSave }).showMtrCommit g (!s.bit F.MTR_STAT.COPY) := by
  have hcommit : s.mtrCommit =
      ({ s with mtr := (s.mtr.overCopy (!s.bit F.MTR_STAT.COPY) ⟨g, pts, true⟩).endSave }).showMtrCommit g (!s.bit F.MTR_STAT.COPY) := by
    unfold State.mtrCommit
    rw [hcap]
    dsimp only
    rw [if_neg (show ¬ s.mtr.queued = true by rw [hq]; exact Bool.false_ne_true), s.get_beq_zero F.MTR_STAT.COPY rfl]
    rfl
  rw [mtrSaveCommit, hcommit]
  rfl

theorem State.showMtrCommit_mtr (s : State) (g : Nat) (toB : Bool) : (s.showMtrCommit g toB).mtr = s.mtr := rfl

theorem State.showMtrCommit_words (s : State) (g : Nat) (toB : Bool) :
    SameWords [R.MTR_CTRL, R.MTR_STAT, R.MTR_FRAM_GEN] s (s.showMtrCommit g toB) :=
  (s.showCommit_words g toB (by simp) (by simp) (by simp)).set F.MTR_CTRL.SAVE 0 (by simp)

/-- The fields of the metering record's registers after a commit. -/
theorem State.showMtrCommit_shows (s : State) (g : Nat) (toB : Bool) :
    (s.showMtrCommit g toB).bit F.MTR_STAT.COPY = toB ∧ (s.showMtrCommit g toB).get F.MTR_FRAM_GEN.GEN = g % 2 ^ 32 ∧
      (s.showMtrCommit g toB).bit F.MTR_STAT.SAVE_BUSY = false ∧ (s.showMtrCommit g toB).bit F.MTR_CTRL.SAVE = false := by
  have hkept (f : Fld) (hf : f.key ≠ R.MTR_CTRL) :
      (s.showMtrCommit g toB).get f = (s.showCommit F.MTR_FRAM_GEN.GEN F.MTR_STAT.COPY F.MTR_STAT.SAVE_BUSY g toB).get f :=
    State.get_set_other _ _ _ _ (.inl hf)
  refine ⟨?_, ?_, ?_, State.bit_setBit_same _ F.MTR_CTRL.SAVE false (by decide) (by decide)⟩
  · unfold State.bit
    rw [hkept _ (by decide)]
    exact s.showCommit_copy g toB (by decide) (by decide) (.inr (.inr (by decide)))
  · rw [hkept _ (by decide)]
    exact s.showCommit_gen g toB (by decide) (.inl (by decide)) (.inl (by decide))
  · unfold State.bit
    rw [hkept _ (by decide)]
    exact s.showCommit_busy g toB (by decide) (by decide)

/-- The commit of a save with none queued. -/
theorem exec_mtrSaveCommit_alone {g : Nat} {pts : List (List Nat × Nat)} (hcap : s.mtr.cap = some (g, pts)) (hq : s.mtr.queued = false) :
    ∃ t, exec (.mtrSaveCommit dt) s = .next t ∧ t.mtr.cap = none ∧
      (s.bit F.MTR_STAT.COPY = false → t.mtr.copyB = some ⟨g, pts, true⟩ ∧ t.mtr.copyA = s.mtr.copyA) ∧
      (s.bit F.MTR_STAT.COPY = true → t.mtr.copyA = some ⟨g, pts, true⟩ ∧ t.mtr.copyB = s.mtr.copyB) ∧
      t.bit F.MTR_STAT.COPY = !s.bit F.MTR_STAT.COPY ∧ t.get F.MTR_FRAM_GEN.GEN = g % 2 ^ 32 ∧ t.bit F.MTR_STAT.SAVE_BUSY = false ∧
      t.bit F.MTR_CTRL.SAVE = false ∧ t.mtr.bank = s.mtr.bank ∧ (if s.mtr.cur = 0 then t.mtr.bank1 else t.mtr.bank0) = bankEmpty ∧
      SameWords [R.MTR_CTRL, R.MTR_STAT, R.MTR_FRAM_GEN] s t := by
  have hsave : mtrSaveCommit (s.elapse dt) = _ := mtrSaveCommit_alone hcap hq
  refine ⟨(mtrSaveCommit (s.elapse dt)).settle, rfl, ?_⟩
  rw [hsave, State.settle_mtr, State.showMtrCommit_mtr, State.settle_bit _ _ (by decide), State.settle_get _ _ (by decide),
    State.settle_bit _ _ (by decide), State.settle_bit _ _ (by decide), MtrSt.endSave_copyA, MtrSt.endSave_copyB, MtrSt.endSave_bank,
    MtrSt.overCopy_bank]
  obtain ⟨hcopy, hgen, hbusy, hctrl⟩ := State.showMtrCommit_shows
    { s.elapse dt with mtr := ((s.elapse dt).mtr.overCopy (!(s.elapse dt).bit F.MTR_STAT.COPY) ⟨g, pts, true⟩).endSave } g
    (!(s.elapse dt).bit F.MTR_STAT.COPY)
  refine ⟨MtrSt.endSave_cap _, fun h => ?_, fun h => ?_, hcopy, hgen, hbusy, hctrl, rfl, ?_, SameWords.settle (State.showMtrCommit_words _ _ _)⟩
  · rw [State.elapse_bit, h]
    exact ⟨rfl, rfl⟩
  · rw [State.elapse_bit, h]
    exact ⟨rfl, rfl⟩
  · have hother := ((s.elapse dt).mtr.overCopy (!(s.elapse dt).bit F.MTR_STAT.COPY) ⟨g, pts, true⟩).endSave_other
    rw [MtrSt.overCopy_cur] at hother
    exact hother

/-! ### HQC's saves (R85) -/

/-- The capture over a copy; none is left. -/
def HqcSt.commit (h : HqcSt) (toB : Bool) (c : HqcCopy) : HqcSt :=
  if toB then { h with copyB := some c, cap := none } else { h with copyA := some c, cap := none }

theorem hqcSaveCommit_eq {c : HqcCopy} (hcap : s.hqc.cap = some c) :
    hqcSaveCommit s = ({ s with hqc := s.hqc.commit (!s.bit F.HQC_STAT.COPY) c }).showCommit F.HQC_FRAM_GEN.GEN F.HQC_STAT.COPY
      F.HQC_STAT.SAVE_BUSY c.gen (!s.bit F.HQC_STAT.COPY) := by
  unfold hqcSaveCommit
  rw [hcap]
  dsimp only
  rw [s.get_beq_zero F.HQC_STAT.COPY rfl]
  rfl

theorem exec_hqcSaveCommit_captured {c : HqcCopy} (hcap : s.hqc.cap = some c) :
    ∃ t, exec (.hqcSaveCommit dt) s = .next t ∧ t.hqc.cap = none ∧ t.bit F.HQC_STAT.SAVE_BUSY = false ∧
      (s.bit F.HQC_STAT.COPY = false → t.hqc.copyB = some c ∧ t.hqc.copyA = s.hqc.copyA) ∧
      (s.bit F.HQC_STAT.COPY = true → t.hqc.copyA = some c ∧ t.hqc.copyB = s.hqc.copyB) ∧
      t.bit F.HQC_STAT.COPY = !s.bit F.HQC_STAT.COPY ∧ t.get F.HQC_FRAM_GEN.GEN = c.gen % 2 ^ 32 ∧ t.hqc.pts = s.hqc.pts ∧
      SameWords [R.HQC_STAT, R.HQC_FRAM_GEN] s t := by
  have hsave : hqcSaveCommit (s.elapse dt) = _ := hqcSaveCommit_eq hcap
  refine ⟨(hqcSaveCommit (s.elapse dt)).settle, rfl, ?_⟩
  rw [hsave, State.settle_hqc, State.settle_bit _ _ (by decide), State.settle_bit _ _ (by decide), State.settle_get _ _ (by decide),
    State.showCommit_busy _ _ _ (by decide) (by decide), State.showCommit_copy _ _ _ (by decide) (by decide) (.inr (.inr (by decide))),
    State.showCommit_gen _ _ _ (by decide) (.inl (by decide)) (.inl (by decide)), State.elapse_bit]
  refine ⟨?_, rfl, fun h => ?_, fun h => ?_, rfl, rfl, ?_,
    SameWords.settle (State.showCommit_words _ _ _ (by simp) (by simp) (by simp))⟩
  · cases s.bit F.HQC_STAT.COPY <;> rfl
  · rw [h]
    exact ⟨rfl, rfl⟩
  · rw [h]
    exact ⟨rfl, rfl⟩
  · cases s.bit F.HQC_STAT.COPY <;> rfl

theorem hqcSaveLate_captured {c : HqcCopy} (hcap : s.hqc.cap = some c) : hqcSaveLate s = s.flag F.HQC_ERR.SAVE_LATE :=
  if_pos (Option.isSome_iff_exists.mpr ⟨c, hcap⟩)

end Sys2Proof.Machine
end

section
/-! O24, from the rules of the saves. -/
namespace Sys2Proof.Machine

/-- Settles O24: a save that is free starts or is queued, one that is held leaves both records, a commit writes the older copy. -/
theorem savesWriteTheOlderCopy : Obligations.SavesWriteTheOlderCopy := by
  intro s dt
  refine ⟨fun hfree hmerged => ⟨fun hcap => ⟨?_, fun rq h => exec_mtrSave_starts hfree hmerged hcap h⟩,
      fun hcap => exec_mtrPeriodicSave_queues hfree hmerged hcap⟩,
    fun hheld => ⟨exec_saveHeld (exec_mtrPeriodicSave dt s) (mtrPeriodicSave_held (s := s.elapse dt) hheld),
      fun rq h => exec_saveHeld (exec_mtrSave h dt) (mtrSave_held (s := s.elapse dt) hheld)⟩,
    fun g pts hcap hq => exec_mtrSaveCommit_alone hcap hq,
    fun c hcap => ⟨exec_hqcSaveCommit_captured hcap,
      exec_setsFlag (dt := dt) rfl (hqcSaveLate_captured (s := s.elapse dt) hcap) rfl (by decide) (by decide)⟩⟩
  obtain ⟨t, he, hsaved⟩ := exec_mtrPeriodicSave_starts (dt := dt) hfree hmerged hcap
  exact ⟨t, he, hsaved.cap, hsaved.busy, hsaved.cur, hsaved.bank, hsaved.pts, hsaved.hqc, hsaved.words⟩

end Sys2Proof.Machine
end

section
/-! The latch of a billing boundary (R82, R83): the point's latch set takes the totals at the boundary, and no other point's set changes. -/
namespace Sys2Proof.Machine

variable {s t u : State} {m j : Nat}

/-! ### A point of the record -/

theorem State.hqcPt_setHqcPt (s : State) (m j : Nat) (x : HqcPt) : (s.setHqcPt m x).hqcPt j = if j = m then x else s.hqcPt j :=
  look_store _ m j x _

@[simp] theorem State.hqcPt_setHqcPt_same (s : State) (m : Nat) (x : HqcPt) : (s.setHqcPt m x).hqcPt m = x := by
  rw [State.hqcPt_setHqcPt, if_pos rfl]

theorem State.hqcPt_setHqcPt_ne (s : State) {m j : Nat} (h : j ≠ m) (x : HqcPt) : (s.setHqcPt m x).hqcPt j = s.hqcPt j := by
  rw [State.hqcPt_setHqcPt, if_neg h]

@[simp] theorem State.setHqcPt_get (s : State) (m : Nat) (x : HqcPt) (f : Fld) : (s.setHqcPt m x).get f = s.get f := rfl
@[simp] theorem State.setHqcPt_word (s : State) (m : Nat) (x : HqcPt) (k : Nat) : (s.setHqcPt m x).word k = s.word k := rfl

theorem State.hqcPt_of_hqc (h : t.hqc = s.hqc) (j : Nat) : t.hqcPt j = s.hqcPt j := by
  unfold State.hqcPt
  rw [h]

theorem State.get_setWord_ne (s : State) {k : Nat} (v : Word) {f : Fld} (h : f.key ≠ k) : (s.setWord k v).get f = s.get f := by
  unfold State.get
  rw [s.word_setWord_ne v h]

/-! ### The words of a latch set -/

/-- The words of a point's latch set lie in its window, behind HQC's global registers. -/
theorem mem_frozenKeys_hqc {k : Nat} (h : k ∈ frozenKeys 0x0B m) : k / 0x1000000 = m ∧ 0x0B0100 ≤ k % 0x1000000 ∧ k % 0x1000000 < 0x0B0200 := by
  simp only [frozenKeys, List.mem_append, List.mem_cons, List.not_mem_nil, or_false, List.mem_flatMap, List.mem_range] at h
  unfold R.W_LATCH_SEQ R.W_LATCH_STAT R.W_LATD_LO R.W_LATD_HI at h
  rcases h with (rfl | rfl) | ⟨e, he, rfl | rfl⟩ <;> omega

theorem frozenKeys_hqc_disjoint (h : j ≠ m) {k : Nat} (hk : k ∈ frozenKeys 0x0B j) : k ∉ frozenKeys 0x0B m :=
  fun hm => h ((mem_frozenKeys_hqc hk).1.symm.trans (mem_frozenKeys_hqc hm).1)

theorem latchSeq_mem (m : Nat) : R.W_LATCH_SEQ m ∈ frozenKeys 0x0B m := by simp [frozenKeys]
theorem latchStat_mem (m : Nat) : R.W_LATCH_STAT m ∈ frozenKeys 0x0B m := by simp [frozenKeys]

theorem latdLo_mem (m : Nat) {e : Nat} (he : e < 8) : R.W_LATD_LO m e ∈ frozenKeys 0x0B m :=
  List.mem_append_right _ (List.mem_flatMap.mpr ⟨e, List.mem_range.mpr he, List.mem_cons_self⟩)

theorem latdHi_mem (m : Nat) {e : Nat} (he : e < 8) : R.W_LATD_HI m e ∈ frozenKeys 0x0B m :=
  List.mem_append_right _ (List.mem_flatMap.mpr ⟨e, List.mem_range.mpr he, List.mem_cons_of_mem _ List.mem_cons_self⟩)

theorem latchSet_not_alarm {k : Nat} (h : k ∈ frozenKeys 0x0B m) : k ∉ alarmKeys := by
  obtain ⟨-, -, hhi⟩ := mem_frozenKeys_hqc h
  simp only [alarmKeys, List.mem_cons, List.not_mem_nil, or_false]
  rintro (rfl | rfl)
  · exact absurd hhi (by decide)
  · exact absurd hhi (by decide)

theorem hqcGlobal_not_alarm {k : Nat} (h : k < 0x0B0100) : k ∉ alarmKeys := by
  simp only [alarmKeys, List.mem_cons, List.not_mem_nil, or_false]
  rintro (rfl | rfl)
  · exact absurd h (by decide)
  · exact absurd h (by decide)

/-! ### One point's latch (R83) -/

/-- The totals and status that a latch takes: those at the boundary where a step has passed it, the live ones otherwise. -/
def HqcPt.closing (x : HqcPt) : List Nat × Nat × Bool × Bool := x.snap.getD (x.tot, x.rev, x.deg, x.gap)

/-- A point after its latch: the next sequence, the new interval's status. -/
def HqcPt.latched (x : HqcPt) : HqcPt :=
  { x with first := false, seq := (x.seq + 1) % 2 ^ 32, snap := none,
           rev := if x.snap.isSome then x.rev else 0, deg := x.snap.isSome && x.deg, gap := x.snap.isSome && x.gap }

/-- W_LATCH_STAT of a latch. -/
def HqcPt.latchStat (x : HqcPt) : Nat :=
  1 + (if 0 < x.closing.2.1 then 2 else 0) + (if x.first then 4 else 0) + (if x.closing.2.2.1 then 8 else 0) +
    (if x.closing.2.2.2 then 16 else 0) + 256 * x.closing.2.1

/-- A latched register of a point, from a total with its fraction (R79). -/
def State.showLatched (s : State) (m e v : Nat) : State :=
  (s.set (F.W_LATD_LO.E m e) (v / 65536 % 2 ^ 32)).set (F.W_LATD_HI.E m e) (v / 65536 / 2 ^ 32 % 2 ^ 32)

/-- The latch in the registers of the point's window. -/
def State.showLatch (s : State) (m : Nat) (x : HqcPt) : State :=
  (((List.range 5).foldl (fun s e => s.showLatched m e (x.closing.1.getD e 0)) s).set (F.W_LATCH_SEQ.SEQ m) ((x.seq + 1) % 2 ^ 32)).setWord
    (R.W_LATCH_STAT m) (BitVec.ofNat 32 x.latchStat)

theorem State.hqcLatchPt_eq (s : State) (m : Nat) :
    s.hqcLatchPt m = (s.showLatch m (s.hqcPt m)).setHqcPt m (s.hqcPt m).latched := by
  unfold State.hqcLatchPt State.showLatch State.showLatched HqcPt.latchStat
  rfl

/-- A latched register is two words of the latch set that its reader freezes (R84). -/
theorem OnlyWords.showLatched {e : Nat} (h : OnlyWords (frozenKeys 0x0B m) s t) (he : e < 8) (v : Nat) :
    OnlyWords (frozenKeys 0x0B m) s (t.showLatched m e v) :=
  (h.set _ _ (latdLo_mem m he)).set _ _ (latdHi_mem m he)

theorem State.foldl_showLatched_onlyWords (s : State) (m : Nat) (v : Nat → Nat) {n : Nat} (hn : n ≤ 8) :
    OnlyWords (frozenKeys 0x0B m) s ((List.range n).foldl (fun s e => s.showLatched m e (v e)) s) := by
  induction n with
  | zero => exact .refl _ s
  | succ n ih =>
    rw [List.range_succ, List.foldl_concat]
    exact (ih (by omega)).showLatched (by omega) _

/-- What a latch shows is the point's latch set. -/
theorem State.showLatch_onlyWords (s : State) (m : Nat) (x : HqcPt) : OnlyWords (frozenKeys 0x0B m) s (s.showLatch m x) :=
  ((s.foldl_showLatched_onlyWords m _ (by decide)).set _ _ (latchSeq_mem m)).setWord _ _ (latchStat_mem m)

theorem State.showLatch_hqc (s : State) (m : Nat) (x : HqcPt) : (s.showLatch m x).hqc = s.hqc := by rw [(s.showLatch_onlyWords m x).shallow]
theorem State.showLatch_clock (s : State) (m : Nat) (x : HqcPt) : (s.showLatch m x).clock = s.clock := by
  rw [(s.showLatch_onlyWords m x).shallow]

/-! ### The registers that a latch shows -/

theorem State.showLatched_lo (s : State) (m e v : Nat) : (s.showLatched m e v).get (F.W_LATD_LO.E m e) = v / 65536 % 2 ^ 32 := by
  have hne : R.W_LATD_LO m e ≠ R.W_LATD_HI m e := by unfold R.W_LATD_LO R.W_LATD_HI; omega
  unfold State.showLatched
  rw [State.get_set_other _ _ _ _ (.inl hne), State.get_set_same _ _ _ le_rfl]
  exact Nat.mod_mod _ _

theorem State.showLatched_lo_ne (s : State) (m v : Nat) {e i : Nat} (h : i ≠ e) :
    (s.showLatched m e v).get (F.W_LATD_LO.E m i) = s.get (F.W_LATD_LO.E m i) := by
  have hlo : R.W_LATD_LO m i ≠ R.W_LATD_LO m e := by unfold R.W_LATD_LO; omega
  have hhi : R.W_LATD_LO m i ≠ R.W_LATD_HI m e := by unfold R.W_LATD_LO R.W_LATD_HI; omega
  unfold State.showLatched
  rw [State.get_set_other _ _ _ _ (.inl hhi), State.get_set_other _ _ _ _ (.inl hlo)]

/-- The low words after the first n registers have been shown. -/
theorem State.foldl_showLatched_lo (s : State) (m : Nat) (v : Nat → Nat) {n e : Nat} (he : e < n) :
    ((List.range n).foldl (fun s e => s.showLatched m e (v e)) s).get (F.W_LATD_LO.E m e) = v e / 65536 % 2 ^ 32 := by
  induction n with
  | zero => omega
  | succ n ih =>
    rw [List.range_succ, List.foldl_concat]
    rcases Nat.lt_succ_iff_lt_or_eq.mp he with hlt | rfl
    · rw [State.showLatched_lo_ne _ _ _ (by omega), ih hlt]
    · exact State.showLatched_lo ..

/-- VALID is bit 0 of W_LATCH_STAT, and every other field lies above it. -/
theorem HqcPt.latchStat_odd (x : HqcPt) : x.latchStat % 2 = 1 := by
  have hflag (p : Prop) [Decidable p] {n : Nat} (hn : n % 2 = 0) : (if p then n else 0) % 2 = 0 :=
    iteInduction (motive := fun x => x % 2 = 0) (fun _ => hn) (fun _ => rfl)
  have hrev := hflag (0 < x.closing.2.1) (n := 2) rfl
  have hpfr := hflag (x.first = true) (n := 4) rfl
  have hdeg := hflag (x.closing.2.2.1 = true) (n := 8) rfl
  have hgap := hflag (x.closing.2.2.2 = true) (n := 16) rfl
  rw [HqcPt.latchStat]
  generalize (if 0 < x.closing.2.1 then 2 else 0) = rev at hrev ⊢
  omega

/-! ### A latched point -/

/-- The point x of number m has been latched (R83): its latch set holds the totals at the boundary with the next sequence and VALID. -/
structure HqcLatched (x : HqcPt) (m : Nat) (t : State) : Prop where
  pt : t.hqcPt m = x.latched
  seq : t.get (F.W_LATCH_SEQ.SEQ m) = (x.seq + 1) % 2 ^ 32
  valid : t.bit (F.W_LATCH_STAT.VALID m) = true
  tot : ∀ e, e < 5 → t.get (F.W_LATD_LO.E m e) = x.closing.1.getD e 0 / 65536 % 2 ^ 32

theorem State.hqcLatchPt_latched (s : State) (m : Nat) : HqcLatched (s.hqcPt m) m (s.hqcLatchPt m) := by
  have hseq : R.W_LATCH_SEQ m ≠ R.W_LATCH_STAT m := by unfold R.W_LATCH_SEQ R.W_LATCH_STAT; omega
  have hlo (e : Nat) : R.W_LATD_LO m e ≠ R.W_LATCH_STAT m ∧ R.W_LATD_LO m e ≠ R.W_LATCH_SEQ m := by
    unfold R.W_LATD_LO R.W_LATCH_STAT R.W_LATCH_SEQ
    omega
  have hget (f : Fld) : (s.hqcLatchPt m).get f = (s.showLatch m (s.hqcPt m)).get f := by
    rw [State.hqcLatchPt_eq, State.setHqcPt_get]
  refine ⟨?_, ?_, ?_, fun e he => ?_⟩
  · rw [State.hqcLatchPt_eq, State.hqcPt_setHqcPt_same]
  · rw [hget, State.showLatch, State.get_setWord_ne _ _ hseq, State.get_set_same _ _ _ le_rfl]
    exact Nat.mod_mod _ _
  · have hodd := (s.hqcPt m).latchStat_odd
    unfold State.bit
    rw [hget, State.showLatch, State.get, State.word_setWord_same, BitVec.toNat_ofNat, beq_iff_eq, Nat.pow_zero, Nat.div_one, Nat.pow_one]
    omega
  · rw [hget, State.showLatch, State.get_setWord_ne _ _ (hlo e).1, State.get_set_other _ _ _ _ (.inl (hlo e).2)]
    exact State.foldl_showLatched_lo _ _ (fun e => (s.hqcPt m).closing.1.getD e 0) he

/-- A point and the words of its latch set are as before. -/
structure SameLatch (m : Nat) (s t : State) : Prop where
  pt : t.hqcPt m = s.hqcPt m
  words : ∀ k ∈ frozenKeys 0x0B m, t.word k = s.word k

theorem SameLatch.refl (m : Nat) (s : State) : SameLatch m s s := ⟨rfl, fun _ _ => rfl⟩

theorem SameLatch.trans (h1 : SameLatch m s t) (h2 : SameLatch m t u) : SameLatch m s u :=
  ⟨h2.pt.trans h1.pt, fun k hk => (h2.words k hk).trans (h1.words k hk)⟩

theorem SameLatch.settle (m : Nat) (s : State) : SameLatch m s s.settle :=
  ⟨State.hqcPt_of_hqc s.settle_hqc m, fun k hk => s.settle_word k (latchSet_not_alarm hk)⟩

/-- A global register is in no latch set. -/
theorem SameLatch.set (m : Nat) (s : State) (f : Fld) (v : Nat) (hf : f.key < 0x0B0100) : SameLatch m s (s.set f v) := by
  refine ⟨rfl, fun k hk => s.word_set_other f v k (fun e => ?_)⟩
  have := mem_frozenKeys_hqc hk
  omega

theorem State.hqcLatchPt_sameLatch (s : State) (h : j ≠ m) : SameLatch j s (s.hqcLatchPt m) := by
  refine ⟨?_, fun k hk => ?_⟩
  · rw [State.hqcLatchPt_eq, State.hqcPt_setHqcPt_ne _ h]
    exact State.hqcPt_of_hqc (State.showLatch_hqc ..) j
  · rw [State.hqcLatchPt_eq, State.setHqcPt_word]
    exact (s.showLatch_onlyWords m (s.hqcPt m)).1 k (frozenKeys_hqc_disjoint h hk) (latchSet_not_alarm hk)

theorem State.foldl_hqcLatchPt_sameLatch (s : State) {ms : List Nat} (h : m ∉ ms) : SameLatch m s (ms.foldl State.hqcLatchPt s) := by
  induction ms generalizing s with
  | nil => exact .refl m s
  | cons j ms ih =>
    rw [List.mem_cons, not_or] at h
    rw [List.foldl_cons]
    exact (s.hqcLatchPt_sameLatch h.1).trans (ih (s.hqcLatchPt j) h.2)

theorem HqcLatched.same {x : HqcPt} (h : HqcLatched x m t) (hs : SameLatch m t u) : HqcLatched x m u := by
  have hget (f : Fld) (hf : f.key ∈ frozenKeys 0x0B m) : u.get f = t.get f := by
    unfold State.get
    rw [hs.words _ hf]
  refine ⟨hs.pt.trans h.pt, (hget _ (latchSeq_mem m)).trans h.seq, ?_, fun e he => (hget _ (latdLo_mem m (by omega))).trans (h.tot e he)⟩
  unfold State.bit
  rw [hget _ (latchStat_mem m)]
  exact h.valid

/-- Each point of a list without repeats is latched once, as it stood before. -/
theorem State.foldl_hqcLatchPt_latched (s : State) {ms : List Nat} (hnd : ms.Nodup) (hm : m ∈ ms) :
    HqcLatched (s.hqcPt m) m (ms.foldl State.hqcLatchPt s) := by
  obtain ⟨before, after, rfl⟩ := List.append_of_mem hm
  obtain ⟨hb, ha⟩ : m ∉ before ∧ m ∉ after := by
    rw [List.nodup_middle, List.nodup_cons, List.mem_append, not_or] at hnd
    exact hnd.1
  rw [List.foldl_append, List.foldl_cons, ← (s.foldl_hqcLatchPt_sameLatch hb).pt]
  exact (State.hqcLatchPt_latched _ m).same (State.foldl_hqcLatchPt_sameLatch _ ha)

/-! ### The boundary's latch (R82, R83) -/

/-- The count of latches and the boundary's seconds in their registers. -/
def State.showBill (s : State) (b : Nat) : State := (s.addWrap F.HQC_BILL_SEQ.SEQ 1).set F.HQC_BILL_SEC.SEC (b / 10 ^ 9 % 2 ^ 32)

/-- The boundary b is passed, and the next one is ahead. -/
def State.passBoundary (s : State) (b next : Nat) : State := { s with hqc := { s.hqc with lastB := b, nextB := next } }

@[simp] theorem State.passBoundary_word (s : State) (b next k : Nat) : (s.passBoundary b next).word k = s.word k := rfl
@[simp] theorem State.passBoundary_get (s : State) (b next : Nat) (f : Fld) : (s.passBoundary b next).get f = s.get f := rfl
@[simp] theorem State.passBoundary_lastB (s : State) (b next : Nat) : (s.passBoundary b next).hqc.lastB = b := rfl
@[simp] theorem State.passBoundary_nextB (s : State) (b next : Nat) : (s.passBoundary b next).hqc.nextB = next := rfl
@[simp] theorem State.passBoundary_hqcPt (s : State) (b next m : Nat) : (s.passBoundary b next).hqcPt m = s.hqcPt m := rfl

/-- The state with the points latched and the boundary shown. -/
def State.billed (s : State) : State := (s.hqcPts.foldl State.hqcLatchPt s).showBill s.hqc.nextB

theorem State.hqcLatch_eq (s : State) : s.hqcLatch = s.billed.passBoundary s.hqc.nextB (s.hqc.nextB + s.billed.billNs) := by
  unfold State.hqcLatch State.passBoundary State.billed State.showBill
  rfl

/-- A global register keeps its value while points are latched. -/
theorem State.foldl_hqcLatchPt_get (s : State) (ms : List Nat) {f : Fld} (hf : f.key < 0x0B0100) :
    (ms.foldl State.hqcLatchPt s).get f = s.get f := by
  induction ms generalizing s with
  | nil => rfl
  | cons m ms ih =>
    have hset : f.key ∉ frozenKeys 0x0B m := fun h => by
      have := mem_frozenKeys_hqc h
      omega
    rw [List.foldl_cons, ih, State.hqcLatchPt_eq, State.setHqcPt_get]
    exact (s.showLatch_onlyWords m (s.hqcPt m)).1.get f hset (hqcGlobal_not_alarm hf)

theorem State.showBill_seq (s : State) (b : Nat) : (s.showBill b).get F.HQC_BILL_SEQ.SEQ = (s.get F.HQC_BILL_SEQ.SEQ + 1) % 2 ^ 32 := by
  unfold State.showBill State.addWrap
  rw [State.get_set_other _ _ _ _ (.inl (by decide)), State.get_set_same _ _ _ (by decide)]
  exact Nat.mod_mod _ _

theorem State.showBill_sec (s : State) (b : Nat) : (s.showBill b).get F.HQC_BILL_SEC.SEC = b / 10 ^ 9 % 2 ^ 32 := by
  unfold State.showBill
  rw [State.get_set_same _ _ _ (by decide)]
  exact Nat.mod_mod _ _

theorem State.showBill_billNs (s : State) (b : Nat) : (s.showBill b).billNs = s.billNs := by
  unfold State.billNs State.showBill State.addWrap
  rw [State.get_set_other _ _ _ _ (.inl (by decide)), State.get_set_other _ _ _ _ (.inl (by decide))]

theorem SameLatch.showBill (m : Nat) (s : State) (b : Nat) : SameLatch m s (s.showBill b) := by
  unfold State.showBill State.addWrap
  exact (SameLatch.set m s _ _ (by decide)).trans (.set m _ _ _ (by decide))

/-- A boundary's latch has been made: it is counted and shown, and the next one is an interval on. -/
structure BoundaryLatched (s t : State) : Prop where
  seq : t.get F.HQC_BILL_SEQ.SEQ = (s.get F.HQC_BILL_SEQ.SEQ + 1) % 2 ^ 32
  sec : t.get F.HQC_BILL_SEC.SEC = s.hqc.nextB / 10 ^ 9 % 2 ^ 32
  last : t.hqc.lastB = s.hqc.nextB
  next : t.hqc.nextB = s.hqc.nextB + s.billNs
  pts : s.hqcPts.Nodup → ∀ m ∈ s.hqcPts, HqcLatched (s.hqcPt m) m t

theorem BoundaryLatched.settle (h : BoundaryLatched s t) : BoundaryLatched s t.settle where
  seq := (t.settle_get _ (by decide)).trans h.seq
  sec := (t.settle_get _ (by decide)).trans h.sec
  last := by rw [t.settle_hqc, h.last]
  next := by rw [t.settle_hqc, h.next]
  pts hnd m hm := (h.pts hnd m hm).same (.settle m t)

theorem State.billed_billNs (s : State) : s.billed.billNs = s.billNs := by
  rw [State.billed, State.showBill_billNs, State.billNs, State.foldl_hqcLatchPt_get s _ (by decide), State.billNs]

theorem State.hqcLatch_boundaryLatched (s : State) : BoundaryLatched s s.hqcLatch := by
  rw [State.hqcLatch_eq]
  refine ⟨?_, ?_, State.passBoundary_lastB .., ?_, fun hnd m hm => ?_⟩
  · rw [State.passBoundary_get, State.billed, State.showBill_seq, State.foldl_hqcLatchPt_get s _ (by decide)]
  · rw [State.passBoundary_get, State.billed, State.showBill_sec]
  · rw [State.passBoundary_nextB, State.billed_billNs]
  · have hshown : HqcLatched (s.hqcPt m) m s.billed := (s.foldl_hqcLatchPt_latched hnd hm).same (.showBill m _ _)
    exact hshown.same ⟨State.passBoundary_hqcPt .., fun _ _ => State.passBoundary_word ..⟩

/-! ### HQC_BILL_TIMEOUT (R82) -/

theorem hqcBillTimeout_due (hrun : s.bit F.HQC_STAT.RUN = true) (hdue : s.hqc.nextB ≤ s.now) : hqcBillTimeout s = s.hqcLatch := by
  rw [hqcBillTimeout, hrun, decide_eq_true hdue]
  rfl

theorem exec_hqcBillTimeout (dt : Nat) (s : State) : exec (.hqcBillTimeout dt) s = .next (hqcBillTimeout (s.elapse dt)).settle := rfl

theorem exec_hqcBillTimeout_latches {dt : Nat} (hrun : s.bit F.HQC_STAT.RUN = true) (hdue : s.hqc.nextB ≤ (s.elapse dt).now) :
    ∃ t, exec (.hqcBillTimeout dt) s = .next t ∧ BoundaryLatched s t := by
  have hlatch := (s.elapse dt).hqcLatch_boundaryLatched.settle
  refine ⟨_, exec_hqcBillTimeout dt s, ?_⟩
  rw [hqcBillTimeout_due (s := s.elapse dt) hrun hdue]
  exact ⟨hlatch.seq, hlatch.sec, hlatch.last, hlatch.next, hlatch.pts⟩

end Sys2Proof.Machine
end

section
/-! The samples of HQC's points (R72, R73): which instant a point's last sample is of. -/
namespace Sys2Proof.Machine

variable {s t u : State} {time up m : Nat} {ms : List Nat}

/-! ### The instant of a point's last sample -/

/-- Whether a point holds a sample, and the module time and uptime of its last one. -/
def HqcPt.mark (x : HqcPt) : Bool × Nat × Nat := (x.has, x.time, x.up)

/-- A point was offered a sample of an instant: it took it, or holds one less than 1 ms older and keeps it (R75). -/
def HqcPt.Offered (time up : Nat) (x y : HqcPt) : Prop :=
  y.mark = (true, time, up) ∨ y.mark = x.mark ∧ x.has = true ∧ up < x.up + 250000

theorem HqcPt.Offered.congr {x x' y y' : HqcPt} (h : HqcPt.Offered time up x y) (hx : x'.mark = x.mark) (hy : y'.mark = y.mark) :
    HqcPt.Offered time up x' y' := by
  have hhas : x'.has = x.has := congrArg Prod.fst hx
  have hup : x'.up = x.up := congrArg (fun p => p.2.2) hx
  rcases h with h | ⟨h, hold, hnew⟩
  · exact .inl (hy.trans h)
  · exact .inr ⟨hy.trans (h.trans hx.symm), hhas.trans hold, hup ▸ hnew⟩

theorem HqcPt.Offered.trans {x y z : HqcPt} (h1 : HqcPt.Offered time up x y) (h2 : HqcPt.Offered time up y z) :
    HqcPt.Offered time up x z := by
  rcases h2 with h2 | ⟨h2, -, -⟩
  · exact .inl h2
  · exact h1.congr rfl h2

theorem HqcPt.Offered.has {x y : HqcPt} (h : HqcPt.Offered time up x y) : y.has = true := by
  rcases h with h | ⟨h, hold, -⟩
  · exact congrArg Prod.fst h
  · exact (congrArg Prod.fst h).trans hold

/-- A point without a sample, or one at least 1 ms old, takes the new one. -/
theorem HqcPt.Offered.taken {x y : HqcPt} (h : HqcPt.Offered time up x y) (hdue : x.has = false ∨ x.up + 250000 ≤ up) :
    y.time = time ∧ y.up = up := by
  rcases h with h | ⟨-, hold, hnew⟩
  · simp only [HqcPt.mark, Prod.mk.injEq] at h
    exact h.2
  · rcases hdue with hnone | hdue
    · rw [hold] at hnone
      exact absurd hnone (by decide)
    · omega

/-- The listed points were offered a sample of an instant; every other point's last sample is as before, and no time passed. -/
structure Samples (time up : Nat) (ms : List Nat) (s t : State) : Prop where
  clock : t.clock = s.clock
  listed : ∀ j ∈ ms, HqcPt.Offered time up (s.hqcPt j) (t.hqcPt j)
  other : ∀ j ∉ ms, (t.hqcPt j).mark = (s.hqcPt j).mark

/-- No point was offered a sample. -/
abbrev KeepsSamples (s t : State) : Prop := Samples 0 0 [] s t

theorem KeepsSamples.of_hqc (hclock : t.clock = s.clock) (hhqc : t.hqc.pts = s.hqc.pts) : KeepsSamples s t :=
  ⟨hclock, fun _ h => absurd h List.not_mem_nil, fun j _ => by unfold State.hqcPt; rw [hhqc]⟩

theorem KeepsSamples.refl (s : State) : KeepsSamples s s := .of_hqc rfl rfl

theorem KeepsSamples.set (s : State) (f : Fld) (v : Nat) : KeepsSamples s (s.set f v) := .of_hqc rfl rfl
theorem KeepsSamples.addWrap (s : State) (f : Fld) (n : Nat) : KeepsSamples s (s.addWrap f n) := .set ..
theorem KeepsSamples.setBit (s : State) (f : Fld) (b : Bool) : KeepsSamples s (s.setBit f b) := .set ..
theorem KeepsSamples.seti (s : State) (f : Fld) (v : Int) : KeepsSamples s (s.seti f v) := .set ..

theorem KeepsSamples.mark (h : KeepsSamples s t) (j : Nat) : (t.hqcPt j).mark = (s.hqcPt j).mark := h.other j List.not_mem_nil

/-- Writing a point without changing its last sample's instant. -/
theorem KeepsSamples.setHqcPt (s : State) {x : HqcPt} (hx : x.mark = (s.hqcPt m).mark) : KeepsSamples s (s.setHqcPt m x) := by
  refine ⟨rfl, fun _ h => absurd h List.not_mem_nil, fun j _ => ?_⟩
  rw [State.hqcPt_setHqcPt]
  split
  · next hj => rw [hx, hj]
  · rfl

theorem Samples.then_keeps (h : Samples time up ms s t) (hk : KeepsSamples t u) : Samples time up ms s u :=
  ⟨hk.clock.trans h.clock, fun j hj => (h.listed j hj).congr rfl (hk.mark j), fun j hj => (hk.mark j).trans (h.other j hj)⟩

theorem KeepsSamples.then_samples (hk : KeepsSamples s t) (h : Samples time up ms t u) : Samples time up ms s u :=
  ⟨h.clock.trans hk.clock, fun j hj => (h.listed j hj).congr (hk.mark j).symm rfl, fun j hj => (h.other j hj).trans (hk.mark j)⟩

theorem KeepsSamples.foldl {α : Type} {f : State → α → State} (hf : ∀ s a, KeepsSamples s (f s a)) (l : List α) (s : State) :
    KeepsSamples s (l.foldl f s) := by
  induction l generalizing s with
  | nil => exact .refl s
  | cons a l ih => exact (hf s a).then_keeps (ih (f s a))

/-- The point takes the sample. -/
theorem Samples.setHqcPt (s : State) {x : HqcPt} (hx : x.mark = (true, time, up)) : Samples time up [m] s (s.setHqcPt m x) := by
  refine ⟨rfl, fun j hj => ?_, fun j hj => ?_⟩
  · rw [List.mem_singleton.mp hj, State.hqcPt_setHqcPt_same]
    exact .inl hx
  · rw [State.hqcPt_setHqcPt_ne s (fun e => hj (List.mem_singleton.mpr e))]

/-- Points one after the other. -/
theorem Samples.cons (h1 : Samples time up [m] s t) (h2 : Samples time up ms t u) : Samples time up (m :: ms) s u := by
  refine ⟨h2.clock.trans h1.clock, fun j hj => ?_, fun j hj => ?_⟩
  · by_cases hjm : j ∈ [m]
    · by_cases hjs : j ∈ ms
      · exact (h1.listed j hjm).trans (h2.listed j hjs)
      · exact (h1.listed j hjm).congr rfl (h2.other j hjs)
    · have hjs := (List.mem_cons.mp hj).resolve_left (fun e => hjm (List.mem_singleton.mpr e))
      exact (h2.listed j hjs).congr (h1.other j hjm).symm rfl
  · rw [List.mem_cons, not_or] at hj
    exact (h2.other j hj.2).trans (h1.other j (List.mem_singleton.not.mpr hj.1))

/-! ### What adds to a register or latches takes no sample (R75, R79, R83) -/

theorem State.hqcShow_keepsSamples (s : State) (m e v : Nat) : KeepsSamples s (s.hqcShow m e v) :=
  (KeepsSamples.set s ..).then_keeps (.set ..)

theorem State.hqcAdd_keepsSamples (s : State) (m e : Nat) (n : Int) : KeepsSamples s (s.hqcAdd m e n) := by
  unfold State.hqcAdd
  extract_lets x tot
  have hpt : KeepsSamples s (s.setHqcPt m { x with tot := tot }) := .setHqcPt s rfl
  exact hpt.then_keeps (State.hqcShow_keepsSamples ..)

theorem State.hqcAddV_keepsSamples (s : State) (m : Nat) (v : Int) : KeepsSamples s (s.hqcAddV m v) := State.hqcAdd_keepsSamples ..

theorem State.hqcAddQ_keepsSamples (s : State) (m : Nat) (q : Int) : KeepsSamples s (s.hqcAddQ m q) := by
  unfold State.hqcAddQ
  split
  · exact .refl s
  · extract_lets x neg rev s1
    have hs1 : KeepsSamples s s1 := .setHqcPt s rfl
    exact (hs1.then_keeps (State.hqcAdd_keepsSamples ..)).then_keeps (.setBit ..)

/-- The volume and the energy of a step. -/
theorem State.hqcAddVQ_keepsSamples (s : State) (m : Nat) (v q : Int) : KeepsSamples s ((s.hqcAddV m v).hqcAddQ m q) :=
  (s.hqcAddV_keepsSamples m v).then_keeps (State.hqcAddQ_keepsSamples ..)

theorem State.hqcLatchPt_keepsSamples (s : State) (m : Nat) : KeepsSamples s (s.hqcLatchPt m) := by
  have hhqc := s.showLatch_hqc m (s.hqcPt m)
  rw [State.hqcLatchPt_eq]
  refine (KeepsSamples.of_hqc (s.showLatch_clock ..) (congrArg HqcSt.pts hhqc)).then_keeps (.setHqcPt _ ?_)
  rw [State.hqcPt_of_hqc hhqc]
  rfl

theorem State.showBill_keepsSamples (s : State) (b : Nat) : KeepsSamples s (s.showBill b) := by
  unfold State.showBill
  exact (KeepsSamples.addWrap ..).then_keeps (.set ..)

theorem State.billed_keepsSamples (s : State) : KeepsSamples s s.billed :=
  (KeepsSamples.foldl State.hqcLatchPt_keepsSamples _ s).then_keeps (State.showBill_keepsSamples ..)

theorem State.passBoundary_keepsSamples (s : State) (b next : Nat) : KeepsSamples s (s.passBoundary b next) := .of_hqc rfl rfl

theorem State.hqcLatch_keepsSamples (s : State) : KeepsSamples s s.hqcLatch := by
  rw [State.hqcLatch_eq]
  exact s.billed_keepsSamples.then_keeps (State.passBoundary_keepsSamples ..)

/-- A boundary's latch, should it be due. -/
theorem State.latchIf_keepsSamples (s : State) {p : Prop} [Decidable p] : KeepsSamples s (if p then s.hqcLatch else s) :=
  iteInduction (fun _ => s.hqcLatch_keepsSamples) (fun _ => .refl s)

/-! ### A step of a point (R73 to R78) -/

/-- A step offers its sample to its point alone: the first sample, one that closes an outage (R78) and every step taken (R73, R82, R337) write the
point with the sample's instant, and a sample less than 1 ms on leaves it (R75). -/
theorem State.hqcStep_samples (s : State) (m : Nat) (a : HqcSample) : Samples a.time a.up [m] s (s.hqcStep m a) := by
  unfold State.hqcStep
  extract_lets +onlyGivenNames x fs lsb q1 flowBad s0 base dcount
  have htake (u : State) (hu : KeepsSamples s u) (y : HqcPt) (hy : y.mark = base.mark) :
      Samples a.time a.up [m] s (u.setHqcPt m y) := hu.then_samples (.setHqcPt u hy)
  have hs0 : KeepsSamples s s0 := ((KeepsSamples.set s ..).then_keeps (.set ..)).then_keeps (.set ..)
  refine iteInduction (fun _ => htake s0 hs0 base rfl)
    (fun hhas => iteInduction (fun _ => ?_) (fun _ => iteInduction (fun hnew => ?_) (fun _ => ?_)))
  · extract_lets +onlyGivenNames s1
    have hs1 : Samples a.time a.up [m] s s1 := htake s0 hs0 _ rfl
    exact iteInduction (fun _ => hs1.then_keeps (State.hqcAdd_keepsSamples ..)) (fun _ => hs1)
  · refine ⟨rfl, fun j hj => ?_, fun _ _ => rfl⟩
    rw [List.mem_singleton.mp hj]
    exact .inr ⟨rfl, by simpa using hhas, hnew⟩
  extract_lets +onlyGivenNames dt dv rate maxF minF bad tf tr tooFast low cl lowdt pbad v16 q16 r s1 s2 b t0 t1 part
  have hs1 : KeepsSamples s s1 := (((hs0.then_keeps (.setBit ..)).then_keeps (.setBit ..)).then_keeps (.setBit ..)).then_keeps (.setBit ..)
  have hs2 : KeepsSamples s s2 := (hs1.then_keeps (.seti ..)).then_keeps (.seti ..)
  refine iteInduction (fun _ => ?_) (fun _ => iteInduction (fun _ => ?_) (fun _ => ?_))
  · extract_lets +onlyGivenNames y add
    have hadd (u : State) : KeepsSamples u (add u) := u.hqcAddVQ_keepsSamples m r.1 r.2.1
    refine iteInduction (fun _ => ?_) (fun _ => (htake s2 hs2 y rfl).then_keeps (hadd _))
    extract_lets +onlyGivenNames s3
    have hs3 : Samples a.time a.up [m] s s3 :=
      (htake s2 hs2 { y with snap := some (x.tot, x.rev, x.deg, x.gap), rev := 0, deg := r.2.2, gap := false } rfl).then_keeps (hadd _)
    exact hs3.then_keeps (State.latchIf_keepsSamples _)
  · extract_lets +onlyGivenNames va qa s3 s4 y s5 s6
    have hs3 : Samples a.time a.up [m] s s3 := htake s2 hs2 _ rfl
    have hs4 : Samples a.time a.up [m] s s4 := hs3.then_keeps (s3.hqcAddVQ_keepsSamples m va qa)
    have hs5 : Samples a.time a.up [m] s s5 := hs4.then_keeps (.setHqcPt s4 rfl)
    have hs6 : Samples a.time a.up [m] s s6 := hs5.then_keeps (s5.hqcAddVQ_keepsSamples m _ _)
    exact hs6.then_keeps (State.latchIf_keepsSamples _)
  · extract_lets +onlyGivenNames late s3
    have hs3 : Samples a.time a.up [m] s s3 := htake s2 hs2 _ rfl
    exact hs3.then_keeps (State.hqcAddVQ_keepsSamples ..)

/-! ### HQC_LOCAL_STEP (R72) -/

/-- The sample that a local step takes of a point: the pulses, the auxiliary pair's temperatures, the fixed pressure. -/
def State.localSample (pulses : List (Nat × Nat)) (s : State) (m : Nat) : HqcSample :=
  let ap := s.get (T.HQC_PT.AP m)
  let temp := fun a => if s.aiInvalid a then none else some (centi (s.aiVal a))
  ⟨s.now, s.clock.up, (pulses.lookup m).getD 0, temp (2 * ap), temp (2 * ap + 1), some (s.get (T.HQC_PT.P_FIX m))⟩

theorem hqcLocalStep_running (pulses : List (Nat × Nat)) (h : s.bit F.HQC_STAT.RUN = true) :
    hqcLocalStep pulses s = (s.hqcPts.filter (fun m => 4096 ≤ m)).foldl (fun s m => s.hqcStep m (s.localSample pulses m)) s := by
  unfold hqcLocalStep
  rw [h]
  rfl

theorem State.foldl_localSample (pulses : List (Nat × Nat)) (ms : List Nat) (s : State) :
    Samples s.now s.clock.up ms s (ms.foldl (fun s m => s.hqcStep m (s.localSample pulses m)) s) := by
  induction ms generalizing s with
  | nil => exact ⟨rfl, fun _ h => absurd h List.not_mem_nil, fun _ _ => rfl⟩
  | cons m ms ih =>
    have hm : Samples s.now s.clock.up [m] s _ := s.hqcStep_samples m (s.localSample pulses m)
    have hms := ih (s.hqcStep m (s.localSample pulses m))
    rw [State.now, hm.clock] at hms
    exact hm.cons hms

theorem exec_hqcLocalStep (dt : Nat) (pulses : List (Nat × Nat)) (s : State) :
    exec (.hqcLocalStep dt pulses) s = .next (hqcLocalStep pulses (s.elapse dt)).settle := rfl

/-- Each local point is offered a sample of this instant. -/
theorem exec_hqcLocalStep_offers (hrun : s.bit F.HQC_STAT.RUN = true) (dt : Nat) (pulses : List (Nat × Nat)) :
    ∃ t, exec (.hqcLocalStep dt pulses) s = .next t ∧ ∀ m ∈ s.hqcPts, 4096 ≤ m →
      HqcPt.Offered (s.elapse dt).now (s.elapse dt).clock.up (s.hqcPt m) (t.hqcPt m) := by
  refine ⟨_, exec_hqcLocalStep dt pulses s, fun m hm hlocal => ?_⟩
  rw [State.hqcPt_of_hqc (State.settle_hqc _), hqcLocalStep_running (s := s.elapse dt) pulses hrun]
  exact (State.foldl_localSample pulses _ (s.elapse dt)).listed m (List.mem_filter.mpr ⟨hm, by simpa using hlocal⟩)

end Sys2Proof.Machine
end

section
/-! O25, from the rules of the samples and of the latch. -/
namespace Sys2Proof.Machine

/-- Settles O25: a local step offers each local point a sample of its instant, and a boundary that falls due latches each point once. -/
theorem heatStepsAndBillingLatches : Obligations.HeatStepsAndBillingLatches := by
  intro s dt hrun
  refine ⟨fun pulses => ?_, fun hdue => ?_⟩
  · obtain ⟨t, he, hoffered⟩ := exec_hqcLocalStep_offers hrun dt pulses
    exact ⟨t, he, fun m hm hlocal => ⟨(hoffered m hm hlocal).has, (hoffered m hm hlocal).taken⟩⟩
  · obtain ⟨t, he, hlatched⟩ := exec_hqcBillTimeout_latches hrun hdue
    refine ⟨t, he, hlatched.seq, hlatched.sec, hlatched.last, hlatched.next, fun hnd m hm => ?_⟩
    obtain ⟨hpt, hseq, hvalid, htot⟩ := hlatched.pts hnd m hm
    rw [hpt]
    refine ⟨hseq, rfl, rfl, rfl, hvalid, fun e he => (htot e he).trans ?_⟩
    unfold HqcPt.closing
    cases (s.hqcPt m).snap <;> rfl

end Sys2Proof.Machine
end

section
/-! The pager's pages (R119, R123): a byte seen through PGR, the copy of a page between the memories, the page list. -/
namespace Sys2Proof.Machine

variable {s t : State} {n : Nat} {p : Page}

/-! ### Byte memories -/

/-- A byte of a run that was dropped reads as unwritten. -/
theorem memRead_memClear_inside (m : List Host.Cell) {a n b : Nat} (h : a ≤ b ∧ b < a + n) : memRead (memClear m a n) b = 0 := by
  unfold memRead memClear
  induction m with
  | nil => rfl
  | cons e m ih =>
    rw [List.filter_cons]
    split
    · next hkeep =>
      simp only [Bool.or_eq_true, decide_eq_true_eq] at hkeep
      rw [look, if_neg (by omega), ih]
    · exact ih

/-- The value last written to an address by a list of writes, if there is one. -/
def lastWrite (ws : List (Nat × Byte)) (a : Nat) : Option Byte := (ws.reverse.find? (fun w => w.1 == a)).map Prod.snd

theorem lastWrite_append_singleton (ws : List (Nat × Byte)) (w : Nat × Byte) (a : Nat) :
    lastWrite (ws ++ [w]) a = if w.1 = a then some w.2 else lastWrite ws a := by
  unfold lastWrite
  rw [List.reverse_append, List.reverse_singleton, List.singleton_append]
  by_cases h : w.1 = a
  · rw [if_pos h, List.find?_cons_of_pos (by simpa using h), Option.map_some]
  · rw [if_neg h, List.find?_cons_of_neg (by simpa using h)]

/-- Waiting writes take effect in their order: the last one to an address stands. -/
theorem memRead_applyWaits (m : List Host.Cell) (ws : List (Nat × Byte)) (a : Nat) :
    memRead (applyWaits m ws) a = (lastWrite ws a).getD (memRead m a) := by
  induction ws using List.reverseRecOn with
  | nil => rfl
  | append_singleton ws w ih =>
    have hstep : applyWaits m (ws ++ [w]) = memWrite (applyWaits m ws) w.1 w.2 := by simp [applyWaits]
    rw [hstep, memRead_memWrite, ih, lastWrite_append_singleton]
    by_cases h : w.1 = a
    · rw [if_pos h.symm, if_pos h, Option.getD_some]
    · rw [if_neg (Ne.symm h), if_neg h]

/-- In a memory in its canonical form each address is listed once. -/
theorem lastWrite_of_wf {m : List Host.Cell} (h : Memory.wf m) (a : Nat) : (lastWrite m a).getD 0 = memRead m a := by
  replace h := ((canon_iff zeroByte m).mp h).1
  induction m with
  | nil => rfl
  | cons e m ih =>
    obtain ⟨k, v⟩ := e
    obtain ⟨hlt, hm⟩ := List.pairwise_cons.mp h
    by_cases hk : k = a
    · have hnone : m.reverse.find? (fun w => w.1 == a) = none := by
        rw [List.find?_eq_none]
        intro w hw hwa
        have := hlt w.1 (List.mem_map_of_mem (List.mem_reverse.mp hw))
        simp only [beq_iff_eq] at hwa
        omega
      simp [lastWrite, hnone, memRead, look, hk]
    · have hlast : lastWrite ((k, v) :: m) a = lastWrite m a := by simp [lastWrite, hk]
      rw [hlast, ih hm, memRead, memRead, look, if_neg hk]

/-! ### A page's bytes as they move (R119) -/

theorem pageCells_wf {m : List Host.Cell} (h : Memory.wf m) (n : Nat) : Memory.wf (pageCells m n) := canon_filter zeroByte _ m h

theorem copyPage_eq (src dst : List Host.Cell) (n : Nat) :
    copyPage src dst n = applyWaits (memClear dst (4096 * n) 4096) (pageCells src n) := rfl

/-- The copy of a page reads as its source. -/
theorem memRead_copyPage {src : List Host.Cell} (h : Memory.wf src) (dst : List Host.Cell) (n : Nat) {off : Nat} (hoff : off < 4096) :
    memRead (copyPage src dst n) (4096 * n + off) = memRead src (4096 * n + off) := by
  have hin : (4096 * n ≤ 4096 * n + off) ∧ 4096 * n + off < 4096 * n + 4096 := by omega
  rw [copyPage_eq, memRead_applyWaits, memRead_memClear_inside dst hin, lastWrite_of_wf (pageCells_wf h n)]
  exact look_filter zeroByte (fun a => 4096 * n ≤ a && a < 4096 * n + 4096) (by simpa using hin) src

/-! ### A byte seen through PGR (R119, R123) -/

/-- The memory that holds a page's bytes beneath its waiting writes. -/
def State.pageMem (s : State) (p : Page) : List Host.Cell := if p.loading then s.dram else s.cache

/-- A page in the cache or on its way shows its memory with the waiting writes applied. -/
theorem State.pageByte_of_page (h : s.page? n = some p) (off : Nat) :
    s.pageByte n off = memRead (applyWaits (s.pageMem p) p.waits) (4096 * n + off) := by
  rw [memRead_applyWaits]
  simp only [State.pageByte, h, lastWrite, State.pageMem]
  cases p.waits.reverse.find? (fun w => w.1 == 4096 * n + off) with
  | some w => rfl
  | none => cases p.loading <;> rfl

/-- Any other page shows DRAM. -/
theorem State.pageByte_absent (h : s.page? n = none) (off : Nat) : s.pageByte n off = memRead s.dram (4096 * n + off) := by
  simp only [State.pageByte, h]

/-- The page list and the two memories decide what PGR shows. -/
theorem State.pageByte_congr (hp : t.pgr.pages = s.pgr.pages) (hd : t.dram = s.dram) (hc : t.cache = s.cache) (n off : Nat) :
    t.pageByte n off = s.pageByte n off := by
  simp only [State.pageByte, State.page?, hp, hd, hc]

theorem State.page?_congr (hp : t.pgr.pages = s.pgr.pages) (n : Nat) : t.page? n = s.page? n := by
  simp only [State.page?, hp]

/-! ### The page list -/

theorem State.page?_stn (h : s.page? n = some p) : p.stn = n := by simpa using List.find?_some h

/-- A change of a page's entry that keeps its station. -/
theorem State.page?_updPage (s : State) {m : Nat} {f : Page → Page} (hf : ∀ p, (f p).stn = p.stn) (n : Nat) :
    (s.updPage m f).page? n = (s.page? n).map (fun p => if p.stn = m then f p else p) := by
  have hstn (p : Page) : (if p.stn = m then f p else p).stn = p.stn := by split <;> simp [hf]
  simp only [State.page?, State.updPage, List.find?_map, Function.comp_def, hstn]

theorem State.page?_updPage_same (h : s.page? n = some p) {f : Page → Page} (hf : ∀ p, (f p).stn = p.stn) :
    (s.updPage n f).page? n = some (f p) := by
  rw [s.page?_updPage hf, h, Option.map_some, if_pos (State.page?_stn h)]

theorem State.page?_updPage_ne (s : State) {m : Nat} (hne : n ≠ m) {f : Page → Page} (hf : ∀ p, (f p).stn = p.stn) :
    (s.updPage m f).page? n = s.page? n := by
  rw [s.page?_updPage hf]
  cases h : s.page? n with
  | none => rfl
  | some p => rw [Option.map_some, if_neg (by rw [State.page?_stn h]; exact hne)]

/-- Taking a page from the cache leaves the other pages. -/
theorem find?_filter_stn (l : List Page) (n m : Nat) :
    (l.filter (fun q => q.stn != n)).find? (fun q => q.stn == m) = if m = n then none else l.find? (fun q => q.stn == m) := by
  rw [List.find?_filter]
  split
  · next h => subst h; simp
  · next h =>
    congr 1
    funext q
    rw [Bool.eq_iff_iff]
    simp only [bne_iff_ne, ne_eq, Bool.decide_and, Bool.and_eq_true, decide_eq_true_eq, beq_iff_eq]
    constructor
    · exact fun h => h.2
    · exact fun h' => ⟨fun e => h (h'.symm.trans e), h'⟩

/-! ### The counts of PGR_STAT -/

theorem State.get_showPages (s : State) (f : Fld) (h : f.key ≠ R.PGR_STAT) : s.showPages.get f = s.get f :=
  (State.get_setBit_other _ _ _ _ (.inl h)).trans (State.get_set_other _ _ _ _ (.inl h))

/-- A page's resident bit fits its word, which is not the alarm's. -/
theorem resFld_key {n : Nat} (h : n < 4096) : (resFld n).key ≠ R.PGR_STAT ∧ (resFld n).key ∉ alarmKeys := by
  change 0x040400 + 0x4 * (n / 32) ≠ 0x040004 ∧ 0x040400 + 0x4 * (n / 32) ∉ [0x100028, 0x100004]
  simp only [List.mem_cons, List.not_mem_nil, or_false]
  omega

end Sys2Proof.Machine
end

section
/-! A completed load or write-back (R119, R123): the page's entry, and that no byte of the page changes. -/
namespace Sys2Proof.Machine

variable {s t : State} {n : Nat} {p : Page}

/-! ### PAGE_LOAD_DONE (R123) -/

/-- The entry of a page whose load has completed. -/
def Page.loaded (p : Page) (stamp : Nat) : Page := { p with loading := false, waits := [], dirty := !p.waits.isEmpty, stamp := stamp }

theorem State.finishLoad_eq (h : s.page? n = some p) (hl : p.loading = true) :
    s.finishLoad n = (({ s with cache := applyWaits (copyPage s.dram s.cache n) p.waits }.updPage n
      (fun q => { q with loading := false, waits := [], dirty := !p.waits.isEmpty, stamp := s.pgr.stamp })).set (resFld n) 1).showPages := by
  simp only [State.finishLoad, h, hl, if_true]

theorem State.finishLoad_page (h : s.page? n = some p) (hl : p.loading = true) :
    (s.finishLoad n).page? n = some (p.loaded s.pgr.stamp) := by
  rw [State.finishLoad_eq h hl]
  exact State.page?_updPage_same (s := { s with cache := applyWaits (copyPage s.dram s.cache n) p.waits }) h (fun _ => rfl)

theorem State.finishLoad_dram (h : s.page? n = some p) (hl : p.loading = true) : (s.finishLoad n).dram = s.dram := by
  rw [State.finishLoad_eq h hl]
  rfl

/-- The loaded copy, with the writes that waited, shows what DRAM and those writes showed. -/
theorem State.finishLoad_pageByte (h : s.page? n = some p) (hl : p.loading = true) (hwf : Memory.wf s.dram) {off : Nat} (hoff : off < 4096) :
    (s.finishLoad n).pageByte n off = s.pageByte n off := by
  have hcache : (s.finishLoad n).cache = applyWaits (copyPage s.dram s.cache n) p.waits := by
    rw [State.finishLoad_eq h hl]
    rfl
  have hafter : (s.finishLoad n).pageByte n off = memRead (applyWaits (copyPage s.dram s.cache n) p.waits) (4096 * n + off) := by
    rw [State.pageByte_of_page (State.finishLoad_page h hl), ← hcache]
    rfl
  rw [hafter, State.pageByte_of_page h, State.pageMem, if_pos hl, memRead_applyWaits, memRead_applyWaits, memRead_copyPage hwf _ _ hoff]

theorem State.finishLoad_res (h : s.page? n = some p) (hl : p.loading = true) (hn : n < 4096) : (s.finishLoad n).bit (resFld n) = true := by
  have hfit : (resFld n).lsb + (resFld n).width ≤ 32 := by simp only [resFld]; omega
  rw [State.finishLoad_eq h hl, State.bit, State.get_showPages _ _ (resFld_key hn).1]
  exact State.bit_setBit_same _ (resFld n) true hfit Nat.one_pos

theorem exec_pageLoadDone (dt n : Nat) (s : State) : exec (.pageLoadDone dt n) s = .next ((s.elapse dt).finishLoad n).settle := rfl

/-- A completed load makes the page resident, with its waiting writes applied, and no byte of it changes. -/
theorem exec_pageLoadDone_resident (dt : Nat) (hn : n < 4096) (h : s.page? n = some p) (hl : p.loading = true) (hwf : Memory.wf s.dram) :
    ∃ t, exec (.pageLoadDone dt n) s = .next t ∧ t.bit (resFld n) = true ∧ t.resident n = !p.writing ∧
      (t.page? n).map Page.waits = some [] ∧ (t.page? n).map Page.dirty = some (!p.waits.isEmpty) ∧ t.dram = s.dram ∧
      ∀ off, off < 4096 → t.pageByte n off = s.pageByte n off := by
  have h' : (s.elapse dt).page? n = some p := h
  have hpage : ((s.elapse dt).finishLoad n).settle.page? n = some (p.loaded (s.elapse dt).pgr.stamp) :=
    (State.page?_congr (by rw [State.settle_pgr]) n).trans (State.finishLoad_page h' hl)
  refine ⟨_, exec_pageLoadDone dt n s, ?_, ?_, by rw [hpage]; rfl, by rw [hpage]; rfl, ?_, fun off hoff => ?_⟩
  · rw [State.settle_bit _ _ (resFld_key hn).2, State.finishLoad_res h' hl hn]
  · simp only [State.resident, hpage, Page.loaded, Bool.not_false, Bool.true_and]
  · rw [State.settle_dram, State.finishLoad_dram h' hl]
    rfl
  · exact (State.pageByte_congr (by rw [State.settle_pgr]) (State.settle_dram _) (State.settle_cache _) n off).trans
      (State.finishLoad_pageByte h' hl hwf hoff)

/-! ### WRITE_BACK_DONE (R123) -/

theorem State.finishWriteBack_eq (h : s.page? n = some p) (hw : p.writing = true) :
    s.finishWriteBack n = { s with
      dram := applyWaits (copyPage s.cache s.dram n) p.waits, cache := memClear s.cache (4096 * n) 4096,
      pgr := { s.pgr with pages := s.pgr.pages.filter (fun q => q.stn != n) } } := by
  simp only [State.finishWriteBack, h, hw, if_true]

theorem State.finishWriteBack_absent (h : s.page? n = none) : s.finishWriteBack n = s := by
  simp only [State.finishWriteBack, h]

theorem State.finishWriteBack_page (h : s.page? n = some p) (hw : p.writing = true) (m : Nat) :
    (s.finishWriteBack n).page? m = if m = n then none else s.page? m := by
  rw [State.finishWriteBack_eq h hw]
  exact find?_filter_stn s.pgr.pages n m

/-- DRAM takes the cache copy and then the writes that waited, as PGR showed them. -/
theorem State.finishWriteBack_pageByte (h : s.page? n = some p) (hw : p.writing = true) (hl : p.loading = false) (hwf : Memory.wf s.cache)
    {off : Nat} (hoff : off < 4096) : (s.finishWriteBack n).pageByte n off = s.pageByte n off := by
  have hdram : (s.finishWriteBack n).dram = applyWaits (copyPage s.cache s.dram n) p.waits := by rw [State.finishWriteBack_eq h hw]
  have hmem : s.pageMem p = s.cache := by rw [State.pageMem, hl]; rfl
  rw [State.pageByte_absent ((State.finishWriteBack_page h hw n).trans (if_pos rfl)), hdram, State.pageByte_of_page h, hmem,
    memRead_applyWaits, memRead_applyWaits, memRead_copyPage hwf _ _ hoff]

theorem exec_writeBackDone (dt n : Nat) (s : State) :
    exec (.writeBackDone dt n) s = .next ((s.elapse dt).finishWriteBack n).showPages.settle := rfl

/-- A completed write-back takes the page from the cache, and no byte of it changes. -/
theorem exec_writeBackDone_gone (dt : Nat) (h : s.page? n = some p) (hw : p.writing = true) (hl : p.loading = false) (hwf : Memory.wf s.cache) :
    ∃ t, exec (.writeBackDone dt n) s = .next t ∧ t.page? n = none ∧ (∀ m, m ≠ n → t.page? m = s.page? m) ∧
      ∀ off, off < 4096 → t.pageByte n off = s.pageByte n off := by
  have h' : (s.elapse dt).page? n = some p := h
  have hpgr := State.settle_pgr ((s.elapse dt).finishWriteBack n).showPages
  have hpage (m : Nat) := (State.page?_congr (congrArg PgrSt.pages hpgr) m).trans (State.finishWriteBack_page h' hw m)
  refine ⟨_, exec_writeBackDone dt n s, (hpage n).trans (if_pos rfl), fun m hm => (hpage m).trans (if_neg hm), fun off hoff => ?_⟩
  exact (State.pageByte_congr (congrArg PgrSt.pages hpgr) (State.settle_dram _) (State.settle_cache _) n off).trans
    (State.finishWriteBack_pageByte h' hw hl hwf hoff)

end Sys2Proof.Machine
end

section
/-! Prefetching (R120, R121): what a ring wants, the load it starts, the entries it passes over. -/
namespace Sys2Proof.Machine

variable {s t : State} {n : Nat} {p : Page}

/-! ### What a ring wants (R120, R121) -/

/-- One entry of a ring: what is wanted so far, and whether an entry was passed over. -/
def State.wantStep (s : State) (acc : Option Nat × Bool) (n : Nat) : Option Nat × Bool :=
  if acc.1.isSome then acc
  else if !s.stnPresent n || !s.bit (T.SIO_STN.EN n) then (none, true)
  else if (s.page? n).isSome then acc
  else (some n, acc.2)

theorem State.wanted_eq (s : State) (ring : List Nat) : s.wanted ring = (s.ahead ring).foldl s.wantStep (none, false) := rfl

theorem State.ahead_cons (h : 0 < s.get F.PGR_CFG.PF_DEPTH) (n : Nat) (l : List Nat) : ∃ l', s.ahead (n :: l) = n % 4096 :: l' := by
  obtain ⟨d, hd⟩ := Nat.exists_eq_succ_of_ne_zero (Nat.ne_of_gt h)
  exact ⟨(l.take d).map (· % 4096), by simp only [State.ahead, hd, List.take_succ_cons, List.map_cons]⟩

theorem State.wanted_nil (s : State) : s.wanted [] = (none, false) := by simp [State.wanted_eq, State.ahead]

theorem State.foldl_wantStep_found (s : State) (l : List Nat) (n : Nat) (b : Bool) : l.foldl s.wantStep (some n, b) = (some n, b) := by
  induction l with
  | nil => rfl
  | cons m l ih => exact ih

theorem State.foldl_wantStep_bad (s : State) (l : List Nat) (x : Option Nat) : (l.foldl s.wantStep (x, true)).2 = true := by
  induction l generalizing x with
  | nil => rfl
  | cons m l ih =>
    have hstep : ∃ y, s.wantStep (x, true) m = (y, true) := by
      unfold State.wantStep
      repeat' split
      all_goals exact ⟨_, rfl⟩
    obtain ⟨y, hy⟩ := hstep
    rw [List.foldl_cons, hy, ih]

/-- The first entry ahead, of an enabled station whose page is not there, is what a ring wants. -/
theorem State.wanted_first (h : 0 < s.get F.PGR_CFG.PF_DEPTH) {l : List Nat} (hp : s.stnPresent (n % 4096) = true)
    (he : s.bit (T.SIO_STN.EN (n % 4096)) = true) (hpage : s.page? (n % 4096) = none) : s.wanted (n :: l) = (some (n % 4096), false) := by
  obtain ⟨l', hl⟩ := State.ahead_cons h n l
  have hstep : s.wantStep (none, false) (n % 4096) = (some (n % 4096), false) := by simp [State.wantStep, hp, he, hpage]
  rw [State.wanted_eq, hl, List.foldl_cons, hstep, State.foldl_wantStep_found]

/-- An entry of a disabled station is passed over. -/
theorem State.wanted_disabled (h : 0 < s.get F.PGR_CFG.PF_DEPTH) {l : List Nat} (he : s.bit (T.SIO_STN.EN (n % 4096)) = false) :
    (s.wanted (n :: l)).2 = true := by
  obtain ⟨l', hl⟩ := State.ahead_cons h n l
  have hstep : s.wantStep (none, false) (n % 4096) = (none, true) := by simp [State.wantStep, he]
  rw [State.wanted_eq, hl, List.foldl_cons, hstep, State.foldl_wantStep_bad]

/-! ### PREFETCH_ISSUE (R121) -/

/-- Entries of both rings that are passed over, and the page to load: the loop engine's ring first. -/
def State.prefetchPlan (s : State) : Bool × Option Nat :=
  let w := s.wanted s.pgr.ringL
  let c := s.wanted s.pgr.ringC
  (w.2 || (w.1.isNone && c.2), w.1.orElse (fun _ => c.1))

/-- VLIST_BAD where an entry was passed over. -/
def State.noteVlist (s : State) (bad : Bool) : State := if bad then s.flag F.PGR_ERR.VLIST_BAD else s

/-- The load of the page the plan names, counted. -/
def State.loadPlanned (s : State) : Option Nat → State
  | some stn => (s.startLoad stn).inc F.PGR_PF_CNT.COUNT
  | none => s

/-- The pager runs and prefetches (R121). -/
structure Prefetches (s : State) : Prop where
  run : s.bit F.PGR_STAT.RUN = true
  ahead : s.bit F.PGR_CFG.LRU_ONLY = false
  depth : 0 < s.get F.PGR_CFG.PF_DEPTH

/-- Fewer than 16 loads are in flight, and there is room for a page. -/
structure PrefetchRoom (s : State) : Prop where
  loads : (s.pgr.pages.filter (fun p => p.loading)).length < 16
  room : (s.pgr.pages.filter (fun p => !p.writing)).length < 1024

/-- The entry whose page is looked for first: the loop engine's, or the cycle engine's where the loop engine's ring is empty. -/
def State.firstEntry (s : State) (n : Nat) (l : List Nat) : Prop := s.pgr.ringL = n :: l ∨ (s.pgr.ringL = [] ∧ s.pgr.ringC = n :: l)

theorem prefetch_full (h : 16 ≤ (s.pgr.pages.filter (fun p => p.loading)).length) : prefetch s = s := by
  unfold prefetch
  rw [if_pos (by simp [h])]

theorem prefetch_free (h : Prefetches s) (hload : (s.pgr.pages.filter (fun p => p.loading)).length < 16) :
    prefetch s = (s.noteVlist s.prefetchPlan.1).loadPlanned s.prefetchPlan.2 := by
  unfold prefetch
  rw [if_neg (by simp [h.run, h.ahead]; omega)]
  simp only [State.prefetchPlan, State.noteVlist, State.loadPlanned]
  rfl

theorem State.prefetchPlan_first (h : Prefetches s) {l : List Nat} (hring : s.firstEntry n l) (hp : s.stnPresent (n % 4096) = true)
    (he : s.bit (T.SIO_STN.EN (n % 4096)) = true) (hpage : s.page? (n % 4096) = none) : s.prefetchPlan = (false, some (n % 4096)) := by
  have hw := State.wanted_first (l := l) h.depth hp he hpage
  rcases hring with hL | ⟨hL, hC⟩
  · simp [State.prefetchPlan, hL, hw]
  · simp [State.prefetchPlan, hL, hC, hw, State.wanted_nil]

theorem State.prefetchPlan_disabled (h : Prefetches s) {l : List Nat} (hring : s.firstEntry n l)
    (he : s.bit (T.SIO_STN.EN (n % 4096)) = false) : s.prefetchPlan.1 = true := by
  have hw := State.wanted_disabled (l := l) h.depth he
  rcases hring with hL | ⟨hL, hC⟩
  · simp [State.prefetchPlan, hL, hw]
  · simp [State.prefetchPlan, hL, hC, hw, State.wanted_nil]

/-- The page that a plan names is not there. -/
theorem State.wanted_absent (s : State) (ring : List Nat) (h : (s.wanted ring).1 = some n) : s.page? n = none := by
  have hfold (l : List Nat) (x : Option Nat × Bool) (hx : ∀ m, x.1 = some m → s.page? m = none) :
      ∀ m, (l.foldl s.wantStep x).1 = some m → s.page? m = none := by
    induction l generalizing x with
    | nil => exact hx
    | cons k l ih =>
      refine ih _ (fun m hm => ?_)
      unfold State.wantStep at hm
      split at hm
      · exact hx m hm
      · split at hm
        · exact absurd hm (by simp)
        · split at hm
          · exact hx m hm
          · next hk => rw [← Option.some.inj hm]; simpa using hk
  exact hfold (s.ahead ring) (none, false) (fun m hm => absurd hm (by simp)) n h

theorem State.prefetchPlan_absent (h : s.prefetchPlan.2 = some n) : s.page? n = none := by
  unfold State.prefetchPlan at h
  cases hw : (s.wanted s.pgr.ringL).1 with
  | some m => exact State.wanted_absent s s.pgr.ringL (by simpa [hw] using h)
  | none => exact State.wanted_absent s s.pgr.ringC (by simpa [hw] using h)

/-- The entry of a page whose load starts. -/
def Page.starting (n stamp : Nat) : Page := ⟨n, false, stamp, true, false, []⟩

/-- With room, a load that starts adds the page's entry. -/
theorem State.startLoad_eq (hpage : s.page? n = none) (hroom : (s.pgr.pages.filter (fun p => !p.writing)).length < 1024) :
    s.startLoad n = { s with pgr := { s.pgr with pages := s.pgr.pages ++ [Page.starting n s.pgr.stamp] } }.showPages := by
  have hmake : s.makeRoom = s := if_pos hroom
  simp only [State.startLoad, State.finishWriteBack_absent hpage, hmake]
  rfl

theorem State.get_startLoad (hpage : s.page? n = none) (hroom : (s.pgr.pages.filter (fun p => !p.writing)).length < 1024) (f : Fld)
    (hf : f.key ≠ R.PGR_STAT) : (s.startLoad n).get f = s.get f := by
  rw [State.startLoad_eq hpage hroom, State.get_showPages _ _ hf]
  rfl

theorem exec_prefetchIssue (dt : Nat) (s : State) : exec (.prefetchIssue dt) s = .next (prefetch (s.elapse dt)).settle := rfl

/-- The first entry ahead is loaded, and counted. -/
theorem exec_prefetchIssue_loads (dt : Nat) (h : Prefetches s) (hr : PrefetchRoom s) {l : List Nat} (hring : s.firstEntry n l)
    (hp : s.stnPresent (n % 4096) = true) (he : s.bit (T.SIO_STN.EN (n % 4096)) = true) (hpage : s.page? (n % 4096) = none) :
    ∃ t, exec (.prefetchIssue dt) s = .next t ∧ t.pgr.pages = s.pgr.pages ++ [Page.starting (n % 4096) s.pgr.stamp] ∧
      t.get F.PGR_PF_CNT.COUNT = min (s.get F.PGR_PF_CNT.COUNT + 1) 0xFFFFFFFF ∧ t.dram = s.dram ∧ t.cache = s.cache := by
  have hplan : (s.elapse dt).prefetchPlan = (false, some (n % 4096)) :=
    State.prefetchPlan_first (s := s.elapse dt) ⟨h.run, h.ahead, h.depth⟩ hring hp he hpage
  have hload : prefetch (s.elapse dt) = ((s.elapse dt).startLoad (n % 4096)).inc F.PGR_PF_CNT.COUNT := by
    rw [prefetch_free (s := s.elapse dt) ⟨h.run, h.ahead, h.depth⟩ hr.loads, hplan]
    rfl
  have hstart := State.startLoad_eq (s := s.elapse dt) hpage hr.room
  refine ⟨_, exec_prefetchIssue dt s, ?_, ?_, ?_, ?_⟩
  · rw [State.settle_pgr, hload, hstart]
    rfl
  · rw [State.settle_get _ _ (by decide), hload, State.get_inc_same _ _ (by decide),
      State.get_startLoad (s := s.elapse dt) hpage hr.room _ (by decide)]
    rfl
  · rw [State.settle_dram, hload, hstart]
    rfl
  · rw [State.settle_cache, hload, hstart]
    rfl

/-- VLIST_BAD stays while the planned load starts. -/
theorem State.bit_loadPlanned (hroom : (s.pgr.pages.filter (fun p => !p.writing)).length < 1024) {x : Option Nat}
    (hx : ∀ n, x = some n → s.page? n = none) : (s.loadPlanned x).bit F.PGR_ERR.VLIST_BAD = s.bit F.PGR_ERR.VLIST_BAD := by
  cases x with
  | none => rfl
  | some n =>
    unfold State.bit State.loadPlanned State.inc
    rw [State.get_set_other _ _ _ _ (by decide), State.get_startLoad (hx n rfl) hroom _ (by decide)]

/-- An entry of a disabled station is passed over with VLIST_BAD. -/
theorem exec_prefetchIssue_vlistBad (dt : Nat) (h : Prefetches s) (hr : PrefetchRoom s) {l : List Nat} (hring : s.firstEntry n l)
    (he : s.bit (T.SIO_STN.EN (n % 4096)) = false) :
    ∃ t, exec (.prefetchIssue dt) s = .next t ∧ t.bit F.PGR_ERR.VLIST_BAD = true := by
  refine ⟨_, exec_prefetchIssue dt s, ?_⟩
  have hbad : (s.elapse dt).prefetchPlan.1 = true := State.prefetchPlan_disabled (s := s.elapse dt) ⟨h.run, h.ahead, h.depth⟩ hring he
  rw [State.settle_bit _ _ (by decide), prefetch_free (s := s.elapse dt) ⟨h.run, h.ahead, h.depth⟩ hr.loads, hbad,
    State.bit_loadPlanned (s := (s.elapse dt).noteVlist true) hr.room (fun m hm => State.prefetchPlan_absent (s := s.elapse dt) hm)]
  exact State.bit_flag_same _ _ rfl (by decide)

/-- With 16 loads in flight nothing starts. -/
theorem exec_prefetchIssue_full (dt : Nat) (h : 16 ≤ (s.pgr.pages.filter (fun p => p.loading)).length) :
    ∃ t, exec (.prefetchIssue dt) s = .next t ∧ OnlyWords [] (s.elapse dt) t := by
  refine ⟨_, exec_prefetchIssue dt s, ?_⟩
  rw [prefetch_full (s := s.elapse dt) h]
  exact (OnlyWords.refl _ _).settle

end Sys2Proof.Machine
end

section
/-! O31, from the rules of the page moves and of prefetching. -/
namespace Sys2Proof.Machine

/-- Settles O31: a prefetch loads the first page ahead or passes its entry over, and a completed load or write-back shows the same bytes. -/
theorem pagesMoveWithoutLosingAByte : Obligations.PagesMoveWithoutLosingAByte := by
  intro s dt
  refine ⟨fun hrun hlru hdepth => ⟨fun hloads hroom n l hring hpage => ?_, exec_prefetchIssue_full dt⟩,
    fun n p hn hpage hl hwf => exec_pageLoadDone_resident dt hn hpage hl hwf,
    fun n p _ hpage hw hl hwf => exec_writeBackDone_gone dt hpage hw hl hwf⟩
  have hpf : Prefetches s := ⟨hrun, hlru, hdepth⟩
  exact ⟨fun hp he => exec_prefetchIssue_loads dt hpf ⟨hloads, hroom⟩ hring hp he hpage,
    fun he => exec_prefetchIssue_vlistBad dt hpf ⟨hloads, hroom⟩ hring he⟩

end Sys2Proof.Machine
end

section
/-! Which blocks logging, a group's trip and a safe state write words of (R183, R428, R487), and that a raised source is latched (R425). -/
namespace Sys2Proof.Machine

variable {bs : List Nat} {s t u : State}

/-! ### Words outside some blocks -/

theorem SameOutside.of_words (h : t.words = s.words) : SameOutside bs s t := fun k _ _ => by unfold State.word; rw [h]

theorem SameOutside.refl (bs : List Nat) (s : State) : SameOutside bs s s := .of_words rfl

theorem SameOutside.trans (h1 : SameOutside bs s t) (h2 : SameOutside bs t u) : SameOutside bs s u :=
  fun k hk hal => (h2 k hk hal).trans (h1 k hk hal)

theorem SameOutside.mono {cs : List Nat} (h : SameOutside bs s t) (hs : bs ⊆ cs) : SameOutside cs s t :=
  fun k hk hal => h k (fun hin => hk (hs hin)) hal

theorem SameOutside.setWord (h : SameOutside bs s t) (k : Nat) (v : Word) (hk : keyBlock k ∈ bs) : SameOutside bs s (t.setWord k v) :=
  fun j hj hal => (t.word_setWord_ne v (fun e => hj (by rw [e]; exact hk))).trans (h j hj hal)

theorem SameOutside.set (h : SameOutside bs s t) (f : Fld) (v : Nat) (hf : keyBlock f.key ∈ bs) : SameOutside bs s (t.set f v) :=
  h.setWord _ _ hf

theorem SameOutside.flag (h : SameOutside bs s t) (f : Fld) (hf : keyBlock f.key ∈ bs) : SameOutside bs s (t.flag f) := h.set f 1 hf

/-- Words of the alarm are not restricted. -/
theorem SameOutside.setAlarm (h : SameOutside bs s t) (f : Fld) (v : Nat) (hf : f.key ∈ alarmKeys) : SameOutside bs s (t.set f v) :=
  fun k hk hal => (t.word_set_other f v k (fun e => hal (e ▸ hf))).trans (h k hk hal)

/-- A step repeated over a list. -/
theorem SameOutside.foldl {α : Type} {f : State → α → State} {l : List α} (hf : ∀ s, ∀ a ∈ l, SameOutside bs s (f s a)) (s : State) :
    SameOutside bs s (l.foldl f s) := by
  induction l generalizing s with
  | nil => exact .refl bs s
  | cons a l ih => exact (hf s a (List.mem_cons_self ..)).trans (ih (fun s b hb => hf s b (List.mem_cons_of_mem a hb)) (f s a))

/-- A field of a block that is not among those listed. -/
theorem SameOutside.get (h : SameOutside bs s t) (f : Fld) (hf : keyBlock f.key ∉ bs) (hal : f.key ∉ alarmKeys) : t.get f = s.get f := by
  unfold State.get
  rw [h _ hf hal]

/-! ### Logging (R487, R488, R497) -/

/-- Only words of REC, REC's own state, the bits set in this clock and the free values may differ. -/
structure LogOnly (s t : State) : Prop where
  words : SameOutside [19] s t
  rest : t = { s with words := t.words, recd := t.recd, hwSet := t.hwSet, freeCount := t.freeCount }

namespace LogOnly

theorem refl (s : State) : LogOnly s s := ⟨.refl _ s, rfl⟩
theorem trans (h1 : LogOnly s t) (h2 : LogOnly t u) : LogOnly s u := ⟨h1.words.trans h2.words, by rw [h2.rest, h1.rest]⟩
theorem recd (h : LogOnly s t) (x : RecSt) : LogOnly s { t with recd := x } := h.trans ⟨.of_words rfl, rfl⟩
theorem set (h : LogOnly s t) (f : Fld) (v : Nat) (hf : keyBlock f.key = 19) : LogOnly s (t.set f v) :=
  h.trans ⟨(SameOutside.refl _ t).set f v (by rw [hf]; decide), rfl⟩
theorem flag (h : LogOnly s t) (f : Fld) (hf : keyBlock f.key = 19) : LogOnly s (t.flag f) :=
  h.trans ⟨(SameOutside.refl _ t).flag f (by rw [hf]; decide), rfl⟩
theorem inc (h : LogOnly s t) (f : Fld) (hf : keyBlock f.key = 19) : LogOnly s (t.inc f) := h.set f _ hf

end LogOnly

theorem State.startFlush_log (s : State) : LogOnly s s.startFlush := by
  unfold State.startFlush
  split
  · exact (LogOnly.refl s).recd _
  · split
    · exact (LogOnly.refl s).recd _
    · exact ((LogOnly.refl s).recd _).set F.REC_STAT.FLUSHING _ (by decide)

theorem State.fitRecord_log (r : RecRecord) (n : Nat) (s : State) : LogOnly s (s.fitRecord r n) := by
  induction n generalizing s with
  | zero => exact .refl s
  | succ n ih =>
    have hdrop : LogOnly s ((s.inc F.REC_DROP_CNT.COUNT).flag F.REC_ERR.DROP) := ((LogOnly.refl s).inc _ (by decide)).flag _ (by decide)
    unfold State.fitRecord
    split
    · exact (LogOnly.refl s).recd _
    · dsimp only
      split
      · exact (hdrop.recd _).trans (ih _)
      · exact hdrop

theorem State.queueRecord_log (mk : Nat → RecRecord) (s : State) : LogOnly s (s.queueRecord mk) := by
  have hseq := ((LogOnly.refl s).recd { s.recd with rseq := (s.recd.rseq + 1) % 2 ^ 32 }).set F.REC_RSEQ.SEQ ((s.recd.rseq + 1) % 2 ^ 32) (by decide)
  have hfill (n : Nat) := (hseq.trans (State.fitRecord_log (mk ((s.recd.rseq + 1) % 2 ^ 32)) n _)).set F.REC_STAT.FILL
  unfold State.queueRecord
  dsimp only
  split
  · exact (hfill _ _ (by decide)).trans (State.startFlush_log _)
  · exact hfill _ _ (by decide)

theorem State.logData_log (s : State) (src code index data sev : Nat) : LogOnly s (s.logData src code index data sev) := by
  unfold State.logData
  split
  · exact .refl s
  · split
    · exact ((LogOnly.refl s).recd _).inc F.REC_COAL_CNT.COUNT (by decide)
    · exact (State.queueRecord_log _ s).inc _ (by decide)

/-- A logged event reaches REC alone (R487). -/
theorem State.log_log (s : State) (src code index sev : Nat) : LogOnly s (s.log src code index sev) :=
  (State.logData_log s ..).trans ⟨.of_words rfl, rfl⟩

/-! ### Event tasks (R130) -/

theorem State.releaseEvent_outside (s : State) {n : Nat} (hn : n < 64) : SameOutside [4] s (s.releaseEvent n) := by
  have hwin {k : Nat} (hk : k < 0x1000000) (h4 : k / 0x10000 = 4) : keyBlock (k + 0x1000000 * n) ∈ [4] := by
    rw [keyBlock_window k n hk (by omega), h4]
    decide
  have hready : keyBlock (readyFld n).key ∈ [4] := by
    have hw : n / 32 = 0 ∨ n / 32 = 1 := by omega
    rcases hw with e | e <;> (simp only [readyFld, R.PGR_READYn, e]; decide)
  have hs : SameOutside [4] s s := .refl _ s
  unfold State.releaseEvent
  split
  · exact hs
  · split
    · exact ((SameOutside.of_words rfl).set (F.T_STAT.STATE n) 1 (hwin (k := 0x040100) (by decide) (by decide))).set _ 1 hready
    · split
      · exact hs.set (F.T_STAT.PEND n) 1 (hwin (k := 0x040100) (by decide) (by decide))
      · exact (hs.set (F.T_LOST.COUNT n) _ (hwin (k := 0x04010C) (by decide) (by decide))).flag _ (by decide)

theorem State.releaseWhere_outside (s : State) (p : State → Nat → Bool) : SameOutside [4] s (s.releaseWhere p) := by
  refine SameOutside.foldl (fun s n hn => ?_) s
  split
  · exact s.releaseEvent_outside (List.mem_range.mp hn)
  · exact .refl _ s

/-! ### Trips and safe states (R183, R428) -/

theorem State.pageWrite_words (s : State) (stn off : Nat) (bs : List Byte) : (s.pageWrite stn off bs).words = s.words := by
  unfold State.pageWrite
  dsimp only
  split
  · split <;> rfl
  · rfl

theorem State.outField_words (s : State) (stn ofs dt : Nat) (n : Num) : (s.outField stn ofs dt n).words = s.words := by
  unfold State.outField State.commitOut State.stageOut
  simp only [State.pageWrite_words]

/-- A word of a loop slot's window is in LPE's block. -/
theorem keyBlock_lpn {k n : Nat} (hn : n < 4096) (hk : k < 0x1000000) (h6 : k / 0x10000 = 6) : keyBlock (k + 0x1000000 * n) ∈ [6, 7] := by
  rw [keyBlock_window k n hk (by omega), h6]
  decide

/-- So is a word of LPE's bit lists. -/
theorem keyBlock_lpeList {k : Nat} (h0 : 0x060000 ≤ k) (h1 : k < 0x070000) : keyBlock k ∈ [6, 7] := by
  have h6 : keyBlock k = 6 := by
    unfold keyBlock
    rw [if_pos (by omega)]
    omega
  rw [h6]
  decide

theorem State.writeTarget_outside (s : State) {n : Nat} (src : Nat) (v : Int) (h : n < 512) : SameOutside [6, 7] s (s.writeTarget n src v) := by
  have hs : SameOutside [6, 7] s s := .refl _ s
  unfold State.writeTarget
  split
  · rename_i hn
    split
    · exact hs.flag _ (by decide)
    · split
      · exact hs
      · split
        · exact .of_words rfl
        · refine (hs.set (F.AXn_TARGET.TARGET n) _ ?_).trans (.of_words rfl)
          interval_cases n <;> decide
  · dsimp only
    split
    · exact hs.flag _ (by decide)
    · split
      · exact hs
      · refine (hs.set (F.RA_TARGET.TARGET (n - 16)) _ ?_).trans (.of_words rfl)
        rw [show keyBlock (F.RA_TARGET.TARGET (n - 16)).key = 7 from keyBlock_window 0x070108 (n - 16) (by decide) (by omega)]
        decide

theorem State.commitLoop_outside (s : State) (n : Nat) (m : Int) : SameOutside [6, 7] s (s.commitLoop n m) := by
  unfold State.commitLoop
  dsimp only
  split
  · exact .of_words (s.outField_words ..)
  · exact s.writeTarget_outside _ _ (Nat.mod_lt _ (by decide))
  · exact .refl _ s

theorem State.putMode_outside (s : State) {n : Nat} (m : Nat) (hn : n < 4096) : SameOutside [6, 7] s (s.putMode n m) := by
  have hslot : SameOutside [6, 7] s (s.setSlot n { s.slot n with mode := m }) := .of_words rfl
  have hmode := hslot.set (F.LPn_MODE.MODE n) m (keyBlock_lpn (k := 0x060100) hn (by decide) (by decide))
  have hstat := hmode.set (F.LPn_STAT.MODE n) m (keyBlock_lpn (k := 0x060104) hn (by decide) (by decide))
  exact hstat.set F.LPE_STAT.CLOSED _ (by decide)

theorem State.enterSafe_outside (s : State) {n : Nat} (m : Int) (hn : n < 4096) : SameOutside [6, 7] s (s.enterSafe n m) := by
  have hslot : SameOutside [6, 7] s (s.setSlot n { s.slot n with out := m, drop := 0 }) := .of_words rfl
  exact (hslot.trans (State.putMode_outside _ 3 hn)).set (F.LPn_OUT.VALUE n) _ (keyBlock_lpn (k := 0x060118) hn (by decide) (by decide))

theorem State.updFlt_outside (s : State) {n : Nat} (hn : n < 4096) : SameOutside [6, 7] s (s.updFlt n) := by
  have hfault := (SameOutside.refl _ s).set (F.LPn_STAT.FAULT n) ((s.word (R.LPn_FLT n)).toNat % 8 != 0).toNat
    (keyBlock_lpn (k := 0x060104) hn (by decide) (by decide))
  exact hfault.set ⟨R.LPE_FLTn (n / 32), n % 32, 1⟩ _ (keyBlock_lpeList (k := R.LPE_FLTn (n / 32)) (by unfold R.LPE_FLTn; omega)
    (by unfold R.LPE_FLTn; omega))

/-- A member of a tripped group enters SAFE with its flags. -/
theorem State.tripMember_outside (s : State) {n : Nat} (m : Int) (hn : n < 4096) :
    SameOutside [6, 7] s ((((s.enterSafe n m).flag (F.LPn_FLT.TRIP n)).set (F.LPn_STAT.TRIP n) 1).updFlt n) := by
  have hflag := (s.enterSafe_outside m hn).flag (F.LPn_FLT.TRIP n) (keyBlock_lpn hn (by decide) (by decide))
  have htrip := hflag.set (F.LPn_STAT.TRIP n) 1 (keyBlock_lpn (k := 0x060104) hn (by decide) (by decide))
  exact htrip.trans (State.updFlt_outside _ hn)

theorem State.tripGroup_outside (s : State) {g : Nat} (hg : g < 4096) : SameOutside [6, 7] s (s.tripGroup g) := by
  have hmem : ∀ n ∈ s.members g, n < 4096 := fun n h => State.members_lt h
  unfold State.tripGroup
  split
  · exact .refl _ s
  · rename_i lead rest e
    rw [e] at hmem
    have hkey : keyBlock (R.LPE_TRIPn (g / 32)) ∈ [6, 7] :=
      keyBlock_lpeList (by unfold R.LPE_TRIPn; omega) (by unfold R.LPE_TRIPn; omega)
    exact ((s.commitLoop_outside lead _).trans
      (SameOutside.foldl (fun s n hn => s.tripMember_outside _ (hmem n hn)) _)).set (tripFld g) 1 hkey

theorem State.safe1_outside (s : State) : SameOutside [12] s s.safe1 := by
  have hblocked : SameOutside [12] s (if s.get F.CSB_STAT.STATE = 0 then s else (s.set F.CSB_STAT.STATE 10).flag F.CSB_ERR.BLOCKED) := by
    split
    · exact .refl _ s
    · exact ((SameOutside.refl _ s).set _ _ (by decide)).flag _ (by decide)
  unfold State.safe1
  dsimp only
  split
  · refine (hblocked.trans (.of_words rfl)).trans (SameOutside.foldl (fun s n _ => ?_) _)
    split
    · exact .of_words rfl
    · exact .refl _ s
  · exact hblocked

theorem State.enterSafeState_outside (s : State) (k : Nat) : SameOutside [6, 7, 12] s (s.enterSafeState k) := by
  have hshown : SameOutside [6, 7, 12] s (s.set ⟨R.SAF_STAT, 3 + k, 1⟩ 1) :=
    (SameOutside.refl _ s).setAlarm _ _ (show R.SAF_STAT ∈ alarmKeys by decide)
  have htrip (c : Nat) (s : State) : SameOutside [6, 7, 12] s ((s.safetyGroups c).foldl State.tripGroup s) :=
    SameOutside.foldl (fun s' g hg => (s'.tripGroup_outside (State.safetyGroups_lt hg)).mono (by decide)) s
  unfold State.enterSafeState
  dsimp only
  split
  · exact .refl _ s
  · split
    · exact hshown.trans ((State.safe1_outside _).mono (by decide))
    · exact hshown.trans (htrip 1 _)
    · exact hshown.trans (htrip 2 _)
    · exact hshown

/-! ### A raised source is latched (R425, R426) -/

theorem State.updAlarm_outside (s : State) : SameOutside [] s s.updAlarm := fun k _ hal => by
  unfold State.updAlarm
  exact (State.driveAlarm_word _ _ _ k).trans (State.showAlarm_word _ _ _ _ _ _ _ _ k hal)

theorem State.probationFault_outside (s : State) (src idx : Nat) : SameOutside [18] s (s.probationFault src idx) := by
  have hite (c : Bool) : SameOutside [18] s (if c = true then s.set F.UPD_STAT.HSTATE 6 else s) := by
    split
    · exact (SameOutside.refl _ s).set _ _ (by decide)
    · exact .refl _ s
  exact hite _

/-- The record of a raised source leaves the latches. -/
theorem State.logFault_latches (s : State) (src idx safe : Nat) (a b c : Bool) :
    (s.logFault src idx safe a b c).word R.SAF_FLT_LAT = s.word R.SAF_FLT_LAT := by
  have htab (o e : Nat) : R.SAF_FLT_LAT ≠ tabKey 16 (o + 16 * e) := by
    unfold R.SAF_FLT_LAT tabKey
    omega
  unfold State.logFault
  dsimp only
  rw [State.releaseSaf, State.releaseWhere_outside _ _ _ (by decide) (by decide), (State.log_log _ _ _ _ _).words _ (by decide) (by decide),
    State.word_setWord_ne _ _ (htab 12 _), State.word_setWord_ne _ _ (htab 8 _), State.word_set_other _ _ _ _ (htab 4 _),
    State.word_set_other _ _ _ _ (htab 0 _), State.word_set_other _ _ _ _ (by decide)]

/-- After the latch, raising a source leaves the latches. -/
theorem State.raiseWith_latches (s : State) (src idx : Nat) (takeover wdog : Bool) :
    (s.raiseWith src idx takeover wdog).word R.SAF_FLT_LAT = (s.flag ⟨R.SAF_FLT_LAT, src, 1⟩).word R.SAF_FLT_LAT := by
  have hsafe (mask : Nat) (x : State) : SameOutside [6, 7, 12, 18] x
      ([1, 2, 3, 4].foldl (fun s k => if mask / 2 ^ (k - 1) % 2 = 1 then s.enterSafeState k else s) x) := by
    refine SameOutside.foldl (fun s k _ => ?_) x
    split
    · exact (s.enterSafeState_outside k).mono (by decide)
    · exact .refl _ s
  have hshow (mask : Nat) (x : State) := ((hsafe mask x).trans ((State.updAlarm_outside _).mono (by decide))).trans
    ((State.probationFault_outside _ src idx).mono (by decide))
  unfold State.raiseWith
  dsimp only
  split
  · exact hshow _ _ _ (by decide) (by decide)
  · rw [State.logFault_latches]
    exact hshow _ _ _ (by decide) (by decide)

/-- A source that is raised is latched (R425). -/
theorem State.raise_latched (s : State) {src : Nat} (idx : Nat) (h : src < 32) : (s.raise src idx).bit ⟨R.SAF_FLT_LAT, src, 1⟩ = true := by
  have hget : (s.raise src idx).get ⟨R.SAF_FLT_LAT, src, 1⟩ = (s.flag ⟨R.SAF_FLT_LAT, src, 1⟩).get ⟨R.SAF_FLT_LAT, src, 1⟩ := by
    unfold State.get State.raise
    rw [State.raiseWith_latches]
  unfold State.bit
  rw [hget]
  exact State.bit_flag_same s ⟨R.SAF_FLT_LAT, src, 1⟩ rfl h

end Sys2Proof.Machine
end

section
/-! Writes of station pages through PGR (R119, R123) and the latch of a station's newest input buffer (R116, R146). -/
namespace Sys2Proof.Machine

variable {s t u : State} {n m : Nat} {p : Page}

/-! ### What a write of a page leaves alone -/

/-- Only bytes of station pages may differ: the two memories and the page list. -/
def PageOnly (s t : State) : Prop := t = { s with dram := t.dram, cache := t.cache, pgr := { s.pgr with pages := t.pgr.pages } }

theorem PageOnly.refl (s : State) : PageOnly s s := rfl

theorem PageOnly.trans (h1 : PageOnly s t) (h2 : PageOnly t u) : PageOnly s u := by
  unfold PageOnly at *
  rw [h2, h1]

/-- A step repeated over a list. -/
theorem PageOnly.foldl {α : Type} {f : State → α → State} (hf : ∀ s a, PageOnly s (f s a)) (l : List α) (s : State) :
    PageOnly s (l.foldl f s) := by
  induction l generalizing s with
  | nil => exact .refl s
  | cons a l ih => exact (hf s a).trans (ih (f s a))

theorem PageOnly.get (h : PageOnly s t) (f : Fld) : t.get f = s.get f := by rw [h]; rfl
theorem PageOnly.cyc (h : PageOnly s t) : t.cyc = s.cyc := by rw [h]
theorem PageOnly.stack (h : PageOnly s t) : t.pgr.stack = s.pgr.stack := by rw [h]
theorem PageOnly.ready (h : PageOnly s t) : t.pgr.ready = s.pgr.ready := by rw [h]
theorem PageOnly.flagged (h : PageOnly s t) : t.pgr.flagged = s.pgr.flagged := by rw [h]

/-! ### A write by where the page stands (R119, R123) -/

/-- A byte of DRAM, or of the cache, is written. -/
def State.writeDram (s : State) (a : Nat) (v : Byte) : State := { s with dram := memWrite s.dram a v }
def State.writeCache (s : State) (a : Nat) (v : Byte) : State := { s with cache := memWrite s.cache a v }

/-- A write waits for the page, or makes it dirty. -/
def Page.queue (a : Nat) (v : Byte) (p : Page) : Page := { p with waits := p.waits ++ [(a, v)] }
def Page.touch (p : Page) : Page := { p with dirty := true }

theorem Page.queue_stn (a : Nat) (v : Byte) (p : Page) : (p.queue a v).stn = p.stn := rfl
theorem Page.touch_stn (p : Page) : p.touch.stn = p.stn := rfl

theorem State.pageWrite_absent (h : s.page? n = none) (off : Nat) (v : Byte) : s.pageWrite n off [v] = s.writeDram (4096 * n + off) v := by
  simp only [State.pageWrite, h]
  rfl

theorem State.pageWrite_moving (h : s.page? n = some p) (hb : (p.loading || p.writing) = true) (off : Nat) (v : Byte) :
    s.pageWrite n off [v] = s.updPage n (Page.queue (4096 * n + off) v) := by
  simp only [State.pageWrite, h, hb, if_true]
  rfl

theorem State.pageWrite_resident (h : s.page? n = some p) (hb : (p.loading || p.writing) = false) (off : Nat) (v : Byte) :
    s.pageWrite n off [v] = (s.writeCache (4096 * n + off) v).updPage n Page.touch := by
  simp only [State.pageWrite, h, hb]
  rfl

theorem State.pageWrite_only (s : State) (n off : Nat) (bs : List Byte) : PageOnly s (s.pageWrite n off bs) := by
  unfold State.pageWrite
  dsimp only
  split
  · split <;> rfl
  · rfl

/-! ### The byte written, and the others -/

/-- No write waits for the station's page unless the page is on its way. -/
def State.Quiet (s : State) (n : Nat) : Prop := ∀ p, s.page? n = some p → p.loading = false → p.writing = false → p.waits = []

theorem State.quiet_of_pages (h : ∀ p ∈ s.pgr.pages, p.loading = false → p.writing = false → p.waits = []) (n : Nat) : s.Quiet n :=
  fun p hp => h p (List.mem_of_find?_eq_some hp)

/-- A byte written through PGR is seen there. -/
theorem State.pageByte_pageWrite_same (hq : s.Quiet n) (off : Nat) (v : Byte) : (s.pageWrite n off [v]).pageByte n off = v := by
  cases h : s.page? n with
  | none =>
    have h' : (s.writeDram (4096 * n + off) v).page? n = none := h
    rw [State.pageWrite_absent h, State.pageByte_absent h', State.writeDram, memRead_memWrite, if_pos rfl]
  | some p =>
    cases hb : p.loading || p.writing with
    | true =>
      rw [State.pageWrite_moving h hb, State.pageByte_of_page (State.page?_updPage_same h (Page.queue_stn _ v)), memRead_applyWaits,
        Page.queue, lastWrite_append_singleton, if_pos rfl, Option.getD_some]
    | false =>
      obtain ⟨hl, hw⟩ := Bool.or_eq_false_iff.mp hb
      have h' : (s.writeCache (4096 * n + off) v).page? n = some p := h
      have hmem : ((s.writeCache (4096 * n + off) v).updPage n Page.touch).pageMem p.touch = memWrite s.cache (4096 * n + off) v := by
        simp only [State.pageMem, Page.touch, hl]
        rfl
      have hwaits : p.touch.waits = [] := hq p h hl hw
      rw [State.pageWrite_resident h hb, State.pageByte_of_page (State.page?_updPage_same h' Page.touch_stn), hmem, hwaits, applyWaits,
        List.foldl_nil, memRead_memWrite, if_pos rfl]

/-- Another station's page keeps its entry. -/
theorem State.page?_pageWrite_ne (s : State) (hne : m ≠ n) (off : Nat) (v : Byte) : (s.pageWrite n off [v]).page? m = s.page? m := by
  cases h : s.page? n with
  | none => rw [State.pageWrite_absent h]; rfl
  | some p =>
    cases hb : p.loading || p.writing with
    | true => rw [State.pageWrite_moving h hb, State.page?_updPage_ne _ hne (Page.queue_stn _ v)]
    | false => rw [State.pageWrite_resident h hb, State.page?_updPage_ne _ hne Page.touch_stn]; rfl

/-- Neither memory changes at another address. -/
theorem State.memRead_pageWrite_ne (s : State) (n off : Nat) (v : Byte) {a : Nat} (ha : a ≠ 4096 * n + off) :
    memRead (s.pageWrite n off [v]).dram a = memRead s.dram a ∧ memRead (s.pageWrite n off [v]).cache a = memRead s.cache a := by
  cases h : s.page? n with
  | none => rw [State.pageWrite_absent h]; exact ⟨(memRead_memWrite ..).trans (if_neg ha), rfl⟩
  | some p =>
    cases hb : p.loading || p.writing with
    | true => rw [State.pageWrite_moving h hb]; exact ⟨rfl, rfl⟩
    | false => rw [State.pageWrite_resident h hb]; exact ⟨rfl, (memRead_memWrite ..).trans (if_neg ha)⟩

/-- A byte of another station's page is as before. -/
theorem State.pageByte_pageWrite_ne (s : State) (hne : m ≠ n) {off off' : Nat} (hoff : off < 4096) (hoff' : off' < 4096) (v : Byte) :
    (s.pageWrite n off [v]).pageByte m off' = s.pageByte m off' := by
  obtain ⟨hd, hc⟩ := s.memRead_pageWrite_ne n off v (a := 4096 * m + off') (by omega)
  simp only [State.pageByte, s.page?_pageWrite_ne hne, hd, hc]

/-! ### LATCHED takes NEWEST (R116, R146) -/

theorem State.latchStation_only (s : State) (rs : List Nat) (n : Nat) : PageOnly s (s.latchStation rs n) := by
  unfold State.latchStation
  dsimp only
  split
  · exact .refl s
  · exact s.pageWrite_only ..

/-- A station that is latched shows its newest buffer as the latched one. -/
theorem State.latchStation_latched (hq : s.Quiet n) (rs : List Nat) : (s.latchStation rs n).latched n = s.newest n := by
  have hbyte : (s.latchStation rs n).pageByte n 2 = BitVec.ofNat 8 (s.newest n + 2 * (rs.contains n).toNat + 4 * s.newest n) := by
    unfold State.latchStation
    dsimp only
    split
    · next h => exact h
    · exact State.pageByte_pageWrite_same hq 2 _
  have hnewest : s.newest n < 2 := Nat.mod_lt _ (by decide)
  have hcopy : (rs.contains n).toNat < 2 := Bool.toNat_lt _
  unfold State.latched
  rw [hbyte, BitVec.toNat_ofNat]
  omega

theorem State.latchStation_ne (s : State) (rs : List Nat) (hne : n ≠ m) :
    (s.latchStation rs m).page? n = s.page? n ∧ (s.latchStation rs m).pageByte n 2 = s.pageByte n 2 := by
  unfold State.latchStation
  dsimp only
  split
  · exact ⟨rfl, rfl⟩
  · exact ⟨s.page?_pageWrite_ne hne _ _, s.pageByte_pageWrite_ne hne (by decide) (by decide) _⟩

/-- The latch of several stations. -/
def State.latchAll (rs : List Nat) (s : State) (l : List Nat) : State := l.foldl (fun s n => s.latchStation rs n) s

theorem State.latchAll_only (rs : List Nat) (s : State) (l : List Nat) : PageOnly s (s.latchAll rs l) :=
  .foldl (fun s n => s.latchStation_only rs n) l s

theorem State.latchAll_not_mem (rs : List Nat) {l : List Nat} (h : n ∉ l) (s : State) : (s.latchAll rs l).pageByte n 2 = s.pageByte n 2 := by
  induction l generalizing s with
  | nil => rfl
  | cons m l ih =>
    obtain ⟨hne, hl⟩ := List.ne_and_not_mem_of_not_mem_cons h
    exact (ih hl _).trans (s.latchStation_ne rs hne).2

/-- Each station of the list is latched at the buffer that was its newest. -/
theorem State.latchAll_latched (rs : List Nat) {l : List Nat} (hnd : l.Nodup) (hn : n ∈ l) {s : State} (hq : s.Quiet n) :
    (s.latchAll rs l).latched n = s.newest n := by
  induction l generalizing s with
  | nil => exact absurd hn List.not_mem_nil
  | cons m l ih =>
    obtain ⟨hm, hl⟩ := List.nodup_cons.mp hnd
    by_cases hnm : n = m
    · subst hnm
      have hkept : ((s.latchStation rs n).latchAll rs l).pageByte n 2 = (s.latchStation rs n).pageByte n 2 := State.latchAll_not_mem rs hm _
      exact (show ((s.latchStation rs n).latchAll rs l).latched n = (s.latchStation rs n).latched n by
        unfold State.latched; rw [hkept]).trans (State.latchStation_latched hq rs)
    · obtain ⟨hpage, hbyte⟩ := s.latchStation_ne rs hnm
      have hq' : (s.latchStation rs m).Quiet n := by unfold State.Quiet; rw [hpage]; exact hq
      exact (ih hl ((List.mem_cons.mp hn).resolve_left hnm) hq').trans (show (s.latchStation rs m).newest n = s.newest n by
        unfold State.newest; rw [hbyte])

end Sys2Proof.Machine
end

section
/-! The start of a cycle (R127, R146, R17, R22): the snapshot and the main task's run. -/
namespace Sys2Proof.Machine

variable {s t : State}

/-! ### Rings (R120) -/

/-- Publishing sets the rings alone. -/
theorem State.publish_eq (s : State) :
    s.publish = { s with pgr := { s.pgr with ringC := s.publish.pgr.ringC, saved := s.publish.pgr.saved } } := by
  unfold State.publish
  split <;> rfl

theorem State.get_publish (s : State) (f : Fld) : s.publish.get f = s.get f := by rw [State.publish_eq]; rfl
theorem State.publish_cyc (s : State) : s.publish.cyc = s.cyc := by rw [State.publish_eq]
theorem State.publish_stack (s : State) : s.publish.pgr.stack = s.pgr.stack := by rw [State.publish_eq]

/-! ### The snapshot (R17, R22, R146) -/

/-- CYC_SEQ counts, the instant is the cycle's now, and the model image is latched. -/
def State.takeNow (s : State) (exch : Bool) : State :=
  let s1 := s.set F.CYC_SEQ.SEQ ((s.get F.CYC_SEQ.SEQ + 1) % 2 ^ 32)
  { s1 with
    cyc := { s1.cyc with
      img := s.nsv.img, cur := s.nsv.cur, seq := s.get F.NSV_SEQ.SEQ, usable := s.modelUsable,
      snapUp := s.clock.up, sec := s.clock.sec, ns := s.clock.ns, toCopy := s.readSet, firstRun := s.get F.CYC_SEQ.SEQ == 0, exch := exch,
      running := true, abandon := false } }

theorem State.get_takeNow (s : State) (exch : Bool) (f : Fld) :
    (s.takeNow exch).get f = (s.set F.CYC_SEQ.SEQ ((s.get F.CYC_SEQ.SEQ + 1) % 2 ^ 32)).get f := rfl

theorem State.takeNow_now (s : State) (exch : Bool) :
    (s.takeNow exch).cyc.snapUp = s.clock.up ∧ (s.takeNow exch).cyc.sec = s.clock.sec ∧ (s.takeNow exch).cyc.ns = s.clock.ns := ⟨rfl, rfl, rfl⟩

/-- The present stations. -/
def State.presentStns (s : State) : List Nat := (List.range 4096).filter s.stnPresent

theorem State.mem_presentStns {n : Nat} : n ∈ s.presentStns ↔ s.stnPresent n = true := by
  unfold State.presentStns
  rw [List.mem_filter, List.mem_range]
  exact ⟨And.right, fun h => ⟨of_decide_eq_true (Bool.and_eq_true_iff.mp h).1, h⟩⟩

theorem State.presentStns_nodup (s : State) : s.presentStns.Nodup := List.nodup_range.filter _

/-- The whole snapshot. -/
def State.snapshot (s : State) (exch : Bool) : State := (s.takeNow exch).latchAll s.readSet s.presentStns

theorem State.snapshot_only (s : State) (exch : Bool) : PageOnly (s.takeNow exch) (s.snapshot exch) := State.latchAll_only ..

theorem State.snapshot_latched {n : Nat} (hn : s.stnPresent n = true) (hq : s.Quiet n) (exch : Bool) :
    (s.snapshot exch).latched n = s.newest n :=
  State.latchAll_latched (s := s.takeNow exch) s.readSet s.presentStns_nodup (State.mem_presentStns.mpr hn) hq

/-! ### The main task's run (R127) -/

/-- The main task starts, with the snapshot's instant as its now. -/
def State.startMain (s : State) : State :=
  ((({ s with pgr := { s.pgr with stack := [⟨0, s.get (T.PGR_TASK.FIRST 0), s.cyc.snapUp, s.cyc.sec, s.cyc.ns, []⟩] } }.set
    (F.T_STAT.STATE 0) 2).set (readyFld 0) 1).cycTo 1).publish

theorem State.startCycle_eq (s : State) (exch : Bool) :
    s.startCycle exch = (((s.snapshot exch).cycTo 2).runErrors (s.snapshot exch).pgr.flagged.length).startMain := by
  unfold State.startCycle State.startMain State.snapshot State.latchAll State.takeNow State.presentStns
  with_reducible rfl

/-- With no error task flagged the main task follows the snapshot. -/
theorem State.startCycle_noErrors (h : s.pgr.flagged = []) (exch : Bool) : s.startCycle exch = ((s.snapshot exch).cycTo 2).startMain := by
  have hnone : (s.snapshot exch).pgr.flagged = [] := (s.snapshot_only exch).flagged.trans h
  rw [State.startCycle_eq, hnone]
  rfl

theorem State.cycTo_cyc (s : State) (v : Nat) : (s.cycTo v).cyc = s.cyc := rfl
theorem State.cycTo_pageByte (s : State) (v n off : Nat) : (s.cycTo v).pageByte n off = s.pageByte n off := rfl

theorem State.startMain_cyc (s : State) : s.startMain.cyc = s.cyc := State.publish_cyc _

theorem State.startMain_stack (s : State) :
    s.startMain.pgr.stack = [⟨0, s.get (T.PGR_TASK.FIRST 0), s.cyc.snapUp, s.cyc.sec, s.cyc.ns, []⟩] := State.publish_stack _

theorem State.startMain_pageByte (s : State) (n off : Nat) : s.startMain.pageByte n off = s.pageByte n off :=
  State.pageByte_congr (by rw [State.startMain, State.publish_eq]; rfl) (by rw [State.startMain, State.publish_eq]; rfl)
    (by rw [State.startMain, State.publish_eq]; rfl) n off

theorem State.startMain_state (s : State) : s.startMain.get F.CYC_STAT.STATE = 1 := by
  rw [State.startMain, State.get_publish, State.cycTo, State.get_set_same _ _ _ (by decide)]
  rfl

theorem State.startMain_task (s : State) : s.startMain.get (F.T_STAT.STATE 0) = 2 := by
  rw [State.startMain, State.get_publish, State.cycTo, State.get_set_other _ _ _ _ (by decide), State.get_set_other _ _ _ _ (by decide),
    State.get_set_same _ _ _ (by decide)]
  rfl

theorem State.get_startMain (s : State) (f : Fld) (hf : f.key ∉ [R.CYC_STAT, R.T_STAT 0, R.PGR_READYn 0]) : s.startMain.get f = s.get f := by
  simp only [List.mem_cons, List.not_mem_nil, or_false, not_or] at hf
  obtain ⟨hstat, htask, hready⟩ := hf
  rw [State.startMain, State.get_publish, State.cycTo, State.get_set_other _ _ _ _ (.inl hstat), State.get_set_other _ _ _ _ (.inl hready),
    State.get_set_other _ _ _ _ (.inl htask)]
  rfl

/-! ### CYCLE_SNAPSHOT -/

/-- What a cycle that starts shows (R17, R22, R127, R146). -/
structure CycleStarted (s t : State) : Prop where
  seq : t.get F.CYC_SEQ.SEQ = (s.get F.CYC_SEQ.SEQ + 1) % 2 ^ 32
  state : t.get F.CYC_STAT.STATE = 1
  task : t.get (F.T_STAT.STATE 0) = 2
  stack : t.pgr.stack = [⟨0, s.get (T.PGR_TASK.FIRST 0), s.clock.up, s.clock.sec, s.clock.ns, []⟩]
  cyc : t.cyc = (s.takeNow false).cyc
  latched : ∀ n, s.stnPresent n = true → s.Quiet n → t.latched n = s.newest n

theorem State.startCycle_started (h : s.pgr.flagged = []) : CycleStarted s (s.startCycle false) := by
  have hpages : PageOnly (s.takeNow false) (s.snapshot false) := s.snapshot_only false
  have hget (f : Fld) (hstat : f.key ≠ R.CYC_STAT) : ((s.snapshot false).cycTo 2).get f = (s.takeNow false).get f := by
    rw [State.cycTo, State.get_set_other _ _ _ _ (.inl hstat), hpages.get]
  obtain ⟨hup, hsec, hns⟩ := s.takeNow_now false
  rw [State.startCycle_noErrors h]
  refine ⟨?_, State.startMain_state _, State.startMain_task _, ?_, ?_, fun n hn hq => ?_⟩
  · rw [State.get_startMain _ _ (by decide), hget _ (by decide), State.get_takeNow, State.get_set_same _ _ _ (by decide), Nat.mod_mod]
  · rw [State.startMain_stack, hget _ (by decide), State.get_takeNow, State.get_set_other _ _ _ _ (by decide), State.cycTo_cyc, hpages.cyc, hup,
      hsec, hns]
  · rw [State.startMain_cyc, State.cycTo_cyc, hpages.cyc]
  · have hlatched := State.snapshot_latched hn hq false
    unfold State.latched at hlatched ⊢
    rw [State.startMain_pageByte, State.cycTo_pageByte, hlatched]

/-- A boundary passed in SHADOW counts in UPD alone (R479). -/
theorem CycleStarted.shadowBoundary (h : CycleStarted s t) : CycleStarted s t.shadowBoundary := by
  unfold State.shadowBoundary
  split
  · have hget (f : Fld) (hf : f.key ≠ R.UPD_SHD_CNT) : (t.inc F.UPD_SHD_CNT.COUNT).get f = t.get f := State.get_set_other _ _ _ _ (.inl hf)
    exact ⟨(hget _ (by decide)).trans h.seq, (hget _ (by decide)).trans h.state, (hget _ (by decide)).trans h.task, h.stack, h.cyc, h.latched⟩
  · exact h

theorem CycleStarted.settle (h : CycleStarted s t) : CycleStarted s t.settle where
  seq := (t.settle_get _ (by decide)).trans h.seq
  state := (t.settle_get _ (by decide)).trans h.state
  task := (t.settle_get _ (by decide)).trans h.task
  stack := by rw [State.settle_pgr]; exact h.stack
  cyc := t.settle_cyc.trans h.cyc
  latched n hn hq := by
    have hbyte : t.settle.pageByte n 2 = t.pageByte n 2 :=
      State.pageByte_congr (by rw [State.settle_pgr]) t.settle_dram t.settle_cache n 2
    exact (show t.settle.latched n = t.latched n by unfold State.latched; rw [hbyte]).trans (h.latched n hn hq)

theorem cycleSnapshot_starts (hlive : s.cycLive = true) (hex : s.get F.CYC_STAT.EXCH ≠ 3) (hstack : s.pgr.stack = []) :
    cycleSnapshot s = (s.startCycle false).shadowBoundary := by
  have hruns : s.finishRuns = s := by
    unfold State.finishRuns
    rw [hstack]
    rfl
  unfold cycleSnapshot
  rw [if_neg (by simp [hlive, hex]), hruns]

theorem exec_cycleSnapshot (dt : Nat) (s : State) : exec (.cycleSnapshot dt) s = .next (cycleSnapshot (s.elapse dt)).settle := rfl

/-- At a boundary with nothing on the stack and no error task flagged a cycle starts. -/
theorem exec_cycleSnapshot_started (dt : Nat) (hlive : s.cycLive = true) (hex : s.get F.CYC_STAT.EXCH ≠ 3) (hstack : s.pgr.stack = [])
    (hflagged : s.pgr.flagged = []) : ∃ t, exec (.cycleSnapshot dt) s = .next t ∧ CycleStarted (s.elapse dt) t := by
  refine ⟨_, exec_cycleSnapshot dt s, ?_⟩
  rw [cycleSnapshot_starts (s := s.elapse dt) hlive hex hstack]
  exact (State.startCycle_started (s := s.elapse dt) hflagged).shadowBoundary.settle

end Sys2Proof.Machine
end

section
/-! The end of a cycle past its time (R151, R152, R154): the abandoned main task, and the fault of too many overruns. -/
namespace Sys2Proof.Machine

variable {s t : State}

/-! ### The cycle's record (Table 6.15) -/

/-- Words of a record, written from its first word upward. -/
theorem State.foldl_setWord_eq (base : Nat) (l : List (Nat × Nat)) (s : State) :
    (∀ f : Fld, f.key < base → (l.foldl (fun s e => s.setWord (base + 4 * e.2) (BitVec.ofNat 32 e.1)) s).get f = s.get f) ∧
      (l.foldl (fun s e => s.setWord (base + 4 * e.2) (BitVec.ofNat 32 e.1)) s).pgr = s.pgr := by
  induction l generalizing s with
  | nil => exact ⟨fun _ _ => rfl, rfl⟩
  | cons e l ih =>
    obtain ⟨hget, hpgr⟩ := ih (s.setWord (base + 4 * e.2) (BitVec.ofNat 32 e.1))
    exact ⟨fun f hf => (hget f hf).trans (State.get_setWord_ne _ _ (by omega)), hpgr⟩

/-- The fields of registers that a cycle's record can change. -/
def recordFlds : List Fld := [F.CYC_INCONS_CNT.COUNT, F.CYC_ERR.INCONS]

/-- A cycle's record is written outside the registers but for the count and the flag of inconsistent stations, and ends the cycle's run. -/
structure RecordOnly (s t : State) : Prop where
  fields : ∀ f : Fld, f.key < tabKey 3 0 → (∀ g ∈ recordFlds, Apart f g) → t.get f = s.get f
  pgr : t.pgr = s.pgr
  running : t.cyc.running = false

theorem State.writeRecord_only (s : State) (dur : Nat) (ovr : Bool) : RecordOnly s (s.writeRecord dur ovr) := by
  have herr (x : State) : (∀ f : Fld, (if s.cyc.errt then x.nextFree else x).get f = x.get f) ∧ (if s.cyc.errt then x.nextFree else x).pgr = x.pgr := by
    split <;> exact ⟨fun _ => rfl, rfl⟩
  have hincons (x : State) : (∀ f : Fld, (∀ g ∈ recordFlds, Apart f g) →
      (if s.cyc.incons then (x.inc F.CYC_INCONS_CNT.COUNT).flag F.CYC_ERR.INCONS else x).get f = x.get f) ∧
      (if s.cyc.incons then (x.inc F.CYC_INCONS_CNT.COUNT).flag F.CYC_ERR.INCONS else x).pgr = x.pgr := by
    split
    · exact ⟨fun f hf => (State.get_flag_other _ _ _ (hf _ (by decide))).trans (State.get_set_other _ _ _ _ (hf _ (by decide))), rfl⟩
    · exact ⟨fun _ _ => rfl, rfl⟩
  have hwords (x : State) (l : List (Nat × Nat)) := State.foldl_setWord_eq (tabKey 3 (0x400000 + 32 * (s.get F.CYC_SEQ.SEQ % 256))) l x
  refine ⟨fun f hf hapart => ?_, ?_, rfl⟩
  · have hbase : f.key < tabKey 3 (0x400000 + 32 * (s.get F.CYC_SEQ.SEQ % 256)) := by
      unfold tabKey at *
      omega
    exact ((hincons _).1 f hapart).trans (((hwords _ _).1 f hbase).trans ((herr s).1 f))
  · exact (hincons _).2.trans ((hwords _ _).2.trans (herr s).2)

/-! ### A run ends (R130) -/

/-- With no release queued the task is idle. -/
theorem State.endRun_idle {d : Nat} (h : s.bit (F.T_STAT.PEND 0) = false) :
    s.endRun 0 d = (((s.inc (F.T_RUNS.COUNT 0)).set (F.T_LAST.DUR 0) (min d (2 ^ 32 - 1))).set (F.T_STAT.STATE 0) 0).set (readyFld 0) 0 := by
  have hpend : ((((s.inc (F.T_RUNS.COUNT 0)).set (F.T_LAST.DUR 0) (min d (2 ^ 32 - 1))).set (F.T_STAT.STATE 0) 0).set (readyFld 0) 0).bit
      (F.T_STAT.PEND 0) = false := by
    rw [← h]
    unfold State.bit State.inc
    rw [State.get_set_other _ _ _ _ (by decide), State.get_set_other _ _ _ _ (by decide), State.get_set_other _ _ _ _ (by decide),
      State.get_set_other _ _ _ _ (by decide)]
  unfold State.endRun
  dsimp only
  rw [hpend]
  rfl

/-- The fields that the end of the main task's run changes. -/
def runEndFlds : List Fld := [F.T_RUNS.COUNT 0, F.T_LAST.DUR 0, F.T_STAT.STATE 0, readyFld 0]

theorem State.get_endRun_idle (h : s.bit (F.T_STAT.PEND 0) = false) (d : Nat) (f : Fld) (hf : ∀ g ∈ runEndFlds, Apart f g) :
    (s.endRun 0 d).get f = s.get f := by
  rw [State.endRun_idle h, State.get_set_other _ _ _ _ (hf _ (by decide)), State.get_set_other _ _ _ _ (hf _ (by decide)),
    State.get_set_other _ _ _ _ (hf _ (by decide)), State.inc, State.get_set_other _ _ _ _ (hf _ (by decide))]

/-- The run closes with a record that shows the overrun, and the engine rests. -/
def State.closeRun (s : State) (d : Nat) : State := ((s.writeRecord d true).endRun 0 d).cycTo 3

theorem State.writeRecord_pend (h : s.bit (F.T_STAT.PEND 0) = false) (d : Nat) : (s.writeRecord d true).bit (F.T_STAT.PEND 0) = false := by
  unfold State.bit at h ⊢
  rw [(s.writeRecord_only d true).fields _ (by decide) (by decide), h]

theorem State.get_closeRun (h : s.bit (F.T_STAT.PEND 0) = false) (d : Nat) (f : Fld) (hk : f.key < tabKey 3 0)
    (hf : ∀ g ∈ F.CYC_STAT.STATE :: recordFlds ++ runEndFlds, Apart f g) : (s.closeRun d).get f = s.get f := by
  have hrecord : ∀ g ∈ recordFlds, Apart f g := fun g hg => hf g (List.mem_append_left _ (List.mem_cons_of_mem _ hg))
  have hend : ∀ g ∈ runEndFlds, Apart f g := fun g hg => hf g (List.mem_append_right _ hg)
  rw [State.closeRun, State.cycTo, State.get_set_other _ _ _ _ (hf _ (by decide)), State.get_endRun_idle (State.writeRecord_pend h d) d f hend,
    (s.writeRecord_only d true).fields f hk hrecord]

theorem State.closeRun_state (s : State) (d : Nat) : (s.closeRun d).get F.CYC_STAT.STATE = 3 := State.get_set_same _ _ _ (by decide)

theorem State.closeRun_pgr (h : s.bit (F.T_STAT.PEND 0) = false) (d : Nat) : (s.closeRun d).pgr = s.pgr := by
  rw [State.closeRun, State.endRun_idle (State.writeRecord_pend h d)]
  exact (s.writeRecord_only d true).pgr

theorem State.closeRun_running (h : s.bit (F.T_STAT.PEND 0) = false) (d : Nat) : (s.closeRun d).cyc.running = false := by
  rw [State.closeRun, State.endRun_idle (State.writeRecord_pend h d)]
  exact (s.writeRecord_only d true).running

/-! ### CYC_OVR_LIMIT (R152) -/

theorem ovrLimit_below (h : s.get F.CYC_STAT.OVR_RUN < s.get F.CYC_OVR_LIM.LIM) : ovrLimit s = s := by
  unfold ovrLimit
  rw [if_neg (by simp [h])]

theorem ovrLimit_standing (h : s.cyc.ovrRaised = true) : ovrLimit s = s := by
  unfold ovrLimit
  rw [if_neg (by simp [h])]

/-- The fault of too many overruns stands, and is flagged. -/
def State.flagOvrLimit (s : State) : State := { s with cyc := { s.cyc with ovrRaised := true } }.flag F.CYC_ERR.OVR_LIM

theorem ovrLimit_raises (hlim : s.get F.CYC_OVR_LIM.LIM ≤ s.get F.CYC_STAT.OVR_RUN) (hrun : s.get F.CYC_STAT.OVR_RUN ≠ 0)
    (h : s.cyc.ovrRaised = false) : ovrLimit s = s.flagOvrLimit.raise 19 0 := by
  unfold ovrLimit
  rw [if_pos (by simp [hlim, hrun, h])]
  rfl

theorem exec_cycOvrLimit (dt : Nat) (s : State) : exec (.cycOvrLimit dt) s = .next (ovrLimit (s.elapse dt)).settle := rfl

/-- Source 19 is raised. -/
theorem exec_cycOvrLimit_raises (dt : Nat) (hlim : s.get F.CYC_OVR_LIM.LIM ≤ s.get F.CYC_STAT.OVR_RUN) (hrun : s.get F.CYC_STAT.OVR_RUN ≠ 0)
    (h : s.cyc.ovrRaised = false) : ∃ t, exec (.cycOvrLimit dt) s = .next t ∧ t.bit F.CYC_ERR.OVR_LIM = true ∧ t.cyc.ovrRaised = true ∧
      t.bit ⟨R.SAF_FLT_LAT, 19, 1⟩ = true := by
  refine ⟨_, exec_cycOvrLimit dt s, ?_⟩
  rw [ovrLimit_raises (s := s.elapse dt) hlim hrun h]
  have hraise := State.raise_raise (s.elapse dt).flagOvrLimit 19 0
  refine ⟨?_, ?_, ?_⟩
  · rw [State.settle_bit _ _ (by decide)]
    unfold State.bit State.get
    rw [hraise.words F.CYC_ERR.OVR_LIM.key (by decide)]
    exact State.bit_flag_same _ F.CYC_ERR.OVR_LIM rfl (by decide)
  · rw [State.settle_cyc, hraise.rest]
    rfl
  · rw [State.settle_bit _ _ (show R.SAF_FLT_LAT ∉ alarmKeys by decide)]
    exact State.raise_latched _ 0 (by decide)

/-- While the fault stands it is not raised again. -/
theorem exec_cycOvrLimit_standing (dt : Nat) (h : s.cyc.ovrRaised = true) :
    ∃ t, exec (.cycOvrLimit dt) s = .next t ∧ OnlyWords [] (s.elapse dt) t := by
  refine ⟨_, exec_cycOvrLimit dt s, ?_⟩
  rw [ovrLimit_standing (s := s.elapse dt) h]
  exact (OnlyWords.refl _ _).settle

/-! ### The abandoned main task (R151) -/

/-- COPYING is cleared for the stations still to be copied. -/
def State.clearCopying (s : State) : State := s.cyc.toCopy.foldl (fun s n => s.pageWrite n 2 [(s.pageByte n 2) &&& 0xFD#8]) s

theorem State.clearCopying_only (s : State) : PageOnly s s.clearCopying := .foldl (fun s n => s.pageWrite_only n 2 _) _ s

/-- The overrun is logged, flagged and counted. -/
def State.countOverrun (s : State) : State :=
  (((s.log 3 0 0 4).flag F.CYC_ERR.OVR).inc F.CYC_OVR_CNT.COUNT).set F.CYC_STAT.OVR_RUN (min (s.get F.CYC_STAT.OVR_RUN + 1) 255)

/-- The main task leaves the stack, and its item writes are dropped. -/
def State.dropMain (s : State) : State :=
  { s with pgr := { s.pgr with stack := s.pgr.stack.filter (fun f => f.task != 0) },
           cyc := { s.cyc with items := s.cyc.items.filter (fun e => e.1 != 0) } }

theorem State.dropMain_get (s : State) (f : Fld) : s.dropMain.get f = s.get f := rfl
theorem State.dropMain_bit (s : State) (f : Fld) : s.dropMain.bit f = s.bit f := rfl

/-- The abandoned run up to its record. -/
def State.overrun (s : State) : State := s.clearCopying.countOverrun.dropMain

theorem State.abandonMain_eq (s : State) : ∃ d, s.abandonMain = ovrLimit (s.overrun.closeRun d) := ⟨_, rfl⟩

/-- What an overrun shows (R151). -/
structure Overrun (s t : State) : Prop where
  err : t.bit F.CYC_ERR.OVR = true
  count : t.get F.CYC_OVR_CNT.COUNT = min (s.get F.CYC_OVR_CNT.COUNT + 1) 0xFFFFFFFF
  row : t.get F.CYC_STAT.OVR_RUN = min (s.get F.CYC_STAT.OVR_RUN + 1) 255

/-- Logging reaches no word of CYC. -/
theorem State.get_log_cyc (s : State) (src code idx sev : Nat) (f : Fld) (hf : keyBlock f.key ≠ 19) (hal : f.key ∉ alarmKeys) :
    (s.log src code idx sev).get f = s.get f := (State.log_log s src code idx sev).words.get f (by simpa using hf) hal

theorem State.countOverrun_overrun (s : State) : Overrun s s.countOverrun where
  err := by
    unfold State.bit State.countOverrun State.inc
    rw [State.get_set_other _ _ _ _ (by decide), State.get_set_other _ _ _ _ (by decide)]
    exact State.bit_flag_same _ F.CYC_ERR.OVR rfl (by decide)
  count := by
    rw [State.countOverrun, State.get_set_other _ _ _ _ (by decide), State.get_inc_same _ _ (by decide), State.get_flag_other _ _ _ (by decide),
      State.get_log_cyc _ _ _ _ _ _ (by decide) (by decide)]
    rfl
  row := by
    rw [State.countOverrun, State.get_set_same _ _ _ (by decide), Nat.mod_eq_of_lt]
    exact Nat.lt_of_le_of_lt (Nat.min_le_right _ _) (by decide)

theorem State.get_countOverrun (s : State) (f : Fld) (hf : f.key ∉ [R.CYC_ERR, R.CYC_OVR_CNT, R.CYC_STAT]) (hb : keyBlock f.key ≠ 19)
    (hal : f.key ∉ alarmKeys) : s.countOverrun.get f = s.get f := by
  simp only [List.mem_cons, List.not_mem_nil, or_false, not_or] at hf
  obtain ⟨herr, hcnt, hstat⟩ := hf
  rw [State.countOverrun, State.get_set_other _ _ _ _ (.inl hstat), State.inc, State.get_set_other _ _ _ _ (.inl hcnt),
    State.get_flag_other _ _ _ (.inl herr), State.get_log_cyc _ _ _ _ _ _ hb hal]

theorem State.countOverrun_pgr (s : State) : s.countOverrun.pgr = s.pgr := by
  unfold State.countOverrun
  rw [State.set_pgr, State.inc_pgr, State.flag_pgr, (State.log_log s 3 0 0 4).rest]

theorem State.overrun_overrun (s : State) : Overrun s s.overrun := by
  have h := s.clearCopying.countOverrun_overrun
  have hpages := s.clearCopying_only
  unfold State.overrun
  refine ⟨?_, ?_, ?_⟩
  · rw [State.dropMain_bit, h.err]
  · rw [State.dropMain_get, h.count, hpages.get]
  · rw [State.dropMain_get, h.row, hpages.get]

theorem State.get_overrun (s : State) (f : Fld) (hf : f.key ∉ [R.CYC_ERR, R.CYC_OVR_CNT, R.CYC_STAT]) (hb : keyBlock f.key ≠ 19)
    (hal : f.key ∉ alarmKeys) : s.overrun.get f = s.get f := by
  rw [State.overrun, State.dropMain_get, State.get_countOverrun _ f hf hb hal, s.clearCopying_only.get]

theorem State.overrun_ready (s : State) : s.overrun.pgr.ready = s.pgr.ready := by
  unfold State.overrun State.dropMain
  rw [State.countOverrun_pgr]
  exact s.clearCopying_only.ready

theorem State.overrun_stack (s : State) : s.overrun.pgr.stack = s.pgr.stack.filter (fun f => f.task != 0) := by
  unfold State.overrun State.dropMain
  rw [State.countOverrun_pgr, s.clearCopying_only.stack]

/-- What the abandoned main task leaves, with no release of it queued and the limit not reached. -/
structure Abandoned (s t : State) : Prop where
  overrun : Overrun s t
  state : t.get F.CYC_STAT.STATE = 3
  running : t.cyc.running = false
  stack : t.pgr.stack = s.pgr.stack.filter (fun f => f.task != 0)
  ready : t.pgr.ready = s.pgr.ready

theorem State.abandonMain_abandoned (hpend : s.bit (F.T_STAT.PEND 0) = false)
    (hlim : s.get F.CYC_STAT.OVR_RUN + 1 < s.get F.CYC_OVR_LIM.LIM) : Abandoned s s.abandonMain := by
  obtain ⟨d, hd⟩ := s.abandonMain_eq
  obtain ⟨herr, hcount, hrow⟩ := s.overrun_overrun
  have hpend' : s.overrun.bit (F.T_STAT.PEND 0) = false := by
    unfold State.bit at hpend ⊢
    rw [State.get_overrun _ _ (by decide) (by decide) (by decide), hpend]
  have hget := State.get_closeRun hpend' d
  have hrow' := (hget F.CYC_STAT.OVR_RUN (by decide) (by decide)).trans hrow
  have hbelow : ovrLimit (s.overrun.closeRun d) = s.overrun.closeRun d := by
    refine ovrLimit_below ?_
    rw [hrow', hget F.CYC_OVR_LIM.LIM (by decide) (by decide), State.get_overrun _ _ (by decide) (by decide) (by decide)]
    omega
  rw [hd, hbelow]
  refine ⟨⟨?_, (hget _ (by decide) (by decide)).trans hcount, hrow'⟩, State.closeRun_state _ d, State.closeRun_running hpend' d, ?_, ?_⟩
  · unfold State.bit at herr ⊢
    rw [hget _ (by decide) (by decide), herr]
  · rw [State.closeRun_pgr hpend', State.overrun_stack]
  · rw [State.closeRun_pgr hpend', State.overrun_ready]

/-! ### CYC_TMAX_EXPIRY (R151) -/

/-- At the boundary that the running task stands at nothing more is evaluated. -/
theorem State.reachBoundary_here {f : RunFrame} {below : List RunFrame} (h : s.pgr.stack = f :: below) : s.reachBoundary f.next = s := by
  have hstop : max f.next (min f.next (s.taskEnd f.task)) = f.next := by omega
  have hrun : s.runTo f f.next = s := by
    unfold State.runTo
    rw [Nat.sub_self]
    rfl
  unfold State.reachBoundary
  rw [h]
  dsimp only
  rw [hstop, hrun, ← h]

theorem State.dispatch_none (h : s.pgr.ready = []) : s.dispatch = s := by
  unfold State.dispatch State.nextReady
  rw [h]
  rfl

theorem tmaxExpiry_early (h : s.clock.up - s.cyc.snapUp < s.get F.CYC_TMAX.TMAX * 250) (i : Nat) : tmaxExpiry i s = s := by
  unfold tmaxExpiry
  rw [if_pos (by simp [h])]

/-- CYC_TMAX has passed with the cycle running. -/
structure TmaxPassed (s : State) : Prop where
  live : s.cycLive = true
  running : s.cyc.running = true
  passed : s.get F.CYC_TMAX.TMAX * 250 ≤ s.clock.up - s.cyc.snapUp

theorem TmaxPassed.not_early (h : TmaxPassed s) :
    ¬ (!s.cycLive || !s.cyc.running || s.clock.up - s.cyc.snapUp < s.get F.CYC_TMAX.TMAX * 250) = true := by
  simp [h.live, h.running, h.passed]

theorem tmaxExpiry_alone (h : TmaxPassed s) {f : RunFrame} (hstack : s.pgr.stack = [f]) (hmain : f.task = 0) (i : Nat) :
    tmaxExpiry i s = ((s.reachBoundary i).abandonMain).dispatch.publish := by
  unfold tmaxExpiry
  rw [if_neg h.not_early, hstack]
  dsimp only
  rw [if_pos hmain]

theorem tmaxExpiry_preempted (h : TmaxPassed s) {f g : RunFrame} {l : List RunFrame} (hstack : s.pgr.stack = f :: g :: l) (i : Nat) :
    tmaxExpiry i s = { s with cyc := { s.cyc with abandon := true } } := by
  unfold tmaxExpiry
  rw [if_neg h.not_early, hstack]

theorem exec_cycTmaxExpiry (dt i : Nat) (s : State) : exec (.cycTmaxExpiry dt i) s = .next (tmaxExpiry i (s.elapse dt)).settle := rfl

/-- The main task alone on the stack is abandoned. -/
theorem exec_cycTmaxExpiry_abandons {dt : Nat} (h : TmaxPassed (s.elapse dt)) {f : RunFrame} (hstack : s.pgr.stack = [f]) (hmain : f.task = 0)
    (hlim : s.get F.CYC_STAT.OVR_RUN + 1 < s.get F.CYC_OVR_LIM.LIM) (hready : s.pgr.ready = []) (hpend : s.bit (F.T_STAT.PEND 0) = false) :
    ∃ t, exec (.cycTmaxExpiry dt f.next) s = .next t ∧ t.pgr.stack = [] ∧ t.cyc.running = false ∧ t.get F.CYC_STAT.STATE = 3 ∧ Overrun s t := by
  have ha : Abandoned (s.elapse dt) (s.elapse dt).abandonMain := State.abandonMain_abandoned hpend hlim
  have heq : tmaxExpiry f.next (s.elapse dt) = (s.elapse dt).abandonMain.publish := by
    rw [tmaxExpiry_alone h hstack hmain, State.reachBoundary_here (s := s.elapse dt) hstack, State.dispatch_none (ha.ready.trans hready)]
  have hget (g : Fld) (hg : g.key ∉ alarmKeys) : (s.elapse dt).abandonMain.publish.settle.get g = (s.elapse dt).abandonMain.get g :=
    (State.settle_get _ g hg).trans (State.get_publish _ g)
  obtain ⟨herr, hcount, hrow⟩ := ha.overrun
  refine ⟨_, exec_cycTmaxExpiry dt f.next s, ?_⟩
  rw [heq]
  refine ⟨?_, ?_, (hget _ (by decide)).trans ha.state, ?_, (hget _ (by decide)).trans hcount, (hget _ (by decide)).trans hrow⟩
  · rw [State.settle_pgr, State.publish_stack, ha.stack, State.elapse_pgr, hstack]
    simp [hmain]
  · rw [State.settle_cyc, State.publish_cyc, ha.running]
  · unfold State.bit at herr ⊢
    rw [hget _ (by decide), herr]

/-- While a task preempts it the abandonment waits. -/
theorem exec_cycTmaxExpiry_waits {dt : Nat} (h : TmaxPassed (s.elapse dt)) {f g : RunFrame} {l : List RunFrame}
    (hstack : s.pgr.stack = f :: g :: l) (i : Nat) :
    ∃ t, exec (.cycTmaxExpiry dt i) s = .next t ∧ t.cyc.abandon = true ∧ t.pgr = s.pgr ∧ SameWords [] s t := by
  refine ⟨_, exec_cycTmaxExpiry dt i s, ?_⟩
  rw [tmaxExpiry_preempted h hstack]
  exact ⟨by rw [State.settle_cyc], State.settle_pgr _, SameWords.settle (fun _ _ _ => rfl)⟩

/-- Before TMAX nothing happens. -/
theorem exec_cycTmaxExpiry_early {dt : Nat} (h : (s.elapse dt).clock.up - s.cyc.snapUp < s.get F.CYC_TMAX.TMAX * 250) (i : Nat) :
    ∃ t, exec (.cycTmaxExpiry dt i) s = .next t ∧ OnlyWords [] (s.elapse dt) t := by
  refine ⟨_, exec_cycTmaxExpiry dt i s, ?_⟩
  rw [tmaxExpiry_early (s := s.elapse dt) h]
  exact (OnlyWords.refl _ _).settle

end Sys2Proof.Machine
end

section
/-! O33, from the rules of the cycle's start, its abandonment and the overrun limit. -/
namespace Sys2Proof.Machine

/-- Settles O33: a snapshot starts a cycle, TMAX abandons it or waits, and the limit raises source 19 once. -/
theorem aCycleStartsRunsAndOverruns : Obligations.ACycleStartsRunsAndOverruns := by
  intro s dt hlive
  refine ⟨fun hex hstack hflagged => ?_, fun hrun => ⟨fun f hstack hmain hpassed hlim _ hready hpend => ?_,
      fun f g l i hstack hpassed => exec_cycTmaxExpiry_waits ⟨hlive, hrun, hpassed⟩ hstack i,
      fun i hearly => exec_cycTmaxExpiry_early hearly i⟩,
    fun hlim hrow => ⟨exec_cycOvrLimit_raises dt hlim hrow, exec_cycOvrLimit_standing dt⟩⟩
  · obtain ⟨t, he, hs⟩ := exec_cycleSnapshot_started dt hlive hex hstack hflagged
    refine ⟨t, he, hs.seq, hs.state, hs.task, hs.stack, ?_, ?_, ?_, ?_, ?_, ?_, fun hwaits n hn => hs.latched n hn (State.quiet_of_pages hwaits n)⟩ <;>
      rw [hs.cyc] <;> rfl
  · obtain ⟨t, he, hs, hr, hst, hover⟩ := exec_cycTmaxExpiry_abandons ⟨hlive, hrun, hpassed⟩ hstack hmain hlim hready hpend
    have hrow : min (s.get F.CYC_STAT.OVR_RUN + 1) 255 = s.get F.CYC_STAT.OVR_RUN + 1 := by omega
    exact ⟨t, he, hs, hr, hover.err, hover.count, hover.row.trans hrow, hst⟩

end Sys2Proof.Machine
end

section
/-! O36 fails: its premises do not bound the station numbers of the pager's page list. Making room for a feedback page (R122, R124) clears the
resident bit of the page it evicts, and for a station number out of range that bit stands in another register's word, here LPE_TICK's. -/
namespace Sys2Proof.Machine

/-- The station number, far above the 4 096 of Table 5.4, whose resident bit stands at bit 0 of LPE_TICK. -/
def strayStation : Nat := 32 * ((R.LPE_TICK - R.PGR_RESn 0) / 4)

theorem resFld_strayStation : resFld strayStation = ⟨R.LPE_TICK, 0, 1⟩ := by decide

/-- The loop engine runs at tick 1 with slot 0 enabled, due at every tick and in OPEN; the cache is full of pages of the stray station. -/
def strayCache : State :=
  { ((State.reset.set F.LPE_STAT.RUN 1).set (T.LPE_SLOT.EN 0) 1).set (T.LPE_SLOT.PERIOD 0) 1 with
    powered := true
    clock := { State.reset.clock with ns := 250000 }
    pgr := { State.reset.pgr with pages := List.replicate 1024 ⟨strayStation, false, 0, false, false, []⟩ } }

/-- The state meets the premises that O36 sets for the evaluation of one slot in OPEN. -/
theorem strayCache_due : strayCache.lpe.late = [] ∧ strayCache.pgr.stepReleased = [] ∧ strayCache.bit F.LPE_STAT.RUN = true ∧
    strayCache.dueOrder ((strayCache.elapse 0).now / 250000) = [0] ∧ strayCache.bit (T.LPE_SLOT.GRP_EN 0) = false ∧
    (strayCache.slot 0).mode = 0 ∧ (strayCache.slot 0).req = none := by decide +kernel

/-- Slot 0 misses its feedback page, and the eviction that makes room for it takes the tick's bit out of LPE_TICK after it was shown. -/
theorem strayCache_tick : (lpeTick [] 0 0 (strayCache.elapse 0)).get F.LPE_TICK.TICK = 0 := by decide +kernel

theorem exec_lpeTick (dt : Nat) (incomplete : List Nat) (stall busy : Nat) (s : State) :
    exec (.lpeTick dt incomplete stall busy) s = .next (lpeTick incomplete stall busy (s.elapse dt)).settle := rfl

/-- Refutes O36: with the cache full of pages of a station that does not exist, slot 0's evaluation at tick 1 leaves LPE_TICK at 0. -/
theorem not_theLoopEngineEvaluatesAtItsTick : ¬ Obligations.TheLoopEngineEvaluatesAtItsTick := by
  intro h
  obtain ⟨_, hopen, _⟩ := h strayCache 0
  obtain ⟨hlate, hstep, hrun, hdue, hgrp, hmode, hreq⟩ := strayCache_due
  obtain ⟨t, he, htick, -⟩ := hopen 0 0 0 hlate hstep hrun (by decide) hdue hgrp hmode hreq
  have ht : (lpeTick [] 0 0 (strayCache.elapse 0)).settle = t := by
    rw [exec_lpeTick] at he
    exact Host.Outcome.next.inj he
  have hshown : t.get F.LPE_TICK.TICK = 0 := by
    rw [← ht, State.settle_get _ _ (by decide), strayCache_tick]
  have hone : (strayCache.elapse 0).now / 250000 % 2 ^ 32 = 1 := by decide +kernel
  omega

end Sys2Proof.Machine
end

section
/-! What a local axis keeps (chapter 8): its planner's state beside the words, its signed registers, and where its registers stand. -/
namespace Sys2Proof.Machine

variable {s t : State} {f : Fld}

/-! ### A field read as a number, a bit or a word -/

theorem State.geti_congr (h : t.get f = s.get f) : t.geti f = s.geti f := by unfold State.geti; rw [h]
theorem State.getw_congr (h : t.get f = s.get f) : t.getw f = s.getw f := by unfold State.getw; rw [h]
theorem State.bit_congr (h : t.get f = s.get f) : t.bit f = s.bit f := by unfold State.bit; rw [h]

/-- A signed register holds 32 bits. -/
theorem State.geti_bounds (s : State) (k : Nat) : -(2 ^ 31) ≤ s.geti ⟨k, 0, 32⟩ ∧ s.geti ⟨k, 0, 32⟩ < 2 ^ 31 := by
  have hlt : s.get ⟨k, 0, 32⟩ < 2 ^ 32 := s.get_lt _
  unfold State.geti
  dsimp only
  split <;> omega

/-- A signed register reads the number that was written into it. -/
theorem State.geti_seti_same (s : State) (k : Nat) {v : Int} (hlo : -(2 ^ 31) ≤ v) (hhi : v < 2 ^ 31) :
    (s.seti ⟨k, 0, 32⟩ v).geti ⟨k, 0, 32⟩ = v := by
  have hget : (s.seti ⟨k, 0, 32⟩ v).get ⟨k, 0, 32⟩ = (v % 2 ^ 32).toNat := by
    unfold State.seti
    rw [State.get_set_same _ _ _ (Nat.le_refl _), Nat.mod_eq_of_lt (by dsimp only; omega)]
  unfold State.geti
  rw [hget]
  dsimp only
  split <;> omega

/-- One signed register copied into another. -/
theorem State.geti_seti_geti (s u : State) (k j : Nat) : (s.seti ⟨k, 0, 32⟩ (u.geti ⟨j, 0, 32⟩)).geti ⟨k, 0, 32⟩ = u.geti ⟨j, 0, 32⟩ :=
  s.geti_seti_same k (u.geti_bounds j).1 (u.geti_bounds j).2

theorem State.getw_seti_same (s : State) (k : Nat) (v : Int) : (s.seti ⟨k, 0, 32⟩ v).getw ⟨k, 0, 32⟩ = BitVec.ofInt 32 v := by
  unfold State.getw State.seti
  rw [State.get_set_same _ _ _ (Nat.le_refl _), Nat.mod_eq_of_lt (by dsimp only; omega)]
  apply BitVec.eq_of_toNat_eq
  simp only [BitVec.toNat_ofNat, BitVec.toNat_ofInt]
  norm_num
  omega

theorem State.get_seti_other (s : State) (v : Int) {g : Fld} (h : Apart g f) : (s.seti f v).get g = s.get g := s.get_set_other f g _ h
theorem State.get_setw_other (s : State) (v : Word) {g : Fld} (h : Apart g f) : (s.setw f v).get g = s.get g := s.get_set_other f g _ h

/-- A field that was written with a value that fits it. -/
theorem State.get_set_fits (s : State) (k : Nat) {l w v : Nat} (h : l + w ≤ 32) (hv : v < 2 ^ w) : (s.set ⟨k, l, w⟩ v).get ⟨k, l, w⟩ = v :=
  (s.get_set_same ⟨k, l, w⟩ v h).trans (Nat.mod_eq_of_lt hv)

/-- A one-bit field that was set, or cleared. -/
theorem State.bit_set_one (s : State) (k : Nat) {b : Nat} (h : b < 32) : (s.set ⟨k, b, 1⟩ 1).bit ⟨k, b, 1⟩ = true :=
  s.bit_setBit_same ⟨k, b, 1⟩ true h Nat.one_pos
theorem State.bit_set_zero (s : State) (k : Nat) {b : Nat} (h : b < 32) : (s.set ⟨k, b, 1⟩ 0).bit ⟨k, b, 1⟩ = false :=
  s.bit_setBit_same ⟨k, b, 1⟩ false h Nat.one_pos

/-! ### The planner's state of an axis -/

theorem State.ax_setAx (s : State) (n m : Nat) (x : Ax) : (s.setAx n x).ax m = if m = n then x else s.ax m :=
  look_store (fun _ => ax0) n m x s.mpg.axes

@[simp] theorem State.ax_setAx_same (s : State) (n : Nat) (x : Ax) : (s.setAx n x).ax n = x := by rw [State.ax_setAx, if_pos rfl]
@[simp] theorem State.setAx_get (s : State) (n : Nat) (x : Ax) (f : Fld) : (s.setAx n x).get f = s.get f := rfl
@[simp] theorem State.setAx_geti (s : State) (n : Nat) (x : Ax) (f : Fld) : (s.setAx n x).geti f = s.geti f := rfl
@[simp] theorem State.setAx_getw (s : State) (n : Nat) (x : Ax) (f : Fld) : (s.setAx n x).getw f = s.getw f := rfl
@[simp] theorem State.setAx_bit (s : State) (n : Nat) (x : Ax) (f : Fld) : (s.setAx n x).bit f = s.bit f := rfl
@[simp] theorem State.setAx_emitted (s : State) (n : Nat) (x : Ax) : (s.setAx n x).emitted = s.emitted := rfl

@[simp] theorem State.set_ax (s : State) (f : Fld) (v n : Nat) : (s.set f v).ax n = s.ax n := rfl
@[simp] theorem State.setBit_ax (s : State) (f : Fld) (b : Bool) (n : Nat) : (s.setBit f b).ax n = s.ax n := rfl
@[simp] theorem State.seti_ax (s : State) (f : Fld) (v : Int) (n : Nat) : (s.seti f v).ax n = s.ax n := rfl
@[simp] theorem State.setw_ax (s : State) (f : Fld) (v : Word) (n : Nat) : (s.setw f v).ax n = s.ax n := rfl
@[simp] theorem State.flag_ax (s : State) (f : Fld) (n : Nat) : (s.flag f).ax n = s.ax n := rfl
@[simp] theorem State.emit_ax (s : State) (e : Emit) (n : Nat) : (s.emit e).ax n = s.ax n := rfl
@[simp] theorem State.elapse_ax (s : State) (dt n : Nat) : (s.elapse dt).ax n = s.ax n := rfl
@[simp] theorem State.settle_ax (s : State) (n : Nat) : s.settle.ax n = s.ax n := by simp only [State.ax, State.settle_mpg]

theorem SameWords.of_elapse {ks : List Nat} {dt : Nat} (h : SameWords ks (s.elapse dt) t) : SameWords ks s t := h
theorem SameWords.seti {ks : List Nat} (h : SameWords ks s t) (f : Fld) (v : Int) (hf : f.key ∈ ks) : SameWords ks s (t.seti f v) := h.set f _ hf
theorem SameWords.setw {ks : List Nat} (h : SameWords ks s t) (f : Fld) (v : Word) (hf : f.key ∈ ks) : SameWords ks s (t.setw f v) := h.set f _ hf
theorem SameWords.setBit {ks : List Nat} (h : SameWords ks s t) (f : Fld) (b : Bool) (hf : f.key ∈ ks) : SameWords ks s (t.setBit f b) := h.set f _ hf
theorem SameWords.flag {ks : List Nat} (h : SameWords ks s t) (f : Fld) (hf : f.key ∈ ks) : SameWords ks s (t.flag f) := h.set f 1 hf
theorem SameWords.setAx {ks : List Nat} (h : SameWords ks s t) (n : Nat) (x : Ax) : SameWords ks s (t.setAx n x) := h
theorem SameWords.emit {ks : List Nat} (h : SameWords ks s t) (e : Emit) : SameWords ks s (t.emit e) := h

/-! ### Where MPG's registers stand -/

/-- The alarm's words lie above MPG's. -/
theorem notAlarm_of_lt {k : Nat} (h : k < 0x100000) : k ∉ alarmKeys := by
  simp only [alarmKeys, R.SAF_ALARM, R.SAF_STAT, List.mem_cons, List.not_mem_nil, or_false]
  omega

/-- The end of a command leaves the fields of the lower units. -/
theorem State.settle_get_lt (s : State) (h : f.key < 0x100000) : s.settle.get f = s.get f := s.settle_get f (notAlarm_of_lt h)
theorem State.settle_geti_lt (s : State) (h : f.key < 0x100000) : s.settle.geti f = s.geti f := State.geti_congr (s.settle_get_lt h)
theorem State.settle_getw_lt (s : State) (h : f.key < 0x100000) : s.settle.getw f = s.getw f := State.getw_congr (s.settle_get_lt h)
theorem State.settle_bit_lt (s : State) (h : f.key < 0x100000) : s.settle.bit f = s.bit f := State.bit_congr (s.settle_get_lt h)

/-- A requester's write of a register of a local axis is the axis' own rule. -/
theorem State.regWrite_ax (s : State) (rq : Rq) {n o : Nat} (hn : n < 16) (ho : o < 0x80) (v : Word) :
    s.regWrite rq (R.AXn_CFG n + o) v = s.axWrite (s.busKey rq.num (R.AXn_CFG n + o)) (R.AXn_CFG n + o) v := by
  have hunit : (R.AXn_CFG n + o) / 65536 = 0x07 := by unfold R.AXn_CFG; omega
  have hlo : R.AXn_CFG 0 ≤ R.AXn_CFG n + o := by unfold R.AXn_CFG; omega
  have hhi : R.AXn_CFG n + o < R.AXn_CFG 16 := by unfold R.AXn_CFG; omega
  have hglobal : ∀ k, k < R.AXn_CFG 0 → R.AXn_CFG n + o ≠ k := fun k hk => by omega
  simp only [State.regWrite, hunit, State.mpgWrite]
  rw [if_neg (hglobal _ (by decide)), if_neg (hglobal _ (by decide)), if_neg (hglobal _ (by decide)), if_neg (hglobal _ (by decide)),
    if_pos ⟨hlo, hhi⟩]

theorem State.axWrite_at (s : State) (k n : Nat) {o : Nat} (ho : o < 0x80) (v : Word) :
    s.axWrite k (R.AXn_CFG n + o) v = if o = 4 then axCmdWrite n (v.toNat % 8) s else if o = 0xC then axTargetWrite n v s
      else if 0x24 ≤ o ∧ o ≤ 0x34 then axLimitWrite n ((o - 0x24) / 4) v s else s.writeWord k v := by
  have hn : (R.AXn_CFG n + o - R.AXn_CFG 0) / 0x80 = n := by unfold R.AXn_CFG; omega
  have ho' : (R.AXn_CFG n + o - R.AXn_CFG 0) % 0x80 = o := by unfold R.AXn_CFG; omega
  unfold State.axWrite
  rw [hn, ho']

end Sys2Proof.Machine
end

section
/-! The commands of a local axis (R203, R204, R207, R212, R214 to R216): AXn_CMD, AXn_TARGET and the limit registers. -/
namespace Sys2Proof.Machine

variable {s t : State} {rq : Rq} {n : Nat}

/-! ### The commands reach the axis -/

theorem exec_axCmdWrite {c : Instr} {dt : Nat} {v : Word} (hn : n < 16) (h : Writes s rq (R.AXn_CMD n))
    (he : exec c s = .next ((s.elapse dt).busWrite rq 4 (R.AXn_CMD (n % 16)) v).settle) :
    exec c s = .next (axCmdWrite n (v.toNat % 8) (s.elapse dt)).settle := by
  have hcmd : R.AXn_CMD n = R.AXn_CFG n + 4 := by unfold R.AXn_CMD R.AXn_CFG; omega
  rw [he, Nat.mod_eq_of_lt hn, State.busWrite_of_writes (h.elapse dt), hcmd, State.regWrite_ax _ _ hn (by decide), State.axWrite_at _ _ _ (by decide),
    if_pos rfl]

section Exec
variable (dt : Nat) (hn : n < 16) (h : Writes s rq (R.AXn_CMD n))
include hn h

theorem exec_axEnable : exec (.axEnable dt rq n) s = .next (axEnable n (s.elapse dt)).settle := exec_axCmdWrite (v := 1#32) hn h rfl
theorem exec_axDisable : exec (.axDisable dt rq n) s = .next (axDisable n (s.elapse dt)).settle := exec_axCmdWrite (v := 2#32) hn h rfl
theorem exec_axStop : exec (.axStop dt rq n) s = .next (axStop n (s.elapse dt)).settle := exec_axCmdWrite (v := 3#32) hn h rfl
theorem exec_axEstop : exec (.axEstop dt rq n) s = .next (axEstop n (s.elapse dt)).settle := exec_axCmdWrite (v := 4#32) hn h rfl
theorem exec_axHome : exec (.axHome dt rq n) s = .next (axHome n (s.elapse dt)).settle := exec_axCmdWrite (v := 5#32) hn h rfl
theorem exec_axClrLim : exec (.axClrLim dt rq n) s = .next (axClrLim n (s.elapse dt)).settle := exec_axCmdWrite (v := 6#32) hn h rfl
theorem exec_axClrFlt : exec (.axClrFlt dt rq n) s = .next (axClrFlt n (s.elapse dt)).settle := exec_axCmdWrite (v := 7#32) hn h rfl

end Exec

theorem exec_axTargetWrite (dt : Nat) (hn : n < 16) (h : Writes s rq (R.AXn_TARGET n)) (v : Word) :
    exec (.axTargetWrite dt rq n v) s = .next (axTargetWrite n v (s.elapse dt)).settle := by
  have htarget : R.AXn_TARGET n = R.AXn_CFG n + 0xC := by unfold R.AXn_TARGET R.AXn_CFG; omega
  change Host.Outcome.next ((s.elapse dt).busWrite rq 4 (R.AXn_TARGET (n % 16)) v).settle = _
  rw [Nat.mod_eq_of_lt hn, State.busWrite_of_writes (h.elapse dt), htarget, State.regWrite_ax _ _ hn (by decide), State.axWrite_at _ _ _ (by decide),
    if_neg (by decide), if_pos rfl]

theorem exec_axLimitWrite (dt : Nat) (hn : n < 16) {w : Nat} (hw : w < 5) (h : Writes s rq (R.AXn_VMAX n + 4 * w)) (v : Word) :
    exec (.axLimitWrite dt rq n w v) s = .next (axLimitWrite n w v (s.elapse dt)).settle := by
  have hlimit : R.AXn_VMAX n + 4 * w = R.AXn_CFG n + (0x24 + 4 * w) := by unfold R.AXn_VMAX R.AXn_CFG; omega
  have hwhich : (0x24 + 4 * w - 0x24) / 4 = w := by omega
  change Host.Outcome.next ((s.elapse dt).busWrite rq 4 (R.AXn_VMAX (n % 16) + 4 * (w % 5)) v).settle = _
  rw [Nat.mod_eq_of_lt hn, Nat.mod_eq_of_lt hw, State.busWrite_of_writes (h.elapse dt), hlimit, State.regWrite_ax _ _ hn (by omega),
    State.axWrite_at _ _ _ (by omega), if_neg (by omega), if_neg (by omega), if_pos (by omega), hwhich]

/-! ### Whether an axis takes a command (R204, R220) -/

theorem State.axReady_present (h : s.axReady n = true) : s.axPresent n = true := by
  simp only [State.axReady, Bool.and_eq_true] at h
  exact h.1.1

theorem State.axCmd_ready (h : s.axReady n = true) (f : State → State) : s.axCmd n f = f s := by
  simp [State.axCmd, h, State.axReady_present h]

theorem State.axCmd_notReady (hp : s.axPresent n = true) (h : s.axReady n = false) (f : State → State) : s.axCmd n f = s.flag F.MPG_ERR.CMD_REJ := by
  simp [State.axCmd, hp, h]

/-! ### Coming to rest, and braking (R214, R215) -/

theorem State.abortHome_notHoming (h : s.get (F.AXn_STAT.PSTATE n) ≠ 8) : s.abortHome n = s := if_neg h

/-- The words that show velocity and increment. -/
def axShowKeys (n : Nat) : List Nat := [R.AXn_VEL n, R.AXn_INC_LO n, R.AXn_INC_HI n]

theorem State.axShow_words (s : State) (n : Nat) : SameWords (axShowKeys n) s (s.axShow n) :=
  ((((SameWords.refl _ s).setAx n _).setw (F.AXn_VEL.VEL n) _ (by simp [axShowKeys])).set (F.AXn_INC_LO.INC n) _ (by simp [axShowKeys])).set
    (F.AXn_INC_HI.INC n) _ (by simp [axShowKeys])

/-- The increment of a velocity (R210). -/
def incOf (v : Int) : Nat := (2 * v.natAbs * 2 ^ 16 + 10 ^ 8) / (2 * 10 ^ 8)

theorem State.axShow_ax (s : State) (n m : Nat) : (s.axShow n).ax m = if m = n then { s.ax n with inc := incOf (s.ax n).v } else s.ax m := by
  rw [State.axShow, State.set_ax, State.set_ax, State.setw_ax, State.ax_setAx]
  rfl

theorem State.axShow_emitted (s : State) (n : Nat) : (s.axShow n).emitted = s.emitted := by
  rw [State.axShow, State.set_emitted, State.set_emitted, State.setw_emitted, State.setAx_emitted]

/-- An axis rests where it is, in planner state ps. -/
structure Rests (n ps : Nat) (s t : State) : Prop where
  pstate : t.get (F.AXn_STAT.PSTATE n) = ps
  target : t.geti (F.AXn_TARGET.TARGET n) = s.geti (F.AXn_POS.POS n)
  ax : t.ax n = { s.ax n with v := 0, a := 0, brake := 0, inc := 0 }
  emitted : t.emitted = s.emitted
  others : ∀ f : Fld, Apart f (F.AXn_STAT.PSTATE n) → f.key ∉ R.AXn_TARGET n :: axShowKeys n → f.key ∉ alarmKeys → t.get f = s.get f

theorem State.axRest_rests (s : State) {n ps : Nat} (hn : n < 16) (hps : ps < 16) : Rests n ps s (s.axRest n ps) := by
  have hshow (u : State) (f : Fld) (hf : f.key ∉ axShowKeys n) (hal : f.key ∉ alarmKeys) : (u.axShow n).get f = u.get f :=
    (u.axShow_words n).get f hf hal
  constructor <;> unfold State.axRest
  case pstate =>
    rw [hshow _ _ (by simp [axShowKeys]) (notAlarm_of_lt (by grind)), State.get_seti_other _ _ (by simp [Apart]), State.get_set_fits _ _ (by decide) hps]
  case target => rw [State.geti_congr (hshow _ _ (by simp [axShowKeys]) (notAlarm_of_lt (by grind))), State.geti_seti_geti]
  case ax => simp [State.axShow_ax, incOf]
  case emitted => rw [State.axShow_emitted, State.seti_emitted, State.set_emitted, State.setAx_emitted]
  case others =>
    intro f hstat hkeys hal
    simp only [List.mem_cons, not_or] at hkeys
    rw [hshow _ _ hkeys.2 hal, State.get_seti_other _ _ (.inl hkeys.1), State.get_set_other _ _ _ _ hstat, State.setAx_get]

/-- A braking toward `code` that starts from a plan that is not braking: the plan and the flags. -/
def State.startBrake (s : State) (n code : Nat) : State :=
  (if code = 4 then (s.setAx n { s.ax n with brake := code, fresh := false }).set (F.AXn_STAT.EMG n) 1
    else s.setAx n { s.ax n with brake := code, fresh := false }).set (F.AXn_STAT.AT_TGT n) 0

theorem State.startBrake_ax (s : State) (n code : Nat) : (s.startBrake n code).ax n = { s.ax n with brake := code, fresh := false } := by
  unfold State.startBrake
  split <;> simp

theorem State.startBrake_get (s : State) (n code : Nat) {f : Fld} (hemg : Apart f (F.AXn_STAT.EMG n)) (hat : Apart f (F.AXn_STAT.AT_TGT n)) :
    (s.startBrake n code).get f = s.get f := by
  unfold State.startBrake
  rw [State.get_set_other _ _ _ _ hat]
  split
  · rw [State.get_set_other _ _ _ _ hemg, State.setAx_get]
  · rw [State.setAx_get]

theorem State.startBrake_emg (s : State) (n : Nat) : (s.startBrake n 4).bit (F.AXn_STAT.EMG n) = true := by
  unfold State.startBrake
  rw [if_pos rfl, State.bit_congr (State.get_set_other _ _ _ _ (by simp)), State.bit_set_one _ _ (by decide)]

section Brake
variable (hb : (s.ax n).brake = 0)
include hb

theorem State.axBrake_moving (hv : (s.ax n).v ≠ 0) {code : Nat} (hc : code ≠ 8) :
    s.axBrake n code = (s.startBrake n code).set (F.AXn_STAT.PSTATE n) (if code = 4 then 6 else 4) := by
  simp [State.axBrake, State.startBrake, hb, hv, hc]

theorem State.axBrake_stopped (hv : (s.ax n).v = 0) : s.axBrake n 3 = (s.startBrake n 3).axRest n 7 := by
  simp [State.axBrake, State.startBrake, hb, hv]

theorem State.axBrake_disabled (hv : (s.ax n).v = 0) :
    s.axBrake n 5 = (((s.startBrake n 5).axRest n 0).set (F.AXn_STAT.EN_OUT n) 0).enLine n false := by
  simp [State.axBrake, State.startBrake, hb, hv]

end Brake

/-- An axis in motion brakes as `code` says, in planner state ps. -/
structure Brakes (n code ps : Nat) (s t : State) : Prop where
  pstate : t.get (F.AXn_STAT.PSTATE n) = ps
  ax : t.ax n = { s.ax n with brake := code, fresh := false }
  emg : code = 4 → t.bit (F.AXn_STAT.EMG n) = true
  others : ∀ f : Fld, Apart f (F.AXn_STAT.PSTATE n) → Apart f (F.AXn_STAT.EMG n) → Apart f (F.AXn_STAT.AT_TGT n) → t.get f = s.get f

theorem State.axBrake_brakes (hb : (s.ax n).brake = 0) (hv : (s.ax n).v ≠ 0) {code : Nat} (hc : code ≠ 8) :
    Brakes n code (if code = 4 then 6 else 4) s (s.axBrake n code) := by
  rw [State.axBrake_moving hb hv hc]
  refine ⟨State.get_set_fits _ _ (by decide) (by split <;> decide), ?_, fun h4 => ?_, fun f hps hemg hat => ?_⟩
  · rw [State.set_ax, State.startBrake_ax]
  · subst h4
    rw [State.bit_congr (State.get_set_other _ _ _ _ (by simp)), State.startBrake_emg]
  · rw [State.get_set_other _ _ _ _ hps, State.startBrake_get _ _ _ hemg hat]

/-! ### ENABLE, DISABLE, STOP, ESTOP (R204, R215) -/

/-- ENABLE of an axis that is off. -/
def State.enabled (s : State) (n : Nat) : State :=
  ((((s.seti (F.AXn_TARGET.TARGET n) (s.geti (F.AXn_POS.POS n))).setAx n { s.ax n with fresh := false, replan := true, brake := 0 }).set
    (F.AXn_STAT.EN_OUT n) 1).set (F.AXn_STAT.PSTATE n) 1).set (F.AXn_STAT.AT_TGT n) 1

@[simp] theorem State.enLine_get (s : State) (n : Nat) (on : Bool) (f : Fld) : (s.enLine n on).get f = s.get f := rfl
@[simp] theorem State.enLine_geti (s : State) (n : Nat) (on : Bool) (f : Fld) : (s.enLine n on).geti f = s.geti f := rfl
@[simp] theorem State.enLine_bit (s : State) (n : Nat) (on : Bool) (f : Fld) : (s.enLine n on).bit f = s.bit f := rfl

theorem State.enLine_emitted (s : State) (n : Nat) (on : Bool) :
    (s.enLine n on).emitted = s.emitted ++ [.pin (66 + 3 * n) (on == s.bit (F.AXn_CFG.EN_POL n))] := rfl

/-- An axis that is switched off releases EN. -/
theorem State.enLine_off_mem (s : State) (n : Nat) : Emit.pin (66 + 3 * n) (!s.bit (F.AXn_CFG.EN_POL n)) ∈ (s.enLine n false).emitted := by
  rw [State.enLine_emitted, Bool.false_beq]
  exact List.mem_append_right _ (List.mem_singleton_self _)

/-- An axis that was enabled rests on its target where it stands. -/
structure Enabled (n : Nat) (s t : State) : Prop where
  enOut : t.bit (F.AXn_STAT.EN_OUT n) = true
  pstate : t.get (F.AXn_STAT.PSTATE n) = 1
  target : t.geti (F.AXn_TARGET.TARGET n) = s.geti (F.AXn_POS.POS n)
  atTgt : t.bit (F.AXn_STAT.AT_TGT n) = true
  words : SameWords [R.AXn_STAT n, R.AXn_TARGET n] s t

theorem State.enabled_enabled (s : State) (n : Nat) : Enabled n s (s.enabled n) where
  enOut := by
    rw [State.enabled, State.bit_congr (State.get_set_other _ _ _ _ (by simp)), State.bit_congr (State.get_set_other _ _ _ _ (by simp)),
      State.bit_set_one _ _ (by decide)]
  pstate := by rw [State.enabled, State.get_set_other _ _ _ _ (by simp), State.get_set_fits _ _ (by decide) (by decide)]
  target := by
    rw [State.enabled, State.geti_congr (State.get_set_other _ _ _ _ (by simp)), State.geti_congr (State.get_set_other _ _ _ _ (by simp)),
      State.geti_congr (State.get_set_other _ _ _ _ (by simp)), State.setAx_geti, State.geti_seti_geti]
  atTgt := by rw [State.enabled, State.bit_set_one _ _ (by decide)]
  words := (((((SameWords.refl _ s).seti (F.AXn_TARGET.TARGET n) _ (by simp)).setAx n _).set (F.AXn_STAT.EN_OUT n) 1 (by simp)).set
    (F.AXn_STAT.PSTATE n) 1 (by simp)).set (F.AXn_STAT.AT_TGT n) 1 (by simp)

theorem State.enabled_emitted (s : State) (n : Nat) : (s.enabled n).emitted = s.emitted := by
  rw [State.enabled, State.set_emitted, State.set_emitted, State.set_emitted, State.setAx_emitted, State.seti_emitted]

theorem axEnable_off (hr : s.axReady n = true) (hoff : s.bit (F.AXn_STAT.EN_OUT n) = false) : axEnable n s = (s.enabled n).enLine n true := by
  unfold axEnable
  rw [State.axCmd_ready hr]
  simp only [hoff, Bool.false_eq_true, if_false]
  rfl

theorem axDisable_on (hr : s.axReady n = true) (hon : s.bit (F.AXn_STAT.EN_OUT n) = true) (hps : s.get (F.AXn_STAT.PSTATE n) ≠ 8) :
    axDisable n s = s.axBrake n 5 := by
  unfold axDisable
  rw [State.axCmd_ready hr, if_pos hon, State.abortHome_notHoming hps]

theorem axStop_on (hr : s.axReady n = true) (hon : s.bit (F.AXn_STAT.EN_OUT n) = true) (hps : s.get (F.AXn_STAT.PSTATE n) ≠ 8) :
    axStop n s = s.axBrake n 3 := by
  unfold axStop
  rw [State.axCmd_ready hr, if_pos hon, State.abortHome_notHoming hps]

theorem axEstop_on (hr : s.axReady n = true) (hon : s.bit (F.AXn_STAT.EN_OUT n) = true) (hps : s.get (F.AXn_STAT.PSTATE n) ≠ 8) :
    axEstop n s = s.axBrake n 4 := by
  unfold axEstop
  rw [State.axCmd_ready hr, if_pos hon, State.abortHome_notHoming hps]

/-- What went outwards before the end of a command is in its record. -/
theorem State.mem_settle_emitted (s : State) {e : Emit} (h : e ∈ s.emitted) : e ∈ s.settle.emitted := by
  obtain ⟨l, hl⟩ := s.settle_emitted
  rw [hl]
  exact List.mem_append_left l h

section Commands
variable (dt : Nat) (hn : n < 16) (h : Writes s rq (R.AXn_CMD n))
include hn h

/-- An axis that is not ready answers every command with CMD_REJ alone. -/
theorem exec_axCmd_rejected (hp : s.axPresent n = true) (hr : s.axReady n = false) :
    ∀ c ∈ [Instr.axEnable dt rq n, .axDisable dt rq n, .axStop dt rq n, .axEstop dt rq n, .axHome dt rq n, .axClrLim dt rq n, .axClrFlt dt rq n],
      ∃ t, exec c s = .next t ∧ t.bit F.MPG_ERR.CMD_REJ = true ∧ OnlyWords [R.MPG_ERR] (s.elapse dt) t := by
  have hrej {c : Instr} {f : State → State} (he : exec c s = .next ((s.elapse dt).axCmd n f).settle) :
      ∃ t, exec c s = .next t ∧ t.bit F.MPG_ERR.CMD_REJ = true ∧ OnlyWords [R.MPG_ERR] (s.elapse dt) t :=
    exec_setsFlag (f := F.MPG_ERR.CMD_REJ) he (State.axCmd_notReady (s := s.elapse dt) hp hr f) rfl (by decide) (by decide)
  simp only [List.forall_mem_cons]
  exact ⟨hrej (exec_axEnable dt hn h), hrej (exec_axDisable dt hn h), hrej (exec_axStop dt hn h), hrej (exec_axEstop dt hn h),
    hrej (exec_axHome dt hn h), hrej (exec_axClrLim dt hn h), hrej (exec_axClrFlt dt hn h), by simp⟩

theorem exec_axEnable_enables (hr : s.axReady n = true) (hoff : s.bit (F.AXn_STAT.EN_OUT n) = false) :
    ∃ t, exec (.axEnable dt rq n) s = .next t ∧ t.bit (F.AXn_STAT.EN_OUT n) = true ∧ t.get (F.AXn_STAT.PSTATE n) = 1 ∧
      t.geti (F.AXn_TARGET.TARGET n) = s.geti (F.AXn_POS.POS n) ∧ t.bit (F.AXn_STAT.AT_TGT n) = true ∧
      t.emitted.head? = some (.pin (66 + 3 * n) (s.bit (F.AXn_CFG.EN_POL n))) ∧ SameWords [R.AXn_STAT n, R.AXn_TARGET n] s t := by
  have hen := (s.elapse dt).enabled_enabled n
  have hpol : ((s.elapse dt).enabled n).bit (F.AXn_CFG.EN_POL n) = s.bit (F.AXn_CFG.EN_POL n) :=
    State.bit_congr (hen.words.get _ (by simp) (notAlarm_of_lt (by grind)))
  obtain ⟨l, hl⟩ := (((s.elapse dt).enabled n).enLine n true).settle_emitted
  refine ⟨_, exec_axEnable dt hn h, ?_⟩
  rw [axEnable_off (s := s.elapse dt) hr hoff]
  refine ⟨?_, ?_, ?_, ?_, ?_, (hen.words.emit _).settle⟩
  · rw [State.settle_bit_lt _ (by grind), State.enLine_bit, hen.enOut]
  · rw [State.settle_get_lt _ (by grind), State.enLine_get, hen.pstate]
  · rw [State.settle_geti_lt _ (by grind), State.enLine_geti, hen.target, State.elapse_geti]
  · rw [State.settle_bit_lt _ (by grind), State.enLine_bit, hen.atTgt]
  · rw [hl, State.enLine_emitted, State.enabled_emitted, hpol]
    cases s.bit (F.AXn_CFG.EN_POL n) <;> rfl

section On
variable (hr : s.axReady n = true) (hon : s.bit (F.AXn_STAT.EN_OUT n) = true) (hps : s.get (F.AXn_STAT.PSTATE n) ≠ 8) (hb : (s.ax n).brake = 0)
include hr hon hps hb

theorem exec_axDisable_releases (hv : (s.ax n).v = 0) :
    ∃ t, exec (.axDisable dt rq n) s = .next t ∧ t.bit (F.AXn_STAT.EN_OUT n) = false ∧ t.get (F.AXn_STAT.PSTATE n) = 0 ∧
      Emit.pin (66 + 3 * n) (!s.bit (F.AXn_CFG.EN_POL n)) ∈ t.emitted := by
  have hrest := ((s.elapse dt).startBrake n 5).axRest_rests hn (ps := 0) (by decide)
  have hpol : ((((s.elapse dt).startBrake n 5).axRest n 0).set (F.AXn_STAT.EN_OUT n) 0).bit (F.AXn_CFG.EN_POL n) = s.bit (F.AXn_CFG.EN_POL n) := by
    rw [State.bit_congr (State.get_set_other _ _ _ _ (by simp)), State.bit_congr (hrest.others _ (by simp [Apart]) (by simp [axShowKeys])
      (notAlarm_of_lt (by grind))), State.bit_congr (State.startBrake_get _ _ _ (by simp [Apart]) (by simp [Apart])), State.elapse_bit]
  refine ⟨_, exec_axDisable dt hn h, ?_⟩
  rw [axDisable_on (s := s.elapse dt) hr hon hps, State.axBrake_disabled (s := s.elapse dt) hb hv]
  refine ⟨?_, ?_, State.mem_settle_emitted _ ?_⟩
  · rw [State.settle_bit_lt _ (by grind), State.enLine_bit, State.bit_set_zero _ _ (by decide)]
  · rw [State.settle_get_lt _ (by grind), State.enLine_get, State.get_set_other _ _ _ _ (by simp), hrest.pstate]
  · rw [← hpol]
    exact State.enLine_off_mem _ n

theorem exec_axStop_holds (hv : (s.ax n).v = 0) :
    ∃ t, exec (.axStop dt rq n) s = .next t ∧ t.get (F.AXn_STAT.PSTATE n) = 7 ∧ t.bit (F.AXn_STAT.EN_OUT n) = true ∧
      t.geti (F.AXn_TARGET.TARGET n) = s.geti (F.AXn_POS.POS n) := by
  have hrest := ((s.elapse dt).startBrake n 3).axRest_rests hn (ps := 7) (by decide)
  refine ⟨_, exec_axStop dt hn h, ?_⟩
  rw [axStop_on (s := s.elapse dt) hr hon hps, State.axBrake_stopped (s := s.elapse dt) hb hv]
  refine ⟨?_, ?_, ?_⟩
  · rw [State.settle_get_lt _ (by grind), hrest.pstate]
  · rw [State.settle_bit_lt _ (by grind), State.bit_congr (hrest.others _ (by simp [Apart]) (by simp [axShowKeys]) (notAlarm_of_lt (by grind))),
      State.bit_congr (State.startBrake_get _ _ _ (by simp [Apart]) (by simp [Apart])), State.elapse_bit, hon]
  · rw [State.settle_geti_lt _ (by grind), hrest.target, State.geti_congr (State.startBrake_get _ _ _ (by simp [Apart]) (by simp [Apart])),
      State.elapse_geti]

section Moving
variable (hv : (s.ax n).v ≠ 0)
include hv

theorem exec_axDisable_brakes : ∃ t, exec (.axDisable dt rq n) s = .next t ∧ t.bit (F.AXn_STAT.EN_OUT n) = true ∧ (t.ax n).brake = 5 ∧
    (t.ax n).v = (s.ax n).v := by
  have hbrakes := State.axBrake_brakes (s := s.elapse dt) hb hv (code := 5) (by decide)
  refine ⟨_, exec_axDisable dt hn h, ?_⟩
  rw [axDisable_on (s := s.elapse dt) hr hon hps, State.settle_ax, hbrakes.ax]
  refine ⟨?_, rfl, rfl⟩
  rw [State.settle_bit_lt _ (by grind), State.bit_congr (hbrakes.others _ (by simp [Apart]) (by simp [Apart]) (by simp [Apart])), State.elapse_bit, hon]

theorem exec_axStop_brakes : ∃ t, exec (.axStop dt rq n) s = .next t ∧ t.get (F.AXn_STAT.PSTATE n) = 4 ∧ (t.ax n).brake = 3 ∧
    (t.ax n).v = (s.ax n).v := by
  have hbrakes := State.axBrake_brakes (s := s.elapse dt) hb hv (code := 3) (by decide)
  refine ⟨_, exec_axStop dt hn h, ?_⟩
  rw [axStop_on (s := s.elapse dt) hr hon hps, State.settle_ax, hbrakes.ax]
  exact ⟨(State.settle_get_lt _ (by grind)).trans hbrakes.pstate, rfl, rfl⟩

theorem exec_axEstop_brakes : ∃ t, exec (.axEstop dt rq n) s = .next t ∧ t.get (F.AXn_STAT.PSTATE n) = 6 ∧ (t.ax n).brake = 4 ∧
    t.bit (F.AXn_STAT.EMG n) = true := by
  have hbrakes := State.axBrake_brakes (s := s.elapse dt) hb hv (code := 4) (by decide)
  refine ⟨_, exec_axEstop dt hn h, ?_⟩
  rw [axEstop_on (s := s.elapse dt) hr hon hps, State.settle_ax, hbrakes.ax]
  exact ⟨(State.settle_get_lt _ (by grind)).trans hbrakes.pstate, rfl, (State.settle_bit_lt _ (by grind)).trans (hbrakes.emg rfl)⟩

end Moving

end On

end Commands

end Sys2Proof.Machine
end

section
/-! The rest of a local axis' commands: HOME (R216), CLR_LIM (R214), CLR_FLT (R212), targets (R203, R204, R216) and limits (R207); O37. -/
namespace Sys2Proof.Machine

variable {s t : State} {rq : Rq} {n : Nat}

/-! ### The homing sequence (R216) -/

/-- In the search the signal can do no more than start the braking. -/
theorem State.homeFollow_search (h : s.get (F.AXn_STAT.HPH n) = 1) :
    s.homeFollow n = s ∨ s.homeFollow n = s.setAx n { s.ax n with brake := 9 } := by
  unfold State.homeFollow
  split
  · exact .inl rfl
  · simp only [h]
    split
    · exact .inr rfl
    · exact .inl rfl

theorem State.homeFollow_search_get (h : s.get (F.AXn_STAT.HPH n) = 1) (f : Fld) : (s.homeFollow n).get f = s.get f := by
  rcases State.homeFollow_search h with e | e <;> rw [e]
  rfl

/-- HOMED and HOME_LIMIT are cleared first. -/
def State.homeCleared (s : State) (n : Nat) : State := (s.set (F.AXn_STAT.HOMED n) 0).set (F.AXn_STAT.HOME_LIMIT n) 0

/-- HOME with HMODE 3: the position is HOME_OFS at once. -/
def State.homedHere (s : State) (n : Nat) : State :=
  (((((s.homeCleared n).seti (F.AXn_POS.POS n) (s.geti (F.AXn_HOME_OFS.POS n))).set (F.AXn_POS_FRAC.FRAC n) 0).seti (F.AXn_TARGET.TARGET n)
    (s.geti (F.AXn_HOME_OFS.POS n))).setAx n { s.ax n with acc := 0 }).set (F.AXn_STAT.HOMED n) 1

/-- HOME with another HMODE: the search begins. -/
def State.searching (s : State) (n : Nat) : State :=
  ((((s.homeCleared n).set (F.AXn_STAT.PSTATE n) 8).set (F.AXn_STAT.HPH n) 1).set (F.AXn_STAT.AT_TGT n) 0).setAx n
    { s.ax n with brake := 0, fresh := false, held := none }

theorem axHome_latched (hr : s.axReady n = true) (h : s.bit (F.AXn_STAT.LIMP n) = true ∨ s.bit (F.AXn_STAT.LIMN n) = true) :
    axHome n s = s.flag F.MPG_ERR.CMD_REJ := by
  unfold axHome
  rw [State.axCmd_ready hr, if_pos (by simpa using h)]

section Unlatched
variable (hr : s.axReady n = true) (hp : s.bit (F.AXn_STAT.LIMP n) = false) (hm : s.bit (F.AXn_STAT.LIMN n) = false)
include hr hp hm

theorem axHome_here (h : s.get (F.AXn_HOME_CFG.HMODE n) = 3) : axHome n s = s.homedHere n := by
  unfold axHome
  rw [State.axCmd_ready hr, if_neg (by simp [hp, hm])]
  exact if_pos h

theorem axHome_searches (h : s.get (F.AXn_HOME_CFG.HMODE n) ≠ 3) (hon : s.bit (F.AXn_STAT.EN_OUT n) = true) :
    axHome n s = (s.searching n).homeFollow n := by
  unfold axHome
  rw [State.axCmd_ready hr, if_neg (by simp [hp, hm])]
  exact (if_neg h).trans (if_neg (by simp [hon]))

end Unlatched

theorem State.homedHere_ax (s : State) (n : Nat) : (s.homedHere n).ax n = { s.ax n with acc := 0 } := by
  rw [State.homedHere, State.set_ax, State.ax_setAx_same]

theorem State.homedHere_pos (s : State) (n : Nat) : (s.homedHere n).geti (F.AXn_POS.POS n) = s.geti (F.AXn_HOME_OFS.POS n) := by
  rw [State.homedHere, State.geti_congr (State.get_set_other _ _ _ _ (by simp)), State.setAx_geti,
    State.geti_congr (State.get_seti_other _ _ (by simp [Apart])), State.geti_congr (State.get_set_other _ _ _ _ (by simp)), State.geti_seti_geti]

theorem State.homedHere_frac (s : State) (n : Nat) : (s.homedHere n).get (F.AXn_POS_FRAC.FRAC n) = 0 := by
  rw [State.homedHere, State.get_set_other _ _ _ _ (by simp), State.setAx_get, State.get_seti_other _ _ (by simp [Apart]),
    State.get_set_fits _ _ (by decide) (by decide)]

theorem State.searching_pstate (s : State) (n : Nat) : (s.searching n).get (F.AXn_STAT.PSTATE n) = 8 := by
  rw [State.searching, State.setAx_get, State.get_set_other _ _ _ _ (by simp), State.get_set_other _ _ _ _ (by simp),
    State.get_set_fits _ _ (by decide) (by decide)]

theorem State.searching_hph (s : State) (n : Nat) : (s.searching n).get (F.AXn_STAT.HPH n) = 1 := by
  rw [State.searching, State.setAx_get, State.get_set_other _ _ _ _ (by simp), State.get_set_fits _ _ (by decide) (by decide)]

theorem State.searching_homed (s : State) (n : Nat) : (s.searching n).bit (F.AXn_STAT.HOMED n) = false := by
  rw [State.searching, State.setAx_bit, State.bit_congr (State.get_set_other _ _ _ _ (by simp)), State.bit_congr (State.get_set_other _ _ _ _ (by simp)),
    State.bit_congr (State.get_set_other _ _ _ _ (by simp)), State.homeCleared, State.bit_congr (State.get_set_other _ _ _ _ (by simp)),
    State.bit_set_zero _ _ (by decide)]

/-! ### Latched limits (R214) -/

/-- The bit of AXn_STAT that shows a latched limit, and the bit of MPG_LIM. -/
abbrev limFld (n : Nat) (plus : Bool) : Fld := if plus then F.AXn_STAT.LIMP n else F.AXn_STAT.LIMN n
abbrev limShown (n : Nat) (plus : Bool) : Fld := ⟨R.MPG_LIM, if plus then n else n + 16, 1⟩

theorem State.limLatch_eq (s : State) (n : Nat) (plus on : Bool) :
    s.limLatch n plus on = (s.setBit (limFld n plus) on).setBit (limShown n plus) on := rfl

theorem limFld_key (n : Nat) (plus : Bool) : (limFld n plus).key = R.AXn_STAT n := by cases plus <;> rfl
theorem axStat_ne_mpgLim (n : Nat) : R.AXn_STAT n ≠ R.MPG_LIM := by grind

theorem State.limLatch_onlyWords (s : State) (n : Nat) (plus on : Bool) : OnlyWords [R.AXn_STAT n, R.MPG_LIM] s (s.limLatch n plus on) :=
  ((OnlyWords.refl _ s).setBit (limFld n plus) on (by simp [limFld_key])).setBit (limShown n plus) on (by simp)

@[simp] theorem State.limLatch_ax (s : State) (n m : Nat) (plus on : Bool) : (s.limLatch n plus on).ax m = s.ax m := by
  rw [State.limLatch_eq, State.setBit_ax, State.setBit_ax]

theorem State.limLatch_get (s : State) (n : Nat) (plus on : Bool) {f : Fld} (hf : Apart f (limFld n plus)) (hl : f.key ≠ R.MPG_LIM) :
    (s.limLatch n plus on).get f = s.get f :=
  (State.get_setBit_other _ _ _ _ (.inl hl)).trans (State.get_setBit_other _ _ _ _ hf)

theorem State.limLatch_bit (s : State) (n : Nat) (plus on : Bool) : (s.limLatch n plus on).bit (limFld n plus) = on := by
  have hfit : (limFld n plus).lsb + (limFld n plus).width ≤ 32 ∧ 0 < (limFld n plus).width := by cases plus <;> exact ⟨by simp [limFld], by simp [limFld]⟩
  rw [State.limLatch_eq, State.bit_setBit_other _ _ _ _ (.inl (by rw [limFld_key]; exact axStat_ne_mpgLim n)), State.bit_setBit_same _ _ _ hfit.1 hfit.2]

theorem State.limLatch_shown (s : State) {n : Nat} (hn : n < 16) (plus on : Bool) : (s.limLatch n plus on).bit (limShown n plus) = on :=
  State.bit_setBit_same _ _ _ (by
    cases plus
    · show n + 16 + 1 ≤ 32; omega
    · show n + 1 ≤ 32; omega) Nat.one_pos

section ClrLim
variable (hr : s.axReady n = true) (hp : s.bit (F.AXn_STAT.LIMP n) = true) (hm : s.bit (F.AXn_STAT.LIMN n) = false)
include hr hp hm

/-- The latch of LIM+ alone, its input inactive. -/
theorem axClrLim_inactive (h : (s.ax n).limP = false) : axClrLim n s = s.limLatch n true false := by
  have hm' : (s.limLatch n true false).bit (F.AXn_STAT.LIMN n) = false := by
    rw [State.bit_congr (s.limLatch_get n true false (by simp [Apart, limFld]) (axStat_ne_mpgLim n)), hm]
  unfold axClrLim
  rw [State.axCmd_ready hr]
  simp [hp, h, hm']

/-- The latch of LIM+ alone, its input active. -/
theorem axClrLim_active (h : (s.ax n).limP = true) : axClrLim n s = s.flag F.MPG_ERR.CLR_REJ := by
  have hm' : (s.flag F.MPG_ERR.CLR_REJ).bit (F.AXn_STAT.LIMN n) = false := by
    rw [State.bit_congr (State.get_flag_other _ _ _ (by grind)), hm]
  unfold axClrLim
  rw [State.axCmd_ready hr]
  simp [hp, h, hm']

end ClrLim

theorem axClrFlt_ready (hr : s.axReady n = true) : axClrFlt n s = s.set (F.AXn_STAT.FAULT n) 0 := by
  unfold axClrFlt
  rw [State.axCmd_ready hr]

/-! ### The commands of AXn_CMD, continued -/

section Commands
variable (dt : Nat) (hn : n < 16) (h : Writes s rq (R.AXn_CMD n)) (hr : s.axReady n = true)
include hn h hr

theorem exec_axHome_latched (hl : s.bit (F.AXn_STAT.LIMP n) = true ∨ s.bit (F.AXn_STAT.LIMN n) = true) :
    ∃ t, exec (.axHome dt rq n) s = .next t ∧ t.bit F.MPG_ERR.CMD_REJ = true ∧ OnlyWords [R.MPG_ERR] (s.elapse dt) t :=
  exec_setsFlag (f := F.MPG_ERR.CMD_REJ) (exec_axHome dt hn h) (axHome_latched (s := s.elapse dt) hr hl) rfl (by decide) (by decide)

theorem exec_axHome_here (hp : s.bit (F.AXn_STAT.LIMP n) = false) (hm : s.bit (F.AXn_STAT.LIMN n) = false)
    (hmode : s.get (F.AXn_HOME_CFG.HMODE n) = 3) :
    ∃ t, exec (.axHome dt rq n) s = .next t ∧ t.bit (F.AXn_STAT.HOMED n) = true ∧ t.geti (F.AXn_POS.POS n) = s.geti (F.AXn_HOME_OFS.POS n) ∧
      t.get (F.AXn_POS_FRAC.FRAC n) = 0 ∧ (t.ax n).acc = 0 := by
  refine ⟨_, exec_axHome dt hn h, ?_⟩
  rw [axHome_here (s := s.elapse dt) hr hp hm hmode]
  refine ⟨?_, ?_, ?_, ?_⟩
  · rw [State.settle_bit_lt _ (by grind), State.homedHere, State.bit_set_one _ _ (by decide)]
  · rw [State.settle_geti_lt _ (by grind), State.homedHere_pos, State.elapse_geti]
  · rw [State.settle_get_lt _ (by grind), State.homedHere_frac]
  · rw [State.settle_ax, State.homedHere_ax]

theorem exec_axHome_searches (hp : s.bit (F.AXn_STAT.LIMP n) = false) (hm : s.bit (F.AXn_STAT.LIMN n) = false)
    (hmode : s.get (F.AXn_HOME_CFG.HMODE n) ≠ 3) (hon : s.bit (F.AXn_STAT.EN_OUT n) = true) :
    ∃ t, exec (.axHome dt rq n) s = .next t ∧ t.bit (F.AXn_STAT.HOMED n) = false ∧ t.get (F.AXn_STAT.PSTATE n) = 8 ∧
      t.get (F.AXn_STAT.HPH n) = 1 := by
  have hget := State.homeFollow_search_get ((s.elapse dt).searching_hph n)
  refine ⟨_, exec_axHome dt hn h, ?_⟩
  rw [axHome_searches (s := s.elapse dt) hr hp hm hmode hon]
  refine ⟨?_, ?_, ?_⟩
  · rw [State.settle_bit_lt _ (by grind), State.bit_congr (hget _), State.searching_homed]
  · rw [State.settle_get_lt _ (by grind), hget, State.searching_pstate]
  · rw [State.settle_get_lt _ (by grind), hget, State.searching_hph]

theorem exec_axClrLim_inactive (hp : s.bit (F.AXn_STAT.LIMP n) = true) (hm : s.bit (F.AXn_STAT.LIMN n) = false) (hl : (s.ax n).limP = false) :
    ∃ t, exec (.axClrLim dt rq n) s = .next t ∧ t.bit (F.AXn_STAT.LIMP n) = false ∧ t.bit ⟨R.MPG_LIM, n, 1⟩ = false ∧
      OnlyWords [R.AXn_STAT n, R.MPG_LIM] (s.elapse dt) t := by
  refine ⟨_, exec_axClrLim dt hn h, ?_⟩
  rw [axClrLim_inactive (s := s.elapse dt) hr hp hm hl]
  exact ⟨(State.settle_bit_lt _ (by grind)).trans (State.limLatch_bit _ n true false),
    (State.settle_bit_lt _ (by decide : R.MPG_LIM < 0x100000)).trans (State.limLatch_shown _ hn true false), (State.limLatch_onlyWords _ n true false).settle⟩

theorem exec_axClrLim_active (hp : s.bit (F.AXn_STAT.LIMP n) = true) (hm : s.bit (F.AXn_STAT.LIMN n) = false) (hl : (s.ax n).limP = true) :
    ∃ t, exec (.axClrLim dt rq n) s = .next t ∧ t.bit F.MPG_ERR.CLR_REJ = true ∧ OnlyWords [R.MPG_ERR] (s.elapse dt) t :=
  exec_setsFlag (f := F.MPG_ERR.CLR_REJ) (exec_axClrLim dt hn h) (axClrLim_active (s := s.elapse dt) hr hp hm hl) rfl (by decide) (by decide)

theorem exec_axClrFlt_clears : ∃ t, exec (.axClrFlt dt rq n) s = .next t ∧ t.bit (F.AXn_STAT.FAULT n) = false ∧
    OnlyWords [R.AXn_STAT n] (s.elapse dt) t := by
  refine ⟨_, exec_axClrFlt dt hn h, ?_⟩
  rw [axClrFlt_ready (s := s.elapse dt) hr]
  exact ⟨(State.settle_bit_lt _ (by grind)).trans (State.bit_set_zero _ _ (by decide)), ((OnlyWords.refl _ _).set _ _ (by simp)).settle⟩

end Commands

/-! ### Targets (R203, R204, R216) -/

section Target
variable (hn : n < 16) (hp : s.axPresent n = true)
include hn hp

theorem axTargetWrite_otherWriter (v : Word) (hsrc : s.get (F.AXn_CFG.TGT_SRC n) ≠ 0) : axTargetWrite n v s = s.flag F.MPG_ERR.WRITER := by
  rw [axTargetWrite, if_pos hp, State.writeTarget, if_pos hn, if_pos hsrc]

variable (hsrc : s.get (F.AXn_CFG.TGT_SRC n) = 0)
include hsrc

theorem axTargetWrite_off (v : Word) (hoff : s.bit (F.AXn_STAT.EN_OUT n) = false) : axTargetWrite n v s = s := by
  rw [axTargetWrite, if_pos hp, State.writeTarget, if_pos hn, if_neg (not_not.mpr hsrc), if_pos (by simp [hoff])]

variable (hon : s.bit (F.AXn_STAT.EN_OUT n) = true)
include hon

theorem axTargetWrite_homing (v : Word) (hps : s.get (F.AXn_STAT.PSTATE n) = 8) :
    axTargetWrite n v s = s.setAx n { s.ax n with held := some v.toInt } := by
  rw [axTargetWrite, if_pos hp, State.writeTarget, if_pos hn, if_neg (not_not.mpr hsrc), if_neg (by simp [hon]), if_pos hps]

theorem axTargetWrite_taken (v : Word) (hps : s.get (F.AXn_STAT.PSTATE n) ≠ 8) :
    axTargetWrite n v s = (s.seti (F.AXn_TARGET.TARGET n) v.toInt).setAx n { s.ax n with fresh := true, want := v.toInt } := by
  rw [axTargetWrite, if_pos hp, State.writeTarget, if_pos hn, if_neg (not_not.mpr hsrc), if_neg (by simp [hon]), if_neg hps]

end Target

section TargetWrite
variable (dt : Nat) (v : Word) (hn : n < 16) (h : Writes s rq (R.AXn_TARGET n)) (hp : s.axPresent n = true)
include hn h hp

theorem exec_axTargetWrite_otherWriter (hsrc : s.get (F.AXn_CFG.TGT_SRC n) ≠ 0) :
    ∃ t, exec (.axTargetWrite dt rq n v) s = .next t ∧ t.bit F.MPG_ERR.WRITER = true ∧ OnlyWords [R.MPG_ERR] (s.elapse dt) t :=
  exec_setsFlag (f := F.MPG_ERR.WRITER) (exec_axTargetWrite dt hn h v) (axTargetWrite_otherWriter (s := s.elapse dt) hn hp v hsrc) rfl (by decide)
    (by decide)

variable (hsrc : s.get (F.AXn_CFG.TGT_SRC n) = 0)
include hsrc

theorem exec_axTargetWrite_off (hoff : s.bit (F.AXn_STAT.EN_OUT n) = false) :
    ∃ t, exec (.axTargetWrite dt rq n v) s = .next t ∧ OnlyWords [] (s.elapse dt) t :=
  exec_idle (exec_axTargetWrite dt hn h v) (axTargetWrite_off (s := s.elapse dt) hn hp hsrc v hoff)

variable (hon : s.bit (F.AXn_STAT.EN_OUT n) = true)
include hon

theorem exec_axTargetWrite_homing (hps : s.get (F.AXn_STAT.PSTATE n) = 8) :
    ∃ t, exec (.axTargetWrite dt rq n v) s = .next t ∧ t.ax n = { s.ax n with held := some v.toInt } ∧ SameWords [] s t := by
  refine ⟨_, exec_axTargetWrite dt hn h v, ?_⟩
  rw [axTargetWrite_homing (s := s.elapse dt) hn hp hsrc hon v hps]
  exact ⟨(State.settle_ax _ n).trans (State.ax_setAx_same _ n _), SameWords.settle (fun _ _ _ => rfl)⟩

theorem exec_axTargetWrite_taken (hps : s.get (F.AXn_STAT.PSTATE n) ≠ 8) :
    ∃ t, exec (.axTargetWrite dt rq n v) s = .next t ∧ t.getw (F.AXn_TARGET.TARGET n) = v ∧
      t.ax n = { s.ax n with fresh := true, want := v.toInt } ∧ SameWords [R.AXn_TARGET n] s t := by
  refine ⟨_, exec_axTargetWrite dt hn h v, ?_⟩
  rw [axTargetWrite_taken (s := s.elapse dt) hn hp hsrc hon v hps]
  refine ⟨?_, (State.settle_ax _ n).trans (State.ax_setAx_same _ n _), ?_⟩
  · rw [State.settle_getw_lt _ (by grind), State.setAx_getw, State.getw_seti_same, BitVec.ofInt_toInt]
  · exact SameWords.of_elapse (SameWords.settle (((SameWords.refl _ (s.elapse dt)).seti (F.AXn_TARGET.TARGET n) _ (by simp)).setAx n _))

end TargetWrite

/-! ### Limits (R203, R207) -/

section Limit
variable {w : Nat} {v : Word} (hp : s.axPresent n = true) (hsrc : w = 0 → s.get (F.AXn_CFG.VMAX_SRC n) = 0)
include hp hsrc

theorem axLimitWrite_refused (h : limitOk (w == 3) v = false ∨ (w = 0 ∧ s.rateOk n v = false)) : axLimitWrite n w v s = s.flag F.MPG_ERR.RANGE := by
  have hwriter : ¬ (w = 0 ∧ s.get (F.AXn_CFG.VMAX_SRC n) ≠ 0) := fun hw => hw.2 (hsrc hw.1)
  rw [axLimitWrite, if_pos hp, State.axLimit, if_neg hwriter, if_pos]
  rcases h with h | ⟨hw, h⟩
  · simp [h]
  · simp [hw, h]

theorem axLimitWrite_taken (hok : limitOk (w == 3) v = true) (hrate : w = 0 → s.rateOk n v = true) :
    axLimitWrite n w v s = (s.setw (axLimitFld n w) v).setAx n { s.ax n with replan := true } := by
  have hwriter : ¬ (w = 0 ∧ s.get (F.AXn_CFG.VMAX_SRC n) ≠ 0) := fun hw => hw.2 (hsrc hw.1)
  rw [axLimitWrite, if_pos hp, State.axLimit, if_neg hwriter, if_neg]
  simpa [hok] using hrate

end Limit

/-- A limit register is a whole word of MPG. -/
theorem axLimitFld_eq (n w : Nat) : axLimitFld n w = ⟨(axLimitFld n w).key, 0, 32⟩ := by unfold axLimitFld; split <;> rfl
theorem axLimitFld_lt (hn : n < 16) (w : Nat) : (axLimitFld n w).key < 0x100000 := by unfold axLimitFld; split <;> grind

section LimitWrite
variable (dt : Nat) {w : Nat} {v : Word} (hn : n < 16) (hw : w < 5) (h : Writes s rq (R.AXn_VMAX n + 4 * w)) (hp : s.axPresent n = true)
  (hsrc : w = 0 → s.get (F.AXn_CFG.VMAX_SRC n) = 0)
include hn hw h hp hsrc

theorem exec_axLimitWrite_refused (hbad : limitOk (w == 3) v = false ∨ (w = 0 ∧ s.rateOk n v = false)) :
    ∃ t, exec (.axLimitWrite dt rq n w v) s = .next t ∧ t.bit F.MPG_ERR.RANGE = true ∧ OnlyWords [R.MPG_ERR] (s.elapse dt) t :=
  exec_setsFlag (f := F.MPG_ERR.RANGE) (exec_axLimitWrite dt hn hw h v) (axLimitWrite_refused (s := s.elapse dt) hp hsrc hbad) rfl (by decide)
    (by decide)

theorem exec_axLimitWrite_taken (hok : limitOk (w == 3) v = true) (hrate : w = 0 → s.rateOk n v = true) :
    ∃ t, exec (.axLimitWrite dt rq n w v) s = .next t ∧ t.getw (axLimitFld n w) = v ∧ t.ax n = { s.ax n with replan := true } ∧
      SameWords [(axLimitFld n w).key] s t := by
  refine ⟨_, exec_axLimitWrite dt hn hw h v, ?_⟩
  rw [axLimitWrite_taken (s := s.elapse dt) hp hsrc hok hrate]
  refine ⟨?_, (State.settle_ax _ n).trans (State.ax_setAx_same _ n _), ?_⟩
  · rw [State.settle_getw_lt _ (axLimitFld_lt hn w), State.setAx_getw, axLimitFld_eq, State.getw_setw_same]
  · exact SameWords.of_elapse (SameWords.settle (((SameWords.refl _ (s.elapse dt)).setw (axLimitFld n w) _ (List.mem_singleton_self _)).setAx n _))

end LimitWrite

/-- Settles O37, command by command. -/
theorem axisCommandsActOnAConfiguredAxis : Obligations.AxisCommandsActOnAConfiguredAxis := by
  intro s dt rq n hn
  refine ⟨fun h hp => ⟨fun hr => exec_axCmd_rejected dt hn h hp hr, fun hr => ⟨fun hoff => exec_axEnable_enables dt hn h hr hoff,
      fun hon hps => ⟨fun hv hb => ⟨exec_axDisable_releases dt hn h hr hon hps hb hv, exec_axStop_holds dt hn h hr hon hps hb hv⟩,
        fun hv hb => ⟨exec_axDisable_brakes dt hn h hr hon hps hb hv, exec_axStop_brakes dt hn h hr hon hps hb hv,
          exec_axEstop_brakes dt hn h hr hon hps hb hv⟩⟩,
      fun hl => exec_axHome_latched dt hn h hr hl,
      fun hlp hlm => ⟨fun hm => exec_axHome_here dt hn h hr hlp hlm hm, fun hm hon => exec_axHome_searches dt hn h hr hlp hlm hm hon⟩,
      fun hlp hlm => ⟨fun hl => exec_axClrLim_inactive dt hn h hr hlp hlm hl, fun hl => exec_axClrLim_active dt hn h hr hlp hlm hl⟩,
      exec_axClrFlt_clears dt hn h hr⟩⟩,
    fun v h hp => ⟨fun hsrc => exec_axTargetWrite_otherWriter dt v hn h hp hsrc, fun hsrc hoff => exec_axTargetWrite_off dt v hn h hp hsrc hoff,
      fun hsrc hon => ⟨fun hps => exec_axTargetWrite_homing dt v hn h hp hsrc hon hps, fun hps => exec_axTargetWrite_taken dt v hn h hp hsrc hon hps⟩⟩,
    fun w v hw h hp hsrc => ⟨fun hbad => exec_axLimitWrite_refused dt hn hw h hp hsrc hbad,
      fun hok hrate => exec_axLimitWrite_taken dt hn hw h hp hsrc hok hrate⟩⟩

end Sys2Proof.Machine
end

section
/-! A limit that trips (R214) and the homing sequence's signal (R216). -/
namespace Sys2Proof.Machine

variable {s t : State} {n : Nat}

/-! ### LIMIT_TRIP (R214) -/

/-- A limit input whose counter has reached DEB. -/
def Ax.tripped (x : Ax) (plus : Bool) (deb : Nat) : Ax := if plus then { x with limP := true, cP := deb } else { x with limN := true, cN := deb }

/-- The trip is latched and flagged. -/
def State.latchTrip (s : State) (n : Nat) (plus : Bool) : State :=
  ((s.setAx n ((s.ax n).tripped plus (s.get (F.AXn_LIM_CFG.DEB n)))).limLatch n plus true).flag F.MPG_ERR.LIMIT

theorem State.latchTrip_ax (s : State) (n : Nat) (plus : Bool) :
    (s.latchTrip n plus).ax n = (s.ax n).tripped plus (s.get (F.AXn_LIM_CFG.DEB n)) := by
  rw [State.latchTrip, State.flag_ax, State.limLatch_ax, State.ax_setAx_same]

theorem Ax.tripped_v (x : Ax) (plus : Bool) (deb : Nat) : (x.tripped plus deb).v = x.v := by cases plus <;> rfl
theorem Ax.tripped_brake (x : Ax) (plus : Bool) (deb : Nat) : (x.tripped plus deb).brake = x.brake := by cases plus <;> rfl

theorem axStat_ne_mpgErr (n : Nat) : R.AXn_STAT n ≠ R.MPG_ERR := by grind

theorem State.latchTrip_shown (s : State) (n : Nat) (plus : Bool) : (s.latchTrip n plus).bit (limFld n plus) = true := by
  rw [State.latchTrip, State.bit_congr (State.get_flag_other _ _ _ (.inl (by rw [limFld_key]; exact axStat_ne_mpgErr n))), State.limLatch_bit]

theorem State.latchTrip_flagged (s : State) (n : Nat) (plus : Bool) : (s.latchTrip n plus).bit F.MPG_ERR.LIMIT = true :=
  State.bit_flag_same _ F.MPG_ERR.LIMIT rfl (by decide)

theorem State.latchTrip_get (s : State) (n : Nat) (plus : Bool) {f : Fld} (hf : Apart f (limFld n plus)) (hl : f.key ≠ R.MPG_LIM)
    (he : f.key ≠ R.MPG_ERR) : (s.latchTrip n plus).get f = s.get f := by
  rw [State.latchTrip, State.get_flag_other _ _ _ (.inl he), State.limLatch_get _ _ _ _ hf hl, State.setAx_get]

/-- The limit input is used. -/
abbrev limUsed (n : Nat) (plus : Bool) : Fld := if plus then F.AXn_LIM_CFG.LIMP_EN n else F.AXn_LIM_CFG.LIMN_EN n

/-- A homing sequence that a limit aborts (R217), and an axis that stops as LIM_MODE selects. -/
def State.abortAtLimit (s : State) (n : Nat) : State := ((s.abortHome n).set (F.AXn_STAT.HOME_LIMIT n) 1).flag F.MPG_ERR.HOME_LIMIT
def State.stopAtLimit (s : State) (n : Nat) : State :=
  if s.get (F.AXn_STAT.PSTATE n) = 0 then s else if s.bit (F.AXn_LIM_CFG.LIM_MODE n) then s.axBrake n 4 else s.axRest n 7

theorem State.limitTrip_eq (s : State) (n : Nat) (plus : Bool) :
    s.limitTrip n plus = if !s.bit (limUsed n plus) then s
      else if s.get (F.AXn_STAT.PSTATE n) = 8 ∧
          ((s.get (F.AXn_HOME_CFG.HMODE n) = 1 ∧ !plus) ∨ (s.get (F.AXn_HOME_CFG.HMODE n) = 2 ∧ plus)) then
        s.setAx n ((s.ax n).tripped plus (s.get (F.AXn_LIM_CFG.DEB n)))
      else (if s.get (F.AXn_STAT.PSTATE n) = 8 then (s.latchTrip n plus).abortAtLimit n else s.latchTrip n plus).stopAtLimit n := rfl

theorem State.limitTrip_unused {plus : Bool} (h : s.bit (limUsed n plus) = false) : s.limitTrip n plus = s := by
  rw [State.limitTrip_eq, if_pos (by simp [h])]

theorem apart_limFld_pstate (n : Nat) (plus : Bool) : Apart (F.AXn_STAT.PSTATE n) (limFld n plus) := by cases plus <;> simp [Apart, limFld]

/-- A used limit of an enabled axis that is not homing stops it as LIM_MODE selects. -/
theorem State.limitTrip_trips {plus : Bool} (hused : s.bit (limUsed n plus) = true) (hhome : s.get (F.AXn_STAT.PSTATE n) ≠ 8)
    (hon : s.get (F.AXn_STAT.PSTATE n) ≠ 0) :
    s.limitTrip n plus = if s.bit (F.AXn_LIM_CFG.LIM_MODE n) then (s.latchTrip n plus).axBrake n 4 else (s.latchTrip n plus).axRest n 7 := by
  have hps : (s.latchTrip n plus).get (F.AXn_STAT.PSTATE n) = s.get (F.AXn_STAT.PSTATE n) :=
    s.latchTrip_get n plus (apart_limFld_pstate n plus) (axStat_ne_mpgLim n) (axStat_ne_mpgErr n)
  have hmode : (s.latchTrip n plus).bit (F.AXn_LIM_CFG.LIM_MODE n) = s.bit (F.AXn_LIM_CFG.LIM_MODE n) :=
    State.bit_congr (s.latchTrip_get n plus (.inl (by rw [limFld_key]; simp)) (by grind) (by grind))
  rw [State.limitTrip_eq, if_neg (by simp [hused]), if_neg (fun hc => hhome hc.1), if_neg hhome, State.stopAtLimit, if_neg (by rwa [hps]), hmode]

theorem exec_limitTrip (dt n : Nat) (plus : Bool) (s : State) : exec (.limitTrip dt n plus) s = .next ((s.elapse dt).limitTrip n plus).settle := rfl

section Trip
variable (dt : Nat) {plus : Bool} (hn : n < 16)

theorem exec_limitTrip_unused (h : s.bit (limUsed n plus) = false) : ∃ t, exec (.limitTrip dt n plus) s = .next t ∧ OnlyWords [] (s.elapse dt) t :=
  exec_idle (exec_limitTrip dt n plus s) (State.limitTrip_unused (s := s.elapse dt) h)

variable (hused : s.bit (limUsed n plus) = true) (hhome : s.get (F.AXn_STAT.PSTATE n) ≠ 8) (hon : s.get (F.AXn_STAT.PSTATE n) ≠ 0)
include hn hused hhome hon

/-- LIM_MODE 0: the axis stops at once. -/
theorem exec_limitTrip_stops (hmode : s.bit (F.AXn_LIM_CFG.LIM_MODE n) = false) :
    ∃ t, exec (.limitTrip dt n plus) s = .next t ∧ t.bit (limFld n plus) = true ∧ t.bit F.MPG_ERR.LIMIT = true ∧
      t.get (F.AXn_STAT.PSTATE n) = 7 ∧ (t.ax n).v = 0 ∧ t.geti (F.AXn_TARGET.TARGET n) = s.geti (F.AXn_POS.POS n) ∧
      t.geti (F.AXn_POS.POS n) = s.geti (F.AXn_POS.POS n) := by
  have hrest := ((s.elapse dt).latchTrip n plus).axRest_rests hn (ps := 7) (by decide)
  have hlimLt : (limFld n plus).key < 0x100000 := by rw [limFld_key]; grind
  have hpos : ((s.elapse dt).latchTrip n plus).geti (F.AXn_POS.POS n) = s.geti (F.AXn_POS.POS n) :=
    State.geti_congr (State.latchTrip_get _ n plus (.inl (by rw [limFld_key]; simp)) (by grind) (by grind))
  refine ⟨_, exec_limitTrip dt n plus s, ?_⟩
  rw [State.limitTrip_trips (s := s.elapse dt) hused hhome hon, if_neg (by simp [hmode])]
  refine ⟨?_, ?_, ?_, ?_, ?_, ?_⟩
  · rw [State.settle_bit_lt _ hlimLt, State.bit_congr (hrest.others _ ((apart_limFld_pstate n plus).elim (fun h => .inl h.symm) (fun h => .inr h.symm))
      (by rw [limFld_key]; simp [axShowKeys]) (notAlarm_of_lt hlimLt)), State.latchTrip_shown]
  · rw [State.settle_bit_lt _ (by decide), State.bit_congr (hrest.others _ (by grind) (by simp [axShowKeys]; grind) (by decide)), State.latchTrip_flagged]
  · rw [State.settle_get_lt _ (by grind), hrest.pstate]
  · rw [State.settle_ax, hrest.ax]
  · rw [State.settle_geti_lt _ (by grind), hrest.target, hpos]
  · rw [State.settle_geti_lt _ (by grind), State.geti_congr (hrest.others _ (by simp [Apart]) (by simp [axShowKeys]) (notAlarm_of_lt (by grind))), hpos]

/-- LIM_MODE 1: the axis brakes at DEC_EMG. -/
theorem exec_limitTrip_brakes (hmode : s.bit (F.AXn_LIM_CFG.LIM_MODE n) = true) (hv : (s.ax n).v ≠ 0) (hb : (s.ax n).brake = 0) :
    ∃ t, exec (.limitTrip dt n plus) s = .next t ∧ t.bit (limFld n plus) = true ∧ t.bit F.MPG_ERR.LIMIT = true ∧
      t.get (F.AXn_STAT.PSTATE n) = 6 ∧ (t.ax n).brake = 4 ∧ (t.ax n).v = (s.ax n).v := by
  have hax := (s.elapse dt).latchTrip_ax n plus
  have hv' : (((s.elapse dt).latchTrip n plus).ax n).v = (s.ax n).v := by rw [hax, Ax.tripped_v, State.elapse_ax]
  have hb' : (((s.elapse dt).latchTrip n plus).ax n).brake = 0 := by rw [hax, Ax.tripped_brake, State.elapse_ax, hb]
  have hbrakes := State.axBrake_brakes hb' (hv'.symm ▸ hv) (code := 4) (by decide)
  have hlimLt : (limFld n plus).key < 0x100000 := by rw [limFld_key]; grind
  refine ⟨_, exec_limitTrip dt n plus s, ?_⟩
  rw [State.limitTrip_trips (s := s.elapse dt) hused hhome hon, if_pos ((s.elapse_bit dt _).trans hmode), State.settle_ax, hbrakes.ax]
  refine ⟨?_, ?_, (State.settle_get_lt _ (by grind)).trans hbrakes.pstate, rfl, hv'⟩
  · rw [State.settle_bit_lt _ hlimLt, State.bit_congr (hbrakes.others _ (by cases plus <;> simp [Apart, limFld]) (by cases plus <;> simp [Apart, limFld])
      (by cases plus <;> simp [Apart, limFld])), State.latchTrip_shown]
  · rw [State.settle_bit_lt _ (by decide), State.bit_congr (hbrakes.others _ (by grind) (by grind) (by grind)), State.latchTrip_flagged]

end Trip

/-! ### HOME_SIGNAL_CHANGE (R216) -/

theorem State.homeLevel_switch (h : s.get (F.AXn_HOME_CFG.HMODE n) = 0) : s.homeLevel n = (s.ax n).home := by
  simp [State.homeLevel, h]

theorem State.homeFollow_notHoming (h : s.get (F.AXn_STAT.PSTATE n) ≠ 8) : s.homeFollow n = s := if_pos (.inl h)

section Follow
variable (hps : s.get (F.AXn_STAT.PSTATE n) = 8) (hb : (s.ax n).brake ≠ 9)
include hps hb

theorem State.homeFollow_found (hph : s.get (F.AXn_STAT.HPH n) = 1) (hl : s.homeLevel n = true) :
    s.homeFollow n = s.setAx n { s.ax n with brake := 9 } := by
  unfold State.homeFollow
  rw [if_neg (by simp [hps, hb])]
  simp [hph, hl]

theorem State.homeFollow_left (hph : s.get (F.AXn_STAT.HPH n) = 2) (hl : s.homeLevel n = false) :
    s.homeFollow n = s.set (F.AXn_STAT.HPH n) 3 := by
  unfold State.homeFollow
  rw [if_neg (by simp [hps, hb])]
  simp [hph, hl]

theorem State.homeFollow_captures (hph : s.get (F.AXn_STAT.HPH n) = 3) (hl : s.homeLevel n = true) :
    s.homeFollow n = (s.seti (F.AXn_HOME_POS.POS n) (s.geti (F.AXn_POS.POS n))).setAx n { s.ax n with brake := 9 } := by
  unfold State.homeFollow
  rw [if_neg (by simp [hps, hb])]
  simp [hph, hl]

end Follow

/-- The HOME switch takes a level. -/
def State.takeHome (s : State) (n : Nat) (level : Bool) : State :=
  s.setAx n { s.ax n with home := level, cH := if level then s.get (F.AXn_LIM_CFG.DEB n) else 0 }

theorem State.takeHome_ax (s : State) (n : Nat) (level : Bool) :
    (s.takeHome n level).ax n = { s.ax n with home := level, cH := if level then s.get (F.AXn_LIM_CFG.DEB n) else 0 } := s.ax_setAx_same n _

theorem State.takeHome_get (s : State) (n : Nat) (level : Bool) (f : Fld) : (s.takeHome n level).get f = s.get f := rfl

section Signal
variable (hmode : s.get (F.AXn_HOME_CFG.HMODE n) = 0)
include hmode

theorem homeSignalChange_switch (level : Bool) : homeSignalChange n level s = (s.takeHome n level).homeFollow n := by
  unfold homeSignalChange
  simp only [hmode]
  rfl

theorem State.takeHome_level (level : Bool) : (s.takeHome n level).homeLevel n = level := by
  rw [State.homeLevel_switch (by rw [State.takeHome_get, hmode]), State.takeHome_ax]

end Signal

theorem exec_homeSignalChange (dt n : Nat) (level : Bool) (s : State) :
    exec (.homeSignalChange dt n level) s = .next (homeSignalChange n level (s.elapse dt)).settle := rfl

section HomeExec
variable (dt : Nat) (hn : n < 16) (hmode : s.get (F.AXn_HOME_CFG.HMODE n) = 0)
include hmode

/-- An axis that is not homing keeps the level. -/
theorem exec_homeSignalChange_keeps (hps : s.get (F.AXn_STAT.PSTATE n) ≠ 8) (level : Bool) :
    ∃ t, exec (.homeSignalChange dt n level) s = .next t ∧ (t.ax n).home = level ∧ (t.ax n).brake = (s.ax n).brake ∧ SameWords [] s t := by
  refine ⟨_, exec_homeSignalChange dt n level s, ?_⟩
  rw [homeSignalChange_switch (s := s.elapse dt) hmode, State.homeFollow_notHoming (s := (s.elapse dt).takeHome n level) hps, State.settle_ax, State.takeHome_ax]
  exact ⟨rfl, rfl, SameWords.settle (fun _ _ _ => rfl)⟩

variable (hps : s.get (F.AXn_STAT.PSTATE n) = 8) (hb : (s.ax n).brake ≠ 9)
include hps hb

/-- In the search an active signal brakes. -/
theorem exec_homeSignalChange_found (hph : s.get (F.AXn_STAT.HPH n) = 1) :
    ∃ t, exec (.homeSignalChange dt n true) s = .next t ∧ (t.ax n).brake = 9 ∧ (t.ax n).home = true ∧ SameWords [] s t := by
  have hb' : (((s.elapse dt).takeHome n true).ax n).brake ≠ 9 := by rwa [State.takeHome_ax]
  refine ⟨_, exec_homeSignalChange dt n true s, ?_⟩
  rw [homeSignalChange_switch (s := s.elapse dt) hmode, State.homeFollow_found (s := (s.elapse dt).takeHome n true) hps hb' hph
    (State.takeHome_level (s := s.elapse dt) hmode true),
    State.settle_ax, State.ax_setAx_same, State.takeHome_ax]
  exact ⟨rfl, rfl, SameWords.settle (fun _ _ _ => rfl)⟩

include hn

/-- In the back-off its end starts the approach. -/
theorem exec_homeSignalChange_left (hph : s.get (F.AXn_STAT.HPH n) = 2) :
    ∃ t, exec (.homeSignalChange dt n false) s = .next t ∧ t.get (F.AXn_STAT.HPH n) = 3 ∧ (t.ax n).brake = (s.ax n).brake ∧
      SameWords [R.AXn_STAT n] s t := by
  have hb' : (((s.elapse dt).takeHome n false).ax n).brake ≠ 9 := by rwa [State.takeHome_ax]
  refine ⟨_, exec_homeSignalChange dt n false s, ?_⟩
  rw [homeSignalChange_switch (s := s.elapse dt) hmode, State.homeFollow_left (s := (s.elapse dt).takeHome n false) hps hb' hph
    (State.takeHome_level (s := s.elapse dt) hmode false),
    State.settle_ax, State.set_ax, State.takeHome_ax]
  refine ⟨?_, rfl, ?_⟩
  · rw [State.settle_get_lt _ (by grind), State.get_set_fits _ _ (by decide) (by decide)]
  · exact SameWords.settle (SameWords.set (fun _ _ _ => rfl) _ _ (by simp))

/-- In the approach the next active signal captures the position and brakes. -/
theorem exec_homeSignalChange_captures (hph : s.get (F.AXn_STAT.HPH n) = 3) :
    ∃ t, exec (.homeSignalChange dt n true) s = .next t ∧ (t.ax n).brake = 9 ∧ t.geti (F.AXn_HOME_POS.POS n) = s.geti (F.AXn_POS.POS n) ∧
      SameWords [R.AXn_HOME_POS n] s t := by
  have hb' : (((s.elapse dt).takeHome n true).ax n).brake ≠ 9 := by rwa [State.takeHome_ax]
  refine ⟨_, exec_homeSignalChange dt n true s, ?_⟩
  rw [homeSignalChange_switch (s := s.elapse dt) hmode, State.homeFollow_captures (s := (s.elapse dt).takeHome n true) hps hb' hph
    (State.takeHome_level (s := s.elapse dt) hmode true),
    State.settle_ax, State.ax_setAx_same]
  refine ⟨rfl, ?_, ?_⟩
  · rw [State.settle_geti_lt _ (by grind), State.setAx_geti, State.geti_seti_geti, State.geti_congr (State.takeHome_get _ _ _ _), State.elapse_geti]
  · exact SameWords.settle (SameWords.setAx (SameWords.seti (fun _ _ _ => rfl) _ _ (by simp)) _ _)

end HomeExec

end Sys2Proof.Machine
end

section
/-! A profile tick, stage by stage (R205), and what an axis' tick leaves alone: the words, the planner and the steps of every other axis. -/
namespace Sys2Proof.Machine

variable {s t u : State} {m n : Nat}

/-! ### What belongs to one axis -/

/-- The words that MPG changes for axis m of its own accord. -/
def axKeys (m : Nat) : List Nat := [R.AXn_STAT m, R.AXn_TARGET m, R.AXn_POS m, R.AXn_POS_FRAC m, R.AXn_VEL m, R.AXn_INC_LO m, R.AXn_INC_HI m,
  R.AXn_HOME_POS m, R.MPG_ERR, R.MPG_LIM]

/-- Only words of axis m, MPG_ERR and MPG_LIM changed, of the planner only axis m, and no other axis made a step. -/
structure AxisOnly (m : Nat) (s t : State) : Prop where
  words : SameWords (axKeys m) s t
  ax : ∀ n, n ≠ m → t.ax n = s.ax n
  steps : ∀ n, n ≠ m → ∀ k, Emit.steps n k ∈ t.emitted → Emit.steps n k ∈ s.emitted

namespace AxisOnly

theorem refl (m : Nat) (s : State) : AxisOnly m s s := ⟨.refl _ s, fun _ _ => rfl, fun _ _ _ h => h⟩

theorem trans (h1 : AxisOnly m s t) (h2 : AxisOnly m t u) : AxisOnly m s u :=
  ⟨h1.words.trans h2.words, fun n hn => (h2.ax n hn).trans (h1.ax n hn), fun n hn k h => h1.steps n hn k (h2.steps n hn k h)⟩

theorem set (h : AxisOnly m s t) (f : Fld) (v : Nat) (hf : f.key ∈ axKeys m) : AxisOnly m s (t.set f v) := ⟨h.words.set f v hf, h.ax, h.steps⟩
theorem setBit (h : AxisOnly m s t) (f : Fld) (b : Bool) (hf : f.key ∈ axKeys m) : AxisOnly m s (t.setBit f b) := h.set f _ hf
theorem seti (h : AxisOnly m s t) (f : Fld) (v : Int) (hf : f.key ∈ axKeys m) : AxisOnly m s (t.seti f v) := h.set f _ hf
theorem flag (h : AxisOnly m s t) (f : Fld) (hf : f.key ∈ axKeys m) : AxisOnly m s (t.flag f) := ⟨h.words.flag f hf, h.ax, h.steps⟩

theorem setAx (h : AxisOnly m s t) (x : Ax) : AxisOnly m s (t.setAx m x) :=
  ⟨h.words, fun n hn => by rw [State.ax_setAx, if_neg hn]; exact h.ax n hn, h.steps⟩

theorem emit (h : AxisOnly m s t) (e : Emit) (he : ∀ n, n ≠ m → ∀ k, Emit.steps n k ≠ e) : AxisOnly m s (t.emit e) :=
  ⟨h.words, h.ax, fun n hn k hk => h.steps n hn k (by simpa [he n hn k] using hk)⟩

theorem pin (h : AxisOnly m s t) (line : Nat) (level : Bool) : AxisOnly m s (t.emit (.pin line level)) := h.emit _ (by simp)

theorem ite {c : Prop} [Decidable c] (h1 : AxisOnly m s t) (h2 : AxisOnly m s u) : AxisOnly m s (if c then t else u) := by
  split
  · exact h1
  · exact h2

theorem foldl {α : Type} {f : State → α → State} (hf : ∀ s a, AxisOnly m s (f s a)) (l : List α) (s : State) : AxisOnly m s (l.foldl f s) := by
  induction l generalizing s with
  | nil => exact .refl m s
  | cons a l ih => exact (hf s a).trans (ih (f s a))

end AxisOnly

theorem axStat_mem (m : Nat) : R.AXn_STAT m ∈ axKeys m := by simp [axKeys]
theorem axTarget_mem (m : Nat) : R.AXn_TARGET m ∈ axKeys m := by simp [axKeys]
theorem axPos_mem (m : Nat) : R.AXn_POS m ∈ axKeys m := by simp [axKeys]
theorem axHomePos_mem (m : Nat) : R.AXn_HOME_POS m ∈ axKeys m := by simp [axKeys]
theorem mpgErr_mem (m : Nat) : R.MPG_ERR ∈ axKeys m := by simp [axKeys]
theorem mpgLim_mem (m : Nat) : R.MPG_LIM ∈ axKeys m := by simp [axKeys]

/-! ### A target is taken (R206, R208, R212, R214) -/

/-- A target within the active soft limits, and the nearest one that is. -/
def PlanCfg.inside (c : PlanCfg) (x : Int) : Bool :=
  match c.soft with
  | some l => decide (l.1 ≤ x) && decide (x ≤ l.2)
  | none => true
def PlanCfg.clamp (c : PlanCfg) (x : Int) : Int :=
  match c.soft with
  | some l => clampI l.1 l.2 x
  | none => x

/-- A latched limit rejects the target that waits. -/
def State.axRefuses (s : State) (n : Nat) : Bool :=
  (s.bit (F.AXn_STAT.LIMP n) && decide (s.geti (F.AXn_POS.POS n) ≤ (s.ax n).want)) ||
    (s.bit (F.AXn_STAT.LIMN n) && decide ((s.ax n).want ≤ s.geti (F.AXn_POS.POS n)))

/-- The target that waits is written with its flags, those of the last one cleared. -/
def State.axAim (s : State) (n : Nat) : State :=
  ((((((s.setAx n { s.ax n with fresh := false }).seti (F.AXn_TARGET.TARGET n)
    ((s.axCfg n).clamp (if s.axRefuses n then s.geti (F.AXn_POS.POS n) else (s.ax n).want))).setAx n
      { (s.setAx n { s.ax n with fresh := false }).ax n with replan := true }).setBit (F.AXn_STAT.TGT_REJ n) (s.axRefuses n)).setBit
    (F.AXn_STAT.SOFT n) (!(s.axCfg n).inside (s.ax n).want)).set (F.AXn_STAT.OVS n) 0).set (F.AXn_STAT.EMG n) 0

theorem State.axTake_eq (s : State) (n : Nat) :
    s.axTake n = if !(s.ax n).fresh ∨ (s.ax n).brake ≠ 0 then s
      else if s.bit (F.AXn_STAT.FAULT n) ∧ !(s.axCfg n).inside (s.ax n).want then
        (s.setAx n { s.ax n with fresh := false }).seti (F.AXn_TARGET.TARGET n) (s.geti (F.AXn_POS.POS n))
      else if (s.axAim n).get (F.AXn_STAT.PSTATE n) = 7 ∧ !s.axRefuses n then (s.axAim n).set (F.AXn_STAT.PSTATE n) 1
      else s.axAim n := rfl

/-! ### The operations of an axis -/

theorem State.axShow_only (s : State) (m : Nat) : AxisOnly m s (s.axShow m) :=
  ⟨(s.axShow_words m).mono (by simp [axShowKeys, axKeys]), fun n hn => by rw [State.axShow_ax, if_neg hn],
    fun _ _ _ h => by rwa [State.axShow_emitted] at h⟩

theorem State.axMoveTo_only (s : State) (m : Nat) (x : Int) : AxisOnly m s (s.axMoveTo m x) := by
  have hmoved := (((AxisOnly.refl m s).seti (F.AXn_POS.POS m) (x.fdiv (2 ^ 48)) (axPos_mem m)).set (F.AXn_POS_FRAC.FRAC m)
    ((x % 2 ^ 48).toNat / 2 ^ 32) (by simp [axKeys])).setAx { s.ax m with acc := (x % 2 ^ 48).toNat }
  exact hmoved.ite (hmoved.emit _ (fun n hn k => by simp [hn]))

theorem State.limLatch_only (s : State) (m : Nat) (plus on : Bool) : AxisOnly m s (s.limLatch m plus on) :=
  ((AxisOnly.refl m s).setBit (limFld m plus) on (by rw [limFld_key]; exact axStat_mem m)).setBit (limShown m plus) on (mpgLim_mem m)

theorem State.axRest_only (s : State) (m ps : Nat) : AxisOnly m s (s.axRest m ps) :=
  ((((AxisOnly.refl m s).setAx _).set (F.AXn_STAT.PSTATE m) _ (axStat_mem m)).seti (F.AXn_TARGET.TARGET m) _ (axTarget_mem m)).trans (State.axShow_only _ m)

theorem State.abortHome_only (s : State) (m : Nat) : AxisOnly m s (s.abortHome m) :=
  (((AxisOnly.refl m s).setAx _).set (F.AXn_STAT.HPH m) _ (axStat_mem m)).ite (.refl m s)

theorem State.axBrake_only (s : State) (m code : Nat) : AxisOnly m s (s.axBrake m code) := by
  have hplan (x : Ax) : AxisOnly m s (s.setAx m x) := (AxisOnly.refl m s).setAx x
  have hflags (c : Prop) [Decidable c] (x : Ax) :
      AxisOnly m s ((if c then (s.setAx m x).set (F.AXn_STAT.EMG m) 1 else s.setAx m x).set (F.AXn_STAT.AT_TGT m) 0) :=
    (((hplan x).set (F.AXn_STAT.EMG m) 1 (axStat_mem m)).ite (hplan x)).set (F.AXn_STAT.AT_TGT m) 0 (axStat_mem m)
  have hrest (c : Prop) [Decidable c] (x : Ax) (ps : Nat) := (hflags c x).trans (State.axRest_only _ m ps)
  unfold State.axBrake
  dsimp only
  split
  · exact (((hrest _ _ _).set (F.AXn_STAT.EN_OUT m) 0 (axStat_mem m)).pin _ _).ite (hrest _ _ _)
  · exact (hflags _ _).set (F.AXn_STAT.PSTATE m) _ (axStat_mem m)

theorem State.limitTrip_only (s : State) (m : Nat) (plus : Bool) : AxisOnly m s (s.limitTrip m plus) := by
  have hlatch : AxisOnly m s (s.latchTrip m plus) := 
    (((AxisOnly.refl m s).setAx _).trans (State.limLatch_only _ m plus true)).flag F.MPG_ERR.LIMIT (mpgErr_mem m)
  have habort : AxisOnly m s ((s.latchTrip m plus).abortAtLimit m) :=
    ((hlatch.trans (State.abortHome_only _ m)).set (F.AXn_STAT.HOME_LIMIT m) 1 (axStat_mem m)).flag F.MPG_ERR.HOME_LIMIT (mpgErr_mem m)
  have hstop (u : State) : AxisOnly m u (u.stopAtLimit m) := (AxisOnly.refl m u).ite ((u.axBrake_only m 4).ite (u.axRest_only m 7))
  rw [State.limitTrip_eq]
  exact (AxisOnly.refl m s).ite (((AxisOnly.refl m s).setAx _).ite ((habort.ite hlatch).trans (hstop _)))

theorem State.homeFollow_only (s : State) (m : Nat) : AxisOnly m s (s.homeFollow m) := by
  have hs := AxisOnly.refl m s
  unfold State.homeFollow
  dsimp only
  split
  · exact hs
  · split
    · exact (hs.setAx _).ite hs
    · exact hs.ite (hs.set (F.AXn_STAT.HPH m) 3 (axStat_mem m))
    · exact ((hs.seti (F.AXn_HOME_POS.POS m) _ (axHomePos_mem m)).setAx _).ite hs
    · exact hs

theorem State.axSample_only (s : State) (m : Nat) (lv : Bool × Bool × Bool) : AxisOnly m s (s.axSample m lv) := by
  have htrip (u : State) (c : Prop) [Decidable c] (plus : Bool) : AxisOnly m u (if c then u.limitTrip m plus else u) :=
    (u.limitTrip_only m plus).ite (.refl m u)
  exact ((((AxisOnly.refl m s).setAx _).trans (htrip _ _ true)).trans (htrip _ _ false)).trans (State.homeFollow_only _ m)

theorem State.axTake_only (s : State) (m : Nat) : AxisOnly m s (s.axTake m) := by
  have hs := AxisOnly.refl m s
  have htarget : AxisOnly m s (s.axAim m) := ((((((hs.setAx _).seti (F.AXn_TARGET.TARGET m) _ (axTarget_mem m)).setAx _).setBit
    (F.AXn_STAT.TGT_REJ m) _ (axStat_mem m)).setBit (F.AXn_STAT.SOFT m) _ (axStat_mem m)).set (F.AXn_STAT.OVS m) 0 (axStat_mem m)).set
    (F.AXn_STAT.EMG m) 0 (axStat_mem m)
  rw [State.axTake_eq]
  exact hs.ite (((hs.setAx _).seti (F.AXn_TARGET.TARGET m) _ (axTarget_mem m)).ite
    ((htarget.set (F.AXn_STAT.PSTATE m) 1 (axStat_mem m)).ite htarget))

theorem State.homeRest_only (s : State) (m : Nat) : AxisOnly m s (s.homeRest m) := by
  have hs := AxisOnly.refl m s
  have hend (p : Int) := ((((hs.seti (F.AXn_POS.POS m) p (axPos_mem m)).seti (F.AXn_TARGET.TARGET m) p (axTarget_mem m)).set
    (F.AXn_STAT.HOMED m) 1 (axStat_mem m)).set (F.AXn_STAT.PSTATE m) 1 (axStat_mem m)).set (F.AXn_STAT.HPH m) 5 (axStat_mem m)
  unfold State.homeRest
  dsimp only
  split
  · exact hs.set (F.AXn_STAT.HPH m) 2 (axStat_mem m)
  · split
    · exact (hend _).setAx _
    · exact (hend _).set (F.AXn_STAT.AT_TGT m) 1 (axStat_mem m)
  · exact hs

/-! ### The stages of a tick (R205) -/

/-- The plan of an axis. -/
def State.axPlan (s : State) (n : Nat) : Plan :=
  ⟨s.axX n, (s.ax n).v, (s.ax n).a, s.get (F.AXn_STAT.PSTATE n), (s.ax n).brake, s.bit (F.AXn_STAT.OVS n), s.bit (F.AXn_STAT.EMG n), false⟩

/-- The plan a tick later. -/
def State.axNext (s : State) (n : Nat) : Plan :=
  if s.get (F.AXn_STAT.PSTATE n) = 7 ∧ (s.ax n).brake = 0 then s.axPlan n
  else if s.get (F.AXn_STAT.PSTATE n) = 8 ∧ (s.ax n).brake ≠ 9 then
    homeTick (s.axCfg n) (s.axPlan n)
      (unitsOf (s.getw (if s.get (F.AXn_STAT.HPH n) = 1 then F.AXn_HOME_V1.VALUE n else F.AXn_HOME_V2.VALUE n)) (2 ^ 32) 1)
      (xor (!s.bit (F.AXn_HOME_CFG.HDIR n)) (s.get (F.AXn_STAT.HPH n) == 2))
  else planTick (s.axCfg n) (s.axPlan n) (s.geti (F.AXn_TARGET.TARGET n)) (s.ax n).replan

/-- The next plan is stored and shown. -/
def State.axKeep (s : State) (n : Nat) (r : Plan) : State :=
  ((((s.setAx n { s.ax n with v := r.v, a := r.a, brake := r.brake, replan := false }).set (F.AXn_STAT.PSTATE n) r.ps).setBit
    (F.AXn_STAT.OVS n) r.ovs).setBit (F.AXn_STAT.EMG n) r.emg).axShow n

/-- DIR changes where the velocity passes through zero (R211). -/
def State.axTurn (s : State) (n : Nat) (p r : Plan) : State :=
  if (0 < p.v ∧ r.v < 0) ∨ (p.v = 0 ∧ r.v ≠ 0) ∨ (p.v < 0 ∧ 0 < r.v) then
    s.emit (.pin (65 + 3 * n) (xor (decide (0 < r.v)) (s.bit (F.AXn_CFG.DIR_INV n)))) else s

/-- One of the ten microseconds of a tick: the axis moves on unless an input stopped it. -/
def State.axGlide (s : State) (n : Nat) (p r : Plan) (k : Nat) : State :=
  if (s.ax n).v = r.v ∨ (s.ax n).brake ≠ 0 then s.axMoveTo n (p.x + (r.x - p.x) * ((k : Int) + 1) / 10) else s

def State.axMicro (n : Nat) (samples : List (Bool × Bool × Bool)) (p r : Plan) (s : State) (k : Nat) : State :=
  match samples[k]? with
  | some lv => (s.axGlide n p r k).axSample n lv
  | none => s.axGlide n p r k

/-- A rest beyond a soft limit is a fault (R212). -/
def State.axViol (s : State) (n : Nat) (r : Plan) : State :=
  if r.viol then (((s.set (F.AXn_STAT.FAULT n) 1).flag F.MPG_ERR.SOFT_VIOL).set (F.AXn_STAT.EMG n) 1) else s

/-- What a braking that has come to rest ends in; `was` is the braking before the tick. -/
def State.axEnd (s : State) (n : Nat) (p r : Plan) (was : Nat) : State :=
  if ((s.ax n).v = 0 ∧ p.v ≠ 0 ∧ (s.ax n).brake = 0) ∧ s.get (F.AXn_STAT.PSTATE n) = 7 then
    s.seti (F.AXn_TARGET.TARGET n) (s.geti (F.AXn_POS.POS n))
  else if s.get (F.AXn_STAT.PSTATE n) = 0 then (s.set (F.AXn_STAT.EN_OUT n) 0).enLine n false
  else if s.get (F.AXn_STAT.PSTATE n) = 8 ∧ was = 9 ∧ r.brake = 0 then s.homeRest n
  else s

/-- AT_TGT shows a rest on the target. -/
def State.axShowAt (s : State) (n : Nat) : State :=
  s.setBit (F.AXn_STAT.AT_TGT n) (s.get (F.AXn_STAT.PSTATE n) = 1 ∧ s.geti (F.AXn_POS.POS n) = s.geti (F.AXn_TARGET.TARGET n))

/-- The motion of a tick from a plan to the next. -/
def State.axMove (s : State) (n : Nat) (samples : List (Bool × Bool × Bool)) (p r : Plan) : State :=
  (List.range 10).foldl (State.axMicro n samples p r) ((s.axKeep n r).axTurn n p r)

theorem State.axTick_on (h : s.bit (F.AXn_STAT.EN_OUT n) = true) (samples : List (Bool × Bool × Bool)) :
    s.axTick n samples = (((((s.axTake n).axMove n samples ((s.axTake n).axPlan n) ((s.axTake n).axNext n)).axViol n ((s.axTake n).axNext n)).axEnd n
      ((s.axTake n).axPlan n) ((s.axTake n).axNext n) ((s.axTake n).ax n).brake).axShowAt n).homeFollow n := by
  unfold State.axTick
  rw [if_neg (by simp [h])]
  rfl

end Sys2Proof.Machine
end

section
/-! PROFILE_TICK (R205): each axis ticks on its own, so what an axis does at a tick is what its own stages do. -/
namespace Sys2Proof.Machine

variable {s t u : State} {m n : Nat}

/-! ### A tick reaches one axis -/

theorem State.axMicro_only (samples : List (Bool × Bool × Bool)) (p r : Plan) (s : State) (k : Nat) : AxisOnly m s (State.axMicro m samples p r s k) := by
  have hglide : AxisOnly m s (s.axGlide m p r k) := (s.axMoveTo_only m _).ite (.refl m s)
  unfold State.axMicro
  split
  · exact hglide.trans (State.axSample_only _ m _)
  · exact hglide

theorem State.axMove_only (s : State) (m : Nat) (samples : List (Bool × Bool × Bool)) (p r : Plan) : AxisOnly m s (s.axMove m samples p r) := by
  have hkeep : AxisOnly m s (s.axKeep m r) := (((((AxisOnly.refl m s).setAx _).set (F.AXn_STAT.PSTATE m) _ (axStat_mem m)).setBit
    (F.AXn_STAT.OVS m) _ (axStat_mem m)).setBit (F.AXn_STAT.EMG m) _ (axStat_mem m)).trans (State.axShow_only _ m)
  exact (hkeep.trans (((AxisOnly.refl m _).pin _ _).ite (.refl m _))).trans (.foldl (State.axMicro_only samples p r) _ _)

theorem State.axEnd_only (s : State) (m : Nat) (p r : Plan) (was : Nat) : AxisOnly m s (s.axEnd m p r was) :=
  ((AxisOnly.refl m s).seti (F.AXn_TARGET.TARGET m) _ (axTarget_mem m)).ite
    ((((AxisOnly.refl m s).set (F.AXn_STAT.EN_OUT m) 0 (axStat_mem m)).pin _ _).ite ((s.homeRest_only m).ite (.refl m s)))

theorem State.axTick_only (s : State) (m : Nat) (samples : List (Bool × Bool × Bool)) : AxisOnly m s (s.axTick m samples) := by
  cases hon : s.bit (F.AXn_STAT.EN_OUT m)
  · unfold State.axTick
    rw [if_pos (by simp [hon])]
    exact .foldl (fun s lv => s.axSample_only m lv) samples s
  · have hviol (u : State) (r : Plan) : AxisOnly m u (u.axViol m r) :=
      ((((AxisOnly.refl m u).set (F.AXn_STAT.FAULT m) 1 (axStat_mem m)).flag F.MPG_ERR.SOFT_VIOL (mpgErr_mem m)).set
        (F.AXn_STAT.EMG m) 1 (axStat_mem m)).ite (.refl m u)
    rw [State.axTick_on hon]
    exact ((((((s.axTake_only m).trans (State.axMove_only _ m samples _ _)).trans (hviol _ _)).trans (State.axEnd_only _ m _ _ _)).setBit
      (F.AXn_STAT.AT_TGT m) _ (axStat_mem m))).trans (State.homeFollow_only _ m)

/-! ### What is axis n's own -/

/-- A field of a register of axis n. -/
abbrev InAxis (n : Nat) (f : Fld) : Prop := R.AXn_CFG n ≤ f.key ∧ f.key < R.AXn_CFG n + 0x80

/-- Axis n's registers and planner are as before, and it made no step. -/
structure KeepsAxis (n : Nat) (s t : State) : Prop where
  get : ∀ f : Fld, InAxis n f → t.get f = s.get f
  ax : t.ax n = s.ax n
  steps : ∀ k, Emit.steps n k ∈ t.emitted → Emit.steps n k ∈ s.emitted

theorem KeepsAxis.refl (n : Nat) (s : State) : KeepsAxis n s s := ⟨fun _ _ => rfl, rfl, fun _ h => h⟩

theorem KeepsAxis.trans (h1 : KeepsAxis n s t) (h2 : KeepsAxis n t u) : KeepsAxis n s u :=
  ⟨fun f hf => (h2.get f hf).trans (h1.get f hf), h2.ax.trans h1.ax, fun k h => h1.steps k (h2.steps k h)⟩

theorem KeepsAxis.bit (h : KeepsAxis n s t) (f : Fld) (hf : InAxis n f) : t.bit f = s.bit f := State.bit_congr (h.get f hf)
theorem KeepsAxis.geti (h : KeepsAxis n s t) (f : Fld) (hf : InAxis n f) : t.geti f = s.geti f := State.geti_congr (h.get f hf)

theorem axKeys_range {k : Nat} (h : k ∈ axKeys m) : k < R.AXn_CFG 0 ∨ (R.AXn_CFG m ≤ k ∧ k < R.AXn_CFG m + 0x80) := by
  simp only [axKeys, R.AXn_STAT, R.AXn_TARGET, R.AXn_POS, R.AXn_POS_FRAC, R.AXn_VEL, R.AXn_INC_LO, R.AXn_INC_HI, R.AXn_HOME_POS, R.MPG_ERR,
    R.MPG_LIM, List.mem_cons, List.not_mem_nil, or_false] at h
  unfold R.AXn_CFG
  omega

theorem AxisOnly.keeps (h : AxisOnly m s t) (hn : n < 16) (hne : n ≠ m) : KeepsAxis n s t := by
  refine ⟨fun f hf => h.words.get f (fun hin => ?_) (notAlarm_of_lt ?_), h.ax n hne, h.steps n hne⟩
  · have := axKeys_range hin
    simp only [InAxis, R.AXn_CFG] at hf this
    omega
  · simp only [InAxis, R.AXn_CFG] at hf
    omega

/-- The end of a command drives nothing but the alarm's line. -/
theorem State.settle_steps (s : State) (n : Nat) (k : Int) (h : Emit.steps n k ∈ s.settle.emitted) : Emit.steps n k ∈ s.emitted := by
  have hdrive (x : State) (was out : Bool) (hx : Emit.steps n k ∈ (x.driveAlarm was out).emitted) : Emit.steps n k ∈ x.emitted := by
    unfold State.driveAlarm at hx
    split at hx
    · exact hx
    · simpa using hx
  unfold State.settle at h
  split at h
  · have hshow := hdrive _ _ _ h
    simpa only [State.showAlarm, State.setBit_emitted] using hshow
  · exact h

theorem KeepsAxis.settle (hn : n < 16) (s : State) : KeepsAxis n s s.settle := by
  refine ⟨fun f hf => s.settle_get_lt ?_, s.settle_ax n, s.settle_steps n⟩
  simp only [InAxis, R.AXn_CFG] at hf
  omega

/-! ### The tick of all axes -/

/-- The ticks of other axes leave axis n alone. -/
theorem State.foldl_axTick_keeps (hn : n < 16) (samples : List (Nat × List (Bool × Bool × Bool))) {l : List Nat} (hl : n ∉ l) (s : State) :
    KeepsAxis n s (l.foldl (fun s m => s.axTick m ((samples.lookup m).getD [])) s) := by
  induction l generalizing s with
  | nil => exact .refl n s
  | cons m l ih =>
    simp only [List.mem_cons, not_or] at hl
    exact ((s.axTick_only m _).keeps hn hl.1).trans (ih hl.2 _)

/-- What a tick makes of a configured axis, the axis' own tick makes. -/
theorem profileTick_at (hn : n < 16) (hrun : s.bit F.MPG_STAT.RUN = true) (hp : s.axPresent n = true) (hen : s.bit (F.AXn_CFG.EN n) = true)
    (samples : List (Nat × List (Bool × Bool × Bool))) :
    ∃ u, KeepsAxis n s u ∧ KeepsAxis n (u.axTick n ((samples.lookup n).getD [])) (profileTick samples s) := by
  have hmem : n ∈ (List.range 16).filter (fun n => s.axPresent n && s.bit (F.AXn_CFG.EN n)) := by simp [hn, hp, hen]
  have hnd : ((List.range 16).filter (fun n => s.axPresent n && s.bit (F.AXn_CFG.EN n))).Nodup := List.nodup_range.filter _
  obtain ⟨before, after, hl⟩ := List.append_of_mem hmem
  rw [hl, List.nodup_middle, List.nodup_cons, List.mem_append, not_or] at hnd
  obtain ⟨⟨hbefore, hafter⟩, -⟩ := hnd
  refine ⟨_, State.foldl_axTick_keeps hn samples hbefore s, ?_⟩
  unfold profileTick
  rw [if_neg (by simp [hrun]), hl, List.foldl_append, List.foldl_cons]
  exact State.foldl_axTick_keeps hn samples hafter _

theorem profileTick_idle (h : s.bit F.MPG_STAT.RUN = false) (samples : List (Nat × List (Bool × Bool × Bool))) : profileTick samples s = s :=
  if_pos (by simp [h])

/-! ### The planner, from rest (R205, R209) -/

/-- At rest on its target a plan stays there. -/
theorem planTick_atTarget (c : PlanCfg) {p : Plan} {target : Int} (hv : p.v = 0) (hb : p.brake = 0) (hx : p.x = target * 2 ^ 48) (replan : Bool) :
    planTick c p target replan = { p with v := 0, a := 0, ps := 1 } := by
  unfold planTick
  simp [hv, hb, hx]

theorem brakeTick_rest (d j : Nat) : brakeTick 0 0 d j = (0, 0) := by
  unfold brakeTick
  dsimp only
  rw [if_pos]
  left
  split
  · omega
  · rw [if_pos (Int.le_refl 0)]
    omega

theorem speedTick_le (s : Nat) (al : Int) (vmax acc j : Nat) : (speedTick s al vmax acc j).1 ≤ vmax := Nat.min_le_right _ _

/-- The sense of motion from rest. -/
def sense (x tx : Int) : Int := if x ≤ tx then 1 else -1

/-- From rest away from the target: speeding up where the stop fits, creeping otherwise, the last tick on the target. -/
theorem planTick_fromRest (c : PlanCfg) {p : Plan} {target : Int} (hv : p.v = 0) (ha : p.a = 0) (hb : p.brake = 0)
    (hx : p.x ≠ target * 2 ^ 48) (replan : Bool) :
    planTick c p target replan =
      if (c.toUnits (stopDist (speedTick 0 0 c.vmax c.acc c.jerk).1 (speedTick 0 0 c.vmax c.acc c.jerk).2 c.dec c.jerk) : Int) +
          c.move (speedTick 0 0 c.vmax c.acc c.jerk).1 ≤ (target * 2 ^ 48 - p.x) * sense p.x (target * 2 ^ 48) then
        { p with x := p.x + c.move (speedTick 0 0 c.vmax c.acc c.jerk).1 * sense p.x (target * 2 ^ 48)
                 v := (speedTick 0 0 c.vmax c.acc c.jerk).1 * sense p.x (target * 2 ^ 48)
                 a := (speedTick 0 0 c.vmax c.acc c.jerk).2 * sense p.x (target * 2 ^ 48)
                 ps := if (speedTick 0 0 c.vmax c.acc c.jerk).1 = c.vmax then 3 else 2 }
      else if (target * 2 ^ 48 - p.x) * sense p.x (target * 2 ^ 48) ≤ c.move 1 then { p with x := target * 2 ^ 48, v := 0, a := 0, ps := 1 }
      else { p with x := p.x + c.move 1 * sense p.x (target * 2 ^ 48), v := sense p.x (target * 2 ^ 48), a := 0, ps := 4 } := by
  have hpos : 0 < (target * 2 ^ 48 - p.x) * sense p.x (target * 2 ^ 48) := by
    unfold sense
    split <;> omega
  unfold planTick
  have hcreep : max 0 (min (max 0 1) (max 1 (min c.dec c.acc))) = 1 := by omega
  simp only [hv, ha, hb, lt_irrefl, if_false, Int.natAbs_zero, Int.zero_mul, ne_eq, not_true, false_and, and_false, and_true, brakeTick_rest]
  rw [show (if p.x ≤ target * 2 ^ 48 then (1 : Int) else -1) = sense p.x (target * 2 ^ 48) from rfl, if_neg hpos.ne', if_neg hpos.not_gt,
    if_neg (Nat.not_lt_zero _)]
  simp only [hcreep, Nat.cast_one, Int.one_mul]

/-- A plan that sets off from rest: not braking, within VMAX, between where it was and the target. -/
structure SetsOff (c : PlanCfg) (p : Plan) (tx : Int) (r : Plan) : Prop where
  brake : r.brake = 0
  viol : r.viol = p.viol
  moving : 1 ≤ r.ps ∧ r.ps ≤ 4
  speed : r.v.natAbs ≤ c.vmax
  lo : min tx p.x ≤ r.x
  hi : r.x ≤ max tx p.x

theorem planTick_setsOff (c : PlanCfg) {p : Plan} {target : Int} (hv : p.v = 0) (ha : p.a = 0) (hb : p.brake = 0) (hvmax : 0 < c.vmax)
    (replan : Bool) : SetsOff c p (target * 2 ^ 48) (planTick c p target replan) := by
  have hspeed := speedTick_le 0 0 c.vmax c.acc c.jerk
  by_cases hx : p.x = target * 2 ^ 48
  · rw [planTick_atTarget c hv hb hx]
    exact ⟨hb, rfl, ⟨Nat.le_refl 1, (by decide : 1 ≤ 4)⟩, Nat.zero_le _, Int.min_le_right _ _, Int.le_max_right _ _⟩
  · rw [planTick_fromRest c hv ha hb hx]
    have hsense : (p.x ≤ target * 2 ^ 48 ∧ sense p.x (target * 2 ^ 48) = 1) ∨ (target * 2 ^ 48 ≤ p.x ∧ sense p.x (target * 2 ^ 48) = -1) := by
      unfold sense
      split <;> omega
    split
    · next hfits => rcases hsense with ⟨hle, hd⟩ | ⟨hle, hd⟩ <;> (rw [hd] at hfits ⊢; constructor <;> grind)
    · split
      · exact ⟨hb, rfl, ⟨Nat.le_refl 1, (by decide : 1 ≤ 4)⟩, Nat.zero_le _, Int.min_le_left _ _, Int.le_max_left _ _⟩
      · next hlong => rcases hsense with ⟨hle, hd⟩ | ⟨hle, hd⟩ <;> (rw [hd] at hlong ⊢; constructor <;> grind)

end Sys2Proof.Machine
end

section
/-! A tick of an axis at rest (R205, R206, R209): it stays on its target, or it takes a new one and moves toward it; O39. -/
namespace Sys2Proof.Machine

variable {s t u : State} {n : Nat} {p r : Plan}

/-! ### The plan is stored and shown -/

/-- What a stored plan shows, and what it leaves. -/
structure Keeps (n : Nat) (r : Plan) (s t : State) : Prop where
  pstate : t.get (F.AXn_STAT.PSTATE n) = r.ps
  ax : ∃ inc, t.ax n = { s.ax n with v := r.v, a := r.a, brake := r.brake, replan := false, inc := inc }
  others : ∀ f : Fld, InAxis n f → f.key ∉ R.AXn_STAT n :: axShowKeys n → t.get f = s.get f

theorem State.axKeep_keeps (s : State) (hn : n < 16) (hps : r.ps < 16) : Keeps n r s (s.axKeep n r) where
  pstate := by
    rw [State.axKeep, (State.axShow_words _ n).get _ (by simp [axShowKeys]) (notAlarm_of_lt (by grind)), State.get_setBit_other _ _ _ _ (by simp),
      State.get_setBit_other _ _ _ _ (by simp), State.get_set_fits _ _ (by decide) hps]
  ax := by
    rw [State.axKeep, State.axShow_ax, if_pos rfl, State.setBit_ax, State.setBit_ax, State.set_ax, State.ax_setAx_same]
    exact ⟨_, rfl⟩
  others := by
    intro f hf hkeys
    simp only [List.mem_cons, not_or] at hkeys
    rw [State.axKeep, (State.axShow_words _ n).get _ hkeys.2 (notAlarm_of_lt (by grind)), State.get_setBit_other _ _ _ _ (.inl hkeys.1),
      State.get_setBit_other _ _ _ _ (.inl hkeys.1), State.get_set_other _ _ _ _ (.inl hkeys.1), State.setAx_get]

theorem State.axKeep_emitted (s : State) (n : Nat) (r : Plan) : (s.axKeep n r).emitted = s.emitted := by
  rw [State.axKeep, State.axShow_emitted, State.setBit_emitted, State.setBit_emitted, State.set_emitted, State.setAx_emitted]

theorem State.axTurn_ax (s : State) (n : Nat) (p r : Plan) (m : Nat) : (s.axTurn n p r).ax m = s.ax m := by
  unfold State.axTurn
  split <;> rfl

theorem State.axTurn_get (s : State) (n : Nat) (p r : Plan) (f : Fld) : (s.axTurn n p r).get f = s.get f := by
  unfold State.axTurn
  split <;> rfl

theorem State.axTurn_still (hp : p.v = 0) (hr : r.v = 0) : s.axTurn n p r = s := if_neg (by simp [hp, hr])

/-! ### Ten microseconds of motion (R210) -/

/-- Motion changes the position, its fraction and the phase accumulator. -/
structure Moves (n : Nat) (s t : State) : Prop where
  words : SameWords [R.AXn_POS n, R.AXn_POS_FRAC n] s t
  ax : ∃ acc, t.ax n = { s.ax n with acc := acc }

theorem Moves.refl (n : Nat) (s : State) : Moves n s s := ⟨.refl _ s, _, rfl⟩

theorem Moves.trans (h1 : Moves n s t) (h2 : Moves n t u) : Moves n s u := by
  obtain ⟨acc1, hax1⟩ := h1.ax
  obtain ⟨acc2, hax2⟩ := h2.ax
  exact ⟨h1.words.trans h2.words, acc2, by rw [hax2, hax1]⟩

/-- The position and its fraction are written, the accumulator takes the fraction. -/
def State.axPlace (s : State) (n : Nat) (x : Int) : State :=
  ((s.seti (F.AXn_POS.POS n) (x.fdiv (2 ^ 48))).set (F.AXn_POS_FRAC.FRAC n) ((x % 2 ^ 48).toNat / 2 ^ 32)).setAx n
    { s.ax n with acc := (x % 2 ^ 48).toNat }

theorem State.axMoveTo_eq (s : State) (n : Nat) (x : Int) :
    s.axMoveTo n x = if x.fdiv (2 ^ 48) = s.geti (F.AXn_POS.POS n) then s.axPlace n x
      else (s.axPlace n x).emit (.steps n (x.fdiv (2 ^ 48) - s.geti (F.AXn_POS.POS n))) := rfl

theorem State.axPlace_moves (s : State) (n : Nat) (x : Int) : Moves n s (s.axPlace n x) :=
  ⟨(((SameWords.refl _ s).seti (F.AXn_POS.POS n) _ (by simp)).set (F.AXn_POS_FRAC.FRAC n) _ (by simp)).setAx n _, _, State.ax_setAx_same ..⟩

theorem State.axMoveTo_moves (s : State) (n : Nat) (x : Int) : Moves n s (s.axMoveTo n x) := by
  have hplace := s.axPlace_moves n x
  rw [State.axMoveTo_eq]
  split
  · exact hplace
  · exact ⟨hplace.words.emit _, by rw [State.emit_ax]; exact hplace.ax⟩

theorem State.axPlace_pos (s : State) (n : Nat) {x : Int} (hlo : -(2 ^ 31) ≤ x.fdiv (2 ^ 48)) (hhi : x.fdiv (2 ^ 48) < 2 ^ 31) :
    (s.axPlace n x).geti (F.AXn_POS.POS n) = x.fdiv (2 ^ 48) := by
  rw [State.axPlace, State.setAx_geti, State.geti_congr (State.get_set_other _ _ _ _ (by simp)), State.geti_seti_same _ _ hlo hhi]

theorem State.axMoveTo_pos (s : State) (n : Nat) {x : Int} (hlo : -(2 ^ 31) ≤ x.fdiv (2 ^ 48)) (hhi : x.fdiv (2 ^ 48) < 2 ^ 31) :
    (s.axMoveTo n x).geti (F.AXn_POS.POS n) = x.fdiv (2 ^ 48) := by
  have hplace := s.axPlace_pos n hlo hhi
  rw [State.axMoveTo_eq]
  split
  · exact hplace
  · rw [State.geti_congr (State.emit_get ..), hplace]

/-- Without samples nothing stops the axis between. -/
theorem State.axMicro_glide (s : State) (n : Nat) (p r : Plan) (k : Nat) : State.axMicro n [] p r s k = s.axGlide n p r k := rfl

theorem State.axGlide_moves (s : State) (n : Nat) (p r : Plan) (k : Nat) : Moves n s (s.axGlide n p r k) := by
  unfold State.axGlide
  split
  · exact s.axMoveTo_moves n _
  · exact .refl n s

theorem State.foldl_axMicro_moves (n : Nat) (p r : Plan) (l : List Nat) (s : State) : Moves n s (l.foldl (State.axMicro n [] p r) s) := by
  induction l generalizing s with
  | nil => exact .refl n s
  | cons k l ih => exact (s.axGlide_moves n p r k).trans (ih _)

/-- The tenth microsecond ends at the next plan's position. -/
theorem State.foldl_axMicro_pos (hv : (s.ax n).v = r.v) (hlo : -(2 ^ 31) ≤ r.x.fdiv (2 ^ 48)) (hhi : r.x.fdiv (2 ^ 48) < 2 ^ 31) :
    ((List.range 10).foldl (State.axMicro n [] p r) s).geti (F.AXn_POS.POS n) = r.x.fdiv (2 ^ 48) := by
  obtain ⟨acc, hax⟩ := (State.foldl_axMicro_moves n p r (List.range 9) s).ax
  have hend : p.x + (r.x - p.x) * (((9 : Nat) : Int) + 1) / 10 = r.x := by omega
  rw [List.range_succ, List.foldl_append, List.foldl_cons, List.foldl_nil, State.axMicro_glide, State.axGlide,
    if_pos (.inl (by rw [hax]; exact hv)), hend]
  exact State.axMoveTo_pos _ n hlo hhi

/-- An axis that stays where it is makes no step. -/
theorem State.foldl_axMicro_still (hx : r.x = p.x) (hlo : -(2 ^ 31) ≤ p.x.fdiv (2 ^ 48)) (hhi : p.x.fdiv (2 ^ 48) < 2 ^ 31) (l : List Nat)
    (hpos : s.geti (F.AXn_POS.POS n) = p.x.fdiv (2 ^ 48)) :
    (l.foldl (State.axMicro n [] p r) s).emitted = s.emitted := by
  induction l generalizing s with
  | nil => rfl
  | cons k l ih =>
    have hstay : p.x + (r.x - p.x) * ((k : Int) + 1) / 10 = p.x := by rw [hx]; simp
    have hglide : (s.axGlide n p r k).emitted = s.emitted ∧ (s.axGlide n p r k).geti (F.AXn_POS.POS n) = p.x.fdiv (2 ^ 48) := by
      rw [State.axGlide, hstay]
      split
      · refine ⟨?_, s.axMoveTo_pos n hlo hhi⟩
        rw [State.axMoveTo_eq, if_pos hpos.symm, State.axPlace, State.setAx_emitted, State.set_emitted, State.seti_emitted]
      · exact ⟨rfl, hpos⟩
    rw [List.foldl_cons, State.axMicro_glide, ih hglide.2, hglide.1]

/-! ### A tick that ends in motion or at rest, with nothing to tell of a limit -/

/-- What the motion of a tick leaves an axis with. -/
structure Moved (n : Nat) (r : Plan) (s t : State) : Prop where
  pos : -(2 ^ 31) ≤ r.x.fdiv (2 ^ 48) → r.x.fdiv (2 ^ 48) < 2 ^ 31 → t.geti (F.AXn_POS.POS n) = r.x.fdiv (2 ^ 48)
  pstate : t.get (F.AXn_STAT.PSTATE n) = r.ps
  target : t.geti (F.AXn_TARGET.TARGET n) = s.geti (F.AXn_TARGET.TARGET n)
  v : (t.ax n).v = r.v
  fresh : (t.ax n).fresh = (s.ax n).fresh

theorem State.axMove_moved (s : State) (hn : n < 16) (p : Plan) (hps : r.ps < 16) : Moved n r s (s.axMove n [] p r) := by
  obtain ⟨hpstate, ⟨inc, hkax⟩, hothers⟩ := s.axKeep_keeps hn hps
  have hmoves := State.foldl_axMicro_moves n p r (List.range 10) ((s.axKeep n r).axTurn n p r)
  obtain ⟨acc, hax⟩ := hmoves.ax
  have hturn : ((s.axKeep n r).axTurn n p r).ax n = (s.axKeep n r).ax n := State.axTurn_ax ..
  unfold State.axMove
  refine ⟨State.foldl_axMicro_pos (by rw [hturn, hkax]), ?_, ?_, ?_, ?_⟩
  · rw [hmoves.words.get _ (by simp) (notAlarm_of_lt (by grind)), State.axTurn_get, hpstate]
  · rw [State.geti_congr (hmoves.words.get _ (by simp) (notAlarm_of_lt (by grind))), State.geti_congr (State.axTurn_get ..),
      State.geti_congr (hothers _ (by grind) (by simp [axShowKeys]))]
  · rw [hax, hturn, hkax]
  · rw [hax, hturn, hkax]

theorem State.axTick_calm (hon : s.bit (F.AXn_STAT.EN_OUT n) = true) (hn : n < 16) (hr : (s.axTake n).axNext n = r) (hviol : r.viol = false)
    (hlo : 1 ≤ r.ps) (hhi : r.ps ≤ 4) :
    s.axTick n [] = ((s.axTake n).axMove n [] ((s.axTake n).axPlan n) r).axShowAt n := by
  have hps := ((s.axTake n).axMove_moved hn ((s.axTake n).axPlan n) (r := r) (by omega)).pstate
  have hend (w : Nat) : ((s.axTake n).axMove n [] ((s.axTake n).axPlan n) r).axEnd n ((s.axTake n).axPlan n) r w =
      (s.axTake n).axMove n [] ((s.axTake n).axPlan n) r := by
    unfold State.axEnd
    rw [if_neg (fun h => by omega), if_neg (by omega), if_neg (fun h => by omega)]
  have hshow : (((s.axTake n).axMove n [] ((s.axTake n).axPlan n) r).axShowAt n).get (F.AXn_STAT.PSTATE n) ≠ 8 := by
    rw [State.axShowAt, State.get_setBit_other _ _ _ _ (by simp), hps]
    omega
  rw [State.axTick_on hon, hr, State.axViol, if_neg (by simp [hviol]), hend, State.homeFollow_notHoming hshow]

theorem State.axShowAt_bit (s : State) (n : Nat) : (s.axShowAt n).bit (F.AXn_STAT.AT_TGT n) =
    decide (s.get (F.AXn_STAT.PSTATE n) = 1 ∧ s.geti (F.AXn_POS.POS n) = s.geti (F.AXn_TARGET.TARGET n)) :=
  State.bit_setBit_same _ _ _ (by simp) Nat.one_pos

theorem State.axShowAt_get (s : State) {f : Fld} (hf : Apart f (F.AXn_STAT.AT_TGT n)) : (s.axShowAt n).get f = s.get f :=
  s.get_setBit_other _ _ _ hf

/-- An enabled axis at rest, tracking its target and not braking. -/
structure AtRest (n : Nat) (s : State) : Prop where
  enOut : s.bit (F.AXn_STAT.EN_OUT n) = true
  pstate : s.get (F.AXn_STAT.PSTATE n) = 1
  v : (s.ax n).v = 0
  a : (s.ax n).a = 0
  brake : (s.ax n).brake = 0

theorem AtRest.keep (h : AtRest n s) (hk : KeepsAxis n s t) : AtRest n t := by
  refine ⟨(hk.bit _ (by grind)).trans h.enOut, (hk.get _ (by grind)).trans h.pstate, ?_, ?_, ?_⟩ <;> rw [hk.ax]
  exacts [h.v, h.a, h.brake]

theorem AtRest.next (h : AtRest n s) : s.axNext n = planTick (s.axCfg n) (s.axPlan n) (s.geti (F.AXn_TARGET.TARGET n)) (s.ax n).replan := by
  unfold State.axNext
  rw [if_neg (by simp [h.pstate]), if_neg (by simp [h.pstate])]

/-! ### On the target (R209) -/

theorem State.axTake_none (h : (s.ax n).fresh = false) : s.axTake n = s := by
  rw [State.axTake_eq, if_pos (.inl (by simp [h]))]

theorem State.axX_whole (h : (s.ax n).acc = 0) : s.axX n = s.geti (F.AXn_POS.POS n) * 2 ^ 48 := by
  unfold State.axX
  rw [h]
  simp

theorem fdiv_whole (k : Int) : (k * 2 ^ 48).fdiv (2 ^ 48) = k := Int.mul_fdiv_cancel k (by decide)

/-- An axis stays on its target. -/
structure Stays (n : Nat) (s t : State) : Prop where
  pos : t.geti (F.AXn_POS.POS n) = s.geti (F.AXn_POS.POS n)
  atTgt : t.bit (F.AXn_STAT.AT_TGT n) = true
  pstate : t.get (F.AXn_STAT.PSTATE n) = 1
  emitted : t.emitted = s.emitted

/-- The plan of an axis, at rest. -/
def State.axStill (s : State) (n : Nat) : Plan := { s.axPlan n with v := 0, a := 0, ps := 1 }

theorem State.axStill_x (s : State) (n : Nat) : (s.axStill n).x = (s.axPlan n).x := rfl
theorem State.axStill_ps (s : State) (n : Nat) : (s.axStill n).ps = 1 := rfl

theorem State.axTick_stays (hn : n < 16) (h : AtRest n s) (hfresh : (s.ax n).fresh = false) (hacc : (s.ax n).acc = 0)
    (htgt : s.geti (F.AXn_POS.POS n) = s.geti (F.AXn_TARGET.TARGET n)) : Stays n s (s.axTick n []) := by
  have hx : (s.axPlan n).x = s.geti (F.AXn_POS.POS n) * 2 ^ 48 := State.axX_whole hacc
  have hnext : s.axNext n = s.axStill n := by
    rw [h.next, planTick_atTarget _ h.v h.brake (by rw [hx, htgt]), State.axStill]
  have hfloor : (s.axPlan n).x.fdiv (2 ^ 48) = s.geti (F.AXn_POS.POS n) := by rw [hx, fdiv_whole]
  have hbounds : -(2 ^ 31) ≤ (s.axPlan n).x.fdiv (2 ^ 48) ∧ (s.axPlan n).x.fdiv (2 ^ 48) < 2 ^ 31 := by
    rw [hfloor]
    exact s.geti_bounds _
  have hmoved := s.axMove_moved hn (s.axPlan n) (r := s.axStill n) (by decide : 1 < 16)
  have hpos := (hmoved.pos hbounds.1 hbounds.2).trans hfloor
  have htick := State.axTick_calm h.enOut hn (by rw [State.axTake_none hfresh, hnext]) rfl (Nat.le_refl 1) (by decide : 1 ≤ 4)
  rw [State.axTake_none hfresh] at htick
  rw [htick]
  refine ⟨?_, ?_, ?_, ?_⟩
  · rw [State.geti_congr (State.axShowAt_get _ (by simp [Apart])), hpos]
  · rw [State.axShowAt_bit, hmoved.pstate, State.axStill_ps, hpos, hmoved.target, htgt]
    simp
  · rw [State.axShowAt_get _ (by simp [Apart]), hmoved.pstate, State.axStill_ps]
  · have hkpos : (s.axKeep n (s.axStill n)).geti (F.AXn_POS.POS n) = s.geti (F.AXn_POS.POS n) :=
      State.geti_congr ((s.axKeep_keeps hn (r := s.axStill n) (by decide : 1 < 16)).others _ (by grind) (by simp [axShowKeys]))
    rw [State.axShowAt, State.setBit_emitted, State.axMove, State.axTurn_still h.v rfl,
      State.foldl_axMicro_still (s.axStill_x n) hbounds.1 hbounds.2 _ (by rw [hkpos, hfloor]), State.axKeep_emitted]

/-! ### Toward a new target (R206) -/

theorem State.axCfg_noSoft (h : s.bit (F.AXn_CFG.SOFT_EN n) = false) : (s.axCfg n).soft = none := by
  simp [State.axCfg, planCfg, h]

/-- A target that waits, with no soft limits and no latched limit. -/
structure NewTarget (n : Nat) (w : Int) (s : State) : Prop where
  fresh : (s.ax n).fresh = true
  want : (s.ax n).want = w
  fits : -(2 ^ 31) ≤ w ∧ w < 2 ^ 31
  noSoft : s.bit (F.AXn_CFG.SOFT_EN n) = false
  noLimP : s.bit (F.AXn_STAT.LIMP n) = false
  noLimN : s.bit (F.AXn_STAT.LIMN n) = false
  vmax : 0 < (s.axCfg n).vmax
  acc : (s.ax n).acc < 2 ^ 48

theorem State.axCfg_vmax (s : State) (n : Nat) : (s.axCfg n).vmax = unitsOf (s.getw (F.AXn_VMAX.VALUE n)) (2 ^ 32) 1 := by rw [State.axCfg, planCfg]

theorem State.axCfg_vmax_congr (h : t.get (F.AXn_VMAX.VALUE n) = s.get (F.AXn_VMAX.VALUE n)) : (t.axCfg n).vmax = (s.axCfg n).vmax := by
  rw [State.axCfg_vmax, State.axCfg_vmax, State.getw_congr h]

theorem KeepsAxis.vmax (h : KeepsAxis n s t) : (t.axCfg n).vmax = (s.axCfg n).vmax := State.axCfg_vmax_congr (h.get _ (by grind))

theorem NewTarget.keep {w : Int} (h : NewTarget n w s) (hk : KeepsAxis n s t) : NewTarget n w t where
  fresh := by rw [hk.ax, h.fresh]
  want := by rw [hk.ax, h.want]
  fits := h.fits
  noSoft := (hk.bit _ (by grind)).trans h.noSoft
  noLimP := (hk.bit _ (by grind)).trans h.noLimP
  noLimN := (hk.bit _ (by grind)).trans h.noLimN
  vmax := by rw [hk.vmax]; exact h.vmax
  acc := by rw [hk.ax]; exact h.acc

/-- The target that was taken. -/
structure Aimed (n : Nat) (w : Int) (s t : State) : Prop where
  target : t.geti (F.AXn_TARGET.TARGET n) = w
  ax : t.ax n = { s.ax n with fresh := false, replan := true }
  others : ∀ f : Fld, f.key ≠ R.AXn_TARGET n → Apart f (F.AXn_STAT.TGT_REJ n) → Apart f (F.AXn_STAT.SOFT n) → Apart f (F.AXn_STAT.OVS n) →
    Apart f (F.AXn_STAT.EMG n) → t.get f = s.get f

theorem State.axAim_aimed {w : Int} (h : NewTarget n w s) : Aimed n w s (s.axAim n) := by
  have hrej : s.axRefuses n = false := by simp [State.axRefuses, h.noLimP, h.noLimN]
  have hclamp : (s.axCfg n).clamp (s.ax n).want = w := by simp [PlanCfg.clamp, State.axCfg_noSoft h.noSoft, h.want]
  constructor <;> unfold State.axAim <;> rw [hrej, if_neg Bool.false_ne_true, hclamp]
  case target =>
    rw [State.geti_congr (State.get_set_other _ _ _ _ (by simp)), State.geti_congr (State.get_set_other _ _ _ _ (by simp)),
      State.geti_congr (State.get_setBit_other _ _ _ _ (by simp)), State.geti_congr (State.get_setBit_other _ _ _ _ (by simp)), State.setAx_geti,
      State.geti_seti_same _ _ h.fits.1 h.fits.2]
  case ax => rw [State.set_ax, State.set_ax, State.setBit_ax, State.setBit_ax, State.ax_setAx_same, State.ax_setAx_same]
  case others =>
    intro f htgt hrej hsoft hovs hemg
    rw [State.get_set_other _ _ _ _ hemg, State.get_set_other _ _ _ _ hovs, State.get_setBit_other _ _ _ _ hsoft,
      State.get_setBit_other _ _ _ _ hrej, State.setAx_get, State.get_seti_other _ _ (.inl htgt), State.setAx_get]

theorem State.axTake_aims {w : Int} (h : AtRest n s) (hw : NewTarget n w s) : s.axTake n = s.axAim n := by
  have hps : (s.axAim n).get (F.AXn_STAT.PSTATE n) = 1 := by
    rw [(State.axAim_aimed hw).others _ (by simp) (by simp [Apart]) (by simp [Apart]) (by simp [Apart]) (by simp [Apart]), h.pstate]
  have hinside : (s.axCfg n).inside (s.ax n).want = true := by simp [PlanCfg.inside, State.axCfg_noSoft hw.noSoft]
  rw [State.axTake_eq, if_neg (by simp [hw.fresh, h.brake]), if_neg (by simp [hinside]), if_neg (by simp [hps])]

theorem AtRest.aimed {w : Int} (h : AtRest n s) (ha : Aimed n w s t) : AtRest n t := by
  refine ⟨?_, ?_, ?_, ?_, ?_⟩
  · rw [State.bit_congr (ha.others _ (by simp) (by simp [Apart]) (by simp [Apart]) (by simp [Apart]) (by simp [Apart])), h.enOut]
  · rw [ha.others _ (by simp) (by simp [Apart]) (by simp [Apart]) (by simp [Apart]) (by simp [Apart]), h.pstate]
  · rw [ha.ax, h.v]
  · rw [ha.ax, h.a]
  · rw [ha.ax, h.brake]

/-- An axis moves from rest toward a new target. -/
structure Approaches (n : Nat) (w : Int) (s t : State) : Prop where
  target : t.geti (F.AXn_TARGET.TARGET n) = w
  fresh : (t.ax n).fresh = false
  speed : (t.ax n).v.natAbs ≤ (s.axCfg n).vmax
  lo : min w (s.geti (F.AXn_POS.POS n)) ≤ t.geti (F.AXn_POS.POS n)
  hi : t.geti (F.AXn_POS.POS n) ≤ max w (s.geti (F.AXn_POS.POS n))

/-- The whole steps of a position between two others. -/
theorem fdiv_between {w pos x : Int} {acc : Nat} (hacc : acc < 2 ^ 48) (hlo : min (w * 2 ^ 48) (pos * 2 ^ 48 + acc) ≤ x)
    (hhi : x ≤ max (w * 2 ^ 48) (pos * 2 ^ 48 + acc)) : min w pos ≤ x.fdiv (2 ^ 48) ∧ x.fdiv (2 ^ 48) ≤ max w pos := by
  rw [Int.fdiv_eq_ediv_of_nonneg _ (by decide)]
  omega

theorem State.axTick_approaches {w : Int} (hn : n < 16) (h : AtRest n s) (hw : NewTarget n w s) : Approaches n w s (s.axTick n []) := by
  have haim := State.axAim_aimed hw
  have hrest := h.aimed haim
  have hothers (f : Fld) (hf : f.key ≠ R.AXn_TARGET n) (hstat : f.key ≠ R.AXn_STAT n) : (s.axAim n).get f = s.get f :=
    haim.others f hf (.inl hstat) (.inl hstat) (.inl hstat) (.inl hstat)
  have hvmax : ((s.axAim n).axCfg n).vmax = (s.axCfg n).vmax := State.axCfg_vmax_congr (hothers _ (by simp) (by simp))
  have hx : ((s.axAim n).axPlan n).x = s.geti (F.AXn_POS.POS n) * 2 ^ 48 + (s.ax n).acc := by
    show (s.axAim n).axX n = _
    rw [State.axX, State.geti_congr (hothers _ (by simp) (by simp)), haim.ax]
  have hoff := planTick_setsOff ((s.axAim n).axCfg n) (p := (s.axAim n).axPlan n) (target := w) hrest.v hrest.a hrest.brake
    (by rw [hvmax]; exact hw.vmax)
    ((s.axAim n).ax n).replan
  have hnext := hrest.next
  rw [haim.target] at hnext
  rw [← hnext] at hoff
  obtain ⟨hlo, hhi⟩ := fdiv_between hw.acc (hx ▸ hoff.lo) (hx ▸ hoff.hi)
  obtain ⟨hplo, hphi⟩ := s.geti_bounds (R.AXn_POS n)
  obtain ⟨hwlo, hwhi⟩ := hw.fits
  have hmoved := (s.axAim n).axMove_moved hn ((s.axAim n).axPlan n) (r := (s.axAim n).axNext n) (by have := hoff.moving.2; omega)
  have hpos := hmoved.pos ((le_min hwlo hplo).trans hlo) (hhi.trans_lt (max_lt hwhi hphi))
  have htake := State.axTake_aims h hw
  have htick := State.axTick_calm h.enOut hn (by rw [htake]) hoff.viol hoff.moving.1 hoff.moving.2
  rw [htake] at htick
  rw [htick]
  refine ⟨?_, ?_, ?_, ?_, ?_⟩
  · rw [State.geti_congr (State.axShowAt_get _ (by simp [Apart])), hmoved.target, haim.target]
  · rw [State.axShowAt, State.setBit_ax, hmoved.fresh, haim.ax]
  · rw [State.axShowAt, State.setBit_ax, hmoved.v, ← hvmax]
    exact hoff.speed
  · rw [State.geti_congr (State.axShowAt_get _ (by simp [Apart])), hpos]
    exact hlo
  · rw [State.geti_congr (State.axShowAt_get _ (by simp [Apart])), hpos]
    exact hhi

end Sys2Proof.Machine
end

section
/-! O39: the profile tick, a limit that trips and the homing sequence's signal. -/
namespace Sys2Proof.Machine

variable {s t : State} {n : Nat}

theorem exec_profileTick (dt : Nat) (samples : List (Nat × List (Bool × Bool × Bool))) (s : State) :
    exec (.profileTick dt samples) s = .next (profileTick samples (s.elapse dt)).settle := rfl

section Tick
variable {samples : List (Nat × List (Bool × Bool × Bool))} (dt : Nat) (hn : n < 16) (hrun : s.bit F.MPG_STAT.RUN = true)
  (hp : s.axPresent n = true) (hen : s.bit (F.AXn_CFG.EN n) = true) (hs : samples.lookup n = none) (hrest : AtRest n s)
include hn hrun hp hen hs

/-- What the tick makes of an axis whose inputs were not sampled is what its own tick makes of it. -/
theorem exec_profileTick_at : ∃ u t, exec (.profileTick dt samples) s = .next t ∧ KeepsAxis n (s.elapse dt) u ∧ KeepsAxis n (u.axTick n []) t := by
  obtain ⟨u, hbefore, hafter⟩ := profileTick_at (s := s.elapse dt) hn hrun hp hen samples
  rw [hs, Option.getD_none] at hafter
  exact ⟨u, _, exec_profileTick dt samples s, hbefore, hafter.trans (.settle hn _)⟩

include hrest

theorem exec_profileTick_stays (hfresh : (s.ax n).fresh = false) (hacc : (s.ax n).acc = 0)
    (htgt : s.geti (F.AXn_POS.POS n) = s.geti (F.AXn_TARGET.TARGET n)) :
    ∃ t, exec (.profileTick dt samples) s = .next t ∧ t.geti (F.AXn_POS.POS n) = s.geti (F.AXn_POS.POS n) ∧ t.bit (F.AXn_STAT.AT_TGT n) = true ∧
      t.get (F.AXn_STAT.PSTATE n) = 1 ∧ ∀ k, Emit.steps n k ∉ t.emitted := by
  obtain ⟨u, t, hexec, hbefore, hafter⟩ := exec_profileTick_at dt hn hrun hp hen hs
  have hpos := hbefore.geti (F.AXn_POS.POS n) (by grind)
  have htarget := hbefore.geti (F.AXn_TARGET.TARGET n) (by grind)
  have hu : AtRest n u := AtRest.keep (s := s.elapse dt) ⟨hrest.enOut, hrest.pstate, hrest.v, hrest.a, hrest.brake⟩ hbefore
  have hstays := State.axTick_stays hn hu (by rw [hbefore.ax]; exact hfresh) (by rw [hbefore.ax]; exact hacc) (by rw [hpos, htarget]; exact htgt)
  refine ⟨t, hexec, ?_, ?_, ?_, fun k hk => ?_⟩
  · rw [hafter.geti _ (by grind), hstays.pos, hpos, State.elapse_geti]
  · rw [hafter.bit _ (by grind), hstays.atTgt]
  · rw [hafter.get _ (by grind), hstays.pstate]
  · have hsteps := hafter.steps k hk
    rw [hstays.emitted] at hsteps
    simpa using hbefore.steps k hsteps

theorem exec_profileTick_approaches {w : Int} (hw : NewTarget n w s) :
    ∃ t, exec (.profileTick dt samples) s = .next t ∧ t.geti (F.AXn_TARGET.TARGET n) = w ∧ (t.ax n).fresh = false ∧
      (t.ax n).v.natAbs ≤ (s.axCfg n).vmax ∧ min w (s.geti (F.AXn_POS.POS n)) ≤ t.geti (F.AXn_POS.POS n) ∧
      t.geti (F.AXn_POS.POS n) ≤ max w (s.geti (F.AXn_POS.POS n)) := by
  obtain ⟨u, t, hexec, hbefore, hafter⟩ := exec_profileTick_at dt hn hrun hp hen hs
  have hu : AtRest n u := AtRest.keep (s := s.elapse dt) ⟨hrest.enOut, hrest.pstate, hrest.v, hrest.a, hrest.brake⟩ hbefore
  have hwu : NewTarget n w u := NewTarget.keep (s := s.elapse dt)
    ⟨hw.fresh, hw.want, hw.fits, hw.noSoft, hw.noLimP, hw.noLimN, hw.vmax, hw.acc⟩ hbefore
  obtain ⟨htarget, hfresh, hspeed, hlo, hhi⟩ := State.axTick_approaches hn hu hwu
  have hpos : u.geti (F.AXn_POS.POS n) = s.geti (F.AXn_POS.POS n) := hbefore.geti _ (by grind)
  rw [hpos] at hlo hhi
  refine ⟨t, hexec, ?_, ?_, ?_, ?_, ?_⟩
  · rw [hafter.geti _ (by grind), htarget]
  · rw [hafter.ax, hfresh]
  · rw [hafter.ax]
    exact hspeed.trans_eq hbefore.vmax
  · rwa [hafter.geti _ (by grind)]
  · rwa [hafter.geti _ (by grind)]

end Tick

/-- Settles O39: the ticks of the other axes leave an axis alone, and its own tick is a plan that stays or sets off, within VMAX and up to its target. -/
theorem axesMoveTowardTheirTargetsAndStopAtLimits : Obligations.AxesMoveTowardTheirTargetsAndStopAtLimits := by
  unfold Obligations.AxesMoveTowardTheirTargetsAndStopAtLimits
  intro s dt n hn
  refine ⟨fun samples hrun hp hen hon hs hps hv ha hb => ⟨exec_profileTick_stays dt hn hrun hp hen hs ⟨hon, hps, hv, ha, hb⟩, ?_⟩, ?_, fun plus => ⟨?_, ?_⟩,
    fun hmode => ⟨?_, ?_⟩⟩
  · intro w hfresh hwant hlo hhi hsoft hlimP hlimN hvmax hacc
    exact exec_profileTick_approaches dt hn hrun hp hen hs ⟨hon, hps, hv, ha, hb⟩ ⟨hfresh, hwant, ⟨hlo, hhi⟩, hsoft, hlimP, hlimN, hvmax, hacc⟩
  · intro samples hrun
    exact exec_idle (exec_profileTick dt samples s) (profileTick_idle (s := s.elapse dt) hrun samples)
  · intro hused hhome hon
    exact ⟨exec_limitTrip_stops dt hn hused hhome hon, exec_limitTrip_brakes dt hn hused hhome hon⟩
  · exact exec_limitTrip_unused dt
  · intro hps hb
    exact ⟨exec_homeSignalChange_found dt hmode hps hb, exec_homeSignalChange_left dt hn hmode hps hb, exec_homeSignalChange_captures dt hn hmode hps hb⟩
  · exact exec_homeSignalChange_keeps dt hmode

end Sys2Proof.Machine
end

section
/-! What a remote axis keeps (R218, R219): its plan beside the words, and where its registers stand. -/
namespace Sys2Proof.Machine

variable {s t u : State} {f : Fld} {j r : Nat}

/-! ### The plan of a remote axis -/

theorem State.ra_setRa (s : State) (r k : Nat) (x : Ax) : (s.setRa r x).ra k = if k = r then x else s.ra k :=
  look_store (fun _ => ax0) r k x s.mpg.ras

@[simp] theorem State.ra_setRa_same (s : State) (r : Nat) (x : Ax) : (s.setRa r x).ra r = x := by rw [State.ra_setRa, if_pos rfl]
@[simp] theorem State.setRa_get (s : State) (r : Nat) (x : Ax) (f : Fld) : (s.setRa r x).get f = s.get f := rfl
@[simp] theorem State.setRa_geti (s : State) (r : Nat) (x : Ax) (f : Fld) : (s.setRa r x).geti f = s.geti f := rfl
@[simp] theorem State.setRa_getw (s : State) (r : Nat) (x : Ax) (f : Fld) : (s.setRa r x).getw f = s.getw f := rfl

@[simp] theorem State.set_ra (s : State) (f : Fld) (v r : Nat) : (s.set f v).ra r = s.ra r := rfl
@[simp] theorem State.setBit_ra (s : State) (f : Fld) (b : Bool) (r : Nat) : (s.setBit f b).ra r = s.ra r := rfl
@[simp] theorem State.seti_ra (s : State) (f : Fld) (v : Int) (r : Nat) : (s.seti f v).ra r = s.ra r := rfl
@[simp] theorem State.setw_ra (s : State) (f : Fld) (v : Word) (r : Nat) : (s.setw f v).ra r = s.ra r := rfl
@[simp] theorem State.elapse_ra (s : State) (dt r : Nat) : (s.elapse dt).ra r = s.ra r := rfl
@[simp] theorem State.settle_ra (s : State) (r : Nat) : s.settle.ra r = s.ra r := by simp only [State.ra, State.settle_mpg]

theorem SameWords.setRa {ks : List Nat} (h : SameWords ks s t) (r : Nat) (x : Ax) : SameWords ks s (t.setRa r x) := h

/-! ### Its registers -/

/-- A field of a register of MPG in any window. -/
abbrev InMpg (f : Fld) : Prop := f.key % 0x1000000 / 0x10000 = 0x07

theorem InMpg.notAlarm (h : InMpg f) : f.key ∉ alarmKeys := by
  simp only [alarmKeys, R.SAF_ALARM, R.SAF_STAT, List.mem_cons, List.not_mem_nil, or_false]
  unfold InMpg at h
  omega

theorem State.settle_get_mpg (s : State) (h : InMpg f) : s.settle.get f = s.get f := s.settle_get f h.notAlarm
theorem State.settle_geti_mpg (s : State) (h : InMpg f) : s.settle.geti f = s.geti f := State.geti_congr (s.settle_get_mpg h)
theorem State.settle_getw_mpg (s : State) (h : InMpg f) : s.settle.getw f = s.getw f := State.getw_congr (s.settle_get_mpg h)
theorem State.settle_bit_mpg (s : State) (h : InMpg f) : s.settle.bit f = s.bit f := State.bit_congr (s.settle_get_mpg h)

/-- The words that MPG changes for remote axis r of its own accord. -/
def raKeys (r : Nat) : List Nat := [R.RA_STAT r, R.RA_TARGET r, R.RA_POS r, R.RA_SET r, R.RA_VEL r, R.MPG_ERR]

theorem raKeys_range {k : Nat} (h : k ∈ raKeys r) : k % 0x1000000 / 0x10000 = 0x07 ∧ (k / 0x1000000 = r ∨ k = R.MPG_ERR) := by
  simp only [raKeys, R.RA_STAT, R.RA_TARGET, R.RA_POS, R.RA_SET, R.RA_VEL, R.MPG_ERR, List.mem_cons, List.not_mem_nil, or_false] at h
  unfold R.MPG_ERR
  omega

/-- Only words of remote axis r and MPG_ERR changed, and of the plans only its own. -/
structure RaOnly (r : Nat) (s t : State) : Prop where
  words : SameWords (raKeys r) s t
  ra : ∀ k, k ≠ r → t.ra k = s.ra k

namespace RaOnly

theorem refl (r : Nat) (s : State) : RaOnly r s s := ⟨.refl _ s, fun _ _ => rfl⟩

theorem trans (h1 : RaOnly r s t) (h2 : RaOnly r t u) : RaOnly r s u :=
  ⟨h1.words.trans h2.words, fun k hk => (h2.ra k hk).trans (h1.ra k hk)⟩

theorem set (h : RaOnly r s t) (f : Fld) (v : Nat) (hf : f.key ∈ raKeys r) : RaOnly r s (t.set f v) := ⟨h.words.set f v hf, h.ra⟩
theorem setBit (h : RaOnly r s t) (f : Fld) (b : Bool) (hf : f.key ∈ raKeys r) : RaOnly r s (t.setBit f b) := h.set f _ hf
theorem seti (h : RaOnly r s t) (f : Fld) (v : Int) (hf : f.key ∈ raKeys r) : RaOnly r s (t.seti f v) := h.set f _ hf
theorem setw (h : RaOnly r s t) (f : Fld) (v : Word) (hf : f.key ∈ raKeys r) : RaOnly r s (t.setw f v) := h.set f _ hf
theorem flag (h : RaOnly r s t) (f : Fld) (hf : f.key ∈ raKeys r) : RaOnly r s (t.flag f) := ⟨h.words.flag f hf, h.ra⟩

theorem setRa (h : RaOnly r s t) (x : Ax) : RaOnly r s (t.setRa r x) :=
  ⟨h.words, fun k hk => by rw [State.ra_setRa, if_neg hk]; exact h.ra k hk⟩

theorem ite {c : Prop} [Decidable c] (h1 : RaOnly r s t) (h2 : RaOnly r s u) : RaOnly r s (if c then t else u) := by
  split
  · exact h1
  · exact h2

end RaOnly

theorem raStat_mem (r : Nat) : R.RA_STAT r ∈ raKeys r := by simp [raKeys]
theorem raTarget_mem (r : Nat) : R.RA_TARGET r ∈ raKeys r := by simp [raKeys]
theorem raPos_mem (r : Nat) : R.RA_POS r ∈ raKeys r := by simp [raKeys]
theorem raSet_mem (r : Nat) : R.RA_SET r ∈ raKeys r := by simp [raKeys]
theorem raVel_mem (r : Nat) : R.RA_VEL r ∈ raKeys r := by simp [raKeys]
theorem raErr_mem (r : Nat) : R.MPG_ERR ∈ raKeys r := by simp [raKeys]

/-! ### The output image of a station (R118) -/

theorem PageOnly.words (h : PageOnly s t) : t.words = s.words := by rw [h]
theorem PageOnly.mpg (h : PageOnly s t) : t.mpg = s.mpg := by rw [h]

theorem PageOnly.ra (h : PageOnly s t) (r : Nat) : t.ra r = s.ra r := by rw [State.ra, State.ra, h.mpg]

theorem PageOnly.raOnly (h : PageOnly s t) (r : Nat) : RaOnly r s t :=
  ⟨fun k _ _ => by rw [State.word, State.word, h.words], fun k _ => h.ra k⟩

theorem State.commitOut_only (s : State) (stn ofs n : Nat) : PageOnly s (s.commitOut stn ofs n) :=
  (State.pageWrite_only ..).trans (State.pageWrite_only ..)

end Sys2Proof.Machine
end

section
/-! RA_TARGET and the commands of a remote axis (R203, R212, R215, R219). -/
namespace Sys2Proof.Machine

variable {s t : State} {rq : Rq} {r : Nat}

/-! ### The commands reach the selected axis -/

theorem State.regWrite_raCmd (s : State) (rq : Rq) (v : Word) : s.regWrite rq (R.RA_CMD 0) v = raCmdWrite rq (v.toNat % 8) s := by
  have hunit : R.RA_CMD 0 / 65536 = 0x07 := by decide
  simp only [State.regWrite, hunit, State.mpgWrite]
  rw [if_neg (by decide), if_neg (by decide), if_pos trivial]

theorem State.regWrite_raTarget (s : State) (rq : Rq) (v : Word) : s.regWrite rq (R.RA_TARGET 0) v = raTargetWrite rq v s := by
  have hunit : R.RA_TARGET 0 / 65536 = 0x07 := by decide
  simp only [State.regWrite, hunit, State.mpgWrite]
  rw [if_neg (by decide), if_neg (by decide), if_neg (by decide), if_pos trivial]

theorem exec_raCmdWrite {c : Instr} {dt : Nat} {v : Word} (h : Writes s rq (R.RA_CMD 0))
    (he : exec c s = .next ((s.elapse dt).busWrite rq 4 (R.RA_CMD 0) v).settle) :
    exec c s = .next (raCmdWrite rq (v.toNat % 8) (s.elapse dt)).settle := by
  rw [he, State.busWrite_of_writes (h.elapse dt), State.regWrite_raCmd]

section Exec
variable (dt : Nat) (h : Writes s rq (R.RA_CMD 0)) (hr : s.get (F.MPG_WIN_SEL.RA rq.num) = r)
include h hr

theorem exec_raStop : exec (.raStop dt rq) s = .next (raStop r (s.elapse dt)).settle := by
  rw [← hr]
  exact exec_raCmdWrite (v := 3#32) h rfl

theorem exec_raEstop : exec (.raEstop dt rq) s = .next (raEstop r (s.elapse dt)).settle := by
  rw [← hr]
  exact exec_raCmdWrite (v := 4#32) h rfl

theorem exec_raResync : exec (.raResync dt rq) s = .next (raResync r (s.elapse dt)).settle := by
  rw [← hr]
  exact exec_raCmdWrite (v := 5#32) h rfl

theorem exec_raClrFlt : exec (.raClrFlt dt rq) s = .next (raClrFlt r (s.elapse dt)).settle := by
  rw [← hr]
  exact exec_raCmdWrite (v := 7#32) h rfl

end Exec

/-! ### RA_TARGET (R203) -/

theorem raTargetWrite_taken (hr : s.get (F.MPG_WIN_SEL.RA rq.num) = r) (hsrc : s.get (T.MPG_RA.TGT_SRC r) = 0)
    (hen : s.bit (T.MPG_RA.EN r) = true) (v : Word) :
    raTargetWrite rq v s = (s.seti (F.RA_TARGET.TARGET r) v.toInt).setRa r { s.ra r with fresh := true, want := v.toInt } := by
  rw [raTargetWrite, hr, State.writeTarget, if_neg (by omega), Nat.add_sub_cancel_left, if_neg (not_not.mpr hsrc), if_neg (by simp [hen])]

theorem exec_raTargetWrite_taken (dt : Nat) (v : Word) (h : Writes s rq (R.RA_TARGET 0)) (hr : s.get (F.MPG_WIN_SEL.RA rq.num) = r)
    (hsrc : s.get (T.MPG_RA.TGT_SRC r) = 0) (hen : s.bit (T.MPG_RA.EN r) = true) :
    ∃ t, exec (.raTargetWrite dt rq v) s = .next t ∧ t.getw (F.RA_TARGET.TARGET r) = v ∧
      t.ra r = { s.ra r with fresh := true, want := v.toInt } ∧ SameWords [(F.RA_TARGET.TARGET r).key] s t := by
  refine ⟨((s.elapse dt).regWrite rq (R.RA_TARGET 0) v).settle, ?_, ?_⟩
  · rw [← State.busWrite_of_writes (h.elapse dt)]
    rfl
  · rw [State.regWrite_raTarget, raTargetWrite_taken (s := s.elapse dt) hr hsrc hen]
    refine ⟨?_, (State.settle_ra _ r).trans (State.ra_setRa_same _ r _), ?_⟩
    · rw [State.settle_getw_mpg _ (by grind), State.setRa_getw, State.getw_seti_same, BitVec.ofInt_toInt]
    · exact SameWords.of_elapse (SameWords.settle (((SameWords.refl _ (s.elapse dt)).seti (F.RA_TARGET.TARGET r) _ (by simp)).setRa r _))

/-! ### Whether the axis takes a command, and braking (R215) -/

theorem State.raCmd_ready (hen : s.bit (T.MPG_RA.EN r) = true) (hrun : s.bit F.MPG_STAT.RUN = true) (f : State → State) : s.raCmd r f = f s :=
  if_pos (by simp [hen, hrun])

theorem State.raCmd_notReady (h : (s.bit (T.MPG_RA.EN r) && s.bit F.MPG_STAT.RUN) = false) (f : State → State) :
    s.raCmd r f = s.flag F.MPG_ERR.CMD_REJ := if_neg (by simp [h])

/-- A braking toward `code` that starts: the plan, and EMG for DEC_EMG. -/
def State.startRaBrake (s : State) (r code : Nat) : State :=
  if code = 4 then (s.setRa r { s.ra r with brake := code, fresh := false }).set (raStat F.AXn_STAT.EMG r) 1
  else s.setRa r { s.ra r with brake := code, fresh := false }

theorem State.startRaBrake_ra (s : State) (r code : Nat) : (s.startRaBrake r code).ra r = { s.ra r with brake := code, fresh := false } := by
  unfold State.startRaBrake
  split
  · rw [State.set_ra, State.ra_setRa_same]
  · rw [State.ra_setRa_same]

section Brake
variable (hb : (s.ra r).brake = 0)
include hb

theorem State.raBrake_stopped (hv : (s.ra r).v = 0) :
    s.raBrake r 3 = ((s.setRa r { s.ra r with brake := 0, fresh := false }).set (raStat F.AXn_STAT.PSTATE r) 7).seti (F.RA_TARGET.TARGET r)
      (s.ra r).pos := by
  simp [State.raBrake, hb, hv]

theorem State.raBrake_moving (hv : (s.ra r).v ≠ 0) (code : Nat) :
    s.raBrake r code = (s.startRaBrake r code).set (raStat F.AXn_STAT.PSTATE r) (if code = 4 then 6 else 4) := by
  simp [State.raBrake, State.startRaBrake, hb, hv]

end Brake

/-! ### STOP, ESTOP, RESYNC and CLR_FLT -/

section Commands
variable (dt : Nat) (h : Writes s rq (R.RA_CMD 0)) (hr : s.get (F.MPG_WIN_SEL.RA rq.num) = r)
include h hr

/-- An axis that is not configured, or not in service, answers every command with CMD_REJ alone. -/
theorem exec_raCmd_rejected (hoff : (s.bit (T.MPG_RA.EN r) && s.bit F.MPG_STAT.RUN) = false) :
    ∀ c ∈ [Instr.raStop dt rq, .raEstop dt rq, .raResync dt rq, .raClrFlt dt rq],
      ∃ t, exec c s = .next t ∧ t.bit F.MPG_ERR.CMD_REJ = true ∧ OnlyWords [R.MPG_ERR] (s.elapse dt) t := by
  have hrej {c : Instr} {f : State → State} (he : exec c s = .next ((s.elapse dt).raCmd r f).settle) :
      ∃ t, exec c s = .next t ∧ t.bit F.MPG_ERR.CMD_REJ = true ∧ OnlyWords [R.MPG_ERR] (s.elapse dt) t :=
    exec_setsFlag (f := F.MPG_ERR.CMD_REJ) he (State.raCmd_notReady (s := s.elapse dt) hoff f) rfl (by decide) (by decide)
  simp only [List.forall_mem_cons]
  exact ⟨hrej (exec_raStop dt h hr), hrej (exec_raEstop dt h hr), hrej (exec_raResync dt h hr), hrej (exec_raClrFlt dt h hr), by simp⟩

variable (hen : s.bit (T.MPG_RA.EN r) = true) (hrun : s.bit F.MPG_STAT.RUN = true)
include hen hrun

theorem exec_raStop_holds (hv : (s.ra r).v = 0) (hb : (s.ra r).brake = 0) :
    ∃ t, exec (.raStop dt rq) s = .next t ∧ t.get (raStat F.AXn_STAT.PSTATE r) = 7 ∧
      t.getw (F.RA_TARGET.TARGET r) = BitVec.ofInt 32 (s.ra r).pos := by
  refine ⟨_, exec_raStop dt h hr, ?_⟩
  rw [raStop, State.raCmd_ready (s := s.elapse dt) hen hrun, State.raBrake_stopped (s := s.elapse dt) hb hv]
  refine ⟨?_, ?_⟩
  · rw [State.settle_get_mpg _ (by grind), State.get_seti_other _ _ (by simp [Apart]), State.get_set_fits _ _ (by decide) (by decide)]
  · rw [State.settle_getw_mpg _ (by grind), State.getw_seti_same, State.elapse_ra]

section Moving
variable (hv : (s.ra r).v ≠ 0) (hb : (s.ra r).brake = 0)
include hv hb

theorem exec_raStop_brakes : ∃ t, exec (.raStop dt rq) s = .next t ∧ t.get (raStat F.AXn_STAT.PSTATE r) = 4 ∧
    t.ra r = { s.ra r with brake := 3, fresh := false } := by
  refine ⟨_, exec_raStop dt h hr, ?_⟩
  rw [raStop, State.raCmd_ready (s := s.elapse dt) hen hrun, State.raBrake_moving (s := s.elapse dt) hb hv, State.settle_ra, State.set_ra,
    State.startRaBrake_ra]
  exact ⟨(State.settle_get_mpg _ (by grind)).trans (State.get_set_fits _ _ (by decide) (by decide)), rfl⟩

theorem exec_raEstop_brakes : ∃ t, exec (.raEstop dt rq) s = .next t ∧ t.get (raStat F.AXn_STAT.PSTATE r) = 6 ∧
    t.bit (raStat F.AXn_STAT.EMG r) = true ∧ t.ra r = { s.ra r with brake := 4, fresh := false } := by
  refine ⟨_, exec_raEstop dt h hr, ?_⟩
  rw [raEstop, State.raCmd_ready (s := s.elapse dt) hen hrun, State.raBrake_moving (s := s.elapse dt) hb hv, State.settle_ra, State.set_ra,
    State.startRaBrake_ra]
  refine ⟨(State.settle_get_mpg _ (by grind)).trans (State.get_set_fits _ _ (by decide) (by decide)), ?_, rfl⟩
  rw [State.settle_bit_mpg _ (by grind), State.bit_congr (State.get_set_other _ _ _ _ (by simp)), State.startRaBrake, if_pos rfl,
    State.bit_set_one _ _ (by decide)]

end Moving

theorem exec_raResync_rests : ∃ t, exec (.raResync dt rq) s = .next t ∧ (t.ra r).pos = s.raPos r ∧ (t.ra r).acc = 0 ∧ (t.ra r).v = 0 ∧
    (t.ra r).brake = 0 ∧ t.getw (F.RA_TARGET.TARGET r) = BitVec.ofInt 32 (s.raPos r) ∧ t.get (F.RA_VEL.VEL r) = 0 := by
  have hpos : (s.elapse dt).raPos r = s.raPos r := rfl
  refine ⟨_, exec_raResync dt h hr, ?_⟩
  rw [raResync, State.raCmd_ready (s := s.elapse dt) hen hrun, hpos, State.settle_ra, State.setw_ra, State.set_ra, State.seti_ra, State.ra_setRa_same]
  refine ⟨rfl, rfl, rfl, rfl, ?_, ?_⟩
  · rw [State.settle_getw_mpg _ (by grind), State.getw_congr (State.get_setw_other _ _ (by simp [Apart])),
      State.getw_congr (State.get_set_other _ _ _ _ (by simp)), State.getw_seti_same]
  · rw [State.settle_get_mpg _ (by grind)]
    exact State.get_set_fits _ _ (by decide) (by decide)

theorem exec_raClrFlt_clears : ∃ t, exec (.raClrFlt dt rq) s = .next t ∧ t.bit (raStat F.AXn_STAT.FAULT r) = false ∧
    OnlyWords [R.RA_STAT r] (s.elapse dt) t := by
  refine ⟨_, exec_raClrFlt dt h hr, ?_⟩
  rw [raClrFlt, State.raCmd_ready (s := s.elapse dt) hen hrun]
  exact ⟨(State.settle_bit_mpg _ (by grind)).trans (State.bit_set_zero _ _ (by decide)), ((OnlyWords.refl _ _).set _ _ (by simp)).settle⟩

end Commands

end Sys2Proof.Machine
end

section
/-! The 250 us tick of remote axes (R218, R219), stage by stage, and what it leaves alone. -/
namespace Sys2Proof.Machine

variable {s t u : State} {j k r : Nat}

/-! ### The stages of a tick -/

/-- The station is not UP: the axis holds at rest. -/
def State.raHeld (s : State) (r : Nat) : State :=
  (((s.setRa r { s.ra r with v := 0, a := 0, brake := 0, down := true }).set (raStat F.AXn_STAT.REM_DOWN r) 1).set
    (raStat F.AXn_STAT.PSTATE r) 7).setw (F.RA_VEL.VEL r) 0

/-- The station is UP again: the axis rests where it was reported, or set. -/
def State.raReturn (s : State) (r : Nat) : State :=
  if (s.ra r).down then
    ((s.setRa r { s.ra r with pos := if s.bit (T.MPG_RA.FB_EN r) then s.raPos r else s.geti (F.RA_SET.POS r), acc := 0, v := 0, a := 0, down := false,
                              replan := true }).set (raStat F.AXn_STAT.REM_DOWN r) 0).set (raStat F.AXn_STAT.PSTATE r) 1
  else s

/-- The plan a tick later. -/
def State.raNext (s : State) (r : Nat) : Plan :=
  if (s.raPlan r).ps = 7 ∧ (s.raPlan r).brake = 0 then s.raPlan r
  else planTick (s.raCfg r) (s.raPlan r) (s.geti (F.RA_TARGET.TARGET r)) (s.ra r).replan

/-- What an axis keeps of a plan. -/
def Plan.store (q : Plan) (x : Ax) : Ax := { x with pos := q.x.fdiv (2 ^ 48), acc := (q.x % 2 ^ 48).toNat, v := q.v, a := q.a, brake := q.brake }

/-- A plan is stored, its state and velocity shown; a rest beyond a soft limit is a fault. -/
def State.raShown (s : State) (r : Nat) (q : Plan) : State :=
  ((((s.setRa r (q.store (s.ra r))).set (raStat F.AXn_STAT.PSTATE r) q.ps).setBit (raStat F.AXn_STAT.OVS r) q.ovs).setBit
    (raStat F.AXn_STAT.EMG r) q.emg).setw (F.RA_VEL.VEL r) (f32bits (.ofQ q.v (2 ^ 32)))
def State.raViol (s : State) (r : Nat) (q : Plan) : State :=
  if q.viol then (s.set (raStat F.AXn_STAT.FAULT r) 1).flag F.MPG_ERR.SOFT_VIOL else s

theorem State.setRaPlan_eq (s : State) (r : Nat) (q : Plan) :
    s.setRaPlan r q = ((s.raShown r q).raViol r q).seti (F.RA_POS.POS r) (((s.raShown r q).raViol r q).raPos r) := rfl

/-- The next plan is stored and shown. -/
def State.raKeep (s : State) (r : Nat) (q : Plan) : State := (s.setRaPlan r q).setRa r { (s.setRaPlan r q).ra r with replan := false }

/-- A braking that has come to HOLD takes its position as the target. -/
def State.raEnd (s : State) (r : Nat) (p q : Plan) : State :=
  if q.ps = 7 ∧ p.ps ≠ 7 then s.seti (F.RA_TARGET.TARGET r) (s.ra r).pos else s

/-- AT_TGT shows a rest on the target. -/
def State.raShowAt (s : State) (r : Nat) (q : Plan) : State :=
  s.setBit (raStat F.AXn_STAT.AT_TGT r) (q.ps == 1 && decide ((s.ra r).pos = s.geti (F.RA_TARGET.TARGET r)))

/-- What a tick plans from where it stands. -/
def State.raMove (s : State) (r : Nat) : State :=
  ((s.raKeep r (s.raNext r)).raEnd r (s.raPlan r) (s.raNext r)).raShowAt r (s.raNext r)

theorem State.raTick_down (h : s.stnUp (s.get (T.MPG_RA.STATION r)) = false) : s.raTick r = s.raHeld r := if_pos (by simp [h])

theorem State.raTick_up (h : s.stnUp (s.get (T.MPG_RA.STATION r)) = true) : s.raTick r = (((s.raReturn r).raTake r).raMove r).raCommit r :=
  if_neg (by simp [h])

/-! ### The setpoint for a launch slot (R218) -/

/-- The setpoint for the launch slot at sl: the plan there and LEAD later. -/
def State.raSetpoint (s : State) (r sl : Nat) : Int :=
  let ahead := sl + 1000 * s.get (T.MPG_RA.LEAD r) - s.now
  let p := planAhead (s.raCfg r) (s.geti (F.RA_TARGET.TARGET r)) (s.raPlan r) (ahead / 250000)
  (p.x + ((planAhead (s.raCfg r) (s.geti (F.RA_TARGET.TARGET r)) p 1).x - p.x) * ((ahead % 250000 : Nat) : Int) / 250000).fdiv (2 ^ 48)

/-- A launch slot that is near takes the setpoint; nothing is committed otherwise. -/
theorem State.raCommit_soon {sl : Nat} (hsl : s.slotFrom (s.get (T.MPG_RA.STATION r)) (s.now + 50000) = some sl) (h : sl < s.now + 300000) :
    ∃ u, PageOnly s u ∧ s.raCommit r = u.seti (F.RA_SET.POS r) (s.raSetpoint r sl) := by
  unfold State.raCommit
  simp only [hsl]
  rw [if_neg (by omega)]
  exact ⟨_, (State.pageWrite_only ..).trans (State.commitOut_only ..), rfl⟩

theorem State.raCommit_later {sl : Nat} (hsl : s.slotFrom (s.get (T.MPG_RA.STATION r)) (s.now + 50000) = some sl) (h : s.now + 300000 ≤ sl) :
    s.raCommit r = s := by
  unfold State.raCommit
  simp only [hsl]
  rw [if_pos h]

theorem State.raCommit_cases (s : State) (r : Nat) : s.raCommit r = s ∨ ∃ u v, PageOnly s u ∧ s.raCommit r = u.seti (F.RA_SET.POS r) v := by
  cases hsl : s.slotFrom (s.get (T.MPG_RA.STATION r)) (s.now + 50000) with
  | none =>
    left
    unfold State.raCommit
    simp only [hsl]
  | some sl =>
    rcases Nat.lt_or_ge sl (s.now + 300000) with hsoon | hlater
    · obtain ⟨u, hpages, hset⟩ := State.raCommit_soon hsl hsoon
      exact .inr ⟨u, _, hpages, hset⟩
    · exact .inl (State.raCommit_later hsl hlater)

theorem State.raCommit_ra (s : State) (r k : Nat) : (s.raCommit r).ra k = s.ra k := by
  obtain hsame | ⟨u, v, hpages, hset⟩ := s.raCommit_cases r
  · rw [hsame]
  · rw [hset, State.seti_ra, hpages.ra]

theorem State.raCommit_get (s : State) {r : Nat} {f : Fld} (hf : f.key ≠ R.RA_SET r) : (s.raCommit r).get f = s.get f := by
  obtain hsame | ⟨u, v, hpages, hset⟩ := s.raCommit_cases r
  · rw [hsame]
  · rw [hset, State.get_seti_other _ _ (.inl hf), hpages.get]

/-! ### A tick reaches one axis -/

theorem State.raCommit_only (s : State) (r : Nat) : RaOnly r s (s.raCommit r) := by
  obtain hsame | ⟨u, v, hpages, hset⟩ := s.raCommit_cases r
  · rw [hsame]
    exact .refl r s
  · rw [hset]
    exact (hpages.raOnly r).seti (F.RA_SET.POS r) _ (raSet_mem r)

theorem State.raHeld_only (s : State) (r : Nat) : RaOnly r s (s.raHeld r) :=
  ((((RaOnly.refl r s).setRa _).set (raStat F.AXn_STAT.REM_DOWN r) 1 (raStat_mem r)).set (raStat F.AXn_STAT.PSTATE r) 7 (raStat_mem r)).setw
    (F.RA_VEL.VEL r) 0 (raVel_mem r)

theorem State.raReturn_only (s : State) (r : Nat) : RaOnly r s (s.raReturn r) :=
  ((((RaOnly.refl r s).setRa _).set (raStat F.AXn_STAT.REM_DOWN r) 0 (raStat_mem r)).set (raStat F.AXn_STAT.PSTATE r) 1 (raStat_mem r)).ite
    (.refl r s)

theorem State.raTake_only (s : State) (r : Nat) : RaOnly r s (s.raTake r) := by
  have hfresh : RaOnly r s (s.setRa r { s.ra r with fresh := false }) := (RaOnly.refl r s).setRa _
  have haim (x : Int) (y : Ax) (b : Bool) := ((((hfresh.seti (F.RA_TARGET.TARGET r) x (raTarget_mem r)).setRa y).setBit
    (raStat F.AXn_STAT.SOFT r) b (raStat_mem r)).set (raStat F.AXn_STAT.OVS r) 0 (raStat_mem r)).set (raStat F.AXn_STAT.EMG r) 0 (raStat_mem r)
  unfold State.raTake
  exact (RaOnly.refl r s).ite ((hfresh.seti (F.RA_TARGET.TARGET r) _ (raTarget_mem r)).ite
    (((haim _ _ _).set (raStat F.AXn_STAT.PSTATE r) 1 (raStat_mem r)).ite (haim _ _ _)))

theorem State.raShown_only (s : State) (r : Nat) (q : Plan) : RaOnly r s (s.raShown r q) :=
  (((((RaOnly.refl r s).setRa _).set (raStat F.AXn_STAT.PSTATE r) _ (raStat_mem r)).setBit (raStat F.AXn_STAT.OVS r) _ (raStat_mem r)).setBit
    (raStat F.AXn_STAT.EMG r) _ (raStat_mem r)).setw (F.RA_VEL.VEL r) _ (raVel_mem r)

theorem State.setRaPlan_only (s : State) (r : Nat) (q : Plan) : RaOnly r s (s.setRaPlan r q) := by
  have hshown := s.raShown_only r q
  rw [State.setRaPlan_eq]
  exact (((hshown.set (raStat F.AXn_STAT.FAULT r) 1 (raStat_mem r)).flag F.MPG_ERR.SOFT_VIOL (raErr_mem r)).ite hshown).seti (F.RA_POS.POS r) _
    (raPos_mem r)

theorem State.raMove_only (s : State) (r : Nat) : RaOnly r s (s.raMove r) := by
  have hkeep : RaOnly r s (s.raKeep r (s.raNext r)) := (s.setRaPlan_only r _).setRa _
  exact ((hkeep.seti (F.RA_TARGET.TARGET r) _ (raTarget_mem r)).ite hkeep).setBit (raStat F.AXn_STAT.AT_TGT r) _ (raStat_mem r)

theorem State.raTick_only (s : State) (r : Nat) : RaOnly r s (s.raTick r) := by
  cases hup : s.stnUp (s.get (T.MPG_RA.STATION r))
  · rw [State.raTick_down hup]
    exact s.raHeld_only r
  · rw [State.raTick_up hup]
    exact (((s.raReturn_only r).trans (State.raTake_only _ r)).trans (State.raMove_only _ r)).trans (State.raCommit_only _ r)

/-! ### Axes whose station is not UP (R219) -/

/-- Axis k's station is not UP. -/
abbrev StationDown (k : Nat) (s : State) : Prop := s.stnUp (s.get (T.MPG_RA.STATION k)) = false

theorem State.stnUp_congr {n : Nat} (h : t.get (F.SW_STAT.STATE n) = s.get (F.SW_STAT.STATE n)) : t.stnUp n = s.stnUp n := by
  rw [State.stnUp, State.stnUp, h]

theorem notAlarm_table (i : Nat) : tabKey 7 i ∉ alarmKeys := by
  simp only [alarmKeys, R.SAF_ALARM, R.SAF_STAT, tabKey, List.mem_cons, List.not_mem_nil, or_false]
  omega

/-- A tick of an axis changes no station and no entry of the table. -/
theorem RaOnly.station (h : RaOnly j s t) (hj : j < 256) (k : Nat) :
    t.get (T.MPG_RA.STATION k) = s.get (T.MPG_RA.STATION k) ∧ ∀ n, t.stnUp n = s.stnUp n := by
  refine ⟨h.words.get _ (fun hin => ?_) (notAlarm_table _), fun n => State.stnUp_congr (h.words.get _ (fun hin => ?_) ?_)⟩
  · obtain ⟨-, hkey | hkey⟩ := raKeys_range hin
    · dsimp only [tabKey] at hkey
      omega
    · dsimp only [tabKey, R.MPG_ERR] at hkey
      omega
  · obtain ⟨hunit, -⟩ := raKeys_range hin
    dsimp only [R.SW_STAT] at hunit
    omega
  · simp only [alarmKeys, R.SAF_ALARM, R.SAF_STAT, R.SW_STAT, List.mem_cons, List.not_mem_nil, or_false]
    omega

theorem RaOnly.stationDown (h : RaOnly j s t) (hj : j < 256) (k : Nat) (hk : StationDown k s) : StationDown k t := by
  obtain ⟨hstation, hup⟩ := h.station hj k
  rw [StationDown, hstation, hup]
  exact hk

/-- An axis that holds at rest because its station is not UP. -/
structure HeldDown (k : Nat) (s : State) : Prop where
  remDown : s.bit (raStat F.AXn_STAT.REM_DOWN k) = true
  pstate : s.get (raStat F.AXn_STAT.PSTATE k) = 7
  v : (s.ra k).v = 0
  down : (s.ra k).down = true

theorem State.raHeld_held (s : State) (k : Nat) : HeldDown k (s.raHeld k) where
  remDown := by
    rw [State.raHeld, State.bit_congr (State.get_setw_other _ _ (by simp [Apart])), State.bit_congr (State.get_set_other _ _ _ _ (by simp)),
      State.bit_set_one _ _ (by decide)]
  pstate := by rw [State.raHeld, State.get_setw_other _ _ (by simp [Apart]), State.get_set_fits _ _ (by decide) (by decide)]
  v := by rw [State.raHeld, State.setw_ra, State.set_ra, State.set_ra, State.ra_setRa_same]
  down := by rw [State.raHeld, State.setw_ra, State.set_ra, State.set_ra, State.ra_setRa_same]

theorem RaOnly.heldDown (h : RaOnly j s t) (hjk : k ≠ j) (hheld : HeldDown k s) : HeldDown k t := by
  have hstat {l w : Nat} : t.get ⟨R.RA_STAT k, l, w⟩ = s.get ⟨R.RA_STAT k, l, w⟩ := by
    refine h.words.get _ (fun hin => ?_) (InMpg.notAlarm (by grind))
    obtain ⟨-, hkey | hkey⟩ := raKeys_range hin
    · dsimp only [R.RA_STAT] at hkey
      omega
    · dsimp only [R.RA_STAT, R.MPG_ERR] at hkey
      omega
  refine ⟨(State.bit_congr hstat).trans hheld.remDown, hstat.trans hheld.pstate, ?_, ?_⟩ <;> rw [h.ra k hjk]
  exacts [hheld.v, hheld.down]

/-- After the ticks of all axes one whose station is not UP holds at rest. -/
theorem State.foldl_raTick_held (l : List Nat) (hl : ∀ j ∈ l, j < 256) (s : State) (hdown : StationDown k s)
    (h : k ∈ l ∨ HeldDown k s) : HeldDown k (l.foldl State.raTick s) := by
  induction l generalizing s with
  | nil => exact h.resolve_left (by simp)
  | cons j l ih =>
    obtain ⟨hj, hrest⟩ := List.forall_mem_cons.mp hl
    have hdown' := (s.raTick_only j).stationDown hj k hdown
    by_cases hjk : k = j
    · subst hjk
      exact ih hrest _ hdown' (.inr (by rw [State.raTick_down hdown]; exact s.raHeld_held k))
    · rcases h with hin | hheld
      · exact ih hrest _ hdown' (.inl ((List.mem_cons.mp hin).resolve_left hjk))
      · exact ih hrest _ hdown' (.inr ((s.raTick_only j).heldDown hjk hheld))

theorem State.raList_lt (h : k ∈ s.raList) : k < 256 := by
  simp only [State.raList, State.entries, List.mem_filterMap, Option.ite_none_right_eq_some, Bool.and_eq_true, decide_eq_true_eq,
    Option.some.injEq] at h
  obtain ⟨e, -, ⟨⟨⟨hlo, hhi⟩, -⟩, -⟩, hk⟩ := h
  omega

end Sys2Proof.Machine
end

section
/-! A remote axis at rest on its target (R209, R218); O38. -/
namespace Sys2Proof.Machine

variable {s t u : State} {rq : Rq} {k sl : Nat} {q : Plan}

/-! ### What a tick's plan leaves -/

/-- Only words and the plans of MPG changed. -/
def PlansOnly (s t : State) : Prop := t = { s with words := t.words, mpg := t.mpg }

namespace PlansOnly

theorem refl (s : State) : PlansOnly s s := rfl

theorem trans (h1 : PlansOnly s t) (h2 : PlansOnly t u) : PlansOnly s u := by
  unfold PlansOnly at *
  rw [h2, h1]

theorem set (h : PlansOnly s t) (f : Fld) (v : Nat) : PlansOnly s (t.set f v) := h.trans rfl
theorem setBit (h : PlansOnly s t) (f : Fld) (b : Bool) : PlansOnly s (t.setBit f b) := h.set f _
theorem seti (h : PlansOnly s t) (f : Fld) (v : Int) : PlansOnly s (t.seti f v) := h.set f _
theorem setw (h : PlansOnly s t) (f : Fld) (v : Word) : PlansOnly s (t.setw f v) := h.set f _
theorem setRa (h : PlansOnly s t) (r : Nat) (x : Ax) : PlansOnly s (t.setRa r x) := h.trans rfl

theorem dram (h : PlansOnly s t) : t.dram = s.dram := by rw [h]
theorem cache (h : PlansOnly s t) : t.cache = s.cache := by rw [h]
theorem now (h : PlansOnly s t) : t.now = s.now := by rw [h]; rfl
theorem slotFrom (h : PlansOnly s t) (n inst : Nat) : t.slotFrom n inst = s.slotFrom n inst := by rw [h]; rfl

end PlansOnly

/-- A calm plan is stored and shown: nothing of its target changes. -/
structure Shown (k : Nat) (q : Plan) (s t : State) : Prop where
  pstate : t.get (raStat F.AXn_STAT.PSTATE k) = q.ps
  target : t.geti (F.RA_TARGET.TARGET k) = s.geti (F.RA_TARGET.TARGET k)
  ra : t.ra k = { q.store (s.ra k) with replan := false }
  plans : PlansOnly s t

theorem State.raKeep_calm (hviol : q.viol = false) :
    s.raKeep k q = ((s.raShown k q).seti (F.RA_POS.POS k) ((s.raShown k q).raPos k)).setRa k { q.store (s.ra k) with replan := false } := by
  rw [State.raKeep, State.setRaPlan_eq, State.raViol, if_neg (by simp [hviol]), State.seti_ra, State.raShown, State.setw_ra, State.setBit_ra,
    State.setBit_ra, State.set_ra, State.ra_setRa_same]

theorem State.raKeep_shown (hviol : q.viol = false) (hps : q.ps < 16) : Shown k q s (s.raKeep k q) := by
  rw [State.raKeep_calm hviol]
  refine ⟨?_, ?_, State.ra_setRa_same .., ?_⟩
  · rw [State.setRa_get, State.get_seti_other _ _ (by simp [Apart]), State.raShown, State.get_setw_other _ _ (by simp [Apart]),
      State.get_setBit_other _ _ _ _ (by simp), State.get_setBit_other _ _ _ _ (by simp), State.get_set_fits _ _ (by decide) hps]
  · rw [State.setRa_geti, State.geti_congr (State.get_seti_other _ _ (by simp [Apart])), State.raShown,
      State.geti_congr (State.get_setw_other _ _ (by simp [Apart])), State.geti_congr (State.get_setBit_other _ _ _ _ (by simp)),
      State.geti_congr (State.get_setBit_other _ _ _ _ (by simp)), State.geti_congr (State.get_set_other _ _ _ _ (by simp)), State.setRa_geti]
  · have hshown : PlansOnly s (s.raShown k q) := (((((PlansOnly.refl s).setRa k _).set _ _).setBit _ _).setBit _ _).setw _ _
    exact (hshown.seti _ _).setRa k _

/-! ### At rest on the target -/

/-- A plan at rest on its target, and not in HOLD. -/
structure OnTarget (target : Int) (p : Plan) : Prop where
  v : p.v = 0
  brake : p.brake = 0
  x : p.x = target * 2 ^ 48
  ps : p.ps ≠ 7

/-- A plan that rests on its target rests there at every later tick. -/
theorem OnTarget.ahead {target : Int} {p : Plan} (h : OnTarget target p) (c : PlanCfg) (m : Nat) : OnTarget target (planAhead c target p m) := by
  induction m generalizing p with
  | zero => exact h
  | succ m ih =>
    unfold planAhead
    rw [if_neg h.ps, planTick_atTarget c h.v h.brake h.x]
    exact ih ⟨rfl, h.brake, h.x, (by decide : 1 ≠ 7)⟩

theorem State.raSetpoint_onTarget (h : OnTarget (s.geti (F.RA_TARGET.TARGET k)) (s.raPlan k)) (sl : Nat) :
    s.raSetpoint k sl = s.geti (F.RA_TARGET.TARGET k) := by
  have hslot := h.ahead (s.raCfg k) ((sl + 1000 * s.get (T.MPG_RA.LEAD k) - s.now) / 250000)
  unfold State.raSetpoint
  dsimp only
  rw [(hslot.ahead (s.raCfg k) 1).x, hslot.x, Int.sub_self, Int.zero_mul, Int.zero_ediv, Int.add_zero, fdiv_whole]

theorem State.raPlan_x (s : State) (k : Nat) : (s.raPlan k).x = (s.ra k).pos * 2 ^ 48 + ((s.ra k).acc : Int) := rfl
theorem State.raPlan_v (s : State) (k : Nat) : (s.raPlan k).v = (s.ra k).v := rfl
theorem State.raPlan_brake (s : State) (k : Nat) : (s.raPlan k).brake = (s.ra k).brake := rfl
theorem State.raPlan_ps (s : State) (k : Nat) : (s.raPlan k).ps = s.get (raStat F.AXn_STAT.PSTATE k) := rfl

/-- The plan of an axis, at rest. -/
def State.raRest (s : State) (k : Nat) : Plan := { s.raPlan k with v := 0, a := 0, ps := 1 }

/-- A remote axis whose station is UP, at rest on its target with no new one. -/
structure RaAtRest (k : Nat) (s : State) : Prop where
  up : s.stnUp (s.get (T.MPG_RA.STATION k)) = true
  stays : (s.ra k).down = false
  fresh : (s.ra k).fresh = false
  brake : (s.ra k).brake = 0
  v : (s.ra k).v = 0
  acc : (s.ra k).acc = 0
  pstate : s.get (raStat F.AXn_STAT.PSTATE k) = 1
  pos : (s.ra k).pos = s.geti (F.RA_TARGET.TARGET k)

namespace RaAtRest

theorem onTarget (h : RaAtRest k s) : OnTarget (s.geti (F.RA_TARGET.TARGET k)) (s.raPlan k) where
  v := h.v
  brake := h.brake
  x := by rw [State.raPlan_x, h.acc, h.pos, Nat.cast_zero, Int.add_zero]
  ps := by
    rw [State.raPlan_ps, h.pstate]
    decide

theorem next (h : RaAtRest k s) : s.raNext k = s.raRest k := by
  rw [State.raNext, if_neg (fun hps => h.onTarget.ps hps.1), planTick_atTarget _ h.onTarget.v h.onTarget.brake h.onTarget.x, State.raRest]

theorem tick (h : RaAtRest k s) : s.raTick k = (s.raMove k).raCommit k := by
  have hreturn : s.raReturn k = s := if_neg (by simp [h.stays])
  have htake : s.raTake k = s := if_pos (.inl (by simp [h.fresh]))
  rw [State.raTick_up h.up, hreturn, htake]

theorem move (h : RaAtRest k s) : s.raMove k = (s.raKeep k (s.raRest k)).raShowAt k (s.raRest k) := by
  rw [State.raMove, h.next, State.raEnd, if_neg (fun hps => (by decide : (1 : Nat) ≠ 7) hps.1)]

/-- The plan at rest keeps the position. -/
theorem store (h : RaAtRest k s) : (s.raRest k).store (s.ra k) = { s.ra k with a := 0 } := by
  have hx : (s.raRest k).x = (s.ra k).pos * 2 ^ 48 := by rw [h.pos]; exact h.onTarget.x
  rw [Plan.store, hx, fdiv_whole, Int.mul_emod_left, Int.toNat_zero, ← h.acc]
  show { s.ra k with v := 0, a := 0, brake := (s.ra k).brake } = _
  rw [← h.v]

end RaAtRest

/-- A remote axis that a tick left where it rests. -/
structure RaRested (k : Nat) (s t : State) : Prop where
  atTgt : t.bit (raStat F.AXn_STAT.AT_TGT k) = true
  pstate : t.get (raStat F.AXn_STAT.PSTATE k) = 1
  target : t.geti (F.RA_TARGET.TARGET k) = s.geti (F.RA_TARGET.TARGET k)
  ra : t.ra k = { s.ra k with a := 0, replan := false }
  plans : PlansOnly s t

theorem RaAtRest.rested (h : RaAtRest k s) : RaRested k s (s.raMove k) := by
  obtain ⟨hpstate, htarget, hra, hplans⟩ := State.raKeep_shown (s := s) (k := k) (q := s.raRest k) rfl (by decide : 1 < 16)
  rw [h.store] at hra
  rw [h.move, State.raShowAt]
  refine ⟨?_, ?_, ?_, ?_, hplans.setBit _ _⟩
  · rw [State.bit_setBit_same _ _ _ (by simp) Nat.one_pos, hra, htarget, h.pos]
    simp [State.raRest]
  · rw [State.get_setBit_other _ _ _ _ (by simp), hpstate]
    rfl
  · rw [State.geti_congr (State.get_setBit_other _ _ _ _ (by simp)), htarget]
  · rw [State.setBit_ra, hra]

theorem RaRested.onTarget (hr : RaRested k s t) (h : RaAtRest k s) : OnTarget (t.geti (F.RA_TARGET.TARGET k)) (t.raPlan k) where
  v := by rw [State.raPlan_v, hr.ra, h.v]
  brake := by rw [State.raPlan_brake, hr.ra, h.brake]
  x := by rw [State.raPlan_x, hr.ra, hr.target, h.acc, h.pos, Nat.cast_zero, Int.add_zero]
  ps := by
    rw [State.raPlan_ps, hr.pstate]
    decide

/-! ### The tick of all remote axes -/

theorem exec_remoteAxisTick (dt : Nat) (s : State) : exec (.remoteAxisTick dt) s = .next (remoteAxisTick (s.elapse dt)).settle := rfl

theorem remoteAxisTick_run (h : s.bit F.MPG_STAT.RUN = true) : remoteAxisTick s = s.raList.foldl State.raTick s := if_pos h

/-- An axis whose station is not UP holds at rest. -/
theorem exec_remoteAxisTick_held (dt : Nat) (hrun : s.bit F.MPG_STAT.RUN = true) (hk : k ∈ s.raList)
    (hdown : s.stnUp (s.get (T.MPG_RA.STATION k)) = false) :
    ∃ t, exec (.remoteAxisTick dt) s = .next t ∧ t.bit (raStat F.AXn_STAT.REM_DOWN k) = true ∧ t.get (raStat F.AXn_STAT.PSTATE k) = 7 ∧
      (t.ra k).v = 0 ∧ (t.ra k).down = true := by
  obtain ⟨hrem, hps, hv, hheld⟩ := State.foldl_raTick_held s.raList (fun _ hj => State.raList_lt hj) (s.elapse dt) hdown (.inl hk)
  refine ⟨_, exec_remoteAxisTick dt s, ?_⟩
  rw [remoteAxisTick_run (s := s.elapse dt) hrun, State.settle_ra]
  exact ⟨(State.settle_bit_mpg _ (by grind)).trans hrem, (State.settle_get_mpg _ (by grind)).trans hps, hv, hheld⟩

/-- The only axis rests on its target: it stays, and commits its position for a launch slot that is near. -/
theorem exec_remoteAxisTick_rests (dt : Nat) (hrun : s.bit F.MPG_STAT.RUN = true) (hl : s.raList = [k]) (h : RaAtRest k s)
    (hsl : s.slotFrom (s.get (T.MPG_RA.STATION k)) ((s.elapse dt).now + 50000) = some sl) :
    ∃ t, exec (.remoteAxisTick dt) s = .next t ∧ t.bit (raStat F.AXn_STAT.AT_TGT k) = true ∧ (t.ra k).pos = (s.ra k).pos ∧
      (sl < (s.elapse dt).now + 300000 → t.geti (F.RA_SET.POS k) = (s.ra k).pos) ∧
      ((s.elapse dt).now + 300000 ≤ sl → t.dram = s.dram ∧ t.cache = s.cache) := by
  have hrest : RaAtRest k (s.elapse dt) := ⟨h.up, h.stays, h.fresh, h.brake, h.v, h.acc, h.pstate, h.pos⟩
  have hk : k < 256 := State.raList_lt (s := s) (by rw [hl]; exact List.mem_singleton_self k)
  have hlist : (s.elapse dt).raList = [k] := hl
  have hrested := hrest.rested
  have hplans := hrested.plans
  have hslot : ((s.elapse dt).raMove k).slotFrom (((s.elapse dt).raMove k).get (T.MPG_RA.STATION k)) (((s.elapse dt).raMove k).now + 50000) =
      some sl := by
    rw [(((s.elapse dt).raMove_only k).station hk k).1, hplans.now, hplans.slotFrom]
    exact hsl
  refine ⟨_, exec_remoteAxisTick dt s, ?_⟩
  rw [remoteAxisTick_run (s := s.elapse dt) hrun, hlist, List.foldl_cons, List.foldl_nil, hrest.tick]
  refine ⟨?_, ?_, fun hsoon => ?_, fun hlater => ?_⟩
  · rw [State.settle_bit_mpg _ (by grind), State.bit_congr (State.raCommit_get _ (by simp)), hrested.atTgt]
  · rw [State.settle_ra, State.raCommit_ra, hrested.ra, State.elapse_ra]
  · obtain ⟨u, -, hset⟩ := State.raCommit_soon hslot (by rw [hplans.now]; exact hsoon)
    rw [State.settle_geti_mpg _ (by grind), hset, State.raSetpoint_onTarget (hrested.onTarget hrest), hrested.target, State.geti_seti_geti,
      State.elapse_geti, h.pos]
  · rw [State.raCommit_later hslot (by rw [hplans.now]; exact hlater), State.settle_dram, State.settle_cache, hplans.dram, hplans.cache,
      State.elapse_dram, State.elapse_cache]
    exact ⟨rfl, rfl⟩

theorem exec_remoteAxisTick_idle (dt : Nat) (h : s.bit F.MPG_STAT.RUN = false) :
    ∃ t, exec (.remoteAxisTick dt) s = .next t ∧ OnlyWords [] (s.elapse dt) t :=
  exec_idle (exec_remoteAxisTick dt s) (if_neg (by simp [h]))

/-- Settles O38: the ticks of the other axes leave a held axis alone, and a plan at rest on its target rests there at every tick ahead. -/
theorem remoteAxesTakeCommandsAndFollowTheirStation : Obligations.RemoteAxesTakeCommandsAndFollowTheirStation := by
  unfold Obligations.RemoteAxesTakeCommandsAndFollowTheirStation
  intro s dt rq r
  refine ⟨fun v h hsrc hen => exec_raTargetWrite_taken dt v h rfl hsrc hen, fun h => ⟨exec_raCmd_rejected dt h rfl,
    fun hen hrun => ⟨?_, ?_, ?_, ?_⟩⟩, fun hrun => ⟨?_, ?_⟩, exec_remoteAxisTick_idle dt⟩
  · exact exec_raStop_holds dt h rfl hen hrun
  · intro hv hb
    exact ⟨exec_raStop_brakes dt h rfl hen hrun hv hb, exec_raEstop_brakes dt h rfl hen hrun hv hb⟩
  · exact exec_raResync_rests dt h rfl hen hrun
  · exact exec_raClrFlt_clears dt h rfl hen hrun
  · intro k hk hdown
    exact exec_remoteAxisTick_held dt hrun hk hdown
  · intro k sl hl hup hdown hfresh hb hv hacc hps hpos hsl
    exact exec_remoteAxisTick_rests dt hrun hl ⟨hup, hdown, hfresh, hb, hv, hacc, hps, hpos⟩ hsl

end Sys2Proof.Machine
end

section
/-! What the parts of a dispatch solve leave alone (R260 to R273): the words that they write stand in the DOP area, in the neighbours' windows,
in FAB's counters and in a few registers of DOP. -/
namespace Sys2Proof.Machine

variable {W V : Nat → Prop} {s t u : State}

/-! ### Words outside a set -/

/-- Only words of a set changed; of DOP's own state at most the neighbours, the bindings' last values and the time of the plan in force, and of
trajectory application's own state nothing. -/
structure KeysOnly (W : Nat → Prop) (s t : State) : Prop where
  words : ∀ k, ¬ W k → t.word k = s.word k
  trj : t.trj = s.trj
  dop : t.dop = { s.dop with nbs := t.dop.nbs, bind := t.dop.bind, planB0 := t.dop.planB0 }

namespace KeysOnly

theorem refl (W : Nat → Prop) (s : State) : KeysOnly W s s := ⟨fun _ _ => rfl, rfl, rfl⟩

theorem trans (h1 : KeysOnly W s t) (h2 : KeysOnly W t u) : KeysOnly W s u :=
  ⟨fun k hk => (h2.words k hk).trans (h1.words k hk), h2.trj.trans h1.trj, by rw [h2.dop, h1.dop]⟩

theorem mono (h : KeysOnly W s t) (hWV : ∀ k, W k → V k) : KeysOnly V s t := ⟨fun k hk => h.words k (fun hw => hk (hWV k hw)), h.trj, h.dop⟩

theorem get (h : KeysOnly W s t) (f : Fld) (hf : ¬ W f.key) : t.get f = s.get f := by
  unfold State.get
  rw [h.words f.key hf]

theorem bit (h : KeysOnly W s t) (f : Fld) (hf : ¬ W f.key) : t.bit f = s.bit f := State.bit_congr (h.get f hf)

/-- A change of other units' own state. -/
theorem other (h : KeysOnly W s t) (hw : u.words = t.words := by rfl) (ht : u.trj = t.trj := by rfl)
    (hd : u.dop = { t.dop with nbs := u.dop.nbs, bind := u.dop.bind, planB0 := u.dop.planB0 } := by rfl) : KeysOnly W s u :=
  h.trans ⟨fun k _ => by unfold State.word; rw [hw], ht, hd⟩

theorem setWord (h : KeysOnly W s t) (k : Nat) (v : Word) (hk : W k) : KeysOnly W s (t.setWord k v) :=
  h.trans ⟨fun _ hj => t.word_setWord_ne v (fun e => hj (e ▸ hk)), rfl, rfl⟩

theorem set (h : KeysOnly W s t) (f : Fld) (v : Nat) (hf : W f.key) : KeysOnly W s (t.set f v) := h.setWord _ _ hf
theorem setBit (h : KeysOnly W s t) (f : Fld) (b : Bool) (hf : W f.key) : KeysOnly W s (t.setBit f b) := h.set f _ hf
theorem setw (h : KeysOnly W s t) (f : Fld) (v : Word) (hf : W f.key) : KeysOnly W s (t.setw f v) := h.set f _ hf
theorem inc (h : KeysOnly W s t) (f : Fld) (hf : W f.key) : KeysOnly W s (t.inc f) := h.set f _ hf
theorem flag (h : KeysOnly W s t) (f : Fld) (hf : W f.key) : KeysOnly W s (t.flag f) := (h.set f 1 hf).other

theorem clearWords (h : KeysOnly W s t) {p : Nat → Bool} (hp : ∀ k, p k = true → W k) : KeysOnly W s (t.clearWords p) :=
  h.trans ⟨fun k hk => look_filter resetWord (fun k => !p k) (by simpa using fun hpk => hk (hp k hpk)) t.words, rfl, rfl⟩

theorem setDnb (h : KeysOnly W s t) (j : Nat) (x : DopNb) : KeysOnly W s (t.setDnb j x) := h.other

theorem ite {c : Prop} [Decidable c] (h1 : KeysOnly W s t) (h2 : KeysOnly W s u) : KeysOnly W s (if c then t else u) := by
  split
  · exact h1
  · exact h2

/-- A step repeated over a list. -/
theorem foldl_mem {α : Type} {f : State → α → State} (h : KeysOnly W s t) {l : List α} (hf : ∀ u, ∀ a ∈ l, KeysOnly W u (f u a)) :
    KeysOnly W s (l.foldl f t) := by
  induction l generalizing t with
  | nil => exact h
  | cons a l ih => exact ih (h.trans (hf t a (List.mem_cons_self ..))) (fun u b hb => hf u b (List.mem_cons_of_mem a hb))

theorem foldl {α : Type} {f : State → α → State} (h : KeysOnly W s t) (hf : ∀ u a, KeysOnly W u (f u a)) (l : List α) :
    KeysOnly W s (l.foldl f t) := h.foldl_mem fun u a _ => hf u a

end KeysOnly

/-! ### Which words -/

/-- A word of x_0, of the DOP area, or beyond them. -/
abbrev dopAreaKey (k : Nat) : Prop := tabKey 9 0x30000000 ≤ k

/-- The counters of FAB that a frame which is not sent advances. -/
def fabSendKeys : List Nat := [R.FAB_NOROUTE_CNT, R.FAB_NODISJ_CNT, R.PORTn_DROP_CNT 0, R.PORTn_DROP_CNT 1, R.PORTn_DROP_CNT 2, R.PORTn_DROP_CNT 3]

/-- What a message's sending and the DOP area hold. -/
abbrev sendKey (k : Nat) : Prop := dopAreaKey k ∨ k ∈ fabSendKeys

/-- What a solve writes beside its state, its result and its plan: the area, the neighbours' windows, error bits and counts. -/
abbrev solveKey (k : Nat) : Prop := sendKey k ∨ k % 0x1000000 / 0x100 = 0x901 ∨ k ∈ [R.DOP_ERR, R.DOP_BIND_CNT]

theorem dopAreaKey_dopFld (o : Nat) : dopAreaKey (dopFld o).key := by simp only [dopAreaKey, dopFld, tabKey]; omega
theorem dopAreaKey_x0Fld (i : Nat) : dopAreaKey (x0Fld i).key := by simp only [dopAreaKey, x0Fld, tabKey]; omega
theorem dopAreaKey_nbFld (j arr k n : Nat) : dopAreaKey (nbFld j arr k n).key := dopAreaKey_dopFld _
theorem dopAreaKey_trjFld (b c n : Nat) : dopAreaKey (trjFld b c n).key := by simp only [dopAreaKey, trjFld, tabKey]; omega

theorem solveKey_area {k : Nat} (h : dopAreaKey k) : solveKey k := .inl (.inl h)
theorem solveKey_err : solveKey R.DOP_ERR := by decide
theorem solveKey_window (j : Nat) {o : Nat} (ho : o < 0x100) : solveKey (0x090100 + o + 0x1000000 * j) := .inr (.inl (by omega))
theorem solveKey_nbStat (j : Nat) : solveKey (R.NB_STAT j) := solveKey_window j (o := 0) (by decide)

/-! ### The DOP area and the neighbours' windows -/

section Area
variable (h : KeysOnly solveKey s t)
include h

theorem KeysOnly.setDop (o : Nat) (v : Word) : KeysOnly solveKey s (t.setw (dopFld o) v) := h.setw _ v (solveKey_area (dopAreaKey_dopFld o))
theorem KeysOnly.setX0 (i : Nat) (v : Word) : KeysOnly solveKey s (t.setw (x0Fld i) v) := h.setw _ v (solveKey_area (dopAreaKey_x0Fld i))
theorem KeysOnly.setNb (j arr k n : Nat) (v : Word) : KeysOnly solveKey s (t.setw (nbFld j arr k n) v) :=
  h.setw _ v (solveKey_area (dopAreaKey_nbFld j arr k n))

theorem KeysOnly.setStat (j l w v : Nat) : KeysOnly solveKey s (t.set ⟨R.NB_STAT j, l, w⟩ v) := h.set _ v (solveKey_nbStat j)
theorem KeysOnly.setStatBit (j l w : Nat) (b : Bool) : KeysOnly solveKey s (t.setBit ⟨R.NB_STAT j, l, w⟩ b) := h.setStat j l w _

/-- A register of a neighbour's window. -/
theorem KeysOnly.setWindow (j : Nat) {o : Nat} (ho : o < 0x100) (v : Nat) :
    KeysOnly solveKey s (t.set ⟨0x090100 + o + 0x1000000 * j, 0, 32⟩ v) := h.set _ v (solveKey_window j ho)

theorem KeysOnly.flagErr (b : Nat) : KeysOnly solveKey s (t.flag ⟨R.DOP_ERR, b, 1⟩) := h.flag _ solveKey_err

end Area

/-- A range of the area is copied within it. -/
theorem State.dopCopy_keys (s : State) (src dst len : Nat) : KeysOnly solveKey s (s.dopCopy src dst len) := by
  have harea {k : Nat} (hk : tabKey 9 (0x40000000 + dst) ≤ k) : solveKey k := solveKey_area (by simp only [dopAreaKey, tabKey] at *; omega)
  refine ((KeysOnly.refl _ s).clearWords fun k hk => ?_).foldl (fun u e => ?_) _
  · simp only [Bool.and_eq_true, decide_eq_true_eq] at hk
    exact harea hk.1
  · exact (KeysOnly.refl _ u).setWord _ _ (harea (Nat.le_add_left ..))

/-! ### Bindings (R260, R261, R263) -/

theorem State.bindWrite_keys (s : State) (b n : Nat) (v : Word) : KeysOnly solveKey s (s.bindWrite b n v) := by
  have hs := KeysOnly.refl solveKey s
  unfold State.bindWrite
  dsimp only
  split
  · exact .ite ((hs.setDop _ v).setDop _ v) (hs.setDop _ v)
  · exact .ite ((hs.setDop _ v).setDop _ v) (hs.setDop _ v)
  · exact hs.setX0 _ v

theorem State.bindOne_keys (s : State) (b : Nat) : KeysOnly solveKey s (s.bindOne b) := by
  have hs := KeysOnly.refl solveKey s
  unfold State.bindOne
  dsimp only
  split
  · refine hs.foldl (fun u n => ?_) _
    exact (KeysOnly.ite ((KeysOnly.refl _ u).flagErr 5) (.refl _ u)).trans (State.bindWrite_keys ..)
  · split
    · exact KeysOnly.foldl hs.other (fun u n => u.bindWrite_keys b n _) _
    · exact ((hs.flagErr 4).inc F.DOP_BIND_CNT.COUNT (by decide)).foldl (fun u n => u.bindWrite_keys b n _) _

/-! ### The neighbours of a solve (R272, R273) -/

theorem State.openNb_keys (s : State) (j : Nat) : KeysOnly solveKey s (s.openNb j) :=
  (KeysOnly.refl _ s).foldl (fun u k => (KeysOnly.refl _ u).foldl (fun u n => ((KeysOnly.refl _ u).setNb j _ k n _).setNb j _ k n _) _) _

theorem State.nbLost_keys (s : State) (j : Nat) : KeysOnly solveKey s (s.nbLost j) := ((KeysOnly.refl _ s).setStat j 0 2 2).flagErr 8

theorem State.startNb_keys (s : State) (j : Nat) : KeysOnly solveKey s (s.startNb j) := by
  have hopen := (s.openNb_keys j).setDnb j { dopNb0 with agreed := (s.dnb j).agreed }
  have hshown := (((((hopen.setStat j 0 2 1).setStat j 2 1 0).setStat j 4 1 0).setStat j 8 4 0).setStat j 16 7 0).setStatBit j 3 1
    (decide (s.fabAddr < s.get (T.DOP_NB.NODE j)))
  exact .ite (hshown.trans (State.nbLost_keys _ j)) hshown

theorem State.decayNb_keys (s : State) (mu : List (Nat × List Word)) (j : Nat) : KeysOnly solveKey s (s.decayNb mu j) := by
  refine KeysOnly.setWindow (KeysOnly.setWindow (KeysOnly.setStat (KeysOnly.setDnb ?_ j _) j 4 1 1) j (o := 8) (by decide) _) j (o := 12)
    (by decide) _
  exact (KeysOnly.refl _ s).foldl (fun u k => (KeysOnly.refl _ u).foldl (fun u n => ((KeysOnly.refl _ u).setNb j _ k n _).setNb j _ k n _) _) _

theorem State.agreeNb_keys (s : State) (j : Nat) : KeysOnly solveKey s (s.agreeNb j) := by
  refine KeysOnly.setWindow (KeysOnly.setWindow (KeysOnly.setWindow (KeysOnly.setStatBit (KeysOnly.setStat (KeysOnly.setDnb ?_ j _) j 5 1 1) j 2 1 _)
    j (o := 16) (by decide) _) j (o := 8) (by decide) _) j (o := 12) (by decide) _
  exact (KeysOnly.refl _ s).foldl (fun u k => (KeysOnly.refl _ u).foldl (fun u n => ((KeysOnly.refl _ u).setNb j _ k n _).setNb j _ k n _) _) _

end Sys2Proof.Machine
end

section
/-! Messages that DOP sends over the fabric (R269, R278, R317, R319), the actions that trajectory application queues, and a plan that is applied
(R275, R276). -/
namespace Sys2Proof.Machine

variable {s t u : State}

/-! ### Sending (R317, R319, R320, R323) -/

theorem sendKey_drop {p : Nat} (hp : p < 4) : sendKey (R.PORTn_DROP_CNT p) := by
  interval_cases p <;> decide

theorem State.enqueue_keys (s : State) {p : Nat} (hp : p < 4) (f : FabFrame) : KeysOnly sendKey s (s.enqueue p f) := by
  unfold State.enqueue
  exact .ite ((KeysOnly.refl _ s).inc (F.PORTn_DROP_CNT.COUNT p) (sendKey_drop hp)) (KeysOnly.refl _ s).other

theorem State.sendVia_keys (s : State) {o : Option Nat} (ho : ∀ p ∈ o, p < 4) (f : FabFrame) : KeysOnly sendKey s (s.sendVia o f) := by
  cases o with
  | some p => exact s.enqueue_keys (ho p rfl) f
  | none => exact (KeysOnly.refl _ s).inc F.FAB_NOROUTE_CNT.COUNT (by decide)

theorem State.routePort_lt {s : State} {dst p : Nat} (h : p ∈ s.routePort dst) : p < 4 := by
  unfold State.routePort at h
  dsimp only at h
  split at h
  · exact Option.some.inj h ▸ s.get_lt (F.FAB_RT_ENTRY.PORT dst)
  · cases h

/-- A message changes FAB's own state and the counts of frames that were not sent. -/
theorem State.sendRouted_keys (s : State) (f : FabFrame) : KeysOnly sendKey s (s.sendRouted f) := by
  have hs := KeysOnly.refl sendKey s
  have hvia (f : FabFrame) : KeysOnly sendKey s (s.sendVia (s.routePort f.dst) f) := s.sendVia_keys (fun p hp => State.routePort_lt hp) f
  have hrep := hvia { f with rep := true }
  unfold State.sendRouted
  refine .ite (hs.foldl_mem fun u p hp => ?_) (.ite (hvia f) (.ite hrep (.ite ?_ ?_)))
  · exact u.enqueue_keys (List.mem_range.mp (List.mem_filter.mp hp).1) f
  · refine hrep.trans (State.sendVia_keys _ (fun p hp => ?_) _)
    split at hp
    · exact Option.some.inj hp ▸ Nat.mod_lt _ (by decide)
    · cases hp
  · exact hrep.inc F.FAB_NODISJ_CNT.COUNT (by decide)

theorem State.fabOriginate_keys (s : State) (kind dst cls svc : Nat) (ackreq : Bool) (payload : List Byte) :
    KeysOnly sendKey s (s.fabOriginate kind dst cls svc ackreq payload) := by
  have hnumbered : KeysOnly sendKey s (s.nextSeq dst cls).1 := (KeysOnly.refl _ s).other
  have hsent (f : FabFrame) := hnumbered.trans (State.sendRouted_keys _ f)
  unfold State.fabOriginate
  exact .ite (.refl _ s) (.ite (hsent _).other (hsent _))

/-- What each step over a list keeps, the whole keeps. -/
theorem foldl_keeps {α β γ : Type} (g : β → γ) {f : β → α → β} (hf : ∀ b a, g (f b a) = g b) (l : List α) (b : β) :
    g (l.foldl f b) = g b := by
  induction l generalizing b with
  | nil => rfl
  | cons a l ih => exact (ih (f b a)).trans (hf b a)

theorem State.enqueue_dop (s : State) (p : Nat) (f : FabFrame) : (s.enqueue p f).dop = s.dop := by
  unfold State.enqueue
  dsimp only
  split <;> rfl

theorem State.sendVia_dop (s : State) (o : Option Nat) (f : FabFrame) : (s.sendVia o f).dop = s.dop := by
  cases o with
  | some p => exact s.enqueue_dop p f
  | none => rfl

theorem State.sendRouted_dop (s : State) (f : FabFrame) : (s.sendRouted f).dop = s.dop := by
  unfold State.sendRouted
  dsimp only
  split
  · exact foldl_keeps State.dop (fun u p => u.enqueue_dop p f) _ s
  · split
    · exact s.sendVia_dop _ f
    · split
      · exact s.sendVia_dop ..
      · split
        · exact (State.sendVia_dop ..).trans (s.sendVia_dop ..)
        · exact (State.set_dop ..).trans (s.sendVia_dop ..)

/-- DOP's own state takes no part in a message's sending. -/
theorem State.fabOriginate_dop (s : State) (kind dst cls svc : Nat) (ackreq : Bool) (payload : List Byte) :
    (s.fabOriginate kind dst cls svc ackreq payload).dop = s.dop := by
  unfold State.fabOriginate
  dsimp only
  split
  · rfl
  · split
    · exact (State.sendRouted_dop _ _).trans rfl
    · exact (State.sendRouted_dop _ _).trans rfl

/-! ### The action queue (R275, R276, R347, R350) -/

/-- What queueing a channel's action writes: TIM_ACT_LVL, the counts and errors of past and refused actions, the channels' windows. -/
abbrev queueKey (k : Nat) : Prop :=
  k ∈ [R.TIM_ACT_LVL, R.TIM_ACT_PAST_CNT, R.TRJ_PAST_CNT, R.TRJ_ERR] ∨ k % 0x1000000 ∈ [R.TRJ_CH_STAT 0, R.TRJ_CH_LAST 0, R.TRJ_CH_NEXT 0]

theorem queueKey_chStat (c : Nat) : queueKey (R.TRJ_CH_STAT c) := by
  have : R.TRJ_CH_STAT c % 0x1000000 = R.TRJ_CH_STAT 0 := by simp only [R.TRJ_CH_STAT]; omega
  exact .inr (by rw [this]; decide)

theorem queueKey_chNext (c : Nat) : queueKey (R.TRJ_CH_NEXT c) := by
  have : R.TRJ_CH_NEXT c % 0x1000000 = R.TRJ_CH_NEXT 0 := by simp only [R.TRJ_CH_NEXT]; omega
  exact .inr (by rw [this]; decide)

theorem State.setActions_keys (s : State) (l : List Action) : KeysOnly queueKey s (s.setActions l) :=
  (KeysOnly.set (KeysOnly.refl queueKey s).other F.TIM_ACT_LVL.HOST _ (by decide)).set F.TIM_ACT_LVL.TRJ _ (by decide)

theorem State.showCh_keys (s : State) (c : Nat) : KeysOnly queueKey s (s.showCh c) := by
  have hs := KeysOnly.refl queueKey s
  unfold State.showCh
  split
  · exact (hs.set (F.TRJ_CH_STAT.PEND c) _ (queueKey_chStat c)).setw (F.TRJ_CH_NEXT.VALUE c) _ (queueKey_chNext c)
  · exact (hs.set (F.TRJ_CH_STAT.PEND c) _ (queueKey_chStat c)).setw (F.TRJ_CH_NEXT.VALUE c) _ (queueKey_chNext c)

theorem State.actionPast_keys (s : State) (a : Action) : KeysOnly queueKey s (s.actionPast a) := by
  have hcounted := (KeysOnly.refl queueKey s).inc F.TIM_ACT_PAST_CNT.COUNT (by decide)
  unfold State.actionPast
  dsimp only
  split
  · next c _ _ => exact ((hcounted.inc F.TRJ_PAST_CNT.COUNT (by decide)).flag F.TRJ_ERR.PAST (by decide)).set _ _ (queueKey_chStat c)
  · exact hcounted

/-- TIM takes an action, or refuses it as past or for want of a place. -/
theorem State.takeAction_cases (s : State) (a : Action) :
    s.takeAction a = (s.actionPast a, 1) ∨ s.takeAction a = (s, 2) ∨ ∃ l, s.takeAction a = (s.setActions l, 0) := by
  unfold State.takeAction
  extract_lets late
  split
  · exact .inl rfl
  · split
    · exact .inr (.inl rfl)
    · exact .inr (.inr ⟨_, rfl⟩)

theorem State.takeAction_keys (s : State) (a : Action) : KeysOnly queueKey s (s.takeAction a).1 := by
  rcases s.takeAction_cases a with h | h | ⟨l, h⟩ <;> rw [h]
  · exact s.actionPast_keys a
  · exact .refl _ s
  · exact s.setActions_keys l

theorem State.queueStep_keys (s : State) (c n at_ : Nat) : KeysOnly queueKey s (s.queueStep c n at_) := by
  have htaken (a : Action) := s.takeAction_keys a
  unfold State.queueStep
  refine KeysOnly.trans ?_ (State.showCh_keys _ c)
  exact .ite ((htaken _).flag F.TRJ_ERR.QUEUE (by decide)) (.ite ((htaken _).set _ _ (queueKey_chStat c)) (htaken _))

/-! ### A plan is applied (R275) -/

/-- The values of a plan stand in buffer b of the trajectory store. -/
def State.storePlan (s : State) (p : TrjPlan) (b : Nat) : State :=
  s.channels.foldl (fun u c => (look (fun _ => []) p.vals (u.get (T.TRJ_CH.VAR c))).zipIdx.foldl (fun v e => v.setw (trjFld b c e.2) e.1) u) s

/-- The other buffer becomes active with the channels that are enabled. -/
def State.swapPlan (s : State) (p : TrjPlan) : State :=
  let s1 := s.storePlan p (1 - s.trj.buf)
  { s1 with trj := { s1.trj with buf := 1 - s.trj.buf, chans := s.channels, lastPlan := p.seq, lastUp := s.clock.up } }

/-- The plan's times, its grid and that there is one show. -/
def State.showGrid (s : State) (p : TrjPlan) : State :=
  let s1 := (((s.set F.TRJ_A_SEC.SEC (p.a / 10 ^ 9)).set F.TRJ_A_NS.NS (p.a % 10 ^ 9)).set F.TRJ_B0_SEC.SEC (p.b0 / 10 ^ 9)).set F.TRJ_STEP.STEP 0
  ((((s1.set F.TRJ_STEP.N p.n).set F.TRJ_STEP.STEP_MIN p.stepMin).set F.TRJ_STAT.PLAN 1).set F.TRJ_STAT.ENDED 0).set F.TRJ_STAT.LEADER_LOST 0

/-- The plan in force shows. -/
def State.showPlan (s : State) (p : TrjPlan) : State := (s.set F.TRJ_SEQ.PLAN p.seq).showGrid p

/-- The registers that show a plan's times and grid. -/
def gridKeys : List Nat := [R.TRJ_A_SEC, R.TRJ_A_NS, R.TRJ_B0_SEC, R.TRJ_STEP, R.TRJ_STAT]

theorem State.storePlan_keys (s : State) (p : TrjPlan) (b : Nat) : KeysOnly dopAreaKey s (s.storePlan p b) := by
  unfold State.storePlan
  refine (KeysOnly.refl dopAreaKey s).foldl (fun u c => (KeysOnly.refl dopAreaKey u).foldl (fun v e => ?_) _) _
  exact (KeysOnly.refl dopAreaKey v).setw _ _ (dopAreaKey_trjFld b c e.2)

theorem State.showGrid_keys (s : State) (p : TrjPlan) : KeysOnly (· ∈ gridKeys) s (s.showGrid p) :=
  (((((((((KeysOnly.refl _ s).set F.TRJ_A_SEC.SEC _ (by decide)).set F.TRJ_A_NS.NS _ (by decide)).set F.TRJ_B0_SEC.SEC _ (by decide)).set
    F.TRJ_STEP.STEP _ (by decide)).set F.TRJ_STEP.N _ (by decide)).set F.TRJ_STEP.STEP_MIN _ (by decide)).set F.TRJ_STAT.PLAN _ (by decide)).set
    F.TRJ_STAT.ENDED _ (by decide)).set F.TRJ_STAT.LEADER_LOST _ (by decide)

/-- The registers that show the plan in force. -/
def planKeys : List Nat := R.TRJ_SEQ :: gridKeys

theorem State.showPlan_keys (s : State) (p : TrjPlan) : KeysOnly (· ∈ planKeys) s (s.showPlan p) :=
  ((KeysOnly.refl _ s).set F.TRJ_SEQ.PLAN _ (by decide)).trans ((State.showGrid_keys _ p).mono fun _ => List.mem_cons_of_mem _)

theorem State.showPlan_seq (s : State) (p : TrjPlan) : (s.showPlan p).get F.TRJ_SEQ.PLAN = p.seq % 2 ^ 32 :=
  ((State.showGrid_keys _ p).get F.TRJ_SEQ.PLAN (by decide)).trans (s.get_set_same F.TRJ_SEQ.PLAN p.seq (by decide))

theorem State.showPlan_plan (s : State) (p : TrjPlan) : (s.showPlan p).bit F.TRJ_STAT.PLAN = true := by
  unfold State.showPlan State.showGrid State.bit
  rw [State.get_set_other _ _ _ _ (by decide), State.get_set_other _ _ _ _ (by decide)]
  exact State.bit_set_one _ _ (by decide)

/-- Applying a plan queues its first steps once its values are stored and it shows. -/
theorem State.applyPlan_queues (s : State) (p : TrjPlan) :
    KeysOnly queueKey (((s.swapPlan p).showPlan p).inc F.TRJ_RX_CNT.COUNT) (s.applyPlan p) := by
  unfold State.applyPlan
  extract_lets b cs s1 _ s2 s3 s4 s5
  have h5 : s5 = ((s.swapPlan p).showPlan p).inc F.TRJ_RX_CNT.COUNT := rfl
  rw [← h5]
  refine (KeysOnly.refl _ s5).foldl (fun u c => ?_) _
  exact ((u.setActions_keys _).trans (State.queueStep_keys ..)).trans (State.queueStep_keys ..)

/-- What a plan that is applied writes. -/
abbrev planKey (k : Nat) : Prop := dopAreaKey k ∨ queueKey k ∨ k ∈ planKeys ∨ k = R.TRJ_RX_CNT

/-- A plan that was applied: its buffer active, itself the last and shown, and counted. -/
structure PlanApplied (p : TrjPlan) (s t : State) : Prop where
  words : ∀ k, ¬ planKey k → t.word k = s.word k
  trj : t.trj = { s.trj with buf := 1 - s.trj.buf, chans := s.channels, lastPlan := p.seq, lastUp := s.clock.up }
  seq : t.get F.TRJ_SEQ.PLAN = p.seq % 2 ^ 32
  plan : t.bit F.TRJ_STAT.PLAN = true
  count : t.get F.TRJ_RX_CNT.COUNT = min (s.get F.TRJ_RX_CNT.COUNT + 1) 0xFFFFFFFF

theorem State.swapPlan_word (s : State) (p : TrjPlan) (k : Nat) : (s.swapPlan p).word k = (s.storePlan p (1 - s.trj.buf)).word k := rfl

/-- Up to the count, a plan writes the trajectory store and what shows it. -/
theorem State.word_shownPlan (s : State) (p : TrjPlan) {k : Nat} (harea : ¬ dopAreaKey k) (hplan : k ∉ planKeys) :
    ((s.swapPlan p).showPlan p).word k = s.word k := by
  rw [(State.showPlan_keys _ p).words k hplan, State.swapPlan_word, (s.storePlan_keys p _).words k harea]

theorem State.trj_shownPlan (s : State) (p : TrjPlan) : ((s.swapPlan p).showPlan p).trj =
    { s.trj with buf := 1 - s.trj.buf, chans := s.channels, lastPlan := p.seq, lastUp := s.clock.up } := by
  rw [(State.showPlan_keys _ p).trj, State.swapPlan, (s.storePlan_keys p _).trj]

theorem State.applyPlan_applied (s : State) (p : TrjPlan) : PlanApplied p s (s.applyPlan p) := by
  have hq := s.applyPlan_queues p
  refine ⟨fun k hk => ?_, ?_, ?_, ?_, ?_⟩
  · obtain ⟨harea, hrest⟩ := not_or.mp hk
    obtain ⟨hqueue, hrest⟩ := not_or.mp hrest
    obtain ⟨hplan, hrx⟩ := not_or.mp hrest
    rw [hq.words k hqueue, State.inc, State.word_set_other _ _ _ k hrx, s.word_shownPlan p harea hplan]
  · rw [hq.trj, State.inc_trj, s.trj_shownPlan p]
  · rw [hq.get F.TRJ_SEQ.PLAN (by decide), State.inc, State.get_set_other _ _ _ _ (by decide), State.showPlan_seq]
  · rw [hq.bit F.TRJ_STAT.PLAN (by decide), State.inc, State.bit_congr (State.get_set_other _ _ _ _ (by decide)), State.showPlan_plan]
  · rw [hq.get F.TRJ_RX_CNT.COUNT (by decide), State.get_inc_same _ _ (by decide), State.get, s.word_shownPlan p (by decide) (by decide)]
    rfl

end Sys2Proof.Machine
end

section
/-! A dispatch solve from its start to its result (R252 to R256, R263, R265, R275). -/
namespace Sys2Proof.Machine

variable {s t u : State} {r : DopSol}

/-! ### The wake and the start (R252, R253, R256) -/

theorem dopWake_idle (hrun : s.bit F.DOP_STAT.RUN = true) (hshed : s.bit F.DOP_STAT.SHED = false) (hhold : s.bit F.DOP_CTRL.HOLD = false) :
    dopWake s = s.wakeDomain 14 := by
  simp [dopWake, hrun, hshed, hhold]

theorem dopWake_hold (hhold : s.bit F.DOP_CTRL.HOLD = true) : dopWake s = s := by
  simp [dopWake, hhold]

theorem dopSolveStart_hold (hhold : s.bit F.DOP_CTRL.HOLD = true) : dopSolveStart s = s := by
  simp [dopSolveStart, hhold]

theorem dopSolveStart_shed (hrun : s.bit F.DOP_STAT.RUN = true) (hhold : s.bit F.DOP_CTRL.HOLD = false)
    (hidle : s.bit F.DOP_STAT.SOLVING = false) (hshed : s.bit F.DOP_STAT.SHED = true) :
    dopSolveStart s = (s.inc F.DOP_SHED_CNT.COUNT).set F.DOP_RESULT.CLASS 6 := by
  simp [dopSolveStart, hrun, hhold, hidle, hshed]

/-- The solve that starts now: its S, A_k and B0, no round yet. -/
def State.newSolve (s : State) : DopSt :=
  let a := (s.dopS + s.get F.DOP_DEADLINE.DEADLINE) * 10 ^ 9
  { s.dop with
    s := s.dopS, startUp := s.clock.up - (s.now - s.dopS * 10 ^ 9) / 4, a := a, b0 := a / max s.dopStepNs 1 * max s.dopStepNs 1,
    isLocal := s.dop.firstOne, firstOne := false, firstS := if s.dop.firstOne then s.dopS else s.dop.firstS, round := 0, sent := false,
    sentConv := false }

/-- S, SOLVING and the first phase show. -/
def State.openSolve (s : State) : State :=
  ((({ s with dop := s.newSolve }).set F.DOP_S_SEC.SEC (s.dopS % 2 ^ 32)).set F.DOP_STAT.SOLVING 1).set F.DOP_STAT.PHASE (1 + s.free % 2)

/-- After a solve has opened, its snapshot, its build and its neighbours write only what a solve may. -/
theorem dopSolveStart_keys (hrun : s.bit F.DOP_STAT.RUN = true) (hhold : s.bit F.DOP_CTRL.HOLD = false)
    (hidle : s.bit F.DOP_STAT.SOLVING = false) (hshed : s.bit F.DOP_STAT.SHED = false) (hon : s.domOn 14 = true) :
    KeysOnly solveKey s.openSolve (dopSolveStart s) := by
  unfold dopSolveStart
  rw [if_neg (by simp [hrun, hhold, hidle]), if_neg (by simp [hshed]), if_neg (by simp [hon])]
  extract_lets S a step _ s1 s2 s3 old s4 s5
  have h2 : s2 = s.openSolve := rfl
  have h3 : KeysOnly solveKey s2 s3 := (KeysOnly.refl _ s2).other.trans (State.dopCopy_keys ..)
  have h4 : KeysOnly solveKey s2 s4 := .ite (h3.flagErr 6) h3
  rw [← h2]
  exact (h4.foldl State.bindOne_keys _).foldl State.startNb_keys _

theorem State.openSolve_solving (s : State) : s.openSolve.bit F.DOP_STAT.SOLVING = true := by
  unfold State.openSolve
  rw [State.bit_congr (State.get_set_other _ _ _ _ (by decide))]
  exact State.bit_set_one _ _ (by decide)

theorem State.openSolve_phase (s : State) : s.openSolve.get F.DOP_STAT.PHASE = 1 ∨ s.openSolve.get F.DOP_STAT.PHASE = 2 := by
  unfold State.openSolve
  rw [State.get_set_fits _ _ (by decide) (by omega)]
  omega

theorem State.openSolve_sec (s : State) : s.openSolve.get F.DOP_S_SEC.SEC = s.dopS % 2 ^ 32 := by
  unfold State.openSolve
  rw [State.get_set_other _ _ _ _ (by decide), State.get_set_other _ _ _ _ (by decide)]
  exact State.get_set_fits _ _ (by decide) (Nat.mod_lt _ (by decide))

/-! ### The end (R254, R255) -/

/-- The fields that the end of a dispatch solve changes. -/
def dopEndFlds : List Fld := [F.DOP_STAT.SOLVING, F.DOP_STAT.PHASE, F.DOP_LAST_MS.MS, F.DOP_MAX_MS.MS, domFld 14] ++ awakeFlds

theorem State.dopEnd_only (s : State) : SolveOnly dopEndFlds s s.dopEnd :=
  (((((SolveOnly.refl dopEndFlds s).set F.DOP_STAT.SOLVING 0 (by decide)).set F.DOP_STAT.PHASE 0 (by decide)).set F.DOP_LAST_MS.MS _
    (by decide)).set F.DOP_MAX_MS.MS _ (by decide)).gateDomain 14 (by decide)

theorem State.gateDomain_trj (s : State) (d : Nat) : (s.gateDomain d).trj = s.trj := by
  simp only [State.gateDomain, State.showAwake, State.setBit_trj, State.set_trj]

theorem State.dopEnd_trj (s : State) : s.dopEnd.trj = s.trj := by
  simp only [State.dopEnd, State.gateDomain_trj, State.set_trj]

theorem State.dopEnd_off (s : State) : s.dopEnd.domOn 14 = false := State.gateDomain_off _ (by decide)

theorem State.dopEnd_solving (s : State) : s.dopEnd.bit F.DOP_STAT.SOLVING = false := by
  have hgate (x : State) : (x.gateDomain 14).bit F.DOP_STAT.SOLVING = x.bit F.DOP_STAT.SOLVING :=
    ((SolveOnly.refl (domFld 14 :: awakeFlds) x).gateDomain 14 (List.Subset.refl _)).bit _ (by decide) (by decide)
  unfold State.dopEnd
  rw [hgate, State.bit_congr (State.get_set_other _ _ _ _ (by decide)), State.bit_congr (State.get_set_other _ _ _ _ (by decide)),
    State.bit_congr (State.get_set_other _ _ _ _ (by decide))]
  exact State.bit_set_zero _ _ (by decide)

/-- A late solve is flagged, counted and class 5. -/
def State.markLate (s : State) : State := ((s.flag F.DOP_ERR.LATE).inc F.DOP_LATE_CNT.COUNT).set F.DOP_RESULT.CLASS 5

theorem State.markLate_shows (s : State) : s.markLate.get F.DOP_RESULT.CLASS = 5 ∧ s.markLate.bit F.DOP_ERR.LATE = true ∧
    s.markLate.get F.DOP_LATE_CNT.COUNT = min (s.get F.DOP_LATE_CNT.COUNT + 1) 0xFFFFFFFF ∧
    s.markLate.get F.DOP_SEQ.SEQ = s.get F.DOP_SEQ.SEQ := by
  unfold State.markLate
  refine ⟨State.get_set_fits _ _ (by decide) (by decide), ?_, ?_, ?_⟩
  · rw [State.bit_congr (State.get_set_other _ _ _ _ (by decide)), State.inc, State.bit_congr (State.get_set_other _ _ _ _ (by decide))]
    exact State.bit_flag_same _ _ rfl (by decide)
  · rw [State.get_set_other _ _ _ _ (by decide), State.get_inc_same _ _ (by decide), State.get_flag_other _ _ _ (by decide)]
    rfl
  · rw [State.get_set_other _ _ _ _ (by decide), State.inc, State.get_set_other _ _ _ _ (by decide), State.get_flag_other _ _ _ (by decide)]

theorem dopLate_solving (hsolve : s.bit F.DOP_STAT.SOLVING = true) : dopLate s = (s.markLate.log 9 0 0 4).dopEnd := by
  simp [dopLate, hsolve, State.markLate]

/-! ### A plan is accepted (R265, R275, R278) -/

/-- What the fragments to the followers change. -/
abbrev sendPlanKey (k : Nat) : Prop := sendKey k ∨ k = R.TRJ_TX_CNT

theorem State.sendPlan_keys (s : State) (p : TrjPlan) : KeysOnly sendPlanKey s (s.sendPlan p) := by
  have hsent (u : State) (e : Nat × Nat) (b : List Byte) : KeysOnly sendPlanKey u (u.fabOriginate 2 e.2 5 2 true b) :=
    (u.fabOriginate_keys ..).mono fun _ => .inl
  unfold State.sendPlan
  exact ((KeysOnly.refl _ s).foldl (fun u e => hsent u e _) _).foldl (fun u _ => (KeysOnly.refl _ u).inc F.TRJ_TX_CNT.COUNT (by decide)) _

/-- DOP_SEQ after a plan. -/
def State.nextPlan (s : State) : Nat := min (s.get F.DOP_SEQ.SEQ + 1) (2 ^ 32 - 1)

/-- The sequence number, the objective and that there is a plan show. -/
def State.showAccepted (s : State) (r : DopSol) : State :=
  ((s.set F.DOP_SEQ.SEQ s.nextPlan).setw F.DOP_OBJ.VALUE r.obj).set F.DOP_STAT.PLAN 1

/-- An accepted plan is stored, agreed with the neighbours, applied and sent. -/
theorem State.acceptPlan_eq (s : State) (r : DopSol) : ∃ u p, KeysOnly solveKey (s.showAccepted r) u ∧ p.seq = s.nextPlan ∧
    s.acceptPlan r = (u.applyPlan p).sendPlan p := by
  unfold State.acceptPlan
  extract_lets q s1 s2 s3 _ s4 vars p
  have h1 : s1 = s.showAccepted r := rfl
  have h2 : KeysOnly solveKey s1 s2 :=
    (KeysOnly.refl _ s1).foldl (fun u e => (KeysOnly.refl _ u).foldl (fun v f => (KeysOnly.refl _ v).setDop _ _) _) _
  have h3 : KeysOnly solveKey s1 s3 := h2.foldl (fun u e => (KeysOnly.refl _ u).foldl (fun v f => (KeysOnly.refl _ v).setDop _ _) _) _
  exact ⟨s4, p, h1 ▸ KeysOnly.foldl h3.other State.agreeNb_keys _, rfl, rfl⟩

/-- What an accepted plan writes beside the sequence number, the objective and that there is a plan. -/
abbrev acceptKey (k : Nat) : Prop := solveKey k ∨ planKey k ∨ sendPlanKey k

theorem State.acceptPlan_get (s : State) (r : DopSol) {f : Fld} (hf : ¬ acceptKey f.key) : (s.acceptPlan r).get f = (s.showAccepted r).get f := by
  obtain ⟨hsolve, hrest⟩ := not_or.mp hf
  obtain ⟨hplan, hsend⟩ := not_or.mp hrest
  obtain ⟨u, p, hu, -, he⟩ := s.acceptPlan_eq r
  unfold State.get
  rw [he, (State.sendPlan_keys _ p).words _ hsend, (u.applyPlan_applied p).words _ hplan, hu.words _ hsolve]

theorem State.acceptPlan_trj (s : State) (r : DopSol) : (s.acceptPlan r).trj.buf = 1 - s.trj.buf ∧ (s.acceptPlan r).trj.lastPlan = s.nextPlan := by
  obtain ⟨u, p, hu, hp, he⟩ := s.acceptPlan_eq r
  rw [he, (State.sendPlan_keys _ p).trj, (u.applyPlan_applied p).trj, hu.trj, ← hp]
  exact ⟨rfl, rfl⟩

theorem State.acceptPlan_seq (s : State) (r : DopSol) : (s.acceptPlan r).get F.DOP_SEQ.SEQ = s.nextPlan := by
  rw [s.acceptPlan_get r (by decide), State.showAccepted, State.get_set_other _ _ _ _ (by decide), State.get_setw_other _ _ (by decide)]
  exact State.get_set_fits _ _ (by decide) (by unfold State.nextPlan; omega)

theorem State.acceptPlan_plan (s : State) (r : DopSol) : (s.acceptPlan r).bit F.DOP_STAT.PLAN = true := by
  rw [State.bit_congr (s.acceptPlan_get r (by decide))]
  exact State.bit_set_one _ _ (by decide)

theorem State.acceptPlan_class (s : State) (r : DopSol) : (s.acceptPlan r).get F.DOP_RESULT.CLASS = s.get F.DOP_RESULT.CLASS := by
  rw [s.acceptPlan_get r (by decide), State.showAccepted, State.get_set_other _ _ _ _ (by decide), State.get_setw_other _ _ (by decide),
    State.get_set_other _ _ _ _ (by decide)]

/-! ### Results (R265, R273) -/

theorem solClass_conv (h : r.conv = true) : solClass r = 1 := by simp [solClass, h]
theorem solClass_none (hc : r.conv = false) (hi : r.infeas = false) (ha : r.acc = false) : solClass r = 3 := by simp [solClass, hc, hi, ha]

/-- The class, the iterations and the rounds of a result show. -/
def State.showResult (s : State) (r : DopSol) : State :=
  ((s.set F.DOP_RESULT.CLASS (solClass r)).set F.DOP_RESULT.IP_IT (min r.iters 255)).set F.DOP_RESULT.ROUNDS (min s.dop.round 127)

/-- The neighbours' counts show, and the prices of the lost ones decay. -/
def State.closeNbs (s : State) (r : DopSol) : State :=
  s.dopNbs.foldl (fun s j =>
    let s1 := (s.set (F.NB_STAT.MISS j) (min (s.dnb j).miss 15)).set (F.NB_STAT.ROUNDS j) (min (s.dnb j).rounds 127)
    if s.get (F.NB_STAT.STATE j) = 2 ∨ s.get (F.NB_STAT.STATE j) = 3 then s1.decayNb r.mu j else s1) s

theorem State.closeNbs_keys (s : State) (r : DopSol) : KeysOnly solveKey s (s.closeNbs r) := by
  refine (KeysOnly.refl _ s).foldl (fun u j => ?_) _
  have hcounts := ((KeysOnly.refl _ u).setStat j 8 4 (min (u.dnb j).miss 15)).setStat j 16 7 (min (u.dnb j).rounds 127)
  exact .ite (hcounts.trans (State.decayNb_keys ..)) hcounts

theorem State.finishSolve_converged (h : r.conv = true) : s.finishSolve r = (((s.showResult r).closeNbs r).acceptPlan r).dopEnd := by
  unfold State.finishSolve
  rw [State.showResult, solClass_conv h]
  rfl

theorem State.finishSolve_unsolved (hc : r.conv = false) (hi : r.infeas = false) (ha : r.acc = false) :
    s.finishSolve r = ((((s.showResult r).closeNbs r).flag F.DOP_ERR.NOSOL).inc F.DOP_NOSOL_CNT.COUNT).dopEnd := by
  unfold State.finishSolve
  rw [State.showResult, solClass_none hc hi ha]
  rfl

theorem State.showResult_class (s : State) (r : DopSol) : (s.showResult r).get F.DOP_RESULT.CLASS = solClass r := by
  have hlt : solClass r < 2 ^ 3 := by
    unfold solClass
    grind
  unfold State.showResult
  rw [State.get_set_other _ _ _ _ (by decide), State.get_set_other _ _ _ _ (by decide)]
  exact State.get_set_fits _ _ (by decide) hlt

theorem State.showResult_get (s : State) (r : DopSol) {f : Fld} (hf : f.key ≠ R.DOP_RESULT) : (s.showResult r).get f = s.get f := by
  unfold State.showResult
  rw [State.get_set_other _ _ _ _ (.inl hf), State.get_set_other _ _ _ _ (.inl hf), State.get_set_other _ _ _ _ (.inl hf)]

/-- A shown result and the neighbours' counts. -/
theorem State.closed_class (s : State) (r : DopSol) : ((s.showResult r).closeNbs r).get F.DOP_RESULT.CLASS = solClass r := by
  rw [(State.closeNbs_keys _ r).get _ (by decide), s.showResult_class]

theorem State.closed_get (s : State) (r : DopSol) {f : Fld} (hs : ¬ solveKey f.key) (hf : f.key ≠ R.DOP_RESULT) :
    ((s.showResult r).closeNbs r).get f = s.get f := by
  rw [(State.closeNbs_keys _ r).get _ hs, s.showResult_get r hf]

theorem State.closed_trj (s : State) (r : DopSol) : ((s.showResult r).closeNbs r).trj = s.trj := (State.closeNbs_keys _ r).trj

/-- A converged result is class 1, counted and applied as the plan. -/
theorem State.finishSolve_plan (s : State) (h : r.conv = true) :
    let t := s.finishSolve r
    t.bit F.DOP_STAT.SOLVING = false ∧ t.get F.DOP_RESULT.CLASS = 1 ∧ t.get F.DOP_SEQ.SEQ = s.nextPlan ∧ t.bit F.DOP_STAT.PLAN = true ∧
      t.domOn 14 = false ∧ t.trj.buf = 1 - s.trj.buf ∧ t.trj.lastPlan = s.nextPlan := by
  intro t
  have he : t = _ := State.finishSolve_converged h
  rw [he]
  have hend := (((s.showResult r).closeNbs r).acceptPlan r).dopEnd_only
  have hnext : ((s.showResult r).closeNbs r).nextPlan = s.nextPlan := by
    unfold State.nextPlan
    rw [s.closed_get r (by decide) (by decide)]
  obtain ⟨hbuf, hlast⟩ := ((s.showResult r).closeNbs r).acceptPlan_trj r
  refine ⟨State.dopEnd_solving _, ?_, ?_, ?_, State.dopEnd_off _, ?_, ?_⟩
  · rw [hend.fields _ (by decide) (by decide), State.acceptPlan_class, s.closed_class, solClass_conv h]
  · rw [hend.fields _ (by decide) (by decide), State.acceptPlan_seq, hnext]
  · rw [hend.bit _ (by decide) (by decide), State.acceptPlan_plan]
  · rw [State.dopEnd_trj, hbuf, s.closed_trj]
  · rw [State.dopEnd_trj, hlast, hnext]

/-- One without a solution is class 3, is counted with NOSOL, and leaves plan and sequence. -/
theorem State.finishSolve_noPlan (s : State) (hc : r.conv = false) (hi : r.infeas = false) (ha : r.acc = false) :
    let t := s.finishSolve r
    t.bit F.DOP_STAT.SOLVING = false ∧ t.get F.DOP_RESULT.CLASS = 3 ∧ t.bit F.DOP_ERR.NOSOL = true ∧
      t.get F.DOP_SEQ.SEQ = s.get F.DOP_SEQ.SEQ ∧ t.trj = s.trj ∧
      t.get F.DOP_NOSOL_CNT.COUNT = min (s.get F.DOP_NOSOL_CNT.COUNT + 1) 0xFFFFFFFF := by
  intro t
  have he : t = _ := State.finishSolve_unsolved hc hi ha
  rw [he]
  have hend := ((((s.showResult r).closeNbs r).flag F.DOP_ERR.NOSOL).inc F.DOP_NOSOL_CNT.COUNT).dopEnd_only
  refine ⟨State.dopEnd_solving _, ?_, ?_, ?_, ?_, ?_⟩
  · rw [hend.fields _ (by decide) (by decide), State.inc, State.get_set_other _ _ _ _ (by decide), State.get_flag_other _ _ _ (by decide),
      s.closed_class, solClass_none hc hi ha]
  · rw [hend.bit _ (by decide) (by decide), State.inc, State.bit_congr (State.get_set_other _ _ _ _ (by decide))]
    exact State.bit_flag_same _ _ rfl (by decide)
  · rw [hend.fields _ (by decide) (by decide), State.inc, State.get_set_other _ _ _ _ (by decide), State.get_flag_other _ _ _ (by decide),
      s.closed_get r (by decide) (by decide)]
  · rw [State.dopEnd_trj, State.inc_trj, State.flag_trj, s.closed_trj]
  · rw [hend.fields _ (by decide) (by decide), State.get_inc_same _ _ (by decide), State.get_flag_other _ _ _ (by decide),
      s.closed_get r (by decide) (by decide)]
    rfl

end Sys2Proof.Machine
end

section
/-! The dispatch optimiser's commands, one by one; O41. -/
namespace Sys2Proof.Machine

variable {s : State} {dt : Nat} {r : DopSol}

theorem exec_dopWakeRequest (dt : Nat) (s : State) : exec (.dopWakeRequest dt) s = .next (dopWake (s.elapse dt)).settle := rfl
theorem exec_dopSolveStart (dt : Nat) (s : State) : exec (.dopSolveStart dt) s = .next (dopSolveStart (s.elapse dt)).settle := rfl
theorem exec_dopSolvePhaseDone (dt : Nat) (r : DopSol) (s : State) :
    exec (.dopSolvePhaseDone dt r) s = .next (solvePhaseDone r (s.elapse dt)).settle := rfl
theorem exec_finalSolveDone (dt : Nat) (r : DopSol) (s : State) :
    exec (.finalSolveDone dt r) s = .next (finalSolveDone r (s.elapse dt)).settle := rfl
theorem exec_dopLate (dt : Nat) (s : State) : exec (.dopLate dt) s = .next (dopLate (s.elapse dt)).settle := rfl

/-! ### The wake and the start -/

/-- A wake request takes the idle sequencer (R252). -/
theorem exec_dopWakeRequest_idle (hrun : s.bit F.DOP_STAT.RUN = true) (hshed : s.bit F.DOP_STAT.SHED = false)
    (hhold : s.bit F.DOP_CTRL.HOLD = false) (hon : s.domOn 14 = false) (hfail : s.bit (domFailFld 14) = false) (hpres : s.domPresent 14 = true)
    (hw : s.pwr.waking = none) (hq : s.pwr.queue = []) (hgap : s.pwr.gap = false) (hphase : s.pwr.phase = 3)
    (hpfw : s.bit F.PWR_STAT.PFW = false) :
    ∃ t, exec (.dopWakeRequest dt) s = .next t ∧ t.pwr.waking = some (14, (s.elapse dt).clock.up) ∧ SameWords [] s t := by
  have he : dopWake (s.elapse dt) = _ := (dopWake_idle (s := s.elapse dt) hrun hshed hhold).trans
    (State.wakeDomain_idle (s := s.elapse dt) hon hfail hpres hw hq hgap (by simp [hphase]) hpfw)
  refine ⟨_, exec_dopWakeRequest dt s, ?_, fun k _ hal => (State.settle_word _ k hal).trans ?_⟩ <;> rw [he]
  · rw [State.settle_pwr]
  · rfl

/-- On hold neither the wake nor the start does anything (R256). -/
theorem exec_dop_hold (hhold : s.bit F.DOP_CTRL.HOLD = true) :
    ∀ c ∈ [Instr.dopWakeRequest dt, .dopSolveStart dt], ∃ t, exec c s = .next t ∧ OnlyWords [] (s.elapse dt) t := by
  simp only [List.forall_mem_cons, List.not_mem_nil, false_implies, implies_true, and_true]
  exact ⟨exec_idle (exec_dopWakeRequest dt s) (dopWake_hold (s := s.elapse dt) hhold),
    exec_idle (exec_dopSolveStart dt s) (dopSolveStart_hold (s := s.elapse dt) hhold)⟩

/-- A start that falls in the warning is counted with class 6 (R256). -/
theorem exec_dopSolveStart_shed (hrun : s.bit F.DOP_STAT.RUN = true) (hhold : s.bit F.DOP_CTRL.HOLD = false)
    (hidle : s.bit F.DOP_STAT.SOLVING = false) (hshed : s.bit F.DOP_STAT.SHED = true) :
    ∃ t, exec (.dopSolveStart dt) s = .next t ∧ t.get F.DOP_RESULT.CLASS = 6 ∧
      t.get F.DOP_SHED_CNT.COUNT = min (s.get F.DOP_SHED_CNT.COUNT + 1) 0xFFFFFFFF ∧
      OnlyWords [R.DOP_RESULT, R.DOP_SHED_CNT] (s.elapse dt) t := by
  have he : dopSolveStart (s.elapse dt) = _ := dopSolveStart_shed hrun hhold hidle hshed
  refine ⟨_, exec_dopSolveStart dt s, ?_, ?_, ?_⟩ <;> rw [he]
  · rw [State.settle_get_lt _ (by decide), State.get_set_fits _ _ (by decide) (by decide)]
  · rw [State.settle_get_lt _ (by decide), State.get_set_other _ _ _ _ (by decide), State.get_inc_same _ _ (by decide)]
    rfl
  · exact (((OnlyWords.refl _ _).set F.DOP_SHED_CNT.COUNT _ (by decide)).set F.DOP_RESULT.CLASS 6 (by decide)).settle

/-- A start with the domain on opens the solve (R253, R263). -/
theorem exec_dopSolveStart_opens (hrun : s.bit F.DOP_STAT.RUN = true) (hhold : s.bit F.DOP_CTRL.HOLD = false)
    (hidle : s.bit F.DOP_STAT.SOLVING = false) (hshed : s.bit F.DOP_STAT.SHED = false) (hon : s.domOn 14 = true) :
    ∃ t, exec (.dopSolveStart dt) s = .next t ∧ t.bit F.DOP_STAT.SOLVING = true ∧
      (t.get F.DOP_STAT.PHASE = 1 ∨ t.get F.DOP_STAT.PHASE = 2) ∧ t.dop.s = (s.elapse dt).dopS ∧
      t.get F.DOP_S_SEC.SEC = (s.elapse dt).dopS % 2 ^ 32 ∧ t.dop.round = 0 ∧ t.dop.firstOne = false ∧ t.dop.isLocal = s.dop.firstOne := by
  have hkeys : KeysOnly solveKey (s.elapse dt).openSolve (dopSolveStart (s.elapse dt)) := dopSolveStart_keys hrun hhold hidle hshed hon
  refine ⟨_, exec_dopSolveStart dt s, ?_⟩
  rw [State.settle_bit_lt _ (by decide), State.settle_get_lt _ (by decide), State.settle_get_lt _ (by decide), State.settle_dop,
    hkeys.bit _ (by decide), hkeys.get _ (by decide), hkeys.get _ (by decide), hkeys.dop]
  exact ⟨State.openSolve_solving _, State.openSolve_phase _, rfl, State.openSolve_sec _, rfl, rfl, rfl⟩

/-! ### The end of the solve phase and of the final solve -/

theorem solvePhaseDone_couples (hsolve : s.bit F.DOP_STAT.SOLVING = true) (hphase : s.get F.DOP_STAT.PHASE < 3) (hnbs : s.coupledNbs ≠ []) :
    solvePhaseDone r s = s.set F.DOP_STAT.PHASE 3 := by
  simp [solvePhaseDone, hsolve, Nat.not_le.mpr hphase, hnbs]

theorem solvePhaseDone_finishes (hsolve : s.bit F.DOP_STAT.SOLVING = true) (hphase : s.get F.DOP_STAT.PHASE < 3) (hnbs : s.coupledNbs = []) :
    solvePhaseDone r s = s.finishSolve r := by
  simp [solvePhaseDone, hsolve, Nat.not_le.mpr hphase, hnbs]

theorem finalSolveDone_finishes (hsolve : s.bit F.DOP_STAT.SOLVING = true) (hphase : s.get F.DOP_STAT.PHASE = 4) :
    finalSolveDone r s = s.finishSolve r := by
  simp [finalSolveDone, hsolve, hphase]

/-- Where an intertie is coupled, coupling follows (R254). -/
theorem exec_dopSolvePhaseDone_couples (hsolve : s.bit F.DOP_STAT.SOLVING = true) (hphase : s.get F.DOP_STAT.PHASE < 3)
    (hnbs : s.coupledNbs ≠ []) (r : DopSol) :
    ∃ t, exec (.dopSolvePhaseDone dt r) s = .next t ∧ t.get F.DOP_STAT.PHASE = 3 ∧ OnlyWords [R.DOP_STAT] (s.elapse dt) t := by
  have he : solvePhaseDone r (s.elapse dt) = _ := solvePhaseDone_couples hsolve hphase hnbs
  refine ⟨_, exec_dopSolvePhaseDone dt r s, ?_, ?_⟩ <;> rw [he]
  · rw [State.settle_get_lt _ (by decide), State.get_set_fits _ _ (by decide) (by decide)]
  · exact ((OnlyWords.refl _ _).set F.DOP_STAT.PHASE 3 (by decide)).settle

/-- The command that ends a solve with its result, by the phase it ends. -/
theorem exec_finishes (hsolve : s.bit F.DOP_STAT.SOLVING = true) (r : DopSol) :
    ∀ c ∈ [Instr.dopSolvePhaseDone dt r, .finalSolveDone dt r],
      (c = .dopSolvePhaseDone dt r → s.get F.DOP_STAT.PHASE < 3 ∧ s.coupledNbs = []) →
      (c = .finalSolveDone dt r → s.get F.DOP_STAT.PHASE = 4) → exec c s = .next ((s.elapse dt).finishSolve r).settle := by
  intro c hc hsolving hfinal
  simp only [List.mem_cons, List.not_mem_nil, or_false] at hc
  rcases hc with rfl | rfl
  · obtain ⟨hphase, hnbs⟩ := hsolving rfl
    rw [exec_dopSolvePhaseDone, solvePhaseDone_finishes (s := s.elapse dt) hsolve hphase hnbs]
  · rw [exec_finalSolveDone, finalSolveDone_finishes (s := s.elapse dt) hsolve (hfinal rfl)]

/-- A converged result becomes the plan (R265, R275). -/
theorem exec_finishes_plan {c : Instr} (he : exec c s = .next ((s.elapse dt).finishSolve r).settle) (hconv : r.conv = true) :
    ∃ t, exec c s = .next t ∧ t.bit F.DOP_STAT.SOLVING = false ∧ t.get F.DOP_RESULT.CLASS = 1 ∧
      t.get F.DOP_SEQ.SEQ = min (s.get F.DOP_SEQ.SEQ + 1) 0xFFFFFFFF ∧ t.bit F.DOP_STAT.PLAN = true ∧ t.domOn 14 = false ∧
      t.trj.buf = 1 - s.trj.buf ∧ t.trj.lastPlan = t.get F.DOP_SEQ.SEQ := by
  obtain ⟨hend, hclass, hseq, hplan, hoff, hbuf, hlast⟩ := (s.elapse dt).finishSolve_plan hconv
  refine ⟨_, he, ?_⟩
  rw [State.settle_bit_lt _ (by decide), State.settle_bit_lt _ (by decide), State.settle_get_lt _ (by decide), State.settle_get_lt _ (by decide),
    State.domOn, State.settle_bit_lt _ (by decide), State.settle_trj]
  exact ⟨hend, hclass, hseq, hplan, hoff, hbuf, hlast.trans hseq.symm⟩

/-- A result without a solution leaves the plan in force (R265). -/
theorem exec_finishes_noPlan {c : Instr} (he : exec c s = .next ((s.elapse dt).finishSolve r).settle) (hconv : r.conv = false)
    (hinfeas : r.infeas = false) (hacc : r.acc = false) :
    ∃ t, exec c s = .next t ∧ t.bit F.DOP_STAT.SOLVING = false ∧ t.get F.DOP_RESULT.CLASS = 3 ∧ t.bit F.DOP_ERR.NOSOL = true ∧
      t.get F.DOP_SEQ.SEQ = s.get F.DOP_SEQ.SEQ ∧ t.trj = s.trj ∧
      t.get F.DOP_NOSOL_CNT.COUNT = min (s.get F.DOP_NOSOL_CNT.COUNT + 1) 0xFFFFFFFF := by
  refine ⟨_, he, ?_⟩
  rw [State.settle_bit_lt _ (by decide), State.settle_bit_lt _ (by decide), State.settle_get_lt _ (by decide), State.settle_get_lt _ (by decide),
    State.settle_get_lt _ (by decide), State.settle_trj]
  exact (s.elapse dt).finishSolve_noPlan hconv hinfeas hacc

/-! ### Lateness -/

/-- DOP_LATE ends the solve with class 5 and no plan (R255). -/
theorem exec_dopLate_ends (hsolve : s.bit F.DOP_STAT.SOLVING = true) :
    ∃ t, exec (.dopLate dt) s = .next t ∧ t.bit F.DOP_STAT.SOLVING = false ∧ t.get F.DOP_RESULT.CLASS = 5 ∧ t.bit F.DOP_ERR.LATE = true ∧
      t.get F.DOP_LATE_CNT.COUNT = min (s.get F.DOP_LATE_CNT.COUNT + 1) 0xFFFFFFFF ∧ t.get F.DOP_SEQ.SEQ = s.get F.DOP_SEQ.SEQ ∧
      t.trj = s.trj ∧ t.domOn 14 = false := by
  have he : dopLate (s.elapse dt) = ((s.elapse dt).markLate.log 9 0 0 4).dopEnd := dopLate_solving hsolve
  have hlogged := (s.elapse dt).markLate.log_raise 9 0 0 4
  have hend := ((SolveOnly.refl dopEndFlds _).raise hlogged).trans (State.dopEnd_only _)
  refine ⟨_, exec_dopLate dt s, ?_⟩
  rw [he, State.settle_bit_lt _ (by decide), State.settle_bit_lt _ (by decide), State.settle_get_lt _ (by decide),
    State.settle_get_lt _ (by decide), State.settle_get_lt _ (by decide), State.domOn, State.settle_bit_lt _ (by decide), State.settle_trj,
    hend.fields F.DOP_RESULT.CLASS (by decide) (by decide), hend.bit F.DOP_ERR.LATE (by decide) (by decide),
    hend.fields F.DOP_LATE_CNT.COUNT (by decide) (by decide), hend.fields F.DOP_SEQ.SEQ (by decide) (by decide)]
  obtain ⟨hclass, hlate, hcount, hseq⟩ := (s.elapse dt).markLate_shows
  refine ⟨State.dopEnd_solving _, hclass, hlate, hcount, hseq, ?_, State.dopEnd_off _⟩
  rw [State.dopEnd_trj, hlogged.rest]
  rfl

/-- Settles O41: after the opening, and after a result's class is shown, a solve writes its area, its neighbours' windows and error bits, and the plan
is applied last. -/
theorem theDispatchOptimiserRunsItsSolves : Obligations.TheDispatchOptimiserRunsItsSolves := by
  unfold Obligations.TheDispatchOptimiserRunsItsSolves
  intro s dt
  refine ⟨fun hrun => ⟨exec_dopWakeRequest_idle hrun, exec_dop_hold, fun hhold hidle =>
    ⟨exec_dopSolveStart_shed hrun hhold hidle, exec_dopSolveStart_opens hrun hhold hidle⟩⟩, fun hsolve =>
    ⟨exec_dopSolvePhaseDone_couples hsolve, fun r c hc hfirst hfinal => ?_, exec_dopLate_ends hsolve⟩⟩
  have he := exec_finishes hsolve r c hc hfirst hfinal
  exact ⟨exec_finishes_plan he, exec_finishes_noPlan he⟩

end Sys2Proof.Machine
end

section
/-! Coupling rounds and their fragments (R268 to R271). -/
namespace Sys2Proof.Machine

variable {s t u : State}

/-! ### Fragments that are sent -/

theorem State.sendFrags_keys (s : State) (j m : Nat) (conv done price : Bool) : KeysOnly sendKey s (s.sendFrags j m conv done price) :=
  (KeysOnly.refl _ s).foldl (fun u _ => u.fabOriginate_keys ..) _

theorem State.sendFrags_dop (s : State) (j m : Nat) (conv done price : Bool) : (s.sendFrags j m conv done price).dop = s.dop :=
  foldl_keeps State.dop (fun u _ => u.fabOriginate_dop ..) _ s

/-- The round's own flows stand in the area. -/
def State.takeFlows (s : State) (e : List (Nat × List (List Word))) : State :=
  e.foldl (fun s x => x.2.zipIdx.foldl (fun s y => y.1.zipIdx.foldl (fun s z => s.setw (nbFld x.1 0x3000 y.2 z.2) z.1) s) s) s

theorem State.takeFlows_keys (s : State) (e : List (Nat × List (List Word))) : KeysOnly sendKey s (s.takeFlows e) := by
  refine (KeysOnly.refl _ s).foldl (fun u x => (KeysOnly.refl _ u).foldl (fun v y => (KeysOnly.refl _ v).foldl (fun w z => ?_) _) _) _
  exact (KeysOnly.refl sendKey w).setw _ _ (.inl (dopAreaKey_nbFld ..))

theorem State.takeFlows_dop (s : State) (e : List (Nat × List (List Word))) : (s.takeFlows e).dop = s.dop := by
  refine foldl_keeps State.dop (fun u x => ?_) e s
  refine foldl_keeps State.dop (fun v y => ?_) _ u
  refine foldl_keeps State.dop (fun w z => ?_) _ v
  exact w.setw_dop ..

/-- Every coupled neighbour gets the round's fragments, and those of π from their keeper. -/
def State.sendRound (s : State) (js : List Nat) (m : Nat) (conv : Bool) : State :=
  js.foldl (fun s j =>
    let s1 := s.sendFrags j m conv false false
    if s.bit (F.NB_STAT.KEEPER j) then s1.sendFrags j m conv false true else s1) s

theorem State.sendRound_keys (s : State) (js : List Nat) (m : Nat) (conv : Bool) : KeysOnly sendKey s (s.sendRound js m conv) := by
  refine (KeysOnly.refl _ s).foldl (fun u j => ?_) _
  have hflows := u.sendFrags_keys j m conv false false
  exact .ite (hflows.trans (State.sendFrags_keys ..)) hflows

theorem State.sendRound_dop (s : State) (js : List Nat) (m : Nat) (conv : Bool) : (s.sendRound js m conv).dop = s.dop := by
  refine foldl_keeps State.dop (fun u j => ?_) _ s
  dsimp only
  split
  · exact (State.sendFrags_dop ..).trans (State.sendFrags_dop ..)
  · exact State.sendFrags_dop ..

/-! ### The neighbours whose coupling goes on -/

/-- A neighbour's fields are none that a message's sending writes. -/
theorem notSendKey_nb {j : Nat} (hj : j < 16) : ¬ sendKey (T.DOP_NB.EN j).key ∧ ¬ sendKey (R.NB_STAT j) := by
  interval_cases j <;> decide

theorem State.dopNbs_lt {j : Nat} (h : j ∈ s.dopNbs) : j < 16 := List.mem_range.mp (List.mem_filter.mp h).1
theorem State.coupledNbs_lt {j : Nat} (h : j ∈ s.coupledNbs) : j < 16 := State.dopNbs_lt (List.mem_filter.mp h).1

/-- The words that sending leaves, what the neighbours have delivered and the round are as before. -/
structure SameCoupling (s t : State) : Prop where
  words : ∀ k, ¬ sendKey k → t.word k = s.word k
  nbs : t.dop.nbs = s.dop.nbs
  round : t.dop.round = s.dop.round

namespace SameCoupling

theorem get (h : SameCoupling s t) (f : Fld) (hf : ¬ sendKey f.key) : t.get f = s.get f := by
  unfold State.get
  rw [h.words _ hf]

theorem coupledNbs (h : SameCoupling s t) : t.coupledNbs = s.coupledNbs := by
  have hen : t.dopNbs = s.dopNbs := List.filter_congr fun j hj => State.bit_congr (h.get _ (notSendKey_nb (List.mem_range.mp hj)).1)
  unfold State.coupledNbs
  rw [hen]
  refine List.filter_congr fun j hj => ?_
  rw [h.get _ (notSendKey_nb (State.dopNbs_lt hj)).2, State.dnb, State.dnb, h.nbs]

/-- A round is not full while a coupled neighbour's fragments are missing. -/
theorem roundFull_missing (h : SameCoupling s t) {j : Nat} (hj : j ∈ s.coupledNbs)
    (hmiss : ((s.dnb j).ofRound s.dop.round false (s.get (T.DOP_NB.NV j))).length ≠ s.get (T.DOP_NB.NV j)) : t.roundFull = false := by
  have hnv : t.get (T.DOP_NB.NV j) = s.get (T.DOP_NB.NV j) := h.get _ (notSendKey_nb (State.coupledNbs_lt hj)).1
  have hout : (((t.dnb j).ofRound t.dop.round false (t.get (T.DOP_NB.NV j))).length == t.get (T.DOP_NB.NV j)) = false := by
    rw [hnv, h.round, State.dnb, h.nbs]
    exact beq_eq_false_iff_ne.mpr hmiss
  unfold State.roundFull
  rw [List.all_eq_false.mpr ⟨j, h.coupledNbs ▸ hj, by simpa using hout⟩, Bool.and_false]

end SameCoupling

/-! ### A round is sent (R270) -/

/-- The round's fragments are on their way. -/
def State.markSent (s : State) (conv : Bool) : State := { s with dop := { s.dop with sent := true, sentConv := conv } }

theorem State.sendRound_coupling (s : State) (e : List (Nat × List (List Word))) (conv : Bool) :
    SameCoupling s (((s.takeFlows e).markSent conv).sendRound s.coupledNbs s.dop.round conv) where
  words k hk := ((State.sendRound_keys ..).words k hk).trans ((s.takeFlows_keys e).words k hk)
  nbs := by rw [State.sendRound_dop, State.markSent, s.takeFlows_dop]
  round := by rw [State.sendRound_dop, State.markSent, s.takeFlows_dop]

/-- While a neighbour's fragments are missing the round is sent and waits. -/
theorem couplingRoundSend_waits (hsolve : s.bit F.DOP_STAT.SOLVING = true) (hphase : s.get F.DOP_STAT.PHASE = 3) (hunsent : s.dop.sent = false)
    (hmiss : ∃ j ∈ s.coupledNbs, ((s.dnb j).ofRound s.dop.round false (s.get (T.DOP_NB.NV j))).length ≠ s.get (T.DOP_NB.NV j))
    (e : List (Nat × List (List Word))) :
    ∃ conv, couplingRoundSend e s = ((s.takeFlows e).markSent conv).sendRound s.coupledNbs s.dop.round conv := by
  obtain ⟨j, hj, hmiss⟩ := hmiss
  unfold couplingRoundSend
  rw [if_neg (by simp [hsolve, hphase, hunsent])]
  extract_lets m js conv s1 _ s2 s3
  exact ⟨conv, if_neg (Bool.eq_false_iff.mp ((s.sendRound_coupling e conv).roundFull_missing hj hmiss))⟩

/-! ### A round ends (R270, R271) -/

/-- What the end of a round writes. -/
abbrev roundKey (k : Nat) : Prop := solveKey k ∨ k = R.DOP_STAT

theorem State.couplingStop_keys (s : State) (m : Nat) (conv : Bool) : KeysOnly roundKey s (s.couplingStop m conv) := by
  have hdone : KeysOnly roundKey s (s.coupledNbs.foldl (fun s j =>
      (s.sendFrags j m s.dop.sentConv true false).setDnb j { s.dnb j with ended := true, conv := conv }) s) :=
    (KeysOnly.refl _ s).foldl (fun u j => ((u.sendFrags_keys j m u.dop.sentConv true false).mono fun _ hk => .inl (.inl hk)).setDnb j _) _
  exact (KeysOnly.ite hdone (hdone.flag F.DOP_ERR.COUPLE (by decide))).set F.DOP_STAT.PHASE 4 (by decide)

/-- Every coupled neighbour takes the round, and the next one begins. -/
def State.nextRound (s : State) : State :=
  let s1 := s.coupledNbs.foldl (fun u j => u.nbRound j s.dop.round) s
  { s1 with dop := { s1.dop with round := s.dop.round + 1, sent := false } }

/-- Past the round's own updates its end changes at most what coupling's stop does. -/
theorem State.endRound_keys (s : State) : KeysOnly roundKey s.nextRound s.endRound := by
  unfold State.endRound
  extract_lets m js s1 on conv left cut _ s2
  have h2 : s2 = s.nextRound := rfl
  rw [← h2]
  exact .ite ((KeysOnly.refl _ s2).set F.DOP_STAT.PHASE 4 (by decide))
    (.ite (s2.couplingStop_keys m true) (.ite (s2.couplingStop_keys m false) (.refl _ s2)))

theorem State.endRound_next (s : State) : s.endRound.dop.round = s.dop.round + 1 ∧ s.endRound.dop.sent = false := by
  rw [s.endRound_keys.dop]
  exact ⟨rfl, rfl⟩

theorem roundWait_sent (hsolve : s.bit F.DOP_STAT.SOLVING = true) (hphase : s.get F.DOP_STAT.PHASE = 3) (hsent : s.dop.sent = true) :
    roundWait s = s.endRound := by
  simp [roundWait, hsolve, hphase, hsent]

theorem roundWait_unsent (hunsent : s.dop.sent = false) : roundWait s = s := by
  simp [roundWait, hunsent]

/-! ### A fragment is received (R269) -/

theorem couplingFragment_unknown {src : Nat} {fr : CouplingFragment} (hrun : s.bit F.DOP_STAT.RUN = true)
    (hnode : ∀ j ∈ s.dopNbs, s.get (T.DOP_NB.NODE j) ≠ src) : couplingFragment src fr s = s.flag F.DOP_ERR.NB_CFG := by
  have hfind : s.dopNbs.find? (fun j => s.get (T.DOP_NB.NODE j) == src) = none := by
    simpa [List.find?_eq_none] using hnode
  unfold couplingFragment
  rw [if_neg (by simp [hrun]), hfind]

/-- What a fragment must carry to be one of neighbour j's for the solve. -/
structure FragmentFits (s : State) (j : Nat) (fr : CouplingFragment) : Prop where
  itie : fr.itie = s.get (T.DOP_NB.ITIE_ID j)
  nv : fr.nv = s.get (T.DOP_NB.NV j)
  n : fr.n = s.dopN
  stepMin : fr.stepMin = s.get F.DOP_STEP.STEP_MIN
  rho : fr.rho = s.getw (T.DOP_NB.RHO j)
  epoch : fr.epoch = s.dop.s % 2 ^ 32

/-- A new fragment of a coupled neighbour, of the present round or a later one, is kept. -/
theorem couplingFragment_kept {src j : Nat} {fr : CouplingFragment} (hrun : s.bit F.DOP_STAT.RUN = true)
    (hfind : s.dopNbs.find? (fun j => s.get (T.DOP_NB.NODE j) == src) = some j) (hfits : FragmentFits s j fr)
    (hsolve : s.bit F.DOP_STAT.SOLVING = true) (hlocal : s.dop.isLocal = false) (hstate : s.get (F.NB_STAT.STATE j) = 1)
    (hended : (s.dnb j).ended = false) (hunsent : s.dop.sent = false) (hround : s.dop.round ≤ fr.iter) (hdone : fr.done = false)
    (hnew : ∀ f ∈ (s.dnb j).frags, ¬ (f.iter = fr.iter ∧ f.k = fr.k ∧ f.price = fr.price)) :
    couplingFragment src fr s = s.setDnb j { s.dnb j with frags := (s.dnb j).frags ++ [fr] } := by
  have hdup : ((s.dnb j).frags.any fun f => f.iter == fr.iter && f.k == fr.k && f.price == fr.price) = false := by
    rw [List.any_eq_false]
    intro f hf
    simpa [and_assoc] using hnew f hf
  have hfull (x : DopNb) : (s.setDnb j x).roundFull = false := by
    unfold State.roundFull
    rw [show (s.setDnb j x).dop.sent = false from hunsent, Bool.false_and]
  unfold couplingFragment
  rw [if_neg (by simp [hrun]), hfind]
  dsimp only
  rw [if_neg (by simp [hfits.itie, hfits.nv, hfits.n, hfits.stepMin, hfits.rho]),
    if_neg (by simp [hsolve, hlocal, hfits.epoch, hstate, hended]), if_neg (Nat.not_lt.mpr hround), hdup, hdone]
  simp [hfull]

theorem State.dnb_setDnb (s : State) (j : Nat) (x : DopNb) : (s.setDnb j x).dnb j = x :=
  (look_store (fun _ => dopNb0) j j x s.dop.nbs).trans (if_pos rfl)

end Sys2Proof.Machine
end

section
/-! HOLD and the forecast buffers (R256, R262): the writes of DOP_CTRL and DOP_FC_DATA, and the copy of the staging buffer. -/
namespace Sys2Proof.Machine

variable {s : State} {rq : Rq}

/-! ### DOP_CTRL -/

/-- A performed write of DOP_CTRL is DOP's own rule. -/
theorem busWrite_dopCtrl (h : Writes s rq R.DOP_CTRL) (v : Word) : s.busWrite rq 4 R.DOP_CTRL v = dopCtrl v s := State.busWrite_of_writes h v

/-- HOLD, and DOP_STAT.HOLD that shows it. -/
def State.showHold (s : State) (b : Bool) : State := (s.setBit F.DOP_CTRL.HOLD b).setBit F.DOP_STAT.HOLD b

theorem dopCtrl_hold (hdop : s.dopPresent = true) {v : Word} (hv : v.getLsbD 0 = false) : dopCtrl v s = s.showHold (v.getLsbD 1) := by
  unfold dopCtrl
  rw [if_neg (by simp [hdop]), if_neg (by simp only [hv, Bool.false_eq_true, not_false_eq_true])]
  rfl

theorem dopCtrl_commit (hdop : s.dopPresent = true) {v : Word} (hv : v.getLsbD 0 = true) :
    dopCtrl v s = (s.showHold (v.getLsbD 1)).set F.DOP_CTRL.FC_COMMIT 1 := by
  have hdop' : (s.showHold (v.getLsbD 1)).dopPresent = true := hdop
  unfold dopCtrl
  rw [if_neg (by simp [hdop]), if_pos hv]
  exact if_pos hdop'

/-- The word that commits the forecast: bit 0, and HOLD as it is. -/
theorem commitWord_bits (s : State) : (BitVec.ofNat 32 (1 + 2 * s.get F.DOP_CTRL.HOLD)).getLsbD 0 = true ∧
    (BitVec.ofNat 32 (1 + 2 * s.get F.DOP_CTRL.HOLD)).getLsbD 1 = s.bit F.DOP_CTRL.HOLD := by
  have hlt : s.get F.DOP_CTRL.HOLD < 2 := s.get_lt F.DOP_CTRL.HOLD
  unfold State.bit
  generalize s.get F.DOP_CTRL.HOLD = x at hlt
  interval_cases x <;> decide

theorem fcCommitWrite_eq (h : Writes s rq R.DOP_CTRL) (hdop : s.dopPresent = true) :
    fcCommitWrite rq s = (s.showHold (s.bit F.DOP_CTRL.HOLD)).set F.DOP_CTRL.FC_COMMIT 1 := by
  obtain ⟨hcommit, hhold⟩ := commitWord_bits s
  rw [fcCommitWrite, busWrite_dopCtrl h, dopCtrl_commit hdop hcommit, hhold]

theorem State.showHold_ctrl (s : State) (b : Bool) : (s.showHold b).bit F.DOP_CTRL.HOLD = b := by
  unfold State.showHold
  rw [State.bit_setBit_other _ _ _ _ (by decide), State.bit_setBit_same _ _ _ (by decide) (by decide)]

theorem State.showHold_stat (s : State) (b : Bool) : (s.showHold b).bit F.DOP_STAT.HOLD = b := State.bit_setBit_same _ _ _ (by decide) (by decide)

theorem State.showHold_commit (s : State) (b : Bool) : (s.showHold b).bit F.DOP_CTRL.FC_COMMIT = s.bit F.DOP_CTRL.FC_COMMIT := by
  unfold State.showHold
  rw [State.bit_setBit_other _ _ _ _ (by decide), State.bit_setBit_other _ _ _ _ (by decide)]

theorem State.showHold_only (s : State) (b : Bool) : OnlyWords [R.DOP_CTRL, R.DOP_STAT] s (s.showHold b) :=
  ((OnlyWords.refl _ s).setBit F.DOP_CTRL.HOLD b (by decide)).setBit F.DOP_STAT.HOLD b (by decide)

/-- A write that leaves FC_COMMIT 0 shows HOLD (R256). -/
theorem exec_dopHoldWrite_shows (dt : Nat) (hdop : s.dopPresent = true) (v : Word) (h : Writes s rq R.DOP_CTRL) (hv : v.getLsbD 0 = false) :
    ∃ t, exec (.dopHoldWrite dt rq v) s = .next t ∧ t.bit F.DOP_CTRL.HOLD = v.getLsbD 1 ∧ t.bit F.DOP_STAT.HOLD = v.getLsbD 1 ∧
      t.bit F.DOP_CTRL.FC_COMMIT = s.bit F.DOP_CTRL.FC_COMMIT ∧ OnlyWords [R.DOP_CTRL, R.DOP_STAT] (s.elapse dt) t := by
  have he : exec (.dopHoldWrite dt rq v) s = .next ((s.elapse dt).showHold (v.getLsbD 1)).settle :=
    congrArg (fun x : State => Host.Outcome.next x.settle) ((busWrite_dopCtrl (h.elapse dt) v).trans (dopCtrl_hold (s := s.elapse dt) hdop hv))
  refine ⟨_, he, ?_⟩
  rw [State.settle_bit_lt _ (by decide), State.settle_bit_lt _ (by decide), State.settle_bit_lt _ (by decide), State.showHold_ctrl,
    State.showHold_stat, State.showHold_commit]
  exact ⟨rfl, rfl, rfl, (State.showHold_only _ _).settle⟩

/-- A commit shows, and HOLD stays (R262). -/
theorem exec_fcCommit_shows (dt : Nat) (hdop : s.dopPresent = true) (h : Writes s rq R.DOP_CTRL) :
    ∃ t, exec (.fcCommit dt rq) s = .next t ∧ t.bit F.DOP_CTRL.FC_COMMIT = true ∧ t.bit F.DOP_CTRL.HOLD = s.bit F.DOP_CTRL.HOLD ∧
      OnlyWords [R.DOP_CTRL, R.DOP_STAT] (s.elapse dt) t := by
  have he : exec (.fcCommit dt rq) s = .next (((s.elapse dt).showHold (s.bit F.DOP_CTRL.HOLD)).set F.DOP_CTRL.FC_COMMIT 1).settle :=
    congrArg (fun x : State => Host.Outcome.next x.settle) (fcCommitWrite_eq (h.elapse dt) hdop)
  refine ⟨_, he, ?_⟩
  rw [State.settle_bit_lt _ (by decide), State.settle_bit_lt _ (by decide)]
  refine ⟨State.bit_set_one _ _ (by decide), ?_, ((State.showHold_only _ _).set F.DOP_CTRL.FC_COMMIT 1 (by decide)).settle⟩
  rw [State.bit_congr (State.get_set_other _ _ _ _ (by decide)), State.showHold_ctrl]

/-! ### DOP_FC_DATA -/

theorem busWrite_fcData (h : Writes s rq R.DOP_FC_DATA) (v : Word) : s.busWrite rq 4 R.DOP_FC_DATA v = fcData v s := State.busWrite_of_writes h v

theorem fcData_stages (hdop : s.dopPresent = true) (hfree : s.bit F.DOP_CTRL.FC_COMMIT = false) (v : Word) :
    fcData v s = (s.setw (dopFld (0x1400000 + s.get F.DOP_FC_ADDR.ADDR / 4 * 4)) v).addWrap F.DOP_FC_ADDR.ADDR 4 := by
  simp [fcData, hdop, hfree]

theorem fcData_busy (hdop : s.dopPresent = true) (hbusy : s.bit F.DOP_CTRL.FC_COMMIT = true) (v : Word) :
    fcData v s = (s.flag F.DOP_ERR.FC_BUSY).addWrap F.DOP_FC_ADDR.ADDR 4 := by
  simp [fcData, hdop, hbusy]

/-- A word of the area is no register. -/
theorem dopFld_ne (o : Nat) {k : Nat} (hk : k < 0x10000000000) : (dopFld o).key ≠ k := by
  simp only [dopFld, tabKey]
  omega

theorem dopFld_notAlarm (o : Nat) : (dopFld o).key ∉ alarmKeys := by
  simp only [alarmKeys, List.mem_cons, List.not_mem_nil, or_false, not_or]
  exact ⟨dopFld_ne o (by decide), dopFld_ne o (by decide)⟩

/-- A word goes to the staging buffer, and the address advances (R262). -/
theorem exec_fcDataWrite_stages (dt : Nat) (hdop : s.dopPresent = true) (v : Word) (h : Writes s rq R.DOP_FC_DATA)
    (hfree : s.bit F.DOP_CTRL.FC_COMMIT = false) :
    ∃ t, exec (.fcDataWrite dt rq v) s = .next t ∧ t.getw (dopFld (0x1400000 + s.get F.DOP_FC_ADDR.ADDR / 4 * 4)) = v ∧
      t.get F.DOP_FC_ADDR.ADDR = (s.get F.DOP_FC_ADDR.ADDR + 4) % 2 ^ F.DOP_FC_ADDR.ADDR.width := by
  have he : exec (.fcDataWrite dt rq v) s = _ :=
    congrArg (fun x : State => Host.Outcome.next x.settle) ((busWrite_fcData (h.elapse dt) v).trans (fcData_stages (s := s.elapse dt) hdop hfree v))
  refine ⟨_, he, ?_, ?_⟩
  · rw [State.settle_getw _ _ (dopFld_notAlarm _), State.addWrap, State.getw_congr (State.get_set_other _ _ _ _ (.inl (dopFld_ne _ (by decide))))]
    exact State.getw_setw_same _ _ v
  · rw [State.settle_get_lt _ (by decide), State.addWrap, State.get_set_same _ _ _ (by decide), Nat.mod_mod,
      State.get_setw_other _ _ (.inl (dopFld_ne _ (by decide)).symm)]
    rfl

/-- During a commit the word is dropped (R262). -/
theorem exec_fcDataWrite_busy (dt : Nat) (hdop : s.dopPresent = true) (v : Word) (h : Writes s rq R.DOP_FC_DATA)
    (hbusy : s.bit F.DOP_CTRL.FC_COMMIT = true) :
    ∃ t, exec (.fcDataWrite dt rq v) s = .next t ∧ t.bit F.DOP_ERR.FC_BUSY = true ∧
      OnlyWords [R.DOP_ERR, R.DOP_FC_ADDR] (s.elapse dt) t := by
  have he : exec (.fcDataWrite dt rq v) s = _ :=
    congrArg (fun x : State => Host.Outcome.next x.settle) ((busWrite_fcData (h.elapse dt) v).trans (fcData_busy (s := s.elapse dt) hdop hbusy v))
  refine ⟨_, he, ?_, (((OnlyWords.refl _ _).flag F.DOP_ERR.FC_BUSY (by decide)).set F.DOP_FC_ADDR.ADDR _ (by decide)).settle⟩
  rw [State.settle_bit_lt _ (by decide), State.addWrap, State.bit_congr (State.get_set_other _ _ _ _ (by decide))]
  exact State.bit_flag_same _ _ rfl (by decide)

/-! ### A range is copied word for word (R262) -/

/-- A default is read only where no entry is. -/
theorem look_default {α : Type} {d d' : Nat → α} {k : Nat} (h : d k = d' k) (m : List (Nat × α)) : look d m k = look d' m k := by
  induction m with
  | nil => exact h
  | cons e m ih => simp only [look, ih]

/-- A key that is not listed reads its default. -/
theorem look_unlisted {α : Type} (d : Nat → α) {k : Nat} {m : List (Nat × α)} (h : ∀ e ∈ m, e.1 ≠ k) : look d m k = d k := by
  induction m with
  | nil => rfl
  | cons e m ih =>
    obtain ⟨hne, hm⟩ := List.forall_mem_cons.mp h
    rw [look, if_neg hne, ih hm]

/-- Words moved from a to b, each key once: a word of the target reads the moved word, or what it read before. -/
theorem State.word_foldl_move {a b : Nat} (o : Nat) (l : List (Nat × Word)) (hkeys : (l.map Prod.fst).Pairwise (· < ·)) (hlow : ∀ e ∈ l, a ≤ e.1)
    (s : State) : (l.foldl (fun s e => s.setWord (e.1 - a + b) e.2) s).word (b + o) = look (fun _ => s.word (b + o)) l (a + o) := by
  induction l generalizing s with
  | nil => rfl
  | cons e l ih =>
    obtain ⟨hlt, hkeys⟩ := List.pairwise_cons.mp hkeys
    obtain ⟨ha, hlow⟩ := List.forall_mem_cons.mp hlow
    rw [List.foldl_cons, ih hkeys hlow, look]
    by_cases he : e.1 = a + o
    · have hlater : ∀ x ∈ l, x.1 ≠ a + o := fun x hx => he ▸ (hlt x.1 (List.mem_map_of_mem hx)).ne'
      rw [if_pos he, look_unlisted _ hlater, show e.1 - a + b = b + o by omega, State.word_setWord_same]
    · rw [if_neg he, State.word_setWord_ne _ _ (by omega)]

/-- Beyond the tables a word of the area reads 0 where nothing was written. -/
theorem resetWord_dopFld (o : Nat) (ho : o < 0x10000000) : resetWord (dopFld o).key = 0 := by
  have hblock : (dopFld o).key / 0x10000000000 - 1 = 9 := by simp only [dopFld, tabKey]; omega
  have hoff : (dopFld o).key % 0x10000000000 = 0x40000000 + o := by simp only [dopFld, tabKey]; omega
  have hreg : ¬ (dopFld o).key < 0x10000000000 := by simp only [dopFld, tabKey]; omega
  have hfind : (blockTabs 9).find? (fun r => r.base ≤ 0x40000000 + o && (0x40000000 + o - r.base) / r.stride < r.cnt) = none := by
    rw [List.find?_eq_none]
    simp only [blockTabs, tabRow_DOP_BIND, tabRow_DOP_NB, List.mem_cons, List.not_mem_nil, or_false, forall_eq_or_imp, forall_eq]
    constructor <;> (simp; omega)
  unfold resetWord keyFields
  rw [if_neg hreg, hblock, hoff, tabFields, hfind]
  rfl

theorem dopFld_add (d o : Nat) : (dopFld (d + o)).key = (dopFld d).key + o := by
  simp only [dopFld, tabKey]
  omega

/-- The words of a range of keys. -/
def keyRange (a len k : Nat) : Bool := a ≤ k && k < a + len

theorem keyRange_add {a len o : Nat} (ho : o < len) : keyRange a len (a + o) = true := by
  simpa [keyRange] using ho

/-- A copy drops the target's words, then moves the source's. -/
theorem State.dopCopy_eq (s : State) (src dst len : Nat) : s.dopCopy src dst len =
    (s.words.filter (fun e => keyRange (dopFld src).key len e.1)).foldl (fun s e => s.setWord (e.1 - (dopFld src).key + (dopFld dst).key) e.2)
      (s.clearWords (keyRange (dopFld dst).key len)) := rfl

theorem State.word_clearWords {p : Nat → Bool} {k : Nat} (hp : p k = true) (s : State) : (s.clearWords p).word k = resetWord k := by
  refine look_unlisted _ fun e he => ?_
  rintro rfl
  have := (List.mem_filter.mp he).2
  simp [hp] at this

/-- The target of a copy reads what the source read. -/
theorem State.dopCopy_word {src dst len o : Nat} (hcanon : canon resetWord s.words = true) (ho : o < len) (hsrc : src + len ≤ 0x10000000)
    (hdst : dst + len ≤ 0x10000000) : (s.dopCopy src dst len).word (dopFld (dst + o)).key = s.word (dopFld (src + o)).key := by
  obtain ⟨hkeys, -⟩ := (canon_iff resetWord s.words).mp hcanon
  have hreset : resetWord ((dopFld dst).key + o) = resetWord ((dopFld src).key + o) := by
    rw [← dopFld_add, ← dopFld_add, resetWord_dopFld _ (by omega), resetWord_dopFld _ (by omega)]
  have hlow : ∀ e ∈ s.words.filter (fun e => keyRange (dopFld src).key len e.1), (dopFld src).key ≤ e.1 := fun e he => by
    have := (List.mem_filter.mp he).2
    simp only [keyRange, Bool.and_eq_true, decide_eq_true_eq] at this
    exact this.1
  rw [dopFld_add, dopFld_add, s.dopCopy_eq, State.word_foldl_move o _ (hkeys.sublist (List.Sublist.map _ List.filter_sublist)) hlow,
    State.word_clearWords (keyRange_add ho), look_filter _ (keyRange (dopFld src).key len) (keyRange_add ho)]
  exact look_default hreset _

/-! ### FC_COMMIT_DONE -/

/-- The committed buffer, the sequence number and the time of the forecast. -/
def State.takeForecast (s : State) : State :=
  let s1 := ((s.dopCopy 0x1400000 0x1410000 0xC400).addWrap F.DOP_FC_SEQ.SEQ 1).set F.DOP_FC_SEC.SEC s.sec32
  { s1 with dop := { s1.dop with fcSec := some s.clock.sec } }

theorem State.takeForecast_seq (s : State) : s.takeForecast.get F.DOP_FC_SEQ.SEQ = (s.get F.DOP_FC_SEQ.SEQ + 1) % 2 ^ 32 :=
  calc s.takeForecast.get F.DOP_FC_SEQ.SEQ
      = ((s.dopCopy 0x1400000 0x1410000 0xC400).addWrap F.DOP_FC_SEQ.SEQ 1).get F.DOP_FC_SEQ.SEQ :=
        State.get_set_other _ F.DOP_FC_SEC.SEC _ _ (by decide)
    _ = ((s.dopCopy 0x1400000 0x1410000 0xC400).get F.DOP_FC_SEQ.SEQ + 1) % 2 ^ 32 :=
        State.get_set_fits _ _ (by decide) (Nat.mod_lt _ (by decide))
    _ = (s.get F.DOP_FC_SEQ.SEQ + 1) % 2 ^ 32 := by rw [(s.dopCopy_keys ..).get _ (by decide)]

theorem State.takeForecast_word (s : State) (o : Nat) :
    s.takeForecast.word (dopFld o).key = (s.dopCopy 0x1400000 0x1410000 0xC400).word (dopFld o).key :=
  (State.word_set_other _ F.DOP_FC_SEC.SEC _ _ (dopFld_ne o (by decide))).trans
    (State.word_set_other _ F.DOP_FC_SEQ.SEQ _ _ (dopFld_ne o (by decide)))

theorem fcCommitDone_eq (h : s.bit F.DOP_CTRL.FC_COMMIT = true) :
    fcCommitDone s = (s.takeForecast.set F.DOP_STAT.FC 1).set F.DOP_CTRL.FC_COMMIT 0 := by
  unfold fcCommitDone
  rw [if_neg (by simp [h])]
  rfl

/-- The end of a commit: the committed buffer is the staging buffer, counted, and the commit is over (R262). -/
theorem exec_fcCommitDone_copies (dt : Nat) (hcommit : s.bit F.DOP_CTRL.FC_COMMIT = true) (hcanon : canon resetWord s.words = true) :
    ∃ t, exec (.fcCommitDone dt) s = .next t ∧ t.bit F.DOP_CTRL.FC_COMMIT = false ∧ t.bit F.DOP_STAT.FC = true ∧
      t.get F.DOP_FC_SEQ.SEQ = (s.get F.DOP_FC_SEQ.SEQ + 1) % 2 ^ 32 ∧ t.dop.fcSec = some (s.elapse dt).clock.sec ∧
      ∀ o, o < 0xC400 → t.word (dopFld (0x1410000 + o)).key = s.word (dopFld (0x1400000 + o)).key := by
  have he : exec (.fcCommitDone dt) s = .next (((s.elapse dt).takeForecast.set F.DOP_STAT.FC 1).set F.DOP_CTRL.FC_COMMIT 0).settle :=
    congrArg (fun x : State => Host.Outcome.next x.settle) (fcCommitDone_eq (s := s.elapse dt) hcommit)
  refine ⟨_, he, ?_, ?_, ?_, ?_, fun o ho => ?_⟩
  · rw [State.settle_bit_lt _ (by decide), State.bit_set_zero _ _ (by decide)]
  · rw [State.settle_bit_lt _ (by decide), State.bit_congr (State.get_set_other _ _ _ _ (by decide)), State.bit_set_one _ _ (by decide)]
  · rw [State.settle_get_lt _ (by decide), State.get_set_other _ _ _ _ (by decide), State.get_set_other _ _ _ _ (by decide),
      (s.elapse dt).takeForecast_seq]
    rfl
  · rw [State.settle_dop]
    rfl
  · rw [State.settle_word _ _ (dopFld_notAlarm _), State.word_set_other _ _ _ _ (dopFld_ne _ (by decide)),
      State.word_set_other _ _ _ _ (dopFld_ne _ (by decide)), (s.elapse dt).takeForecast_word]
    exact State.dopCopy_word (s := s.elapse dt) hcanon ho (by decide) (by decide)

end Sys2Proof.Machine
end

section
/-! A follower's plans (R279): the fragments of its leader, a plan that stays incomplete, the leader's timeout. -/
namespace Sys2Proof.Machine

variable {s : State} {src : Nat} {fr : TrajFragment}

theorem exec_trajFragmentReceived (dt src : Nat) (fr : TrajFragment) (w : Bool) (s : State) :
    exec (.trajFragmentReceived dt src fr w) s = .next (trajFragment src fr w (s.elapse dt)).settle := rfl
theorem exec_trajPlanIncomplete (dt : Nat) (s : State) :
    exec (.trajPlanIncomplete dt) s = .next (trajIncomplete (s.elapse dt)).settle := rfl
theorem exec_leaderTimeout (dt : Nat) (s : State) : exec (.leaderTimeout dt) s = .next (leaderTimeout (s.elapse dt)).settle := rfl

/-! ### Fragments -/

section Follower
variable (hsrc2 : s.get F.TRJ_CFG.SRC = 2) (hrun : s.bit F.TRJ_STAT.RUN = true)
include hsrc2 hrun

theorem trajFragment_stranger (hsrc : src ≠ s.get F.TRJ_CFG.LEADER) (w : Bool) : trajFragment src fr w s = s.flag F.TRJ_ERR.NOLEADER := by
  simp [trajFragment, hsrc2, hrun, hsrc]

theorem trajFragment_malformed (hsrc : src = s.get F.TRJ_CFG.LEADER) : trajFragment src fr false s = s.flag F.TRJ_ERR.FMT := by
  simp [trajFragment, hsrc2, hrun, hsrc]

/-- The plan that a first fragment begins. -/
def State.begunPlan (s : State) (fr : TrajFragment) : TrjPlan :=
  let hi := s.clock.sec / 2 ^ 32 * 2 ^ 32
  ⟨fr.plan, (hi + fr.aSec) * 10 ^ 9 + fr.aNs, (hi + fr.b0Sec) * 10 ^ 9, fr.stepMin, fr.n, [(fr.rch, fr.values)]⟩

/-- The plan being received. -/
def State.receiving (s : State) (x : Option (TrjPlan × Nat)) : State := { s with trj := { s.trj with rx := x } }

/-- A first fragment of a new plan from the leader begins its reception. -/
theorem trajFragment_begins (hsrc : src = s.get F.TRJ_CFG.LEADER) (hrx : s.trj.rx = none)
    (hnew : s.bit F.TRJ_STAT.PLAN = false ∨ s.trj.lastPlan < fr.plan) (hn : 2 ≤ fr.n) (hn' : fr.n ≤ 192) (hm : 1 ≤ fr.stepMin)
    (hm' : fr.stepMin ≤ 60) : trajFragment src fr true s = (s.receiving (some (s.begunPlan fr, fr.cnt))).followerPlan := by
  have hold : (s.bit F.TRJ_STAT.PLAN && decide (fr.plan ≤ s.trj.lastPlan)) = false := by
    rcases hnew with h | h
    · rw [h, Bool.false_and]
    · rw [decide_eq_false (Nat.not_le.mpr h), Bool.and_false]
  unfold trajFragment
  rw [if_neg (by simp [hsrc2, hrun]), if_neg (not_not.mpr hsrc), if_neg (by decide), if_neg (by simp [hold]),
    if_neg (by simp only [Bool.or_eq_true, decide_eq_true_eq]; omega)]
  simp only [hrx]
  rfl

end Follower

theorem State.followerPlan_waits {p : TrjPlan} {cnt : Nat} (h : p.vals.length ≠ cnt) :
    (s.receiving (some (p, cnt))).followerPlan = s.receiving (some (p, cnt)) := if_neg h

theorem State.followerPlan_whole {p : TrjPlan} {cnt : Nat} (h : p.vals.length = cnt) :
    (s.receiving (some (p, cnt))).followerPlan = (s.receiving none).applyPlan p := if_pos h

/-! ### The commands -/

section Received
variable {dt : Nat} (hsrc2 : s.get F.TRJ_CFG.SRC = 2) (hrun : s.bit F.TRJ_STAT.RUN = true)
include hsrc2 hrun

/-- A fragment of a sender other than the leader sets NOLEADER. -/
theorem exec_trajFragment_stranger (hsrc : src ≠ s.get F.TRJ_CFG.LEADER) (w : Bool) :
    ∃ t, exec (.trajFragmentReceived dt src fr w) s = .next t ∧ t.bit F.TRJ_ERR.NOLEADER = true ∧ OnlyWords [R.TRJ_ERR] (s.elapse dt) t :=
  exec_setsFlag (exec_trajFragmentReceived dt src fr w s) (trajFragment_stranger (s := s.elapse dt) hsrc2 hrun hsrc w) rfl (by decide) (by decide)

/-- A malformed one of the leader sets FMT. -/
theorem exec_trajFragment_malformed (hsrc : src = s.get F.TRJ_CFG.LEADER) :
    ∃ t, exec (.trajFragmentReceived dt src fr false) s = .next t ∧ t.bit F.TRJ_ERR.FMT = true ∧ OnlyWords [R.TRJ_ERR] (s.elapse dt) t :=
  exec_setsFlag (exec_trajFragmentReceived dt src fr false s) (trajFragment_malformed (s := s.elapse dt) hsrc2 hrun hsrc) rfl (by decide) (by decide)

variable (hsrc : src = s.get F.TRJ_CFG.LEADER) (hrx : s.trj.rx = none) (hnew : s.bit F.TRJ_STAT.PLAN = false ∨ s.trj.lastPlan < fr.plan)
  (hn : 2 ≤ fr.n) (hn' : fr.n ≤ 192) (hm : 1 ≤ fr.stepMin) (hm' : fr.stepMin ≤ 60)
include hsrc hrx hnew hn hn' hm hm'

/-- While other fragments are due the plan is being received. -/
theorem exec_trajFragment_waits (hcnt : 1 < fr.cnt) :
    ∃ t p, exec (.trajFragmentReceived dt src fr true) s = .next t ∧ t.trj.rx = some (p, fr.cnt) ∧ p.seq = fr.plan ∧
      p.vals = [(fr.rch, fr.values)] ∧ SameWords [] s t := by
  have he := (trajFragment_begins (s := s.elapse dt) hsrc2 hrun hsrc hrx hnew hn hn' hm hm').trans
    (State.followerPlan_waits (p := (s.elapse dt).begunPlan fr) (Nat.ne_of_lt hcnt))
  refine ⟨_, (s.elapse dt).begunPlan fr, exec_trajFragmentReceived dt src fr true s, ?_, rfl, rfl, SameWords.settle ?_⟩ <;> rw [he]
  · rw [State.settle_trj]
    rfl
  · exact SameWords.refl [] s

/-- The only fragment of a plan applies it. -/
theorem exec_trajFragment_applies (hcnt : fr.cnt = 1) :
    ∃ t, exec (.trajFragmentReceived dt src fr true) s = .next t ∧ t.trj.rx = none ∧ t.trj.buf = 1 - s.trj.buf ∧ t.trj.lastPlan = fr.plan ∧
      t.get F.TRJ_SEQ.PLAN = fr.plan % 2 ^ 32 ∧ t.bit F.TRJ_STAT.PLAN = true ∧
      t.get F.TRJ_RX_CNT.COUNT = min (s.get F.TRJ_RX_CNT.COUNT + 1) 0xFFFFFFFF := by
  have he := (trajFragment_begins (s := s.elapse dt) hsrc2 hrun hsrc hrx hnew hn hn' hm hm').trans
    (State.followerPlan_whole (p := (s.elapse dt).begunPlan fr) hcnt.symm)
  obtain ⟨-, htrj, hseq, hplan, hcount⟩ := ((s.elapse dt).receiving none).applyPlan_applied ((s.elapse dt).begunPlan fr)
  refine ⟨_, exec_trajFragmentReceived dt src fr true s, ?_⟩
  rw [he, State.settle_trj, State.settle_get_lt _ (by decide), State.settle_bit_lt _ (by decide), State.settle_get_lt _ (by decide), htrj]
  exact ⟨rfl, rfl, rfl, hseq, hplan, hcount⟩

end Received

/-- A plan that stays incomplete is discarded. -/
theorem exec_trajPlanIncomplete_discards (dt : Nat) {x : TrjPlan × Nat} (hx : s.trj.rx = some x) :
    ∃ t, exec (.trajPlanIncomplete dt) s = .next t ∧ t.trj = { s.trj with rx := none } ∧ t.bit F.TRJ_ERR.INCOMPLETE = true ∧
      SameWords [R.TRJ_ERR] s t := by
  have he : trajIncomplete (s.elapse dt) = ((s.elapse dt).receiving none).flag F.TRJ_ERR.INCOMPLETE := by
    unfold trajIncomplete
    rw [State.elapse_trj, hx]
    rfl
  refine ⟨_, exec_trajPlanIncomplete dt s, ?_⟩
  rw [he, State.settle_trj, State.settle_bit_lt _ (by decide), State.bit_flag_same _ _ rfl (by decide)]
  exact ⟨rfl, rfl, SameWords.settle (SameWords.set (SameWords.refl [R.TRJ_ERR] s) F.TRJ_ERR.INCOMPLETE 1 (by decide))⟩

/-- The leader's timeout shows LEADER_LOST. -/
theorem exec_leaderTimeout_shows (dt : Nat) (hsrc2 : s.get F.TRJ_CFG.SRC = 2) :
    ∃ t, exec (.leaderTimeout dt) s = .next t ∧ t.bit F.TRJ_STAT.LEADER_LOST = true ∧ OnlyWords [R.TRJ_STAT] (s.elapse dt) t := by
  have he : leaderTimeout (s.elapse dt) = (s.elapse dt).set F.TRJ_STAT.LEADER_LOST 1 := if_pos hsrc2
  refine ⟨_, exec_leaderTimeout dt s, ?_⟩
  rw [he, State.settle_bit_lt _ (by decide)]
  exact ⟨State.bit_set_one _ _ (by decide), ((OnlyWords.refl _ _).set F.TRJ_STAT.LEADER_LOST 1 (by decide)).settle⟩

end Sys2Proof.Machine
end

section
/-! The commands of a coupling round; O42. -/
namespace Sys2Proof.Machine

variable {s : State} {dt src : Nat} {fr : CouplingFragment}

theorem exec_couplingRoundSend (dt : Nat) (e : List (Nat × List (List Word))) (s : State) :
    exec (.couplingRoundSend dt e) s = .next (couplingRoundSend e (s.elapse dt)).settle := rfl
theorem exec_couplingFragmentReceived (dt src : Nat) (fr : CouplingFragment) (s : State) :
    exec (.couplingFragmentReceived dt src fr) s = .next (couplingFragment src fr (s.elapse dt)).settle := rfl
theorem exec_roundWaitExpiry (dt : Nat) (s : State) : exec (.roundWaitExpiry dt) s = .next (roundWait (s.elapse dt)).settle := rfl

/-- A round is sent while a neighbour's fragments are missing (R270). -/
theorem exec_couplingRoundSend_waits (hsolve : s.bit F.DOP_STAT.SOLVING = true) (hphase : s.get F.DOP_STAT.PHASE = 3)
    (e : List (Nat × List (List Word))) (hunsent : s.dop.sent = false)
    (hmiss : ∃ j ∈ s.coupledNbs, ((s.dnb j).ofRound s.dop.round false (s.get (T.DOP_NB.NV j))).length ≠ s.get (T.DOP_NB.NV j)) :
    ∃ t, exec (.couplingRoundSend dt e) s = .next t ∧ t.dop.sent = true ∧ t.dop.round = s.dop.round ∧ t.get F.DOP_STAT.PHASE = 3 := by
  obtain ⟨conv, he⟩ := couplingRoundSend_waits (s := s.elapse dt) hsolve hphase hunsent hmiss e
  have hsame := (s.elapse dt).sendRound_coupling e conv
  refine ⟨_, exec_couplingRoundSend dt e s, ?_⟩
  rw [he, State.settle_dop, State.settle_get_lt _ (by decide), hsame.round, hsame.get _ (by decide), State.sendRound_dop]
  exact ⟨rfl, rfl, hphase⟩

/-- The end of the round's wait closes a round that was sent (R270). -/
theorem exec_roundWaitExpiry_closes (hsolve : s.bit F.DOP_STAT.SOLVING = true) (hphase : s.get F.DOP_STAT.PHASE = 3)
    (hsent : s.dop.sent = true) :
    ∃ t, exec (.roundWaitExpiry dt) s = .next t ∧ t.dop.round = s.dop.round + 1 ∧ t.dop.sent = false := by
  have he : roundWait (s.elapse dt) = _ := roundWait_sent hsolve hphase hsent
  refine ⟨_, exec_roundWaitExpiry dt s, ?_⟩
  rw [he, State.settle_dop]
  exact (s.elapse dt).endRound_next

/-- A fragment from a node that is no neighbour sets NB_CFG (R269). -/
theorem exec_couplingFragment_unknown (hrun : s.bit F.DOP_STAT.RUN = true) (hnode : ∀ j ∈ s.dopNbs, s.get (T.DOP_NB.NODE j) ≠ src) :
    ∃ t, exec (.couplingFragmentReceived dt src fr) s = .next t ∧ t.bit F.DOP_ERR.NB_CFG = true ∧ OnlyWords [R.DOP_ERR] (s.elapse dt) t :=
  exec_setsFlag (exec_couplingFragmentReceived dt src fr s) (couplingFragment_unknown (s := s.elapse dt) hrun hnode) rfl (by decide) (by decide)

/-- Settles O42: sending leaves what the neighbours have delivered, a copy moves each word of the canonical store once, and a plan is applied by the
rules that DOP's own plans follow. -/
theorem couplingRoundsForecastsAndFollowedPlans : Obligations.CouplingRoundsForecastsAndFollowedPlans := by
  unfold Obligations.CouplingRoundsForecastsAndFollowedPlans
  intro s dt
  refine ⟨fun hsolve hphase => ⟨exec_couplingRoundSend_waits hsolve hphase, exec_roundWaitExpiry_closes hsolve hphase, fun hunsent =>
      exec_idle (exec_roundWaitExpiry dt s) (roundWait_unsent (s := s.elapse dt) hunsent)⟩,
    fun hrun src fr => ⟨exec_couplingFragment_unknown hrun, ?_⟩,
    fun hdop => ⟨fun rq v => exec_dopHoldWrite_shows dt hdop v, fun rq => exec_fcCommit_shows dt hdop, fun rq v hw =>
      ⟨exec_fcDataWrite_stages dt hdop v hw, exec_fcDataWrite_busy dt hdop v hw⟩⟩,
    exec_fcCommitDone_copies dt,
    fun src fr hsrc2 hrun => ⟨exec_trajFragment_stranger hsrc2 hrun, exec_trajFragment_malformed hsrc2 hrun,
      fun hsrc hrx hnew hn hn' hm hm' => ⟨exec_trajFragment_waits hsrc2 hrun hsrc hrx hnew hn hn' hm hm',
        exec_trajFragment_applies hsrc2 hrun hsrc hrx hnew hn hn' hm hm'⟩⟩,
    fun x => exec_trajPlanIncomplete_discards dt, exec_leaderTimeout_shows dt⟩
  intro j hfind hitie hnv hn hm hrho hsolve hlocal hepoch hstate hended hunsent hround hdone hnew
  have he := couplingFragment_kept (s := s.elapse dt) hrun hfind ⟨hitie, hnv, hn, hm, hrho, hepoch⟩ hsolve hlocal hstate hended hunsent hround
    hdone hnew
  refine ⟨_, exec_couplingFragmentReceived dt src fr s, ?_, SameWords.settle ?_⟩ <;> rw [he]
  · rw [State.dnb, State.settle_dop]
    exact (s.elapse dt).dnb_setDnb j _
  · exact SameWords.refl [] s

end Sys2Proof.Machine
end

section
/-! What commanding outputs and switching load groups leave alone (R292 to R298): the transfer machine's state, the sources, the switches' timers. -/
namespace Sys2Proof.Machine

variable {s t u : State} {n m : Nat}

/-! ### Fast outputs and inputs -/

/-- One bit of a field is the field of that bit. -/
theorem State.get_div_pow_mod_two (s : State) (k l : Nat) {w i : Nat} (hi : i < w) : s.get ⟨k, l, w⟩ / 2 ^ i % 2 = s.get ⟨k, l + i, 1⟩ := by
  have h := congrArg Bool.toNat (Nat.testBit_mod_two_pow ((s.word k).toNat / 2 ^ l) w i)
  rw [Nat.toNat_testBit, decide_eq_true hi, Bool.true_and, Nat.toNat_testBit, Nat.div_div_eq_div_mul, ← Nat.pow_add] at h
  exact h

theorem State.foCmd_eq (s : State) (hn : n < 8) : s.foCmd n = s.bit ⟨R.CSB_FO_STAT, n, 1⟩ := by
  unfold State.foCmd State.bit
  rw [s.get_div_pow_mod_two R.CSB_FO_STAT 0 hn, Nat.zero_add]

theorem State.fi_eq (s : State) (hn : n < 8) : s.fi n = s.bit ⟨R.CSB_FO_STAT, 8 + n, 1⟩ := by
  unfold State.fi State.bit
  rw [s.get_div_pow_mod_two R.CSB_FO_STAT 8 hn]

theorem State.foRole_spec {r : Nat} (h : s.foRole r = some n) : n < 8 ∧ s.get (F.CSB_FOn_CFG.ROLE n) = r :=
  ⟨List.mem_range.mp (List.mem_of_find?_eq_some h), by simpa using List.find?_some h⟩

/-! ### The relation -/

/-- The words that show the outputs and the load groups. -/
def outputKeys : List Nat := [R.CSB_STAT, R.CSB_FO_STAT, R.CSB_GRP_ONn 0, R.CSB_GRP_ONn 1, R.CSB_GRP_SHEDn 0, R.CSB_GRP_SHEDn 1]

/-- Only those words changed, of CSB_STAT only ALT_START and RESTORING and of CSB_FO_STAT only the commands; of CSB's own state only the pulse
tests and the groups' lists. -/
structure OutputsOnly (s t : State) : Prop where
  words : ∀ k, k ∉ outputKeys → t.word k = s.word k
  stat : ∀ l w, l + w ≤ 11 → t.get ⟨R.CSB_STAT, l, w⟩ = s.get ⟨R.CSB_STAT, l, w⟩
  inputs : ∀ l w, 8 ≤ l → t.get ⟨R.CSB_FO_STAT, l, w⟩ = s.get ⟨R.CSB_FO_STAT, l, w⟩
  saf : t.saf = s.saf
  csb : t.csb = { s.csb with test := t.csb.test, recalling := t.csb.recalling, waiting := t.csb.waiting, shedSince := t.csb.shedSince }

namespace OutputsOnly

theorem refl (s : State) : OutputsOnly s s := ⟨fun _ _ => rfl, fun _ _ _ => rfl, fun _ _ _ => rfl, rfl, rfl⟩

theorem trans (h1 : OutputsOnly s t) (h2 : OutputsOnly t u) : OutputsOnly s u :=
  ⟨fun k hk => (h2.words k hk).trans (h1.words k hk), fun l w hl => (h2.stat l w hl).trans (h1.stat l w hl),
    fun l w hl => (h2.inputs l w hl).trans (h1.inputs l w hl), h2.saf.trans h1.saf, by rw [h2.csb, h1.csb]⟩

/-- A change of other units' own state, or of the lists and the tests. -/
theorem other (h : OutputsOnly s t) (hw : u.words = t.words := by rfl) (hs : u.saf = t.saf := by rfl)
    (hc : u.csb = { t.csb with test := u.csb.test, recalling := u.csb.recalling, waiting := u.csb.waiting, shedSince := u.csb.shedSince } := by rfl) :
    OutputsOnly s u := by
  have hword (k : Nat) : u.word k = t.word k := by unfold State.word; rw [hw]
  have hget (f : Fld) : u.get f = t.get f := by unfold State.get; rw [hword]
  exact h.trans ⟨fun k _ => hword k, fun _ _ _ => hget _, fun _ _ _ => hget _, hs, hc⟩

/-- A group's bit, an output's command, ALT_START or RESTORING. -/
theorem set (h : OutputsOnly s t) (f : Fld) (v : Nat) (hkey : f.key ∈ outputKeys) (hstat : f.key = R.CSB_STAT → 11 ≤ f.lsb)
    (hcmd : f.key = R.CSB_FO_STAT → f.lsb + f.width ≤ 8) : OutputsOnly s (t.set f v) := by
  refine h.trans ⟨fun k hk => t.word_set_other f v k fun e => hk (e ▸ hkey), fun l w hl => t.get_set_other f _ v ?_,
    fun l w hl => t.get_set_other f _ v ?_, rfl, rfl⟩
  · by_cases e : R.CSB_STAT = f.key
    · exact .inr (.inl (hl.trans (hstat e.symm)))
    · exact .inl e
  · by_cases e : R.CSB_FO_STAT = f.key
    · exact .inr (.inr ((hcmd e.symm).trans hl))
    · exact .inl e

theorem ite {c : Prop} [Decidable c] (h1 : OutputsOnly s t) (h2 : OutputsOnly s u) : OutputsOnly s (if c then t else u) := by
  split
  · exact h1
  · exact h2

/-- A step repeated over a list. -/
theorem foldl {α : Type} {f : State → α → State} {l : List α} (h : OutputsOnly s t) (hf : ∀ u, ∀ a ∈ l, OutputsOnly u (f u a)) :
    OutputsOnly s (l.foldl f t) := by
  induction l generalizing t with
  | nil => exact h
  | cons a l ih => exact ih (h.trans (hf t a (List.mem_cons_self ..))) fun u b hb => hf u b (List.mem_cons_of_mem a hb)

theorem get (h : OutputsOnly s t) (f : Fld) (hf : f.key ∉ outputKeys) : t.get f = s.get f := by
  unfold State.get
  rw [h.words f.key hf]

theorem fi (h : OutputsOnly s t) (k : Nat) : t.fi k = s.fi k := by
  unfold State.fi
  rw [h.inputs 8 8 (Nat.le_refl _)]

end OutputsOnly

theorem State.setBit_outputs (s : State) (f : Fld) (b : Bool) (hkey : f.key ∈ outputKeys) (hstat : f.key = R.CSB_STAT → 11 ≤ f.lsb)
    (hcmd : f.key = R.CSB_FO_STAT → f.lsb + f.width ≤ 8) : OutputsOnly s (s.setBit f b) := (OutputsOnly.refl s).set f _ hkey hstat hcmd

/-! ### Outputs and groups -/

theorem State.setFo_outputs (s : State) (n : Nat) (on : Bool) : OutputsOnly s (s.setFo n on) :=
  (s.setBit_outputs ⟨R.CSB_FO_STAT, n % 8, 1⟩ on (show R.CSB_FO_STAT ∈ outputKeys by decide)
    (fun e => absurd e (show R.CSB_FO_STAT ≠ R.CSB_STAT by decide)) (fun _ => Nat.mod_lt n (by decide))).other

theorem State.outField_outputs (s : State) (stn ofs dt : Nat) (x : Num) : OutputsOnly s (s.outField stn ofs dt x) := by
  have hpage : PageOnly s (s.outField stn ofs dt x) := ((s.pageWrite_only ..).trans (State.pageWrite_only ..)).trans (State.pageWrite_only ..)
  unfold PageOnly at hpage
  exact (OutputsOnly.refl s).other (s.outField_words ..) (by rw [hpage]) (by rw [hpage])

theorem State.driveGroupOut_outputs (s : State) (kind addr : Nat) (on : Bool) : OutputsOnly s (s.driveGroupOut kind addr on) := by
  unfold State.driveGroupOut
  split
  · exact s.setFo_outputs ..
  · exact s.outField_outputs ..
  · exact .refl s

/-- The words of a group's bits. -/
theorem groupKeys_spec {g : Nat} (hg : g < 64) : (onFld g).key ∈ outputKeys.drop 2 ∧ (shedFld g).key ∈ outputKeys.drop 2 := by
  have hw : g / 32 = 0 ∨ g / 32 = 1 := by omega
  rcases hw with e | e <;> (simp only [onFld, shedFld, e]; decide)

theorem OutputsOnly.setGroup (h : OutputsOnly s t) (f : Fld) (v : Nat) (hf : f.key ∈ outputKeys.drop 2) : OutputsOnly s (t.set f v) :=
  h.set f v (List.mem_of_mem_drop hf) (fun e => absurd (e ▸ hf) (by decide)) (fun e => absurd (e ▸ hf) (by decide))

theorem State.groupSet_outputs (s : State) {g : Nat} (hg : g < 64) (on : Bool) : OutputsOnly s (s.groupSet g on) :=
  (s.driveGroupOut_outputs ..).setGroup (onFld g) _ (groupKeys_spec hg).1

theorem State.shedGroup_outputs (s : State) {g : Nat} (hg : g < 64) : OutputsOnly s (s.shedGroup g) := by
  have hshed := (s.groupSet_outputs hg false).setGroup (shedFld g) 1 (groupKeys_spec hg).2
  exact (OutputsOnly.ite (hshed.trans (State.driveGroupOut_outputs ..)) hshed).other

theorem State.recallGroup_outputs (s : State) {g : Nat} (hg : g < 64) : OutputsOnly s (s.recallGroup g) := by
  have hdriven := s.driveGroupOut_outputs (s.get (T.CSB_GRP.RCL_KIND g)) (s.get (T.CSB_GRP.RCL_ADDR g)) true
  unfold State.recallGroup
  dsimp only
  split
  · exact hdriven.other.trans (State.shedGroup_outputs _ hg)
  · exact hdriven.other

theorem State.groups_lt {g : Nat} (h : g ∈ s.groups) : g < 64 := by
  unfold State.groups State.entries at h
  obtain ⟨e, -, he⟩ := List.mem_filterMap.mp h
  simp only [Option.ite_none_right_eq_some, Bool.and_eq_true, decide_eq_true_eq] at he
  obtain ⟨⟨⟨⟨hlo, hhi⟩, _⟩, _⟩, hg⟩ := he
  rw [← Option.some.inj hg]
  omega

theorem State.recallAll_outputs (s : State) : OutputsOnly s s.recallAll :=
  .ite (.refl s) <| (OutputsOnly.refl s).foldl fun u _ hg => .ite (u.recallGroup_outputs (State.groups_lt hg)) (.refl u)

/-- Each listed output of ROLE 4 that is not commanded so already is commanded on or off. -/
def State.driveStarts (s : State) (on : Bool) (l : List Nat) : State :=
  l.foldl (fun s n => if s.get (F.CSB_FOn_CFG.ROLE n) = 4 ∧ s.foCmd n ≠ on then s.setFo n on else s) s

/-- The alternate start is on in every state other than NORMAL and OFF (R290). -/
def State.startsOn (s : State) : Bool := s.get F.CSB_STAT.STATE != 0 && s.get F.CSB_STAT.STATE != 1

theorem State.altStart_eq (s : State) : s.altStart = (s.driveStarts s.startsOn (List.range 8)).setBit F.CSB_STAT.ALT_START
    (s.startsOn && (List.range 8).any fun n => s.get (F.CSB_FOn_CFG.ROLE n) == 4) := rfl

theorem State.altStart_outputs (s : State) : OutputsOnly s s.altStart := by
  have hdriven : OutputsOnly s (s.driveStarts s.startsOn (List.range 8)) :=
    (OutputsOnly.refl s).foldl fun u j _ => .ite (u.setFo_outputs j _) (.refl u)
  rw [s.altStart_eq]
  exact hdriven.trans (State.setBit_outputs _ F.CSB_STAT.ALT_START _ (by decide) (by decide) (by decide))

/-- What an entry into NORMAL forgets: that the return is due, or commanded. -/
def State.dropReturn (s : State) : State := { s with csb := { s.csb with retDone := false, returnCmd := false } }

theorem OutputsOnly.dropReturn (h : OutputsOnly s t) : OutputsOnly s.dropReturn t.dropReturn :=
  ⟨h.words, h.stat, h.inputs, h.saf, by unfold State.dropReturn; dsimp only; rw [h.csb]⟩

theorem State.enterNormal_outputs (s : State) : OutputsOnly s.dropReturn s.enterNormal := by
  have hoff : OutputsOnly s (s.csb.recalling.foldl
      (fun s g => s.driveGroupOut (s.get (T.CSB_GRP.RCL_KIND g)) (s.get (T.CSB_GRP.RCL_ADDR g)) false) s) :=
    (OutputsOnly.refl s).foldl fun u _ _ => u.driveGroupOut_outputs ..
  have hnone := hoff.dropReturn
  unfold State.enterNormal
  dsimp only
  split
  · exact hnone.other.trans (State.setBit_outputs _ F.CSB_STAT.RESTORING _ (by decide) (by decide) (by decide))
  · exact hnone.other

/-! ### The command of an output -/

theorem State.setFo_foCmd_same (s : State) (hn : n < 8) (on : Bool) : (s.setFo n on).foCmd n = on := by
  have h : (s.setFo n on).foCmd n = (s.setBit ⟨R.CSB_FO_STAT, n % 8, 1⟩ on).foCmd n := rfl
  rw [h, State.foCmd_eq _ hn, Nat.mod_eq_of_lt hn]
  exact State.bit_setBit_same _ _ _ (by dsimp only; omega) Nat.one_pos

theorem State.setFo_foCmd_other (s : State) (hn : n < 8) (hm : m < 8) (hne : n ≠ m) (on : Bool) : (s.setFo m on).foCmd n = s.foCmd n := by
  have h : (s.setFo m on).foCmd n = (s.setBit ⟨R.CSB_FO_STAT, m % 8, 1⟩ on).foCmd n := rfl
  rw [h, State.foCmd_eq _ hn, State.foCmd_eq _ hn, Nat.mod_eq_of_lt hm]
  exact State.bit_setBit_other _ _ _ _ (.inr (by dsimp only; omega))

theorem State.setFo_role (s : State) (n : Nat) (on : Bool) {j : Nat} (hj : j < 8) :
    (s.setFo n on).get (F.CSB_FOn_CFG.ROLE j) = s.get (F.CSB_FOn_CFG.ROLE j) :=
  (s.setFo_outputs n on).get _ (by simp only [outputKeys, R.CSB_FOn_CFG, R.CSB_STAT, R.CSB_FO_STAT, R.CSB_GRP_ONn, R.CSB_GRP_SHEDn]; simp; omega)

theorem State.driveStarts_foCmd (on : Bool) (hn : n < 8) {l : List Nat} (hl : ∀ j ∈ l, j < 8) (hrole : s.get (F.CSB_FOn_CFG.ROLE n) ≠ 4) :
    (s.driveStarts on l).foCmd n = s.foCmd n := by
  unfold State.driveStarts
  induction l generalizing s with
  | nil => rfl
  | cons j l ih =>
    obtain ⟨hj, hl⟩ := List.forall_mem_cons.mp hl
    rw [List.foldl_cons]
    split
    · next hc =>
      have hne : n ≠ j := fun e => hrole (e ▸ hc.1)
      rw [ih hl (by rwa [s.setFo_role j on hn]), s.setFo_foCmd_other hn hj hne]
    · exact ih hl hrole

/-- The alternate start commands outputs of ROLE 4 alone. -/
theorem State.altStart_foCmd (s : State) (hn : n < 8) (hrole : s.get (F.CSB_FOn_CFG.ROLE n) ≠ 4) : s.altStart.foCmd n = s.foCmd n := by
  rw [s.altStart_eq, State.foCmd_eq _ hn, State.bit_setBit_other _ _ _ _ (.inl (show R.CSB_FO_STAT ≠ R.CSB_STAT by decide)),
    ← State.foCmd_eq _ hn]
  exact State.driveStarts_foCmd _ hn (fun j hj => List.mem_range.mp hj) hrole

end Sys2Proof.Machine
end

section
/-! What the transfer machine's two steps do (R289, R290): a switch is commanded, a state is taken. -/
namespace Sys2Proof.Machine

variable {s t : State} {n m st : Nat}

/-! ### A switch is commanded (R289) -/

/-- The timers of a switch that is commanded start. -/
def CsbSt.commanded (c : CsbSt) (alt on : Bool) : CsbSt :=
  if alt then { c with brk2 := false, dead2 := if on then c.dead2 else false } else { c with brk1 := false, dead1 := if on then c.dead1 else false }

theorem State.swSet_outputs (s : State) (alt on : Bool) : OutputsOnly { s with csb := s.csb.commanded alt on } (s.swSet alt on) := by
  have hset (x : State) (hx : OutputsOnly s x) :
      OutputsOnly { s with csb := s.csb.commanded alt on } { x with csb := x.csb.commanded alt on } :=
    ⟨hx.words, hx.stat, hx.inputs, hx.saf, by dsimp only; rw [hx.csb]; cases alt <;> rfl⟩
  have htimers (x : State) : (if alt = true then { x with csb := { x.csb with brk2 := false, dead2 := if on then x.csb.dead2 else false } }
      else { x with csb := { x.csb with brk1 := false, dead1 := if on then x.csb.dead1 else false } }) =
      { x with csb := x.csb.commanded alt on } := by cases alt <;> rfl
  unfold State.swSet
  dsimp only
  rw [htimers]
  split
  · exact hset _ (s.setFo_outputs ..)
  · exact hset _ (.refl s)

theorem State.swSet_foCmd {alt : Bool} (h : s.foRole (if alt then 2 else 1) = some n) (on : Bool) : (s.swSet alt on).foCmd n = on := by
  have hcmd : (s.swSet alt on).foCmd n = (s.setFo n on).foCmd n := by
    unfold State.swSet
    rw [h]
    cases alt <;> rfl
  rw [hcmd, s.setFo_foCmd_same (State.foRole_spec h).1]

theorem State.swSet_get (s : State) (alt on : Bool) (f : Fld) (hf : f.key ∉ outputKeys) : (s.swSet alt on).get f = s.get f :=
  (s.swSet_outputs alt on).get f hf

theorem State.swSet_stat (s : State) (alt on : Bool) (l w : Nat) (h : l + w ≤ 11) :
    (s.swSet alt on).get ⟨R.CSB_STAT, l, w⟩ = s.get ⟨R.CSB_STAT, l, w⟩ := (s.swSet_outputs alt on).stat l w h

theorem State.swSet_saf (s : State) (alt on : Bool) : (s.swSet alt on).saf = s.saf := (s.swSet_outputs alt on).saf

theorem State.swSet_brk1 (s : State) (on : Bool) : (s.swSet false on).csb.brk1 = false := by rw [(s.swSet_outputs false on).csb]; rfl
theorem State.swSet_brk2 (s : State) (on : Bool) : (s.swSet true on).csb.brk2 = false := by rw [(s.swSet_outputs true on).csb]; rfl

/-! ### A state is taken (Table 11.2) -/

/-- The words that a taken state writes: the state, and the count of entries into NORMAL and ALTERNATE. -/
def State.showState (s : State) (st : Nat) : State :=
  if (st = 1 ∨ st = 5) ∧ s.get F.CSB_STAT.STATE ≠ st ∧ s.get F.CSB_STAT.STATE ≠ 0 then (s.set F.CSB_STAT.STATE st).inc F.CSB_TRF_CNT.COUNT
  else s.set F.CSB_STAT.STATE st

/-- What the machine forgets: in every state SYNC_WAIT's end and the sync checks met, in NORMAL also that the return is due, or commanded. -/
def CsbSt.entered (c : CsbSt) (st was : Nat) : CsbSt :=
  { c with syncTmo := false, syncRun := 0, after7 := st == 8 && was == 7, retDone := st != 1 && c.retDone, returnCmd := st != 1 && c.returnCmd }

/-- A state is taken, before outputs and groups follow. -/
def State.enterState (s : State) (st : Nat) : State := { s.showState st with csb := s.csb.entered st (s.get F.CSB_STAT.STATE) }

theorem State.showState_csb (s : State) (st : Nat) : (s.showState st).csb = s.csb := by unfold State.showState; split <;> rfl
theorem State.showState_saf (s : State) (st : Nat) : (s.showState st).saf = s.saf := by unfold State.showState; split <;> rfl

/-- The machine's memory of the overlap and of the synchronous wait. -/
def State.forgetWait (s : State) (st was : Nat) : State :=
  { s with csb := { s.csb with syncTmo := false, syncRun := 0, after7 := st == 8 && was == 7 } }

theorem State.csbTo_eq (s : State) (st : Nat) : s.csbTo st =
    if st = 1 then ((s.showState st).forgetWait st (s.get F.CSB_STAT.STATE)).altStart.enterNormal
    else if st = 5 ∧ s.get F.CSB_STAT.STATE ≠ 5 then ((s.showState st).forgetWait st (s.get F.CSB_STAT.STATE)).altStart.recallAll
    else ((s.showState st).forgetWait st (s.get F.CSB_STAT.STATE)).altStart := rfl

theorem State.forgetWait_showState (s : State) (h : st ≠ 1) : (s.showState st).forgetWait st (s.get F.CSB_STAT.STATE) = s.enterState st := by
  have hne : (st != 1) = true := bne_iff_ne.mpr h
  unfold State.forgetWait State.enterState CsbSt.entered
  rw [s.showState_csb, hne]
  rfl

theorem State.dropReturn_forgetWait_showState (s : State) :
    ((s.showState 1).forgetWait 1 (s.get F.CSB_STAT.STATE)).dropReturn = s.enterState 1 := by
  unfold State.dropReturn State.forgetWait State.enterState CsbSt.entered
  dsimp only
  rw [s.showState_csb]
  rfl

/-- Once a state is taken, only outputs and groups follow. -/
theorem State.csbTo_outputs (s : State) (st : Nat) : OutputsOnly (s.enterState st) (s.csbTo st) := by
  rw [s.csbTo_eq]
  split
  · next h =>
    subst h
    rw [← s.dropReturn_forgetWait_showState]
    exact (State.altStart_outputs _).dropReturn.trans (State.enterNormal_outputs _)
  · next h =>
    rw [s.forgetWait_showState h]
    exact .ite ((State.altStart_outputs _).trans (State.recallAll_outputs _)) (State.altStart_outputs _)

theorem State.showState_get (s : State) (st : Nat) {f : Fld} (hstat : Apart f F.CSB_STAT.STATE) (hcnt : f.key ≠ R.CSB_TRF_CNT) :
    (s.showState st).get f = s.get f := by
  have h : (s.set F.CSB_STAT.STATE st).get f = s.get f := s.get_set_other _ _ _ hstat
  unfold State.showState
  split
  · unfold State.inc
    rw [State.get_set_other _ _ _ _ (.inl hcnt), h]
  · exact h

theorem State.showState_state (s : State) (h : st < 16) : (s.showState st).get F.CSB_STAT.STATE = st := by
  have hset : (s.set F.CSB_STAT.STATE st).get F.CSB_STAT.STATE = st := s.get_set_fits R.CSB_STAT (by decide) h
  unfold State.showState
  split
  · unfold State.inc
    rw [State.get_set_other _ _ _ _ (by decide), hset]
  · exact hset

/-- An entry into NORMAL or ALTERNATE from another state is counted (Table 11.6). -/
theorem State.showState_count (s : State) (hst : st = 1 ∨ st = 5) (hwas : s.get F.CSB_STAT.STATE ≠ st) (hoff : s.get F.CSB_STAT.STATE ≠ 0) :
    (s.showState st).get F.CSB_TRF_CNT.COUNT = min (s.get F.CSB_TRF_CNT.COUNT + 1) 0xFFFFFFFF := by
  unfold State.showState
  rw [if_pos ⟨hst, hwas, hoff⟩, State.get_inc_same _ _ (by decide), State.get_set_other _ _ _ _ (by decide)]
  rfl

/-! ### What a taken state shows and keeps -/

/-- A taken state leaves the words of neither outputs, groups nor the count. -/
theorem State.csbTo_get (s : State) (st : Nat) {f : Fld} (hf : f.key ∉ outputKeys) (hcnt : f.key ≠ R.CSB_TRF_CNT) :
    (s.csbTo st).get f = s.get f :=
  ((s.csbTo_outputs st).get f hf).trans (s.showState_get st (.inl fun e => hf (e ▸ by decide)) hcnt)

/-- It leaves the sources, the detectors and SYNC_OK. -/
theorem State.csbTo_stat (s : State) (st l w : Nat) (hlo : 4 ≤ l) (hhi : l + w ≤ 11) :
    (s.csbTo st).get ⟨R.CSB_STAT, l, w⟩ = s.get ⟨R.CSB_STAT, l, w⟩ :=
  ((s.csbTo_outputs st).stat l w hhi).trans (s.showState_get st (.inr (.inr hlo)) (show R.CSB_STAT ≠ R.CSB_TRF_CNT by decide))

theorem State.csbTo_state (s : State) (h : st < 16) : (s.csbTo st).get F.CSB_STAT.STATE = st :=
  ((s.csbTo_outputs st).stat 0 4 (by decide)).trans (s.showState_state h)

theorem State.csbTo_count (s : State) (hst : st = 1 ∨ st = 5) (hwas : s.get F.CSB_STAT.STATE ≠ st) (hoff : s.get F.CSB_STAT.STATE ≠ 0) :
    (s.csbTo st).get F.CSB_TRF_CNT.COUNT = min (s.get F.CSB_TRF_CNT.COUNT + 1) 0xFFFFFFFF :=
  ((s.csbTo_outputs st).get _ (by decide)).trans (s.showState_count hst hwas hoff)

theorem State.csbTo_fi (s : State) (st k : Nat) : (s.csbTo st).fi k = s.fi k := by
  have h : (s.showState st).get F.CSB_FO_STAT.FI = s.get F.CSB_FO_STAT.FI := s.showState_get st (.inl (by decide)) (by decide)
  rw [(s.csbTo_outputs st).fi]
  unfold State.fi
  rw [← h]
  rfl

theorem State.csbTo_saf (s : State) (st : Nat) : (s.csbTo st).saf = s.saf := (s.csbTo_outputs st).saf.trans (s.showState_saf st)

theorem State.csbTo_brk1 (s : State) (st : Nat) : (s.csbTo st).csb.brk1 = s.csb.brk1 := by rw [(s.csbTo_outputs st).csb]; rfl
theorem State.csbTo_brk2 (s : State) (st : Nat) : (s.csbTo st).csb.brk2 = s.csb.brk2 := by rw [(s.csbTo_outputs st).csb]; rfl
theorem State.csbTo_syncTmo (s : State) (st : Nat) : (s.csbTo st).csb.syncTmo = false := by rw [(s.csbTo_outputs st).csb]; rfl
theorem State.csbTo_syncRun (s : State) (st : Nat) : (s.csbTo st).csb.syncRun = 0 := by rw [(s.csbTo_outputs st).csb]; rfl
theorem State.csbTo_returnCmd (s : State) (h : s.csb.returnCmd = false) (st : Nat) : (s.csbTo st).csb.returnCmd = false := by
  have he : (s.csbTo st).csb.returnCmd = (st != 1 && s.csb.returnCmd) := by rw [(s.csbTo_outputs st).csb]; rfl
  rw [he, h, Bool.and_false]

/-- Where no group follows, no output does but those of ROLE 4. -/
theorem State.csbTo_foCmd (s : State) (h1 : st ≠ 1) (h5 : st ≠ 5) (hn : n < 8) (hrole : s.get (F.CSB_FOn_CFG.ROLE n) ≠ 4) :
    (s.csbTo st).foCmd n = s.foCmd n := by
  have hrole' : (s.enterState st).get (F.CSB_FOn_CFG.ROLE n) ≠ 4 := by
    rw [show (s.enterState st).get (F.CSB_FOn_CFG.ROLE n) = _ from s.showState_get st
      (.inl (show 0x0C0040 + 4 * n ≠ 0x0C0004 by omega)) (show 0x0C0040 + 4 * n ≠ 0x0C0074 by omega)]
    exact hrole
  rw [s.csbTo_eq, if_neg h1, if_neg (fun h => h5 h.1), s.forgetWait_showState h1, State.altStart_foCmd _ hn hrole', State.foCmd_eq _ hn,
    State.foCmd_eq _ hn]
  exact State.bit_congr (s.showState_get st (.inl (show R.CSB_FO_STAT ≠ R.CSB_STAT by decide)) (show R.CSB_FO_STAT ≠ R.CSB_TRF_CNT by decide))

end Sys2Proof.Machine
end

section
/-! The rows of Table 11.2 (R290): which apply, and in which states the machine rests. -/
namespace Sys2Proof.Machine

variable {s t : State} {n m st : Nat}

/-! ### The sources' states (R287) -/

theorem State.lost_zero (s : State) : s.lost 0 = (s.get F.CSB_STAT.SRC0 == 1) := rfl
theorem State.lost_one (s : State) : s.lost 1 = (s.get F.CSB_STAT.SRC1 == 1) := rfl
theorem State.healthy_zero (s : State) : s.healthy 0 = (s.get F.CSB_STAT.SRC0 == 3) := rfl
theorem State.healthy_one (s : State) : s.healthy 1 = (s.get F.CSB_STAT.SRC1 == 3) := rfl

/-! ### The machine's evaluation -/

/-- No row of Table 11.2 applies, and no watchdog reset waits for the machine (R419). -/
structure CsbRests (s : State) : Prop where
  row : s.csbRow = s
  live : s.saf.wdDeferred = false

theorem State.csbEval_of_row (hrow : s.csbRow = t) (ht : CsbRests t) : s.csbEval = t := by
  have hrows : (List.range 6).foldl (fun s _ => State.csbRow s) s = t := by
    change s.csbRow.csbRow.csbRow.csbRow.csbRow.csbRow = t
    rw [hrow, ht.row, ht.row, ht.row, ht.row, ht.row]
  unfold State.csbEval
  dsimp only
  rw [hrows, ht.live]
  rfl

theorem CsbRests.csbEval (h : CsbRests s) : s.csbEval = s := State.csbEval_of_row h.row h

/-! ### Where no row applies -/

section Resting
variable (live : s.saf.wdDeferred = false)
include live

theorem rests_normal (hst : s.get F.CSB_STAT.STATE = 1) (h0 : s.get F.CSB_STAT.SRC0 ≠ 1) : CsbRests s :=
  ⟨by simp [State.csbRow, hst, State.lost_zero, h0], live⟩

theorem rests_openingN (hst : s.get F.CSB_STAT.STATE = 2) (hconf : s.swConfirmed false = false) : CsbRests s :=
  ⟨by simp [State.csbRow, hst, hconf], live⟩

theorem rests_closingA (hst : s.get F.CSB_STAT.STATE = 4) (h1 : s.get F.CSB_STAT.SRC1 ≠ 1) (hconf : s.swConfirmed true = false) : CsbRests s :=
  ⟨by simp [State.csbRow, hst, State.lost_one, h1, hconf], live⟩

theorem rests_alternate (hst : s.get F.CSB_STAT.STATE = 5) (h1 : s.get F.CSB_STAT.SRC1 ≠ 1)
    (hret : s.bit F.CSB_STAT.ROMDET = true ∨ s.csb.retDone = false ∧ s.csb.returnCmd = false) : CsbRests s := by
  refine ⟨?_, live⟩
  rcases hret with hrom | ⟨hdone, hcmd⟩
  · simp [State.csbRow, hst, State.lost_one, h1, hrom]
  · simp [State.csbRow, hst, State.lost_one, h1, hdone, hcmd]

theorem rests_sync (hst : s.get F.CSB_STAT.STATE = 6) (h0 : s.get F.CSB_STAT.SRC0 = 3) (hrun : s.csb.syncRun < 2)
    (htmo : s.csb.syncTmo = false) : CsbRests s :=
  ⟨by simp [State.csbRow, hst, State.healthy_zero, h0, htmo, Nat.not_le.mpr hrun], live⟩

theorem rests_openingA (hst : s.get F.CSB_STAT.STATE = 8) (hconf : s.swConfirmed true = false) : CsbRests s :=
  ⟨by simp [State.csbRow, hst, hconf], live⟩

theorem rests_closingN (hst : s.get F.CSB_STAT.STATE = 9) (h0 : s.get F.CSB_STAT.SRC0 ≠ 1) (hconf : s.swConfirmed false = false) : CsbRests s :=
  ⟨by simp [State.csbRow, hst, State.lost_zero, h0, hconf], live⟩

theorem rests_blocked (hst : s.get F.CSB_STAT.STATE = 10) : CsbRests s := ⟨by simp [State.csbRow, hst], live⟩

end Resting

/-! ### The rows that apply -/

/-- Restoration stops (R296). -/
def State.stopRestore (s : State) : State := ({ s with csb := { s.csb with waiting := [] } }).set F.CSB_STAT.RESTORING 0

theorem State.stopRestore_get (s : State) {f : Fld} (hf : Apart f F.CSB_STAT.RESTORING) : s.stopRestore.get f = s.get f := by
  unfold State.stopRestore
  rw [State.get_set_other _ _ _ _ hf]
  rfl

/-- The normal switch is commanded off, and restoration stops. -/
def State.opensN (s : State) : State := (s.swSet false false).stopRestore

theorem State.opensN_get (s : State) {f : Fld} (hf : f.key ∉ outputKeys) : s.opensN.get f = s.get f := by
  unfold State.opensN
  rw [State.stopRestore_get _ (.inl fun e => hf (e ▸ by decide)), State.swSet_get _ _ _ _ hf]

theorem State.opensN_stat (s : State) (l w : Nat) (h : l + w ≤ 11) : s.opensN.get ⟨R.CSB_STAT, l, w⟩ = s.get ⟨R.CSB_STAT, l, w⟩ := by
  unfold State.opensN
  rw [State.stopRestore_get _ (.inr (.inl (by dsimp only; omega))), State.swSet_stat _ _ _ _ _ h]

theorem State.opensN_foCmd (h : s.foRole 1 = some n) : s.opensN.foCmd n = false := by
  have hn := (State.foRole_spec h).1
  unfold State.opensN
  rw [State.foCmd_eq _ hn, State.bit_congr (State.stopRestore_get _ (.inl (show R.CSB_FO_STAT ≠ R.CSB_STAT by decide))), ← State.foCmd_eq _ hn,
    State.swSet_foCmd (alt := false) h]

/-- The row 1 NORMAL, source 0 LOST, in Cap mode, where no group is shed. -/
theorem State.csbRow_lost (hst : s.get F.CSB_STAT.STATE = 1) (h0 : s.get F.CSB_STAT.SRC0 = 1) (hrom : s.bit F.CSB_STAT.ROMDET = true) :
    s.csbRow = s.opensN.csbTo 2 := by
  have hshed : s.opensN.shedAll = s.opensN := if_pos ((State.bit_congr (s.opensN_stat 8 1 (by decide))).trans hrom)
  have hrow : s.csbRow = s.opensN.shedAll.csbTo 2 := by
    simp [State.csbRow, hst, State.lost_zero, h0, State.opensN, State.stopRestore]
  rw [hrow, hshed]

/-- The row 2 OPENING_N, open confirmed, source 1 HEALTHY. -/
theorem State.csbRow_openN (hst : s.get F.CSB_STAT.STATE = 2) (h1 : s.get F.CSB_STAT.SRC1 = 3) (hcmd : s.swCmd true = false)
    (hmay : s.mayClose true = true) : s.csbRow = (s.swSet true true).csbTo 4 := by
  have hconf : s.swConfirmed false = true := by
    simp only [State.mayClose, Bool.not_true, Bool.and_eq_true] at hmay
    exact hmay.1.2
  simp [State.csbRow, hst, State.healthy_one, h1, State.swClosed, hcmd, hconf, hmay]

/-- The row 3 DEAD, source 0 HEALTHY. -/
theorem State.csbRow_dead (hst : s.get F.CSB_STAT.STATE = 3) (h0 : s.get F.CSB_STAT.SRC0 = 3) (hmay : s.mayClose false = true) :
    s.csbRow = (s.swSet false true).csbTo 9 := by
  simp [State.csbRow, hst, State.healthy_zero, h0, hmay]

/-- The row 4 CLOSING_A, close confirmed. -/
theorem State.csbRow_closedA (hst : s.get F.CSB_STAT.STATE = 4) (h1 : s.get F.CSB_STAT.SRC1 ≠ 1) (hconf : s.swConfirmed true = true) :
    s.csbRow = s.csbTo 5 := by
  simp [State.csbRow, hst, State.lost_one, h1, hconf]

/-- The row 9 CLOSING_N, close confirmed. -/
theorem State.csbRow_closedN (hst : s.get F.CSB_STAT.STATE = 9) (h0 : s.get F.CSB_STAT.SRC0 ≠ 1) (hconf : s.swConfirmed false = true) :
    s.csbRow = s.csbTo 1 := by
  simp [State.csbRow, hst, State.lost_zero, h0, hconf]

/-- The return has been commanded, or is due. -/
def State.returns (s : State) : Bool := s.csb.retDone && !s.bit F.CSB_CTRL.RET_INH || s.csb.returnCmd

/-- A RETURN command is used up. -/
def State.takeReturn (s : State) : State := { s with csb := { s.csb with returnCmd := false } }

/-- The row 5 ALTERNATE, return: by SYNC where synchronous transfer is enabled. -/
theorem State.csbRow_return (hst : s.get F.CSB_STAT.STATE = 5) (h0 : s.get F.CSB_STAT.SRC0 = 3) (h1 : s.get F.CSB_STAT.SRC1 ≠ 1)
    (hrom : s.bit F.CSB_STAT.ROMDET = false) (hret : s.returns = true) :
    s.csbRow = if s.bit F.CSB_CFG.SYNC_EN then s.takeReturn.csbTo 6 else (s.takeReturn.swSet true false).csbTo 8 := by
  have hlost : ¬ (s.lost 1 = true ∧ s.healthy 0 = true) := by simp [State.lost_one, h1]
  have hhealthy : s.healthy 0 = true := by simp [State.healthy_zero, h0]
  simp only [State.returns, Bool.or_eq_true, Bool.and_eq_true] at hret
  simp only [State.csbRow, hst]
  rw [if_neg hlost, if_pos ⟨by rw [hrom]; rfl, hhealthy, hret⟩]
  rfl

/-- SYNC_TMO is shown, and RET_T starts again. -/
def State.restartReturn (s : State) : State :=
  { s.flag F.CSB_ERR.SYNC_TMO with csb := { s.csb with retDone := false } }

/-- The rows 6 SYNC, SYNC_WAIT elapsed. -/
theorem State.csbRow_syncTmo (hst : s.get F.CSB_STAT.STATE = 6) (h0 : s.get F.CSB_STAT.SRC0 = 3) (hrun : s.csb.syncRun < 2)
    (htmo : s.csb.syncTmo = true) :
    s.csbRow = if s.bit F.CSB_CFG.RET_OPEN then (s.swSet true false).csbTo 8 else (s.csbTo 5).restartReturn := by
  simp [State.csbRow, hst, State.healthy_zero, h0, htmo, Nat.not_le.mpr hrun, State.restartReturn]

end Sys2Proof.Machine
end

section
/-! The two source switches (R289) through the machine's steps: a switch is commanded and a state taken, and the machine rests there until the
switch is confirmed. -/
namespace Sys2Proof.Machine

variable {s t : State} {n m st : Nat}

/-! ### The configuration of the outputs -/

/-- The outputs are configured as before. -/
def SameOutputCfg (s t : State) : Prop := ∀ j, j < 8 → ∀ l w, t.get ⟨R.CSB_FOn_CFG j, l, w⟩ = s.get ⟨R.CSB_FOn_CFG j, l, w⟩

/-- Outputs n and m are the normal and the alternate switch, the normal one confirmed by BRK_T; no watchdog reset is deferred (R419). -/
structure Switches (n m : Nat) (s : State) : Prop where
  normal : s.foRole 1 = some n
  alt : s.foRole 2 = some m
  timed : s.bit (F.CSB_FOn_CFG.FB_EN n) = false
  live : s.saf.wdDeferred = false

/-- The alternate switch too is confirmed by BRK_T. -/
abbrev AltTimed (m : Nat) (s : State) : Prop := s.bit (F.CSB_FOn_CFG.FB_EN m) = false

theorem foCfg_ne {j k : Nat} (hj : j < 8) (hk : k < 0x0C0040 ∨ 0x0C0060 ≤ k) : R.CSB_FOn_CFG j ≠ k := by
  unfold R.CSB_FOn_CFG
  omega

theorem foCfg_notOutput {j : Nat} (hj : j < 8) : R.CSB_FOn_CFG j ∉ outputKeys := by
  have hkeys : ∀ k ∈ outputKeys, k < 0x0C0040 ∨ 0x0C0060 ≤ k := by decide
  exact fun h => foCfg_ne hj (hkeys _ h) rfl

theorem SameOutputCfg.set (s : State) (f : Fld) (v : Nat) (hf : f.key < 0x0C0040 ∨ 0x0C0060 ≤ f.key) : SameOutputCfg s (s.set f v) :=
  fun _ hj _ _ => s.get_set_other f _ v (.inl (foCfg_ne hj hf))

theorem SameOutputCfg.csbTo (s : State) (st : Nat) : SameOutputCfg s (s.csbTo st) :=
  fun _ hj _ _ => s.csbTo_get st (foCfg_notOutput hj) (foCfg_ne hj (by decide))

theorem SameOutputCfg.swSet (s : State) (alt on : Bool) : SameOutputCfg s (s.swSet alt on) :=
  fun _ hj _ _ => s.swSet_get alt on _ (foCfg_notOutput hj)

theorem SameOutputCfg.foRole (h : SameOutputCfg s t) (r : Nat) : t.foRole r = s.foRole r := by
  unfold State.foRole
  refine List.find?_congr fun j hj => ?_
  rw [h j (List.mem_range.mp hj)]

namespace Switches

theorem normal_lt (h : Switches n m s) : n < 8 := (State.foRole_spec h.normal).1
theorem alt_lt (h : Switches n m s) : m < 8 := (State.foRole_spec h.alt).1
theorem normal_role (h : Switches n m s) : s.get (F.CSB_FOn_CFG.ROLE n) = 1 := (State.foRole_spec h.normal).2
theorem alt_role (h : Switches n m s) : s.get (F.CSB_FOn_CFG.ROLE m) = 2 := (State.foRole_spec h.alt).2

theorem of_cfg (h : Switches n m s) (hcfg : SameOutputCfg s t) (hsaf : t.saf.wdDeferred = s.saf.wdDeferred) : Switches n m t :=
  ⟨(hcfg.foRole 1).trans h.normal, (hcfg.foRole 2).trans h.alt, (State.bit_congr (hcfg n h.normal_lt 5 1)).trans h.timed, hsaf.trans h.live⟩

theorem csbTo (h : Switches n m s) (st : Nat) : Switches n m (s.csbTo st) := h.of_cfg (.csbTo s st) (by rw [s.csbTo_saf])
theorem swSet (h : Switches n m s) (alt on : Bool) : Switches n m (s.swSet alt on) := h.of_cfg (.swSet s alt on) (by rw [s.swSet_saf])
theorem set (h : Switches n m s) (f : Fld) (v : Nat) (hf : f.key < 0x0C0040 ∨ 0x0C0060 ≤ f.key) : Switches n m (s.set f v) :=
  h.of_cfg (.set s f v hf) rfl

theorem timed_csbTo (h : Switches n m s) (hm : AltTimed m s) (st : Nat) : AltTimed m (s.csbTo st) :=
  (State.bit_congr (SameOutputCfg.csbTo s st m h.alt_lt 5 1)).trans hm
theorem timed_swSet (h : Switches n m s) (hm : AltTimed m s) (alt on : Bool) : AltTimed m (s.swSet alt on) :=
  (State.bit_congr (SameOutputCfg.swSet s alt on m h.alt_lt 5 1)).trans hm

theorem confirmed_normal (h : Switches n m s) : s.swConfirmed false = s.csb.brk1 := by
  simp [State.swConfirmed, h.normal, h.timed]

theorem confirmed_alt (h : Switches n m s) (hm : AltTimed m s) : s.swConfirmed true = s.csb.brk2 := by
  have hm' : s.bit (F.CSB_FOn_CFG.FB_EN m) = false := hm
  simp [State.swConfirmed, h.alt, hm']

theorem cmd_normal (h : Switches n m s) : s.swCmd false = s.foCmd n := by simp [State.swCmd, h.normal]
theorem cmd_alt (h : Switches n m s) : s.swCmd true = s.foCmd m := by simp [State.swCmd, h.alt]

/-- A switch that a row commands stays so commanded: it has another role than the alternate start. -/
theorem normal_csbTo (h : Switches n m s) (h1 : st ≠ 1) (h5 : st ≠ 5) : (s.csbTo st).foCmd n = s.foCmd n :=
  s.csbTo_foCmd h1 h5 h.normal_lt (by rw [h.normal_role]; decide)
theorem alt_csbTo (h : Switches n m s) (h1 : st ≠ 1) (h5 : st ≠ 5) : (s.csbTo st).foCmd m = s.foCmd m :=
  s.csbTo_foCmd h1 h5 h.alt_lt (by rw [h.alt_role]; decide)

end Switches

/-! ### Positions and commands elsewhere unchanged -/

/-- What the switches' commands and confirmations are read from is as before. -/
structure SameSwitches (s t : State) : Prop where
  cfg : SameOutputCfg s t
  shown : ∀ l w, l + w ≤ 16 → t.get ⟨R.CSB_FO_STAT, l, w⟩ = s.get ⟨R.CSB_FO_STAT, l, w⟩
  csb : t.csb = s.csb

namespace SameSwitches

theorem set (s : State) (f : Fld) (v : Nat) (hf : f.key < 0x0C0040 ∨ 0x0C0060 ≤ f.key) (hfo : f.key = R.CSB_FO_STAT → 16 ≤ f.lsb) :
    SameSwitches s (s.set f v) := by
  refine ⟨.set s f v hf, fun l w hl => s.get_set_other f _ v ?_, rfl⟩
  by_cases e : R.CSB_FO_STAT = f.key
  · exact .inr (.inl (hl.trans (hfo e.symm)))
  · exact .inl e

theorem foCmd (h : SameSwitches s t) (j : Nat) : t.foCmd j = s.foCmd j := by unfold State.foCmd; rw [h.shown 0 8 (by decide)]
theorem fi (h : SameSwitches s t) (j : Nat) : t.fi j = s.fi j := by unfold State.fi; rw [h.shown 8 8 (by decide)]

theorem swCmd (h : SameSwitches s t) (alt : Bool) : t.swCmd alt = s.swCmd alt := by
  unfold State.swCmd
  rw [h.cfg.foRole]
  split
  · exact h.foCmd _
  · rfl

theorem swConfirmed (h : SameSwitches s t) (alt : Bool) : t.swConfirmed alt = s.swConfirmed alt := by
  unfold State.swConfirmed
  rw [h.cfg.foRole, h.csb]
  split
  · next j hj =>
    have hget (l w : Nat) : t.get ⟨R.CSB_FOn_CFG j, l, w⟩ = s.get ⟨R.CSB_FOn_CFG j, l, w⟩ := h.cfg j (State.foRole_spec hj).1 l w
    unfold State.foPos State.bit
    rw [hget, hget, hget, h.fi, h.foCmd]
  · rfl

theorem mayClose (h : SameSwitches s t) (alt : Bool) : t.mayClose alt = s.mayClose alt := by
  unfold State.mayClose
  dsimp only
  rw [h.swCmd, h.swConfirmed, h.csb]

end SameSwitches

/-! ### The rows, with the state in which the machine rests after each -/

section Rows
variable (h : Switches n m s)
include h

/-- The normal switch is commanded off, as configured. -/
theorem Switches.opensN : Switches n m s.opensN :=
  (h.swSet false false).of_cfg (fun _ hj _ _ => State.stopRestore_get _ (.inl (foCfg_ne hj (by decide)))) rfl

/-- Source 0 is LOST in Cap mode: the normal switch is commanded off. -/
theorem Switches.csbEval_lost (hst : s.get F.CSB_STAT.STATE = 1) (h0 : s.get F.CSB_STAT.SRC0 = 1) (hrom : s.bit F.CSB_STAT.ROMDET = true) :
    s.csbEval = s.opensN.csbTo 2 := by
  have ht := h.opensN.csbTo 2
  refine State.csbEval_of_row (State.csbRow_lost hst h0 hrom) (rests_openingN ht.live (State.csbTo_state _ (by decide)) ?_)
  rw [ht.confirmed_normal, State.csbTo_brk1]
  exact s.swSet_brk1 false

/-- The normal switch is closed from DEAD. -/
theorem Switches.csbEval_closesN (hst : s.get F.CSB_STAT.STATE = 3) (h0 : s.get F.CSB_STAT.SRC0 = 3) (hmay : s.mayClose false = true) :
    s.csbEval = (s.swSet false true).csbTo 9 := by
  have ht := (h.swSet false true).csbTo 9
  refine State.csbEval_of_row (State.csbRow_dead hst h0 hmay) (rests_closingN ht.live (State.csbTo_state _ (by decide)) ?_ ?_)
  · rw [State.csbTo_stat _ _ 4 2 (by decide) (by decide), s.swSet_stat false true 4 2 (by decide), h0]
    decide
  · rw [ht.confirmed_normal, State.csbTo_brk1, s.swSet_brk1]

/-- The alternate switch is closed from OPENING_N. -/
theorem Switches.csbEval_closesA (hm : AltTimed m s) (hst : s.get F.CSB_STAT.STATE = 2) (h1 : s.get F.CSB_STAT.SRC1 = 3) (hcmd : s.swCmd true = false)
    (hmay : s.mayClose true = true) : s.csbEval = (s.swSet true true).csbTo 4 := by
  have ht := (h.swSet true true).csbTo 4
  refine State.csbEval_of_row (State.csbRow_openN hst h1 hcmd hmay) (rests_closingA ht.live (State.csbTo_state _ (by decide)) ?_ ?_)
  · rw [State.csbTo_stat _ _ 6 2 (by decide) (by decide), s.swSet_stat true true 6 2 (by decide), h1]
    decide
  · rw [ht.confirmed_alt ((h.swSet true true).timed_csbTo (h.timed_swSet hm true true) 4), State.csbTo_brk2, s.swSet_brk2]

/-- The alternate switch is commanded off, and OPENING_A waits for it. -/
theorem Switches.rests_opensA (hm : AltTimed m s) : CsbRests ((s.swSet true false).csbTo 8) := by
  have ht := (h.swSet true false).csbTo 8
  refine rests_openingA ht.live (State.csbTo_state _ (by decide)) ?_
  rw [ht.confirmed_alt ((h.swSet true false).timed_csbTo (h.timed_swSet hm true false) 8), State.csbTo_brk2, s.swSet_brk2]

/-- The close of the alternate switch is confirmed, in Cap mode. -/
theorem Switches.csbEval_closedA (hst : s.get F.CSB_STAT.STATE = 4) (h1 : s.get F.CSB_STAT.SRC1 ≠ 1) (hrom : s.bit F.CSB_STAT.ROMDET = true)
    (hconf : s.swConfirmed true = true) : s.csbEval = s.csbTo 5 := by
  refine State.csbEval_of_row (State.csbRow_closedA hst h1 hconf) (rests_alternate (h.csbTo 5).live (s.csbTo_state (by decide)) ?_ (.inl ?_))
  · rwa [s.csbTo_stat 5 6 2 (by decide) (by decide)]
  · exact (State.bit_congr (s.csbTo_stat 5 8 1 (by decide) (by decide))).trans hrom

/-- An entry into NORMAL, whatever brought it about. -/
theorem Switches.rests_entersNormal (h0 : s.get F.CSB_STAT.SRC0 ≠ 1) : CsbRests (s.csbTo 1) :=
  rests_normal (h.csbTo 1).live (s.csbTo_state (by decide)) (by rwa [s.csbTo_stat 1 4 2 (by decide) (by decide)])

/-- The return: through SYNC, or by opening the alternate switch. -/
theorem Switches.csbEval_return (hm : AltTimed m s) (hst : s.get F.CSB_STAT.STATE = 5) (h0 : s.get F.CSB_STAT.SRC0 = 3)
    (h1 : s.get F.CSB_STAT.SRC1 ≠ 1) (hrom : s.bit F.CSB_STAT.ROMDET = false) (hret : s.returns = true) :
    s.csbEval = if s.bit F.CSB_CFG.SYNC_EN then s.takeReturn.csbTo 6 else (s.takeReturn.swSet true false).csbTo 8 := by
  have hx : Switches n m s.takeReturn := h.of_cfg (fun _ _ _ _ => rfl) rfl
  refine State.csbEval_of_row (State.csbRow_return hst h0 h1 hrom hret) ?_
  split
  · exact rests_sync (hx.csbTo 6).live (State.csbTo_state _ (by decide)) ((State.csbTo_stat _ 6 4 2 (by decide) (by decide)).trans h0)
      (by rw [State.csbTo_syncRun]; decide) (State.csbTo_syncTmo _ 6)
  · exact hx.rests_opensA hm

/-- The end of SYNC_WAIT. -/
theorem Switches.csbEval_syncTmo (hm : AltTimed m s) (hst : s.get F.CSB_STAT.STATE = 6) (h0 : s.get F.CSB_STAT.SRC0 = 3)
    (h1 : s.get F.CSB_STAT.SRC1 ≠ 1) (hrun : s.csb.syncRun < 2) (htmo : s.csb.syncTmo = true) (hcmd : s.csb.returnCmd = false) :
    s.csbEval = if s.bit F.CSB_CFG.RET_OPEN then (s.swSet true false).csbTo 8 else (s.csbTo 5).restartReturn := by
  have hshown (x : State) (l w : Nat) : x.restartReturn.get ⟨R.CSB_STAT, l, w⟩ = x.get ⟨R.CSB_STAT, l, w⟩ :=
    x.get_flag_other F.CSB_ERR.SYNC_TMO _ (.inl (show R.CSB_STAT ≠ R.CSB_ERR by decide))
  refine State.csbEval_of_row (State.csbRow_syncTmo hst h0 hrun htmo) ?_
  split
  · exact h.rests_opensA hm
  · refine rests_alternate (h.csbTo 5).live ((hshown _ 0 4).trans (s.csbTo_state (by decide))) ?_ (.inr ⟨rfl, s.csbTo_returnCmd hcmd 5⟩)
    rwa [hshown _ 6 2, s.csbTo_stat 5 6 2 (by decide) (by decide)]

end Rows

end Sys2Proof.Machine
end

section
/-! The entry into BLOCKED (R289, R290): the fault that it raises leaves the machine in BLOCKED and defers no watchdog reset. -/
namespace Sys2Proof.Machine

variable {s t u : State}

/-! ### Raising a source keeps BLOCKED -/

/-- The machine stays in BLOCKED with its error bit, and what SAF notes of a deferred watchdog reset (R419) stays. -/
structure KeepsBlocked (s t : State) : Prop where
  live : t.saf.wdDeferred = s.saf.wdDeferred
  state : s.get F.CSB_STAT.STATE = 10 → t.get F.CSB_STAT.STATE = 10
  error : s.bit F.CSB_ERR.BLOCKED = true → t.bit F.CSB_ERR.BLOCKED = true

namespace KeepsBlocked

theorem refl (s : State) : KeepsBlocked s s := ⟨rfl, id, id⟩
theorem trans (h1 : KeepsBlocked s t) (h2 : KeepsBlocked t u) : KeepsBlocked s u :=
  ⟨h2.live.trans h1.live, h2.state ∘ h1.state, h2.error ∘ h1.error⟩

/-- A change of other units' own state, or of CSB's. -/
theorem other (h : KeepsBlocked s t) (hw : u.words = t.words := by rfl) (hs : u.saf = t.saf := by rfl) : KeepsBlocked s u := by
  have hget (f : Fld) : u.get f = t.get f := by unfold State.get State.word; rw [hw]
  exact h.trans ⟨congrArg SafSt.wdDeferred hs, fun hst => (hget _).trans hst, fun herr => (State.bit_congr (hget _)).trans herr⟩

/-- The list of logged sources. -/
theorem logged (h : KeepsBlocked s t) (l : List (Nat × Nat)) : KeepsBlocked s { t with saf := { t.saf with logged := l } } :=
  h.trans ⟨rfl, id, id⟩

/-- Words of other blocks than CSB's, or of the alarm. -/
theorem of_outside {bs : List Nat} (h : SameOutside bs s t) (hbs : 12 ∉ bs) (hlive : t.saf.wdDeferred = s.saf.wdDeferred) : KeepsBlocked s t :=
  ⟨hlive, fun hs => (h.get F.CSB_STAT.STATE hbs (by decide)).trans hs,
    fun hs => (State.bit_congr (h.get F.CSB_ERR.BLOCKED hbs (by decide))).trans hs⟩

theorem foldl {α : Type} {f : State → α → State} (hf : ∀ s a, KeepsBlocked s (f s a)) (l : List α) (s : State) :
    KeepsBlocked s (l.foldl f s) := by
  induction l generalizing s with
  | nil => exact .refl s
  | cons a l ih => exact (hf s a).trans (ih (f s a))

end KeepsBlocked

/-! ### SAF's own state through a trip -/

theorem State.foldl_saf {α : Type} {f : State → α → State} (hf : ∀ s a, (f s a).saf = s.saf) (l : List α) (s : State) :
    (l.foldl f s).saf = s.saf := by
  induction l generalizing s with
  | nil => rfl
  | cons a l ih => exact (ih (f s a)).trans (hf s a)

theorem State.writeTarget_saf (s : State) (n src : Nat) (v : Int) : (s.writeTarget n src v).saf = s.saf := by
  unfold State.writeTarget
  dsimp only
  repeat' split
  all_goals rfl

theorem State.commitLoop_saf (s : State) (n : Nat) (m : Int) : (s.commitLoop n m).saf = s.saf := by
  unfold State.commitLoop
  dsimp only
  split
  · exact (s.outField_outputs ..).saf
  · exact s.writeTarget_saf ..
  · rfl

theorem State.enterSafe_saf (s : State) (n : Nat) (m : Int) : (s.enterSafe n m).saf = s.saf := by
  simp only [State.enterSafe, State.showOut, State.setw_saf, State.putMode, State.set_saf]
  rfl
theorem State.updFlt_saf (s : State) (n : Nat) : (s.updFlt n).saf = s.saf := by
  simp only [State.updFlt, State.setBit_saf]

theorem State.tripGroup_saf (s : State) (g : Nat) : (s.tripGroup g).saf = s.saf := by
  unfold State.tripGroup
  split
  · rfl
  · rw [State.set_saf, State.foldl_saf, State.commitLoop_saf]
    intro s n
    rw [State.updFlt_saf, State.set_saf, State.flag_saf, State.enterSafe_saf]

theorem State.releaseEvent_saf (s : State) (n : Nat) : (s.releaseEvent n).saf = s.saf := by
  unfold State.releaseEvent
  repeat' split
  all_goals rfl

theorem State.releaseWhere_saf (s : State) (p : State → Nat → Bool) : (s.releaseWhere p).saf = s.saf := by
  refine State.foldl_saf (fun s n => ?_) _ s
  split
  · exact s.releaseEvent_saf n
  · rfl

/-! ### The parts of raising a source (R425 to R428) -/

theorem State.safe1_keepsBlocked (s : State) : KeepsBlocked s s.safe1 := by
  have hblocked : KeepsBlocked s (if s.get F.CSB_STAT.STATE = 0 then s else (s.set F.CSB_STAT.STATE 10).flag F.CSB_ERR.BLOCKED) := by
    split
    · exact .refl s
    · refine ⟨rfl, fun _ => ?_, fun _ => State.bit_flag_same _ _ rfl (by decide)⟩
      rw [State.get_flag_other _ _ _ (by decide), State.get_set_fits _ _ (by decide) (by decide)]
  unfold State.safe1
  dsimp only
  split
  · refine hblocked.other.trans (KeepsBlocked.foldl (fun s n => ?_) _ _)
    split
    · exact (KeepsBlocked.refl s).other
    · exact .refl s
  · exact hblocked

theorem State.tripGroups_keepsBlocked (s : State) (k : Nat) : KeepsBlocked s ((s.safetyGroups k).foldl State.tripGroup s) :=
  .of_outside (SameOutside.foldl (fun u g hg => u.tripGroup_outside (State.safetyGroups_lt hg)) s) (by decide)
    (congrArg SafSt.wdDeferred (State.foldl_saf State.tripGroup_saf _ s))

theorem State.enterSafeState_keepsBlocked (s : State) (k : Nat) : KeepsBlocked s (s.enterSafeState k) := by
  have hshown : KeepsBlocked s (s.set ⟨R.SAF_STAT, 3 + k, 1⟩ 1) :=
    .of_outside ((SameOutside.refl [] s).setAlarm _ _ (show R.SAF_STAT ∈ alarmKeys by decide)) (by decide) rfl
  unfold State.enterSafeState
  dsimp only
  split
  · exact .refl s
  · split
    · exact hshown.trans (State.safe1_keepsBlocked _)
    · exact hshown.trans (State.tripGroups_keepsBlocked _ 1)
    · exact hshown.trans (State.tripGroups_keepsBlocked _ 2)
    · exact hshown

theorem State.probationFault_keepsBlocked (s : State) (src idx : Nat) : KeepsBlocked s (s.probationFault src idx) := by
  have hite (c : Bool) : (if c = true then s.set F.UPD_STAT.HSTATE 6 else s).saf = s.saf := by cases c <;> rfl
  have hsaf : (s.probationFault src idx).saf = s.saf := hite _
  exact .of_outside (s.probationFault_outside src idx) (by decide) (congrArg SafSt.wdDeferred hsaf)

theorem State.updAlarm_keepsBlocked (s : State) : KeepsBlocked s s.updAlarm := by
  have hshallow : Shallow s s.updAlarm := .trans (.showAlarm s ..) (.driveAlarm _ ..)
  exact .of_outside s.updAlarm_outside (by decide) (by rw [hshallow])

theorem State.logFault_keepsBlocked (s : State) (src idx safe : Nat) (a b c : Bool) : KeepsBlocked s (s.logFault src idx safe a b c) := by
  have he : (s.get F.SAF_LOG_SEQ.SEQ + 1) % 2 ^ 32 % 64 < 64 := Nat.mod_lt _ (by decide)
  have htab {e o : Nat} (he : e < 64) (ho : o < 16) : keyBlock (tabKey 16 (o + 16 * e)) ∈ [16] := by
    rw [show keyBlock (tabKey 16 (o + 16 * e)) = 16 by unfold keyBlock tabKey; rw [if_neg (by omega)]; omega]
    decide
  have hlog (x : State) (sev : Nat) : KeepsBlocked x (x.log 16 src idx sev) :=
    .of_outside (x.log_log 16 src idx sev).words (by decide) (by rw [(x.log_log 16 src idx sev).rest])
  have hrelease (x : State) : KeepsBlocked x (x.releaseSaf src) :=
    .of_outside (x.releaseWhere_outside _) (by decide) (congrArg SafSt.wdDeferred (x.releaseWhere_saf _))
  unfold State.logFault
  dsimp only
  refine KeepsBlocked.trans (.of_outside (bs := [16]) ?_ (by decide) (by simp only [State.setWord_saf, State.set_saf]))
    ((hlog _ _).trans (hrelease _))
  exact (((((SameOutside.refl _ s).set F.SAF_LOG_SEQ.SEQ _ (by decide)).set _ _ (htab (o := 0) he (by decide))).set _ _
    (htab (o := 4) he (by decide))).setWord _ _ (htab (o := 8) he (by decide))).setWord _ _ (htab (o := 12) he (by decide))

/-- A raised source keeps BLOCKED. -/
theorem State.raise_keepsBlocked (s : State) {src : Nat} (idx : Nat) : KeepsBlocked s (s.raise src idx) := by
  have hlatch : KeepsBlocked s (s.flag ⟨R.SAF_FLT_LAT, src, 1⟩) :=
    .of_outside ((SameOutside.refl [16] s).flag _ (show keyBlock R.SAF_FLT_LAT ∈ [16] by decide)) (by decide) rfl
  have hsafe (mask : Nat) (x : State) :
      KeepsBlocked x ([1, 2, 3, 4].foldl (fun s k => if mask / 2 ^ (k - 1) % 2 = 1 then s.enterSafeState k else s) x) := by
    refine KeepsBlocked.foldl (fun s k => ?_) _ x
    split
    · exact s.enterSafeState_keepsBlocked k
    · exact .refl s
  have hshown (mask : Nat) := ((hlatch.trans (hsafe mask _)).trans (State.updAlarm_keepsBlocked _)).trans
    (State.probationFault_keepsBlocked _ src idx)
  unfold State.raise State.raiseWith
  dsimp only
  split
  · exact hshown _
  · exact ((hshown _).logged _).trans (State.logFault_keepsBlocked ..)

/-! ### BLOCKED -/

/-- BLOCKED is entered with its fault, and the machine rests there. -/
theorem State.csbBlock_blocked (s : State) (live : s.saf.wdDeferred = false) : s.csbBlock.get F.CSB_STAT.STATE = 10 ∧
    s.csbBlock.bit F.CSB_ERR.BLOCKED = true ∧ s.csbBlock.bit ⟨R.SAF_FLT_LAT, 13, 1⟩ = true ∧ s.csbBlock.csbEval = s.csbBlock := by
  have hkept : KeepsBlocked ((s.csbTo 10).flag F.CSB_ERR.BLOCKED) s.csbBlock := State.raise_keepsBlocked _ 0
  have hstate : s.csbBlock.get F.CSB_STAT.STATE = 10 :=
    hkept.state ((State.get_flag_other _ _ _ (by decide)).trans (s.csbTo_state (by decide)))
  refine ⟨hstate, hkept.error (State.bit_flag_same _ _ rfl (by decide)), State.raise_latched _ 0 (by decide),
    CsbRests.csbEval (rests_blocked ?_ hstate)⟩
  rw [hkept.live, State.flag_saf, s.csbTo_saf, live]

end Sys2Proof.Machine
end

section
/-! The transfer machine's commands as its own rules, and the sources that qualify or are lost (R287, R301). -/
namespace Sys2Proof.Machine

variable {s t : State} {n m dt : Nat}

theorem exec_sourceQualified (dt : Nat) (a b : Bool) (s : State) :
    exec (.sourceQualified dt a b) s = .next (sourceQualified a b (s.elapse dt)).settle := rfl
theorem exec_capDetectorEval (dt : Nat) (s : State) : exec (.capDetectorEval dt) s = .next (capDetectorEval (s.elapse dt)).settle := rfl
theorem exec_fiInputChange (dt k : Nat) (l : Bool) (s : State) :
    exec (.fiInputChange dt k l) s = .next (fiInputChange k l (s.elapse dt)).settle := rfl
theorem exec_switchConfirmTime (dt : Nat) (alt : Bool) (s : State) :
    exec (.switchConfirmTime dt alt) s = .next (switchConfirmTime alt (s.elapse dt)).settle := rfl
theorem exec_deadTimeExpiry (dt : Nat) (alt : Bool) (s : State) :
    exec (.deadTimeExpiry dt alt) s = .next (deadTimeExpiry alt (s.elapse dt)).settle := rfl
theorem exec_switchConfirmTimeout (dt : Nat) (alt : Bool) (s : State) :
    exec (.switchConfirmTimeout dt alt) s = .next (switchConfirmTimeout alt (s.elapse dt)).settle := rfl
theorem exec_returnTimerExpiry (dt : Nat) (s : State) : exec (.returnTimerExpiry dt) s = .next (returnTimerExpiry (s.elapse dt)).settle := rfl
theorem exec_syncWaitExpiry (dt : Nat) (s : State) : exec (.syncWaitExpiry dt) s = .next (syncWaitExpiry (s.elapse dt)).settle := rfl
theorem exec_overlapTimeout (dt : Nat) (s : State) : exec (.overlapTimeout dt) s = .next (overlapTimeout (s.elapse dt)).settle := rfl
theorem exec_csbReturn {rq : Rq} (dt : Nat) (h : Writes s rq R.CSB_CMD) : exec (.csbReturn dt rq) s = .next (csbReturn (s.elapse dt)).settle :=
  congrArg (fun x : State => Host.Outcome.next x.settle) (State.busWrite_of_writes (h.elapse dt) 1#32)
theorem exec_csbClrFlt {rq : Rq} (dt : Nat) (h : Writes s rq R.CSB_CMD) : exec (.csbClrFlt dt rq) s = .next (csbClrFlt (s.elapse dt)).settle :=
  congrArg (fun x : State => Host.Outcome.next x.settle) (State.busWrite_of_writes (h.elapse dt) 2#32)

theorem State.settle_foCmd (s : State) (j : Nat) : s.settle.foCmd j = s.foCmd j := by unfold State.foCmd; rw [State.settle_get_lt _ (by decide)]
theorem State.settle_fi (s : State) (j : Nat) : s.settle.fi j = s.fi j := by unfold State.fi; rw [State.settle_get_lt _ (by decide)]

theorem Switches.elapse (h : Switches n m s) (dt : Nat) : Switches n m (s.elapse dt) := h.of_cfg (fun _ _ _ _ => rfl) rfl

/-! ### SOURCE_QUALIFIED (R287) -/

/-- A field is written, or not. -/
def State.setIf (s : State) (c : Bool) (f : Fld) (v : Nat) : State := if c then s.set f v else s

theorem State.setIf_get_same (s : State) (c : Bool) (k : Nat) {l w v : Nat} (h : l + w ≤ 32) (hv : v < 2 ^ w) :
    (s.setIf c ⟨k, l, w⟩ v).get ⟨k, l, w⟩ = if c then v else s.get ⟨k, l, w⟩ := by
  unfold State.setIf
  split
  · exact s.get_set_fits k h hv
  · rfl

theorem State.setIf_get_other (s : State) (c : Bool) {f g : Fld} (v : Nat) (h : Apart g f) : (s.setIf c f v).get g = s.get g := by
  unfold State.setIf
  split
  · exact s.get_set_other f g v h
  · rfl

theorem State.setIf_saf (s : State) (c : Bool) (f : Fld) (v : Nat) : (s.setIf c f v).saf = s.saf := by unfold State.setIf; split <;> rfl

theorem OnlyWords.setIf {ks : List Nat} (h : OnlyWords ks s t) (c : Bool) (f : Fld) (v : Nat) (hk : f.key ∈ ks) :
    OnlyWords ks s (t.setIf c f v) := by
  unfold State.setIf
  split
  · exact h.set f v hk
  · exact h

/-- Qualifying sources become HEALTHY. -/
def State.qualify (s : State) (a b : Bool) : State := (s.setIf a F.CSB_STAT.SRC0 3).setIf b F.CSB_STAT.SRC1 3

theorem sourceQualified_eq (a b : Bool) (h0 : s.get F.CSB_STAT.SRC0 = 2) (h1 : b = true → s.get F.CSB_STAT.SRC1 = 2) :
    sourceQualified a b s = (s.qualify a b).csbEval := by
  have hs0 : s.srcState 0 = 2 := h0
  have hs1 : b = true → s.srcState 1 = 2 := h1
  cases a <;> cases b <;> simp [sourceQualified, State.qualify, State.setIf, hs0, hs1]

theorem State.qualify_src0 (s : State) (a b : Bool) : (s.qualify a b).get F.CSB_STAT.SRC0 = if a then 3 else s.get F.CSB_STAT.SRC0 :=
  (State.setIf_get_other _ b 3 (by decide)).trans (s.setIf_get_same a _ (by decide) (by decide))
theorem State.qualify_src1 (s : State) (a b : Bool) : (s.qualify a b).get F.CSB_STAT.SRC1 = if b then 3 else s.get F.CSB_STAT.SRC1 := by
  unfold State.qualify
  rw [State.setIf_get_same _ b _ (by decide) (by decide), State.setIf_get_other _ a 3 (by decide)]
theorem State.qualify_state (s : State) (a b : Bool) : (s.qualify a b).get F.CSB_STAT.STATE = s.get F.CSB_STAT.STATE :=
  (State.setIf_get_other _ b 3 (by decide)).trans (s.setIf_get_other a 3 (by decide))
theorem State.qualify_saf (s : State) (a b : Bool) : (s.qualify a b).saf = s.saf := (State.setIf_saf _ b _ 3).trans (s.setIf_saf a _ 3)

/-- Where no row waits for a source that qualifies, only its state changes. -/
theorem exec_sourceQualified_rests (live : s.saf.wdDeferred = false) (a b : Bool) (hst : s.get F.CSB_STAT.STATE = 1 ∨ s.get F.CSB_STAT.STATE = 10)
    (h0 : s.get F.CSB_STAT.SRC0 = 2) (h1 : s.get F.CSB_STAT.SRC1 = 2) :
    ∃ t, exec (.sourceQualified dt a b) s = .next t ∧ t.get F.CSB_STAT.SRC0 = (if a then 3 else 2) ∧
      t.get F.CSB_STAT.SRC1 = (if b then 3 else 2) ∧ t.get F.CSB_STAT.STATE = s.get F.CSB_STAT.STATE ∧
      OnlyWords [R.CSB_STAT] (s.elapse dt) t := by
  have hsrc0 : ((s.elapse dt).qualify a b).get F.CSB_STAT.SRC0 = if a then 3 else 2 := by rw [State.qualify_src0, State.elapse_get, h0]
  have hsrc1 : ((s.elapse dt).qualify a b).get F.CSB_STAT.SRC1 = if b then 3 else 2 := by rw [State.qualify_src1, State.elapse_get, h1]
  have hlive : ((s.elapse dt).qualify a b).saf.wdDeferred = false := by rw [State.qualify_saf]; exact live
  have hrests : CsbRests ((s.elapse dt).qualify a b) := by
    rcases hst with hst | hst
    · exact rests_normal hlive ((State.qualify_state ..).trans hst) (by rw [hsrc0]; split <;> decide)
    · exact rests_blocked hlive ((State.qualify_state ..).trans hst)
  have he : sourceQualified a b (s.elapse dt) = (s.elapse dt).qualify a b :=
    (sourceQualified_eq (s := s.elapse dt) a b h0 fun _ => h1).trans hrests.csbEval
  refine ⟨_, exec_sourceQualified dt a b s, ?_⟩
  rw [he, State.settle_get_lt _ (by decide), State.settle_get_lt _ (by decide), State.settle_get_lt _ (by decide)]
  exact ⟨hsrc0, hsrc1, State.qualify_state .., (((OnlyWords.refl _ _).setIf a _ 3 (by decide)).setIf b _ 3 (by decide)).settle⟩

/-- From DEAD a healthy source 0 closes the normal switch. -/
theorem exec_sourceQualified_closes (h : Switches n m s) (hst : s.get F.CSB_STAT.STATE = 3) (h0 : s.get F.CSB_STAT.SRC0 = 2)
    (hmay : s.mayClose false = true) :
    ∃ t, exec (.sourceQualified dt true false) s = .next t ∧ t.get F.CSB_STAT.SRC0 = 3 ∧ t.get F.CSB_STAT.STATE = 9 ∧ t.foCmd n = true ∧
      t.csb.brk1 = false := by
  have hsame : SameSwitches (s.elapse dt) ((s.elapse dt).set F.CSB_STAT.SRC0 3) := .set _ _ 3 (by decide) (by decide)
  have hq : Switches n m ((s.elapse dt).set F.CSB_STAT.SRC0 3) := (h.elapse dt).set _ 3 (by decide)
  have hsrc : ((s.elapse dt).set F.CSB_STAT.SRC0 3).get F.CSB_STAT.SRC0 = 3 := State.get_set_fits _ _ (by decide) (by decide)
  have he : sourceQualified true false (s.elapse dt) = (((s.elapse dt).set F.CSB_STAT.SRC0 3).swSet false true).csbTo 9 :=
    (sourceQualified_eq (s := s.elapse dt) true false h0 (fun e => by cases e)).trans
      (hq.csbEval_closesN ((State.get_set_other _ _ _ _ (by decide)).trans hst) hsrc ((hsame.mayClose false).trans hmay))
  refine ⟨_, exec_sourceQualified dt true false s, ?_⟩
  rw [he, State.settle_get_lt _ (by decide), State.settle_get_lt _ (by decide), State.settle_foCmd, State.settle_csb,
    State.csbTo_stat _ _ 4 2 (by decide) (by decide), State.swSet_stat _ _ _ 4 2 (by decide), State.csbTo_state _ (by decide),
    (hq.swSet false true).normal_csbTo (by decide) (by decide), State.swSet_foCmd (alt := false) hq.normal, State.csbTo_brk1, State.swSet_brk1]
  exact ⟨hsrc, rfl, rfl, rfl⟩

/-! ### CAP_DETECTOR_EVAL (R287, R301) -/

/-- The criteria of source 0 are noted, and the time of its return starts again. -/
def State.noteCrit (s : State) (crit : Nat) : State :=
  { s with csb := { s.csb with src0 := { s.csb.src0 with crit := crit }, retDone := false } }

/-- What source 0's entry into LOST shows (R287). -/
def State.showLoss (s : State) (crit : Nat) : State :=
  (((((s.noteCrit crit).set F.CSB_STAT.SRC0 1).flag F.CSB_ERR.LOSS0).set F.CSB_LOSS.CAUSE crit).set F.CSB_LOSS_SEC.SEC s.sec32).set
    F.CSB_LOSS_NS.NS s.nsNow

/-- The words that it writes. -/
def lossKeys : List Nat := [R.CSB_STAT, R.CSB_ERR, R.CSB_LOSS, R.CSB_LOSS_SEC, R.CSB_LOSS_NS]

theorem State.noteCrit_get (s : State) (crit : Nat) (f : Fld) : (s.noteCrit crit).get f = s.get f := rfl

theorem State.showLoss_get (s : State) (crit : Nat) {f : Fld} (hf : f.key ∉ lossKeys.tail) (hsrc : Apart f F.CSB_STAT.SRC0) :
    (s.showLoss crit).get f = s.get f := by
  simp only [lossKeys, List.tail_cons, List.mem_cons, List.not_mem_nil, or_false, not_or] at hf
  obtain ⟨herr, hcause, hsec, hns⟩ := hf
  unfold State.showLoss
  rw [State.get_set_other _ _ _ _ (.inl hns), State.get_set_other _ _ _ _ (.inl hsec), State.get_set_other _ _ _ _ (.inl hcause),
    State.get_flag_other _ _ _ (.inl herr), State.get_set_other _ _ _ _ hsrc, State.noteCrit_get]

theorem State.showLoss_src0 (s : State) (crit : Nat) : (s.showLoss crit).get F.CSB_STAT.SRC0 = 1 := by
  unfold State.showLoss
  rw [State.get_set_other _ _ _ _ (by decide), State.get_set_other _ _ _ _ (by decide), State.get_set_other _ _ _ _ (by decide),
    State.get_flag_other _ _ _ (by decide), State.get_set_fits _ _ (by decide) (by decide)]

theorem State.showLoss_error (s : State) (crit : Nat) : (s.showLoss crit).bit F.CSB_ERR.LOSS0 = true := by
  unfold State.showLoss
  rw [State.bit_congr (State.get_set_other _ _ _ _ (by decide)), State.bit_congr (State.get_set_other _ _ _ _ (by decide)),
    State.bit_congr (State.get_set_other _ _ _ _ (by decide)), State.bit_flag_same _ _ rfl (by decide)]

theorem State.showLoss_sec (s : State) (crit : Nat) : (s.showLoss crit).get F.CSB_LOSS_SEC.SEC = s.sec32 := by
  unfold State.showLoss
  rw [State.get_set_other _ _ _ _ (by decide), State.get_set_same _ _ _ (by decide)]
  exact Nat.mod_mod _ _

theorem Switches.showLoss (h : Switches n m s) (crit : Nat) : Switches n m (s.showLoss crit) := by
  have hkeys : ∀ k ∈ lossKeys, k < 0x0C0040 ∨ 0x0C0060 ≤ k := by decide
  have hne {j k : Nat} (hj : j < 8) (hk : k ∈ lossKeys) : R.CSB_FOn_CFG j ≠ k := foCfg_ne hj (hkeys k hk)
  exact h.of_cfg (fun j hj l w => s.showLoss_get crit (fun hk => hne hj (List.mem_of_mem_tail hk) rfl) (.inl (hne hj (by decide)))) rfl

theorem State.setCrit_lost {crit : Nat} (hhas : s.csbHas 0 = true) (h0 : s.get F.CSB_STAT.SRC0 = 2 ∨ s.get F.CSB_STAT.SRC0 = 3)
    (hcrit : crit ≠ 0) : s.setCrit 0 crit = (s.showLoss crit).csbEval := by
  have hsrc : s.srcState 0 = s.get F.CSB_STAT.SRC0 := rfl
  unfold State.setCrit
  dsimp only
  rw [if_neg (by rw [hhas, hsrc]; simp; omega), if_pos ⟨hcrit, by omega⟩]
  rfl

/-- The detector's low voltage in Cap mode: source 0's crit with UV, and source 1 supervised by ALT_FI. -/
theorem capDetectorEval_low (hrom : s.bit F.CSB_STAT.ROMDET = true) (hisl : s.islPresent 0 = true) (hfull : s.csbW 0 ≤ (s.csbSrc 0).hist.length)
    (hlow : (meanSquares true (s.winSums 0 7 (s.csbW 0)) (s.csbW 0)).any (msBelow (s.get (F.ISLn_CFG.VNOM 0)) 500) = true)
    (halt : (s.setCrit 0 ((s.csbSrc 0).crit / 4 * 4 + 1)).bit F.CSB_CFG.ALT_MODE = true) :
    capDetectorEval s = s.setCrit 0 ((s.csbSrc 0).crit / 4 * 4 + 1) := by
  unfold capDetectorEval
  simp [hrom, hisl, hlow, Nat.not_lt.mpr hfull, halt]

/-- Low voltage of source 0 opens the normal switch. -/
theorem exec_capDetectorEval_lost (h : Switches n m s) (hrom : s.bit F.CSB_STAT.ROMDET = true) (halt : s.bit F.CSB_CFG.ALT_MODE = true)
    (hisl : s.islPresent 0 = true) (hhas : s.csbHas 0 = true) (h0 : s.get F.CSB_STAT.SRC0 = 2 ∨ s.get F.CSB_STAT.SRC0 = 3)
    (hst : s.get F.CSB_STAT.STATE = 1) (hfull : s.csbW 0 ≤ (s.csbSrc 0).hist.length)
    (hlow : (meanSquares true (s.winSums 0 7 (s.csbW 0)) (s.csbW 0)).any (msBelow (s.get (F.ISLn_CFG.VNOM 0)) 500) = true) :
    ∃ t, exec (.capDetectorEval dt) s = .next t ∧ t.get F.CSB_STAT.SRC0 = 1 ∧ t.bit F.CSB_ERR.LOSS0 = true ∧ t.get F.CSB_STAT.STATE = 2 ∧
      t.foCmd n = false ∧ t.get F.CSB_LOSS_SEC.SEC = (s.elapse dt).sec32 := by
  obtain ⟨crit, hcrit⟩ : ∃ crit, crit = (s.csbSrc 0).crit / 4 * 4 + 1 := ⟨_, rfl⟩
  have hx : Switches n m ((s.elapse dt).showLoss crit) := (h.elapse dt).showLoss crit
  have hlost : (s.elapse dt).setCrit 0 crit = ((s.elapse dt).showLoss crit).opensN.csbTo 2 :=
    (State.setCrit_lost (s := s.elapse dt) hhas h0 (by omega)).trans (hx.csbEval_lost
      ((State.showLoss_get _ crit (by decide) (by decide)).trans hst) (State.showLoss_src0 _ crit)
      ((State.bit_congr (State.showLoss_get _ crit (by decide) (by decide))).trans hrom))
  have hkept {f : Fld} (hf : f.key ∉ outputKeys) (hcnt : f.key ≠ R.CSB_TRF_CNT) :
      (((s.elapse dt).showLoss crit).opensN.csbTo 2).get f = ((s.elapse dt).showLoss crit).get f :=
    (State.csbTo_get _ 2 hf hcnt).trans (State.opensN_get _ hf)
  have halt' : ((s.elapse dt).setCrit 0 crit).bit F.CSB_CFG.ALT_MODE = true := by
    rw [hlost, State.bit_congr (hkept (by decide) (by decide)), State.bit_congr (State.showLoss_get _ crit (by decide) (by decide))]
    exact halt
  have he : capDetectorEval (s.elapse dt) = ((s.elapse dt).showLoss crit).opensN.csbTo 2 := by
    rw [← hlost, hcrit]
    rw [hcrit] at halt'
    exact capDetectorEval_low (s := s.elapse dt) hrom hisl hfull hlow halt'
  refine ⟨_, exec_capDetectorEval dt s, ?_⟩
  rw [he, State.settle_get_lt _ (by decide), State.settle_bit_lt _ (by decide), State.settle_get_lt _ (by decide), State.settle_foCmd,
    State.settle_get_lt _ (by decide), State.csbTo_stat _ _ 4 2 (by decide) (by decide), State.opensN_stat _ 4 2 (by decide),
    State.bit_congr (hkept (by decide) (by decide)), State.csbTo_state _ (by decide), hx.opensN.normal_csbTo (by decide) (by decide),
    State.opensN_foCmd hx.normal, hkept (by decide) (by decide)]
  exact ⟨State.showLoss_src0 _ _, State.showLoss_error _ _, rfl, rfl, State.showLoss_sec _ _⟩

theorem capDetectorEval_off (hrom : s.bit F.CSB_STAT.ROMDET = false) : capDetectorEval s = s := by
  unfold capDetectorEval
  rw [hrom]
  rfl

end Sys2Proof.Machine
end

section
/-! The switches' positions and timers, the return and the synchronous wait (R289, R290, R297). -/
namespace Sys2Proof.Machine

variable {s t : State} {n m dt : Nat}

/-! ### FI_INPUT_CHANGE, SWITCH_CONFIRM_TIME and DEAD_TIME_EXPIRY (R289) -/

/-- An input takes a level. -/
def State.setFi (s : State) (k : Nat) (l : Bool) : State := s.setBit ⟨R.CSB_FO_STAT, 8 + k % 8, 1⟩ l

theorem State.setFi_fi {k : Nat} (hk : k < 8) (l : Bool) : (s.setFi k l).fi k = l := by
  unfold State.setFi
  rw [State.fi_eq _ hk, Nat.mod_eq_of_lt hk]
  exact State.bit_setBit_same _ _ _ (by dsimp only; omega) Nat.one_pos

theorem State.setFi_foCmd (s : State) (k : Nat) (l : Bool) (hn : n < 8) : (s.setFi k l).foCmd n = s.foCmd n := by
  unfold State.setFi
  rw [State.foCmd_eq _ hn, State.foCmd_eq _ hn]
  exact State.bit_setBit_other _ _ _ _ (.inr (.inl (by dsimp only; omega)))

theorem State.setFi_get (s : State) (k : Nat) (l : Bool) {f : Fld} (hf : f.key ≠ R.CSB_FO_STAT) : (s.setFi k l).get f = s.get f :=
  s.get_setBit_other _ f l (.inl hf)

/-- An input that no source and no group waits for. -/
theorem fiInputChange_plain (k : Nat) (l : Bool) (halt : s.bit F.CSB_CFG.ALT_MODE = false) (hrecall : s.csb.recalling = []) :
    fiInputChange k l s = (s.setFi k l).csbEval := by
  have halt' : (s.setFi k l).bit F.CSB_CFG.ALT_MODE = false := (State.bit_congr (s.setFi_get k l (by decide))).trans halt
  have hnone : (s.setFi k l).altOk = s.setFi k l := if_neg (by rw [halt', Bool.false_and]; decide)
  have hacks : (s.setFi k l).checkAcks = s.setFi k l := by
    have hrecall' : (s.setFi k l).csb.recalling = [] := hrecall
    unfold State.checkAcks
    rw [hrecall']
    rfl
  change (s.setFi k l).altOk.checkAcks.csbEval = _
  rw [hnone, hacks]

/-- The alternate switch's feedback confirms its closing, in Cap mode. -/
theorem exec_fiInputChange_closedA (h : Switches n m s) (k : Nat) (l : Bool) (hst : s.get F.CSB_STAT.STATE = 4) (h1 : s.get F.CSB_STAT.SRC1 = 3)
    (hrom : s.bit F.CSB_STAT.ROMDET = true) (halt : s.bit F.CSB_CFG.ALT_MODE = false) (hrecall : s.csb.recalling = [])
    (hfb : s.bit (F.CSB_FOn_CFG.FB_EN m) = true) (hidx : s.get (F.CSB_FOn_CFG.FB_IDX m) = k)
    (hpos : (l == s.bit (F.CSB_FOn_CFG.FB_POL m)) = s.foCmd m) :
    ∃ t, exec (.fiInputChange dt k l) s = .next t ∧ t.fi k = l ∧ t.get F.CSB_STAT.STATE = 5 ∧
      t.get F.CSB_TRF_CNT.COUNT = min (s.get F.CSB_TRF_CNT.COUNT + 1) 0xFFFFFFFF := by
  have hk : k < 8 := hidx ▸ s.get_lt (F.CSB_FOn_CFG.FB_IDX m)
  have hcfg : SameOutputCfg (s.elapse dt) ((s.elapse dt).setFi k l) := fun j hj _ _ => State.setFi_get _ k l (foCfg_ne hj (by decide))
  have hx : Switches n m ((s.elapse dt).setFi k l) := (h.elapse dt).of_cfg hcfg rfl
  have hget {f : Fld} (hf : f.key ≠ R.CSB_FO_STAT) : ((s.elapse dt).setFi k l).get f = s.get f := State.setFi_get _ k l hf
  have hconf : ((s.elapse dt).setFi k l).swConfirmed true = true := by
    have hm : R.CSB_FOn_CFG m ≠ R.CSB_FO_STAT := foCfg_ne h.alt_lt (by decide)
    have hfb' : ((s.elapse dt).setFi k l).bit (F.CSB_FOn_CFG.FB_EN m) = true := (State.bit_congr (hget hm)).trans hfb
    have hpol : ((s.elapse dt).setFi k l).bit (F.CSB_FOn_CFG.FB_POL m) = s.bit (F.CSB_FOn_CFG.FB_POL m) := State.bit_congr (hget hm)
    have hcmd : ((s.elapse dt).setFi k l).foCmd m = s.foCmd m := State.setFi_foCmd _ k l h.alt_lt
    have hposition : ((s.elapse dt).setFi k l).foPos m = s.foCmd m := by
      unfold State.foPos
      rw [hget hm, hidx, State.setFi_fi hk, hpol, hpos]
    simp [State.swConfirmed, hx.alt, hfb', hposition, hcmd]
  have he : fiInputChange k l (s.elapse dt) = ((s.elapse dt).setFi k l).csbTo 5 :=
    (fiInputChange_plain (s := s.elapse dt) k l halt hrecall).trans (hx.csbEval_closedA ((hget (by decide)).trans hst)
      (by rw [hget (by decide), h1]; decide) ((State.bit_congr (hget (by decide))).trans hrom) hconf)
  have hst' : ((s.elapse dt).setFi k l).get F.CSB_STAT.STATE = 4 := (hget (by decide)).trans hst
  refine ⟨_, exec_fiInputChange dt k l s, ?_⟩
  rw [he, State.settle_fi, State.settle_get_lt _ (by decide), State.settle_get_lt _ (by decide), State.csbTo_fi, State.setFi_fi hk,
    State.csbTo_state _ (by decide), State.csbTo_count _ (.inr rfl) (by rw [hst']; decide) (by rw [hst']; decide), hget (by decide)]
  exact ⟨rfl, rfl, rfl⟩

/-- CSB's own state, changed. -/
def State.putCsb (s : State) (c : CsbSt) : State := { s with csb := c }

theorem State.putCsb_get (s : State) (c : CsbSt) (f : Fld) : (s.putCsb c).get f = s.get f := rfl
theorem State.putCsb_bit (s : State) (c : CsbSt) (f : Fld) : (s.putCsb c).bit f = s.bit f := rfl
theorem State.putCsb_csb (s : State) (c : CsbSt) : (s.putCsb c).csb = c := rfl
theorem Switches.putCsb (h : Switches n m s) (c : CsbSt) : Switches n m (s.putCsb c) := h.of_cfg (fun _ _ _ _ => rfl) rfl

/-- BRK_T has passed since the normal switch's command. -/
abbrev brkDone (c : CsbSt) : CsbSt := { c with brk1 := true }
/-- DEAD_T has passed since the normal switch's open command. -/
abbrev deadDone (c : CsbSt) : CsbSt := { c with dead1 := true }
/-- Source 0 has been HEALTHY for RET_T. -/
abbrev returnDue (c : CsbSt) : CsbSt := { c with retDone := true }
/-- RETURN is commanded. -/
abbrev returnGiven (c : CsbSt) : CsbSt := { c with returnCmd := true }
/-- SYNC_WAIT has passed. -/
abbrev syncWaited (c : CsbSt) : CsbSt := { c with syncTmo := true }

/-- BRK_T confirms the normal switch's closing. -/
theorem exec_switchConfirmTime_closedN (h : Switches n m s) (hst : s.get F.CSB_STAT.STATE = 9) (h0 : s.get F.CSB_STAT.SRC0 = 3) :
    ∃ t, exec (.switchConfirmTime dt false) s = .next t ∧ t.get F.CSB_STAT.STATE = 1 ∧ t.csb.brk1 = true ∧
      t.get F.CSB_TRF_CNT.COUNT = min (s.get F.CSB_TRF_CNT.COUNT + 1) 0xFFFFFFFF := by
  have hx : Switches n m ((s.elapse dt).putCsb (brkDone s.csb)) := (h.elapse dt).putCsb _
  have hst' : ((s.elapse dt).putCsb (brkDone s.csb)).get F.CSB_STAT.STATE = 9 := hst
  have h0' : ((s.elapse dt).putCsb (brkDone s.csb)).get F.CSB_STAT.SRC0 ≠ 1 := by rw [State.putCsb_get, State.elapse_get, h0]; decide
  have he : switchConfirmTime false (s.elapse dt) = ((s.elapse dt).putCsb (brkDone s.csb)).csbTo 1 :=
    State.csbEval_of_row (State.csbRow_closedN hst' h0' hx.confirmed_normal) (hx.rests_entersNormal h0')
  refine ⟨_, exec_switchConfirmTime dt false s, ?_⟩
  rw [he, State.settle_get_lt _ (by decide), State.settle_get_lt _ (by decide), State.settle_csb, State.csbTo_state _ (by decide),
    State.csbTo_brk1, State.csbTo_count _ (.inl rfl) (by rw [hst']; decide) (by rw [hst']; decide)]
  exact ⟨rfl, rfl, rfl⟩

/-- DEAD_T past the confirmed open of the normal switch closes the alternate one. -/
theorem exec_deadTimeExpiry_closesA (h : Switches n m s) (hm : AltTimed m s) (hst : s.get F.CSB_STAT.STATE = 2) (h1 : s.get F.CSB_STAT.SRC1 = 3)
    (hbrk : s.csb.brk1 = true) (hn : s.foCmd n = false) (hcmd : s.foCmd m = false) :
    ∃ t, exec (.deadTimeExpiry dt false) s = .next t ∧ t.get F.CSB_STAT.STATE = 4 ∧ t.foCmd m = true ∧ t.csb.brk2 = false := by
  have hx : Switches n m ((s.elapse dt).putCsb (deadDone s.csb)) := (h.elapse dt).putCsb _
  have hmay : ((s.elapse dt).putCsb (deadDone s.csb)).mayClose true = true := by
    have hoff : ((s.elapse dt).putCsb (deadDone s.csb)).swCmd false = false := hx.cmd_normal.trans hn
    have hconf : ((s.elapse dt).putCsb (deadDone s.csb)).swConfirmed false = true := hx.confirmed_normal.trans hbrk
    simp [State.mayClose, hoff, hconf, State.putCsb_csb]
  have he : deadTimeExpiry false (s.elapse dt) = (((s.elapse dt).putCsb (deadDone s.csb)).swSet true true).csbTo 4 :=
    hx.csbEval_closesA hm hst h1 (hx.cmd_alt.trans hcmd) hmay
  refine ⟨_, exec_deadTimeExpiry dt false s, ?_⟩
  rw [he, State.settle_get_lt _ (by decide), State.settle_foCmd, State.settle_csb, State.csbTo_state _ (by decide),
    (hx.swSet true true).alt_csbTo (by decide) (by decide), State.swSet_foCmd (alt := true) hx.alt, State.csbTo_brk2, State.swSet_brk2]
  exact ⟨rfl, rfl, rfl⟩

/-! ### RETURN_TIMER_EXPIRY, RETURN and SYNC_WAIT_EXPIRY (R290, R297) -/

theorem returnTimerExpiry_healthy (h0 : s.get F.CSB_STAT.SRC0 = 3) : returnTimerExpiry s = (s.putCsb (returnDue s.csb)).csbEval :=
  if_pos (by rw [State.healthy_zero, h0]; rfl)

theorem returnTimerExpiry_unhealthy (h0 : s.get F.CSB_STAT.SRC0 ≠ 3) : returnTimerExpiry s = s := if_neg (by simpa [State.healthy_zero] using h0)

theorem csbReturn_taken (hst : s.get F.CSB_STAT.STATE = 5) (h0 : s.get F.CSB_STAT.SRC0 = 3) (hrom : s.bit F.CSB_STAT.ROMDET = false) :
    csbReturn s = (s.putCsb (returnGiven s.csb)).csbEval := if_pos ⟨hst, by rw [State.healthy_zero, h0]; rfl, by rw [hrom]; rfl⟩

theorem csbReturn_rejected (h : s.get F.CSB_STAT.STATE ≠ 5 ∨ s.get F.CSB_STAT.SRC0 ≠ 3 ∨ s.bit F.CSB_STAT.ROMDET = true) :
    csbReturn s = s.flag F.CSB_ERR.CMD_REJ := by
  refine if_neg fun ⟨hst, h0, hrom⟩ => ?_
  rw [State.healthy_zero, beq_iff_eq] at h0
  simp only [hst, h0, ne_eq, not_true_eq_false, false_or] at h
  rw [h] at hrom
  cases hrom

theorem syncWaitExpiry_sync (hst : s.get F.CSB_STAT.STATE = 6) : syncWaitExpiry s = (s.putCsb (syncWaited s.csb)).csbEval := if_pos hst

/-- A command that starts the return, by way of CSB's own state. -/
theorem Switches.return_opens (h : Switches n m s) (hm : AltTimed m s) (c : CsbSt) (hst : s.get F.CSB_STAT.STATE = 5)
    (h0 : s.get F.CSB_STAT.SRC0 = 3) (h1 : s.get F.CSB_STAT.SRC1 ≠ 1) (hrom : s.bit F.CSB_STAT.ROMDET = false)
    (hret : (s.putCsb c).returns = true) (hsync : s.bit F.CSB_CFG.SYNC_EN = false) :
    (s.putCsb c).csbEval.get F.CSB_STAT.STATE = 8 ∧ (s.putCsb c).csbEval.foCmd m = false := by
  have hx : Switches n m (s.putCsb c).takeReturn := (h.putCsb c).of_cfg (fun _ _ _ _ => rfl) rfl
  have he : (s.putCsb c).csbEval = ((s.putCsb c).takeReturn.swSet true false).csbTo 8 :=
    ((h.putCsb c).csbEval_return hm hst h0 h1 hrom hret).trans (if_neg (by rw [State.putCsb_bit, hsync]; decide))
  rw [he, State.csbTo_state _ (by decide), (hx.swSet true false).alt_csbTo (by decide) (by decide), State.swSet_foCmd (alt := true) hx.alt]
  exact ⟨rfl, rfl⟩

/-- The return waits for synchronism. -/
theorem Switches.return_waits (h : Switches n m s) (hm : AltTimed m s) (c : CsbSt) (hst : s.get F.CSB_STAT.STATE = 5)
    (h0 : s.get F.CSB_STAT.SRC0 = 3) (h1 : s.get F.CSB_STAT.SRC1 ≠ 1) (hrom : s.bit F.CSB_STAT.ROMDET = false)
    (hret : (s.putCsb c).returns = true) (hsync : s.bit F.CSB_CFG.SYNC_EN = true) :
    (s.putCsb c).csbEval.get F.CSB_STAT.STATE = 6 ∧ (s.putCsb c).csbEval.foCmd m = s.foCmd m := by
  have hx : Switches n m (s.putCsb c).takeReturn := (h.putCsb c).of_cfg (fun _ _ _ _ => rfl) rfl
  have he : (s.putCsb c).csbEval = (s.putCsb c).takeReturn.csbTo 6 :=
    ((h.putCsb c).csbEval_return hm hst h0 h1 hrom hret).trans (if_pos hsync)
  rw [he, State.csbTo_state _ (by decide), hx.alt_csbTo (by decide) (by decide)]
  exact ⟨rfl, rfl⟩

section Return
variable (h : Switches n m s) (hm : AltTimed m s) (hst : s.get F.CSB_STAT.STATE = 5) (h0 : s.get F.CSB_STAT.SRC0 = 3)
  (h1 : s.get F.CSB_STAT.SRC1 ≠ 1) (hrom : s.bit F.CSB_STAT.ROMDET = false)
include h hm hst h0 h1 hrom

/-- RET_T's end opens the alternate switch. -/
theorem exec_returnTimerExpiry_opens (hsync : s.bit F.CSB_CFG.SYNC_EN = false) (hinh : s.bit F.CSB_CTRL.RET_INH = false) :
    ∃ t, exec (.returnTimerExpiry dt) s = .next t ∧ t.get F.CSB_STAT.STATE = 8 ∧ t.foCmd m = false := by
  refine ⟨_, exec_returnTimerExpiry dt s, ?_⟩
  rw [returnTimerExpiry_healthy (s := s.elapse dt) h0, State.settle_get_lt _ (by decide), State.settle_foCmd]
  exact (h.elapse dt).return_opens hm _ hst h0 h1 hrom (by simp [State.returns, State.putCsb_csb, State.putCsb_bit, hinh]) hsync

/-- RETURN opens the alternate switch. -/
theorem exec_csbReturn_opens (hsync : s.bit F.CSB_CFG.SYNC_EN = false) {rq : Rq} (hw : Writes s rq R.CSB_CMD) :
    ∃ t, exec (.csbReturn dt rq) s = .next t ∧ t.get F.CSB_STAT.STATE = 8 ∧ t.foCmd m = false := by
  refine ⟨_, exec_csbReturn dt hw, ?_⟩
  rw [csbReturn_taken (s := s.elapse dt) hst h0 hrom, State.settle_get_lt _ (by decide), State.settle_foCmd]
  exact (h.elapse dt).return_opens hm _ hst h0 h1 hrom (by simp [State.returns, State.putCsb_csb]) hsync

/-- RET_T's end waits for synchronism. -/
theorem exec_returnTimerExpiry_waits (hsync : s.bit F.CSB_CFG.SYNC_EN = true) (hinh : s.bit F.CSB_CTRL.RET_INH = false) :
    ∃ t, exec (.returnTimerExpiry dt) s = .next t ∧ t.get F.CSB_STAT.STATE = 6 ∧ t.foCmd m = s.foCmd m := by
  refine ⟨_, exec_returnTimerExpiry dt s, ?_⟩
  rw [returnTimerExpiry_healthy (s := s.elapse dt) h0, State.settle_get_lt _ (by decide), State.settle_foCmd]
  exact (h.elapse dt).return_waits hm _ hst h0 h1 hrom (by simp [State.returns, State.putCsb_csb, State.putCsb_bit, hinh]) hsync

end Return

section SyncWait
variable (h : Switches n m s) (hm : AltTimed m s) (hst : s.get F.CSB_STAT.STATE = 6) (h0 : s.get F.CSB_STAT.SRC0 = 3)
  (h1 : s.get F.CSB_STAT.SRC1 ≠ 1) (hrun : s.csb.syncRun < 2) (hcmd : s.csb.returnCmd = false)
include h hm hst h0 h1 hrun hcmd

theorem syncWaitExpiry_row : syncWaitExpiry s = if s.bit F.CSB_CFG.RET_OPEN then ((s.putCsb (syncWaited s.csb)).swSet true false).csbTo 8
    else ((s.putCsb (syncWaited s.csb)).csbTo 5).restartReturn :=
  (syncWaitExpiry_sync hst).trans ((h.putCsb (syncWaited s.csb)).csbEval_syncTmo hm hst h0 h1 hrun rfl hcmd)

/-- SYNC_WAIT's end returns to ALTERNATE. -/
theorem exec_syncWaitExpiry_returns (hopen : s.bit F.CSB_CFG.RET_OPEN = false) :
    ∃ t, exec (.syncWaitExpiry dt) s = .next t ∧ t.get F.CSB_STAT.STATE = 5 ∧ t.bit F.CSB_ERR.SYNC_TMO = true ∧ t.csb.retDone = false := by
  have he : syncWaitExpiry (s.elapse dt) = (((s.elapse dt).putCsb (syncWaited s.csb)).csbTo 5).restartReturn :=
    (syncWaitExpiry_row (s := s.elapse dt) (h.elapse dt) hm hst h0 h1 hrun hcmd).trans (if_neg (by rw [State.elapse_bit, hopen]; decide))
  refine ⟨_, exec_syncWaitExpiry dt s, ?_⟩
  rw [he, State.settle_get_lt _ (by decide), State.settle_bit_lt _ (by decide), State.settle_csb]
  exact ⟨(State.get_flag_other _ F.CSB_ERR.SYNC_TMO F.CSB_STAT.STATE (by decide)).trans (State.csbTo_state _ (by decide)),
    State.bit_flag_same _ F.CSB_ERR.SYNC_TMO rfl (by decide), rfl⟩

/-- SYNC_WAIT's end opens the alternate switch. -/
theorem exec_syncWaitExpiry_opens (hopen : s.bit F.CSB_CFG.RET_OPEN = true) :
    ∃ t, exec (.syncWaitExpiry dt) s = .next t ∧ t.get F.CSB_STAT.STATE = 8 ∧ t.foCmd m = false := by
  have hx : Switches n m ((s.elapse dt).putCsb (syncWaited s.csb)) := (h.elapse dt).putCsb _
  have he : syncWaitExpiry (s.elapse dt) = (((s.elapse dt).putCsb (syncWaited s.csb)).swSet true false).csbTo 8 :=
    (syncWaitExpiry_row (s := s.elapse dt) (h.elapse dt) hm hst h0 h1 hrun hcmd).trans (if_pos hopen)
  refine ⟨_, exec_syncWaitExpiry dt s, ?_⟩
  rw [he, State.settle_get_lt _ (by decide), State.settle_foCmd, State.csbTo_state _ (by decide),
    (hx.swSet true false).alt_csbTo (by decide) (by decide), State.swSet_foCmd (alt := true) hx.alt]
  exact ⟨rfl, rfl⟩

end SyncWait

end Sys2Proof.Machine
end

section
/-! The ways into BLOCKED and out of it (R289, R290, R297); O43. -/
namespace Sys2Proof.Machine

variable {s t : State} {n m dt : Nat}

/-! ### SWITCH_CONFIRM_TIMEOUT and OVERLAP_TIMEOUT (R289, R290) -/

/-- A command that blocks the machine. -/
theorem exec_blocks {c : Instr} {u : State} (live : u.saf.wdDeferred = false) (he : exec c s = .next u.csbBlock.csbEval.settle) :
    ∃ t, exec c s = .next t ∧ t.get F.CSB_STAT.STATE = 10 ∧ t.bit F.CSB_ERR.BLOCKED = true ∧ t.bit ⟨R.SAF_FLT_LAT, 13, 1⟩ = true := by
  obtain ⟨hstate, herr, hlat, hrests⟩ := u.csbBlock_blocked live
  refine ⟨_, he, ?_⟩
  rw [hrests, State.settle_get _ _ (by decide), State.settle_bit _ _ (by decide), State.settle_bit _ _ (by decide)]
  exact ⟨hstate, herr, hlat⟩

/-- A confirmation that the state waits for, and that is not met within FB_T. -/
theorem exec_switchConfirmTimeout_blocks (live : s.saf.wdDeferred = false) {alt : Bool} (hawaits : s.awaits alt = true)
    (hconf : s.swConfirmed alt = false) : ∃ t, exec (.switchConfirmTimeout dt alt) s = .next t ∧ t.get F.CSB_STAT.STATE = 10 ∧
      t.bit F.CSB_ERR.BLOCKED = true ∧ t.bit ⟨R.SAF_FLT_LAT, 13, 1⟩ = true := by
  have hawaits' : (s.elapse dt).awaits alt = true := hawaits
  have hconf' : (s.elapse dt).swConfirmed alt = false := hconf
  have he : switchConfirmTimeout alt (s.elapse dt) = (s.elapse dt).csbBlock.csbEval := if_pos (by rw [hawaits', hconf']; rfl)
  exact exec_blocks (u := s.elapse dt) live (he ▸ exec_switchConfirmTimeout dt alt s)

theorem switchConfirmTimeout_idle {alt : Bool} (h : s.awaits alt = false ∨ s.swConfirmed alt = true) : switchConfirmTimeout alt s = s := by
  refine if_neg ?_
  rcases h with h | h <;> simp [h]

/-- The alternate switch's opening after the overlap, not confirmed within OVL_MAX. -/
theorem exec_overlapTimeout_blocks (live : s.saf.wdDeferred = false) (hst : s.get F.CSB_STAT.STATE = 8) (hafter : s.csb.after7 = true)
    (hconf : s.swConfirmed true = false) : ∃ t, exec (.overlapTimeout dt) s = .next t ∧ t.get F.CSB_STAT.STATE = 10 ∧
      t.bit F.CSB_ERR.BLOCKED = true ∧ t.bit ⟨R.SAF_FLT_LAT, 13, 1⟩ = true := by
  have hconf' : (s.elapse dt).swConfirmed true = false := hconf
  have he : overlapTimeout (s.elapse dt) = (s.elapse dt).csbBlock.csbEval := if_pos ⟨hst, hafter, by rw [hconf']; rfl⟩
  exact exec_blocks (u := s.elapse dt) live (he ▸ exec_overlapTimeout dt s)

/-! ### CLR_FLT (R297) -/

/-- The outputs whose fault is latched and still holds. -/
def State.stillFaulty (s : State) : Nat :=
  (List.range 8).foldl (fun acc n =>
    if s.get F.CSB_FO_STAT.FLT / 2 ^ n % 2 = 1 ∧ (s.csb.mismatch.any (fun m => m / 2 == n) ∨ s.fbWrong n) then acc + 2 ^ n else acc) 0

/-- CLR_FLT shows the faults that still hold. -/
def State.clearFaults (s : State) : State := s.set F.CSB_FO_STAT.FLT s.stillFaulty

theorem State.stillFaulty_zero (hmis : s.csb.mismatch = []) (hfb : ∀ k, k < 8 → s.fbWrong k = false) : s.stillFaulty = 0 := by
  refine List.foldlRecOn (motive := fun acc => acc = 0) _ _ rfl fun acc hacc k hk => ?_
  rw [if_neg (by simp [hmis, hfb k (List.mem_range.mp hk)]), hacc]

theorem State.clearFaults_get (s : State) {f : Fld} (hf : f.key ≠ R.CSB_FO_STAT) : s.clearFaults.get f = s.get f := s.get_set_other _ f _ (.inl hf)

theorem csbClrFlt_running (hst : s.get F.CSB_STAT.STATE ≠ 10) :
    csbClrFlt s = if s.get F.CSB_FO_STAT.FLT = 0 then s.clearFaults.flag F.CSB_ERR.CMD_REJ else s.clearFaults := if_neg hst

/-- BLOCKED is left for NORMAL when the normal switch alone is closed. -/
theorem csbClrFlt_blocked (hst : s.get F.CSB_STAT.STATE = 10) (hn : s.swConfirmed false = true) (hm : s.swConfirmed true = true)
    (hcn : s.swCmd false = true) (hcm : s.swCmd true = false) : csbClrFlt s = (s.clearFaults.csbTo 1).csbEval := by
  have hsame : SameSwitches s s.clearFaults := .set s _ _ (by decide) (by decide)
  have hn' : s.clearFaults.swConfirmed false = true := (hsame.swConfirmed false).trans hn
  have hm' : s.clearFaults.swConfirmed true = true := (hsame.swConfirmed true).trans hm
  have hcn' : s.clearFaults.swClosed false = true := by rw [State.swClosed, hsame.swCmd, hcn, hn']; rfl
  have hcm' : s.clearFaults.swClosed true = false := by rw [State.swClosed, hsame.swCmd, hcm]; rfl
  unfold State.clearFaults State.stillFaulty at *
  simp only [csbClrFlt, hst, hn', hm', hcn', hcm', if_true, and_self]

section ClrFlt
variable {rq : Rq} (hw : Writes s rq R.CSB_CMD)
include hw

theorem exec_csbClrFlt_normal (h : Switches n m s) (hst : s.get F.CSB_STAT.STATE = 10) (hn : s.swConfirmed false = true)
    (hm : s.swConfirmed true = true) (hcn : s.swCmd false = true) (hcm : s.swCmd true = false) (h0 : s.get F.CSB_STAT.SRC0 ≠ 1) :
    ∃ t, exec (.csbClrFlt dt rq) s = .next t ∧ t.get F.CSB_STAT.STATE = 1 := by
  have hx : Switches n m (s.elapse dt).clearFaults := (h.elapse dt).set _ _ (by decide)
  have h0' : (s.elapse dt).clearFaults.get F.CSB_STAT.SRC0 ≠ 1 := by rwa [State.clearFaults_get _ (by decide)]
  refine ⟨_, exec_csbClrFlt dt hw, ?_⟩
  rw [State.settle_get_lt _ (by decide), csbClrFlt_blocked (s := s.elapse dt) hst hn hm hcn hcm, (hx.rests_entersNormal h0').csbEval,
    State.csbTo_state _ (by decide)]

/-- Nothing to clear. -/
theorem exec_csbClrFlt_rejected (hst : s.get F.CSB_STAT.STATE ≠ 10) (hflt : s.get F.CSB_FO_STAT.FLT = 0) :
    ∃ t, exec (.csbClrFlt dt rq) s = .next t ∧ t.bit F.CSB_ERR.CMD_REJ = true ∧ t.get F.CSB_STAT.STATE = s.get F.CSB_STAT.STATE := by
  have he : csbClrFlt (s.elapse dt) = _ := (csbClrFlt_running (s := s.elapse dt) hst).trans (if_pos hflt)
  refine ⟨_, exec_csbClrFlt dt hw, ?_⟩
  rw [he, State.settle_bit_lt _ (by decide), State.settle_get_lt _ (by decide), State.get_flag_other _ _ _ (by decide),
    State.clearFaults_get _ (by decide)]
  exact ⟨State.bit_flag_same _ _ rfl (by decide), rfl⟩

/-- Faults whose condition no longer holds are cleared. -/
theorem exec_csbClrFlt_clears (hst : s.get F.CSB_STAT.STATE ≠ 10) (hflt : s.get F.CSB_FO_STAT.FLT ≠ 0) (hmis : s.csb.mismatch = [])
    (hfb : ∀ k, k < 8 → s.fbWrong k = false) :
    ∃ t, exec (.csbClrFlt dt rq) s = .next t ∧ t.get F.CSB_FO_STAT.FLT = 0 ∧ OnlyWords [R.CSB_FO_STAT] (s.elapse dt) t := by
  have he : csbClrFlt (s.elapse dt) = (s.elapse dt).set F.CSB_FO_STAT.FLT 0 := by
    rw [csbClrFlt_running (s := s.elapse dt) hst, if_neg (by simpa using hflt), State.clearFaults, State.stillFaulty_zero (s := s.elapse dt) hmis hfb]
  refine ⟨_, exec_csbClrFlt dt hw, ?_⟩
  rw [he, State.settle_get_lt _ (by decide), State.get_set_fits _ _ (by decide) (by decide)]
  exact ⟨rfl, ((OnlyWords.refl _ _).set F.CSB_FO_STAT.FLT 0 (by decide)).settle⟩

end ClrFlt

/-- Settles O43: every command moves the machine by at most one row of Table 11.2, after which it rests until the switch it commanded is confirmed;
outputs of ROLE 4 and load groups follow without touching the switches' timers, and the fault that BLOCKED raises leaves it blocked. -/
theorem theTransferMachineTakesTableRows : Obligations.TheTransferMachineTakesTableRows := by
  unfold Obligations.TheTransferMachineTakesTableRows
  intro s dt live n m hnormal halt htimed
  have h : Switches n m s := ⟨hnormal, halt, htimed, live⟩
  refine ⟨exec_sourceQualified_rests live, exec_sourceQualified_closes h, exec_capDetectorEval_lost h,
    fun hrom => exec_idle (exec_capDetectorEval dt s) (capDetectorEval_off (s := s.elapse dt) hrom), exec_fiInputChange_closedA h,
    exec_switchConfirmTime_closedN h, fun hm => ⟨exec_deadTimeExpiry_closesA h hm, fun hst h0 h1 hrom => ⟨fun hsync =>
        ⟨exec_returnTimerExpiry_opens h hm hst h0 h1 hrom hsync, fun rq => exec_csbReturn_opens h hm hst h0 h1 hrom hsync⟩,
        exec_returnTimerExpiry_waits h hm hst h0 h1 hrom⟩, fun hst h0 h1 hrun hcmd =>
        ⟨exec_syncWaitExpiry_returns h hm hst h0 h1 hrun hcmd, exec_syncWaitExpiry_opens h hm hst h0 h1 hrun hcmd⟩⟩,
    fun h0 => exec_idle (exec_returnTimerExpiry dt s) (returnTimerExpiry_unhealthy (s := s.elapse dt) h0),
    fun alt => ⟨exec_switchConfirmTimeout_blocks live, fun hidle =>
      exec_idle (exec_switchConfirmTimeout dt alt s) (switchConfirmTimeout_idle (s := s.elapse dt) hidle)⟩,
    exec_overlapTimeout_blocks live, fun rq hw => ⟨fun hrej => exec_setsFlag (exec_csbReturn dt hw) (csbReturn_rejected (s := s.elapse dt) hrej) rfl
      (by decide) (by decide), exec_csbClrFlt_normal hw h, exec_csbClrFlt_rejected hw, exec_csbClrFlt_clears hw⟩⟩

end Sys2Proof.Machine
end

section
/-! The fabric's ports (R305, R308, R320): a port's own state beside its words, frames that are queued, what the sending of messages and of
link-state advertisements leaves alone. -/
namespace Sys2Proof.Machine

variable {s t u : State}

/-! ### A port's own state -/

theorem State.fp_setFp (s : State) (p q : Nat) (x : FabPort) : (s.setFp p x).fp q = if q = p then x else s.fp q :=
  look_store (fun _ => fabPort0) p q x s.fab.ports

theorem State.fp_congr (h : t.fab = s.fab) (p : Nat) : t.fp p = s.fp p := by unfold State.fp; rw [h]

@[simp] theorem State.fp_setFp_same (s : State) (p : Nat) (x : FabPort) : (s.setFp p x).fp p = x := by rw [State.fp_setFp, if_pos rfl]
@[simp] theorem State.setFp_word (s : State) (p : Nat) (x : FabPort) (k : Nat) : (s.setFp p x).word k = s.word k := rfl
@[simp] theorem State.setFp_get (s : State) (p : Nat) (x : FabPort) (f : Fld) : (s.setFp p x).get f = s.get f := rfl
@[simp] theorem State.setFp_bit (s : State) (p : Nat) (x : FabPort) (f : Fld) : (s.setFp p x).bit f = s.bit f := rfl
@[simp] theorem State.setFp_fpState (s : State) (p q : Nat) (x : FabPort) : (s.setFp p x).fpState q = s.fpState q := rfl
@[simp] theorem State.setFp_emitted (s : State) (p : Nat) (x : FabPort) : (s.setFp p x).emitted = s.emitted := rfl
@[simp] theorem State.set_fp (s : State) (f : Fld) (v p : Nat) : (s.set f v).fp p = s.fp p := rfl
@[simp] theorem State.setBit_fp (s : State) (f : Fld) (b : Bool) (p : Nat) : (s.setBit f b).fp p = s.fp p := rfl
@[simp] theorem State.inc_fp (s : State) (f : Fld) (p : Nat) : (s.inc f).fp p = s.fp p := rfl
@[simp] theorem State.addSat_fp (s : State) (f : Fld) (n p : Nat) : (s.addSat f n).fp p = s.fp p := rfl
@[simp] theorem State.emit_fp (s : State) (e : Emit) (p : Nat) : (s.emit e).fp p = s.fp p := rfl
@[simp] theorem State.nextFree_fp (s : State) (p : Nat) : s.nextFree.fp p = s.fp p := rfl
@[simp] theorem State.elapse_fp (s : State) (dt p : Nat) : (s.elapse dt).fp p = s.fp p := rfl
@[simp] theorem State.elapse_fpState (s : State) (dt p : Nat) : (s.elapse dt).fpState p = s.fpState p := rfl
@[simp] theorem State.settle_fp (s : State) (p : Nat) : s.settle.fp p = s.fp p := State.fp_congr s.settle_fab p

theorem State.mem_upPorts {p : Nat} : p ∈ s.upPorts ↔ p < 4 ∧ s.fpState p = 3 := by simp [State.upPorts]

/-! ### FAB's words -/

/-- The words of FAB that its messages, advertisements and address change. -/
def fabKeys : List Nat := [R.FAB_ADDR, R.FAB_STAT, R.FAB_ERR, R.FAB_LSA_SEQ] ++ fabSendKeys

theorem fabSendKeys_sub {k : Nat} (h : k ∉ fabKeys) : k ∉ fabSendKeys := fun hk => h (List.mem_append_right _ hk)

theorem fabKeys_range : ∀ k ∈ fabKeys, 0x0D0000 ≤ k ∧ (k < 0x0D0100 ∨ (k < 0x0D0200 ∧ k % 0x40 = 0x1C)) := by decide

/-- Of a port's words only the count of dropped frames is among them. -/
theorem port_notFabKeys (p : Nat) {o : Nat} (ho : o < 0x40) (hdrop : o ≠ 0x1C) : 0x0D0100 + o + 0x40 * p ∉ fabKeys := fun h => by
  have := fabKeys_range _ h
  omega

theorem portStat_notFabKeys (p : Nat) : R.PORTn_STAT p ∉ fabKeys := port_notFabKeys p (o := 4) (by decide) (by decide)

/-! ### Frames that are queued (R317, R320) -/

/-- Frames were queued, or dropped and counted: nothing else of a port, of FAB or of the outward record changed. -/
structure QueuesOnly (s t : State) : Prop where
  words : ∀ k, k ∉ fabSendKeys → t.word k = s.word k
  fab : t.fab = { s.fab with ports := t.fab.ports }
  fp : ∀ q, t.fp q = { s.fp q with queues := (t.fp q).queues }
  emitted : t.emitted = s.emitted
  clock : t.clock = s.clock

namespace QueuesOnly

theorem refl (s : State) : QueuesOnly s s := ⟨fun _ _ => rfl, rfl, fun _ => rfl, rfl, rfl⟩

theorem trans (h1 : QueuesOnly s t) (h2 : QueuesOnly t u) : QueuesOnly s u where
  words k hk := (h2.words k hk).trans (h1.words k hk)
  fab := by rw [h2.fab, h1.fab]
  fp q := by rw [h2.fp q, h1.fp q]
  emitted := h2.emitted.trans h1.emitted
  clock := h2.clock.trans h1.clock

theorem get (h : QueuesOnly s t) (f : Fld) (hf : f.key ∉ fabSendKeys) : t.get f = s.get f := by
  unfold State.get
  rw [h.words _ hf]

theorem inc (s : State) (f : Fld) (hf : f.key ∈ fabSendKeys) : QueuesOnly s (s.inc f) :=
  ⟨fun k hk => s.word_set_other f _ k (fun e => hk (e ▸ hf)), rfl, fun _ => rfl, rfl, rfl⟩

theorem foldl {α : Type} {f : State → α → State} {l : List α} (hf : ∀ u, ∀ a ∈ l, QueuesOnly u (f u a)) (s : State) :
    QueuesOnly s (l.foldl f s) := by
  induction l generalizing s with
  | nil => exact .refl s
  | cons a l ih => exact (hf s a (List.mem_cons_self ..)).trans (ih (fun u b hb => hf u b (List.mem_cons_of_mem a hb)) (f s a))

end QueuesOnly

theorem drop_mem_fabSendKeys {p : Nat} (hp : p < 4) : R.PORTn_DROP_CNT p ∈ fabSendKeys := by
  interval_cases p <;> decide

theorem State.enqueue_queues (s : State) {p : Nat} (hp : p < 4) (f : FabFrame) : QueuesOnly s (s.enqueue p f) := by
  unfold State.enqueue
  dsimp only
  split
  · exact .inc s _ (drop_mem_fabSendKeys hp)
  · refine ⟨fun _ _ => rfl, rfl, fun q => ?_, rfl, rfl⟩
    rw [State.fp_setFp]
    split
    · next h => rw [h]
    · rfl

/-- A frame queued at one port leaves the others. -/
theorem State.enqueue_fp_ne (s : State) {p q : Nat} (h : q ≠ p) (f : FabFrame) : (s.enqueue p f).fp q = s.fp q := by
  unfold State.enqueue
  dsimp only
  split
  · rfl
  · rw [State.fp_setFp, if_neg h]

theorem State.enqueue_drop_ne (s : State) {p q : Nat} (h : q ≠ p) (f : FabFrame) :
    (s.enqueue p f).get (F.PORTn_DROP_CNT.COUNT q) = s.get (F.PORTn_DROP_CNT.COUNT q) := by
  unfold State.enqueue
  dsimp only
  split
  · refine s.get_set_other _ _ _ (.inl ?_)
    simp only [R.PORTn_DROP_CNT]
    omega
  · rfl

theorem State.sendVia_queues (s : State) {o : Option Nat} (ho : ∀ p ∈ o, p < 4) (f : FabFrame) : QueuesOnly s (s.sendVia o f) := by
  cases o with
  | some p => exact s.enqueue_queues (ho p rfl) f
  | none => exact .inc s F.FAB_NOROUTE_CNT.COUNT (by decide)

/-- What each step over the members of a list keeps, the whole keeps. -/
theorem foldl_keeps_mem {α β γ : Type} (g : β → γ) {f : β → α → β} {l : List α} (hf : ∀ b, ∀ a ∈ l, g (f b a) = g b) (b : β) :
    g (l.foldl f b) = g b := by
  induction l generalizing b with
  | nil => rfl
  | cons a l ih => exact (ih (fun b c hc => hf b c (List.mem_cons_of_mem a hc)) (f b a)).trans (hf b a (List.mem_cons_self ..))

theorem State.broadcast_queues (s : State) {l : List Nat} (hl : ∀ p ∈ l, p < 4) (f : FabFrame) :
    QueuesOnly s (l.foldl (fun u p => u.enqueue p f) s) := .foldl (fun u p hp => u.enqueue_queues (hl p hp) f) s

/-- The sending of a routed frame only queues it or counts it. -/
theorem State.sendRouted_queues (s : State) (f : FabFrame) : QueuesOnly s (s.sendRouted f) := by
  have hvia (f : FabFrame) : QueuesOnly s (s.sendVia (s.routePort f.dst) f) := s.sendVia_queues (fun p hp => State.routePort_lt hp) f
  have hrep := hvia { f with rep := true }
  unfold State.sendRouted
  dsimp only
  split
  · exact s.broadcast_queues (fun p hp => (State.mem_upPorts.mp hp).1) f
  · split
    · exact hvia f
    · split
      · exact hrep
      · split
        · refine hrep.trans (State.sendVia_queues _ (fun p hp => ?_) _)
          split at hp
          · exact Option.some.inj hp ▸ Nat.mod_lt _ (by decide)
          · cases hp
        · exact hrep.trans (.inc _ F.FAB_NODISJ_CNT.COUNT (by decide))

/-! ### What FAB's own traffic leaves alone -/

/-- FAB sent messages or advertisements, or its address moved: of its own state the windows, the response cache, K_hb, the address in FRAM and
every node's entry but the module's own are as before, and of a port everything but its queues. -/
structure FabKeeps (me : Nat) (s t : State) : Prop where
  words : ∀ k, k ∉ fabKeys → t.word k = s.word k
  fab : t.fab = { s.fab with ports := t.fab.ports, lsdb := t.fab.lsdb, lastLsa := t.fab.lastLsa, lsaDue := t.fab.lsaDue,
                             changeUp := t.fab.changeUp, pend := t.fab.pend, seqs := t.fab.seqs }
  fp : ∀ q, t.fp q = { s.fp q with queues := (t.fp q).queues }
  lsdb : ∀ d, d ≠ me → t.fab.lsdb.lookup d = s.fab.lsdb.lookup d
  emitted : t.emitted = s.emitted
  clock : t.clock = s.clock

namespace FabKeeps
variable {me : Nat}

theorem refl (me : Nat) (s : State) : FabKeeps me s s := ⟨fun _ _ => rfl, rfl, fun _ => rfl, fun _ _ => rfl, rfl, rfl⟩

theorem trans (h1 : FabKeeps me s t) (h2 : FabKeeps me t u) : FabKeeps me s u where
  words k hk := (h2.words k hk).trans (h1.words k hk)
  fab := by rw [h2.fab, h1.fab]
  fp q := by rw [h2.fp q, h1.fp q]
  lsdb d hd := (h2.lsdb d hd).trans (h1.lsdb d hd)
  emitted := h2.emitted.trans h1.emitted
  clock := h2.clock.trans h1.clock

theorem get (h : FabKeeps me s t) (f : Fld) (hf : f.key ∉ fabKeys) : t.get f = s.get f := by
  unfold State.get
  rw [h.words _ hf]

theorem bit (h : FabKeeps me s t) (f : Fld) (hf : f.key ∉ fabKeys) : t.bit f = s.bit f := State.bit_congr (h.get f hf)

theorem fpState (h : FabKeeps me s t) (p : Nat) : t.fpState p = s.fpState p := h.get _ (portStat_notFabKeys p)

theorem of_queues (h : QueuesOnly s t) : FabKeeps me s t where
  words k hk := h.words k (fabSendKeys_sub hk)
  fab := by rw [h.fab]
  fp := h.fp
  lsdb d _ := by rw [h.fab]
  emitted := h.emitted
  clock := h.clock

theorem set (h : FabKeeps me s t) (f : Fld) (v : Nat) (hf : f.key ∈ fabKeys) : FabKeeps me s (t.set f v) :=
  h.trans ⟨fun k hk => t.word_set_other f v k (fun e => hk (e ▸ hf)), rfl, fun _ => rfl, fun _ _ => rfl, rfl, rfl⟩

theorem flag (h : FabKeeps me s t) (f : Fld) (hf : f.key ∈ fabKeys) : FabKeeps me s (t.flag f) :=
  h.trans ⟨fun k hk => t.word_flag_other f k (fun e => hk (e ▸ hf)), rfl, fun _ => rfl, fun _ _ => rfl, rfl, rfl⟩

/-- A change of what is not kept. -/
theorem other (h : FabKeeps me s t) (hw : u.words = t.words := by rfl)
    (hf : u.fab = { t.fab with lastLsa := u.fab.lastLsa, lsaDue := u.fab.lsaDue, changeUp := u.fab.changeUp, pend := u.fab.pend,
                               seqs := u.fab.seqs } := by rfl)
    (he : u.emitted = t.emitted := by rfl) (hc : u.clock = t.clock := by rfl) : FabKeeps me s u :=
  h.trans ⟨fun k _ => by unfold State.word; rw [hw], by rw [hf], fun q => by rw [State.fp, hf]; rfl, fun _ _ => by rw [hf], he, hc⟩

theorem setLsdb (h : FabKeeps me s t) {db : List (Nat × LsaEntry)} (hdb : ∀ d, d ≠ me → db.lookup d = t.fab.lsdb.lookup d) :
    FabKeeps me s (t.setLsdb db) :=
  h.trans ⟨fun k hk => State.word_set_other _ F.FAB_STAT.NODES _ k (fun e => hk (e ▸ by decide)), rfl, fun _ => rfl, hdb, rfl, rfl⟩

end FabKeeps

end Sys2Proof.Machine
end

section
/-! Link-state advertisements (R315), the claim of an address (R313, R314), the ports' states and neighbours (R305, R311, R312). -/
namespace Sys2Proof.Machine

variable {s t u : State}

/-! ### The link-state database -/

section Lists
variable {α : Type}

theorem lookup_cons_ne {k j : Nat} (h : j ≠ k) (v : α) (m : List (Nat × α)) : ((k, v) :: m).lookup j = m.lookup j := by
  rw [List.lookup_cons, beq_eq_false_iff_ne.mpr h]

theorem lookup_put_same (k : Nat) (v : α) (m : List (Nat × α)) : (put k v m).lookup k = some v := by
  induction m with
  | nil => simp [put]
  | cons e m ih =>
    obtain ⟨k', v'⟩ := e
    unfold put
    split
    · simp
    · split
      · simp
      · next hne => rw [lookup_cons_ne hne, ih]

theorem lookup_put_ne {k j : Nat} (h : j ≠ k) (v : α) (m : List (Nat × α)) : (put k v m).lookup j = m.lookup j := by
  induction m with
  | nil => exact lookup_cons_ne h v []
  | cons e m ih =>
    obtain ⟨k', v'⟩ := e
    unfold put
    split
    · rw [lookup_cons_ne h]
    · split
      · next hk => subst hk; rw [lookup_cons_ne h, lookup_cons_ne h]
      · rw [List.lookup_cons, List.lookup_cons, ih]

theorem lookup_filter_same (k : Nat) (m : List (Nat × α)) : (m.filter (fun e => e.1 != k)).lookup k = none := by
  rw [List.lookup_eq_none_iff]
  intro e he
  have hne : e.1 ≠ k := bne_iff_ne.mp (List.mem_filter.mp he).2
  simpa using hne.symm

theorem lookup_filter_ne {k j : Nat} (h : j ≠ k) (m : List (Nat × α)) : (m.filter (fun e => e.1 != k)).lookup j = m.lookup j := by
  induction m with
  | nil => rfl
  | cons e m ih =>
    obtain ⟨k', v⟩ := e
    by_cases hk : k' = k
    · subst hk
      rw [List.filter_cons_of_neg (by simp), ih, lookup_cons_ne h]
    · rw [List.filter_cons_of_pos (by simpa using hk), List.lookup_cons, List.lookup_cons, ih]

end Lists

/-! ### The module's own LSA (R315) -/

/-- The module's entry of the database at its next LSA. -/
def State.ownEntry (s : State) : LsaEntry := ⟨(s.get F.FAB_LSA_SEQ.SEQ + 1) % 2 ^ 32, s.addrField, s.ownLinks, s.clock.up⟩

/-- The LSA is numbered, stands in the database and starts the hold-off. -/
def State.numberLsa (s : State) : State :=
  let s1 := (s.set F.FAB_LSA_SEQ.SEQ s.ownEntry.seq).setLsdb (put s.devid s.ownEntry s.fab.lsdb)
  (State.nextSeq { s1 with fab := { s1.fab with lastLsa := some s.clock.up, lsaDue := false } } 0xFFF 7).1

/-- The frame that carries it. -/
def State.lsaFrame (s : State) : FabFrame :=
  ⟨1, 7, false, false, false, 0xFFF, s.fabAddr, 0, s.get F.FAB_CFG.HLIM, look (fun _ => 0) s.fab.seqs (0xFFF * 8 + 7), 0, 0, 0,
    lsaBytes s.devid s.ownEntry.seq s.addrField s.ownLinks⟩

/-- It goes out on every port that is UP. -/
def State.sendLsa (s : State) : State := s.upPorts.foldl (fun u p => u.enqueue p s.lsaFrame) s.numberLsa

/-- The LSA waits for the end of the hold-off. -/
def State.deferLsa (s : State) : State := { s with fab := { s.fab with lsaDue := true } }

theorem State.lsaOriginate_silent (h : s.fabAddr = 0 ∨ s.bit F.FAB_STAT.RUN = false) : s.lsaOriginate = s := by
  unfold State.lsaOriginate
  rw [if_pos (by simpa using h)]

theorem State.lsaOriginate_held (haddr : s.fabAddr ≠ 0) (hrun : s.bit F.FAB_STAT.RUN = true) {u : Nat} (hlast : s.fab.lastLsa = some u)
    (hhold : s.clock.up - u < 5000000) : s.lsaOriginate = s.deferLsa := by
  unfold State.lsaOriginate
  rw [if_neg (by simp [haddr, hrun]), hlast, if_pos (by simpa using hhold)]
  rfl

theorem State.lsaOriginate_sent (haddr : s.fabAddr ≠ 0) (hrun : s.bit F.FAB_STAT.RUN = true)
    (hfree : ∀ u, s.fab.lastLsa = some u → 5000000 ≤ s.clock.up - u) : s.lsaOriginate = s.sendLsa := by
  unfold State.lsaOriginate
  rw [if_neg (by simp [haddr, hrun]), if_neg ?_]
  · rfl
  · split
    · next u hu => simpa using hfree u hu
    · simp

/-- Without an address nothing is sent, within the hold-off the change is noted, else the LSA goes out. -/
theorem State.lsaOriginate_cases (s : State) : s.lsaOriginate = s ∨ s.lsaOriginate = s.deferLsa ∨ s.lsaOriginate = s.sendLsa := by
  by_cases hsilent : s.fabAddr = 0 ∨ s.bit F.FAB_STAT.RUN = false
  · exact .inl (State.lsaOriginate_silent hsilent)
  · obtain ⟨haddr, hrun⟩ := not_or.mp hsilent
    rw [Bool.not_eq_false] at hrun
    by_cases hheld : ∃ u, s.fab.lastLsa = some u ∧ s.clock.up - u < 5000000
    · obtain ⟨u, hlast, hhold⟩ := hheld
      exact .inr (.inl (State.lsaOriginate_held haddr hrun hlast hhold))
    · exact .inr (.inr (State.lsaOriginate_sent haddr hrun fun u hu => Nat.not_lt.mp fun hlt => hheld ⟨u, hu, hlt⟩))

theorem State.numberLsa_keeps (s : State) : FabKeeps s.devid s s.numberLsa :=
  (((FabKeeps.refl s.devid s).set F.FAB_LSA_SEQ.SEQ _ (by decide)).setLsdb fun _ hd => lookup_put_ne hd _ _).other

theorem State.sendLsa_queues (s : State) : QueuesOnly s.numberLsa s.sendLsa :=
  State.broadcast_queues _ (fun _ hp => (State.mem_upPorts.mp hp).1) _

theorem State.lsaOriginate_keeps (s : State) : FabKeeps s.devid s s.lsaOriginate := by
  rcases s.lsaOriginate_cases with h | h | h <;> rw [h]
  · exact .refl _ s
  · exact (FabKeeps.refl _ s).other
  · exact s.numberLsa_keeps.trans (.of_queues s.sendLsa_queues)

/-- An LSA changes neither the address nor its state. -/
theorem State.lsaOriginate_get (s : State) (f : Fld) (hseq : f.key ≠ R.FAB_LSA_SEQ) (hstat : f.key ≠ R.FAB_STAT ∨ f.lsb + f.width ≤ 16)
    (hsend : f.key ∉ fabSendKeys) : s.lsaOriginate.get f = s.get f := by
  rcases s.lsaOriginate_cases with h | h | h <;> rw [h]
  · rfl
  · calc s.sendLsa.get f = s.numberLsa.get f := s.sendLsa_queues.get f hsend
      _ = (s.set F.FAB_LSA_SEQ.SEQ s.ownEntry.seq).get f := State.get_set_other _ F.FAB_STAT.NODES f _ (hstat.imp_right .inl)
      _ = s.get f := s.get_set_other _ f _ (.inl hseq)

theorem State.lsaOriginate_fabAddr (s : State) : s.lsaOriginate.fabAddr = s.fabAddr := s.lsaOriginate_get _ (by decide) (by decide) (by decide)

/-- A port that is not UP takes no part in an LSA. -/
theorem State.lsaOriginate_down (s : State) {p : Nat} (hp : s.fpState p ≠ 3) :
    s.lsaOriginate.fp p = s.fp p ∧ s.lsaOriginate.get (F.PORTn_DROP_CNT.COUNT p) = s.get (F.PORTn_DROP_CNT.COUNT p) := by
  have hne (q : Nat) (hq : q ∈ s.upPorts) : p ≠ q := fun e => hp (e ▸ (State.mem_upPorts.mp hq).2)
  have hnum : s.numberLsa.get (F.PORTn_DROP_CNT.COUNT p) = s.get (F.PORTn_DROP_CNT.COUNT p) := by
    have hkey : R.PORTn_DROP_CNT p ≠ R.FAB_STAT ∧ R.PORTn_DROP_CNT p ≠ R.FAB_LSA_SEQ := by
      simp only [R.PORTn_DROP_CNT, R.FAB_STAT, R.FAB_LSA_SEQ]
      omega
    exact (State.get_set_other _ F.FAB_STAT.NODES _ _ (.inl hkey.1)).trans (s.get_set_other _ _ _ (.inl hkey.2))
  rcases s.lsaOriginate_cases with h | h | h <;> rw [h]
  · exact ⟨rfl, rfl⟩
  · exact ⟨rfl, rfl⟩
  · exact ⟨foldl_keeps_mem (fun v => v.fp p) (fun v q hq => v.enqueue_fp_ne (hne q hq) _) s.numberLsa,
      (foldl_keeps_mem (fun v => v.get (F.PORTn_DROP_CNT.COUNT p)) (fun v q hq => v.enqueue_drop_ne (hne q hq) _) s.numberLsa).trans hnum⟩

/-! ### Addresses (R313, R314) -/

theorem FabKeeps.devid {me : Nat} (h : FabKeeps me s t) : t.devid = s.devid := by
  unfold State.devid
  rw [h.get _ (by decide), h.get _ (by decide)]

theorem FabKeeps.lsaOriginate (h : FabKeeps s.devid s t) : FabKeeps s.devid s t.lsaOriginate :=
  h.trans (h.devid ▸ t.lsaOriginate_keeps)

theorem FabKeeps.tentative (h : FabKeeps s.devid s t) (a : Nat) : FabKeeps s.devid s (t.tentative a) :=
  ((h.set F.FAB_ADDR.ADDR a (by decide)).set F.FAB_STAT.ADDR_STATE 1 (by decide)).lsaOriginate

theorem State.conflictLost_keeps (s : State) : FabKeeps s.devid s s.conflictLost := by
  have hs := FabKeeps.refl s.devid s
  unfold State.conflictLost
  dsimp only
  split
  · exact (hs.flag F.FAB_ERR.ADDR_MOVE (by decide)).tentative _
  · exact (((hs.setLsdb fun _ hd => lookup_filter_ne hd _).set F.FAB_ADDR.ADDR 0 (by decide)).set F.FAB_STAT.ADDR_STATE 3 (by decide)).flag
      F.FAB_ERR.ADDR_CONF (by decide)

/-- A conflict with another node's address moves at most the module's own address. -/
theorem State.addressSeen_keeps (s : State) (d a : Nat) : FabKeeps s.devid s (s.addressSeen d a) := by
  unfold State.addressSeen
  dsimp only
  split
  · exact .refl _ s
  · split
    · exact s.conflictLost_keeps
    · exact .refl _ s

end Sys2Proof.Machine
end

section
/-! The ports' states (R305, R311, R312): a port at rest, a neighbour lost or adopted, and what PTP does with it (R341). -/
namespace Sys2Proof.Machine

variable {s t u : State} {p : Nat}

/-! ### PTP follows a port (R341) -/

/-- Only TIM's own state and words of its block changed. -/
structure TimOnly (s t : State) : Prop where
  words : ∀ k, k / 0x10000 ≠ 0x0E → t.word k = s.word k
  rest : t = { s with words := t.words, tim := t.tim, hwSet := t.hwSet }

namespace TimOnly

theorem refl (s : State) : TimOnly s s := ⟨fun _ _ => rfl, rfl⟩

theorem trans (h1 : TimOnly s t) (h2 : TimOnly t u) : TimOnly s u :=
  ⟨fun k hk => (h2.words k hk).trans (h1.words k hk), by rw [h2.rest, h1.rest]⟩

theorem set (h : TimOnly s t) (f : Fld) (v : Nat) (hf : f.key / 0x10000 = 0x0E) : TimOnly s (t.set f v) :=
  h.trans ⟨fun k hk => t.word_set_other f v k (fun e => hk (e ▸ hf)), rfl⟩

theorem flag (h : TimOnly s t) (f : Fld) (hf : f.key / 0x10000 = 0x0E) : TimOnly s (t.flag f) :=
  h.trans ⟨fun k hk => t.word_flag_other f k (fun e => hk (e ▸ hf)), rfl⟩

theorem tim (h : TimOnly s t) (x : TimSt) : TimOnly s { t with tim := x } := h.trans ⟨fun _ _ => rfl, rfl⟩

theorem ite {c : Prop} [Decidable c] (h1 : TimOnly s t) (h2 : TimOnly s u) : TimOnly s (if c then t else u) := by
  split
  · exact h1
  · exact h2

/-- The states of a list of PTP ports are written. -/
theorem pstates (h : TimOnly s t) (v : State → Nat → Nat) {l : List Nat} (hl : ∀ q ∈ l, q < 6) :
    TimOnly s (l.foldl (fun u q => u.set (F.TIM_PORTn_STAT.PSTATE q) (v u q)) t) := by
  induction l generalizing t with
  | nil => exact h
  | cons q l ih =>
    have hq := hl q (List.mem_cons_self ..)
    exact ih (h.set _ _ (by simp only [R.TIM_PORTn_STAT]; omega)) fun r hr => hl r (List.mem_cons_of_mem q hr)

theorem fab (h : TimOnly s t) : t.fab = s.fab := by rw [h.rest]

theorem get (h : TimOnly s t) (f : Fld) (hf : f.key / 0x10000 ≠ 0x0E) : t.get f = s.get f := by
  unfold State.get
  rw [h.words _ hf]

end TimOnly

theorem State.syncTo_tim (s : State) (v : Nat) : TimOnly s (s.syncTo v) := ((TimOnly.refl s).tim _).set F.TIM_STAT.SYNC v (by decide)

theorem State.bmca_tim (s : State) (lost : Bool) : TimOnly s (s.bmca lost) := by
  unfold State.bmca
  extract_lets own fab ownBetter best gm was sync s1 s2
  have h2 : TimOnly s s2 :=
    ((TimOnly.refl s).pstates (fun u q => u.portDecision q best gm) (l := List.range 4) (fun q hq => by have := List.mem_range.mp hq; omega)).pstates
      (fun u q => if u.ptpStn q then 2 else 0) (l := [4, 5]) (by decide)
  clear_value s2 s1 gm best
  have hslave (v : Nat) := h2.set F.TIM_STAT.SLAVE_PORT v (by decide)
  cases best with
  | some e =>
    have hgm := ((hslave e.1).set F.TIM_GM_LO.ID (e.2.identity % 2 ^ 32) (by decide)).set F.TIM_GM_HI.ID (e.2.identity / 2 ^ 32) (by decide)
    exact .ite hgm (hgm.trans (State.syncTo_tim _ 1))
  | none =>
    exact .ite ((((hslave 7).set F.TIM_GM_LO.ID _ (by decide)).set F.TIM_GM_HI.ID _ (by decide)).set F.TIM_STAT.SYNC 4 (by decide))
      (.ite ((hslave 7).set F.TIM_STAT.SYNC 3 (by decide)) ((hslave 7).set F.TIM_STAT.SYNC 0 (by decide)))

theorem State.ptpPortDown_tim (s : State) (p : Nat) : TimOnly s (s.ptpPortDown p) := by
  have hgone := ((TimOnly.refl s).tim { s.tim with masters := s.tim.masters.filter (fun e => e.1 != p) }).tim
    (State.setPtp { s with tim := { s.tim with masters := s.tim.masters.filter (fun e => e.1 != p) } } p ptpPort0).tim
  exact (TimOnly.ite (hgone.flag F.TIM_ERR.PARENT_LOST (by decide)) hgone).trans (State.bmca_tim _ _)

/-! ### A port at rest (R305, R311) -/

/-- Another field of the word that is written. -/
theorem State.get_set_apart (s : State) (k v : Nat) {l w m x : Nat} (h : m + x ≤ l ∨ l + w ≤ m) : (s.set ⟨k, l, w⟩ v).get ⟨k, m, x⟩ = s.get ⟨k, m, x⟩ :=
  s.get_set_other _ _ v (.inr h)

theorem State.get_setBit_apart (s : State) (k : Nat) (b : Bool) {l w m x : Nat} (h : m + x ≤ l ∨ l + w ≤ m) :
    (s.setBit ⟨k, l, w⟩ b).get ⟨k, m, x⟩ = s.get ⟨k, m, x⟩ := s.get_set_apart k _ h

/-- The state that a port's enable, the fabric key and the link signal give. -/
def State.restState (s : State) (p : Nat) : Nat :=
  if !(s.portPresent p && s.bit (F.PORTn_CFG.EN p)) then 0 else if !s.fab.khb then 5 else if !(s.fp p).link then 1 else 2

theorem State.restState_linked (hp : s.portPresent p = true) (hen : s.bit (F.PORTn_CFG.EN p) = true) (hkhb : s.fab.khb = true)
    (hlink : (s.fp p).link = true) : s.restState p = 2 := by simp [State.restState, hp, hen, hkhb, hlink]

theorem State.restState_unlinked (hp : s.portPresent p = true) (hen : s.bit (F.PORTn_CFG.EN p) = true) (hkhb : s.fab.khb = true)
    (hlink : (s.fp p).link = false) : s.restState p = 1 := by simp [State.restState, hp, hen, hkhb, hlink]

theorem State.restState_cases (s : State) (p : Nat) : s.restState p = 0 ∨ s.restState p = 5 ∨ s.restState p = 1 ∨ s.restState p = 2 := by
  unfold State.restState
  split
  · exact .inl rfl
  · split
    · exact .inr (.inl rfl)
    · split
      · exact .inr (.inr (.inl rfl))
      · exact .inr (.inr (.inr rfl))

/-- A port's own state without a neighbour; its nonce may be a new one. -/
def FabPort.alone (x : FabPort) (nonce : Nat) : FabPort :=
  { x with nb := none, cand := none, key := false, heard := false, hbRx := 0, queues := fabPort0.queues, nonce := nonce }

/-- The port has no neighbour and stands in the state that R305 gives it. -/
structure PortRests (p : Nat) (s t : State) : Prop where
  state : t.fpState p = s.restState p
  fp : ∃ nonce, t.fp p = (s.fp p).alone nonce
  words : ∀ k, k ∉ [R.PORTn_STAT p, R.PORTn_NB_LO p, R.PORTn_NB_HI p] → t.word k = s.word k

/-- The port's words at rest. -/
def State.restWords (s : State) (p : Nat) : State :=
  let s1 := (((((s.set (F.PORTn_STAT.STATE p) (s.restState p)).set (F.PORTn_STAT.MISS p) 0).set (F.PORTn_STAT.CAP p) 0).set (F.PORTn_STAT.NB_ADDR p)
    0).set (F.PORTn_STAT.NB_PORT p) 0)
  (s1.set (F.PORTn_NB_LO.DEVID p) 0).set (F.PORTn_NB_HI.DEVID p) 0

theorem State.restWords_rests (s : State) (p : Nat) : (s.restWords p).fpState p = s.restState p ∧
    ∀ k, k ∉ [R.PORTn_STAT p, R.PORTn_NB_LO p, R.PORTn_NB_HI p] → (s.restWords p).word k = s.word k := by
  have hlo : R.PORTn_STAT p ≠ R.PORTn_NB_LO p := by simp only [R.PORTn_STAT, R.PORTn_NB_LO]; omega
  have hhi : R.PORTn_STAT p ≠ R.PORTn_NB_HI p := by simp only [R.PORTn_STAT, R.PORTn_NB_HI]; omega
  refine ⟨?_, fun k hk => ?_⟩
  · unfold State.restWords State.fpState
    rw [State.get_set_other _ _ _ _ (.inl hhi), State.get_set_other _ _ _ _ (.inl hlo), State.get_set_apart _ _ _ (by decide),
      State.get_set_apart _ _ _ (by decide), State.get_set_apart _ _ _ (by decide),
      State.get_set_apart _ _ _ (by decide), State.get_set_fits _ _ (by decide)]
    rcases s.restState_cases p with h | h | h | h <;> rw [h] <;> decide
  · simp only [List.mem_cons, List.not_mem_nil, or_false, not_or] at hk
    obtain ⟨hstat, hnlo, hnhi⟩ := hk
    unfold State.restWords
    rw [State.word_set_other _ _ _ _ hnhi, State.word_set_other _ _ _ _ hnlo, State.word_set_other _ _ _ _ hstat,
      State.word_set_other _ _ _ _ hstat, State.word_set_other _ _ _ _ hstat, State.word_set_other _ _ _ _ hstat, State.word_set_other _ _ _ _ hstat]

/-- A nonce from the entropy source. -/
def State.newNonce (s : State) : Nat := s.free + 2 ^ 64 * s.nextFree.free

theorem State.portRest_eq (s : State) (p : Nat) : s.portRest p =
    if s.restState p = 2 then ((s.restWords p).setFp p ((s.fp p).alone s.newNonce)).nextFree.nextFree
    else (s.restWords p).setFp p ((s.fp p).alone (s.fp p).nonce) := rfl

theorem PortRests.nextFree (h : PortRests p s t) : PortRests p s t.nextFree := ⟨h.state, h.fp, h.words⟩

theorem State.portRest_rests (s : State) (p : Nat) : PortRests p s (s.portRest p) := by
  obtain ⟨hstate, hwords⟩ := s.restWords_rests p
  have halone (nonce : Nat) : PortRests p s ((s.restWords p).setFp p ((s.fp p).alone nonce)) :=
    ⟨(State.setFp_fpState ..).trans hstate, ⟨nonce, State.fp_setFp_same ..⟩, fun k hk => (State.setFp_word ..).trans (hwords k hk)⟩
  rw [State.portRest_eq]
  split
  · exact (halone _).nextFree.nextFree
  · exact halone _

/-! ### A neighbour is lost (R312) -/

/-- The port rests, the frames that waited for its neighbour are counted, PTP has lost its master. -/
structure LosesNeighbour (p : Nat) (s t : State) : Prop where
  state : t.fpState p = s.restState p
  fp : ∃ nonce, t.fp p = (s.fp p).alone nonce
  dropped : t.get (F.PORTn_DROP_CNT.COUNT p) = min (s.get (F.PORTn_DROP_CNT.COUNT p) + ((s.fp p).queues.map List.length).sum) 0xFFFFFFFF
  words : ∀ k, k ∉ [R.PORTn_STAT p, R.PORTn_NB_LO p, R.PORTn_NB_HI p] → k ∉ fabKeys → k / 0x10000 ≠ 0x0E → k ≠ R.PORTn_DROP_CNT p →
    t.word k = s.word k

theorem State.portFlush_word (s : State) {k : Nat} (hk : k ≠ R.PORTn_DROP_CNT p) : (s.portFlush p).word k = s.word k :=
  s.word_set_other (F.PORTn_DROP_CNT.COUNT p) _ k hk

theorem State.portFlush_fp (s : State) (p : Nat) : (s.portFlush p).fp p = { s.fp p with queues := fabPort0.queues } := State.fp_setFp_same _ _ _

theorem State.portFlush_dropped (s : State) (p : Nat) : (s.portFlush p).get (F.PORTn_DROP_CNT.COUNT p) =
    min (s.get (F.PORTn_DROP_CNT.COUNT p) + ((s.fp p).queues.map List.length).sum) 0xFFFFFFFF := by
  change (s.addSat (F.PORTn_DROP_CNT.COUNT p) _).get (F.PORTn_DROP_CNT.COUNT p) = _
  unfold State.addSat
  rw [State.get_set_same _ _ _ (Nat.le_refl _)]
  exact Nat.mod_eq_of_lt (Nat.lt_of_le_of_lt (Nat.min_le_right ..) (Nat.sub_lt (Nat.two_pow_pos _) Nat.one_pos))

theorem State.portFlush_restState (s : State) (p : Nat) : (s.portFlush p).restState p = s.restState p := by
  have hen : (s.portFlush p).bit (F.PORTn_CFG.EN p) = s.bit (F.PORTn_CFG.EN p) := by
    unfold State.bit State.get
    rw [s.portFlush_word (by simp only [R.PORTn_CFG, R.PORTn_DROP_CNT]; omega)]
  unfold State.restState
  rw [hen, State.portFlush_fp]
  rfl

theorem State.neighbourLost_loses (s : State) {p : Nat} (hp : p < 4) : LosesNeighbour p s (s.neighbourLost p) := by
  have hrests := (s.portFlush p).portRest_rests p
  have htim := ((s.portFlush p).portRest p).ptpPortDown_tim p
  have hlsa := ((((s.portFlush p).portRest p).ptpPortDown p)).lsaOriginate_keeps
  have hstate : (((s.portFlush p).portRest p).ptpPortDown p).fpState p = s.restState p := by
    rw [← s.portFlush_restState p, ← hrests.state]
    exact htim.get _ (by simp only [R.PORTn_STAT]; omega)
  obtain ⟨hfp, hdrop⟩ := State.lsaOriginate_down (p := p) (s := ((s.portFlush p).portRest p).ptpPortDown p)
    (by rw [hstate]; rcases s.restState_cases p with h | h | h | h <;> rw [h] <;> decide)
  refine ⟨(hlsa.fpState p).trans hstate, ?_, ?_, fun k hrest hfab htimk hcnt => ?_⟩
  · obtain ⟨nonce, hn⟩ := hrests.fp
    refine ⟨nonce, ?_⟩
    change (State.lsaOriginate _).fp p = _
    rw [hfp, State.fp_congr htim.fab, hn, s.portFlush_fp]
    rfl
  · change (State.lsaOriginate _).get _ = _
    rw [hdrop, htim.get _ (by simp only [R.PORTn_DROP_CNT]; omega), ← s.portFlush_dropped p]
    unfold State.get
    rw [hrests.words _ (by simp only [R.PORTn_STAT, R.PORTn_NB_LO, R.PORTn_NB_HI, R.PORTn_DROP_CNT, List.mem_cons, List.not_mem_nil, or_false]; omega)]
  · exact (hlsa.words k hfab).trans ((htim.words k htimk).trans ((hrests.words k hrest).trans (s.portFlush_word hcnt)))

/-! ### A neighbour is adopted (R311) -/

/-- The port is UP with the neighbour and its key, the link's receive counter restarts, the adoption is counted. -/
structure Adopts (p devid nonce : Nat) (s t : State) : Prop where
  state : t.fpState p = 3
  miss : t.get (F.PORTn_STAT.MISS p) = 0
  count : t.get (F.PORTn_ADOPT_CNT.COUNT p) = min (s.get (F.PORTn_ADOPT_CNT.COUNT p) + 1) 0xFFFFFFFF
  fp : t.fp p = { s.fp p with nb := some (devid, nonce), cand := none, key := true, tx := 0, rx := 0, heard := true, queues := (t.fp p).queues }

/-- The port's own state and words with its neighbour. -/
def State.adoptWords (s : State) (p devid nonce addr nport : Nat) (cap : Bool) : State :=
  let s1 := s.setFp p { s.fp p with nb := some (devid, nonce), cand := none, key := true, tx := 0, rx := 0, heard := true, queues := fabPort0.queues }
  let s2 := ((((s1.set (F.PORTn_STAT.STATE p) 3).set (F.PORTn_STAT.MISS p) 0).setBit (F.PORTn_STAT.CAP p) cap).set (F.PORTn_STAT.NB_ADDR p)
    addr).set (F.PORTn_STAT.NB_PORT p) nport
  ((s2.set (F.PORTn_NB_LO.DEVID p) (devid % 2 ^ 32)).set (F.PORTn_NB_HI.DEVID p) (devid / 2 ^ 32)).inc (F.PORTn_ADOPT_CNT.COUNT p)

theorem State.adoptWords_adopts (s : State) (p devid nonce addr nport : Nat) (cap : Bool) :
    Adopts p devid nonce s (s.adoptWords p devid nonce addr nport cap) := by
  have hcnt : R.PORTn_STAT p ≠ R.PORTn_ADOPT_CNT p := by simp only [R.PORTn_STAT, R.PORTn_ADOPT_CNT]; omega
  have hlo : R.PORTn_STAT p ≠ R.PORTn_NB_LO p := by simp only [R.PORTn_STAT, R.PORTn_NB_LO]; omega
  have hhi : R.PORTn_STAT p ≠ R.PORTn_NB_HI p := by simp only [R.PORTn_STAT, R.PORTn_NB_HI]; omega
  have hclo : R.PORTn_ADOPT_CNT p ≠ R.PORTn_NB_LO p := by simp only [R.PORTn_ADOPT_CNT, R.PORTn_NB_LO]; omega
  have hchi : R.PORTn_ADOPT_CNT p ≠ R.PORTn_NB_HI p := by simp only [R.PORTn_ADOPT_CNT, R.PORTn_NB_HI]; omega
  unfold State.adoptWords
  refine ⟨?_, ?_, ?_, ?_⟩
  · unfold State.fpState State.inc
    rw [State.get_set_other _ _ _ _ (.inl hcnt), State.get_set_other _ _ _ _ (.inl hhi), State.get_set_other _ _ _ _ (.inl hlo),
      State.get_set_apart _ _ _ (by decide), State.get_set_apart _ _ _ (by decide),
      State.get_setBit_apart _ _ _ (by decide), State.get_set_apart _ _ _ (by decide),
      State.get_set_fits _ _ (by decide) (by decide)]
  · unfold State.inc
    rw [State.get_set_other _ _ _ _ (.inl hcnt), State.get_set_other _ _ _ _ (.inl hhi), State.get_set_other _ _ _ _ (.inl hlo),
      State.get_set_apart _ _ _ (by decide), State.get_set_apart _ _ _ (by decide),
      State.get_setBit_apart _ _ _ (by decide), State.get_set_fits _ _ (by decide) (by decide)]
  · rw [State.get_inc_same _ _ (Nat.le_refl _), State.get_set_other _ _ _ _ (.inl hchi), State.get_set_other _ _ _ _ (.inl hclo),
      State.get_set_other _ _ _ _ (.inl hcnt.symm), State.get_set_other _ _ _ _ (.inl hcnt.symm), State.get_setBit_other _ _ _ _ (.inl hcnt.symm),
      State.get_set_other _ _ _ _ (.inl hcnt.symm), State.get_set_other _ _ _ _ (.inl hcnt.symm)]
    rfl
  · simp only [State.inc_fp, State.set_fp, State.setBit_fp, State.fp_setFp_same]

theorem State.adopt_adopts (s : State) {p : Nat} (hp : p < 4) (devid nonce addr nport : Nat) (cap : Bool) :
    Adopts p devid nonce s (s.adopt p devid nonce addr nport cap) := by
  have hw := s.adoptWords_adopts p devid nonce addr nport cap
  have htim : TimOnly (s.adoptWords p devid nonce addr nport cap) ((s.adoptWords p devid nonce addr nport cap).ptpPortUp p) := State.bmca_tim _ _
  have hlsa := ((s.adoptWords p devid nonce addr nport cap).ptpPortUp p).lsaOriginate_keeps
  have hget (o l w : Nat) (ho : o < 0x40) (hdrop : o ≠ 0x1C) : (s.adopt p devid nonce addr nport cap).get ⟨0x0D0100 + o + 0x40 * p, l, w⟩ =
      (s.adoptWords p devid nonce addr nport cap).get ⟨0x0D0100 + o + 0x40 * p, l, w⟩ :=
    (hlsa.get _ (port_notFabKeys p ho hdrop)).trans (htim.get _ (by dsimp only; omega))
  refine ⟨(hget 4 0 3 (by decide) (by decide)).trans hw.state, (hget 4 3 2 (by decide) (by decide)).trans hw.miss,
    (hget 0x24 0 32 (by decide) (by decide)).trans hw.count, ?_⟩
  refine (hlsa.fp p).trans ?_
  rw [State.fp_congr htim.fab, hw.fp]
  rfl

end Sys2Proof.Machine
end

section
/-! Hatbands sent, missed and received, and the link's signal (R305, R310 to R312). -/
namespace Sys2Proof.Machine

variable {s t u : State} {dt p : Nat} {rx : FabRx} {f : FabFrame}

theorem exec_hatbandInstant (dt p : Nat) (s : State) : exec (.hatbandInstant dt p) s = .next (hatbandInstant p (s.elapse dt)).settle := rfl
theorem exec_neighbourLost (dt p : Nat) (s : State) : exec (.neighbourLost dt p) s = .next (neighbourLostInstant p (s.elapse dt)).settle := rfl
theorem exec_linkSignalLoss (dt p : Nat) (s : State) : exec (.linkSignalLoss dt p) s = .next (linkLoss p (s.elapse dt)).settle := rfl
theorem exec_linkSignalUp (dt p : Nat) (s : State) : exec (.linkSignalUp dt p) s = .next (linkUp p (s.elapse dt)).settle := rfl
theorem exec_hatbandReceived (dt : Nat) (rx : FabRx) (f : FabFrame) (s : State) :
    exec (.hatbandReceived dt rx f) s = .next (fabKind 0 rx f (s.elapse dt)).settle := rfl
theorem exec_fabFrameReceived (dt : Nat) (rx : FabRx) (f : FabFrame) (s : State) :
    exec (.fabFrameReceived dt rx f) s = .next (fabArrive rx f (s.elapse dt)).settle := rfl

/-! ### What goes outwards, what is counted -/

/-- What went outwards first before the end of a command stays first. -/
theorem State.settle_head {e : Emit} {l : List Emit} (h : s.emitted = e :: l) : s.settle.emitted.head? = some e := by
  obtain ⟨l', hl⟩ := s.settle_emitted
  rw [hl, h]
  rfl

theorem State.get_inc_other (s : State) (f g : Fld) (h : Apart g f) : (s.inc f).get g = s.get g := s.get_set_other _ _ _ h

/-- A port's words are none of the alarm's. -/
theorem port_lt (hp : p < 4) {o : Nat} (ho : o < 0x40) : 0x0D0100 + o + 0x40 * p < 0x100000 := by omega

/-- A command that does no more than count. -/
theorem exec_counts {c : Instr} {k : Nat} (he : exec c s = .next u.settle) (hu : u = (s.elapse dt).inc ⟨k, 0, 32⟩) (hk : k < 0x100000) :
    ∃ t, exec c s = .next t ∧ OnlyWords [k] (s.elapse dt) t ∧ t.get ⟨k, 0, 32⟩ = min (s.get ⟨k, 0, 32⟩ + 1) 0xFFFFFFFF := by
  subst hu
  refine ⟨_, he, ((OnlyWords.refl _ _).set ⟨k, 0, 32⟩ _ (List.mem_singleton_self _)).settle, ?_⟩
  rw [State.settle_get_lt _ hk, State.get_inc_same _ _ (Nat.le_refl _)]
  rfl

/-! ### A port sends its hatband (R310) -/

/-- The hatband of a port in PROBE or UP. -/
def State.hatbandOut (s : State) (p : Nat) : Emit :=
  .hatband p ((s.fp p).hbTx + 1) s.addrField ((if s.svc = 4 then 0 else 1) + (if s.dopPresent then 2 else 0) + (if s.fpState p = 3 then 4 else 0))
    (s.fp p).nonce (s.get F.FAB_LSA_SEQ.SEQ) (s.get (F.PORTn_CFG.COST p))

theorem State.sendHatband_sent (h : s.fpState p = 2 ∨ s.fpState p = 3) : s.sendHatband p =
    ((s.setFp p { s.fp p with hbTx := (s.fp p).hbTx + 1 }).inc (F.PORTn_TX_CNT.COUNT p)).emit (s.hatbandOut p) := if_pos h

theorem State.sendHatband_quiet (h2 : s.fpState p ≠ 2) (h3 : s.fpState p ≠ 3) : s.sendHatband p = s := if_neg (by simp [h2, h3])

/-- A hatband that is sent changes of the words only the port's count. -/
theorem State.sendHatband_get (h : s.fpState p = 2 ∨ s.fpState p = 3) (f : Fld) (hf : f.key ≠ R.PORTn_TX_CNT p) :
    (s.sendHatband p).get f = s.get f := by
  rw [State.sendHatband_sent h, State.emit_get, State.get_inc_other _ _ f (.inl hf), State.setFp_get]

theorem State.sendHatband_fp (h : s.fpState p = 2 ∨ s.fpState p = 3) :
    (s.sendHatband p).fp p = { s.fp p with hbTx := (s.fp p).hbTx + 1 } := by
  rw [State.sendHatband_sent h, State.emit_fp, State.inc_fp, State.fp_setFp_same]

/-! ### The instant of a hatband (R310, R312) -/

/-- The interval's misses and the port's own state after it was judged. -/
def State.missed (s : State) (p m : Nat) : State := s.set (F.PORTn_STAT.MISS p) m

theorem State.missed_get (s : State) (m : Nat) (f : Fld) (hf : f.key ≠ R.PORTn_STAT p) : (s.missed p m).get f = s.get f :=
  s.get_set_other _ f m (.inl hf)

theorem State.missed_fpState (s : State) (p m : Nat) : (s.missed p m).fpState p = s.fpState p := s.get_set_apart _ m (by decide)

theorem State.missed_miss (s : State) (p : Nat) {m : Nat} (hm : m < 4) : (s.missed p m).get (F.PORTn_STAT.MISS p) = m :=
  s.get_set_fits _ (by decide) hm

theorem hatbandInstant_heard (hst : s.fpState p = 3) (hheard : (s.fp p).heard = true) :
    hatbandInstant p s = ((s.missed p 0).setFp p { s.fp p with heard := false }).sendHatband p := by
  unfold hatbandInstant
  rw [if_neg (by simp [hst]), if_pos hheard]
  rfl

theorem hatbandInstant_unheard (hst : s.fpState p = 3) (hheard : (s.fp p).heard = false) (hm : s.get (F.PORTn_STAT.MISS p) < 2) :
    hatbandInstant p s = ((s.missed p (s.get (F.PORTn_STAT.MISS p) + 1)).inc (F.PORTn_MISS_CNT.COUNT p)).sendHatband p := by
  unfold hatbandInstant
  rw [if_neg (by simp [hst]), if_neg (by simp [hheard])]
  dsimp only
  rw [if_neg (by omega)]
  rfl

theorem hatbandInstant_third (hst : s.fpState p = 3) (hheard : (s.fp p).heard = false) (hm : 2 ≤ s.get (F.PORTn_STAT.MISS p)) :
    hatbandInstant p s =
      (((s.missed p (s.get (F.PORTn_STAT.MISS p) + 1)).inc (F.PORTn_MISS_CNT.COUNT p)).neighbourLost p).sendHatband p := by
  unfold hatbandInstant
  rw [if_neg (by simp [hst]), if_neg (by simp [hheard])]
  dsimp only
  rw [if_pos (by omega)]
  rfl

theorem hatbandInstant_quiet (h3 : s.fpState p ≠ 3) (h2 : s.fpState p ≠ 2) : hatbandInstant p s = s := by
  unfold hatbandInstant
  rw [if_pos h3, State.sendHatband_quiet h2 h3]

theorem neighbourLostInstant_third (hst : s.fpState p = 3) (hm : 2 ≤ s.get (F.PORTn_STAT.MISS p)) (hheard : (s.fp p).heard = false) :
    neighbourLostInstant p s = hatbandInstant p s := if_pos ⟨hst, hm, by simp [hheard]⟩

theorem neighbourLostInstant_idle (h : s.fpState p ≠ 3 ∨ s.get (F.PORTn_STAT.MISS p) < 2 ∨ (s.fp p).heard = true) :
    neighbourLostInstant p s = s := by
  refine if_neg fun ⟨hst, hm, hheard⟩ => ?_
  rcases h with h | h | h
  · exact h hst
  · omega
  · simp [h] at hheard

/-- A hatband heard since the last clears the miss count, and the port's own is sent. -/
theorem exec_hatbandInstant_heard (hp : p < 4) (hst : s.fpState p = 3) (hheard : (s.fp p).heard = true) :
    ∃ t, exec (.hatbandInstant dt p) s = .next t ∧ t.get (F.PORTn_STAT.MISS p) = 0 ∧
      t.fp p = { s.fp p with heard := false, hbTx := (s.fp p).hbTx + 1 } ∧
      t.get (F.PORTn_TX_CNT.COUNT p) = min (s.get (F.PORTn_TX_CNT.COUNT p) + 1) 0xFFFFFFFF ∧
      SameWords [R.PORTn_STAT p, R.PORTn_TX_CNT p] s t ∧
      t.emitted.head? = some (.hatband p ((s.fp p).hbTx + 1) s.addrField ((if s.svc = 4 then 0 else 1) + (if s.dopPresent then 2 else 0) + 4)
        (s.fp p).nonce (s.get F.FAB_LSA_SEQ.SEQ) (s.get (F.PORTn_CFG.COST p))) := by
  have hne : R.PORTn_STAT p ≠ R.PORTn_TX_CNT p := by simp only [R.PORTn_STAT, R.PORTn_TX_CNT]; omega
  have hcost : R.PORTn_CFG p ≠ R.PORTn_STAT p := by simp only [R.PORTn_STAT, R.PORTn_CFG]; omega
  have hglobal {k : Nat} (hk : k < 0x0D0100 ∨ 0x0D0200 ≤ k) : k ≠ R.PORTn_STAT p := by simp only [R.PORTn_STAT]; omega
  have hup : (((s.elapse dt).missed p 0).setFp p { s.fp p with heard := false }).fpState p = 3 := ((s.elapse dt).missed_fpState p 0).trans hst
  have hget (f : Fld) (hf : f.key ≠ R.PORTn_STAT p) : (((s.elapse dt).missed p 0).setFp p { s.fp p with heard := false }).get f = s.get f :=
    (s.elapse dt).missed_get 0 f hf
  refine ⟨_, exec_hatbandInstant dt p s, ?_⟩
  rw [hatbandInstant_heard (s := s.elapse dt) hst hheard, State.settle_get_lt _ (port_lt hp (o := 4) (by decide)),
    State.settle_get_lt _ (port_lt hp (o := 0x14) (by decide)), State.settle_fp, State.elapse_fp, State.sendHatband_get (.inr hup) _ hne,
    State.sendHatband_fp (.inr hup), State.fp_setFp_same, State.sendHatband_sent (.inr hup)]
  refine ⟨(s.elapse dt).missed_miss p (by decide), rfl, ?_, SameWords.settle fun k hk _ => ?_, ?_⟩
  · rw [State.emit_get, State.get_inc_same _ _ (Nat.le_refl _), State.setFp_get, hget _ hne.symm]
    rfl
  · simp only [List.mem_cons, List.not_mem_nil, or_false, not_or] at hk
    rw [State.emit_word, State.inc, State.word_set_other _ _ _ k hk.2, State.setFp_word, State.setFp_word, State.missed,
      State.word_set_other _ _ _ k hk.1, State.elapse_word]
  · refine (State.settle_head (l := []) rfl).trans (congrArg some ?_)
    simp only [State.hatbandOut, State.addrField, State.fabAddr, State.svc, hup, if_pos, hget (F.PORTn_CFG.COST p) hcost,
      hget F.FAB_LSA_SEQ.SEQ (hglobal (by decide)), hget F.FAB_ADDR.ADDR (hglobal (by decide)), hget F.FAB_ADDR.CFG_ADDR (hglobal (by decide)),
      hget F.FAB_STAT.ADDR_STATE (hglobal (by decide)), hget F.SYS_SVC.STATE (hglobal (by decide)), State.fp_setFp_same]
    rfl

/-- None heard counts a miss. -/
theorem exec_hatbandInstant_unheard (hp : p < 4) (hst : s.fpState p = 3) (hheard : (s.fp p).heard = false)
    (hm : s.get (F.PORTn_STAT.MISS p) < 2) :
    ∃ t, exec (.hatbandInstant dt p) s = .next t ∧ t.get (F.PORTn_STAT.MISS p) = s.get (F.PORTn_STAT.MISS p) + 1 ∧ t.fpState p = 3 ∧
      t.get (F.PORTn_MISS_CNT.COUNT p) = min (s.get (F.PORTn_MISS_CNT.COUNT p) + 1) 0xFFFFFFFF := by
  have htx : R.PORTn_STAT p ≠ R.PORTn_TX_CNT p ∧ R.PORTn_MISS_CNT p ≠ R.PORTn_TX_CNT p ∧ R.PORTn_STAT p ≠ R.PORTn_MISS_CNT p := by
    simp only [R.PORTn_STAT, R.PORTn_MISS_CNT, R.PORTn_TX_CNT]
    omega
  obtain ⟨hstat, hmiss, hcnt⟩ := htx
  have hup : (((s.elapse dt).missed p (s.get (F.PORTn_STAT.MISS p) + 1)).inc (F.PORTn_MISS_CNT.COUNT p)).fpState p = 3 :=
    (State.get_inc_other _ _ _ (.inl hcnt)).trans (((s.elapse dt).missed_fpState p _).trans hst)
  refine ⟨_, exec_hatbandInstant dt p s, ?_⟩
  rw [hatbandInstant_unheard (s := s.elapse dt) hst hheard hm, State.settle_get_lt _ (port_lt hp (o := 4) (by decide)),
    State.settle_get_lt _ (port_lt hp (o := 0x20) (by decide)), State.fpState, State.settle_get_lt _ (port_lt hp (o := 4) (by decide)),
    State.elapse_get, State.sendHatband_get (.inr hup) _ hstat, State.sendHatband_get (.inr hup) _ hstat, State.sendHatband_get (.inr hup) _ hmiss]
  refine ⟨(State.get_inc_other _ _ _ (.inl hcnt)).trans ((s.elapse dt).missed_miss p (by omega)), hup, ?_⟩
  rw [State.get_inc_same _ _ (Nat.le_refl _), State.missed_get _ _ _ hcnt.symm]
  rfl

/-- The third in a row loses the neighbour: the port probes, its queues flushed and counted. -/
theorem exec_neighbourLost_loses (hp : p < 4) (hst : s.fpState p = 3) (hm : 2 ≤ s.get (F.PORTn_STAT.MISS p)) (hheard : (s.fp p).heard = false)
    (hpres : s.portPresent p = true) (hen : s.bit (F.PORTn_CFG.EN p) = true) (hkhb : s.fab.khb = true) (hlink : (s.fp p).link = true) :
    ∃ t, exec (.neighbourLost dt p) s = .next t ∧ t.fpState p = 2 ∧ (t.fp p).nb = none ∧ (t.fp p).key = false ∧
      (∀ q ∈ (t.fp p).queues, q = []) ∧ t.get (F.PORTn_DROP_CNT.COUNT p) =
        min (s.get (F.PORTn_DROP_CNT.COUNT p) + ((s.fp p).queues.map List.length).sum) 0xFFFFFFFF := by
  have hkeys : R.PORTn_CFG p ≠ R.PORTn_STAT p ∧ R.PORTn_CFG p ≠ R.PORTn_MISS_CNT p ∧ R.PORTn_DROP_CNT p ≠ R.PORTn_STAT p ∧
      R.PORTn_DROP_CNT p ≠ R.PORTn_MISS_CNT p ∧ R.PORTn_STAT p ≠ R.PORTn_TX_CNT p ∧ R.PORTn_DROP_CNT p ≠ R.PORTn_TX_CNT p := by
    simp only [R.PORTn_CFG, R.PORTn_STAT, R.PORTn_MISS_CNT, R.PORTn_DROP_CNT, R.PORTn_TX_CNT]
    omega
  obtain ⟨hcfg, hcfg', hdrop, hdrop', hstat, hdroptx⟩ := hkeys
  have hloses := (((s.elapse dt).missed p (s.get (F.PORTn_STAT.MISS p) + 1)).inc (F.PORTn_MISS_CNT.COUNT p)).neighbourLost_loses hp
  have hget (f : Fld) (h1 : f.key ≠ R.PORTn_STAT p) (h2 : f.key ≠ R.PORTn_MISS_CNT p) :
      (((s.elapse dt).missed p (s.get (F.PORTn_STAT.MISS p) + 1)).inc (F.PORTn_MISS_CNT.COUNT p)).get f = s.get f :=
    (State.get_inc_other _ _ f (.inl h2)).trans ((s.elapse dt).missed_get _ f h1)
  have hprobe := hloses.state.trans
    (State.restState_linked hpres ((State.bit_congr (hget (F.PORTn_CFG.EN p) hcfg hcfg')).trans hen) hkhb hlink)
  obtain ⟨nonce, hfp⟩ := hloses.fp
  refine ⟨_, exec_neighbourLost dt p s, ?_⟩
  rw [neighbourLostInstant_third (s := s.elapse dt) hst hm hheard, hatbandInstant_third (s := s.elapse dt) hst hheard hm, State.settle_fp,
    State.fpState, State.settle_get_lt _ (port_lt hp (o := 4) (by decide)), State.settle_get_lt _ (port_lt hp (o := 0x1C) (by decide)),
    State.elapse_get, State.sendHatband_get (.inl hprobe) _ hstat, State.sendHatband_get (.inl hprobe) _ hdroptx, State.sendHatband_fp (.inl hprobe),
    hfp, hloses.dropped, hget _ hdrop hdrop']
  exact ⟨hprobe, rfl, rfl, (by decide : ∀ q ∈ fabPort0.queues, q = []), rfl⟩

/-! ### The link's signal (R305, R311, R312) -/

theorem linkLoss_up (h : s.fpState p = 3) : linkLoss p s = (s.setFp p { s.fp p with link := false }).neighbourLost p := if_pos h

theorem linkLoss_alone (h : s.fpState p = 2 ∨ s.fpState p = 4) : linkLoss p s = (s.setFp p { s.fp p with link := false }).portRest p :=
  (if_neg (by show s.fpState p ≠ 3; omega)).trans (if_pos h)

theorem linkLoss_idle (h2 : s.fpState p ≠ 2) (h3 : s.fpState p ≠ 3) (h4 : s.fpState p ≠ 4) :
    linkLoss p s = s.setFp p { s.fp p with link := false } :=
  (if_neg h3).trans (if_neg (not_or.mpr ⟨h2, h4⟩))

/-- Loss of the signal takes a port's neighbour and key away. -/
theorem exec_linkSignalLoss_rests (hp : p < 4) (hst : s.fpState p = 2 ∨ s.fpState p = 3 ∨ s.fpState p = 4) (hpres : s.portPresent p = true)
    (hen : s.bit (F.PORTn_CFG.EN p) = true) (hkhb : s.fab.khb = true) :
    ∃ t, exec (.linkSignalLoss dt p) s = .next t ∧ t.fpState p = 1 ∧ (t.fp p).link = false ∧ (t.fp p).nb = none ∧ (t.fp p).key = false := by
  have hrest : ((s.elapse dt).setFp p { s.fp p with link := false }).restState p = 1 :=
    State.restState_unlinked hpres hen hkhb (by rw [State.fp_setFp_same])
  have hfp (nonce : Nat) : (((s.elapse dt).setFp p { s.fp p with link := false }).fp p).alone nonce =
      { (s.fp p).alone nonce with link := false } := by rw [State.fp_setFp_same]; rfl
  have hgone : ∃ nonce, (linkLoss p (s.elapse dt)).fpState p = 1 ∧ (linkLoss p (s.elapse dt)).fp p = { (s.fp p).alone nonce with link := false } := by
    by_cases h3 : s.fpState p = 3
    · have hloses := ((s.elapse dt).setFp p { s.fp p with link := false }).neighbourLost_loses hp
      obtain ⟨nonce, hn⟩ := hloses.fp
      exact ⟨nonce, by rw [linkLoss_up (s := s.elapse dt) h3]; exact ⟨hloses.state.trans hrest, hn.trans (hfp nonce)⟩⟩
    · have hrests := ((s.elapse dt).setFp p { s.fp p with link := false }).portRest_rests p
      obtain ⟨nonce, hn⟩ := hrests.fp
      exact ⟨nonce, by
        rw [linkLoss_alone (s := s.elapse dt) (by rw [State.elapse_fpState]; omega)]
        exact ⟨hrests.state.trans hrest, hn.trans (hfp nonce)⟩⟩
  obtain ⟨nonce, hstate, hn⟩ := hgone
  refine ⟨_, exec_linkSignalLoss dt p s, ?_⟩
  rw [State.settle_fp, hn, State.fpState, State.settle_get_lt _ (port_lt hp (o := 4) (by decide))]
  exact ⟨hstate, rfl, rfl, rfl⟩

/-- A change of a port's own state and of no word. -/
theorem exec_setsFp {c : Instr} {x : FabPort} (he : exec c s = .next u.settle) (hu : u = (s.elapse dt).setFp p x) :
    ∃ t, exec c s = .next t ∧ t.fp p = x ∧ SameWords [] s t := by
  subst hu
  exact ⟨_, he, (State.settle_fp ..).trans (State.fp_setFp_same ..), SameWords.settle fun _ _ _ => rfl⟩

theorem linkUp_silent (h : s.fpState p = 1) : linkUp p s = (s.setFp p { s.fp p with link := true }).portRest p := if_pos h
theorem linkUp_other (h : s.fpState p ≠ 1) : linkUp p s = s.setFp p { s.fp p with link := true } := if_neg h

/-- The signal's return probes. -/
theorem exec_linkSignalUp_probes (hp : p < 4) (hst : s.fpState p = 1) (hpres : s.portPresent p = true) (hen : s.bit (F.PORTn_CFG.EN p) = true)
    (hkhb : s.fab.khb = true) :
    ∃ t, exec (.linkSignalUp dt p) s = .next t ∧ t.fpState p = 2 ∧ (t.fp p).link = true ∧ (t.fp p).key = false := by
  have hrests := ((s.elapse dt).setFp p { s.fp p with link := true }).portRest_rests p
  obtain ⟨nonce, hn⟩ := hrests.fp
  refine ⟨_, exec_linkSignalUp dt p s, ?_⟩
  rw [linkUp_silent (s := s.elapse dt) hst, State.settle_fp, State.elapse_fp, hn, State.fp_setFp_same, State.fpState,
    State.settle_get_lt _ (port_lt hp (o := 4) (by decide))]
  exact ⟨hrests.state.trans (State.restState_linked hpres hen hkhb (by rw [State.fp_setFp_same])), rfl, rfl⟩

/-! ### A hatband that is accepted (R310, R311, R314) -/

/-- The fields of a HATBAND's payload that name its sender (Table 12.4). -/
abbrev hbDevid (b : List Byte) : Nat := leNat ((b.drop 0).take 8)
abbrev hbFabId (b : List Byte) : Nat := leNat ((b.drop 8).take 4)
abbrev hbAddr (b : List Byte) : Nat := leNat ((b.drop 12).take 2)
abbrev hbNonce (b : List Byte) : Nat := leNat ((b.drop 16).take 16)

theorem HatbandOk.elapse (h : HatbandOk s rx f) (dt : Nat) : HatbandOk (s.elapse dt) rx f :=
  ⟨h.port, h.kind, h.linked, h.ours, h.form, h.khb, h.tag, h.counter⟩

/-- It is counted, acts, and its LCTR is the last seen. -/
theorem fabArrive_hatband (h : HatbandOk s rx f) : fabArrive rx f s =
    ((s.inc (F.PORTn_RX_CNT.COUNT rx.port)).hatband rx.port f.payload).setFp rx.port
      { ((s.inc (F.PORTn_RX_CNT.COUNT rx.port)).hatband rx.port f.payload).fp rx.port with hbRx := f.lctr } := by
  have hport := h.port
  have hlinked := h.linked
  unfold fabArrive
  dsimp only
  rw [if_neg (by omega), if_neg (by simp [h.ours]), if_neg (by simp [h.form]), if_pos h.kind, if_pos h.kind,
    if_neg (by simp [h.khb, h.tag, h.counter])]

theorem exec_hatbandReceived_accepted (h : HatbandOk s rx f) (dt : Nat) : exec (.hatbandReceived dt rx f) s = .next
    ((((s.elapse dt).inc (F.PORTn_RX_CNT.COUNT rx.port)).hatband rx.port f.payload).setFp rx.port
      { (((s.elapse dt).inc (F.PORTn_RX_CNT.COUNT rx.port)).hatband rx.port f.payload).fp rx.port with hbRx := f.lctr }).settle := by
  rw [exec_hatbandReceived, fabKind, if_pos h.kind, fabArrive_hatband (h.elapse dt)]

/-- One of another FAB_ID. -/
theorem State.hatband_foreign {b : List Byte} (hid : hbFabId b ≠ s.get F.FAB_ID.ID) :
    s.hatband p b = (if s.fpState p = 3 then s.neighbourLost p else s).set (F.PORTn_STAT.STATE p) 4 := if_pos hid

/-- One of the port's own neighbour. -/
theorem State.hatband_neighbour {b : List Byte} (hid : hbFabId b = s.get F.FAB_ID.ID) (hst : s.fpState p = 3)
    (hnb : (s.fp p).nb = some (hbDevid b, hbNonce b)) :
    ∃ nport cap, s.hatband p b = ((((s.addressSeen (hbDevid b) (hbAddr b)).setFp p
      { (s.addressSeen (hbDevid b) (hbAddr b)).fp p with heard := true }).setBit (F.PORTn_STAT.CAP p) cap).set (F.PORTn_STAT.NB_ADDR p)
        (hbAddr b % 4096)).set (F.PORTn_STAT.NB_PORT p) nport := by
  have hkeeps := s.addressSeen_keeps (hbDevid b) (hbAddr b)
  have hnb' : ((s.addressSeen (hbDevid b) (hbAddr b)).fp p).nb = some (hbDevid b, hbNonce b) := by rw [hkeeps.fp p, ← hnb]
  unfold State.hatband
  dsimp only
  rw [if_neg (not_not.mpr hid), (hkeeps.fpState p).trans hst, hnb']
  exact ⟨_, _, if_pos ⟨rfl, rfl⟩⟩

/-- One on a probing port. -/
theorem State.hatband_probe {b : List Byte} (hid : hbFabId b = s.get F.FAB_ID.ID) (hst : s.fpState p = 2) :
    ∃ nport cap, s.hatband p b =
      (s.addressSeen (hbDevid b) (hbAddr b)).tryAdopt p (hbDevid b) (hbNonce b) (hbAddr b % 4096) nport cap := by
  unfold State.hatband
  dsimp only
  rw [if_neg (not_not.mpr hid), ((s.addressSeen_keeps (hbDevid b) (hbAddr b)).fpState p).trans hst]
  exact ⟨_, _, rfl⟩

/-- K_fab in the cache adopts at once. -/
theorem State.tryAdopt_hit {id n : Nat} (hkey : s.fabKeyId = some id) (hslot : s.slotOf id = some n)
    (huse : s.get (F.KEY_SLOTn.USAGE n) = 2) (devid nonce addr nport : Nat) (cap : Bool) :
    s.tryAdopt p devid nonce addr nport cap = ((s.inc F.KEY_HIT_CNT.COUNT).touchSlot n).adopt p devid nonce addr nport cap := by
  have hask : s.askFab p = ((s.inc F.KEY_HIT_CNT.COUNT).touchSlot n, .hit) := by
    unfold State.askFab
    rw [hkey]
    change s.keyRequest (.fab p) id 2 = _
    unfold State.keyRequest
    rw [hslot]
    exact if_pos huse
  unfold State.tryAdopt
  rw [hask]

/-! ### The keys (R450, R453) -/

/-- The table of mittens and the slots lie above the fabric's registers. -/
theorem State.fabKeyId_congr (h : ∀ k, 0x110000 ≤ k → t.word k = s.word k) : t.fabKeyId = s.fabKeyId := by
  have htab (i : Nat) : t.word (tabKey 17 (64 * i)) = s.word (tabKey 17 (64 * i)) := h _ (by simp only [tabKey]; omega)
  unfold State.fabKeyId
  simp only [htab]

theorem State.slot_congr (h : ∀ k, 0x110000 ≤ k → t.word k = s.word k) (n l w : Nat) : t.get ⟨R.KEY_SLOTn n, l, w⟩ = s.get ⟨R.KEY_SLOTn n, l, w⟩ := by
  unfold State.get
  rw [h _ (by simp only [R.KEY_SLOTn]; omega)]

theorem State.slotOf_congr (h : ∀ k, 0x110000 ≤ k → t.word k = s.word k) (id : Nat) : t.slotOf id = s.slotOf id := by
  unfold State.slotOf
  congr 1
  funext n
  rw [State.bit_congr (State.slot_congr h n 16 1), State.slot_congr h n 0 16]

end Sys2Proof.Machine
end

section
/-! The hatbands and frames that arrive (R306 to R312); O45. -/
namespace Sys2Proof.Machine

variable {s t u : State} {dt p : Nat} {rx : FabRx} {f : FabFrame}

/-! ### The commands: an accepted hatband -/

theorem State.incRx_get (s : State) (g : Fld) (hg : g.key ≠ R.PORTn_RX_CNT p) : (s.inc (F.PORTn_RX_CNT.COUNT p)).get g = s.get g :=
  State.get_inc_other s _ g (.inl hg)

theorem State.incRx_fpState (s : State) (p : Nat) : (s.inc (F.PORTn_RX_CNT.COUNT p)).fpState p = s.fpState p :=
  s.incRx_get _ (by simp only [R.PORTn_STAT, R.PORTn_RX_CNT]; omega)

/-- A field of FAB's own registers. -/
theorem State.incRx_global (s : State) (p : Nat) (g : Fld) (hg : g.key < 0x0D0100) : (s.inc (F.PORTn_RX_CNT.COUNT p)).get g = s.get g :=
  s.incRx_get g (by simp only [R.PORTn_RX_CNT]; omega)

/-- One of another FAB_ID makes the port FOREIGN. -/
theorem exec_hatbandReceived_foreign (h : HatbandOk s rx f) (hid : hbFabId f.payload ≠ s.get F.FAB_ID.ID) :
    ∃ t, exec (.hatbandReceived dt rx f) s = .next t ∧ t.fpState rx.port = 4 ∧ (t.fp rx.port).hbRx = f.lctr ∧
      t.get (F.PORTn_RX_CNT.COUNT rx.port) = min (s.get (F.PORTn_RX_CNT.COUNT rx.port) + 1) 0xFFFFFFFF := by
  have hp := h.port
  have hkeys : R.PORTn_RX_CNT rx.port ≠ R.PORTn_STAT rx.port ∧
      R.PORTn_RX_CNT rx.port ∉ [R.PORTn_STAT rx.port, R.PORTn_NB_LO rx.port, R.PORTn_NB_HI rx.port] ∧ R.PORTn_RX_CNT rx.port / 0x10000 ≠ 0x0E ∧
      R.PORTn_RX_CNT rx.port ≠ R.PORTn_DROP_CNT rx.port := by
    simp only [R.PORTn_RX_CNT, R.PORTn_STAT, R.PORTn_NB_LO, R.PORTn_NB_HI, R.PORTn_DROP_CNT, List.mem_cons, List.not_mem_nil, or_false]
    omega
  obtain ⟨hstat, hrest, htim, hdrop⟩ := hkeys
  have hleft (v : State) : (if v.fpState rx.port = 3 then v.neighbourLost rx.port else v).get (F.PORTn_RX_CNT.COUNT rx.port) =
      v.get (F.PORTn_RX_CNT.COUNT rx.port) := by
    split
    · unfold State.get
      rw [(v.neighbourLost_loses hp).words _ hrest (port_notFabKeys _ (o := 0x10) (by decide) (by decide)) htim hdrop]
    · rfl
  refine ⟨_, exec_hatbandReceived_accepted h dt, ?_⟩
  rw [State.hatband_foreign (by rwa [State.incRx_global _ _ _ (by decide), State.elapse_get]), State.settle_fp, State.fp_setFp_same, State.fpState,
    State.settle_get_lt _ (port_lt hp (o := 4) (by decide)), State.settle_get_lt _ (port_lt hp (o := 0x10) (by decide)), State.setFp_get,
    State.setFp_get, State.get_set_other _ _ (F.PORTn_RX_CNT.COUNT rx.port) _ (.inl hstat), hleft, State.get_inc_same _ _ (Nat.le_refl _)]
  exact ⟨State.get_set_fits _ _ (by decide) (by decide), rfl, rfl⟩

/-- One of the neighbour marks it heard and shows its address. -/
theorem exec_hatbandReceived_neighbour (h : HatbandOk s rx f) (hid : hbFabId f.payload = s.get F.FAB_ID.ID) (hst : s.fpState rx.port = 3)
    (hnb : (s.fp rx.port).nb = some (hbDevid f.payload, hbNonce f.payload)) :
    ∃ t, exec (.hatbandReceived dt rx f) s = .next t ∧ t.fpState rx.port = 3 ∧ (t.fp rx.port).heard = true ∧ (t.fp rx.port).hbRx = f.lctr ∧
      t.get (F.PORTn_STAT.NB_ADDR rx.port) = hbAddr f.payload % 4096 := by
  have hp := h.port
  obtain ⟨nport, cap, he⟩ := State.hatband_neighbour (s := (s.elapse dt).inc (F.PORTn_RX_CNT.COUNT rx.port)) (p := rx.port)
    (hid.trans (State.incRx_global _ _ _ (by decide)).symm) ((State.incRx_fpState _ _).trans hst) hnb
  have hkeeps := ((s.elapse dt).inc (F.PORTn_RX_CNT.COUNT rx.port)).addressSeen_keeps (hbDevid f.payload) (hbAddr f.payload)
  refine ⟨_, exec_hatbandReceived_accepted h dt, ?_⟩
  rw [he, State.settle_fp, State.fp_setFp_same, State.fpState, State.settle_get_lt _ (port_lt hp (o := 4) (by decide)),
    State.settle_get_lt _ (port_lt hp (o := 4) (by decide)), State.setFp_get, State.setFp_get]
  refine ⟨?_, ?_, rfl, ?_⟩
  · rw [State.get_set_apart _ _ _ (by decide), State.get_set_apart _ _ _ (by decide), State.get_setBit_apart _ _ _ (by decide), State.setFp_get]
    exact (hkeeps.fpState rx.port).trans ((State.incRx_fpState _ _).trans hst)
  · rw [State.set_fp, State.set_fp, State.setBit_fp, State.fp_setFp_same]
  · rw [State.get_set_apart _ _ _ (by decide)]
    exact State.get_set_fits _ _ (by decide) (Nat.mod_lt _ (by decide))

/-- One on a probing port adopts when K_fab is in the cache. -/
theorem exec_hatbandReceived_adopts (h : HatbandOk s rx f) (hid : hbFabId f.payload = s.get F.FAB_ID.ID) {id n : Nat} (hst : s.fpState rx.port = 2)
    (hkey : s.fabKeyId = some id) (hslot : s.slotOf id = some n) (huse : s.get (F.KEY_SLOTn.USAGE n) = 2) :
    ∃ t, exec (.hatbandReceived dt rx f) s = .next t ∧ t.fpState rx.port = 3 ∧ (t.fp rx.port).key = true ∧ (t.fp rx.port).rx = 0 ∧
      (t.fp rx.port).heard = true ∧ (t.fp rx.port).nb = some (hbDevid f.payload, hbNonce f.payload) ∧ t.get (F.PORTn_STAT.MISS rx.port) = 0 ∧
      t.get (F.PORTn_ADOPT_CNT.COUNT rx.port) = min (s.get (F.PORTn_ADOPT_CNT.COUNT rx.port) + 1) 0xFFFFFFFF := by
  have hp := h.port
  obtain ⟨nport, cap, he⟩ := State.hatband_probe (s := (s.elapse dt).inc (F.PORTn_RX_CNT.COUNT rx.port)) (p := rx.port)
    (hid.trans (State.incRx_global _ _ _ (by decide)).symm) ((State.incRx_fpState _ _).trans hst)
  have hkeeps := ((s.elapse dt).inc (F.PORTn_RX_CNT.COUNT rx.port)).addressSeen_keeps (hbDevid f.payload) (hbAddr f.payload)
  generalize ((s.elapse dt).inc (F.PORTn_RX_CNT.COUNT rx.port)).addressSeen (hbDevid f.payload) (hbAddr f.payload) = v at he hkeeps
  have hkeys (k : Nat) (hk : 0x110000 ≤ k) : v.word k = s.word k := by
    have hfab : k ∉ fabKeys := fun hin => by have := fabKeys_range k hin; omega
    rw [hkeeps.words k hfab]
    exact State.word_set_other _ _ _ k (by simp only [R.PORTn_RX_CNT]; omega)
  have hcount : ((v.inc F.KEY_HIT_CNT.COUNT).touchSlot n).get (F.PORTn_ADOPT_CNT.COUNT rx.port) = s.get (F.PORTn_ADOPT_CNT.COUNT rx.port) := by
    calc (v.inc F.KEY_HIT_CNT.COUNT).get (F.PORTn_ADOPT_CNT.COUNT rx.port)
      _ = v.get (F.PORTn_ADOPT_CNT.COUNT rx.port) :=
        State.get_inc_other v _ _ (.inl (by simp only [R.PORTn_ADOPT_CNT, R.KEY_HIT_CNT]; omega))
      _ = _ := hkeeps.get _ (port_notFabKeys _ (o := 0x24) (by decide) (by decide))
      _ = _ := State.incRx_get _ _ (by simp only [R.PORTn_ADOPT_CNT, R.PORTn_RX_CNT]; omega)
  rw [State.tryAdopt_hit ((State.fabKeyId_congr hkeys).trans hkey) ((State.slotOf_congr hkeys id).trans hslot)
    ((State.slot_congr hkeys n _ _).trans huse)] at he
  have hadopts := ((v.inc F.KEY_HIT_CNT.COUNT).touchSlot n).adopt_adopts hp (hbDevid f.payload) (hbNonce f.payload) (hbAddr f.payload % 4096) nport cap
  refine ⟨_, exec_hatbandReceived_accepted h dt, ?_⟩
  rw [he, State.settle_fp, State.fp_setFp_same, State.fpState, State.settle_get_lt _ (port_lt hp (o := 4) (by decide)),
    State.settle_get_lt _ (port_lt hp (o := 4) (by decide)), State.settle_get_lt _ (port_lt hp (o := 0x24) (by decide)), State.setFp_get,
    State.setFp_get, State.setFp_get, hadopts.fp, hadopts.miss, hadopts.count, hcount]
  exact ⟨hadopts.state, rfl, rfl, rfl, rfl, rfl, rfl⟩

/-! ### The checks of an arriving frame (R306 to R309) -/

theorem fabArrive_unlinked (hst : s.fpState rx.port = 0 ∨ s.fpState rx.port = 1) : fabArrive rx f s = s := if_pos (.inr hst)

section Linked
variable (hp : rx.port < 4) (hst : 2 ≤ s.fpState rx.port)
include hp hst

theorem fabArrive_foreign (hours : rx.ours = false) : fabArrive rx f s = s.inc F.FAB_FOREIGN_CNT.COUNT := by
  unfold fabArrive
  dsimp only
  rw [if_neg (by omega), if_pos (by simp [hours])]

theorem fabArrive_malformed (hours : rx.ours = true) (hform : fabMalformed rx f = true) : fabArrive rx f s = s.inc F.FAB_FMT_CNT.COUNT := by
  unfold fabArrive
  dsimp only
  rw [if_neg (by omega), if_neg (by simp [hours]), if_pos hform]

/-- A frame whose tag fails, on a port through which nothing is cut. -/
theorem fabArrive_unauthentic (hours : rx.ours = true) (hform : fabMalformed rx f = false) (htag : rx.tagOk = false) (hup : s.fpState rx.port ≠ 3) :
    fabArrive rx f s = s.inc (F.PORTn_AUTH_CNT.COUNT rx.port) := by
  unfold fabArrive
  dsimp only
  rw [if_neg (by omega), if_neg (by simp [hours]), if_neg (by simp [hform]), if_pos (by simp [htag]), if_neg hup]

end Linked

theorem FabOk.elapse (h : FabOk s rx f) (dt : Nat) : FabOk (s.elapse dt) rx f := ⟨h.port, h.up, h.ours, h.form, h.key, h.tag, h.counter⟩

/-- A frame was accepted: it is counted, and its LCTR is the last seen. -/
def State.accepted (s : State) (rx : FabRx) (f : FabFrame) : State :=
  (s.inc (F.PORTn_RX_CNT.COUNT rx.port)).setFp rx.port { s.fp rx.port with rx := f.lctr }

/-- What an accepted frame of a kind other than a hatband does. -/
theorem fabArrive_accepted (h : FabOk s rx f) (hkind : f.kind ≠ 0) : fabArrive rx f s =
    if f.kind = 1 then (s.accepted rx f).lsaTake rx.port f else if f.kind = 6 then s.accepted rx f else (s.accepted rx f).routed rx f := by
  have hport := h.port
  have hup := h.up
  unfold fabArrive
  dsimp only
  rw [if_neg (by omega), if_neg (by simp [h.ours]), if_neg (by simp [h.form]), if_neg hkind, if_neg hkind,
    if_neg (by simp [hup, h.key, h.tag, h.counter])]
  rfl

theorem State.accepted_get (s : State) (g : Fld) (hg : g.key ≠ R.PORTn_RX_CNT rx.port) : (s.accepted rx f).get g = s.get g := s.incRx_get g hg
theorem State.accepted_word (s : State) {k : Nat} (hk : k ≠ R.PORTn_RX_CNT rx.port) : (s.accepted rx f).word k = s.word k :=
  s.word_set_other (F.PORTn_RX_CNT.COUNT rx.port) _ k hk

/-- A frame of kind 6 that passes does no more than that. -/
theorem exec_fabFrameReceived_idle (h : FabOk s rx f) (hkind : f.kind = 6) : ∃ t, exec (.fabFrameReceived dt rx f) s = .next t ∧
    t.fp rx.port = { s.fp rx.port with rx := f.lctr } ∧ SameWords [R.PORTn_RX_CNT rx.port] s t := by
  refine ⟨_, exec_fabFrameReceived dt rx f s, ?_⟩
  rw [fabArrive_accepted (h.elapse dt) (by omega), if_neg (by omega), if_pos hkind, State.settle_fp]
  exact ⟨State.fp_setFp_same .., SameWords.settle fun k hk _ => (s.elapse dt).accepted_word fun e => hk (List.mem_singleton.mpr e)⟩

/-- Settles O45: a port's words and its own state are followed through each of its events. -/
theorem portsAdoptMissAndLoseNeighbours : Obligations.PortsAdoptMissAndLoseNeighbours := by
  unfold Obligations.PortsAdoptMissAndLoseNeighbours
  intro s dt p hp
  refine ⟨exec_hatbandInstant_heard hp, exec_hatbandInstant_unheard hp,
    fun h3 h2 => exec_idle (exec_hatbandInstant dt p s) (hatbandInstant_quiet (s := s.elapse dt) h3 h2),
    fun hst hm hheard => exec_neighbourLost_loses hp hst hm hheard,
    fun h => exec_idle (exec_neighbourLost dt p s) (neighbourLostInstant_idle (s := s.elapse dt) h), exec_linkSignalLoss_rests hp,
    fun h2 h3 h4 => exec_setsFp (exec_linkSignalLoss dt p s) (linkLoss_idle (s := s.elapse dt) h2 h3 h4), exec_linkSignalUp_probes hp,
    fun h => exec_setsFp (exec_linkSignalUp dt p s) (linkUp_other (s := s.elapse dt) h), ?_, ?_⟩
  · rintro rx f h rfl
    exact ⟨exec_hatbandReceived_foreign h, fun hid => ⟨exec_hatbandReceived_neighbour h hid, fun id n => exec_hatbandReceived_adopts h hid⟩⟩
  · rintro rx f rfl
    refine ⟨fun hst => exec_idle (exec_fabFrameReceived dt rx f s) (fabArrive_unlinked (s := s.elapse dt) hst), fun hst => ⟨fun hours => ?_,
      fun hours hform => ?_, fun hours hform htag hup => ?_⟩, exec_fabFrameReceived_idle⟩
    · exact exec_counts (exec_fabFrameReceived dt rx f s) (fabArrive_foreign (s := s.elapse dt) hp hst hours) (by decide)
    · exact exec_counts (exec_fabFrameReceived dt rx f s) (fabArrive_malformed (s := s.elapse dt) hp hst hours hform) (by decide)
    · exact exec_counts (exec_fabFrameReceived dt rx f s) (fabArrive_unauthentic (s := s.elapse dt) hp hst hours hform htag hup)
        (port_lt hp (o := 0x18) (by decide))

end Sys2Proof.Machine
end

section
/-! The link-state database and the module's address (R313 to R315): advertisements taken, originated and aged, an address claimed. -/
namespace Sys2Proof.Machine

variable {s t u : State} {dt d : Nat} {rx : FabRx} {f : FabFrame}

theorem exec_lsaReceived (dt : Nat) (rx : FabRx) (f : FabFrame) (s : State) :
    exec (.lsaReceived dt rx f) s = .next (fabKind 1 rx f (s.elapse dt)).settle := rfl
theorem exec_lsaRefreshTimer (dt : Nat) (s : State) : exec (.lsaRefreshTimer dt) s = .next (s.elapse dt).lsaOriginate.settle := rfl
theorem exec_lsaHoldoffExpiry (dt : Nat) (s : State) : exec (.lsaHoldoffExpiry dt) s = .next (lsaHoldoff (s.elapse dt)).settle := rfl
theorem exec_lsaAgeOut (dt d : Nat) (s : State) : exec (.lsaAgeOut dt d) s = .next (lsaAgeOut d (s.elapse dt)).settle := rfl
theorem exec_addressClaim (dt : Nat) (s : State) : exec (.addressClaim dt) s = .next (addressClaim (s.elapse dt)).settle := rfl

theorem State.devid_congr (hlo : t.get F.SYS_DEVID_LO.DEVID = s.get F.SYS_DEVID_LO.DEVID) (hhi : t.get F.SYS_DEVID_HI.DEVID = s.get F.SYS_DEVID_HI.DEVID) :
    t.devid = s.devid := by
  unfold State.devid
  rw [hlo, hhi]

/-! ### An LSA is taken (R315, R317) -/

/-- A known LSA, or one of the module's own. -/
theorem State.lsaTake_known (p : Nat) (h : (lsaOf f.payload).1 = s.devid ∨
    ∃ e, s.fab.lsdb.lookup (lsaOf f.payload).1 = some e ∧ (lsaOf f.payload).2.1 ≤ e.seq) : s.lsaTake p f = s := by
  unfold State.lsaTake
  dsimp only
  rw [if_pos]
  rcases h with h | ⟨e, he, hseq⟩
  · exact .inr h
  · rw [he]
    exact .inl (by simpa using hseq)

/-- A newer LSA stands in the database, whatever becomes of its frame; then the node's address is compared. -/
theorem State.lsaTake_newer (p : Nat) (hother : (lsaOf f.payload).1 ≠ s.devid)
    (hnew : ∀ e, s.fab.lsdb.lookup (lsaOf f.payload).1 = some e → e.seq < (lsaOf f.payload).2.1) :
    ∃ u : State, s.lsaTake p f = u.addressSeen (lsaOf f.payload).1 (lsaOf f.payload).2.2.1 ∧ u.devid = s.devid ∧ (∀ q, (u.fp q).rx = (s.fp q).rx) ∧
      u.fab.lsdb = put (lsaOf f.payload).1 ⟨(lsaOf f.payload).2.1, (lsaOf f.payload).2.2.1, (lsaOf f.payload).2.2.2, s.clock.up⟩ s.fab.lsdb := by
  unfold State.lsaTake
  extract_lets l devid known s1 hc s2
  have hdevid : s1.devid = s.devid := State.devid_congr (State.get_set_other _ _ _ _ (by decide)) (State.get_set_other _ _ _ _ (by decide))
  have hunknown : known = false := by
    cases he : s.fab.lsdb.lookup devid with
    | none => simp only [known, he]
    | some e => simpa only [known, he, decide_eq_false_iff_not, Nat.not_le] using hnew e he
  refine ⟨s2, if_neg (by simp only [hunknown, Bool.false_eq_true, false_or]; exact hother), ?_⟩
  by_cases hlim : hc = f.hlim
  · have h2 : s2 = s1.inc F.FAB_TTL_CNT.COUNT := if_pos hlim
    rw [h2]
    exact ⟨(State.devid_congr (State.get_inc_other _ _ _ (by decide)) (State.get_inc_other _ _ _ (by decide))).trans hdevid, fun _ => rfl, rfl⟩
  · have h2 : s2 = (s1.upPorts.filter (· != p)).foldl (fun s q => s.enqueue q { f with hc := hc }) s1 := if_neg hlim
    have hqueues : QueuesOnly s1 s2 :=
      h2 ▸ s1.broadcast_queues (fun q hq => (State.mem_upPorts.mp (List.mem_filter.mp hq).1).1) _
    exact ⟨(State.devid_congr (hqueues.get _ (by decide)) (hqueues.get _ (by decide))).trans hdevid,
      fun q => (congrArg FabPort.rx (hqueues.fp q)).trans rfl, by rw [hqueues.fab]; rfl⟩

theorem exec_lsaReceived_accepted (h : FabOk s rx f) (hkind : f.kind = 1) (dt : Nat) :
    exec (.lsaReceived dt rx f) s = .next (((s.elapse dt).accepted rx f).lsaTake rx.port f).settle := by
  rw [exec_lsaReceived, fabKind, if_pos hkind, fabArrive_accepted (h.elapse dt) (by omega), if_pos hkind]

theorem State.accepted_devid (s : State) (rx : FabRx) (f : FabFrame) : (s.accepted rx f).devid = s.devid :=
  State.devid_congr (s.accepted_get _ (by simp only [R.SYS_DEVID_LO, R.PORTn_RX_CNT]; omega))
    (s.accepted_get _ (by simp only [R.SYS_DEVID_HI, R.PORTn_RX_CNT]; omega))

/-- A newer LSA replaces its node's entry. -/
theorem exec_lsaReceived_newer (h : FabOk s rx f) (hkind : f.kind = 1) (hother : (lsaOf f.payload).1 ≠ s.devid)
    (hnew : ∀ e, s.fab.lsdb.lookup (lsaOf f.payload).1 = some e → e.seq < (lsaOf f.payload).2.1) :
    ∃ t, exec (.lsaReceived dt rx f) s = .next t ∧ (t.fp rx.port).rx = f.lctr ∧ t.fab.lsdb.lookup (lsaOf f.payload).1 =
      some ⟨(lsaOf f.payload).2.1, (lsaOf f.payload).2.2.1, (lsaOf f.payload).2.2.2, (s.elapse dt).clock.up⟩ := by
  have hdevid : ((s.elapse dt).accepted rx f).devid = s.devid := State.accepted_devid ..
  obtain ⟨u, htake, hudev, hurx, hudb⟩ := State.lsaTake_newer (s := (s.elapse dt).accepted rx f) rx.port (by rwa [hdevid]) hnew
  have hkeeps := u.addressSeen_keeps (lsaOf f.payload).1 (lsaOf f.payload).2.2.1
  refine ⟨_, exec_lsaReceived_accepted h hkind dt, ?_⟩
  rw [htake, State.settle_fp, State.settle_fab, hkeeps.fp, hkeeps.lsdb _ (by rwa [hudev, hdevid]), hudb, lookup_put_same]
  exact ⟨(hurx rx.port).trans (by rw [State.accepted, State.fp_setFp_same]), rfl⟩

/-- A known one changes no entry. -/
theorem exec_lsaReceived_known (h : FabOk s rx f) (hkind : f.kind = 1) (hknown : (lsaOf f.payload).1 = s.devid ∨
    ∃ e, s.fab.lsdb.lookup (lsaOf f.payload).1 = some e ∧ (lsaOf f.payload).2.1 ≤ e.seq) :
    ∃ t, exec (.lsaReceived dt rx f) s = .next t ∧ t.fab.lsdb = s.fab.lsdb ∧ t.fp rx.port = { s.fp rx.port with rx := f.lctr } ∧
      SameWords [R.PORTn_RX_CNT rx.port] s t := by
  refine ⟨_, exec_lsaReceived_accepted h hkind dt, ?_⟩
  rw [State.lsaTake_known (s := (s.elapse dt).accepted rx f) _ (hknown.imp_left fun e => e.trans (State.accepted_devid (s.elapse dt) rx f).symm), State.settle_fab, State.settle_fp]
  exact ⟨rfl, State.fp_setFp_same .., SameWords.settle fun k hk _ => (s.elapse dt).accepted_word fun e => hk (List.mem_singleton.mpr e)⟩

/-! ### The module's own LSA (R315) -/

theorem State.sendLsa_seq (s : State) : s.sendLsa.get F.FAB_LSA_SEQ.SEQ = (s.get F.FAB_LSA_SEQ.SEQ + 1) % 2 ^ 32 := by
  calc s.sendLsa.get F.FAB_LSA_SEQ.SEQ = s.numberLsa.get F.FAB_LSA_SEQ.SEQ := s.sendLsa_queues.get _ (by decide)
    _ = (s.set F.FAB_LSA_SEQ.SEQ s.ownEntry.seq).get F.FAB_LSA_SEQ.SEQ := State.get_set_other _ F.FAB_STAT.NODES _ _ (by decide)
    _ = s.ownEntry.seq := s.get_set_fits _ (by decide) (Nat.mod_lt _ (by decide))

theorem State.sendLsa_fab (s : State) : s.sendLsa.fab.lastLsa = some s.clock.up ∧ s.sendLsa.fab.lsaDue = false ∧
    s.sendLsa.fab.lsdb.lookup s.devid = some s.ownEntry := by
  rw [s.sendLsa_queues.fab]
  exact ⟨rfl, rfl, lookup_put_same ..⟩

theorem exec_lsaRefreshTimer_sends (haddr : s.fabAddr ≠ 0) (hrun : s.bit F.FAB_STAT.RUN = true)
    (hfree : ∀ u, s.fab.lastLsa = some u → 5000000 ≤ (s.elapse dt).clock.up - u) :
    ∃ t, exec (.lsaRefreshTimer dt) s = .next t ∧ t.get F.FAB_LSA_SEQ.SEQ = (s.get F.FAB_LSA_SEQ.SEQ + 1) % 2 ^ 32 ∧
      t.fab.lastLsa = some (s.elapse dt).clock.up ∧ t.fab.lsaDue = false ∧
      t.fab.lsdb.lookup s.devid = some ⟨(s.get F.FAB_LSA_SEQ.SEQ + 1) % 2 ^ 32, s.addrField, s.ownLinks, (s.elapse dt).clock.up⟩ := by
  obtain ⟨hlast, hdue, hentry⟩ := (s.elapse dt).sendLsa_fab
  refine ⟨_, exec_lsaRefreshTimer dt s, ?_⟩
  rw [State.lsaOriginate_sent (s := s.elapse dt) haddr hrun hfree, State.settle_fab, State.settle_get_lt _ (by decide), State.sendLsa_seq]
  exact ⟨rfl, hlast, hdue, hentry⟩

/-- Within the hold-off the change is noted. -/
theorem exec_lsaRefreshTimer_waits (haddr : s.fabAddr ≠ 0) (hrun : s.bit F.FAB_STAT.RUN = true) {u : Nat} (hlast : s.fab.lastLsa = some u)
    (hhold : (s.elapse dt).clock.up - u < 5000000) :
    ∃ t, exec (.lsaRefreshTimer dt) s = .next t ∧ t.fab = { s.fab with lsaDue := true } ∧ SameWords [] s t := by
  refine ⟨_, exec_lsaRefreshTimer dt s, ?_⟩
  rw [State.lsaOriginate_held (s := s.elapse dt) haddr hrun hlast hhold, State.settle_fab]
  exact ⟨rfl, SameWords.settle fun _ _ _ => rfl⟩

/-- The end of the hold-off sends what waits. -/
theorem exec_lsaHoldoffExpiry_sends (haddr : s.fabAddr ≠ 0) (hrun : s.bit F.FAB_STAT.RUN = true) (hdue : s.fab.lsaDue = true) :
    ∃ t, exec (.lsaHoldoffExpiry dt) s = .next t ∧ t.fab.lsaDue = false ∧ t.get F.FAB_LSA_SEQ.SEQ = (s.get F.FAB_LSA_SEQ.SEQ + 1) % 2 ^ 32 := by
  have he : lsaHoldoff (s.elapse dt) = State.sendLsa { s.elapse dt with fab := { s.fab with lastLsa := none } } :=
    (if_pos hdue).trans (State.lsaOriginate_sent haddr hrun fun u hu => nomatch hu)
  obtain ⟨-, hdue', -⟩ := State.sendLsa_fab { s.elapse dt with fab := { s.fab with lastLsa := none } }
  refine ⟨_, exec_lsaHoldoffExpiry dt s, ?_⟩
  rw [he, State.settle_fab, State.settle_get_lt _ (by decide), State.sendLsa_seq]
  exact ⟨hdue', rfl⟩

theorem lsaHoldoff_idle (h : s.fab.lsaDue = false) : lsaHoldoff s = s := if_neg (by simp [h])

/-! ### The address (R313, R314) -/

/-- An address is taken as TENT. -/
theorem State.tentative_takes (s : State) {a : Nat} (ha : a < 4096) :
    (s.tentative a).fabAddr = a ∧ (s.tentative a).get F.FAB_STAT.ADDR_STATE = 1 := by
  unfold State.tentative State.fabAddr
  rw [State.lsaOriginate_get _ _ (by decide) (by decide) (by decide), State.lsaOriginate_get _ _ (by decide) (by decide) (by decide),
    State.get_set_other _ _ F.FAB_ADDR.ADDR _ (by decide)]
  exact ⟨State.get_set_fits _ _ (by decide) ha, State.get_set_fits _ _ (by decide) (by decide)⟩

/-- The database without a node. -/
def State.agedOut (s : State) (d : Nat) : State := s.setLsdb (s.fab.lsdb.filter (fun e => e.1 != d))

theorem lsaAgeOut_absent (h : d = s.devid ∨ s.fab.lsdb.any (fun e => e.1 == d) = false) : lsaAgeOut d s = s :=
  if_pos (h.imp_right fun hd => by simp [hd])

theorem lsaAgeOut_present (hother : d ≠ s.devid) (hin : s.fab.lsdb.any (fun e => e.1 == d) = true) : lsaAgeOut d s =
    if (s.agedOut d).get F.FAB_STAT.ADDR_STATE = 3 ∧
        !((s.agedOut d).fab.lsdb.any (fun e => e.2.addr % 4096 == (s.agedOut d).get F.FAB_ADDR.CFG_ADDR)) then
      (s.agedOut d).tentative ((s.agedOut d).get F.FAB_ADDR.CFG_ADDR) else s.agedOut d := by
  unfold lsaAgeOut
  rw [if_neg (by simp [hother, hin])]
  rfl

theorem State.agedOut_get (s : State) (d : Nat) (g : Fld) (hg : Apart g F.FAB_STAT.NODES) : (s.agedOut d).get g = s.get g :=
  State.get_set_other _ _ g _ hg

/-- An entry that ages out leaves the database; a configured address in conflict is claimed again once nothing holds it. -/
theorem exec_lsaAgeOut_present (hother : d ≠ s.devid) (hin : s.fab.lsdb.any (fun e => e.1 == d) = true) :
    ∃ t, exec (.lsaAgeOut dt d) s = .next t ∧ t.fab.lsdb.lookup d = none ∧
      (s.get F.FAB_STAT.ADDR_STATE = 3 → (∀ e ∈ s.fab.lsdb, e.1 ≠ d → e.2.addr % 4096 ≠ s.get F.FAB_ADDR.CFG_ADDR) →
        t.fabAddr = s.get F.FAB_ADDR.CFG_ADDR ∧ t.get F.FAB_STAT.ADDR_STATE = 1) ∧
      (s.get F.FAB_STAT.ADDR_STATE ≠ 3 → t.fab.lsdb = s.fab.lsdb.filter (fun e => e.1 != d)) := by
  have hstate : ((s.elapse dt).agedOut d).get F.FAB_STAT.ADDR_STATE = s.get F.FAB_STAT.ADDR_STATE := State.agedOut_get _ _ _ (by decide)
  have hcfg : ((s.elapse dt).agedOut d).get F.FAB_ADDR.CFG_ADDR = s.get F.FAB_ADDR.CFG_ADDR := State.agedOut_get _ _ _ (by decide)
  have hdevid : ((s.elapse dt).agedOut d).devid = s.devid :=
    State.devid_congr (State.agedOut_get _ _ _ (by decide)) (State.agedOut_get _ _ _ (by decide))
  have hgone : ((s.elapse dt).agedOut d).fab.lsdb.lookup d = none := lookup_filter_same d s.fab.lsdb
  refine ⟨_, exec_lsaAgeOut dt d s, ?_⟩
  rw [lsaAgeOut_present (s := s.elapse dt) hother hin, State.settle_fab, State.fabAddr, State.settle_get_lt _ (by decide),
    State.settle_get_lt _ (by decide), hstate, hcfg]
  split
  · next hfree =>
    have hkeeps := (FabKeeps.refl ((s.elapse dt).agedOut d).devid ((s.elapse dt).agedOut d)).tentative (s.get F.FAB_ADDR.CFG_ADDR)
    exact ⟨(hkeeps.lsdb d (by rwa [hdevid])).trans hgone,
      fun _ _ => State.tentative_takes _ (s.get_lt F.FAB_ADDR.CFG_ADDR), fun hne => absurd hfree.1 hne⟩
  · next hheld =>
    refine ⟨hgone, fun h3 hnone => absurd ⟨h3, ?_⟩ hheld, fun _ => rfl⟩
    have hany : ((s.elapse dt).agedOut d).fab.lsdb.any (fun e => e.2.addr % 4096 == s.get F.FAB_ADDR.CFG_ADDR) = false := by
      refine List.any_eq_false.mpr fun e he => ?_
      obtain ⟨hmem, hne⟩ := List.mem_filter.mp he
      simpa using hnone e hmem (bne_iff_ne.mp hne)
    rw [hany]
    rfl

theorem State.settle_fabAddr (s : State) : s.settle.fabAddr = s.fabAddr := s.settle_get_lt (by decide)

/-- FRAM keeps the address. -/
def State.keepAddr (s : State) : State := { s with fab := { s.fab with claimed := s.fabAddr } }

theorem addressClaim_tent (h : s.get F.FAB_STAT.ADDR_STATE = 1) : addressClaim s = (s.keepAddr.set F.FAB_STAT.ADDR_STATE 2).lsaOriginate := if_pos h

theorem addressClaim_other (h : s.get F.FAB_STAT.ADDR_STATE ≠ 1) : addressClaim s = s := if_neg h

/-- A TENT address that stands becomes CLAIMED and is kept in FRAM. -/
theorem exec_addressClaim_claims (h : s.get F.FAB_STAT.ADDR_STATE = 1) :
    ∃ t, exec (.addressClaim dt) s = .next t ∧ t.get F.FAB_STAT.ADDR_STATE = 2 ∧ t.fab.claimed = s.fabAddr ∧ t.fabAddr = s.fabAddr := by
  have hkeeps := ((s.elapse dt).keepAddr.set F.FAB_STAT.ADDR_STATE 2).lsaOriginate_keeps
  refine ⟨_, exec_addressClaim dt s, ?_⟩
  rw [addressClaim_tent (s := s.elapse dt) h, State.settle_get_lt _ (by decide), State.settle_fab, State.settle_fabAddr, State.lsaOriginate_fabAddr,
    State.lsaOriginate_get _ _ (by decide) (by decide) (by decide)]
  exact ⟨State.get_set_fits _ _ (by decide) (by decide), (congrArg FabSt.claimed hkeeps.fab).trans rfl,
    State.get_set_other _ _ F.FAB_ADDR.ADDR _ (by decide)⟩

end Sys2Proof.Machine
end

section
/-! The forwarding table (R316, R318): the shortest paths' destinations, the entries that a load writes; O46. -/
namespace Sys2Proof.Machine

variable {s t : State} {dt d me : Nat} {es : List Edge} {a : Path}

theorem exec_routeTableLoad (dt : Nat) (s : State) : exec (.routeTableLoad dt) s = .next (routeTableLoad (s.elapse dt)).settle := rfl

/-! ### The destinations (R316) -/

/-- Paths in the order of their destinations, each with one of its own. -/
abbrev PathTable (ps : List (Nat × Path)) : Prop := (ps.map Prod.fst).Pairwise (· < ·)

theorem relax_table (me : Nat) (es : List Edge) {ps : List (Nat × Path)} (h : PathTable ps) : PathTable (relax me es ps) := by
  unfold relax
  induction es generalizing ps with
  | nil => exact h
  | cons e es ih =>
    refine ih ?_
    dsimp only
    split
    · exact h
    · split
      · exact h
      · split
        · exact put_pairwise _ _ ps h
        · split
          · exact put_pairwise _ _ ps h
          · exact h

theorem shortest_table (me : Nat) (es : List Edge) : PathTable (shortest me es) := by
  unfold shortest
  induction es.length with
  | zero => exact List.Pairwise.nil
  | succ n ih => exact relax_table me es ih

/-! ### The table's words -/

/-- The words of one destination's entry. -/
def routeWords (d : Nat) : List Nat := [R.FAB_RT_ENTRY d, R.FAB_RT_ROUTE_LO d, R.FAB_RT_ROUTE_HI d]

/-- The entry is valid, with the first port and the cost of the path. -/
structure RouteShown (d : Nat) (a : Path) (s : State) : Prop where
  valid : s.get (F.FAB_RT_ENTRY.VALID d) = 1
  port : s.get (F.FAB_RT_ENTRY.PORT d) = a.ports.headD 0 % 4
  cost : s.get (F.FAB_RT_ENTRY.COST d) = min a.cost 65535

theorem RouteShown.congr (h : RouteShown d a s) (hw : t.word (R.FAB_RT_ENTRY d) = s.word (R.FAB_RT_ENTRY d)) : RouteShown d a t := by
  have hget (l w : Nat) : t.get ⟨R.FAB_RT_ENTRY d, l, w⟩ = s.get ⟨R.FAB_RT_ENTRY d, l, w⟩ := by
    unfold State.get
    rw [hw]
  exact ⟨(hget 2 1).trans h.valid, (hget 0 2).trans h.port, (hget 16 16).trans h.cost⟩

/-- The first port, the hops and the cost of copy A's path. -/
def State.showPathA (s : State) (d : Nat) (a : Path) : State :=
  ((((s.set (F.FAB_RT_ENTRY.PORT d) (a.ports.headD 0)).set (F.FAB_RT_ENTRY.VALID d) 1).set (F.FAB_RT_ENTRY.HOPS d) a.nodes.length)).set
    (F.FAB_RT_ENTRY.COST d) (min a.cost 65535)

/-- Copy B's path beside it. -/
def State.showPathB (s : State) (d : Nat) (b : Path) (nd : Bool) : State :=
  (((s.set (F.FAB_RT_ENTRY.DISJ d) 1).setBit (F.FAB_RT_ENTRY.NODE_DISJ d) nd).set (F.FAB_RT_ROUTE_LO.ROUTE d) (routeBits b.ports % 2 ^ 32)).set
    (F.FAB_RT_ROUTE_HI.ROUTE d) (routeBits b.ports / 2 ^ 32)

theorem State.setRoute_cases (s : State) (me : Nat) (es : List Edge) (d : Nat) (a : Path) :
    s.setRoute me es d a = s.showPathA d a ∨ ∃ b nd, s.setRoute me es d a = (s.showPathA d a).showPathB d b nd := by
  unfold State.setRoute
  cases disjointPath me es d a with
  | none => exact .inl rfl
  | some x => exact .inr ⟨x.1, x.2, rfl⟩

theorem State.showPathA_shown (s : State) (d : Nat) (a : Path) : RouteShown d a (s.showPathA d a) := by
  unfold State.showPathA
  refine ⟨?_, ?_, ?_⟩
  · rw [State.get_set_apart _ _ _ (by decide), State.get_set_apart _ _ _ (by decide), State.get_set_fits _ _ (by decide) (by decide)]
  · rw [State.get_set_apart _ _ _ (by decide), State.get_set_apart _ _ _ (by decide), State.get_set_apart _ _ _ (by decide)]
    exact State.get_set_same _ _ _ (Nat.le_of_ble_eq_true rfl)
  · rw [State.get_set_fits _ _ (by decide) (Nat.lt_of_le_of_lt (Nat.min_le_right ..) (by decide))]

theorem RouteShown.showPathB (h : RouteShown d a s) (b : Path) (nd : Bool) : RouteShown d a (s.showPathB d b nd) := by
  have hlo : R.FAB_RT_ENTRY d ≠ R.FAB_RT_ROUTE_LO d := by simp only [R.FAB_RT_ENTRY, R.FAB_RT_ROUTE_LO]; omega
  have hhi : R.FAB_RT_ENTRY d ≠ R.FAB_RT_ROUTE_HI d := by simp only [R.FAB_RT_ENTRY, R.FAB_RT_ROUTE_HI]; omega
  have hget (l w : Nat) (hlw : l + w ≤ 3 ∨ 5 ≤ l) : (s.showPathB d b nd).get ⟨R.FAB_RT_ENTRY d, l, w⟩ = s.get ⟨R.FAB_RT_ENTRY d, l, w⟩ := by
    unfold State.showPathB
    rw [State.get_set_other _ (F.FAB_RT_ROUTE_HI.ROUTE d) _ _ (.inl hhi), State.get_set_other _ (F.FAB_RT_ROUTE_LO.ROUTE d) _ _ (.inl hlo),
      State.get_setBit_apart _ _ _ (by omega), State.get_set_apart _ _ _ (by omega)]
  exact ⟨(hget 2 1 (by decide)).trans h.valid, (hget 0 2 (by decide)).trans h.port, (hget 16 16 (by decide)).trans h.cost⟩

theorem State.setRoute_shown (s : State) (me : Nat) (es : List Edge) (d : Nat) (a : Path) : RouteShown d a (s.setRoute me es d a) := by
  rcases s.setRoute_cases me es d a with h | ⟨b, nd, h⟩ <;> rw [h]
  · exact s.showPathA_shown d a
  · exact (s.showPathA_shown d a).showPathB b nd

/-- An entry's words are its own. -/
theorem State.setRoute_word (s : State) (me : Nat) (es : List Edge) (d : Nat) (a : Path) {k : Nat} (hk : k ∉ routeWords d) :
    (s.setRoute me es d a).word k = s.word k := by
  simp only [routeWords, List.mem_cons, List.not_mem_nil, or_false, not_or] at hk
  obtain ⟨hentry, hlo, hhi⟩ := hk
  have hA : (s.showPathA d a).word k = s.word k := by
    unfold State.showPathA
    rw [State.word_set_other _ _ _ k hentry, State.word_set_other _ _ _ k hentry, State.word_set_other _ _ _ k hentry,
      State.word_set_other _ _ _ k hentry]
  rcases s.setRoute_cases me es d a with h | ⟨b, nd, h⟩ <;> rw [h]
  · exact hA
  · unfold State.showPathB
    rw [State.word_set_other _ _ _ k hhi, State.word_set_other _ _ _ k hlo, State.word_setBit_other _ _ _ k hentry,
      State.word_set_other _ _ _ k hentry, hA]

theorem entry_notRouteWords {d c : Nat} (h : d ≠ c) : R.FAB_RT_ENTRY d ∉ routeWords c := by
  simp only [routeWords, R.FAB_RT_ENTRY, R.FAB_RT_ROUTE_LO, R.FAB_RT_ROUTE_HI, List.mem_cons, List.not_mem_nil, or_false]
  omega

theorem State.setRoute_fab (s : State) (me : Nat) (es : List Edge) (d : Nat) (a : Path) : (s.setRoute me es d a).fab = s.fab := by
  rcases s.setRoute_cases me es d a with h | ⟨b, nd, h⟩ <;> rw [h] <;>
    simp only [State.showPathA, State.showPathB, State.set_fab, State.setBit_fab]

/-! ### A load (R316, R318) -/

/-- The entries of a list of paths are written. -/
def State.loadRoutes (s : State) (me : Nat) (es : List Edge) (l : List (Nat × Path)) : State := l.foldl (fun s e => s.setRoute me es e.1 e.2) s

theorem State.loadRoutes_fab (s : State) (me : Nat) (es : List Edge) (l : List (Nat × Path)) : (s.loadRoutes me es l).fab = s.fab := by
  unfold State.loadRoutes
  exact foldl_keeps State.fab (fun u e => u.setRoute_fab me es e.1 e.2) l s

/-- A destination without a path keeps its entry. -/
theorem State.loadRoutes_absent (me : Nat) (es : List Edge) {l : List (Nat × Path)} (h : d ∉ l.map Prod.fst) (s : State) :
    (s.loadRoutes me es l).word (R.FAB_RT_ENTRY d) = s.word (R.FAB_RT_ENTRY d) :=
  foldl_keeps_mem (fun u => u.word (R.FAB_RT_ENTRY d))
    (fun u e he => u.setRoute_word me es e.1 e.2 (entry_notRouteWords fun heq => h (by rw [heq]; exact List.mem_map_of_mem he))) s

/-- One with a path shows it. -/
theorem State.loadRoutes_present (me : Nat) (es : List Edge) {l : List (Nat × Path)} (htab : PathTable l) (h : l.lookup d = some a) (s : State) :
    RouteShown d a (s.loadRoutes me es l) := by
  induction l generalizing s with
  | nil => cases h
  | cons e l ih =>
    obtain ⟨c, b⟩ := e
    obtain ⟨hmin, htab⟩ := List.pairwise_cons.mp htab
    by_cases hd : d = c
    · subst hd
      have hab : b = a := by simpa using h
      subst hab
      exact (s.setRoute_shown me es d b).congr (State.loadRoutes_absent me es (fun hin => Nat.lt_irrefl d (hmin d hin)) _)
    · rw [lookup_cons_ne hd] at h
      exact ih htab h _

/-- The table after a load. -/
def State.freshRoutes (s : State) : State :=
  if s.fabAddr = 0 then s.clearWords isRouteKey
  else (s.clearWords isRouteKey).loadRoutes s.fabAddr (linkEdges s.fab.lsdb) (shortest s.fabAddr (linkEdges s.fab.lsdb))

theorem State.freshRoutes_fab (s : State) : s.freshRoutes.fab = s.fab := by
  unfold State.freshRoutes
  split
  · rfl
  · exact State.loadRoutes_fab ..

theorem entry_isRouteKey (hd : d < 4096) : isRouteKey (R.FAB_RT_ENTRY d) = true := by
  have hbelow : R.FAB_RT_ENTRY d < 0x10000000000 := by simp only [R.FAB_RT_ENTRY]; omega
  have hofs : R.FAB_RT_ENTRY d % 0x1000000 = 0x0D0084 := by simp only [R.FAB_RT_ENTRY]; omega
  simp only [isRouteKey, hbelow, hofs]
  decide

/-- An entry that is not written is not valid. -/
theorem State.cleared_invalid (hd : d < 4096) (ht : t.word (R.FAB_RT_ENTRY d) = (s.clearWords isRouteKey).word (R.FAB_RT_ENTRY d)) :
    t.bit (F.FAB_RT_ENTRY.VALID d) = false := by
  have hbelow : R.FAB_RT_ENTRY d < 0x10000000000 := by simp only [R.FAB_RT_ENTRY]; omega
  have hofs : R.FAB_RT_ENTRY d % 0x1000000 = 0x0D0084 := by simp only [R.FAB_RT_ENTRY]; omega
  have hreset : resetWord (R.FAB_RT_ENTRY d) = resetWord (R.FAB_RT_ENTRY 0) := by
    unfold resetWord keyFields
    rw [if_pos hbelow, if_pos (by decide), hofs, show R.FAB_RT_ENTRY 0 % 0x1000000 = 0x0D0084 from rfl]
  have hzero : resetWord (R.FAB_RT_ENTRY 0) = 0 := by decide
  unfold State.bit State.get
  rw [ht, State.word_clearWords (entry_isRouteKey hd), hreset, hzero]
  simp

/-- Exactly the reachable destinations are valid, each with its shortest path. -/
theorem State.freshRoutes_reachable (s : State) (haddr : s.fabAddr ≠ 0) (hd : d < 4096) :
    s.freshRoutes.bit (F.FAB_RT_ENTRY.VALID d) = ((shortest s.fabAddr (linkEdges s.fab.lsdb)).lookup d).isSome ∧
      ∀ a, (shortest s.fabAddr (linkEdges s.fab.lsdb)).lookup d = some a → RouteShown d a s.freshRoutes := by
  have htab := shortest_table s.fabAddr (linkEdges s.fab.lsdb)
  unfold State.freshRoutes
  rw [if_neg haddr]
  cases hlook : (shortest s.fabAddr (linkEdges s.fab.lsdb)).lookup d with
  | none =>
    have habsent : d ∉ (shortest s.fabAddr (linkEdges s.fab.lsdb)).map Prod.fst := fun hin => by
      obtain ⟨e, he, hed⟩ := List.mem_map.mp hin
      have hne := List.lookup_eq_none_iff.mp hlook e he
      simp [hed] at hne
    exact ⟨State.cleared_invalid hd (State.loadRoutes_absent _ _ habsent _), fun a ha => nomatch ha⟩
  | some a =>
    have hshown := State.loadRoutes_present s.fabAddr (linkEdges s.fab.lsdb) htab hlook (s.clearWords isRouteKey)
    refine ⟨?_, fun b hb => Option.some.inj hb ▸ hshown⟩
    unfold State.bit
    rw [hshown.valid]
    rfl

theorem State.freshRoutes_none (s : State) (haddr : s.fabAddr = 0) (hd : d < 4096) : s.freshRoutes.bit (F.FAB_RT_ENTRY.VALID d) = false := by
  unfold State.freshRoutes
  rw [if_pos haddr]
  exact State.cleared_invalid hd rfl

theorem routeTableLoad_unchanged (h : s.fab.changeUp = none) : routeTableLoad s = s.freshRoutes := by
  unfold routeTableLoad
  rw [h]
  rfl

theorem routeTableLoad_changed {u : Nat} (h : s.fab.changeUp = some u) : routeTableLoad s =
    ({ s.freshRoutes with fab := { s.freshRoutes.fab with changeUp := none } } : State).set F.FAB_CONV_US.US ((s.clock.up - u) / 250) := by
  unfold routeTableLoad
  rw [h]
  rfl

/-- The time since the change is the only other word that a load writes. -/
theorem routeTableLoad_get (s : State) (g : Fld) (hg : g.key ≠ R.FAB_CONV_US) : (routeTableLoad s).get g = s.freshRoutes.get g := by
  cases h : s.fab.changeUp with
  | none => rw [routeTableLoad_unchanged h]
  | some u =>
    rw [routeTableLoad_changed h]
    exact State.get_set_other _ _ g _ (.inl hg)

theorem routeTableLoad_fab (s : State) : (routeTableLoad s).fab = { s.fab with changeUp := none } := by
  cases h : s.fab.changeUp with
  | none => rw [routeTableLoad_unchanged h, s.freshRoutes_fab, ← h]
  | some u => rw [routeTableLoad_changed h, State.set_fab, s.freshRoutes_fab]

/-- An entry as a requester finds it after the command. -/
theorem State.settle_entry (s : State) (d l w : Nat) :
    (routeTableLoad s).settle.get ⟨R.FAB_RT_ENTRY d, l, w⟩ = s.freshRoutes.get ⟨R.FAB_RT_ENTRY d, l, w⟩ := by
  have hkeys : R.FAB_RT_ENTRY d ∉ alarmKeys ∧ R.FAB_RT_ENTRY d ≠ R.FAB_CONV_US := by
    simp only [R.FAB_RT_ENTRY, R.FAB_CONV_US, alarmKeys, R.SAF_ALARM, R.SAF_STAT, List.mem_cons, List.not_mem_nil, or_false]
    omega
  rw [State.settle_get _ _ hkeys.1, routeTableLoad_get _ _ hkeys.2]

/-- A table load (R316, R318). -/
theorem exec_routeTableLoad_loads (dt : Nat) (s : State) :
    ∃ t, exec (.routeTableLoad dt) s = .next t ∧ t.fab = { s.fab with changeUp := none } ∧
      (∀ u, s.fab.changeUp = some u → t.get F.FAB_CONV_US.US = ((s.elapse dt).clock.up - u) / 250 % 2 ^ 32) ∧
      (s.fabAddr ≠ 0 → ∀ d, d < 4096 →
        (t.bit (F.FAB_RT_ENTRY.VALID d) = ((shortest s.fabAddr (linkEdges s.fab.lsdb)).lookup d).isSome ∧
          ∀ a, (shortest s.fabAddr (linkEdges s.fab.lsdb)).lookup d = some a →
            t.get (F.FAB_RT_ENTRY.PORT d) = a.ports.headD 0 % 4 ∧ t.get (F.FAB_RT_ENTRY.COST d) = min a.cost 65535)) ∧
      (s.fabAddr = 0 → ∀ d, d < 4096 → t.bit (F.FAB_RT_ENTRY.VALID d) = false) := by
  refine ⟨_, exec_routeTableLoad dt s, (State.settle_fab _).trans (routeTableLoad_fab (s.elapse dt)), fun u hu => ?_, fun haddr d hd => ?_,
    fun haddr d hd => ?_⟩
  · rw [State.settle_get_lt _ (by decide), routeTableLoad_changed (s := s.elapse dt) hu]
    exact State.get_set_same _ _ _ (by decide)
  · obtain ⟨hvalid, hshown⟩ := (s.elapse dt).freshRoutes_reachable haddr hd
    refine ⟨(State.bit_congr (State.settle_entry _ d 2 1)).trans hvalid, fun a ha => ?_⟩
    exact ⟨(State.settle_entry _ d 0 2).trans (hshown a ha).port, (State.settle_entry _ d 16 16).trans (hshown a ha).cost⟩
  · exact (State.bit_congr (State.settle_entry _ d 2 1)).trans ((s.elapse dt).freshRoutes_none haddr hd)

/-- Settles O46: an LSA's frames leave the database and the address alone, and a load writes each destination's entry once. -/
theorem linkStateRoutesAndAddressesFollowTheRules : Obligations.LinkStateRoutesAndAddressesFollowTheRules := by
  unfold Obligations.LinkStateRoutesAndAddressesFollowTheRules
  intro s dt
  exact ⟨fun rx f h hkind => ⟨exec_lsaReceived_newer h hkind, exec_lsaReceived_known h hkind⟩,
    fun h => exec_idle (exec_lsaRefreshTimer dt s) (State.lsaOriginate_silent (s := s.elapse dt) h),
    fun haddr hrun => ⟨exec_lsaRefreshTimer_sends haddr hrun, fun u => exec_lsaRefreshTimer_waits haddr hrun, exec_lsaHoldoffExpiry_sends haddr hrun⟩,
    fun h => exec_idle (exec_lsaHoldoffExpiry dt s) (lsaHoldoff_idle (s := s.elapse dt) h), fun d => exec_lsaAgeOut_present,
    fun d h => exec_idle (exec_lsaAgeOut dt d s) (lsaAgeOut_absent (s := s.elapse dt) h), exec_routeTableLoad_loads dt s, exec_addressClaim_claims,
    fun h => exec_idle (exec_addressClaim dt s) (addressClaim_other (s := s.elapse dt) h)⟩

end Sys2Proof.Machine
end

section
/-! Messages that a node sends (R317, R320, R321, R323, R324): numbered, queued, repeated, and the queues that drain. -/
namespace Sys2Proof.Machine

variable {s t u : State} {dt p dst cls seq : Nat} {f : FabFrame}

theorem exec_fabDataSend (dt kind dst cls svc : Nat) (ack : Bool) (pl : List Byte) (s : State) :
    exec (.fabDataSend dt kind dst cls svc ack pl) s = .next (fabDataSend kind dst cls svc ack pl (s.elapse dt)).settle := rfl
theorem exec_fabRetryExpiry (dt dst cls seq : Nat) (s : State) :
    exec (.fabRetryExpiry dt dst cls seq) s = .next (fabRetry dst cls seq (s.elapse dt)).settle := rfl
theorem exec_egressDequeue (dt p : Nat) (s : State) : exec (.egressDequeue dt p) s = .next (egressDequeue p (s.elapse dt)).settle := rfl
theorem exec_responseCacheExpiry (dt : Nat) (s : State) :
    exec (.responseCacheExpiry dt) s = .next (responseExpiry (s.elapse dt)).settle := rfl

/-! ### A message is numbered and queued (R320, R323, R324) -/

/-- The message's frame. -/
def State.messageFrame (s : State) (kind dst cls svc : Nat) (ack : Bool) (pl : List Byte) : FabFrame :=
  ⟨kind, cls, false, false, ack, dst, s.fabAddr, 0, s.get F.FAB_CFG.HLIM, look (fun _ => 0) s.fab.seqs (dst * 8 + cls), 0, 0, svc, pl⟩

/-- Its SEQ is taken. -/
def State.numbered (s : State) (dst cls : Nat) : State := (s.nextSeq dst cls).1

/-- The message waits for its answer where one is due. -/
def State.awaitAnswer (s : State) (due : Bool) (x : FabPend) : State :=
  { s with fab := { s.fab with pend := s.fab.pend ++ if due then [x] else [] } }

theorem State.awaitAnswer_false (s : State) (x : FabPend) : s.awaitAnswer false x = s := by
  unfold State.awaitAnswer
  rw [if_neg (by decide), List.append_nil]

@[simp] theorem State.awaitAnswer_fp (s : State) (due : Bool) (x : FabPend) (p : Nat) : (s.awaitAnswer due x).fp p = s.fp p := rfl
@[simp] theorem State.awaitAnswer_word (s : State) (due : Bool) (x : FabPend) (k : Nat) : (s.awaitAnswer due x).word k = s.word k := rfl
@[simp] theorem State.awaitAnswer_get (s : State) (due : Bool) (x : FabPend) (g : Fld) : (s.awaitAnswer due x).get g = s.get g := rfl

theorem fabDataSend_live {kind svc : Nat} {ack : Bool} {pl : List Byte} (hkind : kind = 2 ∨ kind = 4) (hdst : dst < 0xFFF) (hcls : cls < 6)
    (hsvc : svc < 256) (hlen : pl.length ≤ 1024) (hlive : s.fabLive = true) : fabDataSend kind dst cls svc ack pl s =
      ((s.numbered dst cls).sendRouted (s.messageFrame kind dst cls svc ack pl)).awaitAnswer (decide (kind = 4 ∨ ack = true))
        ⟨s.messageFrame kind dst cls svc ack pl, s.get F.FAB_RETRY.RETRY_N⟩ := by
  have hdue : (dst ≠ 0xFFF ∧ (kind = 4 ∨ kind = 2 ∧ ack = true)) ↔ (kind = 4 ∨ ack = true) := by
    have hne : dst ≠ 0xFFF := Nat.ne_of_lt hdst
    rcases hkind with rfl | rfl <;> simp [hne]
  unfold fabDataSend State.fabOriginate
  rw [if_pos hkind, Nat.mod_eq_of_lt (show dst < 4096 by omega), Nat.mod_eq_of_lt (show cls < 8 by omega), Nat.mod_eq_of_lt hsvc,
    if_neg (by simp [hlive]), List.take_of_length_le hlen]
  refine (if_congr hdue rfl rfl).trans ?_
  by_cases h : kind = 4 ∨ ack = true
  · rw [if_pos h, decide_eq_true h]
    rfl
  · rw [if_neg h, decide_eq_false h, State.awaitAnswer_false]
    rfl

theorem fabDataSend_silent (h : s.fabLive = false) (kind dst cls svc : Nat) (ack : Bool) (pl : List Byte) :
    fabDataSend kind dst cls svc ack pl s = s := by
  have hnone : s.fabOriginate kind (dst % 4096) (cls % 8) (svc % 256) ack pl = s := if_pos (by simp [h])
  unfold fabDataSend
  rw [hnone, ite_self]

/-- A unicast of a class below 6 takes the table's port. -/
theorem State.sendRouted_once (hdst : f.dst ≠ 0xFFF) (hcls : f.cls < 6) : s.sendRouted f = s.sendVia (s.routePort f.dst) f := by
  unfold State.sendRouted
  rw [if_neg hdst, if_pos hcls]

/-- A frame stands last in its class queue. -/
def State.queued (s : State) (p : Nat) (f : FabFrame) : State :=
  s.setFp p { s.fp p with queues := (s.fp p).queues.set f.cls ((s.fp p).queues.getD f.cls [] ++ [f]) }

theorem State.enqueue_fits (h : (((s.fp p).queues.getD f.cls []).map fabLen).sum + fabLen f ≤ queueCap f.cls) : s.enqueue p f = s.queued p f :=
  if_neg (Nat.not_lt.mpr h)

theorem getD_set_same {α : Type} (l : List α) {i : Nat} (hi : i < l.length) (x d : α) : (l.set i x).getD i d = x := by
  rw [List.getD_eq_getElem?_getD, List.getElem?_set_self hi, Option.getD_some]

theorem State.queued_queue (h : f.cls < (s.fp p).queues.length) :
    ((s.queued p f).fp p).queues.getD f.cls [] = (s.fp p).queues.getD f.cls [] ++ [f] := by
  unfold State.queued
  rw [State.fp_setFp_same]
  exact getD_set_same _ h _ _

section Send
variable {kind svc : Nat} {ack : Bool} {pl : List Byte} (hkind : kind = 2 ∨ kind = 4) (hdst : dst < 0xFFF) (hcls : cls < 6) (hsvc : svc < 256)
  (hlen : pl.length ≤ 1024) (hlive : s.fabLive = true)
include hkind hdst hcls hsvc hlen hlive

/-- The message leaves by its route, numbered. -/
theorem exec_fabDataSend_live (dt : Nat) : exec (.fabDataSend dt kind dst cls svc ack pl) s = .next
    ((((s.elapse dt).numbered dst cls).sendVia (s.routePort dst) (s.messageFrame kind dst cls svc ack pl)).awaitAnswer
      (decide (kind = 4 ∨ ack = true)) ⟨s.messageFrame kind dst cls svc ack pl, s.get F.FAB_RETRY.RETRY_N⟩).settle := by
  rw [exec_fabDataSend, fabDataSend_live (s := s.elapse dt) hkind hdst hcls hsvc hlen hlive, State.sendRouted_once (Nat.ne_of_lt hdst) hcls]
  rfl

/-- With a route it is queued at its port and kept for its answer. -/
theorem exec_fabDataSend_queues {q : Nat} (hroute : s.routePort dst = some q) (hq : (s.fp q).queues.length = 8)
    (hroom : (((s.fp q).queues.getD cls []).map fabLen).sum + 66 + pl.length ≤ queueCap cls) :
    ∃ t, exec (.fabDataSend dt kind dst cls svc ack pl) s = .next t ∧
      (t.fp q).queues.getD cls [] = (s.fp q).queues.getD cls [] ++ [⟨kind, cls, false, false, ack, dst, s.fabAddr, 0, s.get F.FAB_CFG.HLIM,
        look (fun _ => 0) s.fab.seqs (dst * 8 + cls), 0, 0, svc, pl⟩] ∧
      look (fun _ => 0) t.fab.seqs (dst * 8 + cls) = (look (fun _ => 0) s.fab.seqs (dst * 8 + cls) + 1) % 65536 ∧
      t.fab.pend.map (fun x => (x.frame.dst, x.frame.seq, x.left)) = s.fab.pend.map (fun x => (x.frame.dst, x.frame.seq, x.left)) ++
        (if kind = 4 ∨ ack = true then [(dst, look (fun _ => 0) s.fab.seqs (dst * 8 + cls), s.get F.FAB_RETRY.RETRY_N)] else []) ∧
      SameWords [] s t := by
  have hfits := State.enqueue_fits (s := (s.elapse dt).numbered dst cls) (p := q) (f := s.messageFrame kind dst cls svc ack pl)
    ((Nat.add_assoc ..).symm.trans_le hroom)
  refine ⟨_, exec_fabDataSend_live hkind hdst hcls hsvc hlen hlive dt, ?_⟩
  rw [hroute, State.sendVia, hfits, State.settle_fp, State.settle_fab, State.awaitAnswer_fp]
  refine ⟨State.queued_queue (s := (s.elapse dt).numbered dst cls) (f := s.messageFrame kind dst cls svc ack pl)
    (show cls < (s.fp q).queues.length by omega), look_put_same .., ?_, SameWords.settle fun _ _ _ => rfl⟩
  refine List.map_append.trans (congrArg _ ?_)
  by_cases h : kind = 4 ∨ ack = true
  · rw [decide_eq_true h, if_pos h]
    rfl
  · rw [decide_eq_false h, if_neg h]
    rfl

/-- Without a route it is counted. -/
theorem exec_fabDataSend_noRoute (hroute : s.routePort dst = none) :
    ∃ t, exec (.fabDataSend dt kind dst cls svc ack pl) s = .next t ∧ SameWords [R.FAB_NOROUTE_CNT] s t ∧
      t.get F.FAB_NOROUTE_CNT.COUNT = min (s.get F.FAB_NOROUTE_CNT.COUNT + 1) 0xFFFFFFFF := by
  refine ⟨_, exec_fabDataSend_live hkind hdst hcls hsvc hlen hlive dt, ?_⟩
  rw [hroute, State.sendVia, State.settle_get_lt _ (by decide), State.awaitAnswer_get, State.get_inc_same _ _ (by decide)]
  refine ⟨SameWords.settle fun k hk _ => ?_, rfl⟩
  rw [State.awaitAnswer_word, State.inc, State.word_set_other _ _ _ k fun e => hk (List.mem_singleton.mpr e)]
  rfl

end Send

/-! ### Retries (R323) -/

/-- The message that a retry is for. -/
abbrev pendIs (dst cls seq : Nat) (x : FabPend) : Bool := x.frame.dst == dst && x.frame.cls == cls && x.frame.seq == seq

/-- The messages that wait. -/
def State.setPend (s : State) (l : List FabPend) : State := { s with fab := { s.fab with pend := l } }

theorem fabRetry_last {x : FabPend} (hfind : s.fab.pend.find? (pendIs dst cls seq) = some x) (hleft : x.left = 0) :
    fabRetry dst cls seq s = (((s.setPend (s.fab.pend.filter (fun y => !pendIs dst cls seq y))).inc F.FAB_NODELIV_CNT.COUNT).flag
      F.FAB_ERR.NODELIV).emit (.fabFail dst cls seq) := by
  unfold fabRetry
  extract_lets is
  have hfound : s.fab.pend.find? is = some x := hfind
  rw [hfound]
  exact if_pos hleft

theorem fabRetry_again {x : FabPend} (hfind : s.fab.pend.find? (pendIs dst cls seq) = some x) (hleft : 0 < x.left) :
    fabRetry dst cls seq s =
      (s.setPend (s.fab.pend.map (fun y => if pendIs dst cls seq y then { y with left := y.left - 1 } else y))).sendRouted x.frame := by
  unfold fabRetry
  extract_lets is
  have hfound : s.fab.pend.find? is = some x := hfind
  rw [hfound]
  exact if_neg (by omega)

/-- With no repeats left the delivery has failed. -/
theorem exec_fabRetryExpiry_fails {x : FabPend} (hfind : s.fab.pend.find? (pendIs dst cls seq) = some x) (hleft : x.left = 0) :
    ∃ t, exec (.fabRetryExpiry dt dst cls seq) s = .next t ∧ t.bit F.FAB_ERR.NODELIV = true ∧
      t.get F.FAB_NODELIV_CNT.COUNT = min (s.get F.FAB_NODELIV_CNT.COUNT + 1) 0xFFFFFFFF ∧ t.emitted.head? = some (.fabFail dst cls seq) ∧
      t.fab.pend = s.fab.pend.filter (fun y => !pendIs dst cls seq y) := by
  refine ⟨_, exec_fabRetryExpiry dt dst cls seq s, ?_⟩
  rw [fabRetry_last (s := s.elapse dt) hfind hleft, State.settle_bit_lt _ (by decide), State.settle_get_lt _ (by decide), State.emit_bit,
    State.emit_get, State.bit_flag_same _ _ rfl (by decide), State.get_flag_other _ _ _ (by decide), State.get_inc_same _ _ (by decide),
    State.settle_fab]
  exact ⟨rfl, rfl, State.settle_head (l := []) rfl, rfl⟩

/-- A repeat changes what it leaves of the message only in the repeats left. -/
theorem find_map_modified {α : Type} {p : α → Bool} {g : α → α} (hg : ∀ y, p y = true → p (g y) = true) {l : List α} {x : α}
    (h : l.find? p = some x) : (l.map (fun y => if p y then g y else y)).find? p = some (g x) := by
  have hp : (p ∘ fun y => if p y then g y else y) = p := by
    funext y
    by_cases hy : p y = true
    · simp [hy, hg y hy]
    · simp [hy]
  rw [List.find?_map, hp, h, Option.map_some, if_pos (List.find?_some h)]

theorem exec_fabRetryExpiry_repeats {x : FabPend} (hfind : s.fab.pend.find? (pendIs dst cls seq) = some x) (hleft : 0 < x.left) :
    ∃ t, exec (.fabRetryExpiry dt dst cls seq) s = .next t ∧
      t.fab.pend.find? (pendIs dst cls seq) = some { x with left := x.left - 1 } ∧ t.bit F.FAB_ERR.NODELIV = s.bit F.FAB_ERR.NODELIV := by
  have hqueues := ((s.elapse dt).setPend
    (s.fab.pend.map (fun y => if pendIs dst cls seq y then { y with left := y.left - 1 } else y))).sendRouted_queues x.frame
  refine ⟨_, exec_fabRetryExpiry dt dst cls seq s, ?_⟩
  rw [fabRetry_again (s := s.elapse dt) hfind hleft, State.settle_fab, State.settle_bit_lt _ (by decide)]
  refine ⟨?_, State.bit_congr (hqueues.get _ (by decide))⟩
  exact (congrArg (fun y => y.pend.find? (pendIs dst cls seq)) hqueues.fab).trans
    (find_map_modified (g := fun y => { y with left := y.left - 1 }) (fun _ hy => hy) hfind)

/-! ### Queues drain by their class (R320, R321) -/

/-- Class 7 sends first when its bucket allows. -/
theorem State.nextClass_top {rest : List FabFrame} (hq : (s.fp p).queues.getD 7 [] = f :: rest) (htok : s.hasTokens p 7 (fabLen f) = true) :
    s.nextClass p = some (7, (s.fp p).credit) := by
  unfold State.nextClass
  dsimp only
  rw [List.find?_cons_of_pos (by rw [hq]; exact htok)]

/-- The rest of a class queue, after its head has left. -/
def State.unqueued (s : State) (p c : Nat) (rest : List FabFrame) (credit : List Nat) : State :=
  s.setFp p { s.fp p with queues := (s.fp p).queues.set c rest, credit := credit }

theorem egressDequeue_top {rest : List FabFrame} (hst : s.fpState p = 3) (hq : ((s.refill p).fp p).queues.getD 7 [] = f :: rest)
    (htok : (s.refill p).hasTokens p 7 (fabLen f) = true) :
    egressDequeue p s = ((s.refill p).unqueued p 7 rest ((s.refill p).fp p).credit).transmit p f false := by
  unfold egressDequeue
  rw [if_neg (not_not.mpr hst)]
  dsimp only
  rw [State.nextClass_top hq htok]
  dsimp only
  rw [hq]
  rfl

theorem egressDequeue_idle (h : s.fpState p ≠ 3) : egressDequeue p s = s := if_pos h

/-- The tokens left after a frame took its own. -/
def FabPort.tokensAfter (x : FabPort) (f : FabFrame) : List Nat :=
  if f.cls < 5 then x.tokens else x.tokens.set (f.cls - 5) (x.tokens.getD (f.cls - 5) 0 - (fabLen f) * 200)

def State.takeTokens (s : State) (p : Nat) (f : FabFrame) : State := s.setFp p { s.fp p with tokens := (s.fp p).tokensAfter f }

theorem State.transmit_eq (s : State) (p : Nat) (f : FabFrame) (ended : Bool) : s.transmit p f ended =
    (((s.takeTokens p f).setFp p { (s.takeTokens p f).fp p with tx := ((s.takeTokens p f).fp p).tx + 1 }).inc (F.PORTn_TX_CNT.COUNT p)).emit
      (.fab p { f with lctr := (s.fp p).tx + 1 } ended) := rfl

/-- A frame that leaves takes the next LCTR of the link and leaves the queues. -/
theorem State.transmit_fp (s : State) (p : Nat) (f : FabFrame) (ended : Bool) :
    ((s.transmit p f ended).fp p).queues = (s.fp p).queues ∧ ((s.transmit p f ended).fp p).tx = (s.fp p).tx + 1 := by
  rw [State.transmit_eq, State.emit_fp, State.inc_fp, State.fp_setFp_same, State.takeTokens, State.fp_setFp_same]
  exact ⟨rfl, rfl⟩

theorem State.transmit_word (s : State) (p : Nat) (f : FabFrame) (ended : Bool) {k : Nat} (hk : k ≠ R.PORTn_TX_CNT p) :
    (s.transmit p f ended).word k = s.word k := by
  rw [State.transmit_eq, State.emit_word, State.inc, State.word_set_other _ _ _ k hk, State.setFp_word, State.takeTokens, State.setFp_word]

theorem State.refill_fp (s : State) (p : Nat) : ∃ l, (s.refill p).fp p = { s.fp p with tokUp := s.clock.up, tokens := l } := by
  unfold State.refill
  exact ⟨_, State.fp_setFp_same ..⟩

theorem exec_egressDequeue_top {rest : List FabFrame} (hst : s.fpState p = 3) (hlen : (s.fp p).queues.length = 8)
    (hq : (s.fp p).queues.getD 7 [] = f :: rest) (htok : ((s.elapse dt).refill p).hasTokens p 7 (fabLen f) = true) :
    ∃ t, exec (.egressDequeue dt p) s = .next t ∧ t.emitted.head? = some (.fab p { f with lctr := (s.fp p).tx + 1 } false) ∧
      (t.fp p).queues.getD 7 [] = rest ∧ (t.fp p).tx = (s.fp p).tx + 1 ∧ SameWords [R.PORTn_TX_CNT p] s t := by
  obtain ⟨l, hfp⟩ := (s.elapse dt).refill_fp p
  have hleft : (((s.elapse dt).refill p).unqueued p 7 rest (s.fp p).credit).fp p =
      { s.fp p with tokUp := (s.elapse dt).clock.up, tokens := l, queues := (s.fp p).queues.set 7 rest } := by
    rw [State.unqueued, State.fp_setFp_same, hfp]
    rfl
  obtain ⟨hqueues, htx⟩ := (((s.elapse dt).refill p).unqueued p 7 rest (s.fp p).credit).transmit_fp p f false
  have he := egressDequeue_top (s := s.elapse dt) (p := p) hst (by rw [hfp]; exact hq) htok
  rw [show (((s.elapse dt).refill p).fp p).credit = (s.fp p).credit by rw [hfp]; rfl] at he
  refine ⟨_, exec_egressDequeue dt p s, ?_⟩
  rw [he, State.settle_fp, hqueues, htx, hleft]
  refine ⟨?_, getD_set_same _ (by omega) _ _, rfl, SameWords.settle fun k hk _ => ?_⟩
  · refine (State.settle_head (l := []) ?_).trans rfl
    rw [State.transmit_eq, State.emit_emitted, hleft]
    rfl
  · exact State.transmit_word _ _ _ _ fun e => hk (List.mem_singleton.mpr e)

/-! ### The response cache (R326) -/

theorem exec_responseCacheExpiry_frees (dt : Nat) (s : State) : ∃ t, exec (.responseCacheExpiry dt) s = .next t ∧ SameWords [] s t ∧
    t.fab = { s.fab with cache := s.fab.cache.filter (fun r => (s.elapse dt).clock.up - r.up < s.get F.FAB_RETRY.WIN_HOLD * 250000000) } :=
  ⟨_, exec_responseCacheExpiry dt s, SameWords.settle fun _ _ _ => rfl, State.settle_fab _⟩

end Sys2Proof.Machine
end

section
/-! Messages that arrive for the module (R308, R323, R325, R326, R328): the duplicate window, what is handed up, answers; O47. -/
namespace Sys2Proof.Machine

variable {s t u : State} {dt : Nat} {rx : FabRx} {f : FabFrame} {src cls seq : Nat} {bc : Bool}

/-! ### The duplicate window (R325) -/

theorem State.winLook_congr (hw : t.fab.wins = s.fab.wins) (hc : t.clock = s.clock) (hr : t.get F.FAB_RETRY.WIN_HOLD = s.get F.FAB_RETRY.WIN_HOLD)
    (src cls : Nat) (bc : Bool) (seq : Nat) : t.winLook src cls bc seq = s.winLook src cls bc seq := by
  unfold State.winLook
  rw [hw, hc, hr]

theorem seqBehind_self (n : Nat) : seqBehind n n = 0 := by
  unfold seqBehind
  omega

/-- What a window says of a SEQ. -/
def FabWin.verdict (w : FabWin) (seq : Nat) : WinVerdict :=
  if seqBehind w.newest seq = 0 then .dup else if 32768 ≤ seqBehind w.newest seq then .fresh
  else if 64 < seqBehind w.newest seq then .stale else if w.seen.contains seq then .dup else .fresh

theorem State.winLook_known {w : FabWin} (hfind : s.fab.wins.find? (winIs src cls bc) = some w) : s.winLook src cls bc seq = w.verdict seq := by
  unfold State.winLook
  rw [hfind]
  rfl

/-- The windows and the cached responses. -/
def State.setWins (s : State) (ws : List FabWin) (cache : List FabResp) : State := { s with fab := { s.fab with wins := ws, cache := cache } }

/-- A window with a further SEQ. -/
def FabWin.note (w : FabWin) (seq up : Nat) : FabWin :=
  let d := seqBehind w.newest seq
  let n := if 32768 ≤ d then seq else w.newest
  let seen := (if 32768 ≤ d then w.newest :: w.seen else seq :: w.seen).filter (fun q => seqBehind n q ≤ 64)
  { w with newest := n, seen := seen, up := up }

theorem State.winNote_known {w : FabWin} (hfind : s.fab.wins.find? (winIs src cls bc) = some w) : ∃ cache, s.winNote src cls bc seq =
    s.setWins (s.fab.wins.map (fun x => if winIs src cls bc x then w.note seq s.clock.up else x)) cache := by
  unfold State.winNote
  rw [hfind]
  exact ⟨_, rfl⟩

/-- A window of its own, in a free place or in that of an old one. -/
theorem State.winNote_first (hfind : s.fab.wins.find? (winIs src cls bc) = none) : ∃ rest, (∀ w ∈ rest, w ∈ s.fab.wins) ∧
    s.winNote src cls bc seq = s.setWins (rest ++ [⟨src, cls, bc, seq, [], s.clock.up⟩]) s.fab.cache := by
  unfold State.winNote
  rw [hfind]
  refine ⟨_, ?_, rfl⟩
  split
  · exact fun _ hw => hw
  · split
    · exact fun _ hw => (List.mem_filter.mp hw).1
    · exact fun _ hw => hw

theorem State.winNote_setWins (s : State) (src cls : Nat) (bc : Bool) (seq : Nat) : ∃ ws cache, s.winNote src cls bc seq = s.setWins ws cache := by
  cases hfind : s.fab.wins.find? (winIs src cls bc) with
  | none => obtain ⟨rest, -, h⟩ := State.winNote_first (seq := seq) hfind; exact ⟨_, _, h⟩
  | some w => obtain ⟨cache, h⟩ := State.winNote_known (seq := seq) hfind; exact ⟨_, _, h⟩

/-- A window that noted a fresh SEQ holds it for a duplicate: it is the newest, or one of those received before it. -/
theorem FabWin.note_dup (w : FabWin) (up : Nat) (h : w.verdict seq = .fresh) : (w.note seq up).verdict seq = .dup := by
  by_cases hahead : 32768 ≤ seqBehind w.newest seq
  · have hnewest : (w.note seq up).newest = seq := if_pos hahead
    unfold FabWin.verdict
    rw [hnewest, if_pos (seqBehind_self seq)]
  · have hnewest : (w.note seq up).newest = w.newest := if_neg hahead
    have hnear : seqBehind w.newest seq ≠ 0 ∧ seqBehind w.newest seq ≤ 64 := by
      unfold FabWin.verdict at h
      split at h
      · cases h
      · next hzero =>
        split at h
        · cases h
        · next hfar => exact ⟨hzero, Nat.not_lt.mp hfar⟩
    have hseen : (w.note seq up).seen.contains seq = true := by simp [FabWin.note, hahead, hnear.2]
    unfold FabWin.verdict
    rw [hnewest, if_neg hnear.1, if_neg hahead, if_neg (Nat.not_lt.mpr hnear.2), if_pos hseen]

/-- A fresh SEQ that was noted is a duplicate. -/
theorem State.winNote_dup (h : s.winLook src cls bc seq = .fresh) : (s.winNote src cls bc seq).winLook src cls bc seq = .dup := by
  cases hfind : s.fab.wins.find? (winIs src cls bc) with
  | none =>
    obtain ⟨rest, hsub, he⟩ := State.winNote_first (seq := seq) hfind
    have hrest : rest.find? (winIs src cls bc) = none := List.find?_eq_none.mpr fun w hw => List.find?_eq_none.mp hfind w (hsub w hw)
    have hnew : (rest ++ [(⟨src, cls, bc, seq, [], s.clock.up⟩ : FabWin)]).find? (winIs src cls bc) = some ⟨src, cls, bc, seq, [], s.clock.up⟩ := by
      rw [List.find?_append, hrest]
      simp [winIs]
    rw [he, State.winLook_known hnew]
    exact if_pos (seqBehind_self seq)
  | some w =>
    obtain ⟨cache, he⟩ := State.winNote_known (seq := seq) hfind
    have hw : winIs src cls bc w = true := List.find?_some hfind
    rw [State.winLook_known hfind] at h
    rw [he, State.winLook_known (find_map_modified (g := fun _ => w.note seq s.clock.up) (fun _ _ => hw) hfind)]
    exact w.note_dup s.clock.up h

/-! ### Answers (R323, R326, R328) -/

theorem State.fabOriginate_keeps (s : State) (me kind dst cls svc : Nat) (ack : Bool) (pl : List Byte) :
    FabKeeps me s (s.fabOriginate kind dst cls svc ack pl) := by
  have hsent (f : FabFrame) : FabKeeps me s ((s.nextSeq dst cls).1.sendRouted f) :=
    (FabKeeps.refl me s).other.trans (.of_queues (State.sendRouted_queues _ f))
  unfold State.fabOriginate
  dsimp only
  split
  · exact .refl me s
  · split
    · exact (hsent _).other
    · exact hsent _

theorem State.answerDue_keeps (s : State) (me : Nat) (f : FabFrame) (st : Nat) (data : List Byte) : FabKeeps me s (s.answerDue f st data) := by
  unfold State.answerDue
  split
  · exact s.fabOriginate_keeps ..
  · exact .refl me s

theorem FabKeeps.wins {me : Nat} (h : FabKeeps me s t) : t.fab.wins = s.fab.wins := by rw [h.fab]
theorem FabKeeps.cache {me : Nat} (h : FabKeeps me s t) : t.fab.cache = s.fab.cache := by rw [h.fab]

theorem FabKeeps.winLook {me : Nat} (h : FabKeeps me s t) (src cls : Nat) (bc : Bool) (seq : Nat) :
    t.winLook src cls bc seq = s.winLook src cls bc seq := State.winLook_congr h.wins h.clock (h.get _ (by decide)) ..

/-! ### The end of the command -/

theorem State.settle_winLook (s : State) (src cls : Nat) (bc : Bool) (seq : Nat) : s.settle.winLook src cls bc seq = s.winLook src cls bc seq :=
  State.winLook_congr (by rw [State.settle_fab]) (State.settle_clock s) (s.settle_get_lt (by decide)) ..

/-- Only the alarm's line moves at the end of a command. -/
theorem State.settle_emitted_pin (s : State) : s.settle.emitted = s.emitted ∨ ∃ b, s.settle.emitted = s.emitted ++ [.pin 0 b] := by
  have hdrive (x : State) (was out : Bool) : (x.driveAlarm was out).emitted = x.emitted ∨ ∃ b, (x.driveAlarm was out).emitted = x.emitted ++ [.pin 0 b] := by
    unfold State.driveAlarm
    split
    · exact .inl rfl
    · exact .inr ⟨out, rfl⟩
  have hshow (f st c t n g out : Bool) : (s.showAlarm f st c t n g out).emitted = s.emitted := by
    simp only [State.showAlarm, State.setBit_emitted]
  unfold State.settle
  split
  · unfold State.updAlarm
    dsimp only
    simpa only [hshow] using hdrive (s.showAlarm ..) ..
  · exact .inl rfl

theorem State.settle_silent (h : s.emitted = []) (g : FabFrame) : Emit.fabUp g ∉ s.settle.emitted := by
  rcases s.settle_emitted_pin with he | ⟨b, he⟩ <;> rw [he, h] <;> simp

/-! ### A message for the module (R325, R326, R328) -/

/-- The hop is counted. -/
def hopped (f : FabFrame) : FabFrame := { f with hc := f.hc + 1 }

theorem State.routed_own (hdst : f.dst = s.fabAddr) (huni : f.dst ≠ 0xFFF) (hlive : s.fabLive = true) :
    s.routed rx f = if f.kind = 3 ∨ f.kind = 5 then s.fabReply (hopped f) else s.fabMessage rx (hopped f) := by
  unfold State.routed
  dsimp only
  rw [if_neg huni, if_pos hdst, if_pos hlive]
  rfl

/-- The accepted frame is the module's own, and what FAB serves is as before. -/
structure ForModule (s : State) (rx : FabRx) (f : FabFrame) : Prop where
  ok : FabOk s rx f
  dst : f.dst = s.fabAddr
  unicast : f.dst ≠ 0xFFF
  live : s.fabLive = true

theorem State.accepted_global (s : State) (rx : FabRx) (f : FabFrame) (g : Fld) (hg : g.key < 0x0D0100) : (s.accepted rx f).get g = s.get g :=
  s.incRx_global rx.port g hg

/-- Nothing but the port's own state and its count. -/
theorem State.accepted_other (s : State) (rx : FabRx) (f : FabFrame) : (s.accepted rx f).fab.wins = s.fab.wins ∧
    (s.accepted rx f).fab.cache = s.fab.cache ∧ (s.accepted rx f).fab.pend = s.fab.pend ∧ (s.accepted rx f).clock = s.clock ∧
    (s.accepted rx f).emitted = s.emitted := by
  unfold State.accepted State.setFp
  exact ⟨rfl, rfl, rfl, rfl, rfl⟩

theorem State.accepted_winLook (s : State) (rx : FabRx) (f : FabFrame) (src cls : Nat) (bc : Bool) (seq : Nat) :
    (s.accepted rx f).winLook src cls bc seq = s.winLook src cls bc seq := by
  obtain ⟨hwins, -, -, hclock, -⟩ := s.accepted_other rx f
  exact State.winLook_congr hwins hclock (s.accepted_global rx f _ (by decide)) ..

theorem ForModule.arrive (h : ForModule s rx f) (hkind : 2 ≤ f.kind ∧ f.kind ≤ 5) : fabArrive rx f s =
    if f.kind = 3 ∨ f.kind = 5 then (s.accepted rx f).fabReply (hopped f) else (s.accepted rx f).fabMessage rx (hopped f) := by
  have hlive : (s.accepted rx f).fabLive = true := by
    rw [← h.live]
    unfold State.fabLive
    rw [State.bit_congr (s.accepted_global rx f F.FAB_STAT.RUN (by decide)), s.accepted_global rx f F.FAB_STAT.ADDR_STATE (by decide)]
  rw [fabArrive_accepted h.ok (by omega), if_neg (by omega), if_neg (by omega),
    State.routed_own (h.dst.trans (s.accepted_global rx f F.FAB_ADDR.ADDR (by decide)).symm) h.unicast hlive]

theorem ForModule.elapse (h : ForModule s rx f) (dt : Nat) : ForModule (s.elapse dt) rx f := ⟨h.ok.elapse dt, h.dst, h.unicast, h.live⟩

/-- A service of firmware runs. -/
theorem State.svcRuns_firmware (hsvc : 16 ≤ f.svc) (hruns : rx.runs = true) (hfull : s.bit F.FAB_STAT.SVC = true) : s.svcRuns f rx = true := by
  unfold State.svcRuns
  rw [if_neg (by omega), if_neg (by omega), hfull, hruns, decide_eq_true hsvc]
  rfl

/-- A fresh message is noted, and a REQUEST's response is cached. -/
def State.taken (s : State) (rx : FabRx) (f : FabFrame) : State :=
  if f.kind = 4 then (s.winNote f.src f.cls false f.seq).cacheResp ⟨f.src, f.cls, f.seq, 0, rx.data.take 1020, s.clock.up⟩
  else s.winNote f.src f.cls false f.seq

section Message
variable (huni : f.dst ≠ 0xFFF) (hrun : s.svcRuns f rx = true)
include huni hrun

/-- It is handed up, then answered where an answer is due. -/
theorem State.fabMessage_fresh (hsvc : 16 ≤ f.svc) (hlook : s.winLook f.src f.cls false f.seq = .fresh) (hbusy : rx.busy = false) :
    ∃ data, s.fabMessage rx f = ((s.taken rx f).emit (.fabUp f)).answerDue f 0 data := by
  have hdeliver (v : State) : v.fabDeliver f = v.emit (.fabUp f) := by
    unfold State.fabDeliver
    split
    · omega
    · omega
    · rfl
  unfold State.fabMessage State.taken
  rw [beq_eq_false_iff_ne.mpr huni, hrun]
  dsimp only
  rw [hlook, if_neg (by decide)]
  dsimp only
  rw [hbusy, if_neg (by simp)]
  split
  · exact ⟨_, rfl⟩
  · exact ⟨_, by rw [hdeliver]⟩

/-- A duplicate is counted and answered again. -/
theorem State.fabMessage_dup (hlook : s.winLook f.src f.cls false f.seq = .dup) : ∃ st data,
    s.fabMessage rx f = ((s.winTouch f.src f.cls false).inc F.FAB_DUP_CNT.COUNT).answerDue f st data := by
  unfold State.fabMessage
  rw [beq_eq_false_iff_ne.mpr huni, hrun]
  dsimp only
  rw [hlook, if_neg (by decide)]
  dsimp only
  split
  · split
    · exact ⟨_, _, rfl⟩
    · exact ⟨_, _, rfl⟩
  · exact ⟨_, _, rfl⟩

theorem State.fabMessage_full (hlook : s.winLook f.src f.cls false f.seq = .full) :
    s.fabMessage rx f = (s.inc F.FAB_WINFULL_CNT.COUNT).flag F.FAB_ERR.WIN_FULL := by
  unfold State.fabMessage
  rw [beq_eq_false_iff_ne.mpr huni, hrun]
  dsimp only
  rw [hlook, if_neg (by decide)]

end Message

/-- The SEQ of a message taken is a duplicate from then on. -/
theorem State.taken_dup (hlook : s.winLook f.src f.cls false f.seq = .fresh) : (s.taken rx f).winLook f.src f.cls false f.seq = .dup := by
  unfold State.taken
  split
  · exact State.winNote_dup hlook
  · exact State.winNote_dup hlook

theorem State.taken_emitted (s : State) (rx : FabRx) (f : FabFrame) : (s.taken rx f).emitted = s.emitted := by
  obtain ⟨ws, cache, he⟩ := s.winNote_setWins f.src f.cls false f.seq
  unfold State.taken
  rw [he]
  split
  · rfl
  · rfl

theorem State.taken_cached (hkind : f.kind = 4) :
    (s.taken rx f).fab.cache.getLast? = some ⟨f.src, f.cls, f.seq, 0, rx.data.take 1020, s.clock.up⟩ := by
  unfold State.taken
  rw [if_pos hkind]
  exact List.getLast?_concat

/-! ### An answer to the module (R323) -/

/-- A message that an answer ends the wait for: of its peer, class and SEQ, a REQUEST where the answer is a RESPONSE. -/
def Awaits (f : FabFrame) (k : Nat) (x : FabPend) : Prop :=
  x.frame.dst = f.src ∧ x.frame.cls = leNat ((f.payload.drop 2).take 1) ∧ x.frame.seq = leNat (f.payload.take 2) ∧ (x.frame.kind = 4 ↔ k = 5)

/-- The same as the model tests it. -/
def awaitsReply (f : FabFrame) (x : FabPend) : Bool :=
  x.frame.dst == f.src && x.frame.cls == leNat ((f.payload.drop 2).take 1) && x.frame.seq == leNat (f.payload.take 2) &&
    (x.frame.kind == 4) == (f.kind == 5)

theorem awaitsReply_iff (f : FabFrame) (x : FabPend) : awaitsReply f x = true ↔ Awaits f f.kind x := by
  have hkinds : ((x.frame.kind == 4) == (f.kind == 5)) = true ↔ (x.frame.kind = 4 ↔ f.kind = 5) := by
    rw [beq_iff_eq, Bool.eq_iff_iff, beq_iff_eq, beq_iff_eq]
  simp only [awaitsReply, Awaits, Bool.and_eq_true, hkinds, beq_iff_eq (α := Nat), and_assoc]

theorem State.fabReply_ends (huni : f.dst ≠ 0xFFF) (hlook : s.winLook f.src f.cls false f.seq = .fresh)
    (hstatus : leNat ((f.payload.drop 3).take 1) ≠ 3) (hwait : s.fab.pend.any (awaitsReply f) = true) : ∃ ws cache,
    s.fabReply f = ((s.setWins ws cache).setPend (s.fab.pend.filter (fun x => !awaitsReply f x))).emit (.fabUp f) := by
  obtain ⟨ws, cache, he⟩ := s.winNote_setWins f.src f.cls false f.seq
  refine ⟨ws, cache, ?_⟩
  unfold State.fabReply
  rw [beq_eq_false_iff_ne.mpr huni, hlook]
  dsimp only
  rw [he, if_pos ⟨hwait, hstatus⟩]
  rfl

/-! ### The commands: a message for the module -/

/-- A service of firmware still runs when its frame was accepted. -/
theorem State.accepted_served (hsvc : 16 ≤ f.svc) (hruns : rx.runs = true) (hfull : s.bit F.FAB_STAT.SVC = true) :
    (s.accepted rx f).svcRuns (hopped f) rx = true :=
  State.svcRuns_firmware hsvc hruns ((State.bit_congr (s.accepted_global rx f F.FAB_STAT.SVC (by decide))).trans hfull)

section Received
variable {k : Nat} (h : ForModule s rx f) (hkind : f.kind = k)
include h hkind

theorem ForModule.exec_message (hk : k = 2 ∨ k = 4) (dt : Nat) :
    exec (if k = 2 then .fabDataReceived dt rx f else .fabRequestReceived dt rx f) s = .next (((s.elapse dt).accepted rx f).fabMessage rx (hopped f)).settle := by
  have he : fabKind k rx f (s.elapse dt) = ((s.elapse dt).accepted rx f).fabMessage rx (hopped f) := by
    unfold fabKind
    rw [if_pos hkind, (h.elapse dt).arrive (by omega), if_neg (by omega)]
  rw [← he]
  rcases hk with rfl | rfl
  · rfl
  · rfl

theorem ForModule.exec_reply (hk : k = 3 ∨ k = 5) (dt : Nat) :
    exec (if k = 3 then .fabAckReceived dt rx f else .fabResponseReceived dt rx f) s = .next (((s.elapse dt).accepted rx f).fabReply (hopped f)).settle := by
  have he : fabKind k rx f (s.elapse dt) = ((s.elapse dt).accepted rx f).fabReply (hopped f) := by
    unfold fabKind
    rw [if_pos hkind, (h.elapse dt).arrive (by omega), if_pos (by omega)]
  rw [← he]
  rcases hk with rfl | rfl
  · rfl
  · rfl

section Served
variable (hk : k = 2 ∨ k = 4) (hsvc : 16 ≤ f.svc) (hruns : rx.runs = true) (hfull : s.bit F.FAB_STAT.SVC = true)
include hk hsvc hruns hfull

/-- A fresh message is handed up once, and a REQUEST's response is kept. -/
theorem ForModule.message_fresh (hlook : (s.elapse dt).winLook f.src f.cls false f.seq = .fresh) (hbusy : rx.busy = false) :
    ∃ t, exec (if k = 2 then .fabDataReceived dt rx f else .fabRequestReceived dt rx f) s = .next t ∧
      t.emitted.head? = some (.fabUp { f with hc := f.hc + 1 }) ∧ t.winLook f.src f.cls false f.seq = .dup ∧
      (k = 4 → t.fab.cache.getLast? = some ⟨f.src, f.cls, f.seq, 0, rx.data.take 1020, (s.elapse dt).clock.up⟩) := by
  obtain ⟨-, -, -, hclock, hemitted⟩ := (s.elapse dt).accepted_other rx f
  have hfresh : ((s.elapse dt).accepted rx f).winLook (hopped f).src (hopped f).cls false (hopped f).seq = .fresh :=
    (State.accepted_winLook ..).trans hlook
  obtain ⟨data, he⟩ := State.fabMessage_fresh (f := hopped f) h.unicast (State.accepted_served (s := s.elapse dt) hsvc hruns hfull) hsvc hfresh hbusy
  have hkeeps := State.answerDue_keeps ((((s.elapse dt).accepted rx f).taken rx (hopped f)).emit (.fabUp (hopped f))) 0 (hopped f) 0 data
  refine ⟨_, h.exec_message hkind hk dt, ?_⟩
  rw [he, State.settle_winLook, State.settle_fab, hkeeps.cache, hkeeps.winLook]
  refine ⟨State.settle_head (l := []) ?_, State.taken_dup hfresh, fun hreq => ?_⟩
  · rw [hkeeps.emitted, State.emit_emitted, State.taken_emitted, hemitted]
    rfl
  · rw [← hclock]
    exact State.taken_cached (hkind.trans hreq)

/-- A duplicate is counted and not handed up. -/
theorem ForModule.message_dup (hlook : (s.elapse dt).winLook f.src f.cls false f.seq = .dup) :
    ∃ t, exec (if k = 2 then .fabDataReceived dt rx f else .fabRequestReceived dt rx f) s = .next t ∧ (∀ g, .fabUp g ∉ t.emitted) ∧
      t.get F.FAB_DUP_CNT.COUNT = min (s.get F.FAB_DUP_CNT.COUNT + 1) 0xFFFFFFFF ∧ t.fab.cache = s.fab.cache := by
  obtain ⟨-, hcache, -, -, hemitted⟩ := (s.elapse dt).accepted_other rx f
  obtain ⟨st, data, he⟩ := State.fabMessage_dup (f := hopped f) h.unicast (State.accepted_served (s := s.elapse dt) hsvc hruns hfull)
    ((State.accepted_winLook ..).trans hlook)
  have hkeeps := State.answerDue_keeps
    ((((s.elapse dt).accepted rx f).winTouch (hopped f).src (hopped f).cls false).inc F.FAB_DUP_CNT.COUNT) 0 (hopped f) st data
  refine ⟨_, h.exec_message hkind hk dt, ?_⟩
  rw [he, State.settle_fab, hkeeps.cache, State.settle_get_lt _ (by decide), hkeeps.get _ (by decide)]
  refine ⟨fun g => State.settle_silent (hkeeps.emitted.trans hemitted) g, ?_, hcache⟩
  rw [State.get_inc_same _ _ (Nat.le_refl _)]
  exact congrArg (fun n => min (n + 1) 0xFFFFFFFF) ((s.elapse dt).accepted_global rx f F.FAB_DUP_CNT.COUNT (by decide))

/-- A full table of windows counts it. -/
theorem ForModule.message_full (hlook : (s.elapse dt).winLook f.src f.cls false f.seq = .full) :
    ∃ t, exec (if k = 2 then .fabDataReceived dt rx f else .fabRequestReceived dt rx f) s = .next t ∧ (∀ g, .fabUp g ∉ t.emitted) ∧
      t.get F.FAB_WINFULL_CNT.COUNT = min (s.get F.FAB_WINFULL_CNT.COUNT + 1) 0xFFFFFFFF ∧ t.bit F.FAB_ERR.WIN_FULL = true := by
  obtain ⟨-, -, -, -, hemitted⟩ := (s.elapse dt).accepted_other rx f
  refine ⟨_, h.exec_message hkind hk dt, ?_⟩
  rw [State.fabMessage_full (f := hopped f) h.unicast (State.accepted_served (s := s.elapse dt) hsvc hruns hfull) ((State.accepted_winLook ..).trans hlook),
    State.settle_get_lt _ (by decide), State.settle_bit_lt _ (by decide)]
  refine ⟨fun g => State.settle_silent (by rw [State.flag_emitted, State.inc_emitted, hemitted]; rfl) g, ?_, State.bit_flag_same _ _ (by decide) (by decide)⟩
  rw [State.get_flag_other _ _ _ (.inl (by decide)), State.get_inc_same _ _ (Nat.le_refl _), State.accepted_global _ _ _ _ (by decide)]
  rfl

end Served

/-- A fresh ACK or RESPONSE that does not ask to retry ends the wait. -/
theorem ForModule.reply_fresh (hk : k = 3 ∨ k = 5) (hlook : (s.elapse dt).winLook f.src f.cls false f.seq = .fresh)
    (hstatus : leNat ((f.payload.drop 3).take 1) ≠ 3) (hwait : ∃ x ∈ s.fab.pend, Awaits f k x) :
    ∃ t, exec (if k = 3 then .fabAckReceived dt rx f else .fabResponseReceived dt rx f) s = .next t ∧
      t.emitted.head? = some (.fabUp { f with hc := f.hc + 1 }) ∧ ∀ x ∈ t.fab.pend, ¬ Awaits f k x := by
  obtain ⟨-, -, hpend, -, hemitted⟩ := (s.elapse dt).accepted_other rx f
  obtain ⟨x, hx, hawaits⟩ := hwait
  subst hkind
  obtain ⟨ws, cache, he⟩ := State.fabReply_ends (f := hopped f) h.unicast ((State.accepted_winLook ..).trans hlook) hstatus
    (List.any_eq_true.mpr ⟨x, hpend.symm ▸ hx, (awaitsReply_iff (hopped f) x).mpr hawaits⟩)
  refine ⟨_, h.exec_reply rfl hk dt, ?_⟩
  rw [he, State.settle_fab]
  refine ⟨State.settle_head (l := []) ?_, fun y hy hay => ?_⟩
  · rw [State.emit_emitted]
    exact congrArg (· ++ [.fabUp (hopped f)]) hemitted
  · have hstays := (List.mem_filter.mp hy).2
    rw [(awaitsReply_iff (hopped f) y).mpr hay] at hstays
    cases hstays

end Received

/-- Settles O47: each message is followed from its number to its answer through the queues, the retries and the windows. -/
theorem messagesAreDeliveredOnceAndAnswered : Obligations.MessagesAreDeliveredOnceAndAnswered := by
  unfold Obligations.MessagesAreDeliveredOnceAndAnswered
  intro s dt
  refine ⟨fun kind dst cls svc ack pl hkind hdst hcls hsvc hpl hlive => ⟨fun q hroute => ?_, ?_⟩,
    fun h kind dst cls svc ack pl => exec_idle (exec_fabDataSend dt kind dst cls svc ack pl s) (fabDataSend_silent (s := s.elapse dt) h ..),
    fun dst cls seq x hfind => ⟨exec_fabRetryExpiry_fails hfind, exec_fabRetryExpiry_repeats hfind⟩, fun rx f hok hdst huni hlive => ?_,
    fun p f rest hp hst => exec_egressDequeue_top hst, fun p h => exec_idle (exec_egressDequeue dt p s) (egressDequeue_idle (s := s.elapse dt) h),
    exec_responseCacheExpiry_frees dt s⟩
  · exact exec_fabDataSend_queues hkind hdst hcls hsvc hpl hlive hroute
  · exact exec_fabDataSend_noRoute hkind hdst hcls hsvc hpl hlive
  · have h : ForModule s rx f := ⟨hok, hdst, huni, hlive⟩
    exact ⟨fun k hk hkind hsvc hruns hfull => ⟨h.message_fresh hkind hk hsvc hruns hfull, h.message_dup hkind hk hsvc hruns hfull,
      h.message_full hkind hk hsvc hruns hfull⟩, fun k hk hkind => h.reply_fresh hkind hk⟩

end Sys2Proof.Machine
end

section
/-! Module time (R332, R335): what n clocks add to it, in one stretch or in two; O14. -/
namespace Sys2Proof.Machine

/-- What n clocks add to the fraction, in 2⁻³² ns: 4 ns and TIM_ADDEND each, and the slew's share in its direction (R332, R335). -/
def Clock.gain (c : Clock) (addend : Int) (n : Nat) : Int :=
  let sl : Int := (slewUnits (c.slewRun + min n c.slewLeft) : Int) - slewUnits c.slewRun
  (n : Int) * (4 * 2 ^ 32 + addend) + (if c.slewNeg then -sl else sl)

/-- The clock with its fraction counted up to t, which carries into the nanoseconds and these into the seconds. -/
def Clock.carry (c : Clock) (t : Nat) : Clock :=
  { c with sec := (c.sec + (c.ns + t / 2 ^ 32) / 10 ^ 9) % 2 ^ 48, ns := (c.ns + t / 2 ^ 32) % 10 ^ 9, frac := t % 2 ^ 32 }

/-- The clock with n more clocks counted, of slewing and of uptime. -/
def Clock.count (c : Clock) (n : Nat) : Clock :=
  { c with slewLeft := c.slewLeft - min n c.slewLeft, slewRun := c.slewRun + min n c.slewLeft, up := c.up + n }

theorem Clock.run_eq (c : Clock) (a : Int) (n : Nat) : c.run a n = (c.carry ((c.frac : Int) + c.gain a n).toNat).count n := rfl

/-- A slew adds at most 2²¹ units (of 2⁻³² ns) a clock, far less than the clock itself. -/
theorem slewUnits_bounds (r k : Nat) : slewUnits r ≤ slewUnits (r + k) ∧ slewUnits (r + k) ≤ slewUnits r + k * 2 ^ 21 := by
  unfold slewUnits
  omega

/-- Time never runs back, whatever the slew (R332, R335). -/
theorem Clock.gain_nonneg (c : Clock) {a : Int} (ha : -3435974 ≤ a) (n : Nat) : 0 ≤ c.gain a n := by
  obtain ⟨hlo, hhi⟩ := slewUnits_bounds c.slewRun (min n c.slewLeft)
  have hmin : min n c.slewLeft ≤ n := Nat.min_le_left ..
  have hmul : (n : Int) * 2 ^ 33 ≤ (n : Int) * (4 * 2 ^ 32 + a) := mul_le_mul_of_nonneg_left (by omega) (by omega)
  unfold Clock.gain
  generalize (n : Int) * (4 * 2 ^ 32 + a) = g at hmul ⊢
  dsimp only
  split <;> omega

/-- What m + n clocks add is what m add and what n more add to the clock then (R335: a slew included). -/
theorem Clock.gain_add (c : Clock) (a : Int) (m n : Nat) (t : Nat) :
    c.gain a (m + n) = c.gain a m + ((c.carry t).count m).gain a n := by
  have hk : c.slewRun + min (m + n) c.slewLeft = c.slewRun + min m c.slewLeft + min n (c.slewLeft - min m c.slewLeft) := by omega
  simp only [Clock.gain, Clock.count, Clock.carry, hk, Nat.cast_add]
  by_cases h : c.slewNeg = true
  · simp only [h, if_true]; ring
  · simp only [h, Bool.false_eq_true, if_false]; ring

/-- Counting the fraction up in one stretch or in two. -/
theorem Clock.carry_carry (c : Clock) (t u : Nat) : (c.carry t).carry (t % 2 ^ 32 + u) = c.carry (t + u) := by
  simp only [Clock.carry, Clock.mk.injEq, and_true]
  omega

theorem Clock.count_carry (c : Clock) (m t : Nat) : (c.count m).carry t = (c.carry t).count m := rfl

theorem Clock.count_count (c : Clock) (m n : Nat) : (c.count m).count n = c.count (m + n) := by
  simp only [Clock.count, Clock.mk.injEq, true_and]
  omega

theorem Clock.run_add (c : Clock) {a : Int} (ha : -3435974 ≤ a) (m n : Nat) : c.run a (m + n) = (c.run a m).run a n := by
  have hm := c.gain_nonneg ha m
  have hsum := c.gain_add a m n ((c.frac : Int) + c.gain a m).toNat
  have hn := ((c.carry ((c.frac : Int) + c.gain a m).toNat).count m).gain_nonneg ha n
  rw [c.run_eq a (m + n), Clock.run_eq (c.run a m), c.run_eq a m, Clock.count_carry, Clock.count_count, hsum]
  generalize ((c.carry ((c.frac : Int) + c.gain a m).toNat).count m).gain a n = g at hn
  change _ = ((c.carry _).carry ((((((c.frac : Int) + c.gain a m).toNat % 2 ^ 32 : Nat) : Int) + g).toNat)).count _
  rw [show ((((((c.frac : Int) + c.gain a m).toNat % 2 ^ 32 : Nat) : Int) + g).toNat) =
      ((c.frac : Int) + c.gain a m).toNat % 2 ^ 32 + g.toNat by omega,
    Clock.carry_carry, show ((c.frac : Int) + (c.gain a m + g)).toNat = ((c.frac : Int) + c.gain a m).toNat + g.toNat by omega]

/-- The fields stay in their ranges (R332). -/
theorem Clock.run_bounds (c : Clock) (a : Int) (n : Nat) :
    (c.run a n).ns < 10 ^ 9 ∧ (c.run a n).frac < 2 ^ 32 ∧ (c.run a n).sec < 2 ^ 48 ∧ (c.run a n).up = c.up + n :=
  ⟨Nat.mod_lt _ (by decide), Nat.mod_lt _ (by decide), Nat.mod_lt _ (by decide), rfl⟩

/-- Module time in 2⁻³² ns after a carry. -/
theorem Clock.carry_total (c : Clock) (t : Nat) :
    (c.carry t).total * 2 ^ 32 + (c.carry t).frac = (c.total * 2 ^ 32 + t) % (2 ^ 48 * 10 ^ 9 * 2 ^ 32) := by
  simp only [Clock.carry, Clock.total]
  omega

theorem Clock.gain_noSlew (c : Clock) (h : c.slewLeft = 0) (a : Int) (n : Nat) : c.gain a n = (n : Int) * (4 * 2 ^ 32 + a) := by
  simp [Clock.gain, h]

theorem Clock.run_total (c : Clock) (h : c.slewLeft = 0) {a : Int} (ha : -3435974 ≤ a) (n : Nat) :
    (((c.run a n).total * 2 ^ 32 + (c.run a n).frac : Nat) : Int) =
      (((c.total * 2 ^ 32 + c.frac : Nat) : Int) + (n : Int) * (4 * 2 ^ 32 + a)) % (2 ^ 48 * 10 ^ 9 * 2 ^ 32) := by
  have hpos := c.gain_nonneg ha n
  rw [c.gain_noSlew h] at hpos
  rw [c.run_eq, c.gain_noSlew h]
  change (((c.carry _).total * 2 ^ 32 + (c.carry _).frac : Nat) : Int) = _
  rw [c.carry_total, Int.natCast_emod, Nat.cast_add, Nat.cast_add, Int.toNat_of_nonneg (Int.add_nonneg (Int.natCast_nonneg _) hpos), add_assoc]
  rfl

/-- Settles O14: what the clocks add is telescoped by the slew's units, and a carry taken in two parts is a carry. -/
theorem moduleTimeRunsExactly : Obligations.ModuleTimeRunsExactly :=
  fun c a _ _ _ ha _ => ⟨c.run_add ha, c.run_bounds a, fun n h => c.run_total h ha n⟩

end Sys2Proof.Machine
end

section
/-! The reads of the clocks (R334, R357): the low part answered, the seconds latched for the requester; O7. -/
namespace Sys2Proof.Machine

variable {s : State} {dt : Nat} {rq : Rq}

theorem State.regRead_timNs (s : State) (rq : Rq) : s.regRead rq R.TIM_NS =
    ((s.setShadow rq.num R.TIM_SEC_LO (BitVec.ofNat 32 s.clock.sec)).setShadow rq.num R.TIM_SEC_HI (BitVec.ofNat 32 (s.clock.sec / 2 ^ 32)),
      BitVec.ofNat 32 s.clock.ns) := rfl

theorem State.regRead_rtcFrac (s : State) (rq : Rq) : s.regRead rq R.RTC_FRAC =
    ((s.setShadow rq.num R.RTC_SEC_LO (BitVec.ofNat 32 s.rtc.sec)).setShadow rq.num R.RTC_SEC_HI (BitVec.ofNat 32 (s.rtc.sec / 2 ^ 32)),
      BitVec.ofNat 32 s.rtcFrac) := rfl

/-- The registers of the clocks' seconds. -/
def secondsRegs : List Nat := [R.TIM_SEC_LO, R.TIM_SEC_HI, R.RTC_SEC_LO, R.RTC_SEC_HI]

/-- A register of seconds answers the requester's shadow and leaves it. -/
theorem State.regRead_seconds (s : State) (rq : Rq) {a : Nat} (ha : a ∈ secondsRegs) : s.regRead rq a = (s, (s.shadow rq.num a).getD 0) := by
  fin_cases ha <;> rfl

@[simp] theorem State.setShadow_emitted (s : State) (q k : Nat) (v : Word) : (s.setShadow q k v).emitted = s.emitted := rfl
@[simp] theorem State.setShadow_word (s : State) (q k j : Nat) (v : Word) : (s.setShadow q k v).word j = s.word j := rfl
@[simp] theorem State.emit_shadow (s : State) (e : Emit) (q k : Nat) : (s.emit e).shadow q k = s.shadow q k := rfl

/-- A performed read of a clock's low part, which takes the two words of its seconds into the requester's shadows. -/
theorem exec_clockRead {c : Instr} {a lo hi : Nat} {w x y : Word} (h : Reads s rq a)
    (he : exec c s = .next ((s.elapse dt).readOut rq 4 a).settle)
    (hread : (s.elapse dt).regRead rq a = (((s.elapse dt).setShadow rq.num lo x).setShadow rq.num hi y, w)) (hne : lo ≠ hi) :
    ∃ t, exec c s = .next t ∧ Answers t rq a w ∧ t.shadow rq.num lo = some x ∧ t.shadow rq.num hi = some y ∧
      (∀ q k, q ≠ rq.num → t.shadow q k = s.shadow q k) ∧ SameWords [] s t := by
  rw [State.readOut_of_reads (h.elapse dt), hread] at he
  refine ⟨_, he, answers_settle _ rq a w (by simp), ?_, ?_, fun q k hq => ?_, SameWords.settle fun k _ _ => by simp⟩ <;>
    rw [State.settle_shadow, State.emit_shadow]
  · rw [State.shadow_setShadow_ne _ _ _ _ _ _ (fun e => hne (congrArg Prod.snd e)), State.shadow_setShadow_same]
  · rw [State.shadow_setShadow_same]
  · have hother (j : Nat) : (q, k) ≠ (rq.num, j) := fun e => hq (congrArg Prod.fst e)
    rw [State.shadow_setShadow_ne _ _ _ _ _ _ (hother hi), State.shadow_setShadow_ne _ _ _ _ _ _ (hother lo)]
    rfl

/-- A performed read of a register of seconds. -/
theorem exec_readClear_seconds {a : Nat} (ha : a ∈ secondsRegs) (h : Reads s rq a) :
    ∃ t, exec (.readClear dt rq a) s = .next t ∧ Answers t rq a ((s.shadow rq.num a).getD 0) ∧ t.shadows = s.shadows := by
  refine ⟨_, exec_readClear_of_reads h dt, ?_, ?_⟩ <;> rw [State.regRead_seconds _ rq ha]
  · exact answers_settle _ rq a _ rfl
  · exact State.settle_shadows _

/-- Settles O7: both clocks are read by one rule, and their seconds answer the shadow. -/
theorem clockReadsLatchTheSecondsForTheirRequester : Obligations.ClockReadsLatchTheSecondsForTheirRequester :=
  fun s dt rq => ⟨fun h => exec_clockRead h rfl ((s.elapse dt).regRead_timNs rq) (by decide),
    fun h => exec_clockRead h rfl ((s.elapse dt).regRead_rtcFrac rq) (by decide), fun _ ha h => exec_readClear_seconds ha h⟩

end Sys2Proof.Machine
end

section
/-! A step of module time (R336, R337, R350, R352, R359): it shows in TIM and LPE, and what it does to the other units leaves the clock and those
fields alone. -/
namespace Sys2Proof.Machine

variable {s t u : State}

/-! ### What the effects of a step leave alone -/

/-- The fields in which a step of module time shows (R336), and their words. -/
def stepFields : List Fld := [F.TIM_ERR.STEP, F.TIM_STEP_CNT.COUNT, F.LPE_ERR.STEP, F.TIM_STAT.UNSET]
def stepKeys : List Nat := [R.TIM_ERR, R.TIM_STEP_CNT, R.LPE_ERR, R.TIM_STAT]

theorem stepFields_key : ∀ g ∈ stepFields, g.key ∈ stepKeys := by decide

/-- The fields that show a step, the clock and the servo's mark of its first offset are as before. -/
structure StepKeeps (s t : State) : Prop where
  fields : ∀ g ∈ stepFields, t.get g = s.get g
  clock : t.clock = s.clock
  first : t.tim.firstOffset = s.tim.firstOffset

namespace StepKeeps

theorem refl (s : State) : StepKeeps s s := ⟨fun _ _ => rfl, rfl, rfl⟩

theorem trans (h1 : StepKeeps s t) (h2 : StepKeeps t u) : StepKeeps s u :=
  ⟨fun g hg => (h2.fields g hg).trans (h1.fields g hg), h2.clock.trans h1.clock, h2.first.trans h1.first⟩

theorem of_words (hw : ∀ k ∈ stepKeys, t.word k = s.word k) (hc : t.clock = s.clock := by rfl)
    (hf : t.tim.firstOffset = s.tim.firstOffset := by rfl) : StepKeeps s t :=
  ⟨fun g hg => by unfold State.get; rw [hw _ (stepFields_key g hg)], hc, hf⟩

/-- A change of the units' own state. -/
theorem other (h : StepKeeps s t) (hw : u.words = t.words := by rfl) (hc : u.clock = t.clock := by rfl)
    (hf : u.tim.firstOffset = t.tim.firstOffset := by rfl) : StepKeeps s u :=
  h.trans (.of_words (fun k _ => by unfold State.word; rw [hw]) hc hf)

theorem set (h : StepKeeps s t) (f : Fld) (v : Nat) (hf : f.key ∉ stepKeys) : StepKeeps s (t.set f v) :=
  h.trans (.of_words fun k hk => t.word_set_other f v k (fun e => hf (e ▸ hk)))

theorem inc (h : StepKeeps s t) (f : Fld) (hf : f.key ∉ stepKeys) : StepKeeps s (t.inc f) := h.set f _ hf

theorem page (h : StepKeeps s t) (hp : PageOnly t u) (hw : u.words = t.words) : StepKeeps s u := by
  unfold PageOnly at hp
  exact h.other hw (by rw [hp]) (by rw [hp])

theorem ite {c : Prop} [Decidable c] (h1 : StepKeeps s t) (h2 : StepKeeps s u) : StepKeeps s (if c then t else u) := by
  split
  · exact h1
  · exact h2

/-- A step repeated over a list. -/
theorem foldl {α : Type} {f : State → α → State} (hf : ∀ u a, StepKeeps u (f u a)) (l : List α) (s : State) : StepKeeps s (l.foldl f s) := by
  induction l generalizing s with
  | nil => exact .refl s
  | cons a l ih => exact (hf s a).trans (ih (f s a))

end StepKeeps

/-! ### The launch queues (R336, R352) -/

/-- The registers of a launch queue lie above those that show a step. -/
theorem lq_notStepKeys (p : Nat) {o : Nat} (ho : 0x200 ≤ o) : 0x0E0000 + o + 0x20 * p ∉ stepKeys := by
  simp only [stepKeys, R.TIM_ERR, R.TIM_STEP_CNT, R.LPE_ERR, R.TIM_STAT, List.mem_cons, List.not_mem_nil, or_false]
  omega

theorem State.setLq_step (s : State) (p : Nat) (q : List Launch) : StepKeeps s (s.setLq p q) := by
  have hqueue : StepKeeps s { s with tim := if p = 0 then { s.tim with lq0 := q } else { s.tim with lq1 := q } } := by
    split
    · exact (StepKeeps.refl s).other
    · exact (StepKeeps.refl s).other
  exact hqueue.set (F.TIM_LQn_LVL.LEVEL p) _ (lq_notStepKeys p (o := 0x204) (by decide))

theorem State.pageWrite_step (s : State) (n off : Nat) (bs : List Byte) : StepKeeps s (s.pageWrite n off bs) :=
  (StepKeeps.refl s).page (s.pageWrite_only n off bs) (s.pageWrite_words n off bs)

theorem State.lateFrame_step (s : State) (p n : Nat) : StepKeeps s (s.lateFrame p n) := by
  have hflag : StepKeeps s (s.flag F.TIM_ERR.LQ_LATE) := ⟨fun g hg => s.get_flag_other _ g (by revert g; decide), rfl, rfl⟩
  have hsent (x : Nat × List Byte × Nat) : StepKeeps s (((s.flag F.TIM_ERR.LQ_LATE).fetchOut n).1.sspSend 4 n x.1 x.2.1) :=
    (hflag.trans (State.pageWrite_step ..)).other
  unfold State.lateFrame
  exact .ite (((hsent _).inc _ (lq_notStepKeys p (o := 0x20C) (by decide))).inc _ (lq_notStepKeys p (o := 0x208) (by decide)))
    (hflag.inc _ (lq_notStepKeys p (o := 0x210) (by decide)))

theorem State.dropLaunch_step (s : State) (n : Nat) : StepKeeps s (s.dropLaunch n) := by
  refine StepKeeps.foldl (fun u p => ?_) _ s
  split
  · exact .refl u
  · refine StepKeeps.trans ?_ (State.setLq_step ..)
    split
    · exact u.pageWrite_step ..
    · exact .refl u

theorem State.placeOut_step (s : State) (n : Nat) : StepKeeps s (s.placeOut n) := by
  unfold State.placeOut
  dsimp only
  split
  · split
    · exact .refl s
    · exact StepKeeps.trans (.ite (s.lateFrame_step ..) (.refl s)) (State.setLq_step ..)
  · exact .refl s

theorem State.replaceLaunches_step (s : State) : StepKeeps s s.replaceLaunches :=
  (StepKeeps.foldl State.dropLaunch_step _ s).trans (.foldl State.placeOut_step _ _)

theorem State.lateLaunches_step (s : State) : StepKeeps s s.lateLaunches :=
  StepKeeps.foldl (fun _ _ => .foldl (fun u _ => (u.setLq_step ..).trans (State.lateFrame_step ..)) _ _) _ s

/-! ### The action queue (R350) -/

theorem queueKey_notStepKeys : ∀ k ∈ stepKeys, ¬ queueKey k := by decide

theorem StepKeeps.of_queue (h : KeysOnly queueKey s t) (hc : t.clock = s.clock := by rfl)
    (hf : t.tim.firstOffset = s.tim.firstOffset := by rfl) : StepKeeps s t :=
  .of_words (fun k hk => h.words k (queueKey_notStepKeys k hk)) hc hf

theorem State.setActions_step (s : State) (l : List Action) : StepKeeps s (s.setActions l) := .of_queue (s.setActions_keys l)

theorem State.showCh_step (s : State) (c : Nat) : StepKeeps s (s.showCh c) := by
  refine .of_queue (s.showCh_keys c) ?_ ?_ <;> (unfold State.showCh; split <;> rfl)

theorem State.actionPast_step (s : State) (a : Action) : StepKeeps s (s.actionPast a) := by
  refine .of_queue (s.actionPast_keys a) ?_ ?_ <;> (unfold State.actionPast; dsimp only; split <;> rfl)

theorem State.actionsStep_step (s : State) : StepKeeps s s.actionsStep := by
  unfold State.actionsStep
  refine (s.setActions_step _).trans (StepKeeps.foldl (fun u a => ?_) _ _)
  refine (u.actionPast_step a).trans ?_
  dsimp only
  split
  · exact State.showCh_step ..
  · exact (StepKeeps.refl _).other

/-! ### The other units (R337, R359, R487, R492) -/

theorem stepKeys_log : ∀ k ∈ stepKeys, keyBlock k ∉ [19] ∧ k ∉ alarmKeys := by decide

theorem State.log_step (s : State) (src code index sev : Nat) : StepKeeps s (s.log src code index sev) := by
  have h := s.log_log src code index sev
  exact .of_words (fun k hk => h.words k (stepKeys_log k hk).1 (stepKeys_log k hk).2) (by rw [h.rest]) (by rw [h.rest])

theorem State.rtcStep_step (s : State) : StepKeeps s s.rtcStep :=
  .ite (((StepKeeps.refl s).other).set F.RTC_STAT.BUSY 1 (by decide)) (.refl s)

theorem State.stepTasks_step (s : State) (old : Nat) : StepKeeps s (s.stepTasks old) := .ite ((StepKeeps.refl s).other) (.refl s)

theorem stepKeys_notHqc : ∀ k ∈ stepKeys, ¬ (0x0B0100 ≤ k % 0x1000000 ∧ k % 0x1000000 < 0x0B0200) := by decide

theorem State.setHqcPt_step (s : State) (m : Nat) (x : HqcPt) : StepKeeps s (s.setHqcPt m x) := (StepKeeps.refl s).other

theorem State.hqcLatchPt_step (s : State) (m : Nat) : StepKeeps s (s.hqcLatchPt m) := by
  have honly := s.showLatch_onlyWords m (s.hqcPt m)
  have hshown : StepKeeps s (s.showLatch m (s.hqcPt m)) :=
    .of_words (fun k hk => honly.1 k (fun hin => stepKeys_notHqc k hk (mem_frozenKeys_hqc hin).2) (stepKeys_log k hk).2)
      (State.showLatch_clock ..) (by rw [honly.shallow])
  rw [State.hqcLatchPt_eq]
  exact hshown.trans (State.setHqcPt_step ..)

theorem State.hqcLatch_step (s : State) : StepKeeps s s.hqcLatch := by
  rw [State.hqcLatch_eq]
  exact (((StepKeeps.foldl State.hqcLatchPt_step _ s).set F.HQC_BILL_SEQ.SEQ _ (by decide)).set F.HQC_BILL_SEC.SEC _ (by decide)).other

theorem State.hqcTimeStep_step (s : State) : StepKeeps s s.hqcTimeStep := by
  have hrepeat (n : Nat) (u : State) : StepKeeps u (Nat.repeat State.hqcLatch n u) := by
    induction n with
    | zero => exact .refl u
    | succ n ih => exact ih.trans (State.hqcLatch_step _)
  unfold State.hqcTimeStep
  exact .ite (.refl s) (.ite (((StepKeeps.refl s).other).trans (hrepeat ..)) ((StepKeeps.refl s).other))

theorem State.recStep_step (s : State) (fwd : Bool) : StepKeeps s (s.recStep fwd) := (StepKeeps.refl s).other

/-! ### A step (R335, R336) -/

/-- The step in TIM's and LPE's words. -/
def State.showStep (s : State) : State := (((s.flag F.TIM_ERR.STEP).inc F.TIM_STEP_CNT.COUNT).flag F.LPE_ERR.STEP).set F.TIM_STAT.UNSET 0

/-- The effects on the units, from a step that shows, leave what shows it. -/
theorem State.afterStep_keeps (s : State) (old : Nat) : StepKeeps s.showStep (s.afterStep old) := by
  unfold State.afterStep
  extract_lets fwd s1 s2 s3 s4
  have h3 : StepKeeps s.showStep s3 := (s.showStep.log_step 14 0 0 4).trans (State.rtcStep_step _)
  have hforward := ((s3.stepTasks_step old).trans (State.actionsStep_step _)).trans (State.lateLaunches_step _)
  have hqueues : StepKeeps s3 s4 := .ite hforward s3.replaceLaunches_step
  exact ((h3.trans hqueues).trans s4.hqcTimeStep_step).trans (State.recStep_step _ fwd)

/-- A step of module time from s has been made: counted, flagged to TIM and LPE, and the time counts as set. -/
structure Stepped (s t : State) : Prop where
  clock : t.clock = s.clock
  first : t.tim.firstOffset = s.tim.firstOffset
  count : t.get F.TIM_STEP_CNT.COUNT = min (s.get F.TIM_STEP_CNT.COUNT + 1) 0xFFFFFFFF
  timErr : t.bit F.TIM_ERR.STEP = true
  lpeErr : t.bit F.LPE_ERR.STEP = true
  unset : t.bit F.TIM_STAT.UNSET = false

theorem State.showStep_stepped (s : State) : Stepped s s.showStep where
  clock := rfl
  first := rfl
  count := by
    unfold State.showStep
    rw [State.get_set_other _ _ _ _ (.inl (by decide)), State.get_flag_other _ _ _ (.inl (by decide)), State.get_inc_same _ _ (by decide),
      State.get_flag_other _ _ _ (.inl (by decide))]
    rfl
  timErr := by
    unfold State.showStep State.bit
    rw [State.get_set_other _ _ _ _ (.inl (by decide)), State.get_flag_other _ _ _ (.inl (by decide)), State.get_inc_other _ _ _ (.inl (by decide))]
    exact s.bit_flag_same _ rfl (by decide)
  lpeErr := by
    unfold State.showStep State.bit
    rw [State.get_set_other _ _ _ _ (.inl (by decide))]
    exact State.bit_flag_same _ _ rfl (by decide)
  unset := State.bit_set_zero _ R.TIM_STAT (by decide)

theorem Stepped.keeps (h : Stepped s t) (hk : StepKeeps t u) : Stepped s u where
  clock := hk.clock.trans h.clock
  first := hk.first.trans h.first
  count := (hk.fields _ (by decide)).trans h.count
  timErr := (State.bit_congr (hk.fields _ (by decide))).trans h.timErr
  lpeErr := (State.bit_congr (hk.fields _ (by decide))).trans h.lpeErr
  unset := (State.bit_congr (hk.fields _ (by decide))).trans h.unset

theorem State.afterStep_stepped (s : State) (old : Nat) : Stepped s (s.afterStep old) := s.showStep_stepped.keeps (s.afterStep_keeps old)

theorem StepKeeps.settle (s : State) : StepKeeps s s.settle :=
  .of_words (fun k hk => s.settle_word k (stepKeys_log k hk).2) s.settle_clock (by rw [s.settle_tim])

end Sys2Proof.Machine
end

section
/-! The writes that adjust module time (R332, R335 to R337); O48. -/
namespace Sys2Proof.Machine

variable {s : State} {dt : Nat} {rq : Rq} {v : Word}

/-! ### TIM's registers with a rule of their own -/

theorem State.timWrite_addend (s : State) (q k : Nat) (v : Word) : s.timWrite q k R.TIM_ADDEND v = timAddend v s := if_pos rfl

theorem State.timWrite_setLo (s : State) (q k : Nat) (v : Word) : s.timWrite q k R.TIM_SET_SEC_LO v = timSet v s := by
  rw [State.timWrite, if_neg (by decide), if_neg (by decide), if_neg (by decide), if_pos rfl]

theorem State.timWrite_step (s : State) (q k : Nat) (v : Word) : s.timWrite q k R.TIM_STEP v = timStep v s := by
  rw [State.timWrite, if_neg (by decide), if_neg (by decide), if_neg (by decide), if_neg (by decide), if_pos rfl]

theorem State.timWrite_slew (s : State) (q k : Nat) (v : Word) : s.timWrite q k R.TIM_SLEW v = timSlew v s := by
  rw [State.timWrite, if_neg (by decide), if_neg (by decide), if_neg (by decide), if_neg (by decide), if_neg (by decide), if_pos rfl]

/-- A command that is a performed write of a register of TIM with the rule f. -/
theorem exec_timWrite {c : Instr} {a : Nat} {f : Word → State → State} (h : Writes s rq a) (ha : a / 65536 = 0x0E)
    (hf : ∀ (u : State) q k, u.timWrite q k a v = f v u) (he : exec c s = .next ((s.elapse dt).busWrite rq 4 a v).settle) :
    exec c s = .next (f v (s.elapse dt)).settle := by
  rw [he, State.busWrite_of_writes (h.elapse dt)]
  simp only [State.regWrite, ha, hf]

theorem exec_timAddendWrite (h : Writes s rq R.TIM_ADDEND) (dt : Nat) (v : Word) :
    exec (.timAddendWrite dt rq v) s = .next (timAddend v (s.elapse dt)).settle :=
  exec_timWrite h rfl (fun u q k => u.timWrite_addend q k v) rfl

theorem exec_timSlewWrite (h : Writes s rq R.TIM_SLEW) (dt : Nat) (v : Word) :
    exec (.timSlewWrite dt rq v) s = .next (timSlew v (s.elapse dt)).settle :=
  exec_timWrite h rfl (fun u q k => u.timWrite_slew q k v) rfl

theorem exec_timStepWrite (h : Writes s rq R.TIM_STEP) (dt : Nat) (v : Word) :
    exec (.timStepWrite dt rq v) s = .next (timStep v (s.elapse dt)).settle :=
  exec_timWrite h rfl (fun u q k => u.timWrite_step q k v) rfl

theorem exec_timSetCommit (h : Writes s rq R.TIM_SET_SEC_LO) (dt : Nat) (v : Word) :
    exec (.timSetCommit dt rq v) s = .next (timSet v (s.elapse dt)).settle :=
  exec_timWrite h rfl (fun u q k => u.timWrite_setLo q k v) rfl

theorem exec_slewComplete (dt : Nat) (s : State) : exec (.slewComplete dt) s = .next (slewComplete (s.elapse dt)).settle := rfl

/-! ### Open and shut (R335) -/

theorem State.timGuard_open (h : s.timOpen = true) (f : State → State) : s.timGuard f = f s := if_pos h
theorem State.timGuard_shut (h : s.timOpen = false) (f : State → State) : s.timGuard f = s.flag F.TIM_ERR.SET_REJ := if_neg (by simp [h])

/-- In another SYNC state a write that adjusts module time only sets SET_REJ. -/
theorem exec_timGuard_shut {c : Instr} (h : s.timOpen = false) (f : State → State) (he : exec c s = .next ((s.elapse dt).timGuard f).settle) :
    ∃ t, exec c s = .next t ∧ t.bit F.TIM_ERR.SET_REJ = true ∧ OnlyWords [R.TIM_ERR] (s.elapse dt) t :=
  exec_setsFlag he (State.timGuard_shut (s := s.elapse dt) h f) rfl (by decide) (by decide)

/-! ### What each write does (R332, R335, R336) -/

/-- A slew is under way unless the amount is 0. -/
theorem slewing_iff (v : Word) : (v.toInt.natAbs * 2500 != 0) = decide (v ≠ 0) := by
  have hzero : v.toInt = 0 ↔ v = 0 := by rw [← BitVec.toInt_inj]; rfl
  rw [Bool.eq_iff_iff, bne_iff_ne, decide_eq_true_iff, ne_eq, ne_eq, ← hzero]
  omega

/-- The state with another clock. -/
def State.withClock (s : State) (c : Clock) : State := { s with clock := c }

/-- A command that moves module time in a step. -/
theorem exec_steps {c : Instr} {u : State} {k : Clock} {old : Nat} (he : exec c s = .next u.settle)
    (hu : u = ((s.elapse dt).withClock k).afterStep old) :
    ∃ t, exec c s = .next t ∧ t.clock = k ∧ t.get F.TIM_STEP_CNT.COUNT = min (s.get F.TIM_STEP_CNT.COUNT + 1) 0xFFFFFFFF ∧
      t.bit F.TIM_ERR.STEP = true ∧ t.bit F.LPE_ERR.STEP = true ∧ t.bit F.TIM_STAT.UNSET = false := by
  have h := (State.afterStep_stepped ((s.elapse dt).withClock k) old).keeps (.settle _)
  rw [← hu] at h
  exact ⟨_, he, h.clock, h.count, h.timErr, h.lpeErr, h.unset⟩

section Open
variable (hopen : s.timOpen = true)
include hopen

theorem timAddend_takes (hv : v.toInt.natAbs ≤ 3435974) : timAddend v s = s.setw F.TIM_ADDEND.ADDEND v :=
  (State.timGuard_open hopen _).trans (if_neg (by omega))

theorem timAddend_range (hv : 3435974 < v.toInt.natAbs) : timAddend v s = s.flag F.TIM_ERR.RANGE :=
  (State.timGuard_open hopen _).trans (if_pos hv)

theorem timSlew_starts (v : Word) : timSlew v s =
    (s.withClock { s.clock with slewLeft := v.toInt.natAbs * 2500, slewRun := 0, slewNeg := decide (v.toInt < 0) }).setBit F.TIM_STAT.SLEWING
      (decide (v ≠ 0)) := by
  rw [timSlew, State.timGuard_open hopen, ← slewing_iff]
  rfl

theorem timStep_steps (v : Word) : timStep v s = (s.withClock (s.clock.step v.toInt)).afterStep s.now := State.timGuard_open hopen _

theorem timSet_sets (v : Word) (hns : s.get F.TIM_SET_NS.NS < 10 ^ 9) : timSet v s =
    (s.withClock { s.clock with sec := v.toNat + 2 ^ 32 * s.get F.TIM_SET_SEC_HI.SEC, ns := s.get F.TIM_SET_NS.NS, frac := 0 }).afterStep s.now := by
  rw [timSet, State.timGuard_open hopen]
  exact if_neg (Nat.not_le.mpr hns)

theorem timSet_range (v : Word) (hns : 10 ^ 9 ≤ s.get F.TIM_SET_NS.NS) : timSet v s = s.flag F.TIM_ERR.RANGE := by
  rw [timSet, State.timGuard_open hopen]
  exact if_pos hns

theorem exec_timAddendWrite_takes (h : Writes s rq R.TIM_ADDEND) (hv : v.toInt.natAbs ≤ 3435974) :
    ∃ t, exec (.timAddendWrite dt rq v) s = .next t ∧ t.getw F.TIM_ADDEND.ADDEND = v ∧ OnlyWords [R.TIM_ADDEND] (s.elapse dt) t := by
  refine ⟨_, exec_timAddendWrite h dt v, ?_⟩
  rw [timAddend_takes (s := s.elapse dt) hopen hv, State.settle_getw_lt _ (by decide)]
  exact ⟨State.getw_setw_same _ _ v, (OnlyWords.set (.refl _ _) F.TIM_ADDEND.ADDEND _ (by decide)).settle⟩

theorem exec_timAddendWrite_range (h : Writes s rq R.TIM_ADDEND) (hv : 3435974 < v.toInt.natAbs) :
    ∃ t, exec (.timAddendWrite dt rq v) s = .next t ∧ t.bit F.TIM_ERR.RANGE = true ∧ OnlyWords [R.TIM_ERR] (s.elapse dt) t :=
  exec_setsFlag (exec_timAddendWrite h dt v) (timAddend_range (s := s.elapse dt) hopen hv) rfl (by decide) (by decide)

theorem exec_timSlewWrite_starts (h : Writes s rq R.TIM_SLEW) :
    ∃ t, exec (.timSlewWrite dt rq v) s = .next t ∧
      t.clock = { (s.elapse dt).clock with slewLeft := v.toInt.natAbs * 2500, slewRun := 0, slewNeg := decide (v.toInt < 0) } ∧
      t.bit F.TIM_STAT.SLEWING = decide (v ≠ 0) ∧ SameWords [R.TIM_STAT] s t := by
  refine ⟨_, exec_timSlewWrite h dt v, ?_⟩
  rw [timSlew_starts (s := s.elapse dt) hopen, State.settle_clock, State.settle_bit_lt _ (by decide)]
  refine ⟨rfl, State.bit_setBit_same _ _ _ (by decide) (by decide), SameWords.settle (.setBit ?_ F.TIM_STAT.SLEWING _ (by decide))⟩
  exact fun _ _ _ => rfl

theorem exec_timSetCommit_range (h : Writes s rq R.TIM_SET_SEC_LO) (hns : 10 ^ 9 ≤ s.get F.TIM_SET_NS.NS) :
    ∃ t, exec (.timSetCommit dt rq v) s = .next t ∧ t.bit F.TIM_ERR.RANGE = true ∧ OnlyWords [R.TIM_ERR] (s.elapse dt) t :=
  exec_setsFlag (exec_timSetCommit h dt v) (timSet_range (s := s.elapse dt) hopen v hns) rfl (by decide) (by decide)

end Open

/-! ### The end of a slew (R335) -/

theorem exec_slewComplete_done (h : (s.elapse dt).clock.slewLeft = 0) :
    ∃ t, exec (.slewComplete dt) s = .next t ∧ t.bit F.TIM_STAT.SLEWING = false ∧ OnlyWords [R.TIM_STAT] (s.elapse dt) t := by
  refine ⟨_, exec_slewComplete dt s, ?_⟩
  rw [slewComplete, if_pos h, State.settle_bit_lt _ (by decide)]
  exact ⟨State.bit_set_zero _ _ (by decide), (OnlyWords.set (.refl _ _) F.TIM_STAT.SLEWING _ (by decide)).settle⟩

/-- Settles O48: an open write by its own rule, a shut one by the guard, a step or a set by what every step of module time shows. -/
theorem moduleTimeIsAdjustedOnlyWhenOpen : Obligations.ModuleTimeIsAdjustedOnlyWhenOpen := by
  intro s dt
  refine ⟨fun rq v => ⟨fun hopen => ⟨fun h => ⟨exec_timAddendWrite_takes hopen h, exec_timAddendWrite_range hopen h⟩,
      exec_timSlewWrite_starts hopen, fun h => exec_steps (exec_timStepWrite h dt v) (timStep_steps (s := s.elapse dt) hopen v),
      fun h => ⟨fun hns => exec_steps (exec_timSetCommit h dt v) (timSet_sets (s := s.elapse dt) hopen v hns), exec_timSetCommit_range hopen h⟩⟩,
    fun hshut c a hc h => ?_⟩,
    exec_slewComplete_done, fun hleft => exec_idle (exec_slewComplete dt s) (if_neg hleft)⟩
  rcases hc with ⟨rfl, rfl⟩ | ⟨rfl, rfl⟩ | ⟨rfl, rfl⟩ | ⟨rfl, rfl⟩
  · exact exec_timGuard_shut hshut _ (exec_timAddendWrite h dt v)
  · exact exec_timGuard_shut hshut _ (exec_timSlewWrite h dt v)
  · exact exec_timGuard_shut hshut _ (exec_timStepWrite h dt v)
  · exact exec_timGuard_shut hshut _ (exec_timSetCommit h dt v)

end Sys2Proof.Machine
end

section
/-! What TIM_ACT_RES answers to a submission (R347, R348, R350). -/
namespace Sys2Proof.Machine

variable {s u : State} {dt : Nat} {rq : Rq} {v : Word} {ks : List Nat} {code : Nat}

theorem State.timWrite_submit (s : State) (q k : Nat) (v : Word) : s.timWrite q k R.TIM_ACT_SUBMIT v = actionSubmit v s := by
  rw [State.timWrite, if_neg (by decide), if_neg (by decide), if_neg (by decide), if_neg (by decide), if_neg (by decide), if_neg (by decide),
    if_pos rfl]

theorem exec_actionSubmit (h : Writes s rq R.TIM_ACT_SUBMIT) (dt : Nat) (v : Word) :
    exec (.actionSubmit dt rq v) s = .next (actionSubmit v (s.elapse dt)).settle :=
  exec_timWrite h rfl (fun u q k => u.timWrite_submit q k v) rfl

/-! ### TIM_ACT_RES -/

/-- A submission's result in TIM_ACT_RES. -/
def State.answerAct (s : State) (code handle : Nat) (late : Bool) : State :=
  ((s.set F.TIM_ACT_RES.CODE code).setBit F.TIM_ACT_RES.LATE late).set F.TIM_ACT_RES.HANDLE handle

theorem State.answerAct_code (s : State) {code : Nat} (hc : code < 16) (handle : Nat) (late : Bool) :
    (s.answerAct code handle late).get F.TIM_ACT_RES.CODE = code := by
  unfold State.answerAct
  rw [State.get_set_other _ _ _ _ (by decide), State.get_setBit_other _ _ _ _ (by decide)]
  exact s.get_set_fits _ (by decide) hc

theorem State.answerAct_handle (s : State) (code : Nat) {handle : Nat} (hh : handle < 2048) (late : Bool) :
    (s.answerAct code handle late).get F.TIM_ACT_RES.HANDLE = handle := State.get_set_fits _ _ (by decide) hh

theorem State.answerAct_late (s : State) (code handle : Nat) (late : Bool) : (s.answerAct code handle late).bit F.TIM_ACT_RES.LATE = late :=
  (State.bit_congr (State.get_set_other _ _ _ _ (by decide))).trans (State.bit_setBit_same _ _ _ (by decide) (by decide))

theorem State.answerAct_get (s : State) (code handle : Nat) (late : Bool) (f : Fld) (hf : f.key ≠ R.TIM_ACT_RES) :
    (s.answerAct code handle late).get f = s.get f :=
  ((State.get_set_other _ _ _ _ (.inl hf)).trans (State.get_setBit_other _ _ _ _ (.inl hf))).trans (State.get_set_other _ _ _ _ (.inl hf))

@[simp] theorem State.answerAct_tim (s : State) (code handle : Nat) (late : Bool) : (s.answerAct code handle late).tim = s.tim := rfl

theorem State.answerAct_onlyWords (s : State) (code handle : Nat) (late : Bool) : OnlyWords [R.TIM_ACT_RES] s (s.answerAct code handle late) :=
  (((OnlyWords.refl _ s).set F.TIM_ACT_RES.CODE _ (by decide)).setBit F.TIM_ACT_RES.LATE _ (by decide)).set F.TIM_ACT_RES.HANDLE _ (by decide)

/-! ### The queue's level -/

@[simp] theorem State.setActions_actions (s : State) (l : List Action) : (s.setActions l).tim.actions = l := rfl

/-- A change of the queue shows in TIM_ACT_LVL alone (R347). -/
theorem State.setActions_sameWords (s : State) (l : List Action) : SameWords [R.TIM_ACT_LVL] s (s.setActions l) := fun k hk _ => by
  have hne : k ≠ R.TIM_ACT_LVL := List.ne_of_not_mem_cons hk
  unfold State.setActions
  dsimp only
  rw [State.word_set_other _ _ _ _ hne, State.word_set_other _ _ _ _ hne]
  rfl

theorem SameWords.nextFree (h : SameWords ks s u) : SameWords ks s u.nextFree := h

/-! ### The handle (log entry 2) -/

theorem State.pickHandle_lt (s : State) : s.pickHandle < 2048 := by
  unfold State.pickHandle
  generalize hfound : List.find? _ _ = o
  cases o with
  | none => decide
  | some h =>
    obtain ⟨i, -, rfl⟩ := List.mem_map.mp (List.mem_of_find?_eq_some hfound)
    exact Nat.mod_lt _ (by decide)

theorem State.stagedAction_handle_lt (s : State) : s.stagedAction.handle < 2048 := by
  simp only [State.stagedAction]
  exact s.pickHandle_lt

/-! ### What is judged (R347, R348, R350) -/

/-- The checks of a submission in their order: the queue after it, and the code of TIM_ACT_RES. -/
def State.judgeAction (s : State) (a : Action) : State × Nat :=
  if s.svc ≠ 4 then (s, 5) else if s.badTarget a then (s, 4) else if s.badWriter a then (s, 3) else s.takeAction a

theorem actionSubmit_idle (h : v.getLsbD 0 = false) : actionSubmit v s = s := if_pos (by rw [h]; rfl)

/-- The result of a submission judged as r appears in TIM_ACT_RES. -/
def Action.result (a : Action) (now : Nat) (r : State × Nat) : State :=
  let late := decide (r.2 = 0) && decide (a.at < now)
  if r.2 = 0 then (r.1.answerAct r.2 a.handle late).nextFree else r.1.answerAct r.2 0 late

theorem actionSubmit_go (hgo : v.getLsbD 0 = true) : actionSubmit v s = s.stagedAction.result s.now (s.judgeAction s.stagedAction) :=
  if_neg (by rw [hgo]; exact Bool.false_ne_true)

theorem actionSubmit_refused (hgo : v.getLsbD 0 = true) (hj : s.judgeAction s.stagedAction = (u, code)) (hc : code ≠ 0) :
    actionSubmit v s = u.answerAct code 0 false := by
  rw [actionSubmit_go hgo, hj]
  simp [Action.result, hc]

theorem actionSubmit_taken (hgo : v.getLsbD 0 = true) (hj : s.judgeAction s.stagedAction = (u, 0)) :
    actionSubmit v s = (u.answerAct 0 s.stagedAction.handle (decide (s.stagedAction.at < s.now))).nextFree := by
  rw [actionSubmit_go hgo, hj]
  simp [Action.result]

/-- The three refusals that need no look at the queue. -/
theorem State.judgeAction_refused {a : Action} (h : code = 5 ∧ s.svc ≠ 4 ∨ code = 4 ∧ s.svc = 4 ∧ s.badTarget a = true ∨
    code = 3 ∧ s.svc = 4 ∧ s.badTarget a = false ∧ s.badWriter a = true) : s.judgeAction a = (s, code) ∧ code ≠ 0 ∧ code < 16 := by
  unfold State.judgeAction
  rcases h with ⟨rfl, hsvc⟩ | ⟨rfl, hsvc, ht⟩ | ⟨rfl, hsvc, ht, hw⟩
  · exact ⟨if_pos hsvc, by decide, by decide⟩
  · exact ⟨by simp [hsvc, ht], by decide, by decide⟩
  · exact ⟨by simp [hsvc, ht, hw], by decide, by decide⟩

theorem State.judgeAction_taken {a : Action} (hsvc : s.svc = 4) (ht : s.badTarget a = false) (hw : s.badWriter a = false) :
    s.judgeAction a = s.takeAction a := by simp [State.judgeAction, hsvc, ht, hw]

/-- Past beyond STALE: a host action is only counted. -/
theorem State.takeAction_past {a : Action} (hhost : a.origin = none) (h : a.at + a.staleNs < s.now) :
    s.takeAction a = (s.inc F.TIM_ACT_PAST_CNT.COUNT, 1) := by
  have hpast : (decide (a.at < s.now) && decide (a.staleNs < s.now - a.at)) = true := by
    simp only [Bool.and_eq_true, decide_eq_true_eq]
    omega
  unfold State.takeAction State.actionPast
  dsimp only
  rw [if_pos hpast, hhost]

/-- The host's actions have 1 024 places; those of trajectory application take none of them (R347). -/
theorem State.takeAction_full {a : Action} (hhost : a.origin = none) (h : s.now ≤ a.at + a.staleNs)
    (hfull : 1024 ≤ (s.tim.actions.filter (fun b => b.origin.isNone)).length) : s.takeAction a = (s, 2) := by
  have hpast : ¬ (decide (a.at < s.now) && decide (a.staleNs < s.now - a.at)) = true := by
    simp only [Bool.and_eq_true, decide_eq_true_eq]
    omega
  unfold State.takeAction
  dsimp only
  rw [if_neg hpast, hhost]
  simp [hfull]

theorem State.takeAction_queues {a : Action} (hhost : a.origin = none) (h : s.now ≤ a.at + a.staleNs)
    (hfree : (s.tim.actions.filter (fun b => b.origin.isNone)).length < 1024) :
    s.takeAction a = (s.setActions (insAction { a with late := decide (a.at < s.now) } s.tim.actions), 0) := by
  have hpast : ¬ (decide (a.at < s.now) && decide (a.staleNs < s.now - a.at)) = true := by
    simp only [Bool.and_eq_true, decide_eq_true_eq]
    omega
  unfold State.takeAction
  dsimp only
  rw [if_neg hpast, hhost]
  simp [hfree]

/-! ### A submission -/

/-- Time that passes leaves what is staged. -/
theorem State.elapse_stagedAction (s : State) (dt : Nat) : (s.elapse dt).stagedAction = s.stagedAction := rfl

/-- A submission that is refused with a code: it appears in TIM_ACT_RES, and of the rest only what the refusal counted changes. -/
theorem exec_actionSubmit_refuses (h : Writes s rq R.TIM_ACT_SUBMIT) (hgo : v.getLsbD 0 = true)
    (hj : (s.elapse dt).judgeAction s.stagedAction = (u, code)) (hc : code ≠ 0 ∧ code < 16) (hu : OnlyWords ks (s.elapse dt) u) :
    ∃ t, exec (.actionSubmit dt rq v) s = .next t ∧ t.get F.TIM_ACT_RES.CODE = code ∧ t.get F.TIM_ACT_RES.HANDLE = 0 ∧
      t.bit F.TIM_ACT_RES.LATE = false ∧ OnlyWords (R.TIM_ACT_RES :: ks) (s.elapse dt) t ∧
      t.get F.TIM_ACT_PAST_CNT.COUNT = u.get F.TIM_ACT_PAST_CNT.COUNT := by
  refine ⟨_, exec_actionSubmit h dt v, ?_⟩
  rw [actionSubmit_refused (s := s.elapse dt) hgo hj hc.1, State.settle_get_lt _ (by decide), State.settle_get_lt _ (by decide),
    State.settle_get_lt _ (by decide), State.settle_bit_lt _ (by decide)]
  have hall : OnlyWords (R.TIM_ACT_RES :: ks) (s.elapse dt) (u.answerAct code 0 false) := by
    refine ⟨fun k hk hal => ?_, Shallow.trans hu.shallow (u.answerAct_onlyWords code 0 false).shallow⟩
    obtain ⟨hres, hks⟩ := not_or.mp (fun hin => hk (List.mem_cons.mpr hin))
    exact ((u.answerAct_onlyWords code 0 false).1 k (by simpa using hres) hal).trans (hu.1 k hks hal)
  exact ⟨u.answerAct_code hc.2 0 false, u.answerAct_handle code (by decide) false, u.answerAct_late .., hall.settle,
    u.answerAct_get code 0 false _ (by decide)⟩

section Taken
variable (h : Writes s rq R.TIM_ACT_SUBMIT) (hgo : v.getLsbD 0 = true) (hsvc : s.svc = 4) (ht : s.badTarget s.stagedAction = false)
  (hw : s.badWriter s.stagedAction = false)
include h hgo hsvc ht hw

theorem exec_actionSubmit_past (hpast : s.stagedAction.at + s.stagedAction.staleNs < (s.elapse dt).now) :
    ∃ t, exec (.actionSubmit dt rq v) s = .next t ∧ t.get F.TIM_ACT_RES.CODE = 1 ∧
      t.get F.TIM_ACT_PAST_CNT.COUNT = min (s.get F.TIM_ACT_PAST_CNT.COUNT + 1) 0xFFFFFFFF ∧
      OnlyWords [R.TIM_ACT_RES, R.TIM_ACT_PAST_CNT] (s.elapse dt) t := by
  have hj := (State.judgeAction_taken (s := s.elapse dt) hsvc ht hw).trans (State.takeAction_past rfl hpast)
  obtain ⟨t, he, hcode, -, -, honly, hcount⟩ := exec_actionSubmit_refuses h hgo hj (by decide)
    ((OnlyWords.refl [R.TIM_ACT_PAST_CNT] (s.elapse dt)).set F.TIM_ACT_PAST_CNT.COUNT _ (by decide))
  exact ⟨t, he, hcode, hcount.trans (State.get_inc_same _ _ (by decide)), honly⟩

theorem exec_actionSubmit_full (hintime : (s.elapse dt).now ≤ s.stagedAction.at + s.stagedAction.staleNs)
    (hfull : 1024 ≤ (s.tim.actions.filter (fun b => b.origin.isNone)).length) :
    ∃ t, exec (.actionSubmit dt rq v) s = .next t ∧ t.get F.TIM_ACT_RES.CODE = 2 ∧ OnlyWords [R.TIM_ACT_RES] (s.elapse dt) t := by
  have hj := (State.judgeAction_taken (s := s.elapse dt) hsvc ht hw).trans (State.takeAction_full (s := s.elapse dt) rfl hintime hfull)
  obtain ⟨t, he, hcode, -, -, honly, -⟩ := exec_actionSubmit_refuses h hgo hj (by decide) (OnlyWords.refl [] _)
  exact ⟨t, he, hcode, honly⟩

theorem exec_actionSubmit_queues (hintime : (s.elapse dt).now ≤ s.stagedAction.at + s.stagedAction.staleNs)
    (hfree : (s.tim.actions.filter (fun b => b.origin.isNone)).length < 1024) :
    ∃ t, exec (.actionSubmit dt rq v) s = .next t ∧ t.get F.TIM_ACT_RES.CODE = 0 ∧ t.get F.TIM_ACT_RES.HANDLE = s.stagedAction.handle ∧
      t.bit F.TIM_ACT_RES.LATE = decide (s.stagedAction.at < (s.elapse dt).now) ∧ SameWords [R.TIM_ACT_RES, R.TIM_ACT_LVL] s t ∧
      t.tim.actions = insAction { s.stagedAction with late := decide (s.stagedAction.at < (s.elapse dt).now) } s.tim.actions := by
  have hj := (State.judgeAction_taken (s := s.elapse dt) hsvc ht hw).trans (State.takeAction_queues (s := s.elapse dt) rfl hintime hfree)
  have htaken := actionSubmit_taken (s := s.elapse dt) hgo hj
  rw [State.elapse_stagedAction, State.elapse_tim] at htaken
  have hlt := s.stagedAction_handle_lt
  generalize s.stagedAction = a at htaken hlt ⊢
  generalize hl : insAction _ _ = l at htaken ⊢
  refine ⟨_, exec_actionSubmit h dt v, ?_⟩
  rw [htaken, State.settle_get_lt _ (by decide), State.settle_get_lt _ (by decide), State.settle_bit_lt _ (by decide), State.nextFree_get,
    State.nextFree_get, State.nextFree_bit, State.settle_tim, State.nextFree_tim, State.answerAct_tim, State.setActions_actions]
  refine ⟨State.answerAct_code _ (by decide) .., State.answerAct_handle _ _ hlt _, State.answerAct_late .., SameWords.settle ?_, rfl⟩
  have hqueue : SameWords [R.TIM_ACT_RES, R.TIM_ACT_LVL] s ((s.elapse dt).setActions l) :=
    ((s.elapse dt).setActions_sameWords l).of_elapse.mono (by simp)
  exact (hqueue.trans ((State.answerAct_onlyWords ..).1.mono (by simp))).nextFree

end Taken

end Sys2Proof.Machine
end

section
/-! The execution of the first action (R349) and a withdrawal (R351); O50, O51. -/
namespace Sys2Proof.Machine

variable {s t u : State} {dt : Nat} {rq : Rq} {v : Word} {a : Action} {rest : List Action}

theorem exec_actionExecute (dt : Nat) (s : State) : exec (.actionExecute dt) s = .next (actionExecute (s.elapse dt)).settle := rfl

/-! ### What an action does to its target (R169, R349) -/

/-- A setpoint written by its writer, finite and in range, is the slot's. -/
theorem State.writeSp_takes {n src : Nat} {v : Word} (hsrc : s.get (T.LPE_SLOT.SP_SRC n) = src) (hfin : (f32val v).notFinite = false)
    (hlo : (f32val v).lt (f32val (s.getw (T.LPE_SLOT.SP_LO n))) = false)
    (hhi : (f32val (s.getw (T.LPE_SLOT.SP_HI n))).lt (f32val v) = false) :
    s.writeSp n src v = (s.setSlot n { s.slot n with sp := v }).setBit (F.LPn_STAT.SPCLMP n) false := by
  simp [State.writeSp, hsrc, hfin, hlo, hhi]

theorem State.writeSp_raise (s : State) {n : Nat} (hn : n < 4096) (src : Nat) (v : Word) : RaiseOnly s (s.writeSp n src v) := by
  unfold State.writeSp
  split
  · exact .flag _ _ (by decide)
  · split
    · exact .flag _ _ (by decide)
    · exact (RaiseOnly.setSlot ..).trans (.setBit _ (F.LPn_STAT.SPCLMP n) _ (lpn_block hn (k := 0x060104) (by decide) (by decide)))

/-- The target of an action is a loop, an axis, a station's output or none. -/
def State.actWrite (s : State) (a : Action) : State :=
  match a.kind with
  | 0 => s.writeSp (a.addr % 4096) 2 a.value
  | 1 => s.writeTarget (a.addr % 512) 3 (realToInt (-2147483648) 2147483647 a.value)
  | 2 => s.outField (a.addr / 4096 % 4096) (a.addr % 4096) a.dtype (.real a.value)
  | _ => s

/-- The event tasks of an action's tag. -/
def Action.releases (a : Action) (s : State) (n : Nat) : Bool := s.eventTask n 4 && s.get (T.PGR_TASK.SRC_IDX n) == a.tag

theorem State.actTarget_eq (s : State) (a : Action) :
    s.actTarget a = if a.kind = 3 || a.task then (s.actWrite a).releaseWhere a.releases else s.actWrite a := rfl

theorem State.actWrite_raise (s : State) (a : Action) : RaiseOnly s (s.actWrite a) := by
  unfold State.actWrite
  split
  · exact s.writeSp_raise (Nat.mod_lt _ (by decide)) ..
  · exact s.writeTarget_raise _ _ _ (Nat.mod_lt _ (by decide))
  · exact s.outField_raise ..
  · exact .refl s

theorem State.actTarget_raise (s : State) (a : Action) : RaiseOnly s (s.actTarget a) := by
  rw [State.actTarget_eq]
  split
  · exact (s.actWrite_raise a).trans (State.releaseWhere_raise ..)
  · exact s.actWrite_raise a

theorem State.actTarget_tim (s : State) (a : Action) : (s.actTarget a).tim = s.tim := by rw [(s.actTarget_raise a).rest]

theorem State.releaseEvent_lpe (s : State) (n : Nat) : (s.releaseEvent n).lpe = s.lpe := by
  unfold State.releaseEvent
  split
  · rfl
  · split
    · rfl
    · split <;> rfl

/-- Releasing event tasks is PGR's affair. -/
theorem State.releaseWhere_lpe (s : State) (p : State → Nat → Bool) : (s.releaseWhere p).lpe = s.lpe := by
  refine foldl_keeps State.lpe (fun u n => ?_) _ s
  split
  · exact u.releaseEvent_lpe n
  · rfl

theorem State.actTarget_lpe (s : State) (a : Action) : (s.actTarget a).lpe = (s.actWrite a).lpe := by
  rw [State.actTarget_eq]
  split
  · exact State.releaseWhere_lpe ..
  · rfl

/-- A setpoint of an action that its loop takes (R169, R349). -/
theorem State.actTarget_sp (hkind : a.kind = 0) (hsrc : s.get (T.LPE_SLOT.SP_SRC (a.addr % 4096)) = 2) (hfin : (f32val a.value).notFinite = false)
    (hlo : (f32val a.value).lt (f32val (s.getw (T.LPE_SLOT.SP_LO (a.addr % 4096)))) = false)
    (hhi : (f32val (s.getw (T.LPE_SLOT.SP_HI (a.addr % 4096)))).lt (f32val a.value) = false) :
    ((s.actTarget a).slot (a.addr % 4096)).sp = a.value := by
  have hwrite : s.actWrite a = s.writeSp (a.addr % 4096) 2 a.value := by
    rw [State.actWrite, hkind]
    rfl
  unfold State.slot
  rw [State.actTarget_lpe, hwrite, State.writeSp_takes hsrc hfin hlo hhi, State.setBit_lpe]
  exact congrArg Slot.sp ((look_store _ _ _ _ _).trans (if_pos rfl))

/-! ### Execution (R349) -/

/-- An execution is counted, a late one twice. -/
def State.countAction (s : State) (late : Bool) : State :=
  if late then (s.inc F.TIM_ACT_EXEC_CNT.COUNT).inc F.TIM_ACT_LATE_CNT.COUNT else s.inc F.TIM_ACT_EXEC_CNT.COUNT

theorem State.countAction_tim (s : State) (late : Bool) : (s.countAction late).tim = s.tim := by cases late <;> rfl
theorem State.countAction_lpe (s : State) (late : Bool) : (s.countAction late).lpe = s.lpe := by cases late <;> rfl

theorem State.countAction_exec (s : State) (late : Bool) :
    (s.countAction late).get F.TIM_ACT_EXEC_CNT.COUNT = min (s.get F.TIM_ACT_EXEC_CNT.COUNT + 1) 0xFFFFFFFF := by
  cases late with
  | false => exact s.get_inc_same _ (by decide)
  | true => exact (State.get_inc_other _ _ _ (.inl (by decide))).trans (s.get_inc_same _ (by decide))

theorem State.countAction_late (s : State) (late : Bool) :
    (s.countAction late).get F.TIM_ACT_LATE_CNT.COUNT = min (s.get F.TIM_ACT_LATE_CNT.COUNT + late.toNat) 0xFFFFFFFF := by
  have hother : (s.inc F.TIM_ACT_EXEC_CNT.COUNT).get F.TIM_ACT_LATE_CNT.COUNT = s.get F.TIM_ACT_LATE_CNT.COUNT :=
    s.get_inc_other _ _ (.inl (by decide))
  cases late with
  | false =>
    have hlt : s.get F.TIM_ACT_LATE_CNT.COUNT < 2 ^ 32 := s.get_lt _
    exact hother.trans (Nat.min_eq_left (Nat.le_of_lt_succ hlt)).symm
  | true => exact (State.get_inc_same _ _ (by decide)).trans (by rw [hother]; rfl)

theorem actionExecute_empty (h : s.tim.actions = []) : actionExecute s = s := by rw [actionExecute, h]

theorem actionExecute_early (h : s.tim.actions = a :: rest) (hat : s.now < a.at) : actionExecute s = s := by
  rw [actionExecute, h]
  exact if_pos hat

/-- A host action whose time has come. -/
theorem actionExecute_due (h : s.tim.actions = a :: rest) (hat : a.at ≤ s.now) (hhost : a.origin = none) :
    actionExecute s = ((s.setActions rest).actTarget a).countAction a.late := by
  rw [actionExecute, h]
  dsimp only
  rw [if_neg (Nat.not_lt.mpr hat), hhost]
  rfl

theorem State.setActions_get (s : State) (l : List Action) (f : Fld) (hf : f.key ≠ R.TIM_ACT_LVL) : (s.setActions l).get f = s.get f :=
  (State.get_set_other _ _ _ _ (.inl hf)).trans (State.get_set_other _ _ _ _ (.inl hf))

/-- The queue's counts are not the target's. -/
theorem State.acted_get (s : State) (a : Action) (l : List Action) {f : Fld} (hf : ¬ raiseHits f.key) (hlvl : f.key ≠ R.TIM_ACT_LVL) :
    ((s.setActions l).actTarget a).get f = s.get f := by
  have htarget : ((s.setActions l).actTarget a).get f = (s.setActions l).get f := by
    unfold State.get
    rw [((s.setActions l).actTarget_raise a).words _ hf]
  exact htarget.trans (s.setActions_get l f hlvl)

/-- A host action whose time has come leaves the queue, is counted, and gives its loop a setpoint in range. -/
theorem exec_actionExecute_due (h : s.tim.actions = a :: rest) (hat : a.at ≤ (s.elapse dt).now) (hhost : a.origin = none) :
    ∃ t, exec (.actionExecute dt) s = .next t ∧ t.tim.actions = rest ∧
      t.get F.TIM_ACT_EXEC_CNT.COUNT = min (s.get F.TIM_ACT_EXEC_CNT.COUNT + 1) 0xFFFFFFFF ∧
      t.get F.TIM_ACT_LATE_CNT.COUNT = min (s.get F.TIM_ACT_LATE_CNT.COUNT + a.late.toNat) 0xFFFFFFFF ∧
      (a.kind = 0 → s.get (T.LPE_SLOT.SP_SRC (a.addr % 4096)) = 2 → (f32val a.value).notFinite = false →
        (f32val a.value).lt (f32val (s.getw (T.LPE_SLOT.SP_LO (a.addr % 4096)))) = false →
        (f32val (s.getw (T.LPE_SLOT.SP_HI (a.addr % 4096)))).lt (f32val a.value) = false → (t.slot (a.addr % 4096)).sp = a.value) := by
  have hdue := actionExecute_due (s := s.elapse dt) h hat hhost
  have hslot (f : Fld) (hf : tabKey 6 0 ≤ f.key) : ((s.elapse dt).setActions rest).get f = s.get f :=
    State.setActions_get _ _ _ (by unfold tabKey at hf; simp only [R.TIM_ACT_LVL]; omega)
  refine ⟨_, exec_actionExecute dt s, ?_⟩
  rw [hdue, State.settle_get_lt _ (by decide), State.settle_get_lt _ (by decide), State.settle_tim, State.countAction_tim, State.countAction_exec,
    State.countAction_late, State.actTarget_tim, State.acted_get _ _ _ (by decide) (by decide), State.acted_get _ _ _ (by decide) (by decide)]
  refine ⟨rfl, rfl, rfl, fun hkind hsrc hfin hlo hhi => ?_⟩
  have hle (o : Nat) : tabKey 6 0 ≤ tabKey 6 o := by unfold tabKey; omega
  unfold State.slot
  rw [State.settle_lpe, State.countAction_lpe]
  exact State.actTarget_sp hkind ((hslot _ (hle _)).trans hsrc) hfin (by rw [State.getw_congr (hslot _ (hle _))]; exact hlo)
    (by rw [State.getw_congr (hslot _ (hle _))]; exact hhi)

/-- Settles O50: a submission by the checks in their order, the first action by what its target can do. -/
theorem scheduledActionsAreTakenAndExecuted : Obligations.ScheduledActionsAreTakenAndExecuted := by
  intro s dt
  refine ⟨fun rq v h => ⟨fun hgo => exec_idle (exec_actionSubmit h dt v) (actionSubmit_idle hgo), fun hgo => ⟨fun code hcode => ?_,
      fun hsvc ht hw => ⟨exec_actionSubmit_past h hgo hsvc ht hw, fun hintime => ⟨exec_actionSubmit_full h hgo hsvc ht hw hintime,
        exec_actionSubmit_queues h hgo hsvc ht hw hintime⟩⟩⟩⟩,
    fun hempty => exec_idle (exec_actionExecute dt s) (actionExecute_empty (s := s.elapse dt) hempty),
    fun a rest hq => ⟨fun hat => exec_idle (exec_actionExecute dt s) (actionExecute_early (s := s.elapse dt) hq hat),
      exec_actionExecute_due hq⟩⟩
  obtain ⟨hj, hc⟩ := State.judgeAction_refused (s := s.elapse dt) hcode
  obtain ⟨t, he, hres, hhandle, hlate, honly, -⟩ := exec_actionSubmit_refuses h hgo hj hc (OnlyWords.refl [] _)
  exact ⟨t, he, hres, hhandle, hlate, honly⟩

/-! ### Withdrawal (R351) -/

theorem State.timWrite_withdraw (s : State) (q k : Nat) (v : Word) : s.timWrite q k R.TIM_ACT_WDRAW v = actionWithdraw v s := by
  rw [State.timWrite, if_neg (by decide), if_neg (by decide), if_neg (by decide), if_neg (by decide), if_neg (by decide), if_neg (by decide),
    if_neg (by decide), if_pos rfl]

theorem exec_actionWithdraw (h : Writes s rq R.TIM_ACT_WDRAW) (dt : Nat) (v : Word) :
    exec (.actionWithdraw dt rq v) s = .next (actionWithdraw v (s.elapse dt)).settle :=
  exec_timWrite h rfl (fun u q k => u.timWrite_withdraw q k v) rfl

/-- A pending host action of the handle written. -/
abbrev withdrawn (v : Word) (a : Action) : Bool := a.origin.isNone && a.handle == v.toNat % 2048

theorem actionWithdraw_takes (h : s.tim.actions.any (withdrawn v) = true) :
    actionWithdraw v s = s.setActions (s.tim.actions.filter (fun a => !withdrawn v a)) := if_pos h

theorem actionWithdraw_none (h : s.tim.actions.any (withdrawn v) = false) : actionWithdraw v s = s.flag F.TIM_ERR.WDRAW :=
  if_neg (by rw [h]; exact Bool.false_ne_true)

theorem exec_actionWithdraw_takes (hw : Writes s rq R.TIM_ACT_WDRAW) (h : s.tim.actions.any (withdrawn v) = true) :
    ∃ t, exec (.actionWithdraw dt rq v) s = .next t ∧ t.tim.actions = s.tim.actions.filter (fun a => !withdrawn v a) ∧
      SameWords [R.TIM_ACT_LVL] s t ∧ ∀ a ∈ s.tim.actions, a.origin.isSome = true → a ∈ t.tim.actions := by
  refine ⟨_, exec_actionWithdraw hw dt v, ?_⟩
  rw [actionWithdraw_takes (s := s.elapse dt) h, State.settle_tim, State.setActions_actions, State.elapse_tim]
  refine ⟨rfl, ((s.elapse dt).setActions_sameWords _).of_elapse.settle, fun a ha horigin => List.mem_filter.mpr ⟨ha, ?_⟩⟩
  obtain ⟨x, hx⟩ := Option.isSome_iff_exists.mp horigin
  simp [withdrawn, hx]

theorem exec_actionWithdraw_none (hw : Writes s rq R.TIM_ACT_WDRAW) (h : s.tim.actions.any (withdrawn v) = false) :
    ∃ t, exec (.actionWithdraw dt rq v) s = .next t ∧ t.bit F.TIM_ERR.WDRAW = true ∧ OnlyWords [R.TIM_ERR] (s.elapse dt) t :=
  exec_setsFlag (exec_actionWithdraw hw dt v) (actionWithdraw_none (s := s.elapse dt) h) rfl (by decide) (by decide)

/-- Settles O51: a withdrawal filters the queue, and after the action's execution no other of its handle is pending. -/
theorem aWithdrawalTakesAPendingActionOrIsFlagged : Obligations.AWithdrawalTakesAPendingActionOrIsFlagged := by
  intro s dt rq v
  refine ⟨fun hw => ⟨exec_actionWithdraw_takes hw, exec_actionWithdraw_none hw⟩, fun a rest hq hhost hhandle hat hothers => ?_⟩
  obtain ⟨t, he, hrest, hcount, -, -⟩ := exec_actionExecute_due hq hat hhost
  refine ⟨t, he, hcount, fun hw => ?_⟩
  have hnone : t.tim.actions.any (withdrawn v) = false := by
    rw [hrest, List.any_eq_false]
    intro b hb hc
    simp only [withdrawn, Bool.and_eq_true, Option.isNone_iff_eq_none, beq_iff_eq] at hc
    exact hothers b hb hc.1 (hc.2.trans hhandle.symm)
  obtain ⟨u, hu, hflag, honly⟩ := exec_actionWithdraw_none (dt := 0) hw hnone
  refine ⟨u, hu, hflag, ?_⟩
  rw [honly.shallow]
  exact hrest

end Sys2Proof.Machine
end

section
/-! PTP messages that a port sends, answers and only counts (R338, R340, R343). -/
namespace Sys2Proof.Machine

variable {s t u : State} {dt p q : Nat} {h : PtpHead} {es fs : List Emit} {e : Emit}

theorem exec_ptpSyncReceived (dt : Nat) (h : PtpHead) (rx : Nat) (s : State) :
    exec (.ptpSyncReceived dt h rx) s = .next (ptpSync h rx (s.elapse dt)).settle := rfl
theorem exec_ptpFollowUpReceived (dt : Nat) (h : PtpHead) (o : Nat) (corr : Int) (eg : List (Nat × Nat)) (s : State) :
    exec (.ptpFollowUpReceived dt h o corr eg) s = .next (ptpFollowUp h o corr eg (s.elapse dt)).settle := rfl
theorem exec_ptpPdelayReqReceived (dt : Nat) (h : PtpHead) (rx tx : Nat) (s : State) :
    exec (.ptpPdelayReqReceived dt h rx tx) s = .next (pdelayReq h rx tx (s.elapse dt)).settle := rfl
theorem exec_ptpPdelayRespReceived (dt : Nat) (h : PtpHead) (t2 t3 rx : Nat) (s : State) :
    exec (.ptpPdelayRespReceived dt h t2 t3 rx) s = .next (pdelayResp h t2 t3 rx (s.elapse dt)).settle := rfl
theorem exec_ptpAnnounceReceived (dt : Nat) (h : PtpHead) (a : PtpAnnounce) (s : State) :
    exec (.ptpAnnounceReceived dt h a) s = .next (ptpAnnounce h a (s.elapse dt)).settle := rfl
theorem exec_ptpDelayReqReceived (dt : Nat) (h : PtpHead) (rx : Nat) (s : State) :
    exec (.ptpDelayReqReceived dt h rx) s = .next (ptpDelayReq h rx (s.elapse dt)).settle := rfl
theorem exec_ptpPdelaySend (dt p tx : Nat) (s : State) : exec (.ptpPdelaySend dt p tx) s = .next (pdelaySend p tx (s.elapse dt)).settle := rfl
theorem exec_ptpSyncSend (dt p tx : Nat) (s : State) : exec (.ptpSyncSend dt p tx) s = .next (ptpSyncSend p tx (s.elapse dt)).settle := rfl
theorem exec_ptpAnnounceSend (dt p : Nat) (s : State) : exec (.ptpAnnounceSend dt p) s = .next (ptpAnnounceSend p (s.elapse dt)).settle := rfl
theorem exec_followUpTimeout (dt p : Nat) (s : State) : exec (.followUpTimeout dt p) s = .next (followUpTimeout p (s.elapse dt)).settle := rfl
theorem exec_announceTimeout (dt p : Nat) (s : State) : exec (.announceTimeout dt p) s = .next (announceTimeout p (s.elapse dt)).settle := rfl

/-! ### A port's exchanges -/

theorem State.ptp_setPtp (s : State) (p q : Nat) (x : PtpPort) : (s.setPtp p x).ptp q = if q = p then x else s.ptp q := look_store _ p q x _

@[simp] theorem State.ptp_setPtp_same (s : State) (p : Nat) (x : PtpPort) : (s.setPtp p x).ptp p = x := by rw [State.ptp_setPtp, if_pos rfl]

theorem State.ptp_congr (h : t.tim.ports = s.tim.ports) (p : Nat) : t.ptp p = s.ptp p := by unfold State.ptp; rw [h]

@[simp] theorem State.settle_ptp (s : State) (p : Nat) : s.settle.ptp p = s.ptp p := State.ptp_congr (by rw [s.settle_tim]) p

theorem SameWords.setPtp {ks : List Nat} (h : SameWords ks s t) (p : Nat) (x : PtpPort) : SameWords ks s (t.setPtp p x) := h

/-! ### Messages that leave (R308, R338) -/

/-- The messages es left on port p: of TIM nothing changed, and of the words at most the fabric port's count. -/
structure PtpSent (p : Nat) (es : List Emit) (s t : State) : Prop where
  emitted : t.emitted = s.emitted ++ es
  tim : t.tim = s.tim
  words : SameWords [R.PORTn_TX_CNT p] s t

/-- A PTP message with a time in ns. -/
def ptpMessage (p mtype seq : Nat) (corr t : Int) : Emit := .ptp p mtype seq corr (t / 10 ^ 9).toNat (t % 10 ^ 9).toNat

theorem State.fabSent_sent (s : State) (p : Nat) : PtpSent p [] s (s.fabSent p) :=
  ⟨(List.append_nil _).symm, rfl, fun k hk _ => State.word_set_other _ _ _ k (List.ne_of_not_mem_cons hk)⟩

theorem PtpSent.emit (hs : PtpSent p es s t) (e : Emit) : PtpSent p (es ++ [e]) s (t.emit e) :=
  ⟨by rw [State.emit_emitted, hs.emitted, List.append_assoc], hs.tim, hs.words⟩

theorem PtpSent.trans (h1 : PtpSent p es s t) (h2 : PtpSent p fs t u) : PtpSent p (es ++ fs) s u :=
  ⟨by rw [h2.emitted, h1.emitted, List.append_assoc], h2.tim.trans h1.tim, h1.words.trans h2.words⟩

theorem PtpSent.refl (p : Nat) (s : State) : PtpSent p [] s s := ⟨(List.append_nil _).symm, rfl, .refl _ s⟩

/-- Any message leaves a fabric port counted. -/
theorem State.emit_counted (s : State) (p : Nat) (e : Emit) : PtpSent p [e] s ((if p < 4 then s.fabSent p else s).emit e) := by
  split
  · exact (s.fabSent_sent p).emit e
  · exact (PtpSent.refl p s).emit e

theorem State.ptpSend_sent (s : State) (p mtype seq : Nat) (corr t : Int) :
    PtpSent p [ptpMessage p mtype seq corr t] s (s.ptpSend p mtype seq corr t) := s.emit_counted p _

theorem State.ptpSend_pair (s : State) (p m1 m2 seq : Nat) (c1 c2 t1 t2 : Int) :
    PtpSent p [ptpMessage p m1 seq c1 t1, ptpMessage p m2 seq c2 t2] s ((s.ptpSend p m1 seq c1 t1).ptpSend p m2 seq c2 t2) :=
  (s.ptpSend_sent ..).trans (State.ptpSend_sent ..)

/-- What went outwards before the end of a command comes first. -/
theorem State.settle_take {es : List Emit} (h : s.emitted = es) : s.settle.emitted.take es.length = es := by
  obtain ⟨l, hl⟩ := s.settle_emitted
  rw [hl, h, List.take_left]

theorem head?_of_take_one {l : List Emit} (h : l.take 1 = [e]) : l.head? = some e := by
  cases l with
  | nil => cases h
  | cons x l => simpa using h

/-- A command that sends messages and takes note of it in the port's exchanges. -/
theorem exec_sends {c : Instr} {x : PtpPort} (he : exec c s = .next (u.setPtp p x).settle) (hs : PtpSent p es (s.elapse dt) u) :
    ∃ t, exec c s = .next t ∧ t.emitted.take es.length = es ∧ t.ptp p = x ∧ SameWords [R.PORTn_TX_CNT p] s t :=
  ⟨_, he, State.settle_take hs.emitted, by rw [State.settle_ptp, State.ptp_setPtp_same], (hs.words.of_elapse.setPtp p x).settle⟩

/-! ### Messages that are only counted (R338) -/

section Ignored
variable (hp : h.port < 4) (hfab : s.ptpFab h.port = true) (hign : s.ptpIgnored h = true)
include hfab hign

theorem pdelayReq_ignored (rx tx : Nat) : pdelayReq h rx tx s = s.ptpIgnore := by simp [pdelayReq, hfab, hign]
theorem pdelayResp_ignored (t2 t3 rx : Nat) : pdelayResp h t2 t3 rx s = s.ptpIgnore := by simp [pdelayResp, hfab, hign]

include hp

theorem ptpSync_ignored (rx : Nat) : ptpSync h rx s = s.ptpIgnore := by simp [ptpSync, hp, hfab, hign]
theorem ptpFollowUp_ignored (o : Nat) (corr : Int) (eg : List (Nat × Nat)) : ptpFollowUp h o corr eg s = s.ptpIgnore := by
  simp [ptpFollowUp, hp, hfab, hign]
theorem ptpAnnounce_ignored (a : PtpAnnounce) : ptpAnnounce h a s = s.ptpIgnore := by simp [ptpAnnounce, hp, hfab, hign]

/-- A message of another domain or kind is only counted. -/
theorem exec_ptpIgnored {c : Instr} (hc : (∃ rx, c = .ptpSyncReceived dt h rx) ∨ (∃ o q e, c = .ptpFollowUpReceived dt h o q e) ∨
      (∃ rx tx, c = .ptpPdelayReqReceived dt h rx tx) ∨ (∃ a b rx, c = .ptpPdelayRespReceived dt h a b rx) ∨
      (∃ a, c = .ptpAnnounceReceived dt h a)) :
    ∃ t, exec c s = .next t ∧ OnlyWords [R.TIM_PTP_IGN_CNT] (s.elapse dt) t ∧
      t.get F.TIM_PTP_IGN_CNT.COUNT = min (s.get F.TIM_PTP_IGN_CNT.COUNT + 1) 0xFFFFFFFF := by
  have hcounts {u : State} (he : exec c s = .next u.settle) (hu : u = (s.elapse dt).ptpIgnore) := exec_counts he hu (by decide)
  rcases hc with ⟨rx, rfl⟩ | ⟨o, q, eg, rfl⟩ | ⟨rx, tx, rfl⟩ | ⟨a, b, rx, rfl⟩ | ⟨a, rfl⟩
  · exact hcounts (exec_ptpSyncReceived ..) (ptpSync_ignored (s := s.elapse dt) hp hfab hign rx)
  · exact hcounts (exec_ptpFollowUpReceived ..) (ptpFollowUp_ignored (s := s.elapse dt) hp hfab hign o q eg)
  · exact hcounts (exec_ptpPdelayReqReceived ..) (pdelayReq_ignored (s := s.elapse dt) hfab hign rx tx)
  · exact hcounts (exec_ptpPdelayRespReceived ..) (pdelayResp_ignored (s := s.elapse dt) hfab hign a b rx)
  · exact hcounts (exec_ptpAnnounceReceived ..) (ptpAnnounce_ignored (s := s.elapse dt) hp hfab hign a)

end Ignored

/-! ### Link delay: sent and answered (R338, R343) -/

theorem pdelaySend_sends (hfab : s.ptpFab p = true) (tx : Nat) : pdelaySend p tx s =
    (s.ptpSend p 2 (s.ptp p).txPd 0 0).setPtp p
      { s.ptp p with pd := some ((s.ptp p).txPd, s.egress p tx), txPd := ((s.ptp p).txPd + 1) % 65536 } := if_neg (by simp [hfab])

theorem exec_ptpPdelaySend_sends (hfab : s.ptpFab p = true) (tx : Nat) :
    ∃ t, exec (.ptpPdelaySend dt p tx) s = .next t ∧ t.emitted.head? = some (.ptp p 2 (s.ptp p).txPd 0 0 0) ∧
      t.ptp p = { s.ptp p with pd := some ((s.ptp p).txPd, s.egress p tx), txPd := ((s.ptp p).txPd + 1) % 65536 } ∧
      SameWords [R.PORTn_TX_CNT p] s t := by
  have he := exec_ptpPdelaySend dt p tx s
  rw [pdelaySend_sends (s := s.elapse dt) hfab] at he
  obtain ⟨t, ht, hemit, hport, hwords⟩ := exec_sends he (State.ptpSend_sent ..)
  exact ⟨t, ht, head?_of_take_one hemit, hport, hwords⟩

theorem pdelayReq_answers (hfab : s.ptpFab h.port = true) (hign : s.ptpIgnored h = false) (rx tx : Nat) : pdelayReq h rx tx s =
    (s.ptpSend h.port 3 h.seq 0 (s.ingress h.port rx)).ptpSend h.port 10 h.seq 0 (s.egress h.port tx) := by simp [pdelayReq, hfab, hign]

theorem exec_ptpPdelayReqReceived_answers (hfab : s.ptpFab h.port = true) (hign : s.ptpIgnored h = false) (rx tx : Nat) :
    ∃ t, exec (.ptpPdelayReqReceived dt h rx tx) s = .next t ∧ SameWords [R.PORTn_TX_CNT h.port] s t ∧ t.emitted.take 2 =
      [.ptp h.port 3 h.seq 0 (s.ingress h.port rx / 10 ^ 9).toNat (s.ingress h.port rx % 10 ^ 9).toNat,
        .ptp h.port 10 h.seq 0 (s.egress h.port tx / 10 ^ 9).toNat (s.egress h.port tx % 10 ^ 9).toNat] := by
  have he := exec_ptpPdelayReqReceived dt h rx tx s
  have hsent := (s.elapse dt).ptpSend_pair h.port 3 10 h.seq 0 0 (s.ingress h.port rx) (s.egress h.port tx)
  rw [pdelayReq_answers (s := s.elapse dt) hfab hign] at he
  exact ⟨_, he, hsent.words.of_elapse.settle, State.settle_take hsent.emitted⟩

/-! ### Station ports (R340) -/

theorem State.ptpStn_port (hstn : s.ptpStn p = true) : 4 ≤ p := by
  simp only [State.ptpStn, Bool.and_eq_true, Bool.or_eq_true, beq_iff_eq] at hstn
  omega

/-- An Announce from a station is refused and counted. -/
theorem exec_ptpAnnounceReceived_station (hstn : s.ptpStn h.port = true) (a : PtpAnnounce) :
    ∃ t, exec (.ptpAnnounceReceived dt h a) s = .next t ∧ t.bit F.TIM_ERR.ANN_STN = true ∧
      t.get F.TIM_PTP_IGN_CNT.COUNT = min (s.get F.TIM_PTP_IGN_CNT.COUNT + 1) 0xFFFFFFFF ∧
      OnlyWords [R.TIM_ERR, R.TIM_PTP_IGN_CNT] (s.elapse dt) t := by
  have hrefused : ptpAnnounce h a (s.elapse dt) = (s.elapse dt).ptpIgnore.flag F.TIM_ERR.ANN_STN :=
    (if_pos (State.ptpStn_port hstn)).trans (if_pos hstn)
  refine ⟨_, exec_ptpAnnounceReceived dt h a s, ?_⟩
  rw [hrefused, State.settle_bit_lt _ (by decide), State.settle_get_lt _ (by decide), State.get_flag_other _ _ _ (.inl (by decide))]
  refine ⟨State.bit_flag_same _ _ rfl (by decide), State.get_inc_same _ _ (by decide), ?_⟩
  exact (((OnlyWords.refl _ _).set F.TIM_PTP_IGN_CNT.COUNT _ (by decide)).flag F.TIM_ERR.ANN_STN (by decide)).settle

theorem exec_ptpDelayReqReceived_answers (hstn : s.ptpStn h.port = true) (hign : s.ptpIgnored h = false) (rx : Nat) :
    ∃ t, exec (.ptpDelayReqReceived dt h rx) s = .next t ∧ OnlyWords [] (s.elapse dt) t ∧
      t.emitted.head? = some (.ptp h.port 9 h.seq 0 (s.ingress h.port rx / 10 ^ 9).toNat (s.ingress h.port rx % 10 ^ 9).toNat) := by
  have hport := State.ptpStn_port hstn
  have hanswer : ptpDelayReq h rx (s.elapse dt) = (s.elapse dt).emit (ptpMessage h.port 9 h.seq 0 (s.ingress h.port rx)) := by
    have hstn' : (s.elapse dt).ptpStn h.port = true := hstn
    have hign' : (s.elapse dt).ptpIgnored h = false := hign
    simp only [ptpDelayReq, hstn', hign', State.ptpSend, if_neg (Nat.not_lt.mpr hport)]
    rfl
  refine ⟨_, exec_ptpDelayReqReceived dt h rx s, ?_⟩
  rw [hanswer]
  exact ⟨((OnlyWords.refl _ _).emit _).settle, State.settle_head (l := []) rfl⟩

/-! ### Ports that serve time (R338) -/

theorem ptpSyncSend_sends (hserves : s.serves p = true) (tx : Nat) : ptpSyncSend p tx s =
    ((s.ptpSend p 0 (s.ptp p).txSync 0 0).ptpSend p 8 (s.ptp p).txSync 0 (s.egress p tx)).setPtp p
      { s.ptp p with txSync := ((s.ptp p).txSync + 1) % 65536 } := if_neg (by simp [hserves])

theorem exec_ptpSyncSend_sends (hserves : s.serves p = true) (tx : Nat) :
    ∃ t, exec (.ptpSyncSend dt p tx) s = .next t ∧ t.ptp p = { s.ptp p with txSync := ((s.ptp p).txSync + 1) % 65536 } ∧
      t.emitted.take 2 = [.ptp p 0 (s.ptp p).txSync 0 0 0,
        .ptp p 8 (s.ptp p).txSync 0 (s.egress p tx / 10 ^ 9).toNat (s.egress p tx % 10 ^ 9).toNat] := by
  have he := exec_ptpSyncSend dt p tx s
  rw [ptpSyncSend_sends (s := s.elapse dt) hserves] at he
  obtain ⟨t, ht, hemit, hport, -⟩ := exec_sends he (State.ptpSend_pair ..)
  exact ⟨t, ht, hport, hemit⟩

theorem ptpAnnounceSend_sends (hserves : s.serves p = true) : ptpAnnounceSend p s =
    ((if p < 4 then s.fabSent p else s).emit (.announce p (s.ptp p).txAnn s.announced (s.get F.TIM_UTC_OFS.OFS) (s.bit F.TIM_UTC_OFS.VALID))).setPtp p
      { s.ptp p with txAnn := ((s.ptp p).txAnn + 1) % 65536 } := if_neg (by simp [hserves])

theorem exec_ptpAnnounceSend_sends (hserves : s.serves p = true) :
    ∃ t, exec (.ptpAnnounceSend dt p) s = .next t ∧ t.ptp p = { s.ptp p with txAnn := ((s.ptp p).txAnn + 1) % 65536 } ∧
      t.emitted.head? = some (.announce p (s.ptp p).txAnn s.announced (s.get F.TIM_UTC_OFS.OFS) (s.bit F.TIM_UTC_OFS.VALID)) := by
  have he := exec_ptpAnnounceSend dt p s
  rw [ptpAnnounceSend_sends (s := s.elapse dt) hserves] at he
  obtain ⟨t, ht, hemit, hport, -⟩ := exec_sends he (State.emit_counted ..)
  exact ⟨t, ht, hport, head?_of_take_one hemit⟩

theorem ptpSyncSend_silent (h : s.serves p = false) (tx : Nat) : ptpSyncSend p tx s = s := if_pos (by simp [h])
theorem ptpAnnounceSend_silent (h : s.serves p = false) : ptpAnnounceSend p s = s := if_pos (by simp [h])

end Sys2Proof.Machine
end

section
/-! The choice of a parent (R339, R341): the masters that Announce qualifies, and the loss of the parent. -/
namespace Sys2Proof.Machine

variable {s t u : State} {dt p : Nat} {h : PtpHead} {a : PtpAnnounce}

/-! ### What the decision algorithm leaves alone (R339) -/

/-- The masters heard, the ports' exchanges and TIM_ERR are as before. -/
structure PeersKept (s t : State) : Prop where
  masters : t.tim.masters = s.tim.masters
  ports : t.tim.ports = s.tim.ports
  err : t.word R.TIM_ERR = s.word R.TIM_ERR

namespace PeersKept

theorem refl (s : State) : PeersKept s s := ⟨rfl, rfl, rfl⟩

theorem trans (h1 : PeersKept s t) (h2 : PeersKept t u) : PeersKept s u :=
  ⟨h2.masters.trans h1.masters, h2.ports.trans h1.ports, h2.err.trans h1.err⟩

theorem set (h : PeersKept s t) (f : Fld) (v : Nat) (hf : R.TIM_ERR ≠ f.key) : PeersKept s (t.set f v) :=
  h.trans ⟨rfl, rfl, t.word_set_other f v _ hf⟩

theorem syncTo (h : PeersKept s t) (v : Nat) : PeersKept s (t.syncTo v) := h.trans ⟨rfl, rfl, State.word_set_other _ _ _ _ (by decide)⟩

theorem ite {c : Prop} [Decidable c] (h1 : PeersKept s t) (h2 : PeersKept s u) : PeersKept s (if c then t else u) := by
  split
  · exact h1
  · exact h2

/-- The states of a list of ports are written. -/
theorem pstates (h : PeersKept s t) (v : State → Nat → Nat) (l : List Nat) :
    PeersKept s (l.foldl (fun u q => u.set (F.TIM_PORTn_STAT.PSTATE q) (v u q)) t) := by
  induction l generalizing t with
  | nil => exact h
  | cons q l ih => exact ih (h.set _ _ (by simp only [R.TIM_ERR, R.TIM_PORTn_STAT]; omega))

end PeersKept

/-- What the algorithm decides without a parent: whether the module is grandmaster, SLAVE_PORT shown as none. -/
def State.shownAlone (s : State) : State := s.set F.TIM_STAT.SLAVE_PORT 7

/-- The parent and its grandmaster in the registers. -/
def State.shownParent (s : State) (p id : Nat) : State :=
  ((s.set F.TIM_STAT.SLAVE_PORT p).set F.TIM_GM_LO.ID (id % 2 ^ 32)).set F.TIM_GM_HI.ID (id / 2 ^ 32)

/-- The module itself as grandmaster in the registers. -/
def State.shownSelf (s : State) (id : Nat) : State :=
  ((s.shownAlone.set F.TIM_GM_LO.ID (id % 2 ^ 32)).set F.TIM_GM_HI.ID (id / 2 ^ 32)).set F.TIM_STAT.SYNC 4

/-- The outcomes of the algorithm: a parent followed or chosen anew, the module grandmaster, holdover, or running free. -/
theorem State.bmca_cases (s : State) (lost : Bool) : ∃ w, PeersKept s w ∧
    ((lost = false ∧ ∃ p id, s.bmca lost = w.shownParent p id) ∨ (∃ p id, s.bmca lost = (w.shownParent p id).syncTo 1) ∨
      (∃ id, s.bmca lost = w.shownSelf id) ∨ s.bmca lost = w.shownAlone.set F.TIM_STAT.SYNC 3 ∨
      (lost = false ∧ s.bmca lost = w.shownAlone.set F.TIM_STAT.SYNC 0)) := by
  unfold State.bmca
  extract_lets own fab ownBetter best gm was sync s1 s2
  have hkept : PeersKept s s2 := ((PeersKept.refl s).pstates (fun u q => u.portDecision q best gm) (List.range 4)).pstates
    (fun u q => if u.ptpStn q then 2 else 0) [4, 5]
  clear_value s2 s1 gm best
  refine ⟨s2, hkept, ?_⟩
  cases best with
  | some e =>
    dsimp only
    split
    · next hsame =>
      simp only [Bool.and_eq_true, Bool.not_eq_true'] at hsame
      exact .inl ⟨hsame.2, e.1, e.2.identity, rfl⟩
    · exact .inr (.inl ⟨e.1, e.2.identity, rfl⟩)
  | none =>
    dsimp only
    split
    · exact .inr (.inr (.inl ⟨_, rfl⟩))
    · split
      · exact .inr (.inr (.inr (.inl rfl)))
      · next hfree =>
        simp only [Bool.or_eq_true, not_or, Bool.not_eq_true] at hfree
        exact .inr (.inr (.inr (.inr ⟨hfree.1, rfl⟩)))

theorem PeersKept.shownAlone (h : PeersKept s t) : PeersKept s t.shownAlone := h.set _ _ (by decide)

theorem PeersKept.shownParent (h : PeersKept s t) (p id : Nat) : PeersKept s (t.shownParent p id) :=
  ((h.set F.TIM_STAT.SLAVE_PORT _ (by decide)).set F.TIM_GM_LO.ID _ (by decide)).set F.TIM_GM_HI.ID _ (by decide)

theorem State.bmca_keeps (s : State) (lost : Bool) : PeersKept s (s.bmca lost) := by
  obtain ⟨w, hw, ⟨-, p, id, he⟩ | ⟨p, id, he⟩ | ⟨id, he⟩ | he | ⟨-, he⟩⟩ := s.bmca_cases lost <;> rw [he]
  · exact hw.shownParent p id
  · exact (hw.shownParent p id).syncTo 1
  · exact ((hw.shownAlone.set F.TIM_GM_LO.ID _ (by decide)).set F.TIM_GM_HI.ID _ (by decide)).set F.TIM_STAT.SYNC _ (by decide)
  · exact hw.shownAlone.set F.TIM_STAT.SYNC _ (by decide)
  · exact hw.shownAlone.set F.TIM_STAT.SYNC _ (by decide)

/-- After the loss of the parent another is acquired, or the module is grandmaster or holds over (R341). -/
theorem State.bmca_lost_sync (s : State) :
    (s.bmca true).get F.TIM_STAT.SYNC = 1 ∨ (s.bmca true).get F.TIM_STAT.SYNC = 3 ∨ (s.bmca true).get F.TIM_STAT.SYNC = 4 := by
  have hsync (u : State) {v : Nat} (hv : v < 8) : (u.set F.TIM_STAT.SYNC v).get F.TIM_STAT.SYNC = v := u.get_set_fits _ (by decide) hv
  obtain ⟨w, -, ⟨hlost, -⟩ | ⟨p, id, he⟩ | ⟨id, he⟩ | he | ⟨hlost, -⟩⟩ := s.bmca_cases true
  · cases hlost
  · exact .inl (by rw [he]; exact hsync _ (by decide))
  · exact .inr (.inr (by rw [he]; exact hsync _ (by decide)))
  · exact .inr (.inl (by rw [he]; exact hsync _ (by decide)))
  · cases hlost

theorem State.bmca_ptp (s : State) (lost : Bool) (q : Nat) : (s.bmca lost).ptp q = s.ptp q := State.ptp_congr (s.bmca_keeps lost).ports q

/-! ### Announce (R338, R339) -/

/-- The port notes the sender of an Announce and when it was heard. -/
def State.heardFrom (s : State) (p sender : Nat) : State := s.setPtp p { s.ptp p with once := some (sender, s.clock.up) }

/-- The sender is the port's qualified master. -/
def State.qualifyMaster (s : State) (p : Nat) (a : PtpAnnounce) : State :=
  { s with tim := { s.tim with masters := put p a s.tim.masters } }

section Announce
variable (hp : h.port < 4) (hfab : s.ptpFab h.port = true) (hign : s.ptpIgnored h = false)
include hp hfab hign

theorem ptpAnnounce_own (a : PtpAnnounce) (ha : a.sender = s.devid ∨ 255 ≤ a.steps) : ptpAnnounce h a s = s := by
  have hown : (decide (a.sender = s.devid) || decide (255 ≤ a.steps)) = true := by simpa using ha
  unfold ptpAnnounce
  rw [if_neg (Nat.not_le.mpr hp), if_neg (by simp [hfab]), if_neg (by simp [hign]), if_pos hown]

theorem ptpAnnounce_first (hs : a.sender ≠ s.devid) (hsteps : a.steps < 255) (hnone : s.tim.masters.lookup h.port = none)
    (honce : (s.ptp h.port).once = none) : ptpAnnounce h a s = s.heardFrom h.port a.sender := by
  have hown : (decide (a.sender = s.devid) || decide (255 ≤ a.steps)) = false := by
    simp only [Bool.or_eq_false_iff, decide_eq_false_iff_not]
    exact ⟨hs, by omega⟩
  unfold ptpAnnounce
  rw [if_neg (Nat.not_le.mpr hp), if_neg (by simp [hfab]), if_neg (by simp [hign]), if_neg (by simp [hown])]
  simp only [hnone, honce]
  rfl

theorem ptpAnnounce_again (hs : a.sender ≠ s.devid) (hsteps : a.steps < 255) {x : Nat} (honce : (s.ptp h.port).once = some (a.sender, x))
    (hx : s.clock.up - x ≤ 1000000000) : ptpAnnounce h a s = ((s.heardFrom h.port a.sender).qualifyMaster h.port a).bmca false := by
  have hown : (decide (a.sender = s.devid) || decide (255 ≤ a.steps)) = false := by
    simp only [Bool.or_eq_false_iff, decide_eq_false_iff_not]
    exact ⟨hs, by omega⟩
  unfold ptpAnnounce
  rw [if_neg (Nat.not_le.mpr hp), if_neg (by simp [hfab]), if_neg (by simp [hign]), if_neg (by simp [hown])]
  dsimp only
  rw [if_pos (by simp [honce, hx])]
  rfl

theorem exec_ptpAnnounceReceived_first (hs : a.sender ≠ s.devid) (hsteps : a.steps < 255) (hnone : s.tim.masters.lookup h.port = none)
    (honce : (s.ptp h.port).once = none) :
    ∃ t, exec (.ptpAnnounceReceived dt h a) s = .next t ∧
      t.ptp h.port = { s.ptp h.port with once := some (a.sender, (s.elapse dt).clock.up) } ∧ t.tim.masters = s.tim.masters ∧
      SameWords [] s t := by
  have hfirst := ptpAnnounce_first (s := s.elapse dt) hp hfab hign hs hsteps hnone honce
  refine ⟨_, exec_ptpAnnounceReceived dt h a s, ?_⟩
  rw [hfirst, State.settle_ptp, State.settle_tim, State.heardFrom, State.ptp_setPtp_same]
  exact ⟨rfl, rfl, (SameWords.setPtp (SameWords.refl [] (s.elapse dt)).of_elapse _ _).settle⟩

theorem exec_ptpAnnounceReceived_again (hs : a.sender ≠ s.devid) (hsteps : a.steps < 255) {x : Nat}
    (honce : (s.ptp h.port).once = some (a.sender, x)) (hx : (s.elapse dt).clock.up - x ≤ 1000000000) :
    ∃ t, exec (.ptpAnnounceReceived dt h a) s = .next t ∧ t.tim.masters.lookup h.port = some a := by
  have hagain := ptpAnnounce_again (s := s.elapse dt) hp hfab hign hs hsteps honce hx
  refine ⟨_, exec_ptpAnnounceReceived dt h a s, ?_⟩
  rw [hagain, State.settle_tim, (State.bmca_keeps _ false).masters]
  exact lookup_put_same h.port a _

end Announce

/-! ### A master is gone (R341) -/

/-- The port forgets its master and what was under way. -/
def State.forget (s : State) (p : Nat) : State :=
  ({ s with tim := { s.tim with masters := s.tim.masters.filter (fun e => e.1 != p) } }).setPtp p ptpPort0

theorem State.forget_masters (s : State) (p : Nat) : (s.forget p).tim.masters.lookup p = none := lookup_filter_same p _
theorem State.forget_ptp (s : State) (p : Nat) : (s.forget p).ptp p = ptpPort0 := State.ptp_setPtp_same ..
theorem State.forget_bit (s : State) (p : Nat) (f : Fld) : (s.forget p).bit f = s.bit f := rfl

theorem State.masterGone_parent (hp : s.get F.TIM_STAT.SLAVE_PORT = p) :
    s.masterGone p = ((s.forget p).flag F.TIM_ERR.PARENT_LOST).bmca true := by
  unfold State.masterGone
  simp only [beq_iff_eq.mpr hp]
  rfl

theorem State.masterGone_other (hp : s.get F.TIM_STAT.SLAVE_PORT ≠ p) : s.masterGone p = (s.forget p).bmca false := by
  unfold State.masterGone
  simp only [beq_eq_false_iff_ne.mpr hp]
  rfl

/-- A port whose master is gone is forgotten, the parent's loss flagged. -/
structure MasterGone (p : Nat) (s t : State) : Prop where
  masters : t.tim.masters.lookup p = none
  ptp : t.ptp p = ptpPort0
  parent : s.get F.TIM_STAT.SLAVE_PORT = p → t.bit F.TIM_ERR.PARENT_LOST = true ∧
    (t.get F.TIM_STAT.SYNC = 1 ∨ t.get F.TIM_STAT.SYNC = 3 ∨ t.get F.TIM_STAT.SYNC = 4)
  other : s.get F.TIM_STAT.SLAVE_PORT ≠ p → t.bit F.TIM_ERR.PARENT_LOST = s.bit F.TIM_ERR.PARENT_LOST

theorem PeersKept.bit (h : PeersKept s t) {f : Fld} (hf : f.key = R.TIM_ERR) : t.bit f = s.bit f :=
  State.bit_congr (by unfold State.get; rw [hf, h.err])

theorem State.masterGone_gone (s : State) (p : Nat) : MasterGone p s (s.masterGone p) := by
  by_cases hp : s.get F.TIM_STAT.SLAVE_PORT = p
  · have hk := State.bmca_keeps ((s.forget p).flag F.TIM_ERR.PARENT_LOST) true
    rw [State.masterGone_parent hp]
    refine ⟨by rw [hk.masters]; exact s.forget_masters p, ?_, fun _ => ⟨?_, State.bmca_lost_sync _⟩, fun hne => absurd hp hne⟩
    · rw [State.bmca_ptp]
      exact s.forget_ptp p
    · exact (hk.bit rfl).trans (State.bit_flag_same _ _ rfl (by decide))
  · have hk := State.bmca_keeps (s.forget p) false
    rw [State.masterGone_other hp]
    refine ⟨by rw [hk.masters]; exact s.forget_masters p, by rw [State.bmca_ptp]; exact s.forget_ptp p, fun heq => absurd heq hp, fun _ => ?_⟩
    exact (hk.bit rfl).trans (s.forget_bit p _)

theorem exec_announceTimeout_forgets (hp : p < 4) :
    ∃ t, exec (.announceTimeout dt p) s = .next t ∧ t.tim.masters.lookup p = none ∧ t.ptp p = ptpPort0 ∧
      (s.get F.TIM_STAT.SLAVE_PORT = p → t.bit F.TIM_ERR.PARENT_LOST = true ∧
        (t.get F.TIM_STAT.SYNC = 1 ∨ t.get F.TIM_STAT.SYNC = 3 ∨ t.get F.TIM_STAT.SYNC = 4)) ∧
      (s.get F.TIM_STAT.SLAVE_PORT ≠ p → t.bit F.TIM_ERR.PARENT_LOST = s.bit F.TIM_ERR.PARENT_LOST) := by
  have hgone := (s.elapse dt).masterGone_gone p
  refine ⟨_, exec_announceTimeout dt p s, ?_⟩
  rw [announceTimeout, if_pos hp, State.settle_tim, State.settle_ptp, State.settle_bit_lt _ (by decide), State.settle_get_lt _ (by decide)]
  exact ⟨hgone.masters, hgone.ptp, hgone.parent, hgone.other⟩

end Sys2Proof.Machine
end

section
/-! Sync and Follow_Up on the slave port, the servo, and the link delay (R341, R343, R345); O49. -/
namespace Sys2Proof.Machine

variable {s t u : State} {dt p q : Nat} {h : PtpHead} {off : Int}

/-! ### Sync (R341, R345) -/

theorem exec_followUpTimeout_drops (s : State) (dt p : Nat) :
    ∃ t, exec (.followUpTimeout dt p) s = .next t ∧ t.ptp p = { s.ptp p with sync := none } ∧ SameWords [] s t := by
  refine ⟨_, exec_followUpTimeout dt p s, ?_⟩
  rw [followUpTimeout, State.settle_ptp, State.ptp_setPtp_same]
  exact ⟨rfl, (SameWords.setPtp (SameWords.refl [] (s.elapse dt)).of_elapse _ _).settle⟩

/-- A Sync that came in on port p goes on to port q where that is another port with its link up. -/
def State.forwardTo (s : State) (p seq q : Nat) : State :=
  if q ≠ p ∧ s.portPresent q ∧ s.fpState q = 3 then s.ptpSend q 0 seq 0 0 else s

def State.forwardSync (s : State) (p seq : Nat) (qs : List Nat) : State := qs.foldl (fun u q => u.forwardTo p seq q) s

/-- TIM's state and what decides where a Sync goes are as before; what went outwards stays. -/
structure Forwarded (s t : State) : Prop where
  tim : t.tim = s.tim
  variant : t.variant = s.variant
  link : ∀ q, q < 4 → t.fpState q = s.fpState q
  emitted : ∀ e ∈ s.emitted, e ∈ t.emitted

theorem Forwarded.refl (s : State) : Forwarded s s := ⟨rfl, rfl, fun _ _ => rfl, fun _ he => he⟩

theorem Forwarded.trans (h1 : Forwarded s t) (h2 : Forwarded t u) : Forwarded s u :=
  ⟨h2.tim.trans h1.tim, h2.variant.trans h1.variant, fun q hq => (h2.link q hq).trans (h1.link q hq), fun e he => h2.emitted e (h1.emitted e he)⟩

theorem Forwarded.portPresent (h : Forwarded s t) (q : Nat) : t.portPresent q = s.portPresent q := by unfold State.portPresent; rw [h.variant]

theorem State.ptpSend_variant (s : State) (p mtype seq : Nat) (corr x : Int) : (s.ptpSend p mtype seq corr x).variant = s.variant := by
  unfold State.ptpSend
  split <;> rfl

theorem fpState_key_lt (hq : q < 4) : (F.PORTn_STAT.STATE q).key < 0x100000 := by
  simp only [R.PORTn_STAT]
  omega

/-- The link states lie outside the counts of frames sent. -/
theorem fpState_key_ne (p q : Nat) : (F.PORTn_STAT.STATE p).key ≠ R.PORTn_TX_CNT q := by
  simp only [R.PORTn_STAT, R.PORTn_TX_CNT]
  omega

theorem State.ptpSend_forwarded (s : State) (p mtype seq : Nat) (corr x : Int) : Forwarded s (s.ptpSend p mtype seq corr x) := by
  have hsent := s.ptpSend_sent p mtype seq corr x
  refine ⟨hsent.tim, s.ptpSend_variant .., fun q hq => ?_, fun e he => ?_⟩
  · unfold State.fpState State.get
    rw [hsent.words _ (mt List.mem_singleton.mp (fpState_key_ne q p)) (notAlarm_of_lt (fpState_key_lt hq))]
  · rw [hsent.emitted]
    exact List.mem_append_left _ he

theorem State.forwardTo_up (hne : q ≠ p) (hpresent : s.portPresent q = true) (hup : s.fpState q = 3) (seq : Nat) :
    s.forwardTo p seq q = s.ptpSend q 0 seq 0 0 := if_pos ⟨hne, hpresent, hup⟩

theorem State.forwardTo_forwarded (s : State) (p seq q : Nat) : Forwarded s (s.forwardTo p seq q) := by
  unfold State.forwardTo
  split
  · exact s.ptpSend_forwarded ..
  · exact .refl s

theorem State.forwardSync_forwarded (s : State) (p seq : Nat) (qs : List Nat) : Forwarded s (s.forwardSync p seq qs) := by
  induction qs generalizing s with
  | nil => exact .refl s
  | cons q qs ih => exact (s.forwardTo_forwarded p seq q).trans (ih _)

/-- Every other port with its link up among those tried sends the Sync. -/
theorem State.forwardSync_sends {qs : List Nat} (hq : q ∈ qs) (hlt : q < 4) (hne : q ≠ p) (hpresent : s.portPresent q = true)
    (hup : s.fpState q = 3) (seq : Nat) : ptpMessage q 0 seq 0 0 ∈ (s.forwardSync p seq qs).emitted := by
  induction qs generalizing s with
  | nil => cases hq
  | cons r qs ih =>
    have hstep := s.forwardTo_forwarded p seq r
    rcases List.mem_cons.mp hq with rfl | hq
    · have hsent : ptpMessage q 0 seq 0 0 ∈ (s.forwardTo p seq q).emitted := by
        rw [State.forwardTo_up hne hpresent hup, (State.ptpSend_sent ..).emitted]
        exact List.mem_append_right _ (List.mem_singleton.mpr rfl)
      exact (State.forwardSync_forwarded _ p seq qs).emitted _ hsent
    · exact ih hq ((hstep.portPresent q).trans hpresent) ((hstep.link q hlt).trans hup)

/-- The Sync is kept for its Follow_Up. -/
def State.keepSync (s : State) (p seq rx : Nat) : State := s.setPtp p { s.ptp p with sync := some (seq, s.ingress p rx) }

section Taken
variable (hp : h.port < 4) (hfab : s.ptpFab h.port = true) (hign : s.ptpIgnored h = false)
include hp hfab hign

theorem ptpSync_slave (hslave : s.pstate h.port = 3) (rx : Nat) : ptpSync h rx s =
    if s.bit F.TIM_CFG.FAB_MODE then (s.keepSync h.port h.seq rx).forwardSync h.port h.seq (List.range 4) else s.keepSync h.port h.seq rx := by
  unfold ptpSync
  rw [if_neg (by simp [hp, hfab]), if_neg (by simp [hign]), if_neg (not_not.mpr hslave)]
  rfl

theorem exec_ptpSyncReceived_slave (hslave : s.pstate h.port = 3) (rx : Nat) :
    ∃ t, exec (.ptpSyncReceived dt h rx) s = .next t ∧
      t.ptp h.port = { s.ptp h.port with sync := some (h.seq, s.ingress h.port rx) } ∧ (s.bit F.TIM_CFG.FAB_MODE = false → SameWords [] s t) ∧
      (s.bit F.TIM_CFG.FAB_MODE = true → ∀ q, q < 4 → q ≠ h.port → s.portPresent q = true → s.fpState q = 3 →
        .ptp q 0 h.seq 0 0 0 ∈ t.emitted) := by
  have hsync := ptpSync_slave (s := s.elapse dt) hp hfab hign hslave rx
  have hkept : ((s.elapse dt).keepSync h.port h.seq rx).ptp h.port = { s.ptp h.port with sync := some (h.seq, s.ingress h.port rx) } :=
    State.ptp_setPtp_same ..
  refine ⟨_, exec_ptpSyncReceived dt h rx s, ?_⟩
  rw [hsync, State.settle_ptp]
  by_cases hmode : s.bit F.TIM_CFG.FAB_MODE = true
  · have hforward := ((s.elapse dt).keepSync h.port h.seq rx).forwardSync_forwarded h.port h.seq (List.range 4)
    rw [if_pos (show (s.elapse dt).bit F.TIM_CFG.FAB_MODE = true from hmode)]
    refine ⟨(State.ptp_congr (congrArg TimSt.ports hforward.tim) _).trans hkept, fun hfalse => absurd hmode (by simp [hfalse]),
      fun _ q hq hne hpresent hup => ?_⟩
    obtain ⟨l, hl⟩ := State.settle_emitted (s := ((s.elapse dt).keepSync h.port h.seq rx).forwardSync h.port h.seq (List.range 4))
    have hsends := State.forwardSync_sends (s := (s.elapse dt).keepSync h.port h.seq rx) (List.mem_range.mpr hq) hq hne hpresent hup h.seq
    rw [hl]
    exact List.mem_append_left l hsends
  · rw [if_neg (show ¬ (s.elapse dt).bit F.TIM_CFG.FAB_MODE = true from hmode)]
    exact ⟨hkept, fun _ => (SameWords.setPtp (SameWords.refl [] (s.elapse dt)).of_elapse _ _).settle, fun htrue => absurd htrue hmode⟩

end Taken

/-! ### The servo (R341) -/

/-- TIM_OFFSET shows the offset. -/
def State.offsetShown (s : State) (off : Int) : State := (s.seti F.TIM_OFFSET.NS (clampI (-2147483648) 2147483647 (s.shownNs off))).nextFree

/-- The servo's counts after an offset: small ones in a row, and ones past the step threshold. -/
def State.withServo (s : State) (locks past : Nat) : State :=
  { s with tim := { s.tim with inLock := locks, overStep := past, firstOffset := false } }

/-- The clock's rate is steered, and the time counts as set. -/
def State.steered (s : State) : State :=
  ((s.seti F.TIM_ADDEND.ADDEND (((s.free % 6871949 : Nat) : Int) - 3435974)).nextFree).set F.TIM_STAT.UNSET 0

/-- ACQUIRING is LOCKED from the sixteenth small offset in a row. -/
def State.lockedFrom (s : State) (locks : Nat) : State := if s.get F.TIM_STAT.SYNC = 1 ∧ 16 ≤ locks then s.set F.TIM_STAT.SYNC 2 else s

/-- The small offsets in a row with this one. -/
def State.locksWith (s : State) (off : Int) : Nat := if off.natAbs ≤ s.get F.TIM_SERVO.LOCK_TH * 10 * 65536 then s.tim.inLock + 1 else 0

theorem State.servo_steers (hoff : off.natAbs ≤ s.get F.TIM_SERVO.STEP_TH * 1000 * 65536) :
    s.servo off = (((s.offsetShown off).withServo (s.locksWith off) 0).steered).lockedFrom (s.locksWith off) := by
  have hpast : decide ((s.get F.TIM_SERVO.STEP_TH * 1000 * 65536 : Nat) < off.natAbs) = false := decide_eq_false (Nat.not_lt.mpr hoff)
  unfold State.servo State.locksWith
  simp only [hpast, decide_eq_true_eq]
  rfl

theorem State.servo_steps (hoff : s.get F.TIM_SERVO.STEP_TH * 1000 * 65536 < off.natAbs) (hacquiring : s.get F.TIM_STAT.SYNC = 1)
    (hfirst : s.tim.firstOffset = true) :
    s.servo off = (((s.offsetShown off).withServo (s.locksWith off) 0).timeStep (-(s.shownNs off))).lockedFrom (s.locksWith off) := by
  have hpast : decide ((s.get F.TIM_SERVO.STEP_TH * 1000 * 65536 : Nat) < off.natAbs) = true := decide_eq_true hoff
  unfold State.servo State.locksWith
  simp only [hpast, hacquiring, hfirst, decide_eq_true_eq]
  rfl

/-- What follows the count of small offsets writes only TIM_STAT.SYNC. -/
theorem State.lockedFrom_keeps (s : State) (locks : Nat) :
    (s.lockedFrom locks).clock = s.clock ∧ (s.lockedFrom locks).tim = s.tim ∧
      ∀ g : Fld, g.key ≠ R.TIM_STAT ∨ 3 ≤ g.lsb → (s.lockedFrom locks).get g = s.get g := by
  unfold State.lockedFrom
  split
  · exact ⟨rfl, rfl, fun g hg => s.get_set_other _ g 2 (hg.imp_right .inr)⟩
  · exact ⟨rfl, rfl, fun _ _ => rfl⟩

theorem State.lockedFrom_sync (s : State) (locks : Nat) : (s.lockedFrom locks).get F.TIM_STAT.SYNC =
    if s.get F.TIM_STAT.SYNC = 1 ∧ 16 ≤ locks then 2 else s.get F.TIM_STAT.SYNC := by
  unfold State.lockedFrom
  split
  · exact s.get_set_fits _ (by decide) (by decide)
  · rfl

theorem State.offsetShown_get (s : State) (off : Int) {f : Fld} (hf : f.key ≠ R.TIM_OFFSET) : (s.offsetShown off).get f = s.get f :=
  (State.nextFree_get ..).trans (s.get_set_other _ f _ (.inl hf))

theorem State.steered_sync (s : State) : s.steered.get F.TIM_STAT.SYNC = s.get F.TIM_STAT.SYNC := by
  unfold State.steered
  rw [State.get_set_other _ _ _ _ (.inr (.inl (by decide))), State.nextFree_get, State.seti, State.get_set_other _ _ _ _ (.inl (by decide))]

/-- A small offset steers the rate alone: the time runs on and counts as set, and the count of small offsets may lock. -/
structure Steered (off : Int) (s t : State) : Prop where
  clock : t.clock = s.clock
  tim : t.tim = (s.withServo (s.locksWith off) 0).tim
  unset : t.bit F.TIM_STAT.UNSET = false
  sync : t.get F.TIM_STAT.SYNC = if s.get F.TIM_STAT.SYNC = 1 ∧ 16 ≤ s.locksWith off then 2 else s.get F.TIM_STAT.SYNC

theorem State.servo_steered (hoff : off.natAbs ≤ s.get F.TIM_SERVO.STEP_TH * 1000 * 65536) : Steered off s (s.servo off) := by
  have hsync : (((s.offsetShown off).withServo (s.locksWith off) 0).steered).get F.TIM_STAT.SYNC = s.get F.TIM_STAT.SYNC :=
    (State.steered_sync _).trans (s.offsetShown_get off (by decide))
  have hunset : (((s.offsetShown off).withServo (s.locksWith off) 0).steered).bit F.TIM_STAT.UNSET = false := State.bit_set_zero _ _ (by decide)
  have hlocked := (((s.offsetShown off).withServo (s.locksWith off) 0).steered).lockedFrom_sync (s.locksWith off)
  obtain ⟨hclock, htim, hget⟩ := (((s.offsetShown off).withServo (s.locksWith off) 0).steered).lockedFrom_keeps (s.locksWith off)
  rw [State.servo_steers hoff]
  exact ⟨hclock, htim, (State.bit_congr (hget _ (.inr (by decide)))).trans hunset, by rw [hlocked, hsync]⟩

/-- A first offset past the threshold steps module time. -/
theorem State.servo_stepped (hoff : s.get F.TIM_SERVO.STEP_TH * 1000 * 65536 < off.natAbs) (hacquiring : s.get F.TIM_STAT.SYNC = 1)
    (hfirst : s.tim.firstOffset = true) :
    (s.servo off).clock = s.clock.step (-(s.shownNs off)) ∧
      (s.servo off).get F.TIM_STEP_CNT.COUNT = min (s.get F.TIM_STEP_CNT.COUNT + 1) 0xFFFFFFFF ∧ (s.servo off).tim.firstOffset = false := by
  have hstep := State.afterStep_stepped (((s.offsetShown off).withServo (s.locksWith off) 0).withClock (s.clock.step (-(s.shownNs off))))
    ((s.offsetShown off).withServo (s.locksWith off) 0).now
  have hcount : ((s.offsetShown off).withServo (s.locksWith off) 0).get F.TIM_STEP_CNT.COUNT = s.get F.TIM_STEP_CNT.COUNT :=
    s.offsetShown_get off (by decide)
  obtain ⟨hclock, htim, hget⟩ :=
    (((s.offsetShown off).withServo (s.locksWith off) 0).timeStep (-(s.shownNs off))).lockedFrom_keeps (s.locksWith off)
  rw [State.servo_steps hoff hacquiring hfirst]
  refine ⟨hclock.trans hstep.clock, ?_, ?_⟩
  · rw [hget _ (.inl (by decide)), ← hcount]
    exact hstep.count
  · rw [htim]
    exact hstep.first

/-! ### Follow_Up (R341) -/

/-- The Sync that waits on port p is used up. -/
def State.syncDone (s : State) (p : Nat) : State := s.setPtp p { s.ptp p with sync := none }

theorem ptpFollowUp_unmatched (hp : h.port < 4) (hfab : s.ptpFab h.port = true) (hign : s.ptpIgnored h = false)
    (hnone : ∀ x, (s.ptp h.port).sync = some x → x.1 ≠ h.seq) (o : Nat) (corr : Int) (eg : List (Nat × Nat)) :
    ptpFollowUp h o corr eg s = s := by
  unfold ptpFollowUp
  rw [if_neg (by simp [hp, hfab]), if_neg (by simp [hign])]
  split
  · next seq x hsync => exact if_pos (.inl (hnone _ hsync))
  · rfl

section Measured
variable (hp : h.port < 4) (hfab : s.ptpFab h.port = true) (hign : s.ptpIgnored h = false) (hslave : s.pstate h.port = 3) {tm : Int}
  (hsync : (s.ptp h.port).sync = some (h.seq, tm)) (hmode : s.bit F.TIM_CFG.FAB_MODE = false) {o : Nat} {corr : Int}
  (hoff : off = tm * 65536 - ((o : Int) * 65536 + corr + s.appliedDelay h.port))
include hp hfab hign hslave hsync hmode hoff

theorem ptpFollowUp_matched (eg : List (Nat × Nat)) : ptpFollowUp h o corr eg s = (s.syncDone h.port).servo off := by
  unfold ptpFollowUp
  rw [if_neg (by simp [hp, hfab]), if_neg (by simp [hign]), hsync, hoff]
  dsimp only
  rw [if_neg (by simp [hslave]), if_neg]
  · rfl
  · exact fun hc => absurd (hmode.symm.trans hc) (by decide)

theorem exec_ptpFollowUpReceived_small (eg : List (Nat × Nat)) (hsmall : off.natAbs ≤ s.get F.TIM_SERVO.STEP_TH * 1000 * 65536) :
    ∃ t, exec (.ptpFollowUpReceived dt h o corr eg) s = .next t ∧ (t.ptp h.port).sync = none ∧ t.clock = (s.elapse dt).clock ∧
      t.bit F.TIM_STAT.UNSET = false ∧ t.tim.overStep = 0 ∧
      t.tim.inLock = (if off.natAbs ≤ s.get F.TIM_SERVO.LOCK_TH * 10 * 65536 then s.tim.inLock + 1 else 0) ∧
      t.get F.TIM_STAT.SYNC = (if s.get F.TIM_STAT.SYNC = 1 ∧ 16 ≤ t.tim.inLock then 2 else s.get F.TIM_STAT.SYNC) := by
  have hservo := State.servo_steered (s := (s.elapse dt).syncDone h.port) hsmall
  have hdone : ((s.elapse dt).syncDone h.port).ptp h.port = { s.ptp h.port with sync := none } := State.ptp_setPtp_same ..
  refine ⟨_, exec_ptpFollowUpReceived dt h o corr eg s, ?_⟩
  rw [ptpFollowUp_matched (s := s.elapse dt) hp hfab hign hslave hsync hmode hoff eg, State.settle_clock, State.settle_tim,
    State.settle_bit_lt _ (by decide), State.settle_get_lt _ (by decide), State.settle_ptp, State.ptp_congr (congrArg TimSt.ports hservo.tim),
    hservo.tim]
  exact ⟨congrArg PtpPort.sync hdone, hservo.clock, hservo.unset, rfl, rfl, hservo.sync⟩

theorem exec_ptpFollowUpReceived_large (eg : List (Nat × Nat)) (hlarge : s.get F.TIM_SERVO.STEP_TH * 1000 * 65536 < off.natAbs)
    (hacquiring : s.get F.TIM_STAT.SYNC = 1) (hfirst : s.tim.firstOffset = true) (hwhole : off % 65536 = 0) :
    ∃ t, exec (.ptpFollowUpReceived dt h o corr eg) s = .next t ∧ t.clock = (s.elapse dt).clock.step (-(off / 65536)) ∧
      t.get F.TIM_STEP_CNT.COUNT = min (s.get F.TIM_STEP_CNT.COUNT + 1) 0xFFFFFFFF ∧ t.tim.firstOffset = false := by
  have hns : ((s.elapse dt).syncDone h.port).shownNs off = off / 65536 := by simp [State.shownNs, hwhole]
  obtain ⟨hclock, hcount, htook⟩ := State.servo_stepped (s := (s.elapse dt).syncDone h.port) hlarge hacquiring hfirst
  refine ⟨_, exec_ptpFollowUpReceived dt h o corr eg s, ?_⟩
  rw [ptpFollowUp_matched (s := s.elapse dt) hp hfab hign hslave hsync hmode hoff eg, State.settle_clock, State.settle_tim,
    State.settle_get_lt _ (by decide), hclock, hns]
  exact ⟨rfl, hcount, htook⟩

end Measured

/-! ### Link delay (R343) -/

theorem pdelayResp_unmatched (hfab : s.ptpFab h.port = true) (hign : s.ptpIgnored h = false)
    (hnone : ∀ x, (s.ptp h.port).pd = some x → x.1 ≠ h.seq) (t2 t3 rx : Nat) : pdelayResp h t2 t3 rx s = s := by
  unfold pdelayResp
  rw [if_neg (by simp [hfab]), if_neg (by simp [hign])]
  dsimp only
  split
  · next seq x hpd => exact if_neg (hnone _ hpd)
  · rfl

/-- Half the round trip shows as a whole number of ns beside it. -/
theorem State.shownNs_half (s : State) (d : Int) : s.shownNs (d * 32768) = d / 2 ∨ d % 2 = 1 ∧ s.shownNs (d * 32768) = d / 2 + 1 := by
  unfold State.shownNs
  split
  · left; omega
  · rcases Nat.mod_two_eq_zero_or_one s.free with hfree | hfree <;> rw [hfree]
    · left; omega
    · right; omega

/-- The link delay of port p shows, and the exchange is over. -/
def State.delayShown (s : State) (p : Nat) (ns : Int) : State :=
  ((s.seti (F.TIM_PORTn_DELAY.NS p) ns).nextFree).setPtp p { s.ptp p with pd := none }

/-- The slave port's delay shows as the path's. -/
def State.pathShown (s : State) (p : Nat) : State :=
  if s.get F.TIM_STAT.SLAVE_PORT = p then (s.seti F.TIM_PATH.NS (s.shownNs (s.appliedDelay p))).nextFree else s

theorem State.pathShown_keeps (s : State) (p : Nat) :
    (s.pathShown p).tim = s.tim ∧ ∀ g : Fld, g.key ≠ R.TIM_PATH → (s.pathShown p).get g = s.get g := by
  unfold State.pathShown
  split
  · exact ⟨rfl, fun g hg => (State.nextFree_get ..).trans (s.get_set_other _ g _ (.inl hg))⟩
  · exact ⟨rfl, fun _ _ => rfl⟩

theorem pdelayResp_matched (hfab : s.ptpFab h.port = true) (hign : s.ptpIgnored h = false) {t1 : Int}
    (hpd : (s.ptp h.port).pd = some (h.seq, t1)) {d : Int} {t2 t3 rx : Nat} (hd : d = (s.ingress h.port rx - t1) - ((t3 : Int) - (t2 : Int))) :
    pdelayResp h t2 t3 rx s = (s.delayShown h.port (s.shownNs (d * 32768))).pathShown h.port := by
  unfold pdelayResp
  rw [if_neg (by simp [hfab]), if_neg (by simp [hign])]
  dsimp only
  rw [hpd, hd]
  exact if_pos rfl

theorem exec_ptpPdelayRespReceived_takes (hp : h.port < 4) (hfab : s.ptpFab h.port = true) (hign : s.ptpIgnored h = false) {t1 d : Int}
    {t2 t3 rx : Nat} (hpd : (s.ptp h.port).pd = some (h.seq, t1)) (hd : d = (s.ingress h.port rx - t1) - ((t3 : Int) - (t2 : Int)))
    (hlo : -2 ^ 31 ≤ d) (hhi : d < 2 ^ 31) :
    ∃ t, exec (.ptpPdelayRespReceived dt h t2 t3 rx) s = .next t ∧ t.ptp h.port = { s.ptp h.port with pd := none } ∧
      (t.geti (F.TIM_PORTn_DELAY.NS h.port) = d / 2 ∨ d % 2 = 1 ∧ t.geti (F.TIM_PORTn_DELAY.NS h.port) = d / 2 + 1) := by
  have hhalf := (s.elapse dt).shownNs_half d
  have hport : ((s.elapse dt).delayShown h.port ((s.elapse dt).shownNs (d * 32768))).ptp h.port = { s.ptp h.port with pd := none } :=
    State.ptp_setPtp_same ..
  have hshown : ((s.elapse dt).delayShown h.port ((s.elapse dt).shownNs (d * 32768))).geti (F.TIM_PORTn_DELAY.NS h.port) =
      (s.elapse dt).shownNs (d * 32768) := State.geti_seti_same (s.elapse dt) _ (by omega) (by omega)
  obtain ⟨htim, hget⟩ := State.pathShown_keeps ((s.elapse dt).delayShown h.port ((s.elapse dt).shownNs (d * 32768))) h.port
  have hkey : (F.TIM_PORTn_DELAY.NS h.port).key < 0x100000 ∧ (F.TIM_PORTn_DELAY.NS h.port).key ≠ R.TIM_PATH := by
    simp only [R.TIM_PORTn_DELAY, R.TIM_PATH]
    omega
  refine ⟨_, exec_ptpPdelayRespReceived dt h t2 t3 rx s, ?_⟩
  rw [pdelayResp_matched (s := s.elapse dt) hfab hign hpd hd, State.settle_ptp, State.settle_geti_lt _ hkey.1,
    State.ptp_congr (congrArg TimSt.ports htim), State.geti_congr (hget _ hkey.2), hshown]
  exact ⟨hport, hhalf⟩

/-! ### The statement -/

/-- Settles O49: each message by the equation of its own case, from what a port's sending and the choice of a parent leave alone. -/
theorem fabricTimeMessagesAreServedAndTaken : Obligations.FabricTimeMessagesAreServedAndTaken := by
  rintro s dt p h rfl
  refine ⟨fun hp hfab => ⟨fun hign c hc => exec_ptpIgnored hp hfab hign hc, fun hign => ?_, exec_ptpPdelaySend_sends hfab⟩,
    fun hstn => ⟨exec_ptpAnnounceReceived_station hstn, exec_ptpDelayReqReceived_answers hstn⟩,
    fun hserves => ⟨exec_ptpSyncSend_sends hserves, exec_ptpAnnounceSend_sends hserves⟩,
    fun hserves => ⟨fun tx => exec_idle (exec_ptpSyncSend dt h.port tx s) (ptpSyncSend_silent (s := s.elapse dt) hserves tx),
      exec_idle (exec_ptpAnnounceSend dt h.port s) (ptpAnnounceSend_silent (s := s.elapse dt) hserves)⟩,
    exec_followUpTimeout_drops s dt h.port, exec_announceTimeout_forgets⟩
  refine ⟨fun rx hslave => exec_ptpSyncReceived_slave hp hfab hign hslave rx, fun o corr eg tm off hslave hsync hmode hoff => ⟨?_, ?_⟩,
    fun o corr eg hnone => ?_, exec_ptpPdelayReqReceived_answers hfab hign, fun t2 t3 rx t1 d hpd hd hlo hhi => ?_,
    fun t2 t3 rx hnone => ?_, fun a hs hsteps => ⟨?_, ?_⟩, fun a ha => ?_⟩
  · exact exec_ptpFollowUpReceived_small hp hfab hign hslave hsync hmode hoff eg
  · exact exec_ptpFollowUpReceived_large hp hfab hign hslave hsync hmode hoff eg
  · exact exec_idle (exec_ptpFollowUpReceived dt h o corr eg s) (ptpFollowUp_unmatched (s := s.elapse dt) hp hfab hign hnone o corr eg)
  · exact exec_ptpPdelayRespReceived_takes hp hfab hign hpd hd hlo hhi
  · exact exec_idle (exec_ptpPdelayRespReceived dt h t2 t3 rx s) (pdelayResp_unmatched (s := s.elapse dt) hfab hign hnone t2 t3 rx)
  · exact exec_ptpAnnounceReceived_first hp hfab hign hs hsteps
  · exact fun u honce hu => exec_ptpAnnounceReceived_again hp hfab hign hs hsteps honce hu
  · exact exec_idle (exec_ptpAnnounceReceived dt h a s) (ptpAnnounce_own (s := s.elapse dt) hp hfab hign a ha)

end Sys2Proof.Machine
end
